-- ==== Sys2Proof/Word.lean ====
section
/-! DEFINITION.
Words, bytes and the plainest arithmetic on them. -/

namespace Sys2Proof

/-- A 32-bit register word. -/
abbrev Word := BitVec 32
/-- A byte of memory. -/
abbrev Byte := BitVec 8

/-- The `w` bits of `n` from bit `lo` up. -/
def field (n lo w : Nat) : Nat := (n >>> lo) % 2 ^ w

/-- Bit `i` of `n`. -/
def bitAt (n i : Nat) : Bool := n.testBit i

/-- A Bool as a one-bit number. -/
def b2n (b : Bool) : Nat := if b then 1 else 0

/-- `n` with bit `i` set. -/
def setBit (n i : Nat) : Nat := n ||| (1 <<< i)

/-- `n` with bit `i` clear. -/
def clrBit (n i : Nat) : Nat := if n.testBit i then n - (1 <<< i) else n

/-- The bits of `n` that are not set in `m`. -/
def andNot (n m : Nat) : Nat := n ^^^ (n &&& m)

/-- The value of the low `w` bits read as two's complement. -/
def signed (w n : Nat) : Int :=
  let m := n % 2 ^ w
  if m < 2 ^ (w - 1) then (m : Int) else (m : Int) - (2 ^ w : Nat)

/-- An integer wrapped to `w` bits. -/
def wrapInt (w : Nat) (i : Int) : Nat := (i % ((2 ^ w : Nat) : Int)).toNat

/-- `i` clamped to `[lo, hi]`. -/
def clampInt (lo hi i : Int) : Int := if i < lo then lo else if hi < i then hi else i

/-- `n` clamped to `[lo, hi]`. -/
def clampNat (lo hi n : Nat) : Nat := if n < lo then lo else if hi < n then hi else n

/-- Number of set bits among the low `k` bits. -/
def popCount : Nat → Nat → Nat
  | 0, _ => 0
  | k + 1, n => b2n (n.testBit k) + popCount k n

/-- The lowest set bit among bits `i .. i+k-1`. -/
def lowestBit : Nat → Nat → Nat → Option Nat
  | 0, _, _ => none
  | k + 1, i, n => if n.testBit i then some i else lowestBit k (i + 1) n

/-- Big-endian value of a byte string (R41). -/
def ofBE : List Byte → Nat
  | [] => 0
  | b :: t => b.toNat * 256 ^ t.length + ofBE t

/-- Little-endian value of a byte string (R4). -/
def ofLE : List Byte → Nat
  | [] => 0
  | b :: t => b.toNat + 256 * ofLE t

/-- `k` bytes of `n`, little-endian (R4). -/
def toLE : Nat → Nat → List Byte
  | 0, _ => []
  | k + 1, n => BitVec.ofNat 8 n :: toLE k (n / 256)

/-- `k` bytes of `n`, big-endian (R41). -/
def toBE (k n : Nat) : List Byte := (toLE k n).reverse

/-- `k` bytes of `l` from offset `off`, zero where `l` is shorter. -/
def slice (l : List Byte) (off k : Nat) : List Byte :=
  let t := (l.drop off).take k
  t ++ List.replicate (k - t.length) 0

/-- The big-endian field of `k` bytes at `off`. -/
def beAt (l : List Byte) (off k : Nat) : Nat := ofBE (slice l off k)

/-- The little-endian field of `k` bytes at `off`. -/
def leAt (l : List Byte) (off k : Nat) : Nat := ofLE (slice l off k)

/-- `l` with entry `i` replaced, unchanged where `i` is past the end. -/
def updAt {α : Type} (l : List α) (i : Nat) (f : α → α) : List α :=
  match l, i with
  | [], _ => []
  | a :: t, 0 => f a :: t
  | a :: t, i + 1 => a :: updAt t i f

/-- One step of CRC-32C on one bit (R49). -/
def crcBit (c : Nat) : Nat := if c % 2 = 1 then (c / 2) ^^^ 0x82F63B78 else c / 2

/-- CRC-32C over one byte (R49). -/
def crcByte (c : Nat) (b : Byte) : Nat :=
  crcBit (crcBit (crcBit (crcBit (crcBit (crcBit (crcBit (crcBit (c ^^^ b.toNat))))))))

/-- CRC-32C of a byte string (R49). -/
def crc32c (l : List Byte) : Nat := (l.foldl crcByte 0xFFFFFFFF) ^^^ 0xFFFFFFFF

/-! ### Sparse maps in canonical form -/

/-- A sparse map: keys strictly rising, no entry equal to the default. -/
abbrev SMap (α : Type) := List (Nat × α)

/-- The value at key `k`, `d` where `k` is not listed. -/
def SMap.get {α : Type} (d : α) : SMap α → Nat → α
  | [], _ => d
  | (a, v) :: t, k => if a = k then v else if k < a then d else SMap.get d t k

/-- The map with `v` at key `k`; a value equal to the default is not listed. -/
def SMap.set {α : Type} [DecidableEq α] (d : α) : SMap α → Nat → α → SMap α
  | [], k, v => if v = d then [] else [(k, v)]
  | (a, u) :: t, k, v =>
    if a = k then (if v = d then t else (k, v) :: t)
    else if k < a then (if v = d then (a, u) :: t else (k, v) :: (a, u) :: t)
    else (a, u) :: SMap.set d t k v

/-- Keys strictly rising from `lo` on, and no entry equal to the default. -/
def SMap.wfFrom {α : Type} [DecidableEq α] (d : α) : Nat → SMap α → Bool
  | _, [] => true
  | lo, (a, v) :: t => decide (lo ≤ a) && decide (v ≠ d) && SMap.wfFrom d (a + 1) t

/-- The canonical form. -/
def SMap.wf {α : Type} [DecidableEq α] (d : α) (m : SMap α) : Bool := SMap.wfFrom d 0 m

/-- Each entry's value passed through `f`, entries that become the default dropped. -/
def SMap.mapDrop {α : Type} [DecidableEq α] (d : α) (f : Nat → α → α) : SMap α → SMap α
  | [] => []
  | (a, v) :: t => if f a v = d then SMap.mapDrop d f t else (a, f a v) :: SMap.mapDrop d f t

end Sys2Proof
end

