-- ==== Sys2Proof/Syntax.lean ====
section
/-! DEFINITION.
The commands of the block: one constructor per row of the opcode table, with the operands that the
row's rules name, and the operand types. -/

namespace Sys2Proof

/-- Which initiator acts: the bay identity it carries (R136) and its INIT and INST codes of
BAYn_VIOL_ADDR_HI (R161): 0 core, 1 Reel engine, 2 QMGR, 3 Halvik, 4 debug, 5 Trestle, 6 peripheral. -/
structure Init where
  bay : Nat
  kind : Nat
  inst : Nat
  deriving DecidableEq, Repr

/-- The levels on the strap pins (R86). -/
structure Straps where
  bootSrc : Nat
  stackPos : Nat
  pairId : Nat
  deriving DecidableEq, Repr

/-- A Halvik command as it reaches the executive (R119): channel 0 to 7 for the page of that bay,
8 for HIF-SPI and 9 for PCIe; then ORIGIN, TAG, and the payload words. -/
structure HReq where
  ch : Nat
  origin : Nat
  tag : Nat
  payload : List Word
  deriving DecidableEq, Repr


/-- What a running image does next (R292, R309 to R352).  What a protocol's own standard decides is the
operand: the outcome of an image-specific command, an image's events, counters and configuration. -/
inductive EngAct where
  /-- Signals health (R299). -/
  | health
  /-- Takes the oldest command of its CMD_MBX (R309 to R314). -/
  | command
  /-- Ends an image-specific command: RESULT, 0 for DONE, DETAIL and VALUE (R312, R315). -/
  | complete (origin tag res detail value : Nat)
  /-- Raises an image event (R317). -/
  | event (code detail value : Nat)
  /-- Counts `n` in counter `i` (R327). -/
  | count (i n : Nat)
  /-- Begins a protocol cycle (R321). -/
  | cycle
  /-- Reads the configuration buffer that arrived on its CFG queue (R318, R323). -/
  | config (data : List Byte)
  /-- Reports a fatal error of its own (R351). -/
  | fatal (detail : Nat)
  /-- Writes the held replies that fit (R313). -/
  | send
  deriving DecidableEq, Repr

/-- What one capacitive scan measures (R775, R777, R785, R788): RAW of each key, the noise at the current and at the next
frequency, RAW of each SNS channel (none where its oscillator did not complete), the die temperature. -/
structure CapScan where
  keys : List Nat
  noise : Nat
  noiseNext : Nat
  sns : List (Option Nat)
  temp : Int
  deriving DecidableEq, Repr

/-- How an inventory slot ends (R806, R808, R809): empty, a collision, a CRC error, or a reply with the bits, bytes and
level of its identifier. -/
inductive TagOut where
  | empty
  | collision
  | crc
  | reply (bits : Nat) (id : List Byte) (level : Nat)
  deriving DecidableEq, Repr

/-- A row or line that failed verification at zeroization (R221): kind 0 a bank row, 1 a Reel local-memory row, 2 an L2 line;
its bank or engine; the row or line; and how many spare rows failed their read-back before one passed (R219). -/
structure ZeroFind where
  kind : Nat
  unit : Nat
  row : Nat
  bad : Nat
  deriving DecidableEq, Repr

/-- A HIF-SPI frame as it arrives (R836): opcode, ADDR, LEN and DATA; whether its CRC or HCRC matches, and whether it is
complete. -/
structure HFrame where
  op : Nat
  addr : Nat
  len : Nat
  data : List Byte
  crcOk : Bool
  whole : Bool
  deriving DecidableEq, Repr


/-- What a transfer moves (R144, R145, R210): a read of a number of bytes, a write, the next part of a QMGR copy, the
write-back of a dirty L2 line, or bytes whose effect another command carries. -/
inductive XferOp where
  | read (n : Nat)
  | write (d : List Byte)
  | copy (q e idx : Nat)
  | writeBack
  | counted
  deriving DecidableEq, Repr

/-- A transfer that competes for a wheel slot (R144): its initiator and address; the errors that its reads find, as (64-bit
word within the transfer, 1 single-bit or 2 uncorrectable); what PCIe host memory answers, none without a completion; and
the slots for which it has competed. -/
structure Xfer where
  by_ : Init
  addr : Nat
  op : XferOp
  ecc : List (Nat × Nat)
  host : Option (List Byte)
  waited : Nat
  deriving DecidableEq, Repr

/-- What a retired instruction does beyond its next pc (R276).  Registers 0 to 31 are x, 32 to 63 f.  A value that the
RISC-V standard computes from registers is the operand. -/
inductive CoreAct where
  /-- Register results, with the accrued exception flags they raise. -/
  | compute (dst value flags : Nat)
  | load (dst bytes : Nat) (sext : Bool) (va pa : Nat)
  | store (bytes value va pa : Nat)
  | lr (dst bytes va pa : Nat)
  | sc (dst bytes value va pa : Nat)
  /-- `op`: 0 swap, 1 add, 2 xor, 3 and, 4 or, 5 min, 6 max, 7 minu, 8 maxu. -/
  | amo (op dst bytes value va pa : Nat)
  /-- `op`: 0 read, 1 write, 2 set, 3 clear. -/
  | csr (op addr dst value : Nat)
  /-- An exception that the standard raises: page and PMP faults, ECALL, EBREAK, an illegal instruction. -/
  | trap (cause tval : Nat)
  /-- A pending and enabled interrupt is taken in place of the instruction. -/
  | interrupt (code : Nat)
  | mret
  | sret
  | wfi
  /-- FENCE, FENCE.I and SFENCE.VMA. -/
  | fence
  deriving DecidableEq, Repr

/-- What goes wrong around an instruction (R215, R285, R289, R306): nothing; a lockstep mismatch of an item; an L1 parity
error in a line of the instruction or data cache; an L2 error, corrected, in a clean line or in a dirty line, with its
RESOURCE and DETAIL words; a trigger that matches. -/
inductive CoreErr where
  | fine
  | mismatch (item : Nat)
  | parity (data : Bool) (line : Nat)
  | l2 (kind res detail : Nat)
  | trigger (k : Nat)
  deriving DecidableEq, Repr

/-- An instruction of a core: the physical address it is fetched from, the pc after it, how often each event of R276
occurs, what goes wrong, the ECC errors and host data of its access, and its effect. -/
structure CoreStep where
  fetch : Nat
  next : Nat
  counts : List Nat
  err : CoreErr
  ecc : List (Nat × Nat)
  host : Option (List Byte)
  act : CoreAct
  deriving DecidableEq, Repr

/-- What a debugger does (R289 to R291): through the debug module, on the hart of an even or single core. -/
inductive DebugAct where
  | dmactive (on : Bool)
  | halt (h : Nat)
  | resume (h : Nat) (step : Bool)
  | haltOnReset (h : Nat) (on : Bool)
  /-- Abstract register access, by the register numbers of the debug specification. -/
  | readReg (h r : Nat)
  | writeReg (h r value : Nat)
  | progbuf (k : Nat) (w : Word)
  /-- The program buffer runs, as the instructions it holds. -/
  | run (h : Nat) (l : List CoreStep)
  /-- A trigger: the accesses it matches (0 off, 1 execute, 2 store, 4 load), whether it halts, and the value compared. -/
  | trigger (h k kinds : Nat) (halts : Bool) (value : Nat)
  | clearErr
  | readData
  | idcode
  /-- dmstatus of the selected hart. -/
  | status (h : Nat)
  /-- The challenge is read, with the nonce that the device draws. -/
  | challenge (nonce : List Byte)
  deriving DecidableEq, Repr

/-- The commands.  Each constructor's text is the row's summary in the opcode table. -/
inductive Instr where
  /-- POWER_ON_RESET: PORn low or VDD_AO falling below its valid level resets the whole device, always-on domain included, and the straps are latched again on the rising edge of PORn. (R181) -/
  | powerOnReset (straps : Straps) (osc : Bool)
  /-- RESETN_LOW: A low pulse on RESETn of 1 µs or more starts a device reset and relatches the straps. (R182) -/
  | resetnLow (ns : Nat) (straps : Straps) (osc : Bool)
  /-- SYS_DEV_RST: BAY0 writes 0x0000_A5C3 to SYS_DEV_RST and the device runs a device reset with SOFT set. (R181) -/
  | sysDevRst (by_ : Init) (key : Word)
  /-- SYSTEM_PLL_LOCK: The system PLL locks, the five clock domains start aligned and zeroization begins. (R171) -/
  | systemPllLock
  /-- ZEROIZATION_END: Device zeroization of banks, Reel local memories and L2 completes, the remap tables are loaded and the boot ROM starts. (R89) -/
  | zeroizationEnd (finds : List ZeroFind)
  /-- IMAGE_LOAD_DONE: An Enrak image read and check completes and the engine runs, or the load fails and the engine stays held. (R295) -/
  | imageLoadDone (e : Nat)
  /-- BAY_RELEASE: A configured bay whose engines all run its images is released and its cores start at ENTRY. (R91) -/
  | bayRelease (b : Nat)
  /-- REFERENCE_LOSS: The reference monitor counts an out-of-range number of edges and the always-on domain parks the pins and holds the device in reset. (R178) -/
  | referenceLoss (edges : Nat)
  /-- PLL_UNLOCK: The system PLL reports loss of lock and the device is parked and held in reset with PLL_LOSS set. (R178) -/
  | pllUnlock
  /-- REFERENCE_GOOD_RESTART: After 50 consecutive good reference windows the device restarts the PLL and runs a device reset. (R179) -/
  | referenceGoodRestart
  /-- CORE_UNDER_VOLTAGE: VDD_CORE below 0.72 V for more than 1 µs parks the pins and holds the device in reset with CORE_UV set. (R180) -/
  | coreUnderVoltage
  /-- RAIL_UNDER_VOLTAGE: VDD_SER or VDD_1V8 below its detector level for more than 1 µs triggers the actions of R179 with CORE_UV set. (R861) -/
  | railUnderVoltage (rail : Nat)
  /-- SUPPLY_GOOD_RESTART: After the monitored rail has been good for 100 µs the device restarts. (R180) -/
  | supplyGoodRestart (rail : Nat)
  /-- IO_RAIL_LOW: A VDDIO group, VDD_3V3 or VDDA_3V3 below its minimum for 1 µs puts its pins and blocks into the degraded state of R857. (R857) -/
  | ioRailLow (rail : Nat)
  /-- IO_RAIL_RESTORED: The effect of a low I/O or analog rail ends after the rail has held its minimum for 100 µs. (R857) -/
  | ioRailRestored (rail levels : Nat)
  /-- LPO_CALIBRATION: Every 65,536 LPO cycles the device counts reference cycles into SYS_LPO_CAL and checks the LPO tolerance. (R177) -/
  | lpoCalibration (count : Nat)
  /-- LANE_PLL_LOCK: A lane PLL locks after being started and its LANE_LOCK bit is set. (R174) -/
  | lanePllLock (l : Nat)
  /-- LANE_PLL_UNLOCK: A lane PLL loses lock and raises cause 0x0403 against the bay that owns the lane's function. (R179) -/
  | lanePllUnlock (l : Nat)
  /-- DOZE_ENTER: All owned cores are in WFI with no pending interrupt and CORE_CLK and L2 are gated. (R187) -/
  | dozeEnter
  /-- DOZE_EXIT: An interrupt pends at a core and CORE_CLK is ungated within 2 ns. (R187) -/
  | dozeExit
  /-- SLEEP_REQUEST: BAY0 writes REQ 1, the refusal conditions are checked and SLEEP entry starts with BUSY set. (R189) -/
  | sleepRequest (by_ : Init)
  /-- SLEEP_DRAINED: Operations past their commit point have drained, pins park, lanes idle and cores stop. (R189) -/
  | sleepDrained
  /-- SLEEP_COMMIT: One microsecond after the drain the system PLL stops and the clock domains stop. (R189) -/
  | sleepCommit
  /-- SLEEP_RETENTION: Memories enter retention and BUSY clears. (R189) -/
  | sleepRetention
  /-- OFF_REQUEST: BAY0 writes REQ 2, the refusal conditions are checked and the device waits for any NVM write to finish. (R193) -/
  | offRequest (by_ : Init)
  /-- OFF_COMMIT: The device parks every pin, and 10 µs later drives PWR_EN low, which is the commit point of OFF entry. (R193) -/
  | offCommit
  /-- WAKEN_FALL: A falling edge on WAKEn is registered as a wake event. (R191) -/
  | wakenFall
  /-- WAKE_PIN_EDGE: The selected edge on an enabled GPIO-input wake pin is registered as a wake event. (R200) -/
  | wakePinEdge (p : Nat) (rising : Bool)
  /-- WAKE_TIMER_EXPIRY: The wake timer counting in SLEEP or OFF reaches zero and registers a wake event. (R201) -/
  | wakeTimerExpiry
  /-- WAKE_FROM_SLEEP: A registered wake event in SLEEP takes SRAM out of retention and starts the system PLL. (R192) -/
  | wakeFromSleep (lpo : Nat)
  /-- WAKE_PLL_LOCK: After wake the PLL locks, steady time resumes and pins, cores and lanes restart. (R192) -/
  | wakePllLock
  /-- WAKE_PLL_TIMEOUT: The PLL has not locked 200 µs after wake and the device runs a device reset with PLL_LOSS set. (R192) -/
  | wakePllTimeout
  /-- WAKE_FROM_OFF: A wake event in OFF raises PWR_EN and waits for VDD_CORE. (R196) -/
  | wakeFromOff (lpo : Nat)
  /-- CORE_SUPPLY_GOOD: VDD_CORE is reported good after wake from OFF and the SETTLE interval starts. (R196) -/
  | coreSupplyGood
  /-- SETTLE_EXPIRY: SETTLE × 100 µs elapse after VDD_CORE is good and the PLL starts. (R196) -/
  | settleExpiry
  /-- CORE_SUPPLY_TIMEOUT: VDD_CORE is not good within 100 ms of PWR_EN rising and the device returns to OFF. (R196) -/
  | coreSupplyTimeout
  /-- QUERY: Halvik returns the running CONFIG_ID and slot states. (R121) -/
  | query (r : HReq)
  /-- ABORT: Halvik registers an abort of an abortable command of the channel's own origin, or fails it with NOT_ABORTABLE. (R124) -/
  | halvikAbort (r : HReq)
  /-- NONCE: Halvik issues a fresh 16-byte nonce for one signed command. (R96) -/
  | nonce (r : HReq)
  /-- BS_LOAD: A host-pushed bitstream is validated and, if it passes, applied and booted. (R103) -/
  | bsLoad (r : HReq)
  /-- SLOT_OPEN: A non-running NVM slot is set to WRITING with its TOTAL_LEN. (R104) -/
  | slotOpen (r : HReq) (nvm : Nat)
  /-- SLOT_WRITE: Bytes are copied into the open slot at the named offset. (R105) -/
  | slotWrite (r : HReq) (nvm : Nat)
  /-- SLOT_CLOSE: The stored bitstream is fully checked and the slot becomes TRIAL or FAILED. (R106) -/
  | slotClose (r : HReq) (nvm : Nat)
  /-- SLOT_COMMIT: A trial slot becomes VALID and PREFERRED before its confirm timer expires. (R101) -/
  | slotCommit (r : HReq) (nvm : Nat)
  /-- SLOT_ERASE: Halvik erases the named slot. (R121) -/
  | slotErase (r : HReq) (nvm : Nat)
  /-- CONFIRM_TIMER_EXPIRY: The trial confirm timer expires without SLOT_COMMIT and Halvik issues a device reset. (R101) -/
  | confirmTimerExpiry
  /-- DELTA_APPLY: A bay delta is validated against the running configuration and its prepare phase loads the new engines' images. (R108) -/
  | deltaApply (r : HReq)
  /-- DELTA_SWAP: On the swap edge the target bay is reset, the delta's sections take effect and the bay is released. (R109) -/
  | deltaSwap
  /-- DELTA_COMMIT: The target bay becomes ready, the running CONFIG_ID changes and added grants open. (R110) -/
  | deltaCommit
  /-- DELTA_ROLLBACK: READY_MS expires after the swap and Halvik restores the bay's previous configuration. (R111) -/
  | deltaRollback
  /-- DELTA_DEFER_TIMEOUT: SUP has not returned to NORMAL within READY_MS of the prepare phase and DELTA_APPLY fails with nothing swapped. (R128) -/
  | deltaDeferTimeout
  /-- BAY_READY: A bay, or BAY0 on its behalf, declares readiness after a delta swap. (R110) -/
  | bayReady (r : HReq)
  /-- IMAGE_LOAD: A host-sourced image for an engine in WAIT_HOST or LOAD_FAILED is read and checked. (R298) -/
  | imageLoad (r : HReq)
  /-- KEY_PROVISION: A key hash, and optionally an AES key, is programmed into an OTP slot. (R96) -/
  | keyProvision (r : HReq)
  /-- KEY_REVOKE: A key-hash slot is revoked unless that would leave no usable slot. (R97) -/
  | keyRevoke (r : HReq)
  /-- SECVER_RAISE: A new security-version floor is written into the next OTP floor word. (R95) -/
  | secverRaise (r : HReq)
  /-- BOOT_ONCE: The device resets and loads the named slot once, whatever its PREFERRED bit. (R123) -/
  | bootOnce (r : HReq)
  /-- CPL_TAIL: Software advances the completion tail and any held completion is written to the ring. (R118) -/
  | cplTail (by_ : Init) (b tail : Nat)
  /-- SELF_RST: A bay writes SELF_RST and resets itself. (R154) -/
  | selfRst (by_ : Init) (b : Nat)
  /-- RST: BAY0 writes RST and resets the named bay. (R154) -/
  | bayRst (by_ : Init) (b : Nat)
  /-- STOP: BAY0 writes STOP and the bay is held in STOPPED with pins parked and contents kept. (R905) -/
  | bayStop (by_ : Init) (b : Nat)
  /-- BAY_START: BAY0 writes START and a STOPPED bay goes through a bay reset. (R153) -/
  | bayStart (by_ : Init) (b : Nat)
  /-- BAY_RESET: A registered bay reset stops new requests, parks pins and resets the bay's cores, engines and peripherals. (R155) -/
  | bayReset (b : Nat)
  /-- BANK_ZEROING_END: Bank zeroing of the reset bay ends and the bay becomes HELD. (R155) -/
  | bankZeroingEnd (b : Nat)
  /-- WDT_KICK: A write to BAYn_WDT_KICK restarts the watchdog or, with a wrong key, resets the bay. (R157) -/
  | wdtKick (by_ : Init) (b : Nat) (key : Word)
  /-- WDT_WARNING: The bay's watchdog falls to one quarter of its period and local bit 5 pends. (R148) -/
  | wdtWarning (b : Nat)
  /-- WDT_EXPIRY: The bay's watchdog expires and the bay is reset with cause 0x0C05. (R158) -/
  | wdtExpiry (b : Nat)
  /-- CORE_INSTRUCTION: A core retires one RISC-V instruction, including any load, store, fetch or CSR access it makes. (R276) -/
  | coreInstruction (c : Nat) (x : CoreStep)
  /-- FABRIC_TRANSFER: A wheel slot serves one pending transfer of up to 64 bytes, checked against ownership. (R144) -/
  | fabricTransfer (pos : Nat) (pend : List Xfer)
  /-- ECC_WRITEBACK: The corrected word is written back to the array in the next free array cycle of the bank. (R211) -/
  | eccWriteback (a : Nat)
  /-- MTIMECMP_REACHED: Steady time reaches MTIMECMP and MTIP pends at the core. (R281) -/
  | mtimecmpReached (c : Nat)
  /-- MIPI: A write to MIPI sets MSIP on each named core of the writer's bay. (R283) -/
  | mipi (c v : Nat)
  /-- MSTLATCH: A write of GO latches mcycle and steady time on the next FAB_CLK edge. (R287) -/
  | mstlatch (c v : Nat)
  /-- MFINJ: A core requests a fault injection through FLT, limited to its own bay's resources. (R288) -/
  | mfinj (c v : Nat)
  /-- DEBUG_AUTHDATA: A debugger writes an authentication response that, if valid, authenticates the harts of the named bays. (R290) -/
  | debugAuthdata (resp : List Word)
  /-- JTAG_TRST: JTAG_TRSTn low resets the debug transport and ends debug authentication. (R185) -/
  | jtagTrst
  /-- RESTART: The owning bay holds an engine, zeroes its local memory and reloads its image. (R300) -/
  | restart (by_ : Init) (e : Nat)
  /-- ENGINE_HEALTH_MISSED: A running image has not signalled health for over 1 ms and cause 0x3001 is raised. (R299) -/
  | engineHealthMissed (e : Nat)
  /-- ENGINE_BODY_CHECK: Every 10 ms the health monitor recomputes the body CRC and raises cause 0x3003 on a change. (R299) -/
  | engineBodyCheck (e block : Nat)
  /-- ENGINE_TRAP: A Reel engine takes a trap and cause 0x3002 is raised. (R305) -/
  | engineTrap (e why : Nat)
  /-- RETEST_START: A waiting report's retest starts when a retest slot and an interval free of the bay's windows are available. (R253) -/
  | retestStart (k : Nat)
  /-- RETEST_END: A retest completes and FLT sets the verdict, takes the repair, logs and notifies. (R249) -/
  | retestEnd (k : Nat) (pass : Bool) (aux nvm : Nat)
  /-- RETEST_INTERVAL_TIMEOUT: No free interval comes within 100 basic cycles and the verdict is set without a retest. (R255) -/
  | retestIntervalTimeout (k : Nat)
  /-- LOG_BUCKET_REFILL: The log bucket refills at 8 entries per second. (R262) -/
  | logBucketRefill
  /-- FLTN_NTF_POP: A write of POP removes the oldest notification from the bay's queue. (R271) -/
  | fltnNtfPop (by_ : Init) (b : Nat)
  /-- FLT_INJ_GO: BAY0 starts a fault injection in REPORT, FORCE or CORRUPT mode. (R265) -/
  | fltInjGo (by_ : Init)
  /-- ROW_TEST_START: Every MTEST_INT the test engine reads the next row into the shadow buffer. (R216) -/
  | rowTestStart (found : List (Nat × Nat))
  /-- ROW_TEST_SWITCHOVER: Eighty nanoseconds after the start, foreground accesses to the row are served from the shadow. (R216) -/
  | rowTestSwitchover
  /-- ROW_TEST_END: The March test ends, the shadow is written back and both verdicts are taken. (R218) -/
  | rowTestEnd (march back : Bool)
  /-- NVM_PG_CMD: BAY0 starts a logical page write of 4,096 bytes from its buffer. (R225) -/
  | nvmPgCmd (by_ : Init) (lp : Nat) (go : Bool)
  /-- NVM_PAGE_COMMIT: The verified write of TRL_CRC commits the page and the window moves to the new copy. (R225) -/
  | nvmPageCommit (lp verify off : Nat)
  /-- TX_DATA: A side appends a word to its TX queue. (R354) -/
  | txData (by_ : Init) (m d : Nat) (w : Word)
  /-- TX_LAST: A side appends the last word and completes a message. (R354) -/
  | txLast (by_ : Init) (m d : Nat) (w : Word)
  /-- DB: A side rings the doorbell, which is delivered only after a newly completed message. (R357) -/
  | mbxDb (by_ : Init) (m d : Nat)
  /-- RECALL: A side recalls its newest pending message, which ends ABORTED or DONE with ABORT_LATE. (R360) -/
  | recall (by_ : Init) (m d : Nat)
  /-- RX_DATA: A read pops the oldest word of the oldest complete message. (R355) -/
  | rxData (by_ : Init) (m d : Nat)
  /-- BOUND_MESSAGE_ACCEPT: The far device accepts a bound message once its queue has room, and the local message ends DONE. (R362) -/
  | boundMessageAccept (m : Nat)
  /-- BOUND_MESSAGE_REFUSED: The far device refuses a bound message, which ends FAILED with MBX_REFUSED. (R363) -/
  | boundMessageRefused (m why : Nat)
  /-- POST: Software advances POST, or the write is ignored as an overrun. (R368) -/
  | queuePost (by_ : Init) (q e v : Nat)
  /-- DESCRIPTOR_FETCH: The device fetches the descriptor at FETCH once a completion entry, quota and ungated end allow it. (R368) -/
  | descriptorFetch (q e : Nat)
  /-- DESCRIPTOR_COMPLETION: After every byte has moved, the completion entry is written and HEAD advances. (R372) -/
  | descriptorCompletion (q e : Nat)
  /-- COMPLETION_RING_WAIT: A fetch blocked only by a full completion ring for 10 ms raises cause 0x1403. (R375) -/
  | completionRingWait (q e : Nat)
  /-- QUEUE_EN: Writing EN enables an end with counters reset, or disables it, aborting uncommitted descriptors. (R377) -/
  | queueEn (by_ : Init) (q e : Nat) (en : Bool)
  /-- QUEUE_ABORT: A write of GO with an index aborts that descriptor before or after its commit point. (R378) -/
  | queueAbort (by_ : Init) (q e idx : Nat)
  /-- STEADY_HALFWRAP: Bit 31 of steady time changes and every configured bay's TIME_HALFWRAP bit is set. (R401) -/
  | steadyHalfwrap
  /-- TIME_STEADY_LO: A read of TIME_STEADY_LO latches steady and traceable time for the reading initiator. (R424) -/
  | timeSteadyLo (by_ : Init)
  /-- TIME_SRV_RATE: A write of the rate hook sets ADJ from the next edge, clamped to ±500 ppm. (R399) -/
  | timeSrvRate (by_ : Init) (w : Word)
  /-- TIME_SRV_CORR: A write of TIME_SRV_CORR_HI submits a correction that sets, slews, steps, holds or is stored. (R409) -/
  | timeSrvCorr (by_ : Init) (w : Word)
  /-- SLEW_END: A slew of the offset has been wholly applied and stops. (R407) -/
  | slewEnd
  /-- TIME_SRC_TIMEOUT: No correction arrives within TIME_SRC_TIMEOUT, SRC_OK clears and the state becomes FREERUN. (R410) -/
  | timeSrcTimeout
  /-- STEP: BAY0 steps traceable time by AMT and increments the epoch. (R411) -/
  | timeStep (by_ : Init)
  /-- SLEW: BAY0 slews traceable time by AMT, leaving HOLD. (R411) -/
  | timeSlew (by_ : Init)
  /-- SET: BAY0 sets traceable time to AMT from INVALID. (R411) -/
  | timeSet (by_ : Init)
  /-- JOURNAL_PERIODIC: Steady time crosses a whole second and a PERIODIC journal entry is written. (R414) -/
  | journalPeriodic
  /-- STEADY_COUNTER_MISMATCH: The duplicate steady counter differs from the first and cause 0x1C05 is raised. (R431) -/
  | steadyCounterMismatch (x : Nat)
  /-- TEV_ARM: A write of TEVn_TGT_HI arms the time-event output. (R416) -/
  | tevArm (by_ : Init) (n : Nat) (hi : Word)
  /-- TEV_FIRE: The base reaches the target and the output fires its pulse and records the fire. (R417) -/
  | tevFire (n : Nat)
  /-- TEV_PULSE_END: The TEV pulse ends after WIDTH ns. (R417) -/
  | tevPulseEnd (n : Nat)
  /-- TEV_DISARM: EN written 0 disarms the output on the next edge. (R420) -/
  | tevDisarm (by_ : Init) (n : Nat)
  /-- TCAP_EDGE: A selected edge at a capture input is stamped and stored, or dropped on overrun. (R421) -/
  | tcapEdge (n : Nat) (rise : Bool) (stamp : Nat)
  /-- TCAP_STAMP: A read of TCAPn_STAMP pops the oldest stored stamp. (R421) -/
  | tcapStamp (by_ : Init) (n : Nat)
  /-- CYCLE_START: Context time reaches a basic-cycle start and the context enters the next cycle. (R435) -/
  | cycleStart (n : Nat)
  /-- WINDOW_START: A window opens on a scheduled port and fixes its batch and permitted senders. (R437) -/
  | windowStart (n w busy : Nat)
  /-- WINDOW_END: A window ends, raising overrun, late-frame, missing-copy or reference-lost findings. (R443) -/
  | windowEnd (n w overA overB : Nat)
  /-- COMMON_IO_INSTANT: All latches and samplers bound to the instant act on one FAB_CLK edge. (R447) -/
  | commonIoInstant (n k : Nat)
  /-- TRIM_REQ: A signed trim replaces any remaining trim of the context's phase offset. (R449) -/
  | trimReq (by_ : Init) (n v : Nat)
  /-- TRIM_DONE: The whole trim has been slewed into the phase offset. (R449) -/
  | trimDone (n : Nat)
  /-- ETH_EN: A write of EN starts link acquisition, or stops the port. (R504) -/
  | ethEn (by_ : Init) (n : Nat) (en : Bool)
  /-- ETH_LINK_CHANGE: The port's link goes up or down and LINK_CHG pends. (R468) -/
  | ethLinkChange (n : Nat) (up : Bool) (inband : Nat)
  /-- PHY_POLL: Every POLL_MS the MDIO controller reads the PHY's link bit. (R468) -/
  | phyPoll (n reg : Nat)
  /-- MDIO_GO: An MDIO frame of the selected operation is started. (R469) -/
  | mdioGo (by_ : Init) (n phy reg op wdata : Nat)
  /-- MDIO_DONE: The MDIO frame ends and BUSY clears with any read data. (R469) -/
  | mdioDone (n data : Nat)
  /-- ETH_FRAME_READY: A transmit frame's last byte reaches transmit memory and the frame is ready. (R473) -/
  | ethFrameReady (n k : Nat) (ecc : Option Nat)
  /-- ETH_TX_FRAME_START: At a start opportunity the highest eligible queue's head frame starts; this is its commit point. (R474) -/
  | ethTxFrameStart (n : Nat)
  /-- ETH_TX_FRAME_DONE: The last FCS bit is sent and the descriptor completes with its stamp. (R477) -/
  | ethTxFrameDone (n : Nat) (ecc : Option Nat)
  /-- ETH_RX_FRAME: A received frame passes its FCS check, is classified and delivered, or is discarded. (R480) -/
  | ethRxFrame (n : Nat) (d : List Byte) (at_ : Nat) (good pcs full : Bool) (ecc : Option Nat)
  /-- ETHN_PTPF_INFO: A read of ETHn_PTPF_INFO pops the oldest event FIFO entry. (R483) -/
  | ethnPtpfInfo (by_ : Init) (n : Nat)
  /-- PRP_ENTRY_EXPIRY: A duplicate-table entry expires and, if seen on one LAN only, raises the other LAN's missing count. (R488) -/
  | prpEntryExpiry (n sa seq : Nat)
  /-- PRP_MISS_INTERVAL: At the end of each 1 s interval cause 0x2405 is raised for a LAN whose missing count rose by MISS_LIMIT. (R488) -/
  | prpMissInterval (n : Nat)
  /-- PRP_SUPERVISION_SEND: Every SUP_INTERVAL the pair sends a supervision frame on both LANs. (R489) -/
  | prpSupervisionSend (n : Nat)
  /-- FCS_ERROR_INTERVAL: At the end of each 1 s interval cause 0x2401 is raised if FCS errors exceed one in a million. (R498) -/
  | fcsErrorInterval (n : Nat)
  /-- BLOCK_LOCK_LOSS: Block lock or synchronization is lost for more than 1 ms while LINK was 1 and cause 0x2402 is raised. (R498) -/
  | blockLockLoss (n : Nat)
  /-- CAN_EN: A write of EN checks the bit timing and starts integration or sets TIMING_ERR. (R509) -/
  | canEn (by_ : Init) (n : Nat) (en : Bool)
  /-- CAN_INTEGRATION_DONE: Eleven consecutive recessive bits put the controller in error active. (R507) -/
  | canIntegrationDone (n : Nat)
  /-- TXREQ: A write of TXREQ requests TX buffers, failing invalid ones at once. (R516) -/
  | txreq (by_ : Init) (n mask : Nat)
  /-- TXABORT: A write of TXABORT aborts a requested buffer or leaves the abort pending. (R519) -/
  | txabort (by_ : Init) (n mask : Nat)
  /-- CAN_FRAME_START: The controller drives start of frame for the winning buffer, its commit point. (R516) -/
  | canFrameStart (n : Nat) (ecc : Option Nat)
  /-- CAN_TX_ATTEMPT_END: A transmission attempt succeeds, loses arbitration or meets an error and the buffer completes or retries. (R518) -/
  | canTxAttemptEnd (n r lec : Nat) (dataPhase : Bool) (sof : Nat)
  /-- CAN_RX_FRAME_VALID: A received frame becomes valid, is filtered and stored with its stamps. (R514) -/
  | canRxFrameValid (n w0 w1 crc sof : Nat) (data : List Byte) (errs lec : Nat)
  /-- RECOVER: A write of RECOVER starts bus-off recovery, held until the FLT verdict. (R529) -/
  | recover (by_ : Init) (n : Nat)
  /-- BUS_OFF_RECOVERY_END: After 128 sequences of 11 recessive bits the controller is error active again. (R529) -/
  | busOffRecoveryEnd (n : Nat)
  /-- CANN_TSC_LATCH: A write of GO latches the TSC counter and 64-bit steady time together. (R515) -/
  | cannTscLatch (by_ : Init) (n : Nat)
  /-- CANN_RXF_POP: A write of POP releases the oldest RX FIFO entry. (R513) -/
  | cannRxfPop (by_ : Init) (n : Nat)
  /-- TWIN_ENTRY_EXPIRY: A twin-mode key entry expires and may raise the other bus's missing count. (R526) -/
  | twinEntryExpiry (n key : Nat)
  /-- TWIN_MISS_INTERVAL: At the end of each 1 s interval cause 0x2805 is raised for a bus whose missing count rose by MISS_LIMIT. (R526) -/
  | twinMissInterval (n : Nat)
  /-- SERN_TXDATA: A write of TXDATA pushes a character into the TX FIFO. (R536) -/
  | sernTxdata (by_ : Init) (n ch : Nat)
  /-- SERN_RXDATA: A read of RXDATA pops the oldest received character with its flags. (R536) -/
  | sernRxdata (by_ : Init) (n : Nat)
  /-- SER_CHAR_RECEIVED: A character completes at the receiver and is stored, delivered or dropped on overrun. (R534) -/
  | serCharReceived (n v t0 t1 : Nat)
  /-- SER_CHAR_SENT: A character's last stop bit is sent and the next may start. (R533) -/
  | serCharSent (n : Nat)
  /-- SER_IDLE_TIMEOUT: The line is idle for IDLE_TO bit times and the RX descriptor completes. (R537) -/
  | serIdleTimeout (n : Nat)
  /-- DE_RELEASE: DE is released LAG eighths of a bit after the last stop bit. (R535) -/
  | deRelease (n : Nat)
  /-- SER_ERROR_INTERVAL: At the end of each 1 s interval cause 0x2C01 is raised if framing or parity errors exceed one in 10,000. (R548) -/
  | serErrorInterval (n : Nat)
  /-- BITIO_OUTPUT_EDGE: A bit-level output edge takes effect at its steady-time target, or at once as an underrun. (R540) -/
  | bitioOutputEdge (n : Nat)
  /-- BITIO_INPUT_EDGE: A bit-level input edge is stamped into the input FIFO, or dropped as an overrun. (R540) -/
  | bitioInputEdge (n p t0 : Nat) (v : Bool)
  /-- VDT_LANE_TRAINING: A Viaduct or Trestle lane advances through its training state machine on PLL lock, block lock or received TS blocks. (R553) -/
  | vdtLaneTraining (l ev ts : Nat)
  /-- VDT_LANE_TIMEOUT: A lane spends 2 ms in LOCK, TS1 or TS2 and returns to DOWN. (R553) -/
  | vdtLaneTimeout (l : Nat)
  /-- VDT_LANE_DOWN: A lane that is UP loses block lock and returns to DOWN. (R553) -/
  | vdtLaneDown (l : Nat)
  /-- HB_SEND: Every 10,000 ns of steady time the device sends a heartbeat frame. (R562) -/
  | hbSend
  /-- HB: A valid heartbeat is received, resets the miss count and resolves UNDECIDED bays. (R573) -/
  | vdtHb (l t4 pref : Nat) (d : List Byte)
  /-- ACK: A received ACK frees acknowledged frames from the replay buffer. (R561) -/
  | vdtAck (l q : Nat)
  /-- NAK: A received NAK resends the frames from its sequence number. (R561) -/
  | vdtNak (l q : Nat)
  /-- ACK_TIMER: 100 ns after the first unacknowledged frame, or after 8 frames, the receiver sends ACK. (R560) -/
  | ackTimer (h : Nat)
  /-- REPLAY_TIMEOUT: Two microseconds without ACK progress resend every unacknowledged frame. (R561) -/
  | replayTimeout (h : Nat)
  /-- MREC: A live mirror record is checked and applied to the standby bay's region. (R565) -/
  | mrec (l q b g a region poison : Nat) (line : List Byte)
  /-- BREC: A bulk mirror record is checked and applied to the syncing bay's region. (R565) -/
  | brec (l q b g a region poison : Nat) (line : List Byte)
  /-- MIRROR_RECORD_SEND: A queued mirror line is read through the test port and sent as MREC. (R563) -/
  | mirrorRecordSend (b : Nat)
  /-- MIRROR_QUEUE_FULL_TIMEOUT: A bay's mirror queue stays full for 10 µs and cause 0x3406 is raised. (R568) -/
  | mirrorQueueFullTimeout (b : Nat)
  /-- CLAIM: A received ROLE CLAIM sets the bay generation and the receiver's role. (R571) -/
  | vdtClaim (l q b g : Nat)
  /-- YIELD: A received YIELD makes the partner act as on a declaration edge for that bay. (R580) -/
  | yield (l q b g : Nat)
  /-- SYNCED: A received SYNCED makes the syncing bay STANDBY. (R584) -/
  | synced (l q b g : Nat)
  /-- RESYNC_REQ: A received RESYNC_REQ is compared by REGCRC and starts the bulk pass or is refused. (R584) -/
  | resyncReq (l q b g crc : Nat)
  /-- REFUSE: A received REFUSE leaves the bay SYNCING and raises cause 0x3404. (R584) -/
  | refuse (l q b g : Nat)
  /-- VDT_MSG: A received MSG frame is held until the far mailbox has room and is then accepted. (R587) -/
  | vdtMsg (l q b g m src : Nat) (ws : List Word)
  /-- MRSP: A received MRSP completes the bound message and lets the next one go. (R587) -/
  | mrsp (l q b g m res : Nat)
  /-- VDT_DB: A received DB frame sets the far side's doorbell. (R587) -/
  | vdtDb (l q b g m : Nat)
  /-- HEARTBEAT_MISS: Each 10 µs without a valid heartbeat counts one missed heartbeat and may declare the partner lost. (R577) -/
  | heartbeatMiss
  /-- WITNESS_CHANGE: PAIR_ALIVE_IN has held a new level for 1 µs and the filtered witness changes. (R576) -/
  | witnessChange (v : Bool)
  /-- WITNESS_DISAGREE: Heartbeats and witness disagree and cause 0x3405 is raised without a role change. (R578) -/
  | witnessDisagree
  /-- TAKEOVER_EDGE: At the next basic-cycle boundary, or 50 µs later, the bay becomes ACTIVE and OWN_ACTIVE rises. (R579) -/
  | takeoverEdge (b : Nat)
  /-- UNDECIDED_TIMEOUT: A bay still UNDECIDED 100 ms after release becomes ACTIVE or ORPHAN. (R573) -/
  | undecidedTimeout (b : Nat)
  /-- HANDOVER: An ACTIVE bay yields to an eligible partner standby. (R580) -/
  | handover (by_ : Init) (b : Nat)
  /-- TAKE: An ORPHAN bay becomes ACTIVE with a new generation. (R581) -/
  | vdtTake (by_ : Init) (b : Nat)
  /-- SELF_FAULT: Setting SELF_FAULT drops PAIR_ALIVE_OUT until device reset. (R575) -/
  | selfFault (by_ : Init)
  /-- LINK_RESTART: Writing LINK_RESTART sends the lanes of the link to DOWN. (R553) -/
  | linkRestart (by_ : Init) (trestle : Bool)
  /-- PAIR_TIME_FOLLOW: A time follower sets ADJ every 1 ms and submits a correction every 125 ms from the partner's heartbeats. (R588) -/
  | pairTimeFollow (corr : Bool)
  /-- TRS_RD: A remote read request is checked against HOME and executed, or answered STALE or BLOCKED. (R612) -/
  | trsRd (l q src dst eseq home size off : Nat) (ecc : List (Nat × Nat))
  /-- TRS_WR: A remote write request is checked against HOME and executed, or answered STALE or BLOCKED. (R612) -/
  | trsWr (l q src dst eseq home size off : Nat) (d : List Byte)
  /-- RDR: A read response completes the originating access at the source. (R610) -/
  | trsRdr (l q src dst eseq home st : Nat) (d : List Byte)
  /-- RSP: A response completes the originating write, message or doorbell at the source. (R610) -/
  | trsRsp (l q src dst eseq home st : Nat)
  /-- TRS_MSG: A stack mailbox message is handled under the bound-mailbox rules at the far member. (R617) -/
  | trsMsg (l q src dst eseq home m from_ : Nat) (ws : List Word)
  /-- TRS_DB: A stack mailbox doorbell is delivered at the far member. (R617) -/
  | trsDb (l q src dst eseq home m : Nat)
  /-- IRQ: A claimed resource's interrupt level is forwarded to the claiming bay. (R615) -/
  | trsIrq (l q src dst c : Nat) (level : Bool)
  /-- SIRQ: A received stack-wide interrupt is latched and sets SIRQ in the named bays. (R618) -/
  | sirq (l q src code : Nat)
  /-- TRS_SIRQ_SEND: BAY0 broadcasts a stack-wide interrupt code. (R618) -/
  | trsSirqSend (by_ : Init) (code : Nat)
  /-- TIME_FRAME: A received TIME frame updates the member's estimate of the master's steady time and is relayed. (R620) -/
  | timeFrame (l q src ms corr epoch t4 : Nat) (tr : Option Int)
  /-- TIME_FRAME_SEND: Every 125,000 ns the master sends a TIME frame on each lane that is UP. (R619) -/
  | timeFrameSend
  /-- STACK_TIME_FOLLOW: A member with SOURCE 2 sets ADJ every 1 ms and submits a correction every 125 ms. (R620) -/
  | stackTimeFollow (corr : Bool)
  /-- TRS_CLAIM: A received remote-ownership claim is accepted or refused with a CLAIM_RSP. (R614) -/
  | trsClaim (l q src dst bay res pf pc num : Nat)
  /-- CLAIM_RSP: A claim response records acceptance or raises cause 0x3805. (R614) -/
  | claimRsp (l q src dst bay res result num : Nat)
  /-- ROUTE: A received ROUTE BREAK or HEALED switches and relays routes. (R606) -/
  | trsRoute (l q src kind hop exp : Nat)
  /-- TOPO: A received TOPO frame updates the present members and master. (R623) -/
  | trsTopo (l q src master present flags uid : Nat)
  /-- TRS_HB: A Trestle heartbeat is received on a hop. (R607) -/
  | trsHb (l t4 : Nat) (d : List Byte)
  /-- HOP_LOST: A hop is lost by lane loss or 30 µs without heartbeat and ROUTE BREAK is sent. (R606) -/
  | hopLost (l : Nat)
  /-- ROUTE_BREAK_TIMEOUT: No ROUTE BREAK arrives within 10 µs and every frame of the lost hop's buffer is discarded. (R608) -/
  | routeBreakTimeout (l : Nat)
  /-- TRS_REQUEST_TIMEOUT: A request gets no response within 100 µs and completes as TRS_UNKNOWN. (R610) -/
  | trsRequestTimeout (d eseq : Nat)
  /-- STACK_FORMED: TOPO shows MEMBERS present, or 100 ms pass, and the stack is formed and claims are sent. (R623) -/
  | stackFormed
  /-- DRV_START: START from READY begins the position test, magnetization or catch-spin. (R661) -/
  | drvStart (by_ : Init) (n : Nat) (spin : Bool)
  /-- DRV_STOP: STOP puts a running unit into controlled deceleration with target 0. (R676) -/
  | drvStop (by_ : Init) (n : Nat)
  /-- COAST: COAST puts the outputs at their off levels at the next apply edge and the unit in READY. (R689) -/
  | coast (by_ : Init) (n : Nat)
  /-- PSET_LOAD: A parameter set is read from NVM, checked and made active. (R656) -/
  | psetLoad (by_ : Init) (n k : Nat)
  /-- DECISION_TICK: On each decision tick the unit triggers measurements, runs the observer and selects a switching state. (R637) -/
  | decisionTick (n : Nat)
  /-- DECISION_APPLY: Two microseconds after the tick the selected state reaches the gate logic. (R637) -/
  | decisionApply (n : Nat)
  /-- DEAD_TIME_END: DEAD × 4 ns after a leg change the incoming switch turns on. (R633) -/
  | deadTimeEnd (n leg : Nat)
  /-- LEG_CHANGE_DEFERRED: A leg change deferred for MIN_PULSE takes effect once it no longer breaks the minimum pulse. (R634) -/
  | legChangeDeferred (n leg : Nat)
  /-- BAND_WINDOW_END: After 256 decisions the band factor is adapted to the measured switching frequency. (R654) -/
  | bandWindowEnd (n : Nat)
  /-- POSITION_TEST_PULSE: A position-test pulse ends on current or time limit and the next pulse or evaluation follows. (R664) -/
  | positionTestPulse (n rise : Nat) (limit : Bool)
  /-- MAG_TIME_EXPIRY: Magnetization does not reach MAG_PCT within MAG_TIME and START fails. (R665) -/
  | magTimeExpiry (n : Nat)
  /-- CATCH_SPIN_STEP: A timed step of the catch-spin sequence ends and the next step begins. (R682) -/
  | catchSpinStep (n : Nat) (a b : Int)
  /-- LOS_CLEAR_EXPIRY: After LOS_CLEAR seconds of continuous RUNNING, RESTARTS returns to 0. (R681) -/
  | losClearExpiry (n : Nat)
  /-- KINETIC_HOLD_EXIT: SUP commands exit and the unit returns to its entry state. (R679) -/
  | kineticHoldExit (n : Nat)
  /-- OVERCURRENT_TRIP: An overcurrent comparator output held for OCP_FILT trips the unit within 250 ns. (R683) -/
  | overcurrentTrip (n leg : Nat) (active above : Bool)
  /-- GATE_DRIVER_FAULT: DRVn_FLTn low trips the unit and turns BRK off. (R684) -/
  | gateDriverFault (n : Nat) (low : Bool)
  /-- DESATURATION: A DSAT input trips the unit, or DSAT_BRK disables the chopper. (R684) -/
  | desaturation (n leg : Nat) (active : Bool)
  /-- GATE_READBACK_MISMATCH: A gate, BRK or GEN pad differs from its driven level on two edges and the unit trips. (R669) -/
  | gateReadbackMismatch (n out : Nat) (level : Bool)
  /-- TRIP_CLEAR: TRIP_CLEAR moves a tripped unit to READY if no trip input is active. (R685) -/
  | tripClear (by_ : Init) (n : Nat)
  /-- CHOPPER_DUTY_INTERVAL: Each 1 s interval of steady time ends the chopper's duty limit. (R675) -/
  | chopperDutyInterval (n : Nat)
  /-- SEQ_GO: A write of GO triggers a sequence whose TRIG is 1. (R702) -/
  | seqGo (by_ : Init) (n k : Nat)
  /-- ADC_CONVERSION_END: A conversion ends, its result is written and the next waiting conversion starts. (R696) -/
  | adcConversionEnd (n : Nat) (v : Int)
  /-- ADC_INTERNAL_CHECK: Every 1 ms each enabled converter converts REF and GND and checks their limits. (R701) -/
  | adcInternalCheck (n : Nat)
  /-- ADCN_QFLUSH: A write of FLUSH completes the current result descriptor. (R708) -/
  | adcnQflush (by_ : Init) (n : Nat)
  /-- SDM_DATA_OUTPUT: The sinc3 data filter produces an output with its stamp. (R710) -/
  | sdmDataOutput (n : Nat) (v : Int)
  /-- SDM_COMPARATOR_OUTPUT: The comparator filter produces an output, updates ABOVE and BELOW and feeds SUP. (R712) -/
  | sdmComparatorOutput (n : Nat) (v : Int)
  /-- SDM_SATURATION: A data line holds one level for SAT_N clocks and is treated as over-range. (R713) -/
  | sdmSaturation (n : Nat) (begins level : Bool)
  /-- SDM_STUCK: A data line stuck for 65,536 clocks, or a non-toggling clock pad, raises cause 0x6802. (R714) -/
  | sdmStuck (n : Nat) (clock : Bool)
  /-- SDMN_QFLUSH: A write of FLUSH completes the current SDM descriptor. (R715) -/
  | sdmnQflush (by_ : Init) (n : Nat)
  /-- SUP_AIN_REQUEST: With an AIN source SUP requests one conversion every 2,000 ns. (R724) -/
  | supAinRequest
  /-- SUP_MILLISECOND: Every 1 ms SUP updates SUP_ROC and the learned nominal. (R727) -/
  | supMillisecond
  /-- SHED_TRIGGER: SHED_AFTER_MS or SHED_STEP_MS elapses in RIDE_THROUGH or SHED and the next group is shed. (R737) -/
  | shedTrigger
  /-- HOLD_EXPIRY: HOLD_MS pass with class NORMAL and a low rate of change and SUP enters RECOVER. (R735) -/
  | holdExpiry
  /-- RESTORE_STEP: Every RESTORE_STEP_MS in RECOVER the next shed group is restored. (R742) -/
  | restoreStep
  /-- SHED_POWER_MEASUREMENT: Three milliseconds after a shed the power drop of the group is measured. (R739) -/
  | shedPowerMeasurement
  /-- SUP_LP10_WRITE: SUP writes its learned data to LP10 when due and at most once in 60 s. (R748) -/
  | supLp10Write
  /-- SUP_EN: A write of EN enables or disables classification, with EN_RESULT giving the outcome. (R752) -/
  | supEn (by_ : Init) (en : Bool)
  /-- SUP_DETECT: A write of SUP_DETECT is checked against the 20 µs detection bound. (R732) -/
  | supDetect (by_ : Init) (w : Word)
  /-- LEARN_RESET: In NORMAL, LEARN_RESET clears learned nominal and ranks and writes LP10. (R751) -/
  | learnReset (by_ : Init)
  /-- DEW_CLEAR: Every linked film index has stayed below its clear level for DEW_CLEAR_S and DEW clears. (R746) -/
  | dewClear
  /-- CLO_REGULATOR_STEP: Every 10 µs an output measures current and headroom and runs one PI step. (R758) -/
  | cloRegulatorStep (n : Nat) (vs vl : Int)
  /-- CLI_MEASUREMENT: Every 10 µs an input measures its loop current and classifies it. (R764) -/
  | cliMeasurement (m : Nat) (v : Int)
  /-- CAP_EN: A write of EN or GLOVE is checked against the scan period and starts baseline loading. (R777) -/
  | capEn (by_ : Init) (en glove : Bool)
  /-- CAP_SCAN: Every SCAN_US a scan measures the keys, the noise and the SNS channels. (R777) -/
  | capScan (c : CapScan)
  /-- RECAL: RECAL releases keys and reloads baselines at every enabled frequency. (R779) -/
  | recal (by_ : Init)
  /-- CAL_RELOAD: CAL_RELOAD reads and checks the calibration record of every film channel. (R787) -/
  | calReload (by_ : Init)
  /-- SLEEP_SLOW_SCAN: In SLEEP the ganged electrode is measured every 1 ÷ SLEEP_RATE s and may register a wake. (R781) -/
  | sleepSlowScan (raw : Nat)
  /-- FILM_REFERENCE_CHECK: Every 60 s each film oscillator measures its internal 10 pF reference. (R784) -/
  | filmReferenceCheck (n raw : Nat)
  /-- TAG_INV_CMD: A write of GO starts an inventory of the named antennas and protocols. (R805) -/
  | tagInvCmd (by_ : Init) (ants protos : Nat) (slots1 : Bool)
  /-- TAG_AUTO_INVENTORY: Every PERIOD_S an automatic inventory starts. (R805) -/
  | tagAutoInventory
  /-- TAG_INV_ABORT: A write of ABORT ends the inventory as ABORTED or DONE with ABORT_LATE. (R814) -/
  | tagInvAbort (by_ : Init)
  /-- RECEIVER_CHECK_END: The 200 µs receiver check ends and the field switches on or the inventory fails. (R803) -/
  | receiverCheckEnd (result : Nat)
  /-- FIELD_SETTLE_END: FIELD_SETTLE ends after the load check and the first command is sent. (R801) -/
  | fieldSettleEnd
  /-- TAG_SLOT: An inventory slot ends empty, with a collision or with a read identifier, and the next slot or round follows. (R808) -/
  | tagSlot (o : TagOut)
  /-- TAG_INVENTORY_DONE: The last round on the last antenna ends, the field switches off and the inventory completes. (R814) -/
  | tagInventoryDone
  /-- PIN_COMMIT_GO: A write of GO commits the bay's pin shadows on the next edge. (R831) -/
  | pinCommitGo (by_ : Init) (b : Nat)
  /-- PIN_COMMIT_ARM: A write of ARM arms a commit for the next named instant. (R831) -/
  | pinCommitArm (by_ : Init) (b : Nat)
  /-- PIN_COMMIT_SWITCH: After the park time each committed pin takes its new configuration and function. (R830) -/
  | pinCommitSwitch (p : Nat) (level : Bool)
  /-- GPIO_SET: A write of GPIO_SETk sets the owned OUT bits. (R847) -/
  | gpioSet (by_ : Init) (k : Nat) (w : Word)
  /-- GPIO_CLR: A write of GPIO_CLRk clears the owned OUT bits. (R847) -/
  | gpioClr (by_ : Init) (k : Nat) (w : Word)
  /-- GPIO_INPUT_EDGE: A filtered level change on a GPIO pin sets PEND under its IRQ_MODE. (R834) -/
  | gpioInputEdge (p : Nat) (level : Bool)
  /-- PIN_READBACK_MISMATCH: A driven output's pad differs from its level and a READBACK cause is raised. (R851) -/
  | pinReadbackMismatch (p : Nat) (driven : Bool)
  /-- STAGE_WR: A HIF-SPI frame writes the host staging buffer. (R837) -/
  | stageWr (f : HFrame)
  /-- STAGE_RD: A HIF-SPI frame reads the host staging buffer. (R837) -/
  | stageRd (f : HFrame)
  /-- STATUS_RD: A HIF-SPI frame returns the status word. (R839) -/
  | statusRd (f : HFrame)
  /-- CMD_WR: A HIF-SPI frame submits a Halvik command. (R837) -/
  | cmdWr (f : HFrame) (nvm : Nat)
  /-- CPL_RD: A HIF-SPI frame returns the completion at CPL_TAIL. (R837) -/
  | cplRd (f : HFrame)
  /-- CPL_ACK: A HIF-SPI frame sets CPL_TAIL. (R837) -/
  | cplAck (f : HFrame)
  /-- HDB_WR: A HIF-SPI frame passes a host doorbell word to BAY0. (R837) -/
  | hdbWr (f : HFrame)
  /-- DDB_RD: A HIF-SPI frame reads and clears the device doorbell word. (R837) -/
  | ddbRd (f : HFrame)
  /-- HIF_SPI_DDB: BAY0 writes a device doorbell word for the host. (R848) -/
  | hifSpiDdb (by_ : Init) (w : Word)
  /-- BAR0_HDB: A PCIe write to BAR0 HDB passes a word to BAY0. (R842) -/
  | bar0Hdb (w : Word)
  /-- BAR0_DDB: A PCIe read of BAR0 DDB returns and clears the device doorbell. (R842) -/
  | bar0Ddb
  /-- PCIE_PERST: PCIE_PERSTn low resets the endpoint and its configuration space. (R841) -/
  | pciePerst
  /-- PCIE_LINK_CHANGE: The PCIe link goes up or down and PCIE_LINK pends. (R848) -/
  | pcieLinkChange (up : Bool) (rate width ltssm : Nat) (d3 oneMsi : Bool)
  /-- PCIE_OUTBOUND_TIMEOUT: An outbound access without completion for 10 ms ends with an error. (R843) -/
  | pcieOutboundTimeout (by_ : Init) (wr : Bool) (addr : Nat)
  /-- HIF_QSPI_CMD: A write of GO starts a flash command and holds XIP reads until it completes. (R844) -/
  | hifQspiCmd (by_ : Init) (w : Word)
  /-- QSPI_COMMAND_DONE: A flash command completes and QSPI_DONE pends. (R844) -/
  | qspiCommandDone (data : List Word) (off : Nat) (bytes : List Byte)
  /-- REGISTER_WRITE: A write to a register without a row of its own updates its fields under the access codes and collision rules. (R900) -/
  | registerWrite (by_ : Init) (a : Nat) (w : Word)
  /-- ENGINE_INSTRUCTION: A running Reel engine executes its Enrak image, taking commands from its CMD_MBX, signalling health, making fabric accesses and running its protocol. (R292) -/
  | engineInstruction (e : Nat) (a : EngAct)
  /-- DEBUG_MODULE_ACCESS: An external debugger issues a halt, resume, step or abstract command to the debug module over JTAG. (R289) -/
  | debugModuleAccess (a : DebugAct)
  /-- LANE_FRAME_END: The END block of a Viaduct or Trestle frame leaves the lane, and the next frame starts in the priority order of R562 or R604. (R562) -/
  | laneFrameEnd (l : Nat)
  /-- LANE_FRAME_DISCARD: A received Viaduct or Trestle frame with a bad CRC, unknown type, wrong NDATA or broken framing is discarded and counted in CRC_ERR. (R558) -/
  | laneFrameDiscard (l : Nat)
  /-- REPLAY_RATE_INTERVAL: At the end of each 1 s interval of steady time, cause 0x3401 or 0x3801 is raised for a link or lane with more than 64 replay events. (R594) -/
  | replayRateInterval (h : Nat)
  /-- LANE_NOT_UP_TIMEOUT: A Viaduct lane that has not reached UP 1 ms after the configuration is applied raises cause 0x3402. (R594) -/
  | laneNotUpTimeout (l : Nat)
  /-- CONFIGURATION_HOLD_TIMEOUT: With TIME SOURCE 2 on a member other than the master, the master's time has not arrived 5 ms after the content checks and the configuration is applied without the steady-time load. (R412) -/
  | configurationHoldTimeout
  /-- SUP_CONFIRM_EXPIRY: The slow value has stayed beyond its DIP or SURGE threshold for DIP_US or SURGE_US without a break, and the class changes. (R729) -/
  | supConfirmExpiry (surge : Bool)
  /-- CAP_TEMP_SW_TIMEOUT: CAP_TEMP_SW has not been written for 10 s, so the temperature source of TSRC 2 channels is missing and their film indices become invalid. (R788) -/
  | capTempSwTimeout
  /-- ANT_SETTLE_END: ANT_SETTLE µs after TAG_ANT_SEL changes to a later antenna of an inventory, the reader switches the field on. (R801) -/
  | antSettleEnd
  /-- ANTENNA_LOAD_FAULT: The antenna load magnitude stays outside 25 Ω to 100 Ω for 100 µs during FIELD_SETTLE, and the reader switches the field off, sets FAULT and moves to the next antenna. (R802) -/
  | antennaLoadFault (load : Nat)
  /-- POLE_VOLTAGE_TRIGGER: With VSENSE 0, the drive unit triggers conversions of VA, VB and VC at T_k + P/8, 3P/8, 5P/8 and 7P/8. (R641) -/
  | poleVoltageTrigger (n : Nat)
  /-- BAR2_ACCESS: A host PCIe memory read or write to BAR2 reaches the host staging buffer with BAY0's identity. (R842) -/
  | bar2Access (write : Bool) (off len : Nat) (data : List Byte)
  /-- ALWAYS_ON_SUPPLY_VALID: VDD_AO and then VDD_1V8 become valid, and the device starts the LPO, drives PWR_EN high and drives PAIR_ALIVE_OUT and OWN_ACTIVE low. (R205) -/
  | alwaysOnSupplyValid (v18 : Bool)
  deriving DecidableEq, Repr

end Sys2Proof
end

