-- ==== Sys2Proof/Decode.lean ====
section
/-! DEFINITION.
The words of the opcode table.  Its rows are commands of a block: none has bits, so no word decodes to one. -/

namespace Sys2Proof

/-- The command that `nbits` bits of a word spell: none, for the table gives no row bits. -/
def decodeTableWord (_nbits _w : Nat) : Option Instr := none

end Sys2Proof
end

