-- ==== Sys2Proof/Config.lean ====
section
/-! DEFINITION.
What the spec names and does not define: cryptographic standards, and the free values.  Each is a
constant without a body. -/

namespace Sys2Proof.Config

/-- SHA-256, named by R77, R94 and R96; an external standard. -/
opaque sha256 : List Byte → List Byte
/-- Whether a public key (X, Y) lies on P-256 (R77). -/
opaque p256OnCurve : List Byte → List Byte → Bool
/-- Whether the ECDSA signature (r, s) verifies under the key (X, Y) for a SHA-256 digest (R77). -/
opaque p256Verify : List Byte → List Byte → List Byte → List Byte → List Byte → Bool
/-- AES-256-GCM decryption under a key, IV, additional data, ciphertext and tag (R78, R98). -/
opaque gcmDecrypt : List Byte → List Byte → List Byte → List Byte → List Byte → Option (List Byte)
/-- The Nalvaca image key, "not reproduced in this manual" (R295): X, then Y. -/
opaque imageKeyX : List Byte
opaque imageKeyY : List Byte
/-- A free 32-bit value: the n-th value that the spec leaves open. -/
opaque freeWord : Nat → Word
/-- A free choice: the n-th choice that the spec leaves open. -/
opaque freeBool : Nat → Bool
/-- The 16 nonce bytes of the n-th NONCE (R96). -/
opaque nonceBytes : Nat → List Byte

end Sys2Proof.Config
end

