-- ==== Sys2Proof/Machine/Parts.lean ====
section
/-! DEFINITION.
The parts of the state that the spec describes outside the register tables, block by block, as
plain data. -/

namespace Sys2Proof.Machine

/-! ### SYS, chapter 05 -/

/-- The power and reset phase of the device (R181, R186, R189, R192, R193, R196). -/
inductive Phase where
  /-- Held in power-on reset until PORn rises (R205). -/
  | por
  /-- PLL started, not yet locked; no clock domain runs (R171). -/
  | pllWait
  /-- Zeroization (R89, R197). -/
  | zeroize
  /-- Clock loss or under-voltage: held in reset by the always-on domain (R179, R180). -/
  | held
  /-- RUN (R186); before the configuration is applied only Halvik runs (R166). -/
  | run
  /-- DOZE (R187). -/
  | doze
  /-- SLEEP entry, from REQ to the drain (R189 t0 to t2). -/
  | sleepDrain
  /-- SLEEP entry, pins parked, before the commit point (R189 t2 to t3). -/
  | sleepParked
  /-- SLEEP entry after the commit point, before retention (R189 t3 to t4). -/
  | sleepStopped
  /-- SLEEP (R186). -/
  | sleep
  /-- Wake from SLEEP, PLL starting (R192 t0 to t2). -/
  | wakePll
  /-- OFF entry, waiting and parked before PWR_EN falls (R193). -/
  | offParked
  /-- OFF (R186). -/
  | off
  /-- Wake from OFF, PWR_EN high, VDD_CORE not yet good (R196 t1 to t2). -/
  | offWait
  /-- Wake from OFF, SETTLE running (R196 t2 to t3). -/
  | offSettle
  deriving DecidableEq, Repr

/-- A report as FLT carries it (R241, R242). -/
structure Report where
  cause : Nat
  res : Nat
  detail : Nat
  stamp : Nat
  bay : Nat
  injected : Bool := false
  forced : Bool := false
  late : Bool := false
  deferred : Bool := false
  deriving DecidableEq, Repr

structure SysPart where
  phase : Phase
  /-- PWR_EN level (R194). -/
  pwrEn : Bool
  /-- Pins of the device forced to park by the always-on domain or by a power entry (R179, R189). -/
  parked : Bool
  /-- Bit g, 0 to 3: VDDIO_Gg low; 4: VDD_3V3; 5: VDDA_3V3 (R857). -/
  railLow : Nat
  /-- Remaining wake-timer count in units (R201). -/
  wakeLeft : Nat
  /-- Causes held in the always-on domain, at most four (R204, R273). -/
  aoCauses : List Report
  /-- FLT device resets counted in the always-on domain, and the always-on time of the first of the
  set, in ns (R248). -/
  fltResets : Nat
  fltResetFirst : Nat
  /-- Time since power-on that the always-on domain counts, in ns. -/
  aoNs : Nat
  /-- Crystal amplifier off (R169). -/
  xtalOff : Bool
  /-- Lanes in electrical idle by a power entry (R189). -/
  lanesIdle : Bool
  /-- A wake event registered and not yet acted on, as its LAST_WAKE code (R192, R196). -/
  wake : Option Nat
  /-- What holds the device in reset: bit 0 a clock loss, 1 VDD_CORE, 2 VDD_SER, 3 VDD_1V8 (R179, R180, R861). -/
  holds : Nat
  /-- Nanoseconds in DOZE that SYS_DOZE_TIME does not show yet (R198). -/
  dozeNs : Nat
  deriving DecidableEq, Repr

/-! ### BAY, chapter 04 -/

structure BayPart where
  /-- Bay n released at least once in the running configuration (R151): bit n. -/
  released : Nat
  /-- STOP registered during RESET (R163): bit n. -/
  stopAfter : Nat
  /-- Reset effects of t2 taken in the present reset of bay n (R155): bit n. -/
  resetDone : Nat
  /-- Bay n held for a CORE retest verdict (R258): bit n. -/
  coreHold : Nat
  /-- What is left of the watchdog period of each bay, in ns of steady time; 0 while it is stopped (R157). -/
  wdt : List Nat
  /-- The 64 wheel positions: the bay of each, 8 for slack (R142). -/
  wheel : List Nat
  /-- The bay that received the last slot under R144. -/
  rr : Nat
  /-- Grants added by a delta and not yet open, as (kind, number) (R112). -/
  closedGrants : List (Nat × Nat)
  deriving DecidableEq, Repr

/-! ### Configuration, chapter 02 -/

/-- The section tags of R47, in order. -/
inductive Tag where
  | sys | bays | memb | pins | imgs | qdrs | time | supp | fltp | drvp | caps | tags | link | sign
  deriving DecidableEq, Repr

/-- A table of a section: its number and its records (R50). -/
structure Table where
  num : Nat
  recs : List (List Byte)
  deriving DecidableEq, Repr

/-- A section of the running configuration. -/
structure Sect where
  tag : Tag
  tables : List Table
  deriving DecidableEq, Repr

/-! ### SEC, chapter 03 -/

/-- A slot record of the parameter area (R99). -/
structure SlotRec where
  state : Nat
  configId : Nat
  totalLen : Nat
  tried : Bool
  preferred : Bool
  confirmMs : Nat
  deriving DecidableEq, Repr

/-- The one-time-programmable store (chapter 03, "Authentication and keys"). -/
structure Otp where
  /-- SHA-256 key hashes by slot (R94). -/
  hash : List (Option (List Byte))
  /-- Revoked slots, bit k. -/
  revoked : Nat
  /-- AES-256 keys 0 and 1 (R98). -/
  aes : List (Option (List Byte))
  /-- Floor words written, oldest first, at most eight (R95). -/
  floors : List Nat
  uid : Nat
  deriving DecidableEq, Repr

/-- One entry of a replay window (R381): tag, fingerprint, and the stored completion words once final. -/
structure ReplayEntry where
  tag : Nat
  op : Nat
  fp : Nat
  done : Option (List Word)
  /-- Repeats that arrived while the original was PENDING (R383), as channels to answer. -/
  repeats : List Nat
  deriving DecidableEq, Repr

/-- The replay window of one origin, newest entry first (R381), with the acceptance order (R385). -/
structure ReplayOrigin where
  origin : Nat
  last : Nat
  entries : List ReplayEntry
  deriving DecidableEq, Repr

/-- The phases of a bay delta (R108, R109, R128). -/
inductive DeltaPhase where
  | prepare | swapped
  deriving DecidableEq, Repr

/-- A DELTA_APPLY in progress (R108 to R112). -/
structure Delta where
  ch : Nat
  origin : Nat
  tag : Nat
  bay : Nat
  configId : Nat
  /-- The configuration that the delta produces, and the one before it. -/
  newCfg : List Sect
  oldCfg : List Sect
  readyMs : Nat
  phase : DeltaPhase
  /-- Engines the prepare phase loads, and those still to load: bit masks (R108). -/
  prepEngines : Nat
  prepLeft : Nat
  abortLate : Bool
  deriving DecidableEq, Repr

/-- An IMAGE_LOAD accepted and not complete (R124, R298). -/
structure ImgCmd where
  ch : Nat
  origin : Nat
  tag : Nat
  engine : Nat
  data : List Byte
  deriving DecidableEq, Repr

structure SecPart where
  otp : Otp
  slotA : SlotRec
  slotB : SlotRec
  /-- Slot of the running configuration: 0 A, 1 B, 2 none of them. -/
  runSlot : Nat
  /-- SEC_VER of the running configuration (R97). -/
  secVer : Nat
  /-- KEY_SLOT that signed the running configuration. -/
  keySlot : Nat
  /-- The slot opened by SLOT_OPEN: 0, 1, or none (R104). -/
  openSlot : Option Nat
  /-- The latest nonce and the steady time of its issue, none once used (R96). -/
  nonce : Option (List Byte × Nat)
  /-- Confirm timer running (R101). -/
  confirming : Bool
  /-- Slot named by BOOT_ONCE for the next boot (R123). -/
  bootOnce : Option Nat
  /-- Waiting for a host-pushed bitstream (R87). -/
  hostWait : Bool
  /-- Completions held because the ring is full, oldest first, with their channel (R118). -/
  held : List (Nat × List Word)
  replay : List ReplayOrigin
  accepts : Nat
  delta : Option Delta
  imgCmds : List ImgCmd
  /-- The configuration passed its checks and waits for the stack master's time (R412). -/
  waiting : Option (List Byte × Nat)
  deriving DecidableEq, Repr

/-! ### HIF, chapter 24 -/

/-- The command channel of a host interface, laid out as a command page (R116, R117, R842). -/
structure HostChan where
  head : Nat
  tail : Nat
  /-- The eight completions of the ring (R117). -/
  ring : List (List Word)
  irqEn : Bool
  /-- CMD_BUF of the PCIe page. -/
  buf : SMap Word
  deriving DecidableEq, Repr

def HostChan.cold : HostChan := ⟨0, 0, List.replicate 8 [0, 0, 0, 0], false, []⟩

structure HifPart where
  spi : HostChan
  pcie : HostChan
  /-- LAST_OK, LAST_ERR and WSEQ of the status word (R839). -/
  lastOk : Bool
  lastErr : Nat
  wseq : Nat
  /-- Device doorbell words not yet read by the host (R837, R842). -/
  spiDdb : Option Nat
  pcieDdb : Option Nat
  /-- The MSI vector signalled last, and whether the host enabled a single one (R842). -/
  msi : Option Nat
  oneMsi : Bool
  deriving DecidableEq, Repr

def HifPart.cold : HifPart := ⟨HostChan.cold, HostChan.cold, false, 0, 0, none, none, none, true⟩

/-! ### FLT, chapter 07 -/

/-- A tracker (R249, R250, R252): `opened` is the steady time of the window's first transient. -/
structure Tracker where
  cause : Nat
  res : Nat
  count : Nat
  opened : Nat
  used : Nat
  deriving DecidableEq, Repr

/-- A waiting or running retest: the cause whose class it runs, its resource, and the reports that
share it (R253, R272); `again` marks a lane retest repeated at a lower rate (R256). -/
structure Retest where
  cause : Nat
  res : Nat
  reports : List Report
  again : Bool
  deriving DecidableEq, Repr

/-- A notification (R264, R271). -/
structure Note where
  cause : Nat
  verdict : Nat
  repair : Nat
  res : Nat
  detail : Nat
  stamp : Nat
  seq : Nat
  deriving DecidableEq, Repr

structure FltPart where
  trackers : List Tracker
  running : List Retest
  waiting : List Retest
  bucket : Nat
  /-- Notification queues of the bays (R264). -/
  notes : List (List Note)
  uses : Nat
  /-- STORE causes and resources that a bay restart has answered, and instances held in block reset
  after a further LASTING or RECURRING verdict (R244). -/
  restarted : List (Nat × Nat)
  held : List (Nat × Nat)
  /-- Repairs that wait for a delta of their bay to end, with the verdict (R127). -/
  later : List (Report × Nat)
  /-- Injections that have not left PENDING: the path, 4 for FLT_INJ_GO or a core number, cause and resource (R265). -/
  injecting : List (Nat × Nat × Nat)
  /-- Corruptions made and not yet detected, by cause and resource (R265, R266). -/
  corrupt : List (Nat × Nat)
  deriving DecidableEq, Repr

/-! ### MBX and QMGR, chapter 10 -/

/-- One direction of a mailbox: the queue that one side writes (R353 to R360). -/
structure MbxQ where
  /-- Complete messages, oldest first, with the words still held. -/
  msgs : List (List Word)
  /-- Words of the open message. -/
  opn : List Word
  /-- A message is open. -/
  isOpen : Bool
  /-- Discarding up to the next TX_LAST (R356). -/
  discard : Bool
  /-- Words of the oldest complete message already popped (RX_STAT.HEAD_POS). -/
  pos : Nat
  /-- A message has completed since the last doorbell (R357). -/
  credit : Bool
  /-- The newest message was recalled after its commit point (R360). -/
  late : Bool
  /-- The oldest message's record is on the link (R362). -/
  sending : Bool
  deriving DecidableEq, Repr

def MbxQ.empty : MbxQ := ⟨[], [], false, false, 0, false, false, false⟩

/-- What a completion entry adds to its descriptor (R369): shared status, RESULT, XLEN, STAMP, AUX. -/
structure Cpl where
  status : Nat
  result : Nat
  xlen : Nat
  stamp : Nat
  aux : List Byte
  deriving DecidableEq, Repr

/-- A descriptor in flight (R369, R374). -/
structure Desc where
  /-- Index at which it was posted. -/
  idx : Nat
  /-- The 32 bytes as fetched. -/
  bytes : List Byte
  /-- Index of its copy partner at the other end (R371). -/
  peer : Option Nat
  committed : Bool
  abortLate : Bool
  /-- Taken by the agent that holds the other end. -/
  taken : Bool
  final : Option Cpl
  /-- A buffer in a member window (R611): the bytes of a source as they arrive, the reads and the writes still out, and the
  RESULT and AUX code of one that failed (R610). -/
  data : List Byte := []
  pulls : Nat := 0
  pushes : Nat := 0
  bad : Option (Nat × Nat) := none
  deriving DecidableEq, Repr

/-- One end of a queue (R365 to R378). -/
structure QEnd where
  inflight : List Desc
  /-- Cause 0x1403 raised for the present wait (R375). -/
  waitRaised : Bool
  /-- Aborts registered on posted, unfetched indices (R378). -/
  aborts : List Nat
  /-- A descriptor read, and a completion write, out to a ring in a member window. -/
  fetching : Bool := false
  storing : Bool := false
  deriving DecidableEq, Repr

def QEnd.empty : QEnd := { inflight := [], waitRaised := false, aborts := [] }

structure MsgPart where
  /-- Mailbox directions, key 2m + side of the writer. -/
  mbx : SMap MbxQ
  /-- Queue ends, key 2q + end (0 P, 1 C). -/
  ends : SMap QEnd
  /-- Doorbells of bound mailboxes that wait, each with the messages still ahead of it (R361, R587). -/
  bells : List (Nat × Nat)
  /-- Bays at which cause 0x1402 is raised and not yet armed again: bit n (R374). -/
  quotaHit : Nat
  /-- Descriptors of claimed queues in flight, against the remote pool (R615). -/
  remote : Nat
  deriving DecidableEq, Repr

/-! ### MEM and NVM, chapter 06 -/

/-- A row test in progress (R216): served from the shadow once `switched`. -/
structure RowTest where
  bank : Nat
  row : Nat
  switched : Bool
  /-- The test is the targeted retest of a reported row (R237, R238). -/
  targeted : Bool
  deriving DecidableEq, Repr

/-- A dirty L2 line (R214): the bay that holds it, its address, and what the bank still holds. -/
structure DirtyLine where
  bay : Nat
  addr : Nat
  old : List Byte
  deriving DecidableEq, Repr

/-- A physical data page of the parameter area, with its trailer (R224). -/
structure NvmPage where
  lpage : Option Nat
  seq : Nat
  writes : Nat
  retired : Bool
  deriving DecidableEq, Repr

def NvmPage.blank : NvmPage := ⟨none, 0, 0, false⟩

/-- A logical page write before its commit edge (R225): by the NVM block or by SUP; begun again on another page
after a word failed twice (R238). -/
structure PageWrite where
  lpage : Nat
  phys : Nat
  data : List Byte
  block : Bool
  again : Bool
  deriving DecidableEq, Repr

structure MemPart where
  /-- Poisoned 64-bit words, as byte addresses (R212). -/
  poison : List Nat
  /-- Words whose corrected value waits for the array (R211). -/
  writeback : List Nat
  test : Option RowTest
  /-- Steady time at which the present pass started (R218). -/
  passStart : Nat
  dirty : List DirtyLine
  /-- L2 lines locked out (R215). -/
  l2Locked : List Nat
  pages : SMap NvmPage
  pgWrites : List PageWrite
  /-- Rows remapped that Halvik has still to write to LP0 (R219, R221): (bank, row). -/
  lp0Due : List (Nat × Nat)
  deriving DecidableEq, Repr

/-! ### CORE and REEL, chapters 08 and 09 -/

/-- A hart as the spec describes it (R276 to R288). -/
structure Core where
  running : Bool
  wfi : Bool
  halted : Bool
  haltOnReset : Bool
  pc : Nat
  /-- Integer and floating-point registers, keyed by number. -/
  x : SMap (BitVec 64)
  f : SMap (BitVec 64)
  /-- Privilege mode, 3 M, 1 S, 0 U. -/
  mode : Nat
  /-- Control and status registers other than those below, keyed by CSR address. -/
  csr : SMap (BitVec 64)
  /-- Line address of the reservation of a load-reserve. -/
  resv : Option Nat
  mcycle : Nat
  minstret : Nat
  mtimecmp : Nat
  stlCyc : Nat
  stlTime : Nat
  mfinj : Nat
  mfinjst : Nat
  extToS : Bool
  msip : Bool
  /-- Debug authentication (R290). -/
  auth : Bool
  deriving DecidableEq, Repr

/-- A core as device reset and each release leave it (R277, R307). -/
def Core.cold : Core :=
  { running := false, wfi := false, halted := false, haltOnReset := false, pc := 0, x := [], f := [],
    mode := 3, csr := [], resv := none, mcycle := 0, minstret := 0, mtimecmp := 0xFFFFFFFFFFFFFFFF,
    stlCyc := 0, stlTime := 0, mfinj := 0, mfinjst := 0, extToS := false, msip := false, auth := false }

/-- An Enrak image interface held outside the engine's local memory (chapter 09). -/
structure Engine where
  /-- Length and CRC of the loaded body, and the WORK area (R294, R299). -/
  loadLen : Nat
  work : Nat
  bodyCrc : Nat
  /-- The bytes of an image being read (R295). -/
  incoming : List Byte
  /-- Steady time of the last health signal (R299). -/
  healthAt : Nat
  /-- Health missed already raised for the present gap; injected: health signals suppressed (R305). -/
  missed : Bool
  deaf : Bool
  /-- Engine state to return to if the present load fails (R295). -/
  before : Nat
  /-- The state of the image (R324) and its parameters, keyed by PARAM_ID (R321). -/
  imgState : Nat
  params : SMap Nat
  pendingParams : SMap Nat
  /-- Counters of the image, keyed by index (R327). -/
  counters : SMap Nat
  /-- Commands accepted and not complete: origin, tag, opcode. -/
  cmds : List (Nat × Nat × Nat)
  /-- Replies held while the mailbox is full (R312, R313). -/
  replies : List (List Word)
  replay : List ReplayOrigin
  accepts : Nat
  /-- Steady ns of the last bus errors, newest first (R326). -/
  busErrs : List Nat
  /-- Addresses of bus errors that the image has not handled yet (R138, R326). -/
  owed : List Nat
  /-- The configuration has been read and is valid (R323, R352). -/
  cfgOk : Bool
  /-- Bit-level I/O FIFOs (R540): output edges as (pin, target, level) with pin 0 TXD and 1 DE; input edges as
  (pin, stamp, level) with pin 0 RXD and 1 RXB; the levels driven, and the last stamp of each input. -/
  bitOut : List (Nat × Nat × Bool)
  bitIn : List (Nat × Nat × Bool)
  bitLevel : Nat
  bitLast : List (Option Nat)
  deriving DecidableEq, Repr

def Engine.blank : Engine :=
  { loadLen := 0, work := 0, bodyCrc := 0, incoming := [], healthAt := 0, missed := false, deaf := false, before := 0,
    imgState := 0, params := [], pendingParams := [], counters := [], cmds := [], replies := [],
    replay := [], accepts := 0, busErrs := [], owed := [], cfgOk := false, bitOut := [], bitIn := [], bitLevel := 0, bitLast := [none, none] }

structure CorePart where
  cores : List Core
  engines : List Engine
  /-- Debug challenge nonce and its issue time (R290), failures since the last success, and the
  steady time until which authdata refuses. -/
  dbgNonce : Option (List Byte × Nat)
  dbgFails : Nat
  dbgRefuse : Nat
  /-- dmactive of the debug module (R291). -/
  dbgActive : Bool
  /-- Abstract command error and data of the debug module (R289). -/
  cmderr : Nat
  dbgData : Nat
  progbuf : List Word
  /-- Triggers of the harts: key 8 * hart + 2 * index for what each matches, the next key for the value compared (R289). -/
  triggers : SMap Nat
  deriving DecidableEq, Repr

/-! ### TIME, chapter 11 -/

/-- Traceable-time states, numbered as TSTATE (R405). -/
inductive TState where
  | invalid | freerun | tracking | hold
  deriving DecidableEq, Repr

/-- A time-event output outside its page (R416 to R420). -/
structure Tev where
  /-- Next boundary in ns of the base. -/
  next : Int
  /-- Lowest boundary fired since the arming. -/
  first : Option Int
  /-- A pulse is in progress. -/
  pulse : Bool
  /-- The arming found its target less than 64 ns away or passed (R417). -/
  late : Bool
  deriving DecidableEq, Repr

/-- A latched view of time for one initiator (R424): traceable time is none while INVALID. -/
structure TimeLatch where
  bay : Nat
  kind : Nat
  inst : Nat
  q : Nat
  trace : Option Int
  deriving DecidableEq, Repr

/-- The time base.  `q` and `dup` count steady time and its duplicate in 2^-32 ns (R397, R431); OFFSET
and the slew still to apply are in the same unit (R404, R407). -/
structure TimePart where
  q : Nat
  dup : Nat
  /-- FAB_CLK edges since the device reset. -/
  edges : Nat
  ofs : Int
  slew : Int
  /-- What the slew has gained below its resolution of 2^-32 ns, in millionths of it (R407). -/
  slewRem : Nat
  state : TState
  latches : List TimeLatch
  tev : List Tev
  /-- Steady ns of the last submission, or of the apply edge (R410). -/
  lastSub : Nat
  /-- TCAP stores, oldest first, as stamp and level (R421). -/
  tcap : List (List (Nat × Bool))
  /-- Stamp of the last captured edge of each TCAP input (R421). -/
  tcapLast : List (Option Nat)
  deriving DecidableEq, Repr

/-! ### QDR, chapter 12 -/

/-- The matrix of a context: its record, windows and instants, as held in the working memory (R463). -/
structure Matrix where
  row : List Byte
  wins : List (List Byte)
  insts : List (List Byte)
  deriving DecidableEq, Repr

/-- An open window on one port that it governs (R437, R440, R452). -/
structure OpenWin where
  row : List Byte
  port : Nat
  /-- 0 channel A or the only one, 1 channel B (R452). -/
  chan : Nat
  /-- Steady ns of the start edge. -/
  opened : Nat
  /-- Guard limit in ns of context time (R439). -/
  limit : Int
  /-- New transmissions may start: not a merged window (R438). -/
  starts : Bool
  /-- Exclusive: descriptor indexes of the ETH batch, or the CAN sender that was ready (R440). -/
  batch : List Nat
  /-- Cause 0x2001 raised for this window (R441). -/
  late : Bool
  /-- Keys received valid on this port in this instance, each with its bits in DETAIL (R454). -/
  heard : List (Nat × Nat)
  deriving DecidableEq, Repr

/-- A schedule context (R434 to R450). -/
structure Ctx where
  mat : Matrix
  /-- The changed matrix and the index of its first cycle start (R456). -/
  change : Option (Matrix × Nat)
  /-- OFS and the trim still to apply, in 2^-32 ns (R435, R449). -/
  ofs : Int
  trim : Int
  trimming : Bool
  /-- Index k of the next cycle start, which lies at C = 4 (k L + PHASE) (R435). -/
  next : Nat
  /-- MODE in effect (R448). -/
  mode : Nat
  /-- A reference message has started in this cycle (R450). -/
  refSeen : Bool
  wins : List OpenWin
  /-- What the trim has gained below its resolution of 2^-32 ns, in millionths of it (R449). -/
  trimRem : Nat
  /-- CHAN 2 windows that have ended, each with the last steady ns of the window, `starts` while a reception that began in
  it goes on (R454). -/
  ended : List (OpenWin × Nat)
  deriving DecidableEq, Repr

/-! ### ETH, chapter 13 -/

/-- A frame in transmit memory (R473, R485). -/
structure EthFrame where
  /-- TX queue, and the port and index of its descriptor. -/
  k : Nat
  src : Nat
  idx : Nat
  /-- 0 one copy, 1 channel or LAN A, 2 channel or LAN B of a pair. -/
  copy : Nat
  /-- The pair is a PRP pair (R485), else a CHAN 2 window's (R453). -/
  prp : Bool
  /-- The whole frame without preamble and, unless NO_FCS, without FCS. -/
  data : List Byte
  noFcs : Bool
  oneStep : Bool
  /-- On the line, from this steady ns. -/
  start : Option Nat
  /-- OFFSET in 2^-32 ns at that edge, none while traceable time was INVALID (R478). -/
  traced : Option Int
  deriving DecidableEq, Repr

/-- A paired frame whose copies are not both final: per copy, sent with its stamp, or failed with its cause (R453, R486). -/
structure EthPair where
  src : Nat
  k : Nat
  idx : Nat
  a : Option (Bool × Nat)
  b : Option (Bool × Nat)
  deriving DecidableEq, Repr

/-- An event FIFO entry (R483). -/
structure PtpEvent where
  stamp : Nat
  seqId : Nat
  kind : Nat
  dir : Nat
  domain : Nat
  deriving DecidableEq, Repr

/-- A duplicate-table entry (R487): key, LANs seen, expiry in steady ns. -/
structure PrpEntry where
  sa : Nat
  seq : Nat
  lans : Nat
  expiry : Nat
  deriving DecidableEq, Repr

structure EthPort where
  staged : List EthFrame
  pairs : List EthPair
  ptp : List PtpEvent
  prp : List PrpEntry
  prpSeq : Nat
  /-- Missing counts of the present interval, LAN A and LAN B (R488). -/
  missA : Nat
  missB : Nat
  /-- RX_FRAMES and RX_FCS_ERR of the present interval (R498). -/
  rxFrames : Nat
  rxErrs : Nat
  /-- Credits in 10^-6 bits, and the steady ns of their last update (R475). -/
  credit : List Int
  creditAt : Nat
  /-- Steady ns at which a pause ends (R467). -/
  pauseTo : Nat
  /-- An MDIO frame in progress (R469). -/
  mdio : Bool
  deriving DecidableEq, Repr

def EthPort.cold : EthPort :=
  { staged := [], pairs := [], ptp := [], prp := [], prpSeq := 0, missA := 0, missB := 0, rxFrames := 0,
    rxErrs := 0, credit := List.replicate 8 0, creditAt := 0, pauseTo := 0, mdio := false }

/-! ### CAN and SER, chapter 14 -/

/-- A twin-mode key entry (R526): key, buses seen, expiry in steady ns. -/
structure TwinEntry where
  key : Nat
  buses : Nat
  expiry : Nat
  deriving DecidableEq, Repr

/-- A transmission on a bus: the controller and number of its buffer, its start, and how it started:
0 by arbitration, 1 in an exclusive window (R522), 2 there on both channels (R453). -/
structure CanTx where
  ctrl : Nat
  buf : Nat
  at_ : Nat
  excl : Nat
  deriving DecidableEq, Repr

structure CanPort where
  tx : Option CanTx
  /-- Buffers past their commit point (R519). -/
  committed : Nat
  /-- Buffers sent on two buses: copies still to be sent on bus A and B, copies that succeeded, FAILS of the
  bus B copies, and the cause of a failed bus A copy (R453, R527). -/
  leftA : Nat
  leftB : Nat
  okA : Nat
  okB : Nat
  failsB : SMap Nat
  causeA : SMap Nat
  /-- Descriptor index plus 1 that feeds each queued buffer (R531). -/
  fed : SMap Nat
  twin : List TwinEntry
  missA : Nat
  missB : Nat
  /-- Verdict on 0x2802 given, and RECOVER written before it (R529). -/
  verdict : Bool
  recover : Bool
  /-- Integration in progress (R507). -/
  joining : Bool
  /-- FAB_CLK edges at which TSC was 0 (R515). -/
  tscFrom : Nat
  /-- A reference message seen in the present cycle, and one ever (R524). -/
  refSeen : Bool
  refEver : Bool
  /-- The next frame is forced to a bit error (R546). -/
  forceErr : Bool
  deriving DecidableEq, Repr

def CanPort.cold : CanPort :=
  { tx := none, committed := 0, leftA := 0, leftB := 0, okA := 0, okB := 0, failsB := [], causeA := [], fed := [],
    twin := [], missA := 0, missB := 0, verdict := false, recover := false, joining := false, tscFrom := 0,
    refSeen := false, refEver := false, forceErr := false }

structure SerPort where
  /-- TX FIFO; RX FIFO entries as (RXDATA flags and character, stamp, end stamp) (R536). -/
  txf : List Nat
  rxf : List (Nat × Nat × Nat)
  /-- A character on the line, with the steady ns of its start bit. -/
  sending : Option Nat
  /-- The TX descriptor in progress: index, bytes sent, start stamp of its first character (R537). -/
  txd : Option (Nat × Nat × Nat)
  /-- The RX descriptor in progress: bytes stored, first start stamp, last end stamp, error count. -/
  rxLen : Nat
  rxStamp : Nat
  rxEnd : Nat
  rxErr : Nat
  /-- A break that completes the next descriptor (R545). -/
  rxBreak : Bool
  /-- Characters and errors of the present interval (R548). -/
  chars : Nat
  errs : Nat
  deriving DecidableEq, Repr

def SerPort.cold : SerPort :=
  { txf := [], rxf := [], sending := none, txd := none, rxLen := 0, rxStamp := 0, rxEnd := 0, rxErr := 0,
    rxBreak := false, chars := 0, errs := 0 }

structure PortPart where
  ctxs : List (Option Ctx)
  eth : List EthPort
  can : List CanPort
  ser : List SerPort
  deriving DecidableEq, Repr

/-! ### Viaduct and Trestle lanes, chapters 15 and 16 -/

/-- A frame of a lane (R556, R602): type, SEQ, START byte 7, data, and its place in the order of R562 or R604. -/
structure LFrame where
  ftype : Nat
  seq : Nat
  b7 : Nat
  data : List Byte
  pri : Nat
  deriving DecidableEq, Repr

/-- One of LANE2 to LANE5 (R553 to R562). -/
structure Lane where
  /-- The frame on the lane. -/
  cur : Option LFrame
  /-- ACK, NAK and HB that wait. -/
  ctl : List LFrame
  /-- Sequenced frames that this lane has still to send: copies and replays. -/
  copies : List LFrame
  /-- Consecutive returns from LOCK to DOWN, and the rate, 1 for 6.25 Gbaud (R555). -/
  downs : Nat
  rate : Nat
  /-- TX_STEADY and receipt of the last HB, in steady ns (R574). -/
  hbTx : Nat
  hbRx : Nat
  /-- A valid frame with a higher SEQ has arrived (R560). -/
  higher : Bool
  /-- Held in TS1 by ID_CLASH or MISWIRED (R553, R598). -/
  clash : Bool
  /-- Values of d, newest first (R588, R620). -/
  delays : List Int
  deriving DecidableEq, Repr

def Lane.cold : Lane := ⟨none, [], [], 0, 0, 0, 0, false, false, []⟩

/-- One sequenced connection: Viaduct, or a Trestle hop (R559 to R561, R602). -/
structure Hop where
  txSeq : Nat
  rxSeq : Nat
  waiting : List LFrame
  unacked : List LFrame
  /-- In-order frames not yet acknowledged. -/
  unsent : Nat
  /-- The last NAK: its expected SEQ and steady ns. -/
  nak : Option (Nat × Nat)
  /-- Replay events of the present interval (R594). -/
  replays : Nat
  deriving DecidableEq, Repr

def Hop.cold : Hop := ⟨0, 0, [], [], 0, none, 0⟩

/-- A received bound message that waits for room (R587, R617): mailbox, far mailbox, words, and where the
answer goes: 8 for Viaduct with the bay and generation, else position with ESEQ and HOME. -/
structure HeldMsg where
  mbx : Nat
  src : Nat
  words : List Word
  via : Nat
  a : Nat
  b : Nat
  deriving DecidableEq, Repr

structure VdtPart where
  /-- Consecutive missed heartbeats; the partner declared lost; 0x3405 raised (R577, R578). -/
  misses : Nat
  lost : Bool
  disagree : Bool
  /-- ACTIVE bays queue no mirror line until the link is UP again (R578). -/
  quiet : Bool
  /-- A valid HB has arrived since the apply edge (R573), and the fields of the last one (R574). -/
  hbSeen : Bool
  pPaired : Nat
  pActive : Nat
  pStandby : Nat
  pStatus : Nat
  /-- Bays whose takeover edge is awaited (R579). -/
  taking : Nat
  /-- Mirror queues: line address, region, stamp (R563). -/
  mq : List (List (Nat × Nat × Nat))
  /-- Bulk pass of a bay: index of the next line (R584). -/
  bulk : List (Option Nat)
  /-- Bays refused a resynchronization, with both CONFIG_IDs then (R584). -/
  refused : List (Nat × Nat × Nat)
  held : List HeldMsg
  /-- Doorbells received behind a held message. -/
  bells : List Nat
  /-- TX_STEADY and own FAB_CLK time at 4 ns a cycle of the last HBs, newest first (R588). -/
  samples : List (Int × Int)
  /-- Steady ns of receipt of the last HB; partner traceable ns at TX_STEADY of that HB, none while INVALID. -/
  hbAt : Nat
  pTrace : Option Int
  deriving DecidableEq, Repr

def VdtPart.cold : VdtPart :=
  { misses := 0, lost := false, disagree := false, quiet := false, hbSeen := false, pPaired := 0, pActive := 0,
    pStandby := 0, pStatus := 0, taking := 0, mq := List.replicate 8 [],
    bulk := List.replicate 8 none, refused := [], held := [], bells := [], samples := [], hbAt := 0, pTrace := none }

/-- What a core's access to another member does at its response: the register it writes (0 to 31 integer, 32 to 63
floating-point), the bytes read and whether they are sign-extended, and the pc after the instruction. -/
structure CoreWait where
  reg : Option Nat
  bytes : Nat
  sext : Bool
  pc : Nat
  deriving DecidableEq, Repr

/-- What waits for a response (R610): an initiator's access, a mailbox message, a doorbell. -/
inductive TrsUse where
  | access (by_ : Init) (write : Bool) (addr : Nat) (core : Option CoreWait)
  | message (mbx : Nat)
  | bell (mbx : Nat)
  /-- QMGR at an end: the descriptor of an index, a part of its source buffer, a part of its sink buffer, the completion
  entry at the front. -/
  | ring (q e idx : Nat)
  | pull (q e idx off : Nat)
  | push (q e idx : Nat)
  | entry (q e : Nat)
  deriving DecidableEq, Repr

structure TrsReq where
  dst : Nat
  eseq : Nat
  use : TrsUse
  deriving DecidableEq, Repr

/-- A claim held for another member (R613 to R615). -/
structure TrsClaim where
  home : Nat
  bay : Nat
  res : Nat
  pinFirst : Nat
  pinCount : Nat
  num : Nat
  /-- The level of its interrupt line as last forwarded. -/
  level : Bool
  deriving DecidableEq, Repr

structure TrsPart where
  /-- Next ESEQ per destination, and the last ESEQ executed plus 1 per source (R603, R609). -/
  eseqTx : SMap Nat
  eseqRx : SMap Nat
  open_ : List TrsReq
  /-- Requests that wait for the next edge, or because 64 are outstanding (R610), as frames with their use; byte 7 holds
  HOME. -/
  queue : List (Nat × LFrame × TrsUse)
  claims : List TrsClaim
  /-- Lost hops, bit per lower position; hops lost whose ROUTE BREAK is awaited, bit 0 LANE4, bit 1 LANE5. -/
  lostHops : Nat
  awaiting : Nat
  /-- Neighbour position per lane, as its HB says (R607), and its strap, as its TS blocks say (R598); 255 none. -/
  near : List Nat
  straps : List Nat
  /-- The position of this member is not assigned yet (R599, R607). -/
  unplaced : Bool
  /-- TIME: last MASTER_STEADY relayed, samples (M, own FAB_CLK time at 4 ns a cycle), newest first, consecutive good
  ones (R620). -/
  lastTime : Option Nat
  samples : List (Int × Int)
  good : Nat
  /-- The master's traceable ns at M and own steady ns at receipt of the last TIME frame; none while INVALID. -/
  lastTrace : Option (Int × Int)
  deriving DecidableEq, Repr

def TrsPart.cold : TrsPart :=
  { eseqTx := [], eseqRx := [], open_ := [], queue := [], claims := [], lostHops := 0, awaiting := 0, near := [0xFF, 0xFF],
    straps := [0xFF, 0xFF], unplaced := false,
    lastTime := none, samples := [], good := 0, lastTrace := none }

structure LinkPart where
  /-- LANE2 to LANE5. -/
  lanes : List Lane
  /-- Viaduct, Trestle LANE4, Trestle LANE5. -/
  hops : List Hop
  vdt : VdtPart
  trs : TrsPart
  deriving DecidableEq, Repr

/-! ### ADC and SDM, chapter 19 -/

/-- A requester's run on a converter (R698): SRC 0 sequence, 1 drive unit, 2 SUP, 3 check; its number; the
conversions left as (local index, slot, quantity); whether it started on its own edge; the trigger's steady ns. -/
structure AdcRun where
  src : Nat
  num : Nat
  left : List (Nat × Nat × Nat)
  onTime : Bool
  at_ : Nat
  /-- Result words of the run so far, and the stamp of slot 0. -/
  words : List Nat
  stamp : Nat
  deriving DecidableEq, Repr

structure AdcPort where
  waiting : List AdcRun
  run : Option AdcRun
  /-- Steady ns of the start edge of the conversion in progress (R696). -/
  start : Nat
  /-- The next conversion carries SUSPECT (R705). -/
  suspect : Bool
  /-- Per local index: results sampled before this steady ns carry SUSPECT (R705). -/
  until_ : SMap Nat
  /-- The descriptor in progress: bytes written, stamp of its first record (R708). -/
  rxLen : Nat
  rxStamp : Nat
  /-- Injected: the next conversion of a local index saturates; one REF result is offset (R721). -/
  forceSat : Option Nat
  refOfs : Bool
  deriving DecidableEq, Repr

def AdcPort.cold : AdcPort :=
  { waiting := [], run := none, start := 0, suspect := false, until_ := [], rxLen := 0, rxStamp := 0, forceSat := none, refOfs := false }

structure SdmPort where
  /-- Data outputs that still carry SUSPECT (R710, R713). -/
  suspect : Nat
  /-- The level of a saturated line (R713). -/
  level : Bool
  rxLen : Nat
  rxStamp : Nat
  /-- One level for 65,536 clocks, or a clock pad that does not toggle (R714). -/
  stuck : Bool
  deriving DecidableEq, Repr

def SdmPort.cold : SdmPort := ⟨0, false, 0, 0, false⟩

/-! ### DRV, chapters 17 and 18 -/

/-- A leg of the inverter (R633, R634): its value, none with both switches off; which outputs are at their on
levels and since when; an incoming switch in its dead time; a deferred value. -/
structure Leg where
  val : Option Bool
  hi : Bool
  lo : Bool
  hiAt : Nat
  loAt : Nat
  dead : Option Bool
  want : Option Bool
  deriving DecidableEq, Repr

def Leg.cold : Leg := ⟨none, false, false, 0, 0, none, none⟩

/-- A drive unit outside its registers.  Values are in the formats of R643. -/
structure DrvUnit where
  /-- The active set, and a TAG selection held for READY (R655, R657). -/
  set : List Byte
  held : Option Nat
  /-- TREF, SREF, PSIREF and TLIM as taken, and SREF taken before (R662, R676). -/
  refs : List Int
  lastS : Int
  /-- Result words of the seven quantities, and which are fresh in this decision. -/
  meas : List Nat
  fresh : Nat
  /-- Pole-voltage samples of the interval, and of the one before: quantity and result word (R641). -/
  poles : List (Nat × Nat)
  polesPrev : List (Nat × Nat)
  /-- Currents and VDC of the last decision, observer, comparators (R640 to R652). -/
  ia : Int
  ib : Int
  vdc : Int
  psa : Int
  psb : Int
  act : Int
  s1 : Nat
  s2 : Nat
  sel : Option Nat
  dpsi : Bool
  dt : Int
  theta : Nat
  thetaPll : Nat
  integ : Int
  wHat : Int
  wEst : Int
  /-- Torque reference in force, speed integral, its limit flag, ramp r, target, last applied Tg. -/
  torque : Int
  spdI : Int
  limited : Bool
  atGen : Bool
  speed : Bool
  ramp : Int
  target : Int
  /-- Consecutive failing decisions of tests 1, 3 and 4, and of VDC high and low; decisions since entry (R674, R680). -/
  nFlux : Nat
  nSpeed : Nat
  nRes : Nat
  nHigh : Nat
  nLow : Nat
  since : Nat
  /-- Leg changes and decisions in the band window; leg changes per leg in the interval (R641, R654). -/
  ntr : Nat
  win : Nat
  chg : List Nat
  chgPrev : List Nat
  legs : List Leg
  /-- Chopper: selected level, since when on, on time in the interval, its start; held off until TRIP_CLEAR (R675, R684). -/
  brkSel : Bool
  brkAt : Nat
  brkOn : Nat
  brkFrom : Nat
  brkHeld : Bool
  /-- Kinetic hold: entry state, integral, entry commanded (R678, R679). -/
  khFrom : Nat
  khI : Int
  khReq : Bool
  /-- Position test: pulse in progress, rise times so far in ns; its phase, 0 the vector itself, 1 the opposite one, 2 the
  zero vector, with the steady ns at which the last two end (R664). -/
  pulse : Option Nat
  rises : List Nat
  phase : Nat
  phaseEnd : Nat
  /-- MSRC and MGAIN words of the seven quantities as of the last START, none before the first (R663). -/
  src : List (Nat × Nat)
  /-- The flux reference of the last decision outside kinetic hold (R679). -/
  psiRef : Int
  /-- Magnetization: decisions and V1 decisions so far (R665). -/
  magN : Nat
  magOn : Nat
  /-- Catch-spin step, and the first current vector (R682). -/
  step : Nat
  i1 : Int × Int
  /-- STOP received in a start state; COAST waits for the apply edge. -/
  stopReq : Bool
  coast : Bool
  /-- Trip inputs active: OCP A to C, FLT, DSAT A to C (R685). -/
  inputs : Nat
  /-- Failing outputs of R669, bit per output, until a device reset. -/
  bad : Nat
  /-- Ticks of the aligned context stopped by a delta: steady ns of the last tick (R667). -/
  lastTick : Nat
  /-- Injected: one bit of the next set as read inverted; the flux angle rotated in the next decision; decisions with the
  link voltage forced above its limit, true, or below its minimum (R668, R691). -/
  injSet : Bool
  injRot : Bool
  injVdc : Nat × Bool
  deriving DecidableEq, Repr

def DrvUnit.cold : DrvUnit :=
  { set := [], held := none, refs := [0, 0, 0, 0], lastS := 0, meas := List.replicate 7 0, fresh := 0,
    poles := [], polesPrev := [], ia := 0, ib := 0, vdc := 0, psa := 0, psb := 0, act := 0, s1 := 0, s2 := 0,
    sel := none, dpsi := false, dt := 0, theta := 0, thetaPll := 0, integ := 0, wHat := 0, wEst := 0, torque := 0,
    spdI := 0, limited := false, atGen := false, speed := false, ramp := 0, target := 0, nFlux := 0, nSpeed := 0,
    nRes := 0, nHigh := 0, nLow := 0, since := 0, ntr := 0, win := 0, chg := [0, 0, 0], chgPrev := [0, 0, 0], legs := List.replicate 3 Leg.cold,
    brkSel := false, brkAt := 0, brkOn := 0, brkFrom := 0, brkHeld := false, khFrom := 0, khI := 0, khReq := false,
    pulse := none, rises := [], phase := 0, phaseEnd := 0, src := [], psiRef := 0, magN := 0, magOn := 0, step := 0, i1 := (0, 0), stopReq := false, coast := false,
    inputs := 0, bad := 0, lastTick := 0, injSet := false, injRot := false, injVdc := (0, false) }

/-! ### SUP, chapter 20 -/

structure SupPart where
  /-- Vn in 2^-32 mV (R727). -/
  vn : Nat
  /-- Line phase in U0.32 turns at a steady ns, and the loop's frequency in mHz (R726). -/
  theta : Nat
  thetaAt : Nat
  freq : Nat
  /-- Lengths of the last periods in ns, newest first, and the start of the present one. -/
  periods : List Nat
  zeroAt : Nat
  /-- Consecutive periods outside and inside the range (R733). -/
  outside : Nat
  inside : Nat
  freqBad : Bool
  /-- Samples of the slow value, newest first: steady ns and mV; the limit at which the newest stands (R733). -/
  samples : List (Nat × Int)
  ovr : Int
  /-- The slow value 1 ms ago. -/
  lastMs : Int
  runGap : Nat
  runClear : Nat
  gapAt : Nat
  /-- t_det exceeded at the last rise of the source's EN (R732). -/
  late : Bool
  /-- Groups shed, newest first; steady ns of the last shed or restore; the shed under measurement and its edge;
  steady ns since which the kinetic set is not empty (R739). -/
  order : List Nat
  movedAt : Option Nat
  cand : Option (Nat × Nat)
  khAt : Nat
  /-- Power of the kinetic set in mW, newest first, with the steady ns since which it holds. -/
  power : List (Nat × Int)
  /-- The stay: in RIDE_THROUGH or SHED since NORMAL, and the groups measured in it (R740). -/
  ridden : Bool
  measured : Nat
  /-- Learned data (R747): rank moves, measurement counts, stays in RIDE_THROUGH. -/
  delta : List Int
  count : List Nat
  stays : Nat
  /-- LP10 write due, steady ns of the last one, and Vn at it in mV (R748). -/
  lpDue : Bool
  lpAt : Option Nat
  lpVn : Nat
  /-- Groups whose unavailability SUP has acted on (R741, R754). -/
  known : Nat
  /-- Injected: fast values forced to 0, slow value forced (1 DIP, 2 SURGE), source stuck until (R755). -/
  forceGap : Nat
  forceSlow : Nat
  forceStuck : Nat
  deriving DecidableEq, Repr

def SupPart.cold : SupPart :=
  { vn := 0, theta := 0, thetaAt := 0, freq := 0, periods := [], zeroAt := 0, outside := 0, inside := 0, freqBad := false
    samples := [], ovr := 0, lastMs := 0, runGap := 0, runClear := 0, gapAt := 0, late := false, order := []
    movedAt := none, cand := none, khAt := 0, power := [], ridden := false, measured := 0
    delta := List.replicate 8 0, count := List.replicate 8 0, stays := 0, lpDue := false, lpAt := none, lpVn := 0
    known := 0, forceGap := 0, forceSlow := 0, forceStuck := 0 }

/-! ### CLP, chapter 21 -/

/-- A loop output: SET as taken, T_eff and I_hold in 1/1024 µA, consecutive measurements of R761, R763 and R772; injected:
measurements with H read as 500 mV, and with the sense reading offset. -/
structure CloPort where
  set : Nat
  teff : Nat
  hold : Nat
  low : Nat
  err : Nat
  good : Nat
  neg : Nat
  limS : Nat
  limV : Nat
  beyond : Nat
  injH : Nat
  injS : Nat
  deriving DecidableEq, Repr

def CloPort.cold : CloPort := ⟨0x2AAB, 0, 0, 0, 0, 0, 0, 0, 0, 0, 0, 0⟩

/-- A loop input: the last measurements in µA, newest first; consecutive measurements that meet each condition of
R765; injected: measurements left and the value. -/
structure CliPort where
  last : List Int
  nOpen : Nat
  nLow : Nat
  nHigh : Nat
  nOk : Nat
  inj : Nat
  injV : Int
  deriving DecidableEq, Repr

def CliPort.cold : CliPort := ⟨[], 0, 0, 0, 0, 0, 0⟩

/-! ### CAP, chapter 22 -/

/-- A key or an approach channel: baselines by frequency, consecutive scans of each condition of R779 and R783, steady ns
of the touch; injected scans and the RAW they read. -/
structure CapElem where
  base : List Nat
  on : Nat
  off : Nat
  neg : Nat
  nOpen : Nat
  nShort : Nat
  clearO : Nat
  clearS : Nat
  at_ : Nat
  inj : Nat
  injV : Nat
  deriving DecidableEq, Repr

def CapElem.cold : CapElem := ⟨List.replicate 8 0, 0, 0, 0, 0, 0, 0, 0, 0, 0, 0⟩

/-- A film channel: the sum and count of the average, the record in use, and its temperature (R785 to R789). -/
structure Film where
  sum : Nat
  n : Nat
  record : List Byte
  /-- Injected: FI read as DEW_INDEX for one update (R796). -/
  inj : Bool
  deriving DecidableEq, Repr

def Film.cold : Film := ⟨0, 0, [], false⟩

structure CapPart where
  keys : List CapElem
  sns : List CapElem
  film : List Film
  /-- Frequencies of the baseline load still to scan (R779). -/
  load : List Nat
  /-- Frequencies that hold a noise value, the frequency listened to next, consecutive scans of R778, the hop to make. -/
  heard : Nat
  next : Nat
  hopN : Nat
  noisyN : Nat
  quietN : Nat
  hopTo : Option Nat
  /-- GLOVE as taken at the scan start. -/
  glove : Bool
  /-- CAP_TEMP_SW is younger than 10 s (R788). -/
  tempOk : Bool
  /-- A slow scan has loaded SLEEP_BASE; consecutive slow scans at the threshold (R781). -/
  slow : Bool
  slowN : Nat
  /-- Injected: scans whose noise reads 0xFFFF; a record bit read inverted. -/
  injNoise : Nat
  injBit : Bool
  deriving DecidableEq, Repr

def CapPart.cold : CapPart :=
  { keys := List.replicate 64 CapElem.cold, sns := List.replicate 8 CapElem.cold, film := List.replicate 8 Film.cold, load := []
    heard := 0, next := 0, hopN := 0, noisyN := 0, quietN := 0, hopTo := none, glove := false, tempOk := false
    slow := false, slowN := 0, injNoise := 0, injBit := false }

/-! ### TAG, chapter 23 -/

/-- The phases of an inventory (R801, R803, R805). -/
inductive TagPhase where
  /-- Receiver check; the field is off. -/
  | check
  /-- ANT_SETTLE after a change of antenna; the field is off. -/
  | antenna
  /-- FIELD_SETTLE with the load check. -/
  | field
  /-- A slot runs. -/
  | slot
  /-- The last round on the last antenna has ended. -/
  | ended
  deriving DecidableEq, Repr

structure TagRun where
  phase : TagPhase
  /-- Antennas still to visit, the present one included, and the protocols named. -/
  ants : Nat
  ant : Nat
  protos : Nat
  slots1 : Bool
  /-- Protocol of the round. -/
  proto : Nat
  /-- ISO/IEC 15693: requests that wait, each as mask length and mask; the running one, whether it has one slot, its slot. -/
  reqs : List (Nat × Nat)
  kids : List (Nat × Nat)
  len : Nat
  mask : Nat
  one : Bool
  slot : Nat
  /-- Mode 3: Qfp in 1/16, Q, slots since the frame began, a reply in it. -/
  qfp : Nat
  q : Nat
  frame : Nat
  heard : Bool
  /-- Slots of the round and records of the antenna and protocol. -/
  slots : Nat
  found : Nat
  /-- An antenna passed the load check; the first slot has been committed; an abort came after it. -/
  tried : Bool
  began : Bool
  abort : Bool
  deriving DecidableEq, Repr

structure TagPart where
  run : Option TagRun
  /-- The field, and TAG_ANT_SEL (R801). -/
  fieldOn : Bool
  antSel : Nat
  /-- Injected: the next load check fails; the next receiver check fails. -/
  injLoad : Bool
  injRx : Bool
  deriving DecidableEq, Repr

def TagPart.cold : TagPart := ⟨none, false, 0, false, false⟩

structure AnaPart where
  adc : List AdcPort
  sdm : List SdmPort
  drv : List DrvUnit
  /-- SUP's last AIN result, not yet used (R698). -/
  supWord : Nat
  supFresh : Bool
  sup : SupPart
  clo : List CloPort
  cli : List CliPort
  cap : CapPart
  tag : TagPart
  deriving DecidableEq, Repr

/-! ### PIN and GPIO, chapter 24 -/

/-- A pin in the park interval of a commit, with the configuration it takes at t1 (R830). -/
structure PinMove where
  pin : Nat
  target : Nat
  /-- The park state in force before the commit. -/
  oldPark : Nat
  deriving DecidableEq, Repr

structure PinPart where
  moves : List PinMove
  /-- OUT values that the pins drive, bit p (R834). -/
  driven : Nat
  /-- Pins that a SUP shed holds, bit p, and the levels it drives (R737, R834). -/
  shed : Nat
  shedLevel : Nat
  deriving DecidableEq, Repr

end Sys2Proof.Machine
end

