-- ==== Sys2Proof/Machine/State.lean ====
section
/-! DEFINITION.
The state of the block: its register file, its memories, the state of each block outside the register
tables, and the queue of waiting commands; then the state right after reset. -/

namespace Sys2Proof.Machine

/-- A register field: the register's address, the field's place, and the register's reset word. -/
structure Fld where
  addr : Nat
  lo : Nat
  w : Nat
  rst : Nat
  deriving DecidableEq, Repr

/-- Access codes (R5). -/
inductive Acc where
  | rw | ro | wo | w1c | w1s | rc | wl | bs
  deriving DecidableEq, Repr

/-- A field of the register table: place, access code, and whether it lies in the always-on domain. -/
structure FldDef where
  lo : Nat
  w : Nat
  acc : Acc
  ao : Bool
  deriving DecidableEq, Repr

/-- A register of the table: address of the first instance, (count, stride) of each instance letter,
reset word, fields. -/
structure RegDef where
  base : Nat
  dims : List (Nat × Nat)
  rst : Nat
  fields : List FldDef
  deriving DecidableEq, Repr

structure State where
  /-- The register file: each listed address holds the bits in which its register differs from its
  reset word, so that the empty list is every register at reset. -/
  regs : SMap Word
  /-- Shared SRAM and Reel local memories, byte by byte; an unlisted byte reads 0, which zeroization
  wrote (R89). -/
  mem : List Host.Cell
  /-- The non-volatile store by window offset (R222); it survives every reset. -/
  nvm : List Host.Cell
  /-- External QSPI flash behind the XIP window (R844); outside the device, kept over every reset. -/
  flash : List Host.Cell
  /-- The running configuration (chapter 02); empty before it is applied. -/
  cfg : List Sect
  sys : SysPart
  bay : BayPart
  sec : SecPart
  hif : HifPart
  memx : MemPart
  flt : FltPart
  core : CorePart
  msg : MsgPart
  time : TimePart
  port : PortPart
  link : LinkPart
  ana : AnaPart
  pin : PinPart
  /-- The model's own field: how many free values have been taken (not the spec's). -/
  free : Nat
  /-- The model's own field: the data answered to the last read command, by reading agent. -/
  answer : List Word
  /-- The commands that wait, first in, first out. -/
  pending : List Instr
  deriving DecidableEq, Repr

/-- No command ends in a fault: the block's errors are effects on its state. -/
inductive Fault where
  /-- Raised by no command of this model. -/
  | never
  deriving DecidableEq, Repr

/-- Why the model does not answer a next state. -/
inductive Refusal where
  /-- The command has no meaning in the model yet. Safe: nothing is claimed of it. -/
  | notModelled (mnemonic : String)
  deriving DecidableEq, Repr

def SysPart.afterPor : SysPart :=
  { phase := .pllWait, pwrEn := true, parked := true, railLow := 0, wakeLeft := 0, aoCauses := [],
    fltResets := 0, fltResetFirst := 0, aoNs := 0, xtalOff := false, lanesIdle := true, wake := none, holds := 0, dozeNs := 0 }

def BayPart.none : BayPart :=
  { released := 0, stopAfter := 0, resetDone := 0, coreHold := 0, wdt := List.replicate 8 0,
    wheel := List.replicate 64 8, rr := 0, closedGrants := [] }

def SlotRec.blank : SlotRec := ⟨0, 0, 0, false, false, 0⟩

def Otp.blank : Otp :=
  { hash := [Option.none, Option.none, Option.none, Option.none], revoked := 0,
    aes := [Option.none, Option.none], floors := [], uid := 0 }

/-- The volatile part of SEC, around what OTP and NVM keep. -/
def SecPart.cold (o : Otp) (a b : SlotRec) (once : Option Nat) : SecPart :=
  { otp := o, slotA := a, slotB := b, runSlot := 2, secVer := 0, keySlot := 0, openSlot := none,
    nonce := none, confirming := false, bootOnce := once, hostWait := false, held := [], replay := [],
    accepts := 0, delta := none, imgCmds := [], waiting := none }

/-- The volatile part of MEM, around the physical pages of the NVM. -/
def MemPart.cold (pages : SMap NvmPage) : MemPart :=
  { poison := [], writeback := [], test := none, passStart := 0, dirty := [], l2Locked := [],
    pages := pages, pgWrites := [], lp0Due := [] }

def FltPart.cold : FltPart :=
  { trackers := [], running := [], waiting := [], bucket := 64, notes := List.replicate 8 [],
    uses := 0, restarted := [], held := [], later := [], injecting := [], corrupt := [] }

def CorePart.cold : CorePart :=
  { cores := List.replicate 4 Core.cold, engines := List.replicate 12 Engine.blank, dbgNonce := none,
    dbgFails := 0, dbgRefuse := 0, dbgActive := true, cmderr := 0, dbgData := 0, progbuf := [],
    triggers := [] }

def PinPart.cold : PinPart := { moves := [], driven := 0, shed := 0, shedLevel := 0 }

def Tev.cold : Tev := ⟨0, none, false, false⟩

def TimePart.cold : TimePart :=
  { q := 0, dup := 0, edges := 0, ofs := 0, slew := 0, slewRem := 0, state := .invalid, latches := [], lastSub := 0,
    tev := List.replicate 8 Tev.cold, tcap := List.replicate 8 [], tcapLast := List.replicate 8 none }

def PortPart.cold : PortPart :=
  { ctxs := List.replicate 4 none, eth := List.replicate 4 EthPort.cold, can := List.replicate 4 CanPort.cold,
    ser := List.replicate 6 SerPort.cold }

def LinkPart.cold : LinkPart :=
  { lanes := List.replicate 4 Lane.cold, hops := List.replicate 3 Hop.cold, vdt := VdtPart.cold, trs := TrsPart.cold }

def AnaPart.cold : AnaPart :=
  { adc := List.replicate 4 AdcPort.cold, sdm := List.replicate 8 SdmPort.cold, drv := List.replicate 2 DrvUnit.cold,
    supWord := 0, supFresh := false, sup := SupPart.cold, clo := List.replicate 2 CloPort.cold
    cli := List.replicate 2 CliPort.cold, cap := CapPart.cold, tag := TagPart.cold }

def MsgPart.cold : MsgPart := { mbx := [], ends := [], bells := [], quotaHit := 0, remote := 0 }

/-- The machine right after power-on reset, with every strap at 0 and a crystal that oscillates: every register at its reset
word but REF_OK of SYS_CLK_STATUS, memories zero, nothing stored, the PLL not yet locked (R171, R205). -/
def State.reset : State :=
  { regs := [(0x40000004, 2#32)], mem := [], nvm := [], flash := [], cfg := [], sys := SysPart.afterPor, bay := BayPart.none,
    sec := SecPart.cold Otp.blank SlotRec.blank SlotRec.blank none, hif := HifPart.cold, memx := MemPart.cold [],
    flt := FltPart.cold, core := CorePart.cold, msg := MsgPart.cold, time := TimePart.cold, port := PortPart.cold,
    link := LinkPart.cold, ana := AnaPart.cold, pin := PinPart.cold, free := 0, answer := [], pending := [] }

end Sys2Proof.Machine
end

