-- ==== Sys2Proof/Machine/CfgRec.lean ====
section
/-! DEFINITION.
The fields of the configuration records, by section and table, at the offsets of chapter 02; every
field is big-endian (R41). -/

namespace Sys2Proof.Machine.C


/-! SYS table 0, REC_SIZE 16 -/
def SYS0.CORE_MODE (r : List Byte) : Nat := beAt r 0x0 1
def SYS0.SPARE_REEL (r : List Byte) : Nat := beAt r 0x1 1
def SYS0.PARK_TIME (r : List Byte) : Nat := beAt r 0x2 1
def SYS0.CLK_SRC (r : List Byte) : Nat := beAt r 0x3 1
def SYS0.LANE_EN (r : List Byte) : Nat := beAt r 0x4 1
def SYS0.ETH_MODE (r : List Byte) : Nat := beAt r 0x5 1
def SYS0.WAKE_SRC (r : List Byte) : Nat := beAt r 0x6 1
def SYS0.HOST (r : List Byte) : Nat := beAt r 0x7 1
def SYS0.FLASH (r : List Byte) : Nat := beAt r 0x8 1
def SYS0.DEBUG (r : List Byte) : Nat := beAt r 0x9 1

/-! BAYS table 0, REC_SIZE 64 -/
def BAYS0.BAY (r : List Byte) : Nat := beAt r 0x0 1
def BAYS0.FLAGS (r : List Byte) : Nat := beAt r 0x1 1
def BAYS0.SHARE (r : List Byte) : Nat := beAt r 0x2 1
def BAYS0.CORES (r : List Byte) : Nat := beAt r 0x3 1
def BAYS0.REELS (r : List Byte) : Nat := beAt r 0x4 2
def BAYS0.WDT_TIMEOUT (r : List Byte) : Nat := beAt r 0x6 2
def BAYS0.BANKS (r : List Byte) : Nat := beAt r 0x8 4
def BAYS0.DESC_QUOTA (r : List Byte) : Nat := beAt r 0xc 2
def BAYS0.QUEUE_BASE (r : List Byte) : Nat := beAt r 0x10 2
def BAYS0.QUEUE_COUNT (r : List Byte) : Nat := beAt r 0x12 2
def BAYS0.ENTRY (r : List Byte) : Nat := beAt r 0x14 4
def BAYS0.PERIPH (r : List Byte) : Nat := beAt r 0x18 8
def BAYS0.MBX (r : List Byte) : Nat := beAt r 0x20 8
def BAYS0.IRQ (r : List Byte) : Nat := beAt r 0x28 8

/-! BAYS table 1, REC_SIZE 8 -/
def BAYS1.KIND (r : List Byte) : Nat := beAt r 0x0 1
def BAYS1.NUMBER (r : List Byte) : Nat := beAt r 0x1 1
def BAYS1.BAY_A (r : List Byte) : Nat := beAt r 0x2 1
def BAYS1.BAY_B (r : List Byte) : Nat := beAt r 0x3 1
def BAYS1.DIR (r : List Byte) : Nat := beAt r 0x4 1

/-! MEMB table 0, REC_SIZE 8 -/
def MEMB0.BANK (r : List Byte) : Nat := beAt r 0x0 1
def MEMB0.MTEST (r : List Byte) : Nat := beAt r 0x1 1
def MEMB0.MTEST_INT (r : List Byte) : Nat := beAt r 0x2 2
def MEMB0.ZERO (r : List Byte) : Nat := beAt r 0x4 1

/-! MEMB table 1, REC_SIZE 8 -/
def MEMB1.BAY (r : List Byte) : Nat := beAt r 0x0 1
def MEMB1.WAYS (r : List Byte) : Nat := beAt r 0x2 2

/-! PINS table 0, REC_SIZE 8 -/
def PINS0.PIN (r : List Byte) : Nat := beAt r 0x0 1
def PINS0.BAY (r : List Byte) : Nat := beAt r 0x1 1
def PINS0.FUNC (r : List Byte) : Nat := beAt r 0x2 1
def PINS0.PARK (r : List Byte) : Nat := beAt r 0x3 1
def PINS0.DRIVE (r : List Byte) : Nat := beAt r 0x4 1
def PINS0.INPUT (r : List Byte) : Nat := beAt r 0x5 1
def PINS0.GPIO_INIT (r : List Byte) : Nat := beAt r 0x6 1

/-! IMGS table 0, REC_SIZE 16 -/
def IMGS0.REEL (r : List Byte) : Nat := beAt r 0x0 1
def IMGS0.IMAGE_ID (r : List Byte) : Nat := beAt r 0x1 1
def IMGS0.MIN_VER (r : List Byte) : Nat := beAt r 0x2 2
def IMGS0.SOURCE (r : List Byte) : Nat := beAt r 0x4 1
def IMGS0.CMD_MBX (r : List Byte) : Nat := beAt r 0x5 1
def IMGS0.QBASE (r : List Byte) : Nat := beAt r 0x6 2
def IMGS0.PORTS (r : List Byte) : Nat := beAt r 0x8 2
def IMGS0.QCOUNT (r : List Byte) : Nat := beAt r 0xa 1
def IMGS0.FLASH_OFFSET (r : List Byte) : Nat := beAt r 0xc 4

/-! IMGS table 1, REC_SIZE 8 -/
def IMGS1.REEL (r : List Byte) : Nat := beAt r 0x0 1
def IMGS1.PARAM_ID (r : List Byte) : Nat := beAt r 0x2 2
def IMGS1.VALUE (r : List Byte) : Nat := beAt r 0x4 4

/-! QDRS table 0, REC_SIZE 16 -/
def QDRS0.CTX (r : List Byte) : Nat := beAt r 0x0 1
def QDRS0.N_CYCLES (r : List Byte) : Nat := beAt r 0x1 1
def QDRS0.REDUND (r : List Byte) : Nat := beAt r 0x2 1
def QDRS0.CYCLE_LEN (r : List Byte) : Nat := beAt r 0x4 4
def QDRS0.PHASE (r : List Byte) : Nat := beAt r 0x8 4

/-! QDRS table 1, REC_SIZE 16 -/
def QDRS1.CTX (r : List Byte) : Nat := beAt r 0x0 1
def QDRS1.CYCLE (r : List Byte) : Nat := beAt r 0x1 1
def QDRS1.WIN (r : List Byte) : Nat := beAt r 0x2 1
def QDRS1.KIND (r : List Byte) : Nat := beAt r 0x3 1
def QDRS1.OFFSET (r : List Byte) : Nat := beAt r 0x4 4
def QDRS1.LENGTH (r : List Byte) : Nat := beAt r 0x8 4
def QDRS1.PORT (r : List Byte) : Nat := beAt r 0xc 1
def QDRS1.SENDER (r : List Byte) : Nat := beAt r 0xd 1
def QDRS1.CHAN (r : List Byte) : Nat := beAt r 0xe 1

/-! QDRS table 2, REC_SIZE 8 -/
def QDRS2.CTX (r : List Byte) : Nat := beAt r 0x0 1
def QDRS2.CYCLE (r : List Byte) : Nat := beAt r 0x1 1
def QDRS2.INST (r : List Byte) : Nat := beAt r 0x2 1
def QDRS2.OFFSET (r : List Byte) : Nat := beAt r 0x4 4

/-! TIME table 0, REC_SIZE 16 -/
def TIME0.STEP_THRESH (r : List Byte) : Nat := beAt r 0x0 4
def TIME0.FLAGS (r : List Byte) : Nat := beAt r 0x4 1
def TIME0.SLEW_LIMIT (r : List Byte) : Nat := beAt r 0x6 2
def TIME0.SOURCE (r : List Byte) : Nat := beAt r 0x8 1
def TIME0.SOURCE_REEL (r : List Byte) : Nat := beAt r 0x9 1
def TIME0.RATE_TRIM (r : List Byte) : Nat := beAt r 0xc 4

/-! SUPP table 0, REC_SIZE 32 -/
def SUPP0.SRC_KIND (r : List Byte) : Nat := beAt r 0x0 1
def SUPP0.SRC_CH (r : List Byte) : Nat := beAt r 0x1 1
def SUPP0.LINE (r : List Byte) : Nat := beAt r 0x2 1
def SUPP0.LEARN (r : List Byte) : Nat := beAt r 0x3 1
def SUPP0.NOMINAL (r : List Byte) : Nat := beAt r 0x4 4
def SUPP0.SCALE (r : List Byte) : Nat := beAt r 0x8 4
def SUPP0.DIP_PCT (r : List Byte) : Nat := beAt r 0xc 1
def SUPP0.GAP_PCT (r : List Byte) : Nat := beAt r 0xd 1
def SUPP0.SURGE_PCT (r : List Byte) : Nat := beAt r 0xe 1
def SUPP0.LEARN_BOUND (r : List Byte) : Nat := beAt r 0xf 1
def SUPP0.KH_DRV (r : List Byte) : Nat := beAt r 0x10 1
def SUPP0.INHIBIT_DRV (r : List Byte) : Nat := beAt r 0x11 1
def SUPP0.NOTIFY_BAYS (r : List Byte) : Nat := beAt r 0x12 1
def SUPP0.HOLD_MS (r : List Byte) : Nat := beAt r 0x14 2

/-! SUPP table 1, REC_SIZE 8 -/
def SUPP1.GROUP (r : List Byte) : Nat := beAt r 0x0 1
def SUPP1.PIN (r : List Byte) : Nat := beAt r 0x1 1
def SUPP1.SHED_LEVEL (r : List Byte) : Nat := beAt r 0x2 1
def SUPP1.ORDER_INIT (r : List Byte) : Nat := beAt r 0x3 1

/-! SUPP table 2, REC_SIZE 4 -/
def SUPP2.QUEUE (r : List Byte) : Nat := beAt r 0x0 2

/-! FLTP table 0, REC_SIZE 16 -/
def FLTP0.REC_N (r : List Byte) : Nat := beAt r 0x0 1
def FLTP0.REC_T (r : List Byte) : Nat := beAt r 0x4 4
def FLTP0.REPAIR (r : List Byte) : Nat := beAt r 0x8 1
def FLTP0.INJECT (r : List Byte) : Nat := beAt r 0x9 1
def FLTP0.LOG (r : List Byte) : Nat := beAt r 0xa 1

/-! FLTP table 1, REC_SIZE 8 -/
def FLTP1.BLOCK (r : List Byte) : Nat := beAt r 0x0 1
def FLTP1.N (r : List Byte) : Nat := beAt r 0x1 1
def FLTP1.CAUSE (r : List Byte) : Nat := beAt r 0x2 2
def FLTP1.T (r : List Byte) : Nat := beAt r 0x4 4

/-! DRVP table 0, REC_SIZE 16 -/
def DRVP0.DRV (r : List Byte) : Nat := beAt r 0x0 1
def DRVP0.MOTOR (r : List Byte) : Nat := beAt r 0x1 1
def DRVP0.VSENSE (r : List Byte) : Nat := beAt r 0x2 1
def DRVP0.BRAKE (r : List Byte) : Nat := beAt r 0x3 1
def DRVP0.DEAD (r : List Byte) : Nat := beAt r 0x4 2
def DRVP0.DEC_PERIOD (r : List Byte) : Nat := beAt r 0x6 2
def DRVP0.GATE_PARK (r : List Byte) : Nat := beAt r 0x8 1
def DRVP0.LOS_ACT (r : List Byte) : Nat := beAt r 0x9 1
def DRVP0.V_DC_LIM (r : List Byte) : Nat := beAt r 0xa 2
def DRVP0.PSET_DEFAULT (r : List Byte) : Nat := beAt r 0xc 1
def DRVP0.PSET_TAG (r : List Byte) : Nat := beAt r 0xd 1
def DRVP0.MIN_PULSE (r : List Byte) : Nat := beAt r 0xe 2

/-! CAPS table 0, REC_SIZE 16 -/
def CAPS0.FREQ_MASK (r : List Byte) : Nat := beAt r 0x0 1
def CAPS0.HOP_HYST (r : List Byte) : Nat := beAt r 0x1 1
def CAPS0.GLOVE (r : List Byte) : Nat := beAt r 0x2 1
def CAPS0.SLEEP_RATE (r : List Byte) : Nat := beAt r 0x3 1
def CAPS0.SLEEP_GANG (r : List Byte) : Nat := beAt r 0x4 2
def CAPS0.SCAN_US (r : List Byte) : Nat := beAt r 0x6 2

/-! CAPS table 1, REC_SIZE 8 -/
def CAPS1.KEY (r : List Byte) : Nat := beAt r 0x0 1
def CAPS1.TX (r : List Byte) : Nat := beAt r 0x1 1
def CAPS1.RX (r : List Byte) : Nat := beAt r 0x2 1
def CAPS1.THRESH (r : List Byte) : Nat := beAt r 0x4 2
def CAPS1.HYST (r : List Byte) : Nat := beAt r 0x6 1

/-! CAPS table 2, REC_SIZE 8 -/
def CAPS2.SNS (r : List Byte) : Nat := beAt r 0x0 1
def CAPS2.ROLE (r : List Byte) : Nat := beAt r 0x1 1
def CAPS2.DEW_LINK (r : List Byte) : Nat := beAt r 0x2 1
def CAPS2.DEW_INDEX (r : List Byte) : Nat := beAt r 0x4 2
def CAPS2.CAL_SLOT (r : List Byte) : Nat := beAt r 0x6 1

/-! TAGS table 0, REC_SIZE 8 -/
def TAGS0.ANT_MASK (r : List Byte) : Nat := beAt r 0x0 1
def TAGS0.POWER (r : List Byte) : Nat := beAt r 0x1 1
def TAGS0.PROTO (r : List Byte) : Nat := beAt r 0x2 1
def TAGS0.Q_STEP (r : List Byte) : Nat := beAt r 0x3 1
def TAGS0.MAX_TAGS (r : List Byte) : Nat := beAt r 0x4 1

/-! TAGS table 1, REC_SIZE 16 -/
def TAGS1.MATCH (r : List Byte) : Nat := beAt r 0x0 8
def TAGS1.MATCH_LEN (r : List Byte) : Nat := beAt r 0x8 1
def TAGS1.ANT (r : List Byte) : Nat := beAt r 0x9 1
def TAGS1.DRV (r : List Byte) : Nat := beAt r 0xa 1
def TAGS1.PSET (r : List Byte) : Nat := beAt r 0xb 1

/-! LINK table 0, REC_SIZE 8 -/
def LINK0.PAIR_EN (r : List Byte) : Nat := beAt r 0x0 1
def LINK0.PREF_ACTIVE (r : List Byte) : Nat := beAt r 0x1 1

/-! LINK table 1, REC_SIZE 16 -/
def LINK1.REGION (r : List Byte) : Nat := beAt r 0x0 1
def LINK1.BAY (r : List Byte) : Nat := beAt r 0x1 1
def LINK1.BASE (r : List Byte) : Nat := beAt r 0x4 4
def LINK1.LEN (r : List Byte) : Nat := beAt r 0x8 4

/-! LINK table 2, REC_SIZE 8 -/
def LINK2.STACK_EN (r : List Byte) : Nat := beAt r 0x0 1
def LINK2.RING (r : List Byte) : Nat := beAt r 0x1 1
def LINK2.MEMBERS (r : List Byte) : Nat := beAt r 0x2 1

/-! LINK table 3, REC_SIZE 8 -/
def LINK3.BAY (r : List Byte) : Nat := beAt r 0x0 1
def LINK3.MEMBER (r : List Byte) : Nat := beAt r 0x1 1
def LINK3.RES (r : List Byte) : Nat := beAt r 0x2 1
def LINK3.PIN_FIRST (r : List Byte) : Nat := beAt r 0x3 1
def LINK3.PIN_COUNT (r : List Byte) : Nat := beAt r 0x4 1

/-! LINK table 4, REC_SIZE 8 -/
def LINK4.MBX (r : List Byte) : Nat := beAt r 0x0 1
def LINK4.LINKSEL (r : List Byte) : Nat := beAt r 0x1 1
def LINK4.MEMBER (r : List Byte) : Nat := beAt r 0x2 1
def LINK4.REMOTE_MBX (r : List Byte) : Nat := beAt r 0x3 1
def LINK4.BAY (r : List Byte) : Nat := beAt r 0x4 1

end Sys2Proof.Machine.C
end

