-- ==== Sys2Proof/Machine/Regs.lean ====
section
/-! DEFINITION.
The software-visible register fields, one named field per row of the register tables of the spec
(each table's rule is cited once, above its fields).  Instance letters are the manual's. -/

namespace Sys2Proof.Machine.R


/-! 03_bitstream_loading.md R117 -/
def SECn_CMD_BUF.WORD (n w : Nat) : Fld := ⟨0x401a1000 + 0x1000 * n + 0x4 * w, 0, 32, 0x0⟩
def SECn_CMD_GO.GO (n : Nat) : Fld := ⟨0x401a1100 + 0x1000 * n, 0, 1, 0x0⟩
def SECn_CMD_STAT.BUSY (n : Nat) : Fld := ⟨0x401a1104 + 0x1000 * n, 0, 1, 0x0⟩
def SECn_CMD_STAT.OVERRUN (n : Nat) : Fld := ⟨0x401a1104 + 0x1000 * n, 1, 1, 0x0⟩
def SECn_CMD_STAT.CPL_IRQ_EN (n : Nat) : Fld := ⟨0x401a1104 + 0x1000 * n, 2, 1, 0x0⟩
def SECn_CPL_HEAD.HEAD (n : Nat) : Fld := ⟨0x401a1108 + 0x1000 * n, 0, 3, 0x0⟩
def SECn_CPL_TAIL.TAIL (n : Nat) : Fld := ⟨0x401a110c + 0x1000 * n, 0, 3, 0x0⟩
def SECn_CPL_RING.WORD (n w : Nat) : Fld := ⟨0x401a1200 + 0x1000 * n + 0x4 * w, 0, 32, 0x0⟩

/-! 03_bitstream_loading.md R126 -/
def SEC_BOOT_STATUS.BOOT_SRC : Fld := ⟨0x401a0000, 0, 2, 0xc⟩
def SEC_BOOT_STATUS.SLOT : Fld := ⟨0x401a0000, 2, 2, 0xc⟩
def SEC_BOOT_STATUS.FALLBACK : Fld := ⟨0x401a0000, 4, 1, 0xc⟩
def SEC_BOOT_STATUS.TRIAL : Fld := ⟨0x401a0000, 5, 1, 0xc⟩
def SEC_BOOT_STATUS.PROVISIONING : Fld := ⟨0x401a0000, 6, 1, 0xc⟩
def SEC_BOOT_STATUS.RECOVERY : Fld := ⟨0x401a0000, 7, 1, 0xc⟩
def SEC_BOOT_STATUS.FIRST_RESULT : Fld := ⟨0x401a0000, 16, 16, 0xc⟩
def SEC_CONFIG_ID.CONFIG_ID : Fld := ⟨0x401a0004, 0, 32, 0x0⟩
def SEC_FAIL_OFFSET.OFFSET : Fld := ⟨0x401a0008, 0, 32, 0x0⟩
def SEC_SLOT_STATE.STATE_A : Fld := ⟨0x401a000c, 0, 4, 0x0⟩
def SEC_SLOT_STATE.STATE_B : Fld := ⟨0x401a000c, 4, 4, 0x0⟩
def SEC_SLOT_STATE.PREFERRED : Fld := ⟨0x401a000c, 8, 1, 0x0⟩
def SEC_KEY_STATE.PROGRAMMED : Fld := ⟨0x401a0010, 0, 4, 0x0⟩
def SEC_KEY_STATE.REVOKED : Fld := ⟨0x401a0010, 4, 4, 0x0⟩
def SEC_KEY_STATE.AES_KEYS : Fld := ⟨0x401a0010, 8, 2, 0x0⟩
def SEC_SECVER.FLOOR : Fld := ⟨0x401a0014, 0, 16, 0x0⟩
def SEC_SECVER.USED : Fld := ⟨0x401a0014, 16, 4, 0x0⟩
def SEC_UID_LO.UID : Fld := ⟨0x401a0018, 0, 32, 0x0⟩
def SEC_UID_HI.UID : Fld := ⟨0x401a001c, 0, 32, 0x0⟩

/-! 04_bays.md R160 -/
def BAY_SELF.BAY : Fld := ⟨0x40020000, 0, 3, 0x0⟩
def BAY_CONFIGURED.MASK : Fld := ⟨0x40020004, 0, 8, 0x0⟩
def BAY_WHEEL.FREE : Fld := ⟨0x40020008, 0, 7, 0x0⟩
def BAY_VIOL_SUM.VIOL : Fld := ⟨0x4002000c, 0, 8, 0x0⟩

/-! 04_bays.md R161 -/
def BAYn_STATE.STATE (n : Nat) : Fld := ⟨0x40021000 + 0x1000 * n, 0, 3, 0x0⟩
def BAYn_STATE.ENGINE_ONLY (n : Nat) : Fld := ⟨0x40021000 + 0x1000 * n, 3, 1, 0x0⟩
def BAYn_STATE.WDT_EN (n : Nat) : Fld := ⟨0x40021000 + 0x1000 * n, 4, 1, 0x0⟩
def BAYn_STATE.RESET_COUNT (n : Nat) : Fld := ⟨0x40021000 + 0x1000 * n, 8, 8, 0x0⟩
def BAYn_STATE.LAST_CAUSE (n : Nat) : Fld := ⟨0x40021000 + 0x1000 * n, 16, 4, 0x0⟩
def BAYn_CTRL.SELF_RST (n : Nat) : Fld := ⟨0x40021004 + 0x1000 * n, 0, 1, 0x0⟩
def BAYn_CTRL.RST (n : Nat) : Fld := ⟨0x40021004 + 0x1000 * n, 1, 1, 0x0⟩
def BAYn_CTRL.STOP (n : Nat) : Fld := ⟨0x40021004 + 0x1000 * n, 2, 1, 0x0⟩
def BAYn_CTRL.START (n : Nat) : Fld := ⟨0x40021004 + 0x1000 * n, 3, 1, 0x0⟩
def BAYn_WDT_KICK.KEY (n : Nat) : Fld := ⟨0x40021008 + 0x1000 * n, 0, 32, 0x0⟩
def BAYn_WDT_LEFT.LEFT (n : Nat) : Fld := ⟨0x4002100c + 0x1000 * n, 0, 23, 0x0⟩
def BAYn_VIOL.CAUSE (n : Nat) : Fld := ⟨0x40021010 + 0x1000 * n, 0, 16, 0x0⟩
def BAYn_VIOL.COUNT (n : Nat) : Fld := ⟨0x40021010 + 0x1000 * n, 16, 8, 0x0⟩
def BAYn_VIOL.VALID (n : Nat) : Fld := ⟨0x40021010 + 0x1000 * n, 31, 1, 0x0⟩
def BAYn_VIOL_ADDR_LO.ADDR (n : Nat) : Fld := ⟨0x40021014 + 0x1000 * n, 0, 32, 0x0⟩
def BAYn_VIOL_ADDR_HI.ADDR (n : Nat) : Fld := ⟨0x40021018 + 0x1000 * n, 0, 8, 0x0⟩
def BAYn_VIOL_ADDR_HI.INIT (n : Nat) : Fld := ⟨0x40021018 + 0x1000 * n, 8, 4, 0x0⟩
def BAYn_VIOL_ADDR_HI.INST (n : Nat) : Fld := ⟨0x40021018 + 0x1000 * n, 12, 4, 0x0⟩
def BAYn_VIOL_ADDR_HI.WRITE (n : Nat) : Fld := ⟨0x40021018 + 0x1000 * n, 16, 1, 0x0⟩
def BAYn_IRQ_PEND_LO.PEND (n : Nat) : Fld := ⟨0x40021020 + 0x1000 * n, 0, 32, 0x0⟩
def BAYn_IRQ_PEND_HI.PEND (n : Nat) : Fld := ⟨0x40021024 + 0x1000 * n, 0, 30, 0x0⟩
def BAYn_IRQ_EN_LO.EN (n : Nat) : Fld := ⟨0x40021028 + 0x1000 * n, 0, 32, 0x0⟩
def BAYn_IRQ_EN_HI.EN (n : Nat) : Fld := ⟨0x4002102c + 0x1000 * n, 0, 30, 0x0⟩
def BAYn_LOC_PEND.SRC (n : Nat) : Fld := ⟨0x40021030 + 0x1000 * n, 0, 5, 0x0⟩
def BAYn_LOC_PEND.WDT_WARN (n : Nat) : Fld := ⟨0x40021030 + 0x1000 * n, 5, 1, 0x0⟩
def BAYn_LOC_PEND.SRC_6 (n : Nat) : Fld := ⟨0x40021030 + 0x1000 * n, 6, 3, 0x0⟩
def BAYn_LOC_PEND.GRANT_EVT (n : Nat) : Fld := ⟨0x40021030 + 0x1000 * n, 9, 1, 0x0⟩
def BAYn_LOC_PEND.REMOTE (n : Nat) : Fld := ⟨0x40021030 + 0x1000 * n, 10, 1, 0x0⟩
def BAYn_LOC_PEND.ROLE (n : Nat) : Fld := ⟨0x40021030 + 0x1000 * n, 11, 1, 0x0⟩
def BAYn_LOC_EN.EN (n : Nat) : Fld := ⟨0x40021034 + 0x1000 * n, 0, 12, 0x0⟩
def BAYn_IRQ_CORE.CORES (n : Nat) : Fld := ⟨0x40021038 + 0x1000 * n, 0, 4, 0x0⟩
def BAYn_GRANT_EVT.PEER_RESET (n : Nat) : Fld := ⟨0x4002103c + 0x1000 * n, 0, 8, 0x0⟩
def BAYn_GRANT_EVT.PEER_READY (n : Nat) : Fld := ⟨0x4002103c + 0x1000 * n, 8, 8, 0x0⟩
def BAYn_SLOT_USED.COUNT (n : Nat) : Fld := ⟨0x40021040 + 0x1000 * n, 0, 32, 0x0⟩
def BAYn_SLOT_SLACK.COUNT (n : Nat) : Fld := ⟨0x40021044 + 0x1000 * n, 0, 32, 0x0⟩
def BAYn_SLOT_WAIT.MAX (n : Nat) : Fld := ⟨0x40021048 + 0x1000 * n, 0, 16, 0x0⟩
def BAYn_SHARE.SHARE (n : Nat) : Fld := ⟨0x4002104c + 0x1000 * n, 0, 7, 0x0⟩

/-! 05_clocks_resets_power.md R198 -/
def SYS_DEVID.DEVID : Fld := ⟨0x40000000, 0, 32, 0x92600b01⟩
def SYS_CLK_STATUS.REF_KIND : Fld := ⟨0x40000004, 0, 1, 0x8⟩
def SYS_CLK_STATUS.REF_OK : Fld := ⟨0x40000004, 1, 1, 0x8⟩
def SYS_CLK_STATUS.SYS_LOCK : Fld := ⟨0x40000004, 2, 1, 0x8⟩
def SYS_CLK_STATUS.LPO_OK : Fld := ⟨0x40000004, 3, 1, 0x8⟩
def SYS_CLK_STATUS.LANE_LOCK : Fld := ⟨0x40000004, 8, 8, 0x8⟩
def SYS_CLK_STATUS.LANE_ON : Fld := ⟨0x40000004, 16, 8, 0x8⟩
def SYS_LPO_CAL.REF_CYCLES : Fld := ⟨0x40000008, 0, 24, 0x0⟩
def SYS_LPO_CAL.VALID : Fld := ⟨0x40000008, 31, 1, 0x0⟩
def SYS_RESET_CAUSE.POR : Fld := ⟨0x4000000c, 0, 1, 0x1⟩
def SYS_RESET_CAUSE.RESETN : Fld := ⟨0x4000000c, 1, 1, 0x1⟩
def SYS_RESET_CAUSE.SOFT : Fld := ⟨0x4000000c, 2, 1, 0x1⟩
def SYS_RESET_CAUSE.HALVIK : Fld := ⟨0x4000000c, 3, 1, 0x1⟩
def SYS_RESET_CAUSE.FLT : Fld := ⟨0x4000000c, 4, 1, 0x1⟩
def SYS_RESET_CAUSE.REF_LOSS : Fld := ⟨0x4000000c, 5, 1, 0x1⟩
def SYS_RESET_CAUSE.PLL_LOSS : Fld := ⟨0x4000000c, 6, 1, 0x1⟩
def SYS_RESET_CAUSE.CORE_UV : Fld := ⟨0x4000000c, 7, 1, 0x1⟩
def SYS_RESET_CAUSE.WAKE_OFF : Fld := ⟨0x4000000c, 8, 1, 0x1⟩
def SYS_RESET_CAUSE.COUNT : Fld := ⟨0x4000000c, 16, 16, 0x1⟩
def SYS_DEV_RST.KEY : Fld := ⟨0x40000010, 0, 32, 0x0⟩
def SYS_PWR_CTRL.REQ : Fld := ⟨0x40000014, 0, 2, 0x0⟩
def SYS_PWR_STAT.BUSY : Fld := ⟨0x40000018, 0, 1, 0x0⟩
def SYS_PWR_STAT.REFUSE : Fld := ⟨0x40000018, 4, 4, 0x0⟩
def SYS_PWR_STAT.LAST_WAKE : Fld := ⟨0x40000018, 8, 3, 0x0⟩
def SYS_PWR_STAT.FROM_OFF : Fld := ⟨0x40000018, 11, 1, 0x0⟩
def SYS_WAKE_EN.EN : Fld := ⟨0x4000001c, 0, 4, 0x0⟩
def SYS_WAKE_TIMER.UNITS : Fld := ⟨0x40000020, 0, 32, 0x0⟩
def SYS_WAKE_PIN.PIN0 : Fld := ⟨0x40000024, 0, 7, 0x0⟩
def SYS_WAKE_PIN.EN0 : Fld := ⟨0x40000024, 7, 1, 0x0⟩
def SYS_WAKE_PIN.EDGE0 : Fld := ⟨0x40000024, 8, 1, 0x0⟩
def SYS_WAKE_PIN.PIN1 : Fld := ⟨0x40000024, 16, 7, 0x0⟩
def SYS_WAKE_PIN.EN1 : Fld := ⟨0x40000024, 23, 1, 0x0⟩
def SYS_WAKE_PIN.EDGE1 : Fld := ⟨0x40000024, 24, 1, 0x0⟩
def SYS_PWR_DELAY.SETTLE : Fld := ⟨0x40000028, 0, 8, 0x14⟩
def SYS_SLEEP_TIME.LPO : Fld := ⟨0x4000002c, 0, 32, 0x0⟩
def SYS_DOZE_TIME.US : Fld := ⟨0x40000030, 0, 32, 0x0⟩
def SYS_STRAPS.BOOT_SRC : Fld := ⟨0x40000034, 0, 2, 0x0⟩
def SYS_STRAPS.STACK_POS : Fld := ⟨0x40000034, 2, 3, 0x0⟩
def SYS_STRAPS.PAIR_ID : Fld := ⟨0x40000034, 5, 1, 0x0⟩
def SYS_IRQ_PEND.LANE_UNLOCK : Fld := ⟨0x40000038, 0, 1, 0x0⟩
def SYS_IRQ_PEND.LPO_DRIFT : Fld := ⟨0x40000038, 1, 1, 0x0⟩
def SYS_IRQ_PEND.WAKE : Fld := ⟨0x40000038, 2, 1, 0x0⟩
def SYS_IRQ_PEND.PWR_REFUSED : Fld := ⟨0x40000038, 3, 1, 0x0⟩
def SYS_IRQ_EN.EN : Fld := ⟨0x4000003c, 0, 4, 0x0⟩
def SYS_AO_SCRATCH.DATA (w : Nat) : Fld := ⟨0x40000040 + 0x4 * w, 0, 32, 0x0⟩

/-! 06_memory.md R233 -/
def MEM_TEST_POS.BANK : Fld := ⟨0x40050000, 0, 5, 0x0⟩
def MEM_TEST_POS.ROW : Fld := ⟨0x40050000, 5, 11, 0x0⟩
def MEM_TEST_POS.ACTIVE : Fld := ⟨0x40050000, 16, 1, 0x0⟩
def MEM_PASS_COUNT.COUNT : Fld := ⟨0x40050004, 0, 32, 0x0⟩
def MEM_PASS_TIME.US : Fld := ⟨0x40050008, 0, 32, 0x0⟩
def MEM_CTRL.PAUSE : Fld := ⟨0x4005000c, 0, 1, 0x0⟩
def MEM_UE_SUM.BANK : Fld := ⟨0x40050010, 0, 32, 0x0⟩
def MEM_RLM_UE.REEL : Fld := ⟨0x40050014, 0, 12, 0x0⟩
def MEM_L2_LOCKED.LINES : Fld := ⟨0x40050018, 0, 11, 0x0⟩

/-! 06_memory.md R234 -/
def MEMnn_CFG.MTEST (n : Nat) : Fld := ⟨0x40050100 + 0x40 * n, 0, 1, 0x0⟩
def MEMnn_CFG.ZERO (n : Nat) : Fld := ⟨0x40050100 + 0x40 * n, 1, 1, 0x0⟩
def MEMnn_CFG.MTEST_INT (n : Nat) : Fld := ⟨0x40050100 + 0x40 * n, 16, 16, 0x0⟩
def MEMnn_STAT.SPARES_USED (n : Nat) : Fld := ⟨0x40050104 + 0x40 * n, 0, 4, 0x0⟩
def MEMnn_STAT.NO_SPARE (n : Nat) : Fld := ⟨0x40050104 + 0x40 * n, 4, 1, 0x0⟩
def MEMnn_STAT.TESTING (n : Nat) : Fld := ⟨0x40050104 + 0x40 * n, 5, 1, 0x0⟩
def MEMnn_CE_COUNT.COUNT (n : Nat) : Fld := ⟨0x40050108 + 0x40 * n, 0, 16, 0x0⟩
def MEMnn_UE_COUNT.COUNT (n : Nat) : Fld := ⟨0x4005010c + 0x40 * n, 0, 16, 0x0⟩
def MEMnn_LAST_ERR.OFFSET (n : Nat) : Fld := ⟨0x40050110 + 0x40 * n, 0, 18, 0x0⟩
def MEMnn_LAST_ERR.KIND (n : Nat) : Fld := ⟨0x40050110 + 0x40 * n, 18, 2, 0x0⟩
def MEMnn_LAST_ERR.VALID (n : Nat) : Fld := ⟨0x40050110 + 0x40 * n, 31, 1, 0x0⟩
def MEMnn_REMAP.ROW0 (n k : Nat) : Fld := ⟨0x40050114 + 0x40 * n + 0x4 * k, 0, 11, 0x0⟩
def MEMnn_REMAP.ROW1 (n k : Nat) : Fld := ⟨0x40050114 + 0x40 * n + 0x4 * k, 16, 11, 0x0⟩
def MEMnn_REMAP.VALID0 (n k : Nat) : Fld := ⟨0x40050114 + 0x40 * n + 0x4 * k, 15, 1, 0x0⟩
def MEMnn_REMAP.VALID1 (n k : Nat) : Fld := ⟨0x40050114 + 0x40 * n + 0x4 * k, 31, 1, 0x0⟩

/-! 06_memory.md R235 -/
def NVM_STATUS.MAP_OK : Fld := ⟨0x401c0000, 0, 1, 0x0⟩
def NVM_STATUS.BUSY : Fld := ⟨0x401c0000, 1, 1, 0x0⟩
def NVM_STATUS.FREE : Fld := ⟨0x401c0000, 8, 7, 0x0⟩
def NVM_STATUS.RETIRED : Fld := ⟨0x401c0000, 16, 7, 0x0⟩
def NVM_PG_SRC_LO.ADDR : Fld := ⟨0x401c0004, 0, 32, 0x0⟩
def NVM_PG_SRC_HI.ADDR : Fld := ⟨0x401c0008, 0, 8, 0x0⟩
def NVM_PG_CMD.LPAGE : Fld := ⟨0x401c000c, 0, 6, 0x0⟩
def NVM_PG_CMD.GO : Fld := ⟨0x401c000c, 31, 1, 0x0⟩
def NVM_PG_STAT.STATUS : Fld := ⟨0x401c0010, 0, 4, 0x0⟩
def NVM_PG_STAT.RESULT : Fld := ⟨0x401c0010, 8, 4, 0x0⟩
def NVM_PG_STAT.LPAGE : Fld := ⟨0x401c0010, 16, 6, 0x0⟩
def NVM_LP_SEL.LPAGE : Fld := ⟨0x401c0014, 0, 6, 0x0⟩
def NVM_LP_INFO.PHYS : Fld := ⟨0x401c0018, 0, 7, 0x0⟩
def NVM_LP_INFO.WRITES : Fld := ⟨0x401c0018, 7, 24, 0x0⟩
def NVM_LP_INFO.VALID : Fld := ⟨0x401c0018, 31, 1, 0x0⟩
def NVM_LP_SEQ.SEQ : Fld := ⟨0x401c001c, 0, 32, 0x0⟩
def NVM_WEAR_MAX.WRITES : Fld := ⟨0x401c0020, 0, 24, 0x0⟩
def NVM_WEAR_MAX.PHYS : Fld := ⟨0x401c0020, 24, 7, 0x0⟩
def NVM_IRQ_PEND.PG_DONE : Fld := ⟨0x401c0024, 0, 1, 0x0⟩
def NVM_IRQ_PEND.LOW_POOL : Fld := ⟨0x401c0024, 1, 1, 0x0⟩
def NVM_IRQ_PEND.RETIRED : Fld := ⟨0x401c0024, 2, 1, 0x0⟩
def NVM_IRQ_EN.EN : Fld := ⟨0x401c0028, 0, 3, 0x0⟩

/-! 07_faults_retest.md R270 -/
def FLT_STATUS.RUNNING : Fld := ⟨0x40190000, 0, 5, 0x0⟩
def FLT_STATUS.WAITING : Fld := ⟨0x40190000, 16, 7, 0x0⟩
def FLT_STATUS.LOG_READY : Fld := ⟨0x40190000, 24, 1, 0x0⟩
def FLT_LOG_SEQ.NEXT : Fld := ⟨0x40190004, 0, 32, 0x0⟩
def FLT_LOG_DROP.TRANSIENT : Fld := ⟨0x40190008, 0, 16, 0x0⟩
def FLT_LOG_DROP.SEVERE : Fld := ⟨0x40190008, 16, 16, 0x0⟩
def FLT_POLICY.N : Fld := ⟨0x4019000c, 0, 8, 0x0⟩
def FLT_POLICY.REPAIR : Fld := ⟨0x4019000c, 8, 4, 0x0⟩
def FLT_POLICY.INJECT : Fld := ⟨0x4019000c, 12, 1, 0x0⟩
def FLT_POLICY.LOG : Fld := ⟨0x4019000c, 13, 1, 0x0⟩
def FLT_POLICY_T.T : Fld := ⟨0x40190010, 0, 32, 0x0⟩
def FLT_INJ_CAUSE.CAUSE : Fld := ⟨0x40190014, 0, 16, 0x0⟩
def FLT_INJ_CAUSE.MODE : Fld := ⟨0x40190014, 16, 2, 0x0⟩
def FLT_INJ_RES.RESOURCE : Fld := ⟨0x40190018, 0, 32, 0x0⟩
def FLT_INJ_GO.GO : Fld := ⟨0x4019001c, 0, 1, 0x0⟩
def FLT_INJ_STAT.STATUS : Fld := ⟨0x40190020, 0, 4, 0x0⟩
def FLT_INJ_STAT.RESULT : Fld := ⟨0x40190020, 8, 4, 0x0⟩
def FLT_TRK_USED.COUNT : Fld := ⟨0x40190024, 0, 8, 0x0⟩
def FLT_IRQ_PEND.WAIT_FULL : Fld := ⟨0x40190028, 0, 1, 0x0⟩
def FLT_IRQ_PEND.LOG_DROP : Fld := ⟨0x40190028, 1, 1, 0x0⟩
def FLT_IRQ_PEND.TRK_REUSE : Fld := ⟨0x40190028, 2, 1, 0x0⟩
def FLT_IRQ_PEND.INJ_DONE : Fld := ⟨0x40190028, 3, 1, 0x0⟩
def FLT_IRQ_EN.EN : Fld := ⟨0x4019002c, 0, 4, 0x0⟩
def FLT_CNT_TRANSIENT.COUNT : Fld := ⟨0x40190030, 0, 32, 0x0⟩
def FLT_CNT_LASTING.COUNT : Fld := ⟨0x40190034, 0, 32, 0x0⟩
def FLT_CNT_RECURRING.COUNT : Fld := ⟨0x40190038, 0, 32, 0x0⟩

/-! 07_faults_retest.md R271 -/
def FLTn_NTF_STAT.COUNT (n : Nat) : Fld := ⟨0x40191000 + 0x1000 * n, 0, 7, 0x0⟩
def FLTn_NTF_STAT.OVERFLOW (n : Nat) : Fld := ⟨0x40191000 + 0x1000 * n, 8, 1, 0x0⟩
def FLTn_NTF_STAT.LOST (n : Nat) : Fld := ⟨0x40191000 + 0x1000 * n, 16, 16, 0x0⟩
def FLTn_NTF_CODE.CAUSE (n : Nat) : Fld := ⟨0x40191004 + 0x1000 * n, 0, 16, 0x0⟩
def FLTn_NTF_CODE.VERDICT (n : Nat) : Fld := ⟨0x40191004 + 0x1000 * n, 16, 8, 0x0⟩
def FLTn_NTF_CODE.REPAIR (n : Nat) : Fld := ⟨0x40191004 + 0x1000 * n, 24, 8, 0x0⟩
def FLTn_NTF_RES.RESOURCE (n : Nat) : Fld := ⟨0x40191008 + 0x1000 * n, 0, 32, 0x0⟩
def FLTn_NTF_DETAIL.DETAIL (n : Nat) : Fld := ⟨0x4019100c + 0x1000 * n, 0, 32, 0x0⟩
def FLTn_NTF_STAMP.STAMP (n : Nat) : Fld := ⟨0x40191010 + 0x1000 * n, 0, 32, 0x0⟩
def FLTn_NTF_SEQ.SEQ (n : Nat) : Fld := ⟨0x40191014 + 0x1000 * n, 0, 32, 0xffffffff⟩
def FLTn_NTF_POP.POP (n : Nat) : Fld := ⟨0x40191018 + 0x1000 * n, 0, 1, 0x0⟩

/-! 08_cores_reel.md R302 -/
def REEL_SPARE.ENGINE : Fld := ⟨0x400e0000, 0, 4, 0xf00⟩
def REEL_SPARE.USED : Fld := ⟨0x400e0000, 4, 1, 0xf00⟩
def REEL_SPARE.REPLACED : Fld := ⟨0x400e0000, 8, 4, 0xf00⟩
def REEL_RUN_SUM.RUNNING : Fld := ⟨0x400e0004, 0, 12, 0x0⟩

/-! 08_cores_reel.md R303 -/
def REELn_STATE.STATE (n : Nat) : Fld := ⟨0x400e1000 + 0x1000 * n, 0, 4, 0x0⟩
def REELn_STATE.IMAGE_ID (n : Nat) : Fld := ⟨0x400e1000 + 0x1000 * n, 8, 8, 0x0⟩
def REELn_STATE.VERSION (n : Nat) : Fld := ⟨0x400e1000 + 0x1000 * n, 16, 16, 0x0⟩
def REELn_CFG.PORTS (n : Nat) : Fld := ⟨0x400e1004 + 0x1000 * n, 0, 14, 0x0⟩
def REELn_CFG.CMD_MBX (n : Nat) : Fld := ⟨0x400e1004 + 0x1000 * n, 16, 6, 0x0⟩
def REELn_CFG.SOURCE (n : Nat) : Fld := ⟨0x400e1004 + 0x1000 * n, 24, 1, 0x0⟩
def REELn_QUEUES.QBASE (n : Nat) : Fld := ⟨0x400e1008 + 0x1000 * n, 0, 8, 0x0⟩
def REELn_QUEUES.QCOUNT (n : Nat) : Fld := ⟨0x400e1008 + 0x1000 * n, 8, 7, 0x0⟩
def REELn_SUBST.ENGINE (n : Nat) : Fld := ⟨0x400e100c + 0x1000 * n, 0, 4, 0xf⟩
def REELn_CTRL.RESTART (n : Nat) : Fld := ⟨0x400e1010 + 0x1000 * n, 0, 1, 0x0⟩
def REELn_HEALTH.AGE (n : Nat) : Fld := ⟨0x400e1014 + 0x1000 * n, 0, 11, 0x0⟩
def REELn_HEALTH.LOADS (n : Nat) : Fld := ⟨0x400e1014 + 0x1000 * n, 16, 16, 0x0⟩
def REELn_BUSERR.COUNT (n : Nat) : Fld := ⟨0x400e1018 + 0x1000 * n, 0, 16, 0x0⟩
def REELn_BITIO.SER (n : Nat) : Fld := ⟨0x400e101c + 0x1000 * n, 0, 4, 0x0⟩
def REELn_BITIO.ACTIVE (n : Nat) : Fld := ⟨0x400e101c + 0x1000 * n, 16, 1, 0x0⟩

/-! 10_messaging.md R387 -/
def MBX_GRANT_LO.GRANTED : Fld := ⟨0x40030000, 0, 32, 0x0⟩
def MBX_GRANT_HI.GRANTED : Fld := ⟨0x40030004, 0, 32, 0x0⟩
def MBX_BOUND.BOUND : Fld := ⟨0x40030008, 0, 16, 0x0⟩

/-! 10_messaging.md R388 -/
def MBX_TX_DATA.WORD (m d : Nat) : Fld := ⟨0x40031000 + 0x200 * m + 0x100 * d, 0, 32, 0x0⟩
def MBX_TX_LAST.WORD (m d : Nat) : Fld := ⟨0x40031004 + 0x200 * m + 0x100 * d, 0, 32, 0x0⟩
def MBX_TX_CTRL.DB (m d : Nat) : Fld := ⟨0x40031008 + 0x200 * m + 0x100 * d, 0, 1, 0x0⟩
def MBX_TX_CTRL.RECALL (m d : Nat) : Fld := ⟨0x40031008 + 0x200 * m + 0x100 * d, 1, 1, 0x0⟩
def MBX_TX_STAT.WORDS (m d : Nat) : Fld := ⟨0x4003100c + 0x200 * m + 0x100 * d, 0, 5, 0x0⟩
def MBX_TX_STAT.MSGS (m d : Nat) : Fld := ⟨0x4003100c + 0x200 * m + 0x100 * d, 5, 5, 0x0⟩
def MBX_TX_STAT.OPEN (m d : Nat) : Fld := ⟨0x4003100c + 0x200 * m + 0x100 * d, 10, 1, 0x0⟩
def MBX_TX_STAT.OVF (m d : Nat) : Fld := ⟨0x4003100c + 0x200 * m + 0x100 * d, 11, 1, 0x0⟩
def MBX_TX_MSG.STATUS (m d : Nat) : Fld := ⟨0x40031010 + 0x200 * m + 0x100 * d, 0, 4, 0x0⟩
def MBX_TX_MSG.VALID (m d : Nat) : Fld := ⟨0x40031010 + 0x200 * m + 0x100 * d, 4, 1, 0x0⟩
def MBX_TX_MSG.RESULT (m d : Nat) : Fld := ⟨0x40031010 + 0x200 * m + 0x100 * d, 16, 16, 0x0⟩
def MBX_RX_DATA.WORD (m d : Nat) : Fld := ⟨0x40031014 + 0x200 * m + 0x100 * d, 0, 32, 0x0⟩
def MBX_RX_STAT.WORDS (m d : Nat) : Fld := ⟨0x40031018 + 0x200 * m + 0x100 * d, 0, 5, 0x0⟩
def MBX_RX_STAT.MSGS (m d : Nat) : Fld := ⟨0x40031018 + 0x200 * m + 0x100 * d, 5, 5, 0x0⟩
def MBX_RX_STAT.HEAD_LEN (m d : Nat) : Fld := ⟨0x40031018 + 0x200 * m + 0x100 * d, 10, 5, 0x0⟩
def MBX_RX_STAT.HEAD_POS (m d : Nat) : Fld := ⟨0x40031018 + 0x200 * m + 0x100 * d, 15, 5, 0x0⟩
def MBX_IRQ.DB (m d : Nat) : Fld := ⟨0x4003101c + 0x200 * m + 0x100 * d, 0, 1, 0x0⟩
def MBX_IRQ.EMPTY (m d : Nat) : Fld := ⟨0x4003101c + 0x200 * m + 0x100 * d, 1, 1, 0x0⟩
def MBX_IRQ.DB_EN (m d : Nat) : Fld := ⟨0x4003101c + 0x200 * m + 0x100 * d, 8, 1, 0x0⟩
def MBX_IRQ.EMPTY_EN (m d : Nat) : Fld := ⟨0x4003101c + 0x200 * m + 0x100 * d, 9, 1, 0x0⟩

/-! 10_messaging.md R389 -/
def QMGR_INFLIGHT.COUNT : Fld := ⟨0x40040000, 0, 16, 0x0⟩
def QMGR_BAYn.INFLIGHT (n : Nat) : Fld := ⟨0x40040020 + 0x4 * n, 0, 16, 0x0⟩
def QMGR_BAYn.QUOTA (n : Nat) : Fld := ⟨0x40040020 + 0x4 * n, 16, 16, 0x0⟩

/-! 10_messaging.md R390 -/
def QMGR_RING_LO.ADDR (q e : Nat) : Fld := ⟨0x40041000 + 0x40 * q + 0x20 * e, 6, 26, 0x0⟩
def QMGR_RING_HI.ADDR (q e : Nat) : Fld := ⟨0x40041004 + 0x40 * q + 0x20 * e, 0, 8, 0x300⟩
def QMGR_RING_HI.SIZE (q e : Nat) : Fld := ⟨0x40041004 + 0x40 * q + 0x20 * e, 8, 4, 0x300⟩
def QMGR_CTRL.EN (q e : Nat) : Fld := ⟨0x40041008 + 0x40 * q + 0x20 * e, 0, 1, 0x0⟩
def QMGR_CTRL.IRQ_ALL (q e : Nat) : Fld := ⟨0x40041008 + 0x40 * q + 0x20 * e, 1, 1, 0x0⟩
def QMGR_POST.POST (q e : Nat) : Fld := ⟨0x4004100c + 0x40 * q + 0x20 * e, 0, 16, 0x0⟩
def QMGR_FETCH.FETCH (q e : Nat) : Fld := ⟨0x40041010 + 0x40 * q + 0x20 * e, 0, 16, 0x0⟩
def QMGR_FETCH.INFLIGHT (q e : Nat) : Fld := ⟨0x40041010 + 0x40 * q + 0x20 * e, 16, 13, 0x0⟩
def QMGR_CPL.HEAD (q e : Nat) : Fld := ⟨0x40041014 + 0x40 * q + 0x20 * e, 0, 16, 0x0⟩
def QMGR_CPL.TAIL (q e : Nat) : Fld := ⟨0x40041014 + 0x40 * q + 0x20 * e, 16, 16, 0x0⟩
def QMGR_ABORT.INDEX (q e : Nat) : Fld := ⟨0x40041018 + 0x40 * q + 0x20 * e, 0, 16, 0x0⟩
def QMGR_ABORT.GO (q e : Nat) : Fld := ⟨0x40041018 + 0x40 * q + 0x20 * e, 31, 1, 0x0⟩
def QMGR_STAT.AGENT (q e : Nat) : Fld := ⟨0x4004101c + 0x40 * q + 0x20 * e, 0, 4, 0x10⟩
def QMGR_STAT.DRAINED (q e : Nat) : Fld := ⟨0x4004101c + 0x40 * q + 0x20 * e, 4, 1, 0x10⟩
def QMGR_STAT.GATED (q e : Nat) : Fld := ⟨0x4004101c + 0x40 * q + 0x20 * e, 5, 1, 0x10⟩
def QMGR_STAT.QUOTA_WAIT (q e : Nat) : Fld := ⟨0x4004101c + 0x40 * q + 0x20 * e, 6, 1, 0x10⟩
def QMGR_STAT.CPL_WAIT (q e : Nat) : Fld := ⟨0x4004101c + 0x40 * q + 0x20 * e, 7, 1, 0x10⟩
def QMGR_STAT.CPL_IRQ (q e : Nat) : Fld := ⟨0x4004101c + 0x40 * q + 0x20 * e, 8, 1, 0x10⟩
def QMGR_STAT.ERR (q e : Nat) : Fld := ⟨0x4004101c + 0x40 * q + 0x20 * e, 9, 1, 0x10⟩

/-! 11_time.md R425 -/
def TIME_STEADY_LO.NS : Fld := ⟨0x40060000, 0, 32, 0x0⟩
def TIME_STEADY_HI.NS : Fld := ⟨0x40060004, 0, 32, 0x0⟩
def TIME_STEADY_FRAC.FRAC : Fld := ⟨0x40060008, 0, 32, 0x0⟩
def TIME_TRACE_SEC_LO.SEC : Fld := ⟨0x4006000c, 0, 32, 0x0⟩
def TIME_TRACE_SEC_HI.SEC : Fld := ⟨0x40060010, 0, 16, 0x0⟩
def TIME_TRACE_SEC_HI.FRAC : Fld := ⟨0x40060010, 16, 16, 0x0⟩
def TIME_TRACE_NS.NS : Fld := ⟨0x40060014, 0, 30, 0x0⟩
def TIME_STATUS.TSTATE : Fld := ⟨0x40060018, 0, 2, 0x10⟩
def TIME_STATUS.SRC_OK : Fld := ⟨0x40060018, 2, 1, 0x10⟩
def TIME_STATUS.SLEWING : Fld := ⟨0x40060018, 3, 1, 0x10⟩
def TIME_STATUS.ALIGNED : Fld := ⟨0x40060018, 4, 1, 0x10⟩
def TIME_STATUS.RATE_CLAMP : Fld := ⟨0x40060018, 5, 1, 0x10⟩
def TIME_STATUS.EPOCH : Fld := ⟨0x40060018, 16, 16, 0x10⟩
def TIME_RATE.ADJ : Fld := ⟨0x4006001c, 0, 32, 0x0⟩
def TIME_SLEW_LEFT.NS : Fld := ⟨0x40060020, 0, 32, 0x0⟩
def TIME_HALFWRAP.PEND : Fld := ⟨0x40060024, 0, 8, 0x0⟩
def TIME_HALFWRAP.B31 : Fld := ⟨0x40060024, 31, 1, 0x0⟩
def TIME_JRN_HEAD.INDEX : Fld := ⟨0x40060028, 0, 4, 0x0⟩
def TIME_JRN_HEAD.VALID : Fld := ⟨0x40060028, 4, 1, 0x0⟩
def TIME_JRN_HEAD.SEQ : Fld := ⟨0x40060028, 16, 16, 0x0⟩
def TIME_JRNi.ENTRY (i w : Nat) : Fld := ⟨0x40060400 + 0x20 * i + 0x4 * w, 0, 32, 0x0⟩

/-! 11_time.md R426 -/
def TIME_SRV_RATE.ADJ : Fld := ⟨0x40060100, 0, 32, 0x0⟩
def TIME_SRV_CORR_LO.CORR : Fld := ⟨0x40060104, 0, 32, 0x0⟩
def TIME_SRV_CORR_HI.CORR : Fld := ⟨0x40060108, 0, 32, 0x0⟩
def TIME_SRV_LAST.ACTION : Fld := ⟨0x4006010c, 0, 3, 0x0⟩
def TIME_CFG.STEP_THRESH : Fld := ⟨0x40060140, 0, 32, 0x0⟩
def TIME_CFG2.STEP_EN : Fld := ⟨0x40060144, 0, 1, 0x0⟩
def TIME_CFG2.SOURCE : Fld := ⟨0x40060144, 2, 2, 0x0⟩
def TIME_CFG2.SOURCE_REEL : Fld := ⟨0x40060144, 4, 4, 0x0⟩
def TIME_CFG2.SLEW_LIMIT : Fld := ⟨0x40060144, 16, 9, 0x0⟩
def TIME_SRC_TIMEOUT.MS : Fld := ⟨0x40060148, 0, 16, 0xbb8⟩
def TIME_CMD.OP : Fld := ⟨0x4006014c, 0, 2, 0x0⟩
def TIME_CMD.GO : Fld := ⟨0x4006014c, 31, 1, 0x0⟩
def TIME_CMD_AMT_LO.AMT : Fld := ⟨0x40060150, 0, 32, 0x0⟩
def TIME_CMD_AMT_HI.AMT : Fld := ⟨0x40060154, 0, 32, 0x0⟩
def TIME_CMD_STAT.STATUS : Fld := ⟨0x40060158, 0, 4, 0x0⟩
def TIME_CMD_STAT.RESULT : Fld := ⟨0x40060158, 8, 4, 0x0⟩
def TIME_HOLD_CORR_LO.CORR : Fld := ⟨0x4006015c, 0, 32, 0x0⟩
def TIME_HOLD_CORR_HI.CORR : Fld := ⟨0x40060160, 0, 32, 0x0⟩
def TIME_IRQ_PEND.BACKSTEP : Fld := ⟨0x40060164, 0, 1, 0x0⟩
def TIME_IRQ_PEND.STEPPED : Fld := ⟨0x40060164, 1, 1, 0x0⟩
def TIME_IRQ_PEND.SRC_LOST : Fld := ⟨0x40060164, 2, 1, 0x0⟩
def TIME_IRQ_PEND.RATE_CLAMP : Fld := ⟨0x40060164, 3, 1, 0x0⟩
def TIME_IRQ_PEND.SLEW_DONE : Fld := ⟨0x40060164, 4, 1, 0x0⟩
def TIME_IRQ_PEND.ALIGNED : Fld := ⟨0x40060164, 5, 1, 0x0⟩
def TIME_IRQ_EN.EN : Fld := ⟨0x40060168, 0, 6, 0x0⟩

/-! 11_time.md R427 -/
def TEVn_CTRL.EN (n : Nat) : Fld := ⟨0x40061000 + 0x100 * n, 0, 1, 0x0⟩
def TEVn_CTRL.BASE (n : Nat) : Fld := ⟨0x40061000 + 0x100 * n, 1, 1, 0x0⟩
def TEVn_CTRL.PERIODIC (n : Nat) : Fld := ⟨0x40061000 + 0x100 * n, 2, 1, 0x0⟩
def TEVn_CTRL.POL (n : Nat) : Fld := ⟨0x40061000 + 0x100 * n, 3, 1, 0x0⟩
def TEVn_CTRL.PIN (n : Nat) : Fld := ⟨0x40061000 + 0x100 * n, 4, 1, 0x0⟩
def TEVn_CTRL.IRQ_EN (n : Nat) : Fld := ⟨0x40061000 + 0x100 * n, 5, 1, 0x0⟩
def TEVn_TGT_LO.TGT (n : Nat) : Fld := ⟨0x40061004 + 0x100 * n, 0, 32, 0x0⟩
def TEVn_TGT_HI.TGT (n : Nat) : Fld := ⟨0x40061008 + 0x100 * n, 0, 32, 0x0⟩
def TEVn_PERIOD.NS (n : Nat) : Fld := ⟨0x4006100c + 0x100 * n, 0, 32, 0x3b9aca00⟩
def TEVn_WIDTH.NS (n : Nat) : Fld := ⟨0x40061010 + 0x100 * n, 0, 24, 0x64⟩
def TEVn_STAT.ARMED (n : Nat) : Fld := ⟨0x40061014 + 0x100 * n, 0, 1, 0x0⟩
def TEVn_STAT.FIRED (n : Nat) : Fld := ⟨0x40061014 + 0x100 * n, 1, 1, 0x0⟩
def TEVn_STAT.LATE (n : Nat) : Fld := ⟨0x40061014 + 0x100 * n, 2, 1, 0x0⟩
def TEVn_STAT.MISSED (n : Nat) : Fld := ⟨0x40061014 + 0x100 * n, 3, 1, 0x0⟩
def TEVn_STAT.REPEATED (n : Nat) : Fld := ⟨0x40061014 + 0x100 * n, 4, 1, 0x0⟩
def TEVn_STAT.COUNT (n : Nat) : Fld := ⟨0x40061014 + 0x100 * n, 8, 8, 0x0⟩
def TEVn_STAT.EPOCH (n : Nat) : Fld := ⟨0x40061014 + 0x100 * n, 16, 16, 0x0⟩
def TEVn_LAST.STAMP (n : Nat) : Fld := ⟨0x40061018 + 0x100 * n, 0, 32, 0x0⟩

/-! 11_time.md R428 -/
def TCAPn_CTRL.EDGE (n : Nat) : Fld := ⟨0x40062000 + 0x100 * n, 0, 2, 0x0⟩
def TCAPn_CTRL.IRQ_EN (n : Nat) : Fld := ⟨0x40062000 + 0x100 * n, 2, 1, 0x0⟩
def TCAPn_STAT.COUNT (n : Nat) : Fld := ⟨0x40062004 + 0x100 * n, 0, 4, 0x0⟩
def TCAPn_STAT.LEVEL (n : Nat) : Fld := ⟨0x40062004 + 0x100 * n, 4, 1, 0x0⟩
def TCAPn_STAT.OVR (n : Nat) : Fld := ⟨0x40062004 + 0x100 * n, 5, 1, 0x0⟩
def TCAPn_STAT.GLITCH (n : Nat) : Fld := ⟨0x40062004 + 0x100 * n, 6, 1, 0x0⟩
def TCAPn_STAMP.STAMP (n : Nat) : Fld := ⟨0x40062008 + 0x100 * n, 0, 32, 0x0⟩

/-! 12_quadrille.md R459 -/
def QDR_CTX_CFG.CONFIGURED : Fld := ⟨0x40070000, 0, 4, 0x0⟩
def QDR_CTX_CFG.REDUND : Fld := ⟨0x40070000, 8, 4, 0x0⟩

/-! 12_quadrille.md R460 -/
def QDRn_CFG.N_CYCLES (n : Nat) : Fld := ⟨0x40071000 + 0x1000 * n, 0, 7, 0x0⟩
def QDRn_CFG.REDUND (n : Nat) : Fld := ⟨0x40071000 + 0x1000 * n, 8, 1, 0x0⟩
def QDRn_CYCLE_LEN.TICKS (n : Nat) : Fld := ⟨0x40071004 + 0x1000 * n, 0, 25, 0x0⟩
def QDRn_PHASE.TICKS (n : Nat) : Fld := ⟨0x40071008 + 0x1000 * n, 0, 32, 0x0⟩
def QDRn_POS.CYCLE (n : Nat) : Fld := ⟨0x4007100c + 0x1000 * n, 0, 6, 0x0⟩
def QDRn_POS.RUNNING (n : Nat) : Fld := ⟨0x4007100c + 0x1000 * n, 6, 1, 0x0⟩
def QDRn_POS.ROTATION (n : Nat) : Fld := ⟨0x4007100c + 0x1000 * n, 16, 16, 0x0⟩
def QDRn_CYC_STAMP.STAMP (n : Nat) : Fld := ⟨0x40071010 + 0x1000 * n, 0, 32, 0x0⟩
def QDRn_ALIGN.MODE (n : Nat) : Fld := ⟨0x40071014 + 0x1000 * n, 0, 2, 0x1f40000⟩
def QDRn_ALIGN.REF_PORT (n : Nat) : Fld := ⟨0x40071014 + 0x1000 * n, 2, 2, 0x1f40000⟩
def QDRn_ALIGN.TRIM_PPM (n : Nat) : Fld := ⟨0x40071014 + 0x1000 * n, 16, 9, 0x1f40000⟩
def QDRn_TRIM_REQ.NS (n : Nat) : Fld := ⟨0x40071018 + 0x1000 * n, 0, 32, 0x0⟩
def QDRn_TRIM_LEFT.NS (n : Nat) : Fld := ⟨0x4007101c + 0x1000 * n, 0, 32, 0x0⟩
def QDRn_OFS_LO.NS (n : Nat) : Fld := ⟨0x40071020 + 0x1000 * n, 0, 32, 0x0⟩
def QDRn_OFS_HI.NS (n : Nat) : Fld := ⟨0x40071024 + 0x1000 * n, 0, 32, 0x0⟩
def QDRn_SYNC_LIMIT.NS (n : Nat) : Fld := ⟨0x40071028 + 0x1000 * n, 0, 16, 0x3e8⟩
def QDRn_IRQ_PEND.CYCLE (n : Nat) : Fld := ⟨0x4007102c + 0x1000 * n, 0, 1, 0x0⟩
def QDRn_IRQ_PEND.MATRIX (n : Nat) : Fld := ⟨0x4007102c + 0x1000 * n, 1, 1, 0x0⟩
def QDRn_IRQ_PEND.LATE (n : Nat) : Fld := ⟨0x4007102c + 0x1000 * n, 2, 1, 0x0⟩
def QDRn_IRQ_PEND.OVERRUN (n : Nat) : Fld := ⟨0x4007102c + 0x1000 * n, 3, 1, 0x0⟩
def QDRn_IRQ_PEND.MISSING (n : Nat) : Fld := ⟨0x4007102c + 0x1000 * n, 4, 1, 0x0⟩
def QDRn_IRQ_PEND.ALIGN (n : Nat) : Fld := ⟨0x4007102c + 0x1000 * n, 5, 1, 0x0⟩
def QDRn_IRQ_PEND.TRIM_DONE (n : Nat) : Fld := ⟨0x4007102c + 0x1000 * n, 6, 1, 0x0⟩
def QDRn_IRQ_PEND.REF_LOST (n : Nat) : Fld := ⟨0x4007102c + 0x1000 * n, 7, 1, 0x0⟩
def QDRn_IRQ_EN.EN (n : Nat) : Fld := ⟨0x40071030 + 0x1000 * n, 0, 8, 0x0⟩
def QDRn_CNT_ERR.LATE (n : Nat) : Fld := ⟨0x40071034 + 0x1000 * n, 0, 16, 0x0⟩
def QDRn_CNT_ERR.OVERRUN (n : Nat) : Fld := ⟨0x40071034 + 0x1000 * n, 16, 16, 0x0⟩
def QDRn_CNT_RED.DUP (n : Nat) : Fld := ⟨0x40071038 + 0x1000 * n, 0, 16, 0x0⟩
def QDRn_CNT_RED.MISSING (n : Nat) : Fld := ⟨0x40071038 + 0x1000 * n, 16, 16, 0x0⟩
def QDRn_INST_STAMP.STAMP (n : Nat) : Fld := ⟨0x4007103c + 0x1000 * n, 0, 32, 0x0⟩
def QDRn_INST_ID.INST (n : Nat) : Fld := ⟨0x40071040 + 0x1000 * n, 0, 2, 0x0⟩
def QDRn_INST_ID.CYCLE (n : Nat) : Fld := ⟨0x40071040 + 0x1000 * n, 8, 6, 0x0⟩
def QDRn_ALIGN_ERR.NS (n : Nat) : Fld := ⟨0x40071044 + 0x1000 * n, 0, 32, 0x0⟩

/-! 13_ethernet.md R492 -/
def ETHn_CTRL.EN (n : Nat) : Fld := ⟨0x40080000 + 0x10000 * n, 0, 1, 0x5000⟩
def ETHn_CTRL.PAUSE_RX (n : Nat) : Fld := ⟨0x40080000 + 0x10000 * n, 1, 1, 0x5000⟩
def ETHn_CTRL.KEEP_FCS (n : Nat) : Fld := ⟨0x40080000 + 0x10000 * n, 2, 1, 0x5000⟩
def ETHn_CTRL.LOOP (n : Nat) : Fld := ⟨0x40080000 + 0x10000 * n, 3, 2, 0x5000⟩
def ETHn_CTRL.DEF_EN (n : Nat) : Fld := ⟨0x40080000 + 0x10000 * n, 5, 1, 0x5000⟩
def ETHn_CTRL.DEF_RXQ (n : Nat) : Fld := ⟨0x40080000 + 0x10000 * n, 8, 4, 0x5000⟩
def ETHn_CTRL.AN_EN (n : Nat) : Fld := ⟨0x40080000 + 0x10000 * n, 12, 1, 0x5000⟩
def ETHn_CTRL.SPEED_SEL (n : Nat) : Fld := ⟨0x40080000 + 0x10000 * n, 13, 2, 0x5000⟩
def ETHn_STATUS.LINK (n : Nat) : Fld := ⟨0x40080004 + 0x10000 * n, 0, 1, 0x0⟩
def ETHn_STATUS.SPEED (n : Nat) : Fld := ⟨0x40080004 + 0x10000 * n, 1, 2, 0x0⟩
def ETHn_STATUS.DOWNGRADED (n : Nat) : Fld := ⟨0x40080004 + 0x10000 * n, 3, 1, 0x0⟩
def ETHn_STATUS.OUT_OF_SERVICE (n : Nat) : Fld := ⟨0x40080004 + 0x10000 * n, 4, 1, 0x0⟩
def ETHn_STATUS.PAUSED (n : Nat) : Fld := ⟨0x40080004 + 0x10000 * n, 5, 1, 0x0⟩
def ETHn_MAX_FRAME.BYTES (n : Nat) : Fld := ⟨0x40080008 + 0x10000 * n, 0, 14, 0x5f2⟩
def ETHn_MAC_LO.ADDR (n : Nat) : Fld := ⟨0x4008000c + 0x10000 * n, 0, 32, 0x0⟩
def ETHn_MAC_HI.ADDR (n : Nat) : Fld := ⟨0x40080010 + 0x10000 * n, 0, 16, 0x0⟩
def ETHn_PHY_LAT.RX (n : Nat) : Fld := ⟨0x40080014 + 0x10000 * n, 0, 16, 0x0⟩
def ETHn_PHY_LAT.TX (n : Nat) : Fld := ⟨0x40080014 + 0x10000 * n, 16, 16, 0x0⟩
def ETHn_IRQ_PEND.LINK_CHG (n : Nat) : Fld := ⟨0x40080018 + 0x10000 * n, 0, 1, 0x0⟩
def ETHn_IRQ_PEND.PTPF (n : Nat) : Fld := ⟨0x40080018 + 0x10000 * n, 1, 1, 0x0⟩
def ETHn_IRQ_PEND.RX_NOBUF (n : Nat) : Fld := ⟨0x40080018 + 0x10000 * n, 2, 1, 0x0⟩
def ETHn_IRQ_PEND.PRP_MISS (n : Nat) : Fld := ⟨0x40080018 + 0x10000 * n, 3, 1, 0x0⟩
def ETHn_IRQ_PEND.FCS_HIGH (n : Nat) : Fld := ⟨0x40080018 + 0x10000 * n, 4, 1, 0x0⟩
def ETHn_IRQ_EN.EN (n : Nat) : Fld := ⟨0x4008001c + 0x10000 * n, 0, 5, 0x0⟩
def ETHn_MDIO_CMD.PHY (n : Nat) : Fld := ⟨0x40080020 + 0x10000 * n, 0, 5, 0x0⟩
def ETHn_MDIO_CMD.REG (n : Nat) : Fld := ⟨0x40080020 + 0x10000 * n, 5, 5, 0x0⟩
def ETHn_MDIO_CMD.OP (n : Nat) : Fld := ⟨0x40080020 + 0x10000 * n, 10, 3, 0x0⟩
def ETHn_MDIO_CMD.GO (n : Nat) : Fld := ⟨0x40080020 + 0x10000 * n, 15, 1, 0x0⟩
def ETHn_MDIO_CMD.WDATA (n : Nat) : Fld := ⟨0x40080020 + 0x10000 * n, 16, 16, 0x0⟩
def ETHn_MDIO_STAT.RDATA (n : Nat) : Fld := ⟨0x40080024 + 0x10000 * n, 0, 16, 0x0⟩
def ETHn_MDIO_STAT.BUSY (n : Nat) : Fld := ⟨0x40080024 + 0x10000 * n, 16, 1, 0x0⟩
def ETHn_PHY_POLL.PHY_ADDR (n : Nat) : Fld := ⟨0x40080028 + 0x10000 * n, 0, 5, 0x6400⟩
def ETHn_PHY_POLL.POLL_MS (n : Nat) : Fld := ⟨0x40080028 + 0x10000 * n, 8, 8, 0x6400⟩
def ETHn_PTPF_STAT.COUNT (n : Nat) : Fld := ⟨0x4008002c + 0x10000 * n, 0, 6, 0x0⟩
def ETHn_PTPF_STAT.OVF (n : Nat) : Fld := ⟨0x4008002c + 0x10000 * n, 8, 1, 0x0⟩
def ETHn_PTPF_STAMP.STAMP (n : Nat) : Fld := ⟨0x40080030 + 0x10000 * n, 0, 32, 0x0⟩
def ETHn_PTPF_INFO.SEQ_ID (n : Nat) : Fld := ⟨0x40080034 + 0x10000 * n, 0, 16, 0x0⟩
def ETHn_PTPF_INFO.MSG_TYPE (n : Nat) : Fld := ⟨0x40080034 + 0x10000 * n, 16, 4, 0x0⟩
def ETHn_PTPF_INFO.DIR (n : Nat) : Fld := ⟨0x40080034 + 0x10000 * n, 20, 1, 0x0⟩
def ETHn_PTPF_INFO.DOMAIN (n : Nat) : Fld := ⟨0x40080034 + 0x10000 * n, 24, 8, 0x0⟩
def ETHn_PRP_CTRL.PRP_EN (n : Nat) : Fld := ⟨0x40080038 + 0x10000 * n, 0, 1, 0x7d01000⟩
def ETHn_PRP_CTRL.KEEP_RCT (n : Nat) : Fld := ⟨0x40080038 + 0x10000 * n, 1, 1, 0x7d01000⟩
def ETHn_PRP_CTRL.SUP_EN (n : Nat) : Fld := ⟨0x40080038 + 0x10000 * n, 2, 1, 0x7d01000⟩
def ETHn_PRP_CTRL.DUP_ACCEPT (n : Nat) : Fld := ⟨0x40080038 + 0x10000 * n, 3, 1, 0x7d01000⟩
def ETHn_PRP_CTRL.MISS_LIMIT (n : Nat) : Fld := ⟨0x40080038 + 0x10000 * n, 8, 8, 0x7d01000⟩
def ETHn_PRP_CTRL.SUP_INTERVAL (n : Nat) : Fld := ⟨0x40080038 + 0x10000 * n, 16, 16, 0x7d01000⟩
def ETHn_PRP_FORGET.MS (n : Nat) : Fld := ⟨0x4008003c + 0x10000 * n, 0, 16, 0x190⟩
def ETHn_LANE.TX_AMP (n : Nat) : Fld := ⟨0x40080040 + 0x10000 * n, 0, 4, 0x1208⟩
def ETHn_LANE.TX_PRE (n : Nat) : Fld := ⟨0x40080040 + 0x10000 * n, 4, 4, 0x1208⟩
def ETHn_LANE.TX_POST (n : Nat) : Fld := ⟨0x40080040 + 0x10000 * n, 8, 4, 0x1208⟩
def ETHn_LANE.RX_ADAPT (n : Nat) : Fld := ⟨0x40080040 + 0x10000 * n, 12, 1, 0x1208⟩
def ETHn_LANE.PRBS_EN (n : Nat) : Fld := ⟨0x40080040 + 0x10000 * n, 16, 1, 0x1208⟩
def ETHn_LANE.PRBS_SEL (n : Nat) : Fld := ⟨0x40080040 + 0x10000 * n, 17, 1, 0x1208⟩
def ETHn_LANE.PRBS_CHK (n : Nat) : Fld := ⟨0x40080040 + 0x10000 * n, 18, 1, 0x1208⟩
def ETHn_PRBS_ERR.COUNT (n : Nat) : Fld := ⟨0x40080044 + 0x10000 * n, 0, 32, 0x0⟩
def ETHn_MII.TXC_DLY (n : Nat) : Fld := ⟨0x40080048 + 0x10000 * n, 0, 1, 0x0⟩
def ETHn_MII.RXC_DLY (n : Nat) : Fld := ⟨0x40080048 + 0x10000 * n, 1, 1, 0x0⟩
def ETHn_MII.RMII_CLK_OUT (n : Nat) : Fld := ⟨0x40080048 + 0x10000 * n, 2, 1, 0x0⟩

/-! 13_ethernet.md R493 -/
def ETHn_TXQk_CTRL.CBS_EN (n k : Nat) : Fld := ⟨0x40080100 + 0x10000 * n + 0x10 * k, 0, 1, 0x0⟩
def ETHn_TXQk_CTRL.STAGED (n k : Nat) : Fld := ⟨0x40080100 + 0x10000 * n + 0x10 * k, 8, 2, 0x0⟩
def ETHn_TXQk_SLOPE.KBPS (n k : Nat) : Fld := ⟨0x40080104 + 0x10000 * n + 0x10 * k, 0, 24, 0x0⟩
def ETHn_TXQk_HICRED.BITS (n k : Nat) : Fld := ⟨0x40080108 + 0x10000 * n + 0x10 * k, 0, 32, 0x7fffffff⟩
def ETHn_TXQk_CREDIT.BITS (n k : Nat) : Fld := ⟨0x4008010c + 0x10000 * n + 0x10 * k, 0, 32, 0x0⟩

/-! 14_can_serial.md R543 -/
def CANn_CTRL.EN (n : Nat) : Fld := ⟨0x400c0000 + 0x4000 * n, 0, 1, 0x100020⟩
def CANn_CTRL.MODE (n : Nat) : Fld := ⟨0x400c0000 + 0x4000 * n, 1, 2, 0x100020⟩
def CANn_CTRL.FD_EN (n : Nat) : Fld := ⟨0x400c0000 + 0x4000 * n, 3, 1, 0x100020⟩
def CANn_CTRL.TDC_EN (n : Nat) : Fld := ⟨0x400c0000 + 0x4000 * n, 4, 1, 0x100020⟩
def CANn_CTRL.AUTO_REC (n : Nat) : Fld := ⟨0x400c0000 + 0x4000 * n, 5, 1, 0x100020⟩
def CANn_CTRL.RECOVER (n : Nat) : Fld := ⟨0x400c0000 + 0x4000 * n, 6, 1, 0x100020⟩
def CANn_CTRL.ARB_EXCL (n : Nat) : Fld := ⟨0x400c0000 + 0x4000 * n, 7, 1, 0x100020⟩
def CANn_CTRL.TWIN_EN (n : Nat) : Fld := ⟨0x400c0000 + 0x4000 * n, 8, 1, 0x100020⟩
def CANn_CTRL.RXF_OVW (n : Nat) : Fld := ⟨0x400c0000 + 0x4000 * n, 9, 1, 0x100020⟩
def CANn_CTRL.STD_ACC (n : Nat) : Fld := ⟨0x400c0000 + 0x4000 * n, 10, 1, 0x100020⟩
def CANn_CTRL.XTD_ACC (n : Nat) : Fld := ⟨0x400c0000 + 0x4000 * n, 11, 1, 0x100020⟩
def CANn_CTRL.TT_REF_EN (n : Nat) : Fld := ⟨0x400c0000 + 0x4000 * n, 12, 1, 0x100020⟩
def CANn_CTRL.RETRY (n : Nat) : Fld := ⟨0x400c0000 + 0x4000 * n, 16, 8, 0x100020⟩
def CANn_NBT.BRP (n : Nat) : Fld := ⟨0x400c0004 + 0x4000 * n, 0, 8, 0xf0f3e01⟩
def CANn_NBT.TSEG1 (n : Nat) : Fld := ⟨0x400c0004 + 0x4000 * n, 8, 8, 0xf0f3e01⟩
def CANn_NBT.TSEG2 (n : Nat) : Fld := ⟨0x400c0004 + 0x4000 * n, 16, 7, 0xf0f3e01⟩
def CANn_NBT.SJW (n : Nat) : Fld := ⟨0x400c0004 + 0x4000 * n, 24, 7, 0xf0f3e01⟩
def CANn_DBT.DBRP (n : Nat) : Fld := ⟨0x400c0008 + 0x4000 * n, 0, 5, 0x9091c00⟩
def CANn_DBT.DTSEG1 (n : Nat) : Fld := ⟨0x400c0008 + 0x4000 * n, 8, 5, 0x9091c00⟩
def CANn_DBT.DTSEG2 (n : Nat) : Fld := ⟨0x400c0008 + 0x4000 * n, 16, 4, 0x9091c00⟩
def CANn_DBT.DSJW (n : Nat) : Fld := ⟨0x400c0008 + 0x4000 * n, 24, 4, 0x9091c00⟩
def CANn_TDC.TDCO (n : Nat) : Fld := ⟨0x400c000c + 0x4000 * n, 0, 7, 0x0⟩
def CANn_TDC.TDCV (n : Nat) : Fld := ⟨0x400c000c + 0x4000 * n, 16, 7, 0x0⟩
def CANn_STATUS.STATE (n : Nat) : Fld := ⟨0x400c0010 + 0x4000 * n, 0, 2, 0x3⟩
def CANn_STATUS.TIMING_ERR (n : Nat) : Fld := ⟨0x400c0010 + 0x4000 * n, 2, 1, 0x3⟩
def CANn_STATUS.OUT_OF_SERVICE (n : Nat) : Fld := ⟨0x400c0010 + 0x4000 * n, 3, 1, 0x3⟩
def CANn_STATUS.RECOVERING (n : Nat) : Fld := ⟨0x400c0010 + 0x4000 * n, 4, 1, 0x3⟩
def CANn_STATUS.REC (n : Nat) : Fld := ⟨0x400c0010 + 0x4000 * n, 8, 8, 0x3⟩
def CANn_STATUS.TEC (n : Nat) : Fld := ⟨0x400c0010 + 0x4000 * n, 16, 8, 0x3⟩
def CANn_LEC.NOM (n : Nat) : Fld := ⟨0x400c0014 + 0x4000 * n, 0, 3, 0x0⟩
def CANn_LEC.DATA (n : Nat) : Fld := ⟨0x400c0014 + 0x4000 * n, 4, 3, 0x0⟩
def CANn_TSC.COUNT (n : Nat) : Fld := ⟨0x400c0018 + 0x4000 * n, 0, 32, 0x0⟩
def CANn_TSC_LATCH.GO (n : Nat) : Fld := ⟨0x400c001c + 0x4000 * n, 0, 1, 0x0⟩
def CANn_LATCH_TSC.COUNT (n : Nat) : Fld := ⟨0x400c0020 + 0x4000 * n, 0, 32, 0x0⟩
def CANn_LATCH_ST_LO.NS (n : Nat) : Fld := ⟨0x400c0024 + 0x4000 * n, 0, 32, 0x0⟩
def CANn_LATCH_ST_HI.NS (n : Nat) : Fld := ⟨0x400c0028 + 0x4000 * n, 0, 32, 0x0⟩
def CANn_IRQ_PEND.RX_FIFO (n : Nat) : Fld := ⟨0x400c002c + 0x4000 * n, 0, 1, 0x0⟩
def CANn_IRQ_PEND.RX_BUF (n : Nat) : Fld := ⟨0x400c002c + 0x4000 * n, 1, 1, 0x0⟩
def CANn_IRQ_PEND.RX_LOST (n : Nat) : Fld := ⟨0x400c002c + 0x4000 * n, 2, 1, 0x0⟩
def CANn_IRQ_PEND.TX_DONE (n : Nat) : Fld := ⟨0x400c002c + 0x4000 * n, 3, 1, 0x0⟩
def CANn_IRQ_PEND.STATE (n : Nat) : Fld := ⟨0x400c002c + 0x4000 * n, 4, 1, 0x0⟩
def CANn_IRQ_PEND.TT_REF (n : Nat) : Fld := ⟨0x400c002c + 0x4000 * n, 5, 1, 0x0⟩
def CANn_IRQ_PEND.TT_ERR (n : Nat) : Fld := ⟨0x400c002c + 0x4000 * n, 6, 1, 0x0⟩
def CANn_IRQ_PEND.TWIN_MISS (n : Nat) : Fld := ⟨0x400c002c + 0x4000 * n, 7, 1, 0x0⟩
def CANn_IRQ_EN.EN (n : Nat) : Fld := ⟨0x400c0030 + 0x4000 * n, 0, 8, 0x0⟩
def CANn_RXF_CFG.SIZE (n : Nat) : Fld := ⟨0x400c0034 + 0x4000 * n, 0, 7, 0x20⟩
def CANn_RXF_STAT.FILL (n : Nat) : Fld := ⟨0x400c0038 + 0x4000 * n, 0, 7, 0x0⟩
def CANn_RXF_STAT.GET (n : Nat) : Fld := ⟨0x400c0038 + 0x4000 * n, 8, 6, 0x0⟩
def CANn_RXF_STAT.LOST (n : Nat) : Fld := ⟨0x400c0038 + 0x4000 * n, 16, 16, 0x0⟩
def CANn_RXF_POP.POP (n : Nat) : Fld := ⟨0x400c003c + 0x4000 * n, 0, 1, 0x0⟩
def CANn_RXB_NEW_LO.NEW (n : Nat) : Fld := ⟨0x400c0040 + 0x4000 * n, 0, 32, 0x0⟩
def CANn_RXB_NEW_HI.NEW (n : Nat) : Fld := ⟨0x400c0044 + 0x4000 * n, 0, 32, 0x0⟩
def CANn_TXREQ.REQ (n : Nat) : Fld := ⟨0x400c0048 + 0x4000 * n, 0, 32, 0x0⟩
def CANn_TXABORT.ABORT (n : Nat) : Fld := ⟨0x400c004c + 0x4000 * n, 0, 32, 0x0⟩
def CANn_TXDONE.DONE (n : Nat) : Fld := ⟨0x400c0050 + 0x4000 * n, 0, 32, 0x0⟩
def CANn_TXDONE_EN.EN (n : Nat) : Fld := ⟨0x400c0054 + 0x4000 * n, 0, 32, 0x0⟩
def CANn_QBIND.TXQ (n : Nat) : Fld := ⟨0x400c0058 + 0x4000 * n, 0, 8, 0x0⟩
def CANn_QBIND.TXQ_EN (n : Nat) : Fld := ⟨0x400c0058 + 0x4000 * n, 8, 1, 0x0⟩
def CANn_QBIND.RXQ (n : Nat) : Fld := ⟨0x400c0058 + 0x4000 * n, 16, 8, 0x0⟩
def CANn_QBIND.RXQ_EN (n : Nat) : Fld := ⟨0x400c0058 + 0x4000 * n, 24, 1, 0x0⟩
def CANn_QBUF.FIRST (n : Nat) : Fld := ⟨0x400c005c + 0x4000 * n, 0, 5, 0x0⟩
def CANn_QBUF.COUNT (n : Nat) : Fld := ⟨0x400c005c + 0x4000 * n, 8, 6, 0x0⟩
def CANn_TT_REF_ID.ID (n : Nat) : Fld := ⟨0x400c0060 + 0x4000 * n, 0, 29, 0x0⟩
def CANn_TT_REF_ID.XTD (n : Nat) : Fld := ⟨0x400c0060 + 0x4000 * n, 29, 1, 0x0⟩
def CANn_TT_REF_MASK.MASK (n : Nat) : Fld := ⟨0x400c0064 + 0x4000 * n, 0, 29, 0x1fffffff⟩
def CANn_TT_CFG.REF_LIMIT (n : Nat) : Fld := ⟨0x400c0068 + 0x4000 * n, 0, 8, 0x3⟩
def CANn_TT_STAT.CYCLE (n : Nat) : Fld := ⟨0x400c006c + 0x4000 * n, 0, 6, 0x0⟩
def CANn_TT_STAT.GAP (n : Nat) : Fld := ⟨0x400c006c + 0x4000 * n, 6, 1, 0x0⟩
def CANn_TT_STAT.MISSED (n : Nat) : Fld := ⟨0x400c006c + 0x4000 * n, 8, 8, 0x0⟩
def CANn_TT_REF_STAMP.STAMP (n : Nat) : Fld := ⟨0x400c0070 + 0x4000 * n, 0, 32, 0x0⟩
def CANn_TT_REF_DATA_LO.DATA (n : Nat) : Fld := ⟨0x400c0074 + 0x4000 * n, 0, 32, 0x0⟩
def CANn_TT_REF_DATA_HI.DATA (n : Nat) : Fld := ⟨0x400c0078 + 0x4000 * n, 0, 32, 0x0⟩
def CANn_TWIN_CFG.WINDOW_US (n : Nat) : Fld := ⟨0x400c0080 + 0x4000 * n, 0, 16, 0x1003e8⟩
def CANn_TWIN_CFG.MISS_LIMIT (n : Nat) : Fld := ⟨0x400c0080 + 0x4000 * n, 16, 8, 0x1003e8⟩
def CANn_TWIN_DUP.COUNT (n : Nat) : Fld := ⟨0x400c0084 + 0x4000 * n, 0, 32, 0x0⟩
def CANn_TWIN_MISS.A (n : Nat) : Fld := ⟨0x400c0088 + 0x4000 * n, 0, 16, 0x0⟩
def CANn_TWIN_MISS.B (n : Nat) : Fld := ⟨0x400c0088 + 0x4000 * n, 16, 16, 0x0⟩
def CANn_RX_FRAMES.COUNT (n : Nat) : Fld := ⟨0x400c0090 + 0x4000 * n, 0, 32, 0x0⟩
def CANn_TX_FRAMES.COUNT (n : Nat) : Fld := ⟨0x400c0094 + 0x4000 * n, 0, 32, 0x0⟩
def CANn_ARB_LOST.COUNT (n : Nat) : Fld := ⟨0x400c0098 + 0x4000 * n, 0, 32, 0x0⟩
def CANn_ERR_FRAMES.COUNT (n : Nat) : Fld := ⟨0x400c009c + 0x4000 * n, 0, 32, 0x0⟩
def CANn_RX_DROPPED.COUNT (n : Nat) : Fld := ⟨0x400c00a0 + 0x4000 * n, 0, 32, 0x0⟩
def CANn_RX_FD.COUNT (n : Nat) : Fld := ⟨0x400c00a4 + 0x4000 * n, 0, 32, 0x0⟩
def CANn_TXSTATb.STATUS (n b : Nat) : Fld := ⟨0x400c0100 + 0x4000 * n + 0x4 * b, 0, 4, 0x0⟩
def CANn_TXSTATb.CAUSE (n b : Nat) : Fld := ⟨0x400c0100 + 0x4000 * n + 0x4 * b, 4, 4, 0x0⟩
def CANn_TXSTATb.FAILS (n b : Nat) : Fld := ⟨0x400c0100 + 0x4000 * n + 0x4 * b, 8, 8, 0x0⟩
def CANn_TXSTATb.QUEUED (n b : Nat) : Fld := ⟨0x400c0100 + 0x4000 * n + 0x4 * b, 16, 1, 0x0⟩
def CANn_FILTER.ALL (n f w : Nat) : Fld := ⟨0x400c0400 + 0x4000 * n + 0xc * f + 0x4 * w, 0, 32, 0x0⟩
def CANn_TXBUF.ALL (n b w : Nat) : Fld := ⟨0x400c0800 + 0x4000 * n + 0x50 * b + 0x4 * w, 0, 32, 0x0⟩
def CANn_RXBUF.ALL (n r w : Nat) : Fld := ⟨0x400c1400 + 0x4000 * n + 0x50 * r + 0x4 * w, 0, 32, 0x0⟩

/-! 14_can_serial.md R544 -/
def SERn_CTRL.EN (n : Nat) : Fld := ⟨0x400d0000 + 0x1000 * n, 0, 1, 0x10⟩
def SERn_CTRL.RS485 (n : Nat) : Fld := ⟨0x400d0000 + 0x1000 * n, 1, 1, 0x10⟩
def SERn_CTRL.ECHO (n : Nat) : Fld := ⟨0x400d0000 + 0x1000 * n, 2, 1, 0x10⟩
def SERn_CTRL.LOOP (n : Nat) : Fld := ⟨0x400d0000 + 0x1000 * n, 3, 1, 0x10⟩
def SERn_CTRL.DATA (n : Nat) : Fld := ⟨0x400d0000 + 0x1000 * n, 4, 2, 0x10⟩
def SERn_CTRL.PARITY (n : Nat) : Fld := ⟨0x400d0000 + 0x1000 * n, 6, 3, 0x10⟩
def SERn_CTRL.STOP2 (n : Nat) : Fld := ⟨0x400d0000 + 0x1000 * n, 9, 1, 0x10⟩
def SERn_CTRL.DE_POL (n : Nat) : Fld := ⟨0x400d0000 + 0x1000 * n, 10, 1, 0x10⟩
def SERn_CTRL.ERRF (n : Nat) : Fld := ⟨0x400d0000 + 0x1000 * n, 11, 1, 0x10⟩
def SERn_BAUD.DIV_INT (n : Nat) : Fld := ⟨0x400d0004 + 0x1000 * n, 0, 20, 0x200043d⟩
def SERn_BAUD.DIV_FRAC (n : Nat) : Fld := ⟨0x400d0004 + 0x1000 * n, 24, 5, 0x200043d⟩
def SERn_DE.LEAD (n : Nat) : Fld := ⟨0x400d0008 + 0x1000 * n, 0, 8, 0x808⟩
def SERn_DE.LAG (n : Nat) : Fld := ⟨0x400d0008 + 0x1000 * n, 8, 8, 0x808⟩
def SERn_IDLE.IDLE_TO (n : Nat) : Fld := ⟨0x400d000c + 0x1000 * n, 0, 8, 0x0⟩
def SERn_STATUS.TXF_FILL (n : Nat) : Fld := ⟨0x400d0010 + 0x1000 * n, 0, 6, 0x0⟩
def SERn_STATUS.RXF_FILL (n : Nat) : Fld := ⟨0x400d0010 + 0x1000 * n, 8, 6, 0x0⟩
def SERn_STATUS.TX_BUSY (n : Nat) : Fld := ⟨0x400d0010 + 0x1000 * n, 16, 1, 0x0⟩
def SERn_STATUS.DE (n : Nat) : Fld := ⟨0x400d0010 + 0x1000 * n, 17, 1, 0x0⟩
def SERn_STATUS.OUT_OF_SERVICE (n : Nat) : Fld := ⟨0x400d0010 + 0x1000 * n, 18, 1, 0x0⟩
def SERn_STATUS.BITLEVEL (n : Nat) : Fld := ⟨0x400d0010 + 0x1000 * n, 19, 1, 0x0⟩
def SERn_TXDATA.CHAR (n : Nat) : Fld := ⟨0x400d0014 + 0x1000 * n, 0, 9, 0x0⟩
def SERn_RXDATA.CHAR (n : Nat) : Fld := ⟨0x400d0018 + 0x1000 * n, 0, 9, 0x0⟩
def SERn_RXDATA.PE (n : Nat) : Fld := ⟨0x400d0018 + 0x1000 * n, 9, 1, 0x0⟩
def SERn_RXDATA.FE (n : Nat) : Fld := ⟨0x400d0018 + 0x1000 * n, 10, 1, 0x0⟩
def SERn_RXDATA.BREAK (n : Nat) : Fld := ⟨0x400d0018 + 0x1000 * n, 11, 1, 0x0⟩
def SERn_RXDATA.VALID (n : Nat) : Fld := ⟨0x400d0018 + 0x1000 * n, 31, 1, 0x0⟩
def SERn_RX_STAMP.STAMP (n : Nat) : Fld := ⟨0x400d001c + 0x1000 * n, 0, 32, 0x0⟩
def SERn_IRQ_PEND.RX (n : Nat) : Fld := ⟨0x400d0020 + 0x1000 * n, 0, 1, 0x0⟩
def SERn_IRQ_PEND.TX_EMPTY (n : Nat) : Fld := ⟨0x400d0020 + 0x1000 * n, 1, 1, 0x0⟩
def SERn_IRQ_PEND.IDLE (n : Nat) : Fld := ⟨0x400d0020 + 0x1000 * n, 2, 1, 0x0⟩
def SERn_IRQ_PEND.OVERRUN (n : Nat) : Fld := ⟨0x400d0020 + 0x1000 * n, 3, 1, 0x0⟩
def SERn_IRQ_PEND.ERR (n : Nat) : Fld := ⟨0x400d0020 + 0x1000 * n, 4, 1, 0x0⟩
def SERn_IRQ_PEND.BITIO (n : Nat) : Fld := ⟨0x400d0020 + 0x1000 * n, 5, 1, 0x0⟩
def SERn_IRQ_EN.EN (n : Nat) : Fld := ⟨0x400d0024 + 0x1000 * n, 0, 6, 0x0⟩
def SERn_QBIND.TXQ (n : Nat) : Fld := ⟨0x400d0028 + 0x1000 * n, 0, 8, 0x0⟩
def SERn_QBIND.TXQ_EN (n : Nat) : Fld := ⟨0x400d0028 + 0x1000 * n, 8, 1, 0x0⟩
def SERn_QBIND.RXQ (n : Nat) : Fld := ⟨0x400d0028 + 0x1000 * n, 16, 8, 0x0⟩
def SERn_QBIND.RXQ_EN (n : Nat) : Fld := ⟨0x400d0028 + 0x1000 * n, 24, 1, 0x0⟩
def SERn_BITIO.OUT_FILL (n : Nat) : Fld := ⟨0x400d0030 + 0x1000 * n, 0, 7, 0x0⟩
def SERn_BITIO.IN_FILL (n : Nat) : Fld := ⟨0x400d0030 + 0x1000 * n, 8, 7, 0x0⟩
def SERn_BITIO.UNDERRUN (n : Nat) : Fld := ⟨0x400d0030 + 0x1000 * n, 16, 1, 0x0⟩
def SERn_BITIO.OVERRUN (n : Nat) : Fld := ⟨0x400d0030 + 0x1000 * n, 17, 1, 0x0⟩
def SERn_RX_CHARS.COUNT (n : Nat) : Fld := ⟨0x400d0040 + 0x1000 * n, 0, 32, 0x0⟩
def SERn_TX_CHARS.COUNT (n : Nat) : Fld := ⟨0x400d0044 + 0x1000 * n, 0, 32, 0x0⟩
def SERn_FE.COUNT (n : Nat) : Fld := ⟨0x400d0048 + 0x1000 * n, 0, 32, 0x0⟩
def SERn_PE.COUNT (n : Nat) : Fld := ⟨0x400d004c + 0x1000 * n, 0, 32, 0x0⟩
def SERn_OVERRUN.COUNT (n : Nat) : Fld := ⟨0x400d0050 + 0x1000 * n, 0, 32, 0x0⟩
def SERn_BREAK.COUNT (n : Nat) : Fld := ⟨0x400d0054 + 0x1000 * n, 0, 32, 0x0⟩

/-! 15_viaduct_pair.md R590 -/
def VDT_STATUS.PAIR_EN : Fld := ⟨0x400f0000, 0, 1, 0x0⟩
def VDT_STATUS.LANE_UP : Fld := ⟨0x400f0000, 1, 2, 0x0⟩
def VDT_STATUS.DOWNGRADED : Fld := ⟨0x400f0000, 3, 2, 0x0⟩
def VDT_STATUS.PARTNER : Fld := ⟨0x400f0000, 5, 1, 0x0⟩
def VDT_STATUS.WITNESS : Fld := ⟨0x400f0000, 6, 1, 0x0⟩
def VDT_STATUS.ALIVE_OUT : Fld := ⟨0x400f0000, 7, 1, 0x0⟩
def VDT_STATUS.OWN_ACTIVE : Fld := ⟨0x400f0000, 8, 1, 0x0⟩
def VDT_STATUS.PAIR_ID : Fld := ⟨0x400f0000, 9, 1, 0x0⟩
def VDT_STATUS.TIME_REF : Fld := ⟨0x400f0000, 10, 1, 0x0⟩
def VDT_STATUS.ID_CLASH : Fld := ⟨0x400f0000, 11, 1, 0x0⟩
def VDT_STATUS.LANE_STATE_A : Fld := ⟨0x400f0000, 12, 4, 0x0⟩
def VDT_STATUS.LANE_STATE_B : Fld := ⟨0x400f0000, 16, 4, 0x0⟩
def VDT_GEN.GEN : Fld := ⟨0x400f0004, 0, 32, 0x0⟩
def VDT_PARTNER_CFG.CONFIG_ID : Fld := ⟨0x400f0008, 0, 32, 0x0⟩
def VDT_CTRL.SELF_FAULT : Fld := ⟨0x400f000c, 0, 1, 0x0⟩
def VDT_CTRL.LINK_RESTART : Fld := ⟨0x400f000c, 1, 1, 0x0⟩
def VDT_OWN.BAY : Fld := ⟨0x400f0010, 0, 3, 0x0⟩
def VDT_OWN.EN : Fld := ⟨0x400f0010, 3, 1, 0x0⟩
def VDT_TX_SEQ.SEQ : Fld := ⟨0x400f0014, 0, 32, 0x0⟩
def VDT_RX_SEQ.SEQ : Fld := ⟨0x400f0018, 0, 32, 0x0⟩
def VDT_REPLAY.COUNT : Fld := ⟨0x400f001c, 0, 32, 0x0⟩
def VDT_CRC_ERR.A : Fld := ⟨0x400f0020, 0, 16, 0x0⟩
def VDT_CRC_ERR.B : Fld := ⟨0x400f0020, 16, 16, 0x0⟩
def VDT_HB_MISS.COUNT : Fld := ⟨0x400f0024, 0, 32, 0x0⟩
def VDT_DELAY.NS : Fld := ⟨0x400f0028, 0, 16, 0x0⟩
def VDT_IRQ_PEND.LINK_CHG : Fld := ⟨0x400f002c, 0, 1, 0x0⟩
def VDT_IRQ_PEND.PARTNER_LOST : Fld := ⟨0x400f002c, 1, 1, 0x0⟩
def VDT_IRQ_PEND.DISAGREE : Fld := ⟨0x400f002c, 2, 1, 0x0⟩
def VDT_IRQ_PEND.STALE : Fld := ⟨0x400f002c, 3, 1, 0x0⟩
def VDT_IRQ_PEND.BACKLOG : Fld := ⟨0x400f002c, 4, 1, 0x0⟩
def VDT_IRQ_PEND.ID_CLASH : Fld := ⟨0x400f002c, 5, 1, 0x0⟩
def VDT_IRQ_EN.EN : Fld := ⟨0x400f0030, 0, 6, 0x0⟩

/-! 15_viaduct_pair.md R591 -/
def VDTn_ROLE.ROLE (n : Nat) : Fld := ⟨0x400f1000 + 0x1000 * n, 0, 3, 0x0⟩
def VDTn_ROLE.PAIRED (n : Nat) : Fld := ⟨0x400f1000 + 0x1000 * n, 3, 1, 0x0⟩
def VDTn_ROLE.ELIGIBLE (n : Nat) : Fld := ⟨0x400f1000 + 0x1000 * n, 4, 1, 0x0⟩
def VDTn_ROLE.PREF (n : Nat) : Fld := ⟨0x400f1000 + 0x1000 * n, 5, 1, 0x0⟩
def VDTn_ROLE.PARTNER_ACTIVE (n : Nat) : Fld := ⟨0x400f1000 + 0x1000 * n, 6, 1, 0x0⟩
def VDTn_ROLE.CHANGES (n : Nat) : Fld := ⟨0x400f1000 + 0x1000 * n, 8, 8, 0x0⟩
def VDTn_BAY_GEN.GEN (n : Nat) : Fld := ⟨0x400f1004 + 0x1000 * n, 0, 32, 0x0⟩
def VDTn_CMD.HANDOVER (n : Nat) : Fld := ⟨0x400f1008 + 0x1000 * n, 0, 1, 0x0⟩
def VDTn_CMD.TAKE (n : Nat) : Fld := ⟨0x400f1008 + 0x1000 * n, 1, 1, 0x0⟩
def VDTn_CMD.REFUSED (n : Nat) : Fld := ⟨0x400f1008 + 0x1000 * n, 8, 1, 0x0⟩
def VDTn_SYNC.LINES_LEFT (n : Nat) : Fld := ⟨0x400f100c + 0x1000 * n, 0, 16, 0x0⟩
def VDTn_BULKQ.QUEUE (n : Nat) : Fld := ⟨0x400f1010 + 0x1000 * n, 0, 8, 0x0⟩
def VDTn_BULKQ.EN (n : Nat) : Fld := ⟨0x400f1010 + 0x1000 * n, 8, 1, 0x0⟩
def VDTn_MQ.FILL (n : Nat) : Fld := ⟨0x400f1014 + 0x1000 * n, 0, 6, 0x0⟩

/-! 16_trestle_stack.md R625 -/
def TRS_STATUS.POS : Fld := ⟨0x40100000, 0, 3, 0x0⟩
def TRS_STATUS.MASTER : Fld := ⟨0x40100000, 4, 3, 0x0⟩
def TRS_STATUS.IS_MASTER : Fld := ⟨0x40100000, 7, 1, 0x0⟩
def TRS_STATUS.ELECTED : Fld := ⟨0x40100000, 8, 1, 0x0⟩
def TRS_STATUS.FORMED : Fld := ⟨0x40100000, 9, 1, 0x0⟩
def TRS_STATUS.RING_BROKEN : Fld := ⟨0x40100000, 10, 1, 0x0⟩
def TRS_STATUS.JOIN_REFUSED : Fld := ⟨0x40100000, 11, 1, 0x0⟩
def TRS_STATUS.MISWIRED : Fld := ⟨0x40100000, 12, 1, 0x0⟩
def TRS_STATUS.LANE_UP : Fld := ⟨0x40100000, 16, 4, 0x0⟩
def TRS_STATUS.LANE_DOWN : Fld := ⟨0x40100000, 20, 4, 0x0⟩
def TRS_STATUS.DOWNGRADED : Fld := ⟨0x40100000, 24, 2, 0x0⟩
def TRS_MEMBERS.PRESENT : Fld := ⟨0x40100004, 0, 8, 0x0⟩
def TRS_MEMBERS.LOST : Fld := ⟨0x40100004, 8, 8, 0x0⟩
def TRS_MASTER_UID_LO.UID : Fld := ⟨0x40100008, 0, 32, 0x0⟩
def TRS_MASTER_UID_HI.UID : Fld := ⟨0x4010000c, 0, 32, 0x0⟩
def TRS_CLAIM_OUT.ACCEPTED : Fld := ⟨0x40100010, 0, 32, 0x0⟩
def TRS_CLAIM_IN.COUNT : Fld := ⟨0x40100014, 0, 6, 0x0⟩
def TRS_ASYM.UP : Fld := ⟨0x40100018, 0, 16, 0x0⟩
def TRS_ASYM.DOWN : Fld := ⟨0x40100018, 16, 16, 0x0⟩
def TRS_DELAY.UP : Fld := ⟨0x4010001c, 0, 16, 0x0⟩
def TRS_DELAY.DOWN : Fld := ⟨0x4010001c, 16, 16, 0x0⟩
def TRS_TIME_ERR.E : Fld := ⟨0x40100020, 0, 32, 0x0⟩
def TRS_REPLAY.COUNT : Fld := ⟨0x40100024, 0, 32, 0x0⟩
def TRS_CRC_ERR.UP : Fld := ⟨0x40100028, 0, 16, 0x0⟩
def TRS_CRC_ERR.DOWN : Fld := ⟨0x40100028, 16, 16, 0x0⟩
def TRS_HB_MISS.COUNT : Fld := ⟨0x4010002c, 0, 32, 0x0⟩
def TRS_FAILS.UNKNOWN : Fld := ⟨0x40100030, 0, 16, 0x0⟩
def TRS_FAILS.NOT_EXEC : Fld := ⟨0x40100030, 16, 16, 0x0⟩
def TRS_SIRQ_SEND.CODE : Fld := ⟨0x40100034, 0, 16, 0x0⟩
def TRS_SIRQ_SEND.GO : Fld := ⟨0x40100034, 31, 1, 0x0⟩
def TRS_SIRQ_BAYS.BAYS : Fld := ⟨0x40100038, 0, 8, 0x1⟩
def TRS_SIRQ_LAST.CODE : Fld := ⟨0x4010003c, 0, 16, 0x0⟩
def TRS_SIRQ_LAST.SRC : Fld := ⟨0x4010003c, 16, 3, 0x0⟩
def TRS_CTRL.LINK_RESTART : Fld := ⟨0x40100040, 0, 1, 0x0⟩
def TRS_IRQ_PEND.TOPO_CHG : Fld := ⟨0x40100044, 0, 1, 0x0⟩
def TRS_IRQ_PEND.MEMBER_LOST : Fld := ⟨0x40100044, 1, 1, 0x0⟩
def TRS_IRQ_PEND.HEALED : Fld := ⟨0x40100044, 2, 1, 0x0⟩
def TRS_IRQ_PEND.CLAIM_REFUSED : Fld := ⟨0x40100044, 3, 1, 0x0⟩
def TRS_IRQ_PEND.CALIB : Fld := ⟨0x40100044, 4, 1, 0x0⟩
def TRS_IRQ_PEND.SIRQ : Fld := ⟨0x40100044, 5, 1, 0x0⟩
def TRS_IRQ_EN.EN : Fld := ⟨0x40100048, 0, 6, 0x0⟩

/-! 16_trestle_stack.md R626 -/
def TRSn_REMOTE_PEND.CLAIM (n : Nat) : Fld := ⟨0x40101000 + 0x1000 * n, 0, 32, 0x0⟩
def TRSn_REMOTE_EN.EN (n : Nat) : Fld := ⟨0x40101004 + 0x1000 * n, 0, 32, 0x0⟩
def TRSn_SIRQ.PEND (n : Nat) : Fld := ⟨0x40101008 + 0x1000 * n, 0, 1, 0x0⟩

/-! 17_drive_control.md R659 -/
def DRVn_CTRL.CMODE (n : Nat) : Fld := ⟨0x40110000 + 0x10000 * n, 0, 1, 0x10⟩
def DRVn_CTRL.ALIGN_EN (n : Nat) : Fld := ⟨0x40110000 + 0x10000 * n, 1, 1, 0x10⟩
def DRVn_CTRL.ALIGN_CTX (n : Nat) : Fld := ⟨0x40110000 + 0x10000 * n, 2, 2, 0x10⟩
def DRVn_CTRL.BAND_ADAPT (n : Nat) : Fld := ⟨0x40110000 + 0x10000 * n, 4, 1, 0x10⟩
def DRVn_CTRL.FW_EN (n : Nat) : Fld := ⟨0x40110000 + 0x10000 * n, 5, 1, 0x10⟩
def DRVn_CIO.CIO_REF (n : Nat) : Fld := ⟨0x40110004 + 0x10000 * n, 0, 8, 0x0⟩
def DRVn_CIO.CIO_SNAP (n : Nat) : Fld := ⟨0x40110004 + 0x10000 * n, 8, 8, 0x0⟩
def DRVn_DEC_PHASE.TICKS (n : Nat) : Fld := ⟨0x40110008 + 0x10000 * n, 0, 25, 0x0⟩
def DRVn_CMD.OP (n : Nat) : Fld := ⟨0x4011000c + 0x10000 * n, 0, 3, 0x0⟩
def DRVn_CMD.START_MODE (n : Nat) : Fld := ⟨0x4011000c + 0x10000 * n, 4, 1, 0x0⟩
def DRVn_CMD.PSET (n : Nat) : Fld := ⟨0x4011000c + 0x10000 * n, 8, 4, 0x0⟩
def DRVn_CMD.GO (n : Nat) : Fld := ⟨0x4011000c + 0x10000 * n, 31, 1, 0x0⟩
def DRVn_CMD_STAT.STATUS (n : Nat) : Fld := ⟨0x40110010 + 0x10000 * n, 0, 4, 0x0⟩
def DRVn_CMD_STAT.RESULT (n : Nat) : Fld := ⟨0x40110010 + 0x10000 * n, 8, 4, 0x0⟩
def DRVn_STATE.STATE (n : Nat) : Fld := ⟨0x40110014 + 0x10000 * n, 0, 4, 0x0⟩
def DRVn_STATE.PSET (n : Nat) : Fld := ⟨0x40110014 + 0x10000 * n, 4, 4, 0x0⟩
def DRVn_STATE.PSET_VALID (n : Nat) : Fld := ⟨0x40110014 + 0x10000 * n, 8, 1, 0x0⟩
def DRVn_STATE.PSET_FROM_TAG (n : Nat) : Fld := ⟨0x40110014 + 0x10000 * n, 9, 1, 0x0⟩
def DRVn_STATE.INHIBIT (n : Nat) : Fld := ⟨0x40110014 + 0x10000 * n, 10, 1, 0x0⟩
def DRVn_STATE.BAND_AT_LIMIT (n : Nat) : Fld := ⟨0x40110014 + 0x10000 * n, 11, 1, 0x0⟩
def DRVn_STATE.MEAS_BAD (n : Nat) : Fld := ⟨0x40110014 + 0x10000 * n, 12, 1, 0x0⟩
def DRVn_TREF.TREF (n : Nat) : Fld := ⟨0x40110018 + 0x10000 * n, 0, 32, 0x0⟩
def DRVn_SREF.SREF (n : Nat) : Fld := ⟨0x4011001c + 0x10000 * n, 0, 32, 0x0⟩
def DRVn_PSIREF.PSIREF (n : Nat) : Fld := ⟨0x40110020 + 0x10000 * n, 0, 32, 0x0⟩
def DRVn_TLIM.TLIM (n : Nat) : Fld := ⟨0x40110024 + 0x10000 * n, 0, 32, 0x0⟩
def DRVn_MSRCq.EN (n q : Nat) : Fld := ⟨0x40110040 + 0x10000 * n + 0x4 * q, 0, 1, 0x0⟩
def DRVn_MSRCq.KIND (n q : Nat) : Fld := ⟨0x40110040 + 0x10000 * n + 0x4 * q, 1, 1, 0x0⟩
def DRVn_MSRCq.CH (n q : Nat) : Fld := ⟨0x40110040 + 0x10000 * n + 0x4 * q, 2, 5, 0x0⟩
def DRVn_MSRCq.OFFSET (n q : Nat) : Fld := ⟨0x40110040 + 0x10000 * n + 0x4 * q, 16, 16, 0x0⟩
def DRVn_MGAINq.GAIN (n q : Nat) : Fld := ⟨0x40110060 + 0x10000 * n + 0x4 * q, 0, 32, 0x0⟩
def DRVn_IALPHA.VALUE (n : Nat) : Fld := ⟨0x40110100 + 0x10000 * n, 0, 32, 0x0⟩
def DRVn_IBETA.VALUE (n : Nat) : Fld := ⟨0x40110104 + 0x10000 * n, 0, 32, 0x0⟩
def DRVn_VDC.VALUE (n : Nat) : Fld := ⟨0x40110108 + 0x10000 * n, 0, 32, 0x0⟩
def DRVn_PSI_ALPHA.VALUE (n : Nat) : Fld := ⟨0x4011010c + 0x10000 * n, 0, 32, 0x0⟩
def DRVn_PSI_BETA.VALUE (n : Nat) : Fld := ⟨0x40110110 + 0x10000 * n, 0, 32, 0x0⟩
def DRVn_TE.VALUE (n : Nat) : Fld := ⟨0x40110114 + 0x10000 * n, 0, 32, 0x0⟩
def DRVn_PSI_MAG.VALUE (n : Nat) : Fld := ⟨0x40110118 + 0x10000 * n, 0, 32, 0x0⟩
def DRVn_W_EST.VALUE (n : Nat) : Fld := ⟨0x4011011c + 0x10000 * n, 0, 32, 0x0⟩
def DRVn_W_ROT.VALUE (n : Nat) : Fld := ⟨0x40110120 + 0x10000 * n, 0, 32, 0x0⟩
def DRVn_THETA.ANGLE (n : Nat) : Fld := ⟨0x40110124 + 0x10000 * n, 0, 32, 0x0⟩
def DRVn_VEC.SECTOR (n : Nat) : Fld := ⟨0x40110128 + 0x10000 * n, 0, 3, 0x0⟩
def DRVn_VEC.STATE_ABC (n : Nat) : Fld := ⟨0x40110128 + 0x10000 * n, 3, 3, 0x0⟩
def DRVn_VEC.DPSI_DT (n : Nat) : Fld := ⟨0x40110128 + 0x10000 * n, 6, 2, 0x0⟩
def DRVn_VEC.DT_NEG (n : Nat) : Fld := ⟨0x40110128 + 0x10000 * n, 8, 1, 0x0⟩
def DRVn_BETA.BETA (n : Nat) : Fld := ⟨0x4011012c + 0x10000 * n, 0, 16, 0x1000⟩
def DRVn_FSW.HZ (n : Nat) : Fld := ⟨0x40110130 + 0x10000 * n, 0, 32, 0x0⟩
def DRVn_DEC_STAMP.STAMP (n : Nat) : Fld := ⟨0x40110134 + 0x10000 * n, 0, 32, 0x0⟩
def DRVn_DEFER.COUNT (n : Nat) : Fld := ⟨0x40110138 + 0x10000 * n, 0, 16, 0x0⟩
def DRVn_MEAS_BAD.COUNT (n : Nat) : Fld := ⟨0x4011013c + 0x10000 * n, 0, 16, 0x0⟩
def DRVn_SNAP_TE.VALUE (n : Nat) : Fld := ⟨0x40110180 + 0x10000 * n, 0, 32, 0x0⟩
def DRVn_SNAP_W.VALUE (n : Nat) : Fld := ⟨0x40110184 + 0x10000 * n, 0, 32, 0x0⟩
def DRVn_SNAP_VDC.VALUE (n : Nat) : Fld := ⟨0x40110188 + 0x10000 * n, 0, 32, 0x0⟩
def DRVn_SNAP_STAMP.VALUE (n : Nat) : Fld := ⟨0x4011018c + 0x10000 * n, 0, 32, 0x0⟩
def DRVn_IRQ_PEND.STARTED (n : Nat) : Fld := ⟨0x40110200 + 0x10000 * n, 0, 1, 0x0⟩
def DRVn_IRQ_PEND.START_FAIL (n : Nat) : Fld := ⟨0x40110200 + 0x10000 * n, 1, 1, 0x0⟩
def DRVn_IRQ_PEND.PSET_DONE (n : Nat) : Fld := ⟨0x40110200 + 0x10000 * n, 2, 1, 0x0⟩
def DRVn_IRQ_PEND.PSET_ERR (n : Nat) : Fld := ⟨0x40110200 + 0x10000 * n, 3, 1, 0x0⟩
def DRVn_IRQ_PEND.BAND_LIMIT (n : Nat) : Fld := ⟨0x40110200 + 0x10000 * n, 4, 1, 0x0⟩
def DRVn_IRQ_PEND.MEAS (n : Nat) : Fld := ⟨0x40110200 + 0x10000 * n, 5, 1, 0x0⟩
def DRVn_IRQ_EN.EN (n : Nat) : Fld := ⟨0x40110204 + 0x10000 * n, 0, 16, 0x0⟩

/-! 18_drive_stopping_protection.md R688 -/
def DRVn_PROT_CTRL.TRIP_CLEAR (n : Nat) : Fld := ⟨0x40110400 + 0x10000 * n, 0, 1, 0x2⟩
def DRVn_PROT_CTRL.CHOP_EN (n : Nat) : Fld := ⟨0x40110400 + 0x10000 * n, 1, 1, 0x2⟩
def DRVn_PROT_CTRL.TAKEOVER_CS (n : Nat) : Fld := ⟨0x40110400 + 0x10000 * n, 2, 1, 0x2⟩
def DRVn_OCP_CFG.HI (n : Nat) : Fld := ⟨0x40110404 + 0x10000 * n, 0, 10, 0x3ff⟩
def DRVn_OCP_CFG.LO (n : Nat) : Fld := ⟨0x40110404 + 0x10000 * n, 16, 10, 0x3ff⟩
def DRVn_OCP_CFG.FILT (n : Nat) : Fld := ⟨0x40110404 + 0x10000 * n, 28, 4, 0x3ff⟩
def DRVn_TRIP.SOURCE (n : Nat) : Fld := ⟨0x40110408 + 0x10000 * n, 0, 4, 0x0⟩
def DRVn_TRIP.LEG (n : Nat) : Fld := ⟨0x40110408 + 0x10000 * n, 4, 3, 0x0⟩
def DRVn_TRIP.ACTIVE (n : Nat) : Fld := ⟨0x40110408 + 0x10000 * n, 8, 1, 0x0⟩
def DRVn_TRIP.RESTARTS (n : Nat) : Fld := ⟨0x40110408 + 0x10000 * n, 16, 8, 0x0⟩
def DRVn_TRIP_STAMP.STAMP (n : Nat) : Fld := ⟨0x4011040c + 0x10000 * n, 0, 32, 0x0⟩
def DRVn_PROT_LIVE.OCP (n : Nat) : Fld := ⟨0x40110410 + 0x10000 * n, 0, 3, 0x0⟩
def DRVn_PROT_LIVE.FLT (n : Nat) : Fld := ⟨0x40110410 + 0x10000 * n, 3, 1, 0x0⟩
def DRVn_PROT_LIVE.DSAT (n : Nat) : Fld := ⟨0x40110410 + 0x10000 * n, 4, 4, 0x0⟩
def DRVn_GEN_LIM.TG (n : Nat) : Fld := ⟨0x40110414 + 0x10000 * n, 0, 32, 0x0⟩
def DRVn_GEN_STAT.LIM_GEN (n : Nat) : Fld := ⟨0x40110418 + 0x10000 * n, 0, 1, 0x0⟩
def DRVn_RAMP.R (n : Nat) : Fld := ⟨0x4011041c + 0x10000 * n, 0, 32, 0x0⟩
def DRVn_TARGET.TGT (n : Nat) : Fld := ⟨0x40110420 + 0x10000 * n, 0, 32, 0x0⟩
def DRVn_BRK_STAT.ON (n : Nat) : Fld := ⟨0x40110424 + 0x10000 * n, 0, 1, 0x0⟩
def DRVn_BRK_STAT.DUTY_LIMIT (n : Nat) : Fld := ⟨0x40110424 + 0x10000 * n, 1, 1, 0x0⟩
def DRVn_BRK_STAT.DISABLED (n : Nat) : Fld := ⟨0x40110424 + 0x10000 * n, 2, 1, 0x0⟩
def DRVn_BRK_STAT.DUTY (n : Nat) : Fld := ⟨0x40110424 + 0x10000 * n, 16, 10, 0x0⟩
def DRVn_KH.AVAIL (n : Nat) : Fld := ⟨0x40110428 + 0x10000 * n, 0, 1, 0x0⟩
def DRVn_KH.ACTIVE (n : Nat) : Fld := ⟨0x40110428 + 0x10000 * n, 1, 1, 0x0⟩
def DRVn_KH.EXHAUSTED (n : Nat) : Fld := ⟨0x40110428 + 0x10000 * n, 2, 1, 0x0⟩
def DRVn_LOS.TESTS (n : Nat) : Fld := ⟨0x4011042c + 0x10000 * n, 0, 4, 0x0⟩
def DRVn_LOS.COUNT (n : Nat) : Fld := ⟨0x4011042c + 0x10000 * n, 16, 16, 0x0⟩
def DRVn_RESID.VALUE (n : Nat) : Fld := ⟨0x40110430 + 0x10000 * n, 0, 32, 0x0⟩

/-! 19_adc_sdm.md R718 -/
def ADCn_CTRL.EN (n : Nat) : Fld := ⟨0x40131000 + 0x1000 * n, 0, 1, 0x0⟩
def ADCn_CTRL.DIFF (n : Nat) : Fld := ⟨0x40131000 + 0x1000 * n, 1, 3, 0x0⟩
def ADCn_CTRL.DEGRADED (n : Nat) : Fld := ⟨0x40131000 + 0x1000 * n, 4, 1, 0x0⟩
def ADCn_OVR.OVR (n : Nat) : Fld := ⟨0x40131004 + 0x1000 * n, 0, 6, 0x0⟩
def ADCn_OVR.ACTIVE (n : Nat) : Fld := ⟨0x40131004 + 0x1000 * n, 8, 6, 0x0⟩
def ADCn_OVR.FLT_EN (n : Nat) : Fld := ⟨0x40131004 + 0x1000 * n, 16, 6, 0x0⟩
def ADCn_QBIND.QUEUE (n : Nat) : Fld := ⟨0x40131008 + 0x1000 * n, 0, 8, 0x0⟩
def ADCn_QBIND.QEN (n : Nat) : Fld := ⟨0x40131008 + 0x1000 * n, 8, 1, 0x0⟩
def ADCn_QFLUSH.FLUSH (n : Nat) : Fld := ⟨0x4013100c + 0x1000 * n, 0, 1, 0x0⟩
def ADCn_SEQk_CFG.TRIG (n k : Nat) : Fld := ⟨0x40131010 + 0x1000 * n + 0x10 * k, 0, 2, 0x0⟩
def ADCn_SEQk_CFG.TEV (n k : Nat) : Fld := ⟨0x40131010 + 0x1000 * n + 0x10 * k, 2, 3, 0x0⟩
def ADCn_SEQk_CFG.COUNT (n k : Nat) : Fld := ⟨0x40131010 + 0x1000 * n + 0x10 * k, 8, 3, 0x0⟩
def ADCn_SEQk_CFG.QEN (n k : Nat) : Fld := ⟨0x40131010 + 0x1000 * n + 0x10 * k, 11, 1, 0x0⟩
def ADCn_SEQk_CFG.IRQ (n k : Nat) : Fld := ⟨0x40131010 + 0x1000 * n + 0x10 * k, 12, 1, 0x0⟩
def ADCn_SEQk_SLOTS.SLOT (n k : Nat) : Fld := ⟨0x40131014 + 0x1000 * n + 0x10 * k, 0, 32, 0x0⟩
def ADCn_SEQk_CTRL.CIO (n k : Nat) : Fld := ⟨0x40131018 + 0x1000 * n + 0x10 * k, 0, 8, 0x0⟩
def ADCn_SEQk_CTRL.GO (n k : Nat) : Fld := ⟨0x40131018 + 0x1000 * n + 0x10 * k, 8, 1, 0x0⟩
def ADCn_SEQk_STAMP.STAMP (n k : Nat) : Fld := ⟨0x4013101c + 0x1000 * n + 0x10 * k, 0, 32, 0x0⟩
def ADCn_STAT.BUSY (n : Nat) : Fld := ⟨0x40131050 + 0x1000 * n, 0, 4, 0x0⟩
def ADCn_STAT.WAITING (n : Nat) : Fld := ⟨0x40131050 + 0x1000 * n, 4, 4, 0x0⟩
def ADCn_RESj.WORD (n j : Nat) : Fld := ⟨0x40131060 + 0x1000 * n + 0x4 * j, 0, 32, 0x0⟩
def ADCn_IRQ_PEND.SEQ_DONE (n : Nat) : Fld := ⟨0x40131090 + 0x1000 * n, 0, 4, 0x0⟩
def ADCn_IRQ_PEND.OVR (n : Nat) : Fld := ⟨0x40131090 + 0x1000 * n, 4, 1, 0x0⟩
def ADCn_IRQ_PEND.LATE (n : Nat) : Fld := ⟨0x40131090 + 0x1000 * n, 5, 1, 0x0⟩
def ADCn_IRQ_PEND.QDROP (n : Nat) : Fld := ⟨0x40131090 + 0x1000 * n, 6, 1, 0x0⟩
def ADCn_IRQ_EN.EN (n : Nat) : Fld := ⟨0x40131094 + 0x1000 * n, 0, 7, 0x0⟩
def ADCn_CNT_TRIG.LATE (n : Nat) : Fld := ⟨0x40131098 + 0x1000 * n, 0, 16, 0x0⟩
def ADCn_CNT_TRIG.DROPPED (n : Nat) : Fld := ⟨0x40131098 + 0x1000 * n, 16, 16, 0x0⟩
def ADCn_CNT_QDROP.COUNT (n : Nat) : Fld := ⟨0x4013109c + 0x1000 * n, 0, 32, 0x0⟩

/-! 19_adc_sdm.md R719 -/
def SDM_CLK.DIV : Fld := ⟨0x40140000, 0, 8, 0x64⟩
def SDM_CLK.RUN : Fld := ⟨0x40140000, 8, 1, 0x64⟩
def SDMn_CTRL.EN (n : Nat) : Fld := ⟨0x40141000 + 0x1000 * n, 0, 1, 0x401010⟩
def SDMn_CTRL.EDGE (n : Nat) : Fld := ⟨0x40141000 + 0x1000 * n, 1, 1, 0x401010⟩
def SDMn_CTRL.CMP_EN (n : Nat) : Fld := ⟨0x40141000 + 0x1000 * n, 2, 1, 0x401010⟩
def SDMn_CTRL.CMP_ORD (n : Nat) : Fld := ⟨0x40141000 + 0x1000 * n, 3, 2, 0x401010⟩
def SDMn_CTRL.CMP_OSR (n : Nat) : Fld := ⟨0x40141000 + 0x1000 * n, 8, 6, 0x401010⟩
def SDMn_CTRL.DEC (n : Nat) : Fld := ⟨0x40141000 + 0x1000 * n, 16, 9, 0x401010⟩
def SDMn_CIO.CIO (n : Nat) : Fld := ⟨0x40141004 + 0x1000 * n, 0, 8, 0x0⟩
def SDMn_RES.WORD (n : Nat) : Fld := ⟨0x40141008 + 0x1000 * n, 0, 32, 0x0⟩
def SDMn_STAMP.STAMP (n : Nat) : Fld := ⟨0x4014100c + 0x1000 * n, 0, 32, 0x0⟩
def SDMn_LATCH.WORD (n : Nat) : Fld := ⟨0x40141010 + 0x1000 * n, 0, 32, 0x0⟩
def SDMn_LATCH_STAMP.STAMP (n : Nat) : Fld := ⟨0x40141014 + 0x1000 * n, 0, 32, 0x0⟩
def SDMn_OVR.OVR (n : Nat) : Fld := ⟨0x40141018 + 0x1000 * n, 0, 1, 0x1800⟩
def SDMn_OVR.ACTIVE (n : Nat) : Fld := ⟨0x40141018 + 0x1000 * n, 1, 1, 0x1800⟩
def SDMn_OVR.FLT_EN (n : Nat) : Fld := ⟨0x40141018 + 0x1000 * n, 2, 1, 0x1800⟩
def SDMn_OVR.DEGRADED (n : Nat) : Fld := ⟨0x40141018 + 0x1000 * n, 3, 1, 0x1800⟩
def SDMn_OVR.SAT_N (n : Nat) : Fld := ⟨0x40141018 + 0x1000 * n, 8, 6, 0x1800⟩
def SDMn_LAT.NS (n : Nat) : Fld := ⟨0x4014101c + 0x1000 * n, 0, 16, 0x0⟩
def SDMn_CMP_LIM.LO (n : Nat) : Fld := ⟨0x40141020 + 0x1000 * n, 0, 16, 0x7fff8000⟩
def SDMn_CMP_LIM.HI (n : Nat) : Fld := ⟨0x40141020 + 0x1000 * n, 16, 16, 0x7fff8000⟩
def SDMn_CMP.VALUE (n : Nat) : Fld := ⟨0x40141024 + 0x1000 * n, 0, 16, 0x0⟩
def SDMn_CMP.ABOVE (n : Nat) : Fld := ⟨0x40141024 + 0x1000 * n, 16, 1, 0x0⟩
def SDMn_CMP.BELOW (n : Nat) : Fld := ⟨0x40141024 + 0x1000 * n, 17, 1, 0x0⟩
def SDMn_QBIND.QUEUE (n : Nat) : Fld := ⟨0x40141028 + 0x1000 * n, 0, 8, 0x0⟩
def SDMn_QBIND.QEN (n : Nat) : Fld := ⟨0x40141028 + 0x1000 * n, 8, 1, 0x0⟩
def SDMn_QFLUSH.FLUSH (n : Nat) : Fld := ⟨0x4014102c + 0x1000 * n, 0, 1, 0x0⟩
def SDMn_IRQ_PEND.LATCH (n : Nat) : Fld := ⟨0x40141030 + 0x1000 * n, 0, 1, 0x0⟩
def SDMn_IRQ_PEND.CMP_HI (n : Nat) : Fld := ⟨0x40141030 + 0x1000 * n, 1, 1, 0x0⟩
def SDMn_IRQ_PEND.CMP_LO (n : Nat) : Fld := ⟨0x40141030 + 0x1000 * n, 2, 1, 0x0⟩
def SDMn_IRQ_PEND.OVR (n : Nat) : Fld := ⟨0x40141030 + 0x1000 * n, 3, 1, 0x0⟩
def SDMn_IRQ_PEND.STUCK (n : Nat) : Fld := ⟨0x40141030 + 0x1000 * n, 4, 1, 0x0⟩
def SDMn_IRQ_PEND.QDROP (n : Nat) : Fld := ⟨0x40141030 + 0x1000 * n, 5, 1, 0x0⟩
def SDMn_IRQ_EN.EN (n : Nat) : Fld := ⟨0x40141034 + 0x1000 * n, 0, 6, 0x0⟩

/-! 20_supply_ridethrough.md R751 -/
def SUP_CTRL.EN : Fld := ⟨0x40150000, 0, 1, 0x0⟩
def SUP_CTRL.INHIBIT_SW : Fld := ⟨0x40150000, 1, 1, 0x0⟩
def SUP_CTRL.LEARN_RESET : Fld := ⟨0x40150000, 2, 1, 0x0⟩
def SUP_CTRL.EN_RESULT : Fld := ⟨0x40150000, 8, 3, 0x0⟩
def SUP_CFG.SRC_KIND : Fld := ⟨0x40150004, 0, 1, 0x0⟩
def SUP_CFG.SRC_CH : Fld := ⟨0x40150004, 1, 5, 0x0⟩
def SUP_CFG.LINE : Fld := ⟨0x40150004, 6, 2, 0x0⟩
def SUP_CFG.LEARN : Fld := ⟨0x40150004, 8, 2, 0x0⟩
def SUP_CFG.LEARN_BOUND : Fld := ⟨0x40150004, 12, 4, 0x0⟩
def SUP_CFG.KH_DRV : Fld := ⟨0x40150004, 16, 2, 0x0⟩
def SUP_CFG.INHIBIT_DRV : Fld := ⟨0x40150004, 18, 2, 0x0⟩
def SUP_CFG.NOTIFY_BAYS : Fld := ⟨0x40150004, 24, 8, 0x0⟩
def SUP_NOMINAL.MV : Fld := ⟨0x40150008, 0, 32, 0x0⟩
def SUP_SCALE.MV : Fld := ⟨0x4015000c, 0, 32, 0x0⟩
def SUP_PCT.DIP : Fld := ⟨0x40150010, 0, 8, 0x0⟩
def SUP_PCT.GAP : Fld := ⟨0x40150010, 8, 8, 0x0⟩
def SUP_PCT.SURGE : Fld := ⟨0x40150010, 16, 8, 0x0⟩
def SUP_HOLD.MS : Fld := ⟨0x40150014, 0, 16, 0x0⟩
def SUP_DETECT.GAP_N : Fld := ⟨0x40150018, 0, 4, 0xc834⟩
def SUP_DETECT.HYST_PCT : Fld := ⟨0x40150018, 4, 4, 0xc834⟩
def SUP_DETECT.SLOW_US : Fld := ⟨0x40150018, 8, 12, 0xc834⟩
def SUP_CONFIRM.DIP_US : Fld := ⟨0x4015001c, 0, 16, 0x6401f4⟩
def SUP_CONFIRM.SURGE_US : Fld := ⟨0x4015001c, 16, 16, 0x6401f4⟩
def SUP_SHED.SHED_AFTER_MS : Fld := ⟨0x40150020, 0, 16, 0x140032⟩
def SUP_SHED.SHED_STEP_MS : Fld := ⟨0x40150020, 16, 16, 0x140032⟩
def SUP_RESTORE.RESTORE_STEP_MS : Fld := ⟨0x40150024, 0, 16, 0x5100064⟩
def SUP_RESTORE.DIP_SHED : Fld := ⟨0x40150024, 16, 4, 0x5100064⟩
def SUP_RESTORE.RANK_MOVE : Fld := ⟨0x40150024, 20, 2, 0x5100064⟩
def SUP_RESTORE.RECOV_ROC : Fld := ⟨0x40150024, 24, 8, 0x5100064⟩
def SUP_DEW.DEW_HYST : Fld := ⟨0x40150028, 0, 16, 0x3c0010⟩
def SUP_DEW.DEW_CLEAR_S : Fld := ⟨0x40150028, 16, 16, 0x3c0010⟩
def SUP_STATE.STATE : Fld := ⟨0x4015002c, 0, 3, 0x0⟩
def SUP_STATE.CLASS : Fld := ⟨0x4015002c, 4, 2, 0x0⟩
def SUP_STATE.SRC_BAD : Fld := ⟨0x4015002c, 6, 1, 0x0⟩
def SUP_STATE.INHIBIT : Fld := ⟨0x4015002c, 7, 1, 0x0⟩
def SUP_STATE.DEW : Fld := ⟨0x4015002c, 8, 1, 0x0⟩
def SUP_STATE.AT_BOUND : Fld := ⟨0x4015002c, 9, 1, 0x0⟩
def SUP_STATE.KH_SET : Fld := ⟨0x4015002c, 10, 2, 0x0⟩
def SUP_STATE.SHED : Fld := ⟨0x4015002c, 16, 8, 0x0⟩
def SUP_STATE.UNAVAIL : Fld := ⟨0x4015002c, 24, 8, 0x0⟩
def SUP_VALUE.MV : Fld := ⟨0x40150030, 0, 32, 0x0⟩
def SUP_FAST.MV : Fld := ⟨0x40150034, 0, 32, 0x0⟩
def SUP_VN.MV : Fld := ⟨0x40150038, 0, 32, 0x0⟩
def SUP_FREQ.MHZ : Fld := ⟨0x4015003c, 0, 32, 0x0⟩
def SUP_ROC.MV_MS : Fld := ⟨0x40150040, 0, 32, 0x0⟩
def SUP_STAMP.STAMP : Fld := ⟨0x40150044, 0, 32, 0x0⟩
def SUP_GAP_US.US : Fld := ⟨0x40150048, 0, 32, 0x0⟩
def SUP_RANK.RANK : Fld := ⟨0x4015004c, 0, 32, 0x0⟩
def SUP_DPg.W (g : Nat) : Fld := ⟨0x40150050 + 0x4 * g, 0, 32, 0x0⟩
def SUP_CNT_EVT.GAP : Fld := ⟨0x40150070, 0, 16, 0x0⟩
def SUP_CNT_EVT.DIP : Fld := ⟨0x40150070, 16, 16, 0x0⟩
def SUP_CNT_SURGE.SURGE : Fld := ⟨0x40150074, 0, 16, 0x0⟩
def SUP_IRQ_PEND.STATE_CHG : Fld := ⟨0x40150078, 0, 1, 0x0⟩
def SUP_IRQ_PEND.GAP : Fld := ⟨0x40150078, 1, 1, 0x0⟩
def SUP_IRQ_PEND.DIP : Fld := ⟨0x40150078, 2, 1, 0x0⟩
def SUP_IRQ_PEND.SURGE : Fld := ⟨0x40150078, 3, 1, 0x0⟩
def SUP_IRQ_PEND.BOUND : Fld := ⟨0x40150078, 4, 1, 0x0⟩
def SUP_IRQ_PEND.SRC_BAD : Fld := ⟨0x40150078, 5, 1, 0x0⟩
def SUP_IRQ_PEND.DEW_CHG : Fld := ⟨0x40150078, 6, 1, 0x0⟩
def SUP_IRQ_PEND.GROUP_UNAVAIL : Fld := ⟨0x40150078, 7, 1, 0x0⟩
def SUP_IRQ_EN.EN : Fld := ⟨0x4015007c, 0, 8, 0x0⟩

/-! 20_supply_ridethrough.md R753 -/
def SUPn_NTF.STATE (n : Nat) : Fld := ⟨0x40151000 + 0x1000 * n, 0, 3, 0x0⟩
def SUPn_NTF.CLASS (n : Nat) : Fld := ⟨0x40151000 + 0x1000 * n, 4, 2, 0x0⟩
def SUPn_NTF.CHG (n : Nat) : Fld := ⟨0x40151000 + 0x1000 * n, 8, 1, 0x0⟩
def SUPn_NTF.SHED (n : Nat) : Fld := ⟨0x40151000 + 0x1000 * n, 16, 8, 0x0⟩
def SUPn_STAMP.STAMP (n : Nat) : Fld := ⟨0x40151004 + 0x1000 * n, 0, 32, 0x0⟩

/-! 21_current_loop.md R769 -/
def CLOn_CTRL.EN (n : Nat) : Fld := ⟨0x40160000 + 0x100 * n, 0, 1, 0x0⟩
def CLOn_CTRL.CMP_ACT (n : Nat) : Fld := ⟨0x40160000 + 0x100 * n, 1, 2, 0x0⟩
def CLOn_CTRL.FORCE (n : Nat) : Fld := ⟨0x40160000 + 0x100 * n, 3, 2, 0x0⟩
def CLOn_CTRL.LIMIT_EN (n : Nat) : Fld := ⟨0x40160000 + 0x100 * n, 5, 1, 0x0⟩
def CLOn_SET.CODE (n : Nat) : Fld := ⟨0x40160004 + 0x100 * n, 0, 16, 0x2aab⟩
def CLOn_CFG.RSENSE (n : Nat) : Fld := ⟨0x40160008 + 0x100 * n, 0, 16, 0x10001388⟩
def CLOn_CFG.LOOPV_DIV (n : Nat) : Fld := ⟨0x40160008 + 0x100 * n, 16, 16, 0x10001388⟩
def CLOn_HEAD_RECOV.MV (n : Nat) : Fld := ⟨0x4016000c + 0x100 * n, 0, 16, 0x5dc⟩
def CLOn_STAT.COMPLIANCE (n : Nat) : Fld := ⟨0x40160010 + 0x100 * n, 0, 1, 0x0⟩
def CLOn_STAT.RECOVERING (n : Nat) : Fld := ⟨0x40160010 + 0x100 * n, 1, 1, 0x0⟩
def CLOn_STAT.MODE (n : Nat) : Fld := ⟨0x40160010 + 0x100 * n, 2, 2, 0x0⟩
def CLOn_STAT.OUT_OF_SERVICE (n : Nat) : Fld := ⟨0x40160010 + 0x100 * n, 4, 1, 0x0⟩
def CLOn_MEAS.UA (n : Nat) : Fld := ⟨0x40160014 + 0x100 * n, 0, 16, 0x0⟩
def CLOn_HEADROOM.MV (n : Nat) : Fld := ⟨0x40160018 + 0x100 * n, 0, 16, 0x0⟩
def CLOn_LOOPV.MV (n : Nat) : Fld := ⟨0x4016001c + 0x100 * n, 0, 16, 0x0⟩
def CLOn_TARGET.CODE (n : Nat) : Fld := ⟨0x40160020 + 0x100 * n, 0, 16, 0x0⟩
def CLOn_DAC.CODE (n : Nat) : Fld := ⟨0x40160024 + 0x100 * n, 0, 16, 0x0⟩
def CLOn_CIO.CIO (n : Nat) : Fld := ⟨0x40160028 + 0x100 * n, 0, 8, 0x0⟩
def CLOn_CNT.SHORTFALLS (n : Nat) : Fld := ⟨0x4016002c + 0x100 * n, 0, 16, 0x0⟩

/-! 21_current_loop.md R770 -/
def CLIm_CTRL.EN (n : Nat) : Fld := ⟨0x40160200 + 0x100 * n, 0, 1, 0x3200⟩
def CLIm_CTRL.AVG (n : Nat) : Fld := ⟨0x40160200 + 0x100 * n, 1, 3, 0x3200⟩
def CLIm_CTRL.LIM_MS (n : Nat) : Fld := ⟨0x40160200 + 0x100 * n, 8, 8, 0x3200⟩
def CLIm_CFG.RBURDEN (n : Nat) : Fld := ⟨0x40160204 + 0x100 * n, 0, 16, 0x1388⟩
def CLIm_MEAS.UA (n : Nat) : Fld := ⟨0x40160208 + 0x100 * n, 0, 16, 0x0⟩
def CLIm_STAT.OPEN (n : Nat) : Fld := ⟨0x4016020c + 0x100 * n, 0, 1, 0x0⟩
def CLIm_STAT.LOW (n : Nat) : Fld := ⟨0x4016020c + 0x100 * n, 1, 1, 0x0⟩
def CLIm_STAT.HIGH (n : Nat) : Fld := ⟨0x4016020c + 0x100 * n, 2, 1, 0x0⟩
def CLIm_CIO.CIO (n : Nat) : Fld := ⟨0x40160210 + 0x100 * n, 0, 8, 0x0⟩
def CLIm_LATCH.UA (n : Nat) : Fld := ⟨0x40160214 + 0x100 * n, 0, 16, 0x0⟩
def CLIm_LATCH_STAMP.STAMP (n : Nat) : Fld := ⟨0x40160218 + 0x100 * n, 0, 32, 0x0⟩
def CLP_IRQ_PEND.CMP : Fld := ⟨0x40160400, 0, 2, 0x0⟩
def CLP_IRQ_PEND.RECOV : Fld := ⟨0x40160400, 2, 2, 0x0⟩
def CLP_IRQ_PEND.LOW : Fld := ⟨0x40160400, 4, 2, 0x0⟩
def CLP_IRQ_PEND.HIGH : Fld := ⟨0x40160400, 6, 2, 0x0⟩
def CLP_IRQ_PEND.OOS : Fld := ⟨0x40160400, 8, 2, 0x0⟩
def CLP_IRQ_EN.EN : Fld := ⟨0x40160404, 0, 10, 0x0⟩

/-! 22_capacitive.md R792 -/
def CAP_CTRL.EN : Fld := ⟨0x40170000, 0, 1, 0x0⟩
def CAP_CTRL.GLOVE : Fld := ⟨0x40170000, 1, 1, 0x0⟩
def CAP_CTRL.RECAL : Fld := ⟨0x40170000, 2, 1, 0x0⟩
def CAP_CTRL.CAL_RELOAD : Fld := ⟨0x40170000, 3, 1, 0x0⟩
def CAP_CTRL.EN_RESULT : Fld := ⟨0x40170000, 8, 3, 0x0⟩
def CAP_CFG.FREQ_MASK : Fld := ⟨0x40170004, 0, 8, 0x0⟩
def CAP_CFG.HOP_HYST : Fld := ⟨0x40170004, 8, 8, 0x0⟩
def CAP_CFG.SLEEP_RATE : Fld := ⟨0x40170004, 16, 6, 0x0⟩
def CAP_SCAN.SCAN_US : Fld := ⟨0x40170008, 0, 16, 0x8200000⟩
def CAP_SCAN.PULSES : Fld := ⟨0x40170008, 16, 8, 0x8200000⟩
def CAP_SCAN.GLOVE_TH : Fld := ⟨0x40170008, 24, 4, 0x8200000⟩
def CAP_TUNE.NOISE_LIM : Fld := ⟨0x4017000c, 0, 16, 0x260040⟩
def CAP_TUNE.BL_SHIFT : Fld := ⟨0x4017000c, 16, 4, 0x260040⟩
def CAP_TUNE.TOUCH_N : Fld := ⟨0x4017000c, 20, 4, 0x260040⟩
def CAP_MAX_ON.MS : Fld := ⟨0x40170010, 0, 16, 0x4e20⟩
def CAP_RAW_LIM.OPEN_RAW : Fld := ⟨0x40170014, 0, 16, 0xff000100⟩
def CAP_RAW_LIM.SHORT_RAW : Fld := ⟨0x40170014, 16, 16, 0xff000100⟩
def CAP_STAT.FREQ : Fld := ⟨0x40170018, 0, 3, 0x0⟩
def CAP_STAT.NOISY : Fld := ⟨0x40170018, 3, 1, 0x0⟩
def CAP_STAT.SCANNING : Fld := ⟨0x40170018, 4, 1, 0x0⟩
def CAP_TEMP.T : Fld := ⟨0x4017001c, 0, 16, 0x0⟩
def CAP_TEMP_SW.T : Fld := ⟨0x40170020, 0, 16, 0x0⟩
def CAP_SLEEP.SLEEP_THRESH : Fld := ⟨0x40170024, 0, 16, 0x20020⟩
def CAP_SLEEP.SLEEP_N : Fld := ⟨0x40170024, 16, 4, 0x20020⟩
def CAP_SLEEP_RAW.RAW : Fld := ⟨0x40170028, 0, 16, 0x0⟩
def CAP_SLEEP_RAW.BASE : Fld := ⟨0x40170028, 16, 16, 0x0⟩
def CAP_NOISEf.LEVEL (f : Nat) : Fld := ⟨0x40170040 + 0x4 * f, 0, 16, 0x0⟩
def CAP_TOUCH_LO.KEYS : Fld := ⟨0x40170060, 0, 32, 0x0⟩
def CAP_TOUCH_HI.KEYS : Fld := ⟨0x40170064, 0, 32, 0x0⟩
def CAP_FAULT_LO.KEYS : Fld := ⟨0x40170068, 0, 32, 0x0⟩
def CAP_FAULT_HI.KEYS : Fld := ⟨0x4017006c, 0, 32, 0x0⟩
def CAP_IRQ_PEND.KEY_CHG : Fld := ⟨0x40170070, 0, 1, 0x0⟩
def CAP_IRQ_PEND.SNS_CHG : Fld := ⟨0x40170070, 1, 1, 0x0⟩
def CAP_IRQ_PEND.HOP : Fld := ⟨0x40170070, 2, 1, 0x0⟩
def CAP_IRQ_PEND.NOISY : Fld := ⟨0x40170070, 3, 1, 0x0⟩
def CAP_IRQ_PEND.FAULT : Fld := ⟨0x40170070, 4, 1, 0x0⟩
def CAP_IRQ_PEND.FILM_UPD : Fld := ⟨0x40170070, 5, 1, 0x0⟩
def CAP_IRQ_PEND.CAL_ERR : Fld := ⟨0x40170070, 6, 1, 0x0⟩
def CAP_IRQ_PEND.DEW_LEVEL : Fld := ⟨0x40170070, 7, 1, 0x0⟩
def CAP_IRQ_EN.EN : Fld := ⟨0x40170074, 0, 8, 0x0⟩
def CAP_CNT_HOP.COUNT : Fld := ⟨0x40170078, 0, 16, 0x0⟩

/-! 22_capacitive.md R793 -/
def CAP_KEYk_CFG.TX (k : Nat) : Fld := ⟨0x40170100 + 0x10 * k, 0, 4, 0x0⟩
def CAP_KEYk_CFG.RX (k : Nat) : Fld := ⟨0x40170100 + 0x10 * k, 4, 4, 0x0⟩
def CAP_KEYk_CFG.HYST (k : Nat) : Fld := ⟨0x40170100 + 0x10 * k, 8, 8, 0x0⟩
def CAP_KEYk_CFG.THRESH (k : Nat) : Fld := ⟨0x40170100 + 0x10 * k, 16, 16, 0x0⟩
def CAP_KEYk_RAW.RAW (k : Nat) : Fld := ⟨0x40170104 + 0x10 * k, 0, 16, 0x0⟩
def CAP_KEYk_RAW.BASE (k : Nat) : Fld := ⟨0x40170104 + 0x10 * k, 16, 16, 0x0⟩
def CAP_KEYk_STAT.DELTA (k : Nat) : Fld := ⟨0x40170108 + 0x10 * k, 0, 16, 0x0⟩
def CAP_KEYk_STAT.PRESENT (k : Nat) : Fld := ⟨0x40170108 + 0x10 * k, 16, 1, 0x0⟩
def CAP_KEYk_STAT.TOUCH (k : Nat) : Fld := ⟨0x40170108 + 0x10 * k, 17, 1, 0x0⟩
def CAP_KEYk_STAT.OPEN (k : Nat) : Fld := ⟨0x40170108 + 0x10 * k, 18, 1, 0x0⟩
def CAP_KEYk_STAT.SHORT (k : Nat) : Fld := ⟨0x40170108 + 0x10 * k, 19, 1, 0x0⟩
def CAP_KEYk_STAT.OOS (k : Nat) : Fld := ⟨0x40170108 + 0x10 * k, 20, 1, 0x0⟩

/-! 22_capacitive.md R794 -/
def SNSn_CFG.ROLE (n : Nat) : Fld := ⟨0x40170600 + 0x40 * n, 0, 1, 0x0⟩
def SNSn_CFG.DEW_LINK (n : Nat) : Fld := ⟨0x40170600 + 0x40 * n, 1, 1, 0x0⟩
def SNSn_CFG.PRESENT (n : Nat) : Fld := ⟨0x40170600 + 0x40 * n, 2, 1, 0x0⟩
def SNSn_CFG.CAL_SLOT (n : Nat) : Fld := ⟨0x40170600 + 0x40 * n, 4, 4, 0x0⟩
def SNSn_CFG.DEW_INDEX (n : Nat) : Fld := ⟨0x40170600 + 0x40 * n, 16, 16, 0x0⟩
def SNSn_CTRL.NPER16 (n : Nat) : Fld := ⟨0x40170604 + 0x40 * n, 0, 4, 0x404⟩
def SNSn_CTRL.FILM_AVG (n : Nat) : Fld := ⟨0x40170604 + 0x40 * n, 8, 3, 0x404⟩
def SNSn_THRESH.THRESH (n : Nat) : Fld := ⟨0x40170608 + 0x40 * n, 0, 16, 0x400200⟩
def SNSn_THRESH.HYST (n : Nat) : Fld := ⟨0x40170608 + 0x40 * n, 16, 8, 0x400200⟩
def SNSn_RAW.RAW (n : Nat) : Fld := ⟨0x4017060c + 0x40 * n, 0, 24, 0x0⟩
def SNSn_BASE.BASE (n : Nat) : Fld := ⟨0x40170610 + 0x40 * n, 0, 24, 0x0⟩
def SNSn_STAT.TOUCH (n : Nat) : Fld := ⟨0x40170614 + 0x40 * n, 0, 1, 0x0⟩
def SNSn_STAT.OPEN (n : Nat) : Fld := ⟨0x40170614 + 0x40 * n, 1, 1, 0x0⟩
def SNSn_STAT.SHORT (n : Nat) : Fld := ⟨0x40170614 + 0x40 * n, 2, 1, 0x0⟩
def SNSn_STAT.OOS (n : Nat) : Fld := ⟨0x40170614 + 0x40 * n, 3, 1, 0x0⟩
def SNSn_STAT.CAL_OK (n : Nat) : Fld := ⟨0x40170614 + 0x40 * n, 4, 1, 0x0⟩
def SNSn_STAT.FI_VALID (n : Nat) : Fld := ⟨0x40170614 + 0x40 * n, 5, 1, 0x0⟩
def SNSn_STAT.AT_DEW (n : Nat) : Fld := ⟨0x40170614 + 0x40 * n, 6, 1, 0x0⟩
def SNSn_CMEAS.C (n : Nat) : Fld := ⟨0x40170618 + 0x40 * n, 0, 32, 0x0⟩
def SNSn_FILM_C.C (n : Nat) : Fld := ⟨0x4017061c + 0x40 * n, 0, 16, 0x0⟩
def SNSn_FILM_IDX.FI (n : Nat) : Fld := ⟨0x40170620 + 0x40 * n, 0, 16, 0x0⟩
def SNSn_FILM_STAMP.STAMP (n : Nat) : Fld := ⟨0x40170624 + 0x40 * n, 0, 32, 0x0⟩

/-! 23_tag_reader.md R818 -/
def TAG_CTRL.EN : Fld := ⟨0x40180000, 0, 1, 0x0⟩
def TAG_CTRL.MOD10 : Fld := ⟨0x40180000, 1, 1, 0x0⟩
def TAG_CTRL.POWER_MW : Fld := ⟨0x40180000, 8, 8, 0x0⟩
def TAG_CFG.ANT_MASK : Fld := ⟨0x40180004, 0, 8, 0x0⟩
def TAG_CFG.PROTO : Fld := ⟨0x40180004, 8, 2, 0x0⟩
def TAG_CFG.Q_STEP : Fld := ⟨0x40180004, 16, 5, 0x0⟩
def TAG_CFG.MAX_TAGS : Fld := ⟨0x40180004, 24, 7, 0x0⟩
def TAG_TIMING.FIELD_SETTLE : Fld := ⟨0x40180008, 0, 16, 0x6403e8⟩
def TAG_TIMING.ANT_SETTLE : Fld := ⟨0x40180008, 16, 16, 0x6403e8⟩
def TAG_INV_CMD.ANTS : Fld := ⟨0x4018000c, 0, 8, 0x0⟩
def TAG_INV_CMD.PROTO : Fld := ⟨0x4018000c, 8, 2, 0x0⟩
def TAG_INV_CMD.SLOTS1 : Fld := ⟨0x4018000c, 10, 1, 0x0⟩
def TAG_INV_CMD.GO : Fld := ⟨0x4018000c, 31, 1, 0x0⟩
def TAG_INV_ABORT.ABORT : Fld := ⟨0x40180010, 0, 1, 0x0⟩
def TAG_INV_STAT.STATUS : Fld := ⟨0x40180014, 0, 4, 0x0⟩
def TAG_INV_STAT.RESULT : Fld := ⟨0x40180014, 8, 4, 0x0⟩
def TAG_INV_STAT.RUNNING : Fld := ⟨0x40180014, 12, 1, 0x0⟩
def TAG_INV_STAT.BOOT : Fld := ⟨0x40180014, 13, 1, 0x0⟩
def TAG_INV_STAT.RECORDS : Fld := ⟨0x40180014, 16, 11, 0x0⟩
def TAG_INV_SEQ.SEQ : Fld := ⟨0x40180018, 0, 32, 0x0⟩
def TAG_INV_STAMP.STAMP : Fld := ⟨0x4018001c, 0, 32, 0x0⟩
def TAG_ANT_STAT.FAULT : Fld := ⟨0x40180020, 0, 8, 0x0⟩
def TAG_ANT_STAT.OOS : Fld := ⟨0x40180020, 8, 8, 0x0⟩
def TAG_ANT_STAT.TOO_MANY : Fld := ⟨0x40180020, 16, 8, 0x0⟩
def TAG_ANT_STAT.READER_OOS : Fld := ⟨0x40180020, 24, 1, 0x0⟩
def TAG_AUTO.PERIOD_S : Fld := ⟨0x40180024, 0, 16, 0x0⟩
def TAG_Q.QFP : Fld := ⟨0x40180028, 0, 8, 0x440⟩
def TAG_Q.Q : Fld := ⟨0x40180028, 8, 4, 0x440⟩
def TAG_SEL.PSET0 : Fld := ⟨0x4018002c, 0, 4, 0x0⟩
def TAG_SEL.VALID0 : Fld := ⟨0x4018002c, 4, 1, 0x0⟩
def TAG_SEL.PSET1 : Fld := ⟨0x4018002c, 8, 4, 0x0⟩
def TAG_SEL.VALID1 : Fld := ⟨0x4018002c, 12, 1, 0x0⟩
def TAG_SEL.REC0 : Fld := ⟨0x4018002c, 16, 6, 0x0⟩
def TAG_SEL.REC1 : Fld := ⟨0x4018002c, 24, 6, 0x0⟩
def TAG_QBIND.QUEUE : Fld := ⟨0x40180030, 0, 8, 0x0⟩
def TAG_QBIND.QEN : Fld := ⟨0x40180030, 8, 1, 0x0⟩
def TAG_IRQ_PEND.INV_DONE : Fld := ⟨0x40180034, 0, 1, 0x0⟩
def TAG_IRQ_PEND.RECORD : Fld := ⟨0x40180034, 1, 1, 0x0⟩
def TAG_IRQ_PEND.SELECT : Fld := ⟨0x40180034, 2, 1, 0x0⟩
def TAG_IRQ_PEND.TOO_MANY : Fld := ⟨0x40180034, 3, 1, 0x0⟩
def TAG_IRQ_PEND.ANT_FAULT : Fld := ⟨0x40180034, 4, 1, 0x0⟩
def TAG_IRQ_PEND.RX_FAULT : Fld := ⟨0x40180034, 5, 1, 0x0⟩
def TAG_IRQ_EN.EN : Fld := ⟨0x40180038, 0, 6, 0x0⟩
def TAG_CNT.COLLISIONS : Fld := ⟨0x4018003c, 0, 16, 0x0⟩
def TAG_CNT.CRC_ERR : Fld := ⟨0x4018003c, 16, 16, 0x0⟩
def TAG_CNT2.QDROP : Fld := ⟨0x40180040, 0, 16, 0x0⟩
def TAG_CNT2.IGNORED : Fld := ⟨0x40180040, 16, 16, 0x0⟩
def TAG_RECi.RECORD (i w : Nat) : Fld := ⟨0x40181000 + 0x30 * i + 0x4 * w, 0, 32, 0x0⟩

/-! 24_pins_host.md R846 -/
def PIN_PARK.TIME : Fld := ⟨0x40010000, 0, 8, 0x0⟩
def PINp_ACTIVE.FUNC (p : Nat) : Fld := ⟨0x40010100 + 0x8 * p, 0, 4, 0x0⟩
def PINp_ACTIVE.PARK (p : Nat) : Fld := ⟨0x40010100 + 0x8 * p, 4, 4, 0x0⟩
def PINp_ACTIVE.DRIVE (p : Nat) : Fld := ⟨0x40010100 + 0x8 * p, 8, 5, 0x0⟩
def PINp_ACTIVE.INPUT (p : Nat) : Fld := ⟨0x40010100 + 0x8 * p, 13, 3, 0x0⟩
def PINp_ACTIVE.OWNER (p : Nat) : Fld := ⟨0x40010100 + 0x8 * p, 16, 3, 0x0⟩
def PINp_ACTIVE.PARKED (p : Nat) : Fld := ⟨0x40010100 + 0x8 * p, 20, 1, 0x0⟩
def PINp_ACTIVE.FAULT (p : Nat) : Fld := ⟨0x40010100 + 0x8 * p, 21, 1, 0x0⟩
def PINp_ACTIVE.LEVEL (p : Nat) : Fld := ⟨0x40010100 + 0x8 * p, 24, 1, 0x0⟩
def PINp_SHADOW.FUNC (p : Nat) : Fld := ⟨0x40010104 + 0x8 * p, 0, 4, 0x0⟩
def PINp_SHADOW.PARK (p : Nat) : Fld := ⟨0x40010104 + 0x8 * p, 4, 4, 0x0⟩
def PINp_SHADOW.DRIVE (p : Nat) : Fld := ⟨0x40010104 + 0x8 * p, 8, 5, 0x0⟩
def PINp_SHADOW.INPUT (p : Nat) : Fld := ⟨0x40010104 + 0x8 * p, 13, 3, 0x0⟩
def PINp_SHADOW.PEND (p : Nat) : Fld := ⟨0x40010104 + 0x8 * p, 31, 1, 0x0⟩
def PINb_COMMIT.GO (b : Nat) : Fld := ⟨0x40011000 + 0x1000 * b, 0, 1, 0x0⟩
def PINb_COMMIT.ARM (b : Nat) : Fld := ⟨0x40011000 + 0x1000 * b, 1, 1, 0x0⟩
def PINb_COMMIT.ARMED (b : Nat) : Fld := ⟨0x40011000 + 0x1000 * b, 2, 1, 0x0⟩
def PINb_COMMIT_STAT.STATUS (b : Nat) : Fld := ⟨0x40011004 + 0x1000 * b, 0, 4, 0x0⟩
def PINb_COMMIT_STAT.RESULT (b : Nat) : Fld := ⟨0x40011004 + 0x1000 * b, 8, 4, 0x0⟩
def PINb_COMMIT_STAT.PIN (b : Nat) : Fld := ⟨0x40011004 + 0x1000 * b, 16, 7, 0x0⟩
def PINb_CIO.CIO (b : Nat) : Fld := ⟨0x40011008 + 0x1000 * b, 0, 8, 0x0⟩

/-! 24_pins_host.md R847 -/
def GPIO_INk.IN (k : Nat) : Fld := ⟨0x401d0000 + 0x20 * k, 0, 32, 0x0⟩
def GPIO_OUTk.OUT (k : Nat) : Fld := ⟨0x401d0004 + 0x20 * k, 0, 32, 0x0⟩
def GPIO_SETk.SET (k : Nat) : Fld := ⟨0x401d0008 + 0x20 * k, 0, 32, 0x0⟩
def GPIO_CLRk.CLR (k : Nat) : Fld := ⟨0x401d000c + 0x20 * k, 0, 32, 0x0⟩
def GPIO_DIRk.DIR (k : Nat) : Fld := ⟨0x401d0010 + 0x20 * k, 0, 32, 0x0⟩
def GPIO_PENDk.PEND (k : Nat) : Fld := ⟨0x401d0014 + 0x20 * k, 0, 32, 0x0⟩
def GPIO_LATCHk.LATCH (k : Nat) : Fld := ⟨0x401d0018 + 0x20 * k, 0, 32, 0x0⟩
def GPIOp_CFG.IRQ_MODE (p : Nat) : Fld := ⟨0x401d0100 + 0x4 * p, 0, 3, 0x0⟩
def GPIOp_CFG.BIND_OUT (p : Nat) : Fld := ⟨0x401d0100 + 0x4 * p, 4, 1, 0x0⟩
def GPIOp_CFG.BIND_IN (p : Nat) : Fld := ⟨0x401d0100 + 0x4 * p, 5, 1, 0x0⟩
def GPIOb_CIO.CIO (b : Nat) : Fld := ⟨0x401d1000 + 0x1000 * b, 0, 8, 0x0⟩

/-! 24_pins_host.md R848 -/
def HIF_SPI_CTRL.EN : Fld := ⟨0x401b0000, 0, 1, 0x2⟩
def HIF_SPI_CTRL.IRQ_EN : Fld := ⟨0x401b0000, 1, 1, 0x2⟩
def HIF_SPI_CNT.GOOD : Fld := ⟨0x401b0004, 0, 16, 0x0⟩
def HIF_SPI_CNT.BAD : Fld := ⟨0x401b0004, 16, 16, 0x0⟩
def HIF_STAGE.BANK : Fld := ⟨0x401b0008, 0, 5, 0x0⟩
def HIF_STAGE.BANKS : Fld := ⟨0x401b0008, 8, 3, 0x0⟩
def HIF_SPI_HDB.WORD : Fld := ⟨0x401b000c, 0, 32, 0x0⟩
def HIF_SPI_DDB.WORD : Fld := ⟨0x401b0010, 0, 32, 0x0⟩
def HIF_PCIE_HDB.WORD : Fld := ⟨0x401b0014, 0, 32, 0x0⟩
def HIF_PCIE_DDB.WORD : Fld := ⟨0x401b0018, 0, 32, 0x0⟩
def HIF_PCIE_CTRL.EN : Fld := ⟨0x401b0020, 0, 1, 0x0⟩
def HIF_PCIE_STAT.LINK_UP : Fld := ⟨0x401b0024, 0, 1, 0x0⟩
def HIF_PCIE_STAT.RATE : Fld := ⟨0x401b0024, 1, 2, 0x0⟩
def HIF_PCIE_STAT.WIDTH : Fld := ⟨0x401b0024, 3, 2, 0x0⟩
def HIF_PCIE_STAT.DOWNGRADED : Fld := ⟨0x401b0024, 5, 1, 0x0⟩
def HIF_PCIE_STAT.D3 : Fld := ⟨0x401b0024, 6, 1, 0x0⟩
def HIF_PCIE_SUBSYS.SVID : Fld := ⟨0x401b0028, 0, 16, 0x0⟩
def HIF_PCIE_SUBSYS.SSID : Fld := ⟨0x401b0028, 16, 16, 0x0⟩
def HIF_PCIE_OB_LO.BASE : Fld := ⟨0x401b002c, 12, 20, 0x0⟩
def HIF_PCIE_OB_HI.BASE : Fld := ⟨0x401b0030, 0, 32, 0x0⟩
def HIF_PCIE_CNT.CORR : Fld := ⟨0x401b0034, 0, 16, 0x0⟩
def HIF_PCIE_CNT.UNCORR : Fld := ⟨0x401b0034, 16, 16, 0x0⟩
def HIF_QSPI_CFG.MODE : Fld := ⟨0x401b0040, 0, 2, 0x1000000⟩
def HIF_QSPI_CFG.DIV : Fld := ⟨0x401b0040, 4, 4, 0x1000000⟩
def HIF_QSPI_CFG.DUMMY : Fld := ⟨0x401b0040, 8, 5, 0x1000000⟩
def HIF_QSPI_CFG.READ_OP : Fld := ⟨0x401b0040, 16, 8, 0x1000000⟩
def HIF_QSPI_CFG.XIP_EN : Fld := ⟨0x401b0040, 24, 1, 0x1000000⟩
def HIF_QSPI_CMD.OP : Fld := ⟨0x401b0044, 0, 8, 0x0⟩
def HIF_QSPI_CMD.LEN : Fld := ⟨0x401b0044, 8, 9, 0x0⟩
def HIF_QSPI_CMD.WRITE : Fld := ⟨0x401b0044, 17, 1, 0x0⟩
def HIF_QSPI_CMD.ADDR_EN : Fld := ⟨0x401b0044, 18, 1, 0x0⟩
def HIF_QSPI_CMD.GO : Fld := ⟨0x401b0044, 31, 1, 0x0⟩
def HIF_QSPI_ADDR.ADDR : Fld := ⟨0x401b0048, 0, 32, 0x0⟩
def HIF_QSPI_STAT.STATUS : Fld := ⟨0x401b004c, 0, 4, 0x0⟩
def HIF_QSPI_STAT.BUSY : Fld := ⟨0x401b004c, 4, 1, 0x0⟩
def HIF_IRQ_PEND.SPI_HDB : Fld := ⟨0x401b0050, 0, 1, 0x0⟩
def HIF_IRQ_PEND.SPI_ERR : Fld := ⟨0x401b0050, 1, 1, 0x0⟩
def HIF_IRQ_PEND.PCIE_HDB : Fld := ⟨0x401b0050, 2, 1, 0x0⟩
def HIF_IRQ_PEND.PCIE_LINK : Fld := ⟨0x401b0050, 3, 1, 0x0⟩
def HIF_IRQ_PEND.PCIE_ERR : Fld := ⟨0x401b0050, 4, 1, 0x0⟩
def HIF_IRQ_PEND.QSPI_DONE : Fld := ⟨0x401b0050, 5, 1, 0x0⟩
def HIF_IRQ_EN.EN : Fld := ⟨0x401b0054, 0, 6, 0x0⟩
def HIF_QSPI_DATA.WORD (w : Nat) : Fld := ⟨0x401b0100 + 0x4 * w, 0, 32, 0x0⟩

/-! 13_ethernet.md R494 -/
def ETHn_RULE.ALL (n r w : Nat) : Fld := ⟨0x40081000 + 0x10000 * n + 0x10 * r + 0x4 * w, 0, 32, 0x0⟩
def ETHn_RULE_HITS.HITS (n r : Nat) : Fld := ⟨0x4008100c + 0x10000 * n + 0x10 * r, 0, 32, 0x0⟩
def ETHn_RX_FRAMES.COUNT (n : Nat) : Fld := ⟨0x40080200 + 0x10000 * n, 0, 32, 0x0⟩
def ETHn_RX_OCTETS.COUNT (n : Nat) : Fld := ⟨0x40080204 + 0x10000 * n, 0, 32, 0x0⟩
def ETHn_RX_FCS_ERR.COUNT (n : Nat) : Fld := ⟨0x40080208 + 0x10000 * n, 0, 32, 0x0⟩
def ETHn_RX_RUNT.COUNT (n : Nat) : Fld := ⟨0x4008020c + 0x10000 * n, 0, 32, 0x0⟩
def ETHn_RX_TOO_LONG.COUNT (n : Nat) : Fld := ⟨0x40080210 + 0x10000 * n, 0, 32, 0x0⟩
def ETHn_RX_NOBUF.COUNT (n : Nat) : Fld := ⟨0x40080214 + 0x10000 * n, 0, 32, 0x0⟩
def ETHn_RX_FILTERED.COUNT (n : Nat) : Fld := ⟨0x40080218 + 0x10000 * n, 0, 32, 0x0⟩
def ETHn_RX_PCS_ERR.COUNT (n : Nat) : Fld := ⟨0x4008021c + 0x10000 * n, 0, 32, 0x0⟩
def ETHn_TX_FRAMES.COUNT (n : Nat) : Fld := ⟨0x40080220 + 0x10000 * n, 0, 32, 0x0⟩
def ETHn_TX_OCTETS.COUNT (n : Nat) : Fld := ⟨0x40080224 + 0x10000 * n, 0, 32, 0x0⟩
def ETHn_TX_FAILED.COUNT (n : Nat) : Fld := ⟨0x40080228 + 0x10000 * n, 0, 32, 0x0⟩
def ETHn_PAUSE_RX_CNT.COUNT (n : Nat) : Fld := ⟨0x4008022c + 0x10000 * n, 0, 32, 0x0⟩
def ETHn_PRP_DUP.COUNT (n : Nat) : Fld := ⟨0x40080230 + 0x10000 * n, 0, 32, 0x0⟩
def ETHn_PRP_MISS_A.COUNT (n : Nat) : Fld := ⟨0x40080234 + 0x10000 * n, 0, 32, 0x0⟩
def ETHn_PRP_MISS_B.COUNT (n : Nat) : Fld := ⟨0x40080238 + 0x10000 * n, 0, 32, 0x0⟩

end Sys2Proof.Machine.R
end

