-- ==== Sys2Proof/Machine/RegTable.lean ====
section
/-! DEFINITION.
The register table: for every register the address of its first instance, its instance strides and
counts, and each field's place, access code (R5), and whether it lies in the always-on domain. -/

namespace Sys2Proof.Machine

/-- 03_bitstream_loading.md R117. -/
def regTableR117 : List RegDef := [
  ⟨0x401a1000, [(10, 0x1000), (64, 0x4)], 0x0,
   [⟨0, 32, .rw, false⟩]⟩,
  ⟨0x401a1100, [(10, 0x1000)], 0x0,
   [⟨0, 1, .wo, false⟩]⟩,
  ⟨0x401a1104, [(10, 0x1000)], 0x0,
   [⟨0, 1, .ro, false⟩, ⟨1, 1, .w1c, false⟩, ⟨2, 1, .rw, false⟩]⟩,
  ⟨0x401a1108, [(10, 0x1000)], 0x0,
   [⟨0, 3, .ro, false⟩]⟩,
  ⟨0x401a110c, [(10, 0x1000)], 0x0,
   [⟨0, 3, .rw, false⟩]⟩,
  ⟨0x401a1200, [(10, 0x1000), (32, 0x4)], 0x0,
   [⟨0, 32, .ro, false⟩]⟩]

/-- 03_bitstream_loading.md R126. -/
def regTableR126 : List RegDef := [
  ⟨0x401a0000, [], 0xc,
   [⟨0, 2, .ro, false⟩, ⟨2, 2, .ro, false⟩, ⟨4, 1, .ro, false⟩, ⟨5, 1, .ro, false⟩, ⟨6, 1, .ro, false⟩, ⟨7, 1, .ro, false⟩, ⟨16, 16, .ro, false⟩]⟩,
  ⟨0x401a0004, [], 0x0,
   [⟨0, 32, .ro, false⟩]⟩,
  ⟨0x401a0008, [], 0x0,
   [⟨0, 32, .ro, false⟩]⟩,
  ⟨0x401a000c, [], 0x0,
   [⟨0, 4, .ro, false⟩, ⟨4, 4, .ro, false⟩, ⟨8, 1, .ro, false⟩]⟩,
  ⟨0x401a0010, [], 0x0,
   [⟨0, 4, .ro, false⟩, ⟨4, 4, .ro, false⟩, ⟨8, 2, .ro, false⟩]⟩,
  ⟨0x401a0014, [], 0x0,
   [⟨0, 16, .ro, false⟩, ⟨16, 4, .ro, false⟩]⟩,
  ⟨0x401a0018, [], 0x0,
   [⟨0, 32, .ro, false⟩]⟩,
  ⟨0x401a001c, [], 0x0,
   [⟨0, 32, .ro, false⟩]⟩]

/-- 04_bays.md R160. -/
def regTableR160 : List RegDef := [
  ⟨0x40020000, [], 0x0,
   [⟨0, 3, .ro, false⟩]⟩,
  ⟨0x40020004, [], 0x0,
   [⟨0, 8, .bs, false⟩]⟩,
  ⟨0x40020008, [], 0x0,
   [⟨0, 7, .bs, false⟩]⟩,
  ⟨0x4002000c, [], 0x0,
   [⟨0, 8, .w1c, false⟩]⟩]

/-- 04_bays.md R161. -/
def regTableR161 : List RegDef := [
  ⟨0x40021000, [(8, 0x1000)], 0x0,
   [⟨0, 3, .ro, false⟩, ⟨3, 1, .bs, false⟩, ⟨4, 1, .bs, false⟩, ⟨8, 8, .ro, false⟩, ⟨16, 4, .ro, false⟩]⟩,
  ⟨0x40021004, [(8, 0x1000)], 0x0,
   [⟨0, 1, .w1s, false⟩, ⟨1, 1, .w1s, false⟩, ⟨2, 1, .w1s, false⟩, ⟨3, 1, .w1s, false⟩]⟩,
  ⟨0x40021008, [(8, 0x1000)], 0x0,
   [⟨0, 32, .wo, false⟩]⟩,
  ⟨0x4002100c, [(8, 0x1000)], 0x0,
   [⟨0, 23, .ro, false⟩]⟩,
  ⟨0x40021010, [(8, 0x1000)], 0x0,
   [⟨0, 16, .ro, false⟩, ⟨16, 8, .ro, false⟩, ⟨31, 1, .w1c, false⟩]⟩,
  ⟨0x40021014, [(8, 0x1000)], 0x0,
   [⟨0, 32, .ro, false⟩]⟩,
  ⟨0x40021018, [(8, 0x1000)], 0x0,
   [⟨0, 8, .ro, false⟩, ⟨8, 4, .ro, false⟩, ⟨12, 4, .ro, false⟩, ⟨16, 1, .ro, false⟩]⟩,
  ⟨0x40021020, [(8, 0x1000)], 0x0,
   [⟨0, 32, .ro, false⟩]⟩,
  ⟨0x40021024, [(8, 0x1000)], 0x0,
   [⟨0, 30, .ro, false⟩]⟩,
  ⟨0x40021028, [(8, 0x1000)], 0x0,
   [⟨0, 32, .rw, false⟩]⟩,
  ⟨0x4002102c, [(8, 0x1000)], 0x0,
   [⟨0, 30, .rw, false⟩]⟩,
  ⟨0x40021030, [(8, 0x1000)], 0x0,
   [⟨0, 5, .ro, false⟩, ⟨5, 1, .w1c, false⟩, ⟨6, 3, .ro, false⟩, ⟨9, 1, .w1c, false⟩, ⟨10, 1, .ro, false⟩, ⟨11, 1, .w1c, false⟩]⟩,
  ⟨0x40021034, [(8, 0x1000)], 0x0,
   [⟨0, 12, .rw, false⟩]⟩,
  ⟨0x40021038, [(8, 0x1000)], 0x0,
   [⟨0, 4, .rw, false⟩]⟩,
  ⟨0x4002103c, [(8, 0x1000)], 0x0,
   [⟨0, 8, .w1c, false⟩, ⟨8, 8, .w1c, false⟩]⟩,
  ⟨0x40021040, [(8, 0x1000)], 0x0,
   [⟨0, 32, .rc, false⟩]⟩,
  ⟨0x40021044, [(8, 0x1000)], 0x0,
   [⟨0, 32, .rc, false⟩]⟩,
  ⟨0x40021048, [(8, 0x1000)], 0x0,
   [⟨0, 16, .rc, false⟩]⟩,
  ⟨0x4002104c, [(8, 0x1000)], 0x0,
   [⟨0, 7, .bs, false⟩]⟩]

/-- 05_clocks_resets_power.md R198. -/
def regTableR198 : List RegDef := [
  ⟨0x40000000, [], 0x92600b01,
   [⟨0, 32, .ro, false⟩]⟩,
  ⟨0x40000004, [], 0x8,
   [⟨0, 1, .ro, false⟩, ⟨1, 1, .ro, false⟩, ⟨2, 1, .ro, false⟩, ⟨3, 1, .ro, false⟩, ⟨8, 8, .ro, false⟩, ⟨16, 8, .bs, false⟩]⟩,
  ⟨0x40000008, [], 0x0,
   [⟨0, 24, .ro, false⟩, ⟨31, 1, .ro, false⟩]⟩,
  ⟨0x4000000c, [], 0x1,
   [⟨0, 1, .w1c, true⟩, ⟨1, 1, .w1c, true⟩, ⟨2, 1, .w1c, true⟩, ⟨3, 1, .w1c, true⟩, ⟨4, 1, .w1c, true⟩, ⟨5, 1, .w1c, true⟩, ⟨6, 1, .w1c, true⟩, ⟨7, 1, .w1c, true⟩, ⟨8, 1, .w1c, true⟩, ⟨16, 16, .ro, true⟩]⟩,
  ⟨0x40000010, [], 0x0,
   [⟨0, 32, .wo, false⟩]⟩,
  ⟨0x40000014, [], 0x0,
   [⟨0, 2, .wo, false⟩]⟩,
  ⟨0x40000018, [], 0x0,
   [⟨0, 1, .ro, false⟩, ⟨4, 4, .ro, false⟩, ⟨8, 3, .ro, true⟩, ⟨11, 1, .ro, true⟩]⟩,
  ⟨0x4000001c, [], 0x0,
   [⟨0, 4, .rw, true⟩]⟩,
  ⟨0x40000020, [], 0x0,
   [⟨0, 32, .rw, true⟩]⟩,
  ⟨0x40000024, [], 0x0,
   [⟨0, 7, .rw, true⟩, ⟨7, 1, .rw, true⟩, ⟨8, 1, .rw, true⟩, ⟨16, 7, .rw, true⟩, ⟨23, 1, .rw, true⟩, ⟨24, 1, .rw, true⟩]⟩,
  ⟨0x40000028, [], 0x14,
   [⟨0, 8, .rw, true⟩]⟩,
  ⟨0x4000002c, [], 0x0,
   [⟨0, 32, .ro, true⟩]⟩,
  ⟨0x40000030, [], 0x0,
   [⟨0, 32, .rc, false⟩]⟩,
  ⟨0x40000034, [], 0x0,
   [⟨0, 2, .ro, true⟩, ⟨2, 3, .ro, true⟩, ⟨5, 1, .ro, true⟩]⟩,
  ⟨0x40000038, [], 0x0,
   [⟨0, 1, .w1c, false⟩, ⟨1, 1, .w1c, false⟩, ⟨2, 1, .w1c, false⟩, ⟨3, 1, .w1c, false⟩]⟩,
  ⟨0x4000003c, [], 0x0,
   [⟨0, 4, .rw, false⟩]⟩,
  ⟨0x40000040, [(4, 0x4)], 0x0,
   [⟨0, 32, .rw, true⟩]⟩]

/-- 06_memory.md R233. -/
def regTableR233 : List RegDef := [
  ⟨0x40050000, [], 0x0,
   [⟨0, 5, .ro, false⟩, ⟨5, 11, .ro, false⟩, ⟨16, 1, .ro, false⟩]⟩,
  ⟨0x40050004, [], 0x0,
   [⟨0, 32, .ro, false⟩]⟩,
  ⟨0x40050008, [], 0x0,
   [⟨0, 32, .ro, false⟩]⟩,
  ⟨0x4005000c, [], 0x0,
   [⟨0, 1, .rw, false⟩]⟩,
  ⟨0x40050010, [], 0x0,
   [⟨0, 32, .w1c, false⟩]⟩,
  ⟨0x40050014, [], 0x0,
   [⟨0, 12, .w1c, false⟩]⟩,
  ⟨0x40050018, [], 0x0,
   [⟨0, 11, .ro, false⟩]⟩]

/-- 06_memory.md R234. -/
def regTableR234 : List RegDef := [
  ⟨0x40050100, [(32, 0x40)], 0x0,
   [⟨0, 1, .bs, false⟩, ⟨1, 1, .bs, false⟩, ⟨16, 16, .bs, false⟩]⟩,
  ⟨0x40050104, [(32, 0x40)], 0x0,
   [⟨0, 4, .ro, false⟩, ⟨4, 1, .ro, false⟩, ⟨5, 1, .ro, false⟩]⟩,
  ⟨0x40050108, [(32, 0x40)], 0x0,
   [⟨0, 16, .rc, false⟩]⟩,
  ⟨0x4005010c, [(32, 0x40)], 0x0,
   [⟨0, 16, .rc, false⟩]⟩,
  ⟨0x40050110, [(32, 0x40)], 0x0,
   [⟨0, 18, .ro, false⟩, ⟨18, 2, .ro, false⟩, ⟨31, 1, .w1c, false⟩]⟩,
  ⟨0x40050114, [(32, 0x40), (4, 0x4)], 0x0,
   [⟨0, 11, .ro, false⟩, ⟨16, 11, .ro, false⟩, ⟨15, 1, .ro, false⟩, ⟨31, 1, .ro, false⟩]⟩]

/-- 06_memory.md R235. -/
def regTableR235 : List RegDef := [
  ⟨0x401c0000, [], 0x0,
   [⟨0, 1, .ro, false⟩, ⟨1, 1, .ro, false⟩, ⟨8, 7, .ro, false⟩, ⟨16, 7, .ro, false⟩]⟩,
  ⟨0x401c0004, [], 0x0,
   [⟨0, 32, .rw, false⟩]⟩,
  ⟨0x401c0008, [], 0x0,
   [⟨0, 8, .rw, false⟩]⟩,
  ⟨0x401c000c, [], 0x0,
   [⟨0, 6, .wo, false⟩, ⟨31, 1, .wo, false⟩]⟩,
  ⟨0x401c0010, [], 0x0,
   [⟨0, 4, .ro, false⟩, ⟨8, 4, .ro, false⟩, ⟨16, 6, .ro, false⟩]⟩,
  ⟨0x401c0014, [], 0x0,
   [⟨0, 6, .rw, false⟩]⟩,
  ⟨0x401c0018, [], 0x0,
   [⟨0, 7, .ro, false⟩, ⟨7, 24, .ro, false⟩, ⟨31, 1, .ro, false⟩]⟩,
  ⟨0x401c001c, [], 0x0,
   [⟨0, 32, .ro, false⟩]⟩,
  ⟨0x401c0020, [], 0x0,
   [⟨0, 24, .ro, false⟩, ⟨24, 7, .ro, false⟩]⟩,
  ⟨0x401c0024, [], 0x0,
   [⟨0, 1, .w1c, false⟩, ⟨1, 1, .w1c, false⟩, ⟨2, 1, .w1c, false⟩]⟩,
  ⟨0x401c0028, [], 0x0,
   [⟨0, 3, .rw, false⟩]⟩]

/-- 07_faults_retest.md R270. -/
def regTableR270 : List RegDef := [
  ⟨0x40190000, [], 0x0,
   [⟨0, 5, .ro, false⟩, ⟨16, 7, .ro, false⟩, ⟨24, 1, .ro, false⟩]⟩,
  ⟨0x40190004, [], 0x0,
   [⟨0, 32, .ro, false⟩]⟩,
  ⟨0x40190008, [], 0x0,
   [⟨0, 16, .rc, false⟩, ⟨16, 16, .rc, false⟩]⟩,
  ⟨0x4019000c, [], 0x0,
   [⟨0, 8, .bs, false⟩, ⟨8, 4, .bs, false⟩, ⟨12, 1, .bs, false⟩, ⟨13, 1, .bs, false⟩]⟩,
  ⟨0x40190010, [], 0x0,
   [⟨0, 32, .bs, false⟩]⟩,
  ⟨0x40190014, [], 0x0,
   [⟨0, 16, .rw, false⟩, ⟨16, 2, .rw, false⟩]⟩,
  ⟨0x40190018, [], 0x0,
   [⟨0, 32, .rw, false⟩]⟩,
  ⟨0x4019001c, [], 0x0,
   [⟨0, 1, .wo, false⟩]⟩,
  ⟨0x40190020, [], 0x0,
   [⟨0, 4, .ro, false⟩, ⟨8, 4, .ro, false⟩]⟩,
  ⟨0x40190024, [], 0x0,
   [⟨0, 8, .ro, false⟩]⟩,
  ⟨0x40190028, [], 0x0,
   [⟨0, 1, .w1c, false⟩, ⟨1, 1, .w1c, false⟩, ⟨2, 1, .w1c, false⟩, ⟨3, 1, .w1c, false⟩]⟩,
  ⟨0x4019002c, [], 0x0,
   [⟨0, 4, .rw, false⟩]⟩,
  ⟨0x40190030, [], 0x0,
   [⟨0, 32, .ro, false⟩]⟩,
  ⟨0x40190034, [], 0x0,
   [⟨0, 32, .ro, false⟩]⟩,
  ⟨0x40190038, [], 0x0,
   [⟨0, 32, .ro, false⟩]⟩]

/-- 07_faults_retest.md R271. -/
def regTableR271 : List RegDef := [
  ⟨0x40191000, [(8, 0x1000)], 0x0,
   [⟨0, 7, .ro, false⟩, ⟨8, 1, .w1c, false⟩, ⟨16, 16, .rc, false⟩]⟩,
  ⟨0x40191004, [(8, 0x1000)], 0x0,
   [⟨0, 16, .ro, false⟩, ⟨16, 8, .ro, false⟩, ⟨24, 8, .ro, false⟩]⟩,
  ⟨0x40191008, [(8, 0x1000)], 0x0,
   [⟨0, 32, .ro, false⟩]⟩,
  ⟨0x4019100c, [(8, 0x1000)], 0x0,
   [⟨0, 32, .ro, false⟩]⟩,
  ⟨0x40191010, [(8, 0x1000)], 0x0,
   [⟨0, 32, .ro, false⟩]⟩,
  ⟨0x40191014, [(8, 0x1000)], 0xffffffff,
   [⟨0, 32, .ro, false⟩]⟩,
  ⟨0x40191018, [(8, 0x1000)], 0x0,
   [⟨0, 1, .wo, false⟩]⟩]

/-- 08_cores_reel.md R302. -/
def regTableR302 : List RegDef := [
  ⟨0x400e0000, [], 0xf00,
   [⟨0, 4, .bs, false⟩, ⟨4, 1, .ro, false⟩, ⟨8, 4, .ro, false⟩]⟩,
  ⟨0x400e0004, [], 0x0,
   [⟨0, 12, .ro, false⟩]⟩]

/-- 08_cores_reel.md R303. -/
def regTableR303 : List RegDef := [
  ⟨0x400e1000, [(12, 0x1000)], 0x0,
   [⟨0, 4, .ro, false⟩, ⟨8, 8, .ro, false⟩, ⟨16, 16, .ro, false⟩]⟩,
  ⟨0x400e1004, [(12, 0x1000)], 0x0,
   [⟨0, 14, .bs, false⟩, ⟨16, 6, .bs, false⟩, ⟨24, 1, .bs, false⟩]⟩,
  ⟨0x400e1008, [(12, 0x1000)], 0x0,
   [⟨0, 8, .bs, false⟩, ⟨8, 7, .bs, false⟩]⟩,
  ⟨0x400e100c, [(12, 0x1000)], 0xf,
   [⟨0, 4, .ro, false⟩]⟩,
  ⟨0x400e1010, [(12, 0x1000)], 0x0,
   [⟨0, 1, .w1s, false⟩]⟩,
  ⟨0x400e1014, [(12, 0x1000)], 0x0,
   [⟨0, 11, .ro, false⟩, ⟨16, 16, .ro, false⟩]⟩,
  ⟨0x400e1018, [(12, 0x1000)], 0x0,
   [⟨0, 16, .rc, false⟩]⟩,
  ⟨0x400e101c, [(12, 0x1000)], 0x0,
   [⟨0, 4, .bs, false⟩, ⟨16, 1, .ro, false⟩]⟩]

/-- 10_messaging.md R387. -/
def regTableR387 : List RegDef := [
  ⟨0x40030000, [], 0x0,
   [⟨0, 32, .bs, false⟩]⟩,
  ⟨0x40030004, [], 0x0,
   [⟨0, 32, .bs, false⟩]⟩,
  ⟨0x40030008, [], 0x0,
   [⟨0, 16, .bs, false⟩]⟩]

/-- 10_messaging.md R388. -/
def regTableR388 : List RegDef := [
  ⟨0x40031000, [(64, 0x200), (2, 0x100)], 0x0,
   [⟨0, 32, .wo, false⟩]⟩,
  ⟨0x40031004, [(64, 0x200), (2, 0x100)], 0x0,
   [⟨0, 32, .wo, false⟩]⟩,
  ⟨0x40031008, [(64, 0x200), (2, 0x100)], 0x0,
   [⟨0, 1, .w1s, false⟩, ⟨1, 1, .w1s, false⟩]⟩,
  ⟨0x4003100c, [(64, 0x200), (2, 0x100)], 0x0,
   [⟨0, 5, .ro, false⟩, ⟨5, 5, .ro, false⟩, ⟨10, 1, .ro, false⟩, ⟨11, 1, .w1c, false⟩]⟩,
  ⟨0x40031010, [(64, 0x200), (2, 0x100)], 0x0,
   [⟨0, 4, .ro, false⟩, ⟨4, 1, .ro, false⟩, ⟨16, 16, .ro, false⟩]⟩,
  ⟨0x40031014, [(64, 0x200), (2, 0x100)], 0x0,
   [⟨0, 32, .ro, false⟩]⟩,
  ⟨0x40031018, [(64, 0x200), (2, 0x100)], 0x0,
   [⟨0, 5, .ro, false⟩, ⟨5, 5, .ro, false⟩, ⟨10, 5, .ro, false⟩, ⟨15, 5, .ro, false⟩]⟩,
  ⟨0x4003101c, [(64, 0x200), (2, 0x100)], 0x0,
   [⟨0, 1, .w1c, false⟩, ⟨1, 1, .w1c, false⟩, ⟨8, 1, .rw, false⟩, ⟨9, 1, .rw, false⟩]⟩]

/-- 10_messaging.md R389. -/
def regTableR389 : List RegDef := [
  ⟨0x40040000, [], 0x0,
   [⟨0, 16, .ro, false⟩]⟩,
  ⟨0x40040020, [(8, 0x4)], 0x0,
   [⟨0, 16, .ro, false⟩, ⟨16, 16, .bs, false⟩]⟩]

/-- 10_messaging.md R390. -/
def regTableR390 : List RegDef := [
  ⟨0x40041000, [(256, 0x40), (2, 0x20)], 0x0,
   [⟨6, 26, .wl, false⟩]⟩,
  ⟨0x40041004, [(256, 0x40), (2, 0x20)], 0x300,
   [⟨0, 8, .wl, false⟩, ⟨8, 4, .wl, false⟩]⟩,
  ⟨0x40041008, [(256, 0x40), (2, 0x20)], 0x0,
   [⟨0, 1, .rw, false⟩, ⟨1, 1, .rw, false⟩]⟩,
  ⟨0x4004100c, [(256, 0x40), (2, 0x20)], 0x0,
   [⟨0, 16, .rw, false⟩]⟩,
  ⟨0x40041010, [(256, 0x40), (2, 0x20)], 0x0,
   [⟨0, 16, .ro, false⟩, ⟨16, 13, .ro, false⟩]⟩,
  ⟨0x40041014, [(256, 0x40), (2, 0x20)], 0x0,
   [⟨0, 16, .ro, false⟩, ⟨16, 16, .rw, false⟩]⟩,
  ⟨0x40041018, [(256, 0x40), (2, 0x20)], 0x0,
   [⟨0, 16, .wo, false⟩, ⟨31, 1, .wo, false⟩]⟩,
  ⟨0x4004101c, [(256, 0x40), (2, 0x20)], 0x10,
   [⟨0, 4, .bs, false⟩, ⟨4, 1, .ro, false⟩, ⟨5, 1, .ro, false⟩, ⟨6, 1, .ro, false⟩, ⟨7, 1, .ro, false⟩, ⟨8, 1, .w1c, false⟩, ⟨9, 1, .w1c, false⟩]⟩]

/-- 11_time.md R425. -/
def regTableR425 : List RegDef := [
  ⟨0x40060000, [], 0x0,
   [⟨0, 32, .ro, false⟩]⟩,
  ⟨0x40060004, [], 0x0,
   [⟨0, 32, .ro, false⟩]⟩,
  ⟨0x40060008, [], 0x0,
   [⟨0, 32, .ro, false⟩]⟩,
  ⟨0x4006000c, [], 0x0,
   [⟨0, 32, .ro, false⟩]⟩,
  ⟨0x40060010, [], 0x0,
   [⟨0, 16, .ro, false⟩, ⟨16, 16, .ro, false⟩]⟩,
  ⟨0x40060014, [], 0x0,
   [⟨0, 30, .ro, false⟩]⟩,
  ⟨0x40060018, [], 0x10,
   [⟨0, 2, .ro, false⟩, ⟨2, 1, .ro, false⟩, ⟨3, 1, .ro, false⟩, ⟨4, 1, .ro, false⟩, ⟨5, 1, .ro, false⟩, ⟨16, 16, .ro, false⟩]⟩,
  ⟨0x4006001c, [], 0x0,
   [⟨0, 32, .ro, false⟩]⟩,
  ⟨0x40060020, [], 0x0,
   [⟨0, 32, .ro, false⟩]⟩,
  ⟨0x40060024, [], 0x0,
   [⟨0, 8, .w1c, false⟩, ⟨31, 1, .ro, false⟩]⟩,
  ⟨0x40060028, [], 0x0,
   [⟨0, 4, .ro, false⟩, ⟨4, 1, .ro, false⟩, ⟨16, 16, .ro, false⟩]⟩,
  ⟨0x40060400, [(16, 0x20), (8, 0x4)], 0x0,
   [⟨0, 32, .ro, false⟩]⟩]

/-- 11_time.md R426. -/
def regTableR426 : List RegDef := [
  ⟨0x40060100, [], 0x0,
   [⟨0, 32, .rw, false⟩]⟩,
  ⟨0x40060104, [], 0x0,
   [⟨0, 32, .rw, false⟩]⟩,
  ⟨0x40060108, [], 0x0,
   [⟨0, 32, .rw, false⟩]⟩,
  ⟨0x4006010c, [], 0x0,
   [⟨0, 3, .ro, false⟩]⟩,
  ⟨0x40060140, [], 0x0,
   [⟨0, 32, .bs, false⟩]⟩,
  ⟨0x40060144, [], 0x0,
   [⟨0, 1, .bs, false⟩, ⟨2, 2, .bs, false⟩, ⟨4, 4, .bs, false⟩, ⟨16, 9, .bs, false⟩]⟩,
  ⟨0x40060148, [], 0xbb8,
   [⟨0, 16, .rw, false⟩]⟩,
  ⟨0x4006014c, [], 0x0,
   [⟨0, 2, .wo, false⟩, ⟨31, 1, .wo, false⟩]⟩,
  ⟨0x40060150, [], 0x0,
   [⟨0, 32, .rw, false⟩]⟩,
  ⟨0x40060154, [], 0x0,
   [⟨0, 32, .rw, false⟩]⟩,
  ⟨0x40060158, [], 0x0,
   [⟨0, 4, .ro, false⟩, ⟨8, 4, .ro, false⟩]⟩,
  ⟨0x4006015c, [], 0x0,
   [⟨0, 32, .ro, false⟩]⟩,
  ⟨0x40060160, [], 0x0,
   [⟨0, 32, .ro, false⟩]⟩,
  ⟨0x40060164, [], 0x0,
   [⟨0, 1, .w1c, false⟩, ⟨1, 1, .w1c, false⟩, ⟨2, 1, .w1c, false⟩, ⟨3, 1, .w1c, false⟩, ⟨4, 1, .w1c, false⟩, ⟨5, 1, .w1c, false⟩]⟩,
  ⟨0x40060168, [], 0x0,
   [⟨0, 6, .rw, false⟩]⟩]

/-- 11_time.md R427. -/
def regTableR427 : List RegDef := [
  ⟨0x40061000, [(8, 0x100)], 0x0,
   [⟨0, 1, .rw, false⟩, ⟨1, 1, .rw, false⟩, ⟨2, 1, .rw, false⟩, ⟨3, 1, .rw, false⟩, ⟨4, 1, .rw, false⟩, ⟨5, 1, .rw, false⟩]⟩,
  ⟨0x40061004, [(8, 0x100)], 0x0,
   [⟨0, 32, .rw, false⟩]⟩,
  ⟨0x40061008, [(8, 0x100)], 0x0,
   [⟨0, 32, .rw, false⟩]⟩,
  ⟨0x4006100c, [(8, 0x100)], 0x3b9aca00,
   [⟨0, 32, .rw, false⟩]⟩,
  ⟨0x40061010, [(8, 0x100)], 0x64,
   [⟨0, 24, .rw, false⟩]⟩,
  ⟨0x40061014, [(8, 0x100)], 0x0,
   [⟨0, 1, .ro, false⟩, ⟨1, 1, .w1c, false⟩, ⟨2, 1, .w1c, false⟩, ⟨3, 1, .w1c, false⟩, ⟨4, 1, .w1c, false⟩, ⟨8, 8, .ro, false⟩, ⟨16, 16, .ro, false⟩]⟩,
  ⟨0x40061018, [(8, 0x100)], 0x0,
   [⟨0, 32, .ro, false⟩]⟩]

/-- 11_time.md R428. -/
def regTableR428 : List RegDef := [
  ⟨0x40062000, [(8, 0x100)], 0x0,
   [⟨0, 2, .rw, false⟩, ⟨2, 1, .rw, false⟩]⟩,
  ⟨0x40062004, [(8, 0x100)], 0x0,
   [⟨0, 4, .ro, false⟩, ⟨4, 1, .ro, false⟩, ⟨5, 1, .w1c, false⟩, ⟨6, 1, .w1c, false⟩]⟩,
  ⟨0x40062008, [(8, 0x100)], 0x0,
   [⟨0, 32, .ro, false⟩]⟩]

/-- 12_quadrille.md R459. -/
def regTableR459 : List RegDef := [
  ⟨0x40070000, [], 0x0,
   [⟨0, 4, .bs, false⟩, ⟨8, 4, .bs, false⟩]⟩]

/-- 12_quadrille.md R460. -/
def regTableR460 : List RegDef := [
  ⟨0x40071000, [(4, 0x1000)], 0x0,
   [⟨0, 7, .bs, false⟩, ⟨8, 1, .bs, false⟩]⟩,
  ⟨0x40071004, [(4, 0x1000)], 0x0,
   [⟨0, 25, .bs, false⟩]⟩,
  ⟨0x40071008, [(4, 0x1000)], 0x0,
   [⟨0, 32, .bs, false⟩]⟩,
  ⟨0x4007100c, [(4, 0x1000)], 0x0,
   [⟨0, 6, .ro, false⟩, ⟨6, 1, .ro, false⟩, ⟨16, 16, .ro, false⟩]⟩,
  ⟨0x40071010, [(4, 0x1000)], 0x0,
   [⟨0, 32, .ro, false⟩]⟩,
  ⟨0x40071014, [(4, 0x1000)], 0x1f40000,
   [⟨0, 2, .rw, false⟩, ⟨2, 2, .rw, false⟩, ⟨16, 9, .rw, false⟩]⟩,
  ⟨0x40071018, [(4, 0x1000)], 0x0,
   [⟨0, 32, .wo, false⟩]⟩,
  ⟨0x4007101c, [(4, 0x1000)], 0x0,
   [⟨0, 32, .ro, false⟩]⟩,
  ⟨0x40071020, [(4, 0x1000)], 0x0,
   [⟨0, 32, .ro, false⟩]⟩,
  ⟨0x40071024, [(4, 0x1000)], 0x0,
   [⟨0, 32, .ro, false⟩]⟩,
  ⟨0x40071028, [(4, 0x1000)], 0x3e8,
   [⟨0, 16, .rw, false⟩]⟩,
  ⟨0x4007102c, [(4, 0x1000)], 0x0,
   [⟨0, 1, .w1c, false⟩, ⟨1, 1, .w1c, false⟩, ⟨2, 1, .w1c, false⟩, ⟨3, 1, .w1c, false⟩, ⟨4, 1, .w1c, false⟩, ⟨5, 1, .w1c, false⟩, ⟨6, 1, .w1c, false⟩, ⟨7, 1, .w1c, false⟩]⟩,
  ⟨0x40071030, [(4, 0x1000)], 0x0,
   [⟨0, 8, .rw, false⟩]⟩,
  ⟨0x40071034, [(4, 0x1000)], 0x0,
   [⟨0, 16, .rc, false⟩, ⟨16, 16, .rc, false⟩]⟩,
  ⟨0x40071038, [(4, 0x1000)], 0x0,
   [⟨0, 16, .rc, false⟩, ⟨16, 16, .rc, false⟩]⟩,
  ⟨0x4007103c, [(4, 0x1000)], 0x0,
   [⟨0, 32, .ro, false⟩]⟩,
  ⟨0x40071040, [(4, 0x1000)], 0x0,
   [⟨0, 2, .ro, false⟩, ⟨8, 6, .ro, false⟩]⟩,
  ⟨0x40071044, [(4, 0x1000)], 0x0,
   [⟨0, 32, .ro, false⟩]⟩]

/-- 13_ethernet.md R492. -/
def regTableR492 : List RegDef := [
  ⟨0x40080000, [(4, 0x10000)], 0x5000,
   [⟨0, 1, .rw, false⟩, ⟨1, 1, .wl, false⟩, ⟨2, 1, .wl, false⟩, ⟨3, 2, .wl, false⟩, ⟨5, 1, .rw, false⟩, ⟨8, 4, .rw, false⟩, ⟨12, 1, .wl, false⟩, ⟨13, 2, .wl, false⟩]⟩,
  ⟨0x40080004, [(4, 0x10000)], 0x0,
   [⟨0, 1, .ro, false⟩, ⟨1, 2, .ro, false⟩, ⟨3, 1, .ro, false⟩, ⟨4, 1, .ro, false⟩, ⟨5, 1, .ro, false⟩]⟩,
  ⟨0x40080008, [(4, 0x10000)], 0x5f2,
   [⟨0, 14, .wl, false⟩]⟩,
  ⟨0x4008000c, [(4, 0x10000)], 0x0,
   [⟨0, 32, .rw, false⟩]⟩,
  ⟨0x40080010, [(4, 0x10000)], 0x0,
   [⟨0, 16, .rw, false⟩]⟩,
  ⟨0x40080014, [(4, 0x10000)], 0x0,
   [⟨0, 16, .rw, false⟩, ⟨16, 16, .rw, false⟩]⟩,
  ⟨0x40080018, [(4, 0x10000)], 0x0,
   [⟨0, 1, .w1c, false⟩, ⟨1, 1, .ro, false⟩, ⟨2, 1, .w1c, false⟩, ⟨3, 1, .w1c, false⟩, ⟨4, 1, .w1c, false⟩]⟩,
  ⟨0x4008001c, [(4, 0x10000)], 0x0,
   [⟨0, 5, .rw, false⟩]⟩,
  ⟨0x40080020, [(4, 0x10000)], 0x0,
   [⟨0, 5, .rw, false⟩, ⟨5, 5, .rw, false⟩, ⟨10, 3, .rw, false⟩, ⟨15, 1, .wo, false⟩, ⟨16, 16, .rw, false⟩]⟩,
  ⟨0x40080024, [(4, 0x10000)], 0x0,
   [⟨0, 16, .ro, false⟩, ⟨16, 1, .ro, false⟩]⟩,
  ⟨0x40080028, [(4, 0x10000)], 0x6400,
   [⟨0, 5, .rw, false⟩, ⟨8, 8, .rw, false⟩]⟩,
  ⟨0x4008002c, [(4, 0x10000)], 0x0,
   [⟨0, 6, .ro, false⟩, ⟨8, 1, .w1c, false⟩]⟩,
  ⟨0x40080030, [(4, 0x10000)], 0x0,
   [⟨0, 32, .ro, false⟩]⟩,
  ⟨0x40080034, [(4, 0x10000)], 0x0,
   [⟨0, 16, .ro, false⟩, ⟨16, 4, .ro, false⟩, ⟨20, 1, .ro, false⟩, ⟨24, 8, .ro, false⟩]⟩,
  ⟨0x40080038, [(4, 0x10000)], 0x7d01000,
   [⟨0, 1, .wl, false⟩, ⟨1, 1, .rw, false⟩, ⟨2, 1, .rw, false⟩, ⟨3, 1, .rw, false⟩, ⟨8, 8, .rw, false⟩, ⟨16, 16, .rw, false⟩]⟩,
  ⟨0x4008003c, [(4, 0x10000)], 0x190,
   [⟨0, 16, .rw, false⟩]⟩,
  ⟨0x40080040, [(4, 0x10000)], 0x1208,
   [⟨0, 4, .wl, false⟩, ⟨4, 4, .wl, false⟩, ⟨8, 4, .wl, false⟩, ⟨12, 1, .wl, false⟩, ⟨16, 1, .wl, false⟩, ⟨17, 1, .wl, false⟩, ⟨18, 1, .wl, false⟩]⟩,
  ⟨0x40080044, [(4, 0x10000)], 0x0,
   [⟨0, 32, .rc, false⟩]⟩,
  ⟨0x40080048, [(4, 0x10000)], 0x0,
   [⟨0, 1, .wl, false⟩, ⟨1, 1, .wl, false⟩, ⟨2, 1, .wl, false⟩]⟩]

/-- 13_ethernet.md R493. -/
def regTableR493 : List RegDef := [
  ⟨0x40080100, [(4, 0x10000), (8, 0x10)], 0x0,
   [⟨0, 1, .rw, false⟩, ⟨8, 2, .ro, false⟩]⟩,
  ⟨0x40080104, [(4, 0x10000), (8, 0x10)], 0x0,
   [⟨0, 24, .rw, false⟩]⟩,
  ⟨0x40080108, [(4, 0x10000), (8, 0x10)], 0x7fffffff,
   [⟨0, 32, .rw, false⟩]⟩,
  ⟨0x4008010c, [(4, 0x10000), (8, 0x10)], 0x0,
   [⟨0, 32, .ro, false⟩]⟩]

/-- 14_can_serial.md R543. -/
def regTableR543 : List RegDef := [
  ⟨0x400c0000, [(4, 0x4000)], 0x100020,
   [⟨0, 1, .rw, false⟩, ⟨1, 2, .wl, false⟩, ⟨3, 1, .wl, false⟩, ⟨4, 1, .wl, false⟩, ⟨5, 1, .rw, false⟩, ⟨6, 1, .w1s, false⟩, ⟨7, 1, .rw, false⟩, ⟨8, 1, .wl, false⟩, ⟨9, 1, .rw, false⟩, ⟨10, 1, .rw, false⟩, ⟨11, 1, .rw, false⟩, ⟨12, 1, .rw, false⟩, ⟨16, 8, .rw, false⟩]⟩,
  ⟨0x400c0004, [(4, 0x4000)], 0xf0f3e01,
   [⟨0, 8, .wl, false⟩, ⟨8, 8, .wl, false⟩, ⟨16, 7, .wl, false⟩, ⟨24, 7, .wl, false⟩]⟩,
  ⟨0x400c0008, [(4, 0x4000)], 0x9091c00,
   [⟨0, 5, .wl, false⟩, ⟨8, 5, .wl, false⟩, ⟨16, 4, .wl, false⟩, ⟨24, 4, .wl, false⟩]⟩,
  ⟨0x400c000c, [(4, 0x4000)], 0x0,
   [⟨0, 7, .wl, false⟩, ⟨16, 7, .ro, false⟩]⟩,
  ⟨0x400c0010, [(4, 0x4000)], 0x3,
   [⟨0, 2, .ro, false⟩, ⟨2, 1, .ro, false⟩, ⟨3, 1, .ro, false⟩, ⟨4, 1, .ro, false⟩, ⟨8, 8, .ro, false⟩, ⟨16, 8, .ro, false⟩]⟩,
  ⟨0x400c0014, [(4, 0x4000)], 0x0,
   [⟨0, 3, .rc, false⟩, ⟨4, 3, .rc, false⟩]⟩,
  ⟨0x400c0018, [(4, 0x4000)], 0x0,
   [⟨0, 32, .ro, false⟩]⟩,
  ⟨0x400c001c, [(4, 0x4000)], 0x0,
   [⟨0, 1, .wo, false⟩]⟩,
  ⟨0x400c0020, [(4, 0x4000)], 0x0,
   [⟨0, 32, .ro, false⟩]⟩,
  ⟨0x400c0024, [(4, 0x4000)], 0x0,
   [⟨0, 32, .ro, false⟩]⟩,
  ⟨0x400c0028, [(4, 0x4000)], 0x0,
   [⟨0, 32, .ro, false⟩]⟩,
  ⟨0x400c002c, [(4, 0x4000)], 0x0,
   [⟨0, 1, .w1c, false⟩, ⟨1, 1, .w1c, false⟩, ⟨2, 1, .w1c, false⟩, ⟨3, 1, .w1c, false⟩, ⟨4, 1, .w1c, false⟩, ⟨5, 1, .w1c, false⟩, ⟨6, 1, .w1c, false⟩, ⟨7, 1, .w1c, false⟩]⟩,
  ⟨0x400c0030, [(4, 0x4000)], 0x0,
   [⟨0, 8, .rw, false⟩]⟩,
  ⟨0x400c0034, [(4, 0x4000)], 0x20,
   [⟨0, 7, .wl, false⟩]⟩,
  ⟨0x400c0038, [(4, 0x4000)], 0x0,
   [⟨0, 7, .ro, false⟩, ⟨8, 6, .ro, false⟩, ⟨16, 16, .rc, false⟩]⟩,
  ⟨0x400c003c, [(4, 0x4000)], 0x0,
   [⟨0, 1, .wo, false⟩]⟩,
  ⟨0x400c0040, [(4, 0x4000)], 0x0,
   [⟨0, 32, .w1c, false⟩]⟩,
  ⟨0x400c0044, [(4, 0x4000)], 0x0,
   [⟨0, 32, .w1c, false⟩]⟩,
  ⟨0x400c0048, [(4, 0x4000)], 0x0,
   [⟨0, 32, .w1s, false⟩]⟩,
  ⟨0x400c004c, [(4, 0x4000)], 0x0,
   [⟨0, 32, .w1s, false⟩]⟩,
  ⟨0x400c0050, [(4, 0x4000)], 0x0,
   [⟨0, 32, .w1c, false⟩]⟩,
  ⟨0x400c0054, [(4, 0x4000)], 0x0,
   [⟨0, 32, .rw, false⟩]⟩,
  ⟨0x400c0058, [(4, 0x4000)], 0x0,
   [⟨0, 8, .wl, false⟩, ⟨8, 1, .wl, false⟩, ⟨16, 8, .wl, false⟩, ⟨24, 1, .wl, false⟩]⟩,
  ⟨0x400c005c, [(4, 0x4000)], 0x0,
   [⟨0, 5, .wl, false⟩, ⟨8, 6, .wl, false⟩]⟩,
  ⟨0x400c0060, [(4, 0x4000)], 0x0,
   [⟨0, 29, .rw, false⟩, ⟨29, 1, .rw, false⟩]⟩,
  ⟨0x400c0064, [(4, 0x4000)], 0x1fffffff,
   [⟨0, 29, .rw, false⟩]⟩,
  ⟨0x400c0068, [(4, 0x4000)], 0x3,
   [⟨0, 8, .rw, false⟩]⟩,
  ⟨0x400c006c, [(4, 0x4000)], 0x0,
   [⟨0, 6, .ro, false⟩, ⟨6, 1, .ro, false⟩, ⟨8, 8, .ro, false⟩]⟩,
  ⟨0x400c0070, [(4, 0x4000)], 0x0,
   [⟨0, 32, .ro, false⟩]⟩,
  ⟨0x400c0074, [(4, 0x4000)], 0x0,
   [⟨0, 32, .ro, false⟩]⟩,
  ⟨0x400c0078, [(4, 0x4000)], 0x0,
   [⟨0, 32, .ro, false⟩]⟩,
  ⟨0x400c0080, [(4, 0x4000)], 0x1003e8,
   [⟨0, 16, .rw, false⟩, ⟨16, 8, .rw, false⟩]⟩,
  ⟨0x400c0084, [(4, 0x4000)], 0x0,
   [⟨0, 32, .rc, false⟩]⟩,
  ⟨0x400c0088, [(4, 0x4000)], 0x0,
   [⟨0, 16, .rc, false⟩, ⟨16, 16, .rc, false⟩]⟩,
  ⟨0x400c0090, [(4, 0x4000)], 0x0,
   [⟨0, 32, .rc, false⟩]⟩,
  ⟨0x400c0094, [(4, 0x4000)], 0x0,
   [⟨0, 32, .rc, false⟩]⟩,
  ⟨0x400c0098, [(4, 0x4000)], 0x0,
   [⟨0, 32, .rc, false⟩]⟩,
  ⟨0x400c009c, [(4, 0x4000)], 0x0,
   [⟨0, 32, .rc, false⟩]⟩,
  ⟨0x400c00a0, [(4, 0x4000)], 0x0,
   [⟨0, 32, .rc, false⟩]⟩,
  ⟨0x400c00a4, [(4, 0x4000)], 0x0,
   [⟨0, 32, .rc, false⟩]⟩,
  ⟨0x400c0100, [(4, 0x4000), (32, 0x4)], 0x0,
   [⟨0, 4, .ro, false⟩, ⟨4, 4, .ro, false⟩, ⟨8, 8, .ro, false⟩, ⟨16, 1, .ro, false⟩]⟩,
  ⟨0x400c0400, [(4, 0x4000), (64, 0xc), (3, 0x4)], 0x0,
   [⟨0, 32, .rw, false⟩]⟩,
  ⟨0x400c0800, [(4, 0x4000), (32, 0x50), (20, 0x4)], 0x0,
   [⟨0, 32, .rw, false⟩]⟩,
  ⟨0x400c1400, [(4, 0x4000), (64, 0x50), (20, 0x4)], 0x0,
   [⟨0, 32, .ro, false⟩]⟩]

/-- 14_can_serial.md R544. -/
def regTableR544 : List RegDef := [
  ⟨0x400d0000, [(6, 0x1000)], 0x10,
   [⟨0, 1, .rw, false⟩, ⟨1, 1, .wl, false⟩, ⟨2, 1, .wl, false⟩, ⟨3, 1, .wl, false⟩, ⟨4, 2, .wl, false⟩, ⟨6, 3, .wl, false⟩, ⟨9, 1, .wl, false⟩, ⟨10, 1, .wl, false⟩, ⟨11, 1, .wl, false⟩]⟩,
  ⟨0x400d0004, [(6, 0x1000)], 0x200043d,
   [⟨0, 20, .wl, false⟩, ⟨24, 5, .wl, false⟩]⟩,
  ⟨0x400d0008, [(6, 0x1000)], 0x808,
   [⟨0, 8, .wl, false⟩, ⟨8, 8, .wl, false⟩]⟩,
  ⟨0x400d000c, [(6, 0x1000)], 0x0,
   [⟨0, 8, .rw, false⟩]⟩,
  ⟨0x400d0010, [(6, 0x1000)], 0x0,
   [⟨0, 6, .ro, false⟩, ⟨8, 6, .ro, false⟩, ⟨16, 1, .ro, false⟩, ⟨17, 1, .ro, false⟩, ⟨18, 1, .ro, false⟩, ⟨19, 1, .bs, false⟩]⟩,
  ⟨0x400d0014, [(6, 0x1000)], 0x0,
   [⟨0, 9, .wo, false⟩]⟩,
  ⟨0x400d0018, [(6, 0x1000)], 0x0,
   [⟨0, 9, .ro, false⟩, ⟨9, 1, .ro, false⟩, ⟨10, 1, .ro, false⟩, ⟨11, 1, .ro, false⟩, ⟨31, 1, .ro, false⟩]⟩,
  ⟨0x400d001c, [(6, 0x1000)], 0x0,
   [⟨0, 32, .ro, false⟩]⟩,
  ⟨0x400d0020, [(6, 0x1000)], 0x0,
   [⟨0, 1, .w1c, false⟩, ⟨1, 1, .w1c, false⟩, ⟨2, 1, .w1c, false⟩, ⟨3, 1, .w1c, false⟩, ⟨4, 1, .w1c, false⟩, ⟨5, 1, .w1c, false⟩]⟩,
  ⟨0x400d0024, [(6, 0x1000)], 0x0,
   [⟨0, 6, .rw, false⟩]⟩,
  ⟨0x400d0028, [(6, 0x1000)], 0x0,
   [⟨0, 8, .wl, false⟩, ⟨8, 1, .wl, false⟩, ⟨16, 8, .wl, false⟩, ⟨24, 1, .wl, false⟩]⟩,
  ⟨0x400d0030, [(6, 0x1000)], 0x0,
   [⟨0, 7, .ro, false⟩, ⟨8, 7, .ro, false⟩, ⟨16, 1, .w1c, false⟩, ⟨17, 1, .w1c, false⟩]⟩,
  ⟨0x400d0040, [(6, 0x1000)], 0x0,
   [⟨0, 32, .rc, false⟩]⟩,
  ⟨0x400d0044, [(6, 0x1000)], 0x0,
   [⟨0, 32, .rc, false⟩]⟩,
  ⟨0x400d0048, [(6, 0x1000)], 0x0,
   [⟨0, 32, .rc, false⟩]⟩,
  ⟨0x400d004c, [(6, 0x1000)], 0x0,
   [⟨0, 32, .rc, false⟩]⟩,
  ⟨0x400d0050, [(6, 0x1000)], 0x0,
   [⟨0, 32, .rc, false⟩]⟩,
  ⟨0x400d0054, [(6, 0x1000)], 0x0,
   [⟨0, 32, .rc, false⟩]⟩]

/-- 15_viaduct_pair.md R590. -/
def regTableR590 : List RegDef := [
  ⟨0x400f0000, [], 0x0,
   [⟨0, 1, .bs, false⟩, ⟨1, 2, .ro, false⟩, ⟨3, 2, .ro, false⟩, ⟨5, 1, .ro, false⟩, ⟨6, 1, .ro, false⟩, ⟨7, 1, .ro, false⟩, ⟨8, 1, .ro, false⟩, ⟨9, 1, .ro, false⟩, ⟨10, 1, .ro, false⟩, ⟨11, 1, .ro, false⟩, ⟨12, 4, .ro, false⟩, ⟨16, 4, .ro, false⟩]⟩,
  ⟨0x400f0004, [], 0x0,
   [⟨0, 32, .ro, true⟩]⟩,
  ⟨0x400f0008, [], 0x0,
   [⟨0, 32, .ro, false⟩]⟩,
  ⟨0x400f000c, [], 0x0,
   [⟨0, 1, .w1s, false⟩, ⟨1, 1, .w1s, false⟩]⟩,
  ⟨0x400f0010, [], 0x0,
   [⟨0, 3, .rw, false⟩, ⟨3, 1, .rw, false⟩]⟩,
  ⟨0x400f0014, [], 0x0,
   [⟨0, 32, .ro, false⟩]⟩,
  ⟨0x400f0018, [], 0x0,
   [⟨0, 32, .ro, false⟩]⟩,
  ⟨0x400f001c, [], 0x0,
   [⟨0, 32, .rc, false⟩]⟩,
  ⟨0x400f0020, [], 0x0,
   [⟨0, 16, .rc, false⟩, ⟨16, 16, .rc, false⟩]⟩,
  ⟨0x400f0024, [], 0x0,
   [⟨0, 32, .rc, false⟩]⟩,
  ⟨0x400f0028, [], 0x0,
   [⟨0, 16, .ro, false⟩]⟩,
  ⟨0x400f002c, [], 0x0,
   [⟨0, 1, .w1c, false⟩, ⟨1, 1, .w1c, false⟩, ⟨2, 1, .w1c, false⟩, ⟨3, 1, .w1c, false⟩, ⟨4, 1, .w1c, false⟩, ⟨5, 1, .w1c, false⟩]⟩,
  ⟨0x400f0030, [], 0x0,
   [⟨0, 6, .rw, false⟩]⟩]

/-- 15_viaduct_pair.md R591. -/
def regTableR591 : List RegDef := [
  ⟨0x400f1000, [(8, 0x1000)], 0x0,
   [⟨0, 3, .ro, false⟩, ⟨3, 1, .bs, false⟩, ⟨4, 1, .ro, false⟩, ⟨5, 1, .bs, false⟩, ⟨6, 1, .ro, false⟩, ⟨8, 8, .ro, false⟩]⟩,
  ⟨0x400f1004, [(8, 0x1000)], 0x0,
   [⟨0, 32, .ro, false⟩]⟩,
  ⟨0x400f1008, [(8, 0x1000)], 0x0,
   [⟨0, 1, .w1s, false⟩, ⟨1, 1, .w1s, false⟩, ⟨8, 1, .w1c, false⟩]⟩,
  ⟨0x400f100c, [(8, 0x1000)], 0x0,
   [⟨0, 16, .ro, false⟩]⟩,
  ⟨0x400f1010, [(8, 0x1000)], 0x0,
   [⟨0, 8, .rw, false⟩, ⟨8, 1, .rw, false⟩]⟩,
  ⟨0x400f1014, [(8, 0x1000)], 0x0,
   [⟨0, 6, .ro, false⟩]⟩]

/-- 16_trestle_stack.md R625. -/
def regTableR625 : List RegDef := [
  ⟨0x40100000, [], 0x0,
   [⟨0, 3, .ro, false⟩, ⟨4, 3, .ro, false⟩, ⟨7, 1, .ro, false⟩, ⟨8, 1, .ro, false⟩, ⟨9, 1, .ro, false⟩, ⟨10, 1, .ro, false⟩, ⟨11, 1, .ro, false⟩, ⟨12, 1, .ro, false⟩, ⟨16, 4, .ro, false⟩, ⟨20, 4, .ro, false⟩, ⟨24, 2, .ro, false⟩]⟩,
  ⟨0x40100004, [], 0x0,
   [⟨0, 8, .ro, false⟩, ⟨8, 8, .w1c, false⟩]⟩,
  ⟨0x40100008, [], 0x0,
   [⟨0, 32, .ro, false⟩]⟩,
  ⟨0x4010000c, [], 0x0,
   [⟨0, 32, .ro, false⟩]⟩,
  ⟨0x40100010, [], 0x0,
   [⟨0, 32, .ro, false⟩]⟩,
  ⟨0x40100014, [], 0x0,
   [⟨0, 6, .ro, false⟩]⟩,
  ⟨0x40100018, [], 0x0,
   [⟨0, 16, .rw, false⟩, ⟨16, 16, .rw, false⟩]⟩,
  ⟨0x4010001c, [], 0x0,
   [⟨0, 16, .ro, false⟩, ⟨16, 16, .ro, false⟩]⟩,
  ⟨0x40100020, [], 0x0,
   [⟨0, 32, .ro, false⟩]⟩,
  ⟨0x40100024, [], 0x0,
   [⟨0, 32, .rc, false⟩]⟩,
  ⟨0x40100028, [], 0x0,
   [⟨0, 16, .rc, false⟩, ⟨16, 16, .rc, false⟩]⟩,
  ⟨0x4010002c, [], 0x0,
   [⟨0, 32, .rc, false⟩]⟩,
  ⟨0x40100030, [], 0x0,
   [⟨0, 16, .rc, false⟩, ⟨16, 16, .rc, false⟩]⟩,
  ⟨0x40100034, [], 0x0,
   [⟨0, 16, .wo, false⟩, ⟨31, 1, .wo, false⟩]⟩,
  ⟨0x40100038, [], 0x1,
   [⟨0, 8, .rw, false⟩]⟩,
  ⟨0x4010003c, [], 0x0,
   [⟨0, 16, .ro, false⟩, ⟨16, 3, .ro, false⟩]⟩,
  ⟨0x40100040, [], 0x0,
   [⟨0, 1, .w1s, false⟩]⟩,
  ⟨0x40100044, [], 0x0,
   [⟨0, 1, .w1c, false⟩, ⟨1, 1, .w1c, false⟩, ⟨2, 1, .w1c, false⟩, ⟨3, 1, .w1c, false⟩, ⟨4, 1, .w1c, false⟩, ⟨5, 1, .w1c, false⟩]⟩,
  ⟨0x40100048, [], 0x0,
   [⟨0, 6, .rw, false⟩]⟩]

/-- 16_trestle_stack.md R626. -/
def regTableR626 : List RegDef := [
  ⟨0x40101000, [(8, 0x1000)], 0x0,
   [⟨0, 32, .ro, false⟩]⟩,
  ⟨0x40101004, [(8, 0x1000)], 0x0,
   [⟨0, 32, .rw, false⟩]⟩,
  ⟨0x40101008, [(8, 0x1000)], 0x0,
   [⟨0, 1, .w1c, false⟩]⟩]

/-- 17_drive_control.md R659. -/
def regTableR659 : List RegDef := [
  ⟨0x40110000, [(2, 0x10000)], 0x10,
   [⟨0, 1, .rw, false⟩, ⟨1, 1, .wl, false⟩, ⟨2, 2, .wl, false⟩, ⟨4, 1, .rw, false⟩, ⟨5, 1, .rw, false⟩]⟩,
  ⟨0x40110004, [(2, 0x10000)], 0x0,
   [⟨0, 8, .rw, false⟩, ⟨8, 8, .rw, false⟩]⟩,
  ⟨0x40110008, [(2, 0x10000)], 0x0,
   [⟨0, 25, .wl, false⟩]⟩,
  ⟨0x4011000c, [(2, 0x10000)], 0x0,
   [⟨0, 3, .wo, false⟩, ⟨4, 1, .wo, false⟩, ⟨8, 4, .wo, false⟩, ⟨31, 1, .wo, false⟩]⟩,
  ⟨0x40110010, [(2, 0x10000)], 0x0,
   [⟨0, 4, .ro, false⟩, ⟨8, 4, .ro, false⟩]⟩,
  ⟨0x40110014, [(2, 0x10000)], 0x0,
   [⟨0, 4, .ro, false⟩, ⟨4, 4, .ro, false⟩, ⟨8, 1, .ro, false⟩, ⟨9, 1, .ro, false⟩, ⟨10, 1, .ro, false⟩, ⟨11, 1, .ro, false⟩, ⟨12, 1, .ro, false⟩]⟩,
  ⟨0x40110018, [(2, 0x10000)], 0x0,
   [⟨0, 32, .rw, false⟩]⟩,
  ⟨0x4011001c, [(2, 0x10000)], 0x0,
   [⟨0, 32, .rw, false⟩]⟩,
  ⟨0x40110020, [(2, 0x10000)], 0x0,
   [⟨0, 32, .rw, false⟩]⟩,
  ⟨0x40110024, [(2, 0x10000)], 0x0,
   [⟨0, 32, .rw, false⟩]⟩,
  ⟨0x40110040, [(2, 0x10000), (7, 0x4)], 0x0,
   [⟨0, 1, .wl, false⟩, ⟨1, 1, .wl, false⟩, ⟨2, 5, .wl, false⟩, ⟨16, 16, .wl, false⟩]⟩,
  ⟨0x40110060, [(2, 0x10000), (7, 0x4)], 0x0,
   [⟨0, 32, .wl, false⟩]⟩,
  ⟨0x40110100, [(2, 0x10000)], 0x0,
   [⟨0, 32, .ro, false⟩]⟩,
  ⟨0x40110104, [(2, 0x10000)], 0x0,
   [⟨0, 32, .ro, false⟩]⟩,
  ⟨0x40110108, [(2, 0x10000)], 0x0,
   [⟨0, 32, .ro, false⟩]⟩,
  ⟨0x4011010c, [(2, 0x10000)], 0x0,
   [⟨0, 32, .ro, false⟩]⟩,
  ⟨0x40110110, [(2, 0x10000)], 0x0,
   [⟨0, 32, .ro, false⟩]⟩,
  ⟨0x40110114, [(2, 0x10000)], 0x0,
   [⟨0, 32, .ro, false⟩]⟩,
  ⟨0x40110118, [(2, 0x10000)], 0x0,
   [⟨0, 32, .ro, false⟩]⟩,
  ⟨0x4011011c, [(2, 0x10000)], 0x0,
   [⟨0, 32, .ro, false⟩]⟩,
  ⟨0x40110120, [(2, 0x10000)], 0x0,
   [⟨0, 32, .ro, false⟩]⟩,
  ⟨0x40110124, [(2, 0x10000)], 0x0,
   [⟨0, 32, .ro, false⟩]⟩,
  ⟨0x40110128, [(2, 0x10000)], 0x0,
   [⟨0, 3, .ro, false⟩, ⟨3, 3, .ro, false⟩, ⟨6, 2, .ro, false⟩, ⟨8, 1, .ro, false⟩]⟩,
  ⟨0x4011012c, [(2, 0x10000)], 0x1000,
   [⟨0, 16, .ro, false⟩]⟩,
  ⟨0x40110130, [(2, 0x10000)], 0x0,
   [⟨0, 32, .ro, false⟩]⟩,
  ⟨0x40110134, [(2, 0x10000)], 0x0,
   [⟨0, 32, .ro, false⟩]⟩,
  ⟨0x40110138, [(2, 0x10000)], 0x0,
   [⟨0, 16, .rc, false⟩]⟩,
  ⟨0x4011013c, [(2, 0x10000)], 0x0,
   [⟨0, 16, .rc, false⟩]⟩,
  ⟨0x40110180, [(2, 0x10000)], 0x0,
   [⟨0, 32, .ro, false⟩]⟩,
  ⟨0x40110184, [(2, 0x10000)], 0x0,
   [⟨0, 32, .ro, false⟩]⟩,
  ⟨0x40110188, [(2, 0x10000)], 0x0,
   [⟨0, 32, .ro, false⟩]⟩,
  ⟨0x4011018c, [(2, 0x10000)], 0x0,
   [⟨0, 32, .ro, false⟩]⟩,
  ⟨0x40110200, [(2, 0x10000)], 0x0,
   [⟨0, 1, .w1c, false⟩, ⟨1, 1, .w1c, false⟩, ⟨2, 1, .w1c, false⟩, ⟨3, 1, .w1c, false⟩, ⟨4, 1, .w1c, false⟩, ⟨5, 1, .w1c, false⟩]⟩,
  ⟨0x40110204, [(2, 0x10000)], 0x0,
   [⟨0, 16, .rw, false⟩]⟩]

/-- 18_drive_stopping_protection.md R688. -/
def regTableR688 : List RegDef := [
  ⟨0x40110400, [(2, 0x10000)], 0x2,
   [⟨0, 1, .w1s, false⟩, ⟨1, 1, .rw, false⟩, ⟨2, 1, .rw, false⟩]⟩,
  ⟨0x40110404, [(2, 0x10000)], 0x3ff,
   [⟨0, 10, .ro, false⟩, ⟨16, 10, .ro, false⟩, ⟨28, 4, .ro, false⟩]⟩,
  ⟨0x40110408, [(2, 0x10000)], 0x0,
   [⟨0, 4, .ro, false⟩, ⟨4, 3, .ro, false⟩, ⟨8, 1, .ro, false⟩, ⟨16, 8, .ro, false⟩]⟩,
  ⟨0x4011040c, [(2, 0x10000)], 0x0,
   [⟨0, 32, .ro, false⟩]⟩,
  ⟨0x40110410, [(2, 0x10000)], 0x0,
   [⟨0, 3, .ro, false⟩, ⟨3, 1, .ro, false⟩, ⟨4, 4, .ro, false⟩]⟩,
  ⟨0x40110414, [(2, 0x10000)], 0x0,
   [⟨0, 32, .ro, false⟩]⟩,
  ⟨0x40110418, [(2, 0x10000)], 0x0,
   [⟨0, 1, .ro, false⟩]⟩,
  ⟨0x4011041c, [(2, 0x10000)], 0x0,
   [⟨0, 32, .ro, false⟩]⟩,
  ⟨0x40110420, [(2, 0x10000)], 0x0,
   [⟨0, 32, .ro, false⟩]⟩,
  ⟨0x40110424, [(2, 0x10000)], 0x0,
   [⟨0, 1, .ro, false⟩, ⟨1, 1, .ro, false⟩, ⟨2, 1, .ro, false⟩, ⟨16, 10, .ro, false⟩]⟩,
  ⟨0x40110428, [(2, 0x10000)], 0x0,
   [⟨0, 1, .ro, false⟩, ⟨1, 1, .ro, false⟩, ⟨2, 1, .ro, false⟩]⟩,
  ⟨0x4011042c, [(2, 0x10000)], 0x0,
   [⟨0, 4, .ro, false⟩, ⟨16, 16, .rc, false⟩]⟩,
  ⟨0x40110430, [(2, 0x10000)], 0x0,
   [⟨0, 32, .ro, false⟩]⟩]

/-- 19_adc_sdm.md R718. -/
def regTableR718 : List RegDef := [
  ⟨0x40131000, [(4, 0x1000)], 0x0,
   [⟨0, 1, .rw, false⟩, ⟨1, 3, .wl, false⟩, ⟨4, 1, .ro, false⟩]⟩,
  ⟨0x40131004, [(4, 0x1000)], 0x0,
   [⟨0, 6, .w1c, false⟩, ⟨8, 6, .ro, false⟩, ⟨16, 6, .rw, false⟩]⟩,
  ⟨0x40131008, [(4, 0x1000)], 0x0,
   [⟨0, 8, .wl, false⟩, ⟨8, 1, .wl, false⟩]⟩,
  ⟨0x4013100c, [(4, 0x1000)], 0x0,
   [⟨0, 1, .w1s, false⟩]⟩,
  ⟨0x40131010, [(4, 0x1000), (4, 0x10)], 0x0,
   [⟨0, 2, .wl, false⟩, ⟨2, 3, .wl, false⟩, ⟨8, 3, .wl, false⟩, ⟨11, 1, .wl, false⟩, ⟨12, 1, .rw, false⟩]⟩,
  ⟨0x40131014, [(4, 0x1000), (4, 0x10)], 0x0,
   [⟨0, 32, .wl, false⟩]⟩,
  ⟨0x40131018, [(4, 0x1000), (4, 0x10)], 0x0,
   [⟨0, 8, .rw, false⟩, ⟨8, 1, .w1s, false⟩]⟩,
  ⟨0x4013101c, [(4, 0x1000), (4, 0x10)], 0x0,
   [⟨0, 32, .ro, false⟩]⟩,
  ⟨0x40131050, [(4, 0x1000)], 0x0,
   [⟨0, 4, .ro, false⟩, ⟨4, 4, .ro, false⟩]⟩,
  ⟨0x40131060, [(4, 0x1000), (9, 0x4)], 0x0,
   [⟨0, 32, .ro, false⟩]⟩,
  ⟨0x40131090, [(4, 0x1000)], 0x0,
   [⟨0, 4, .w1c, false⟩, ⟨4, 1, .w1c, false⟩, ⟨5, 1, .w1c, false⟩, ⟨6, 1, .w1c, false⟩]⟩,
  ⟨0x40131094, [(4, 0x1000)], 0x0,
   [⟨0, 7, .rw, false⟩]⟩,
  ⟨0x40131098, [(4, 0x1000)], 0x0,
   [⟨0, 16, .rc, false⟩, ⟨16, 16, .rc, false⟩]⟩,
  ⟨0x4013109c, [(4, 0x1000)], 0x0,
   [⟨0, 32, .rc, false⟩]⟩]

/-- 19_adc_sdm.md R719. -/
def regTableR719 : List RegDef := [
  ⟨0x40140000, [], 0x64,
   [⟨0, 8, .rw, false⟩, ⟨8, 1, .ro, false⟩]⟩,
  ⟨0x40141000, [(8, 0x1000)], 0x401010,
   [⟨0, 1, .rw, false⟩, ⟨1, 1, .wl, false⟩, ⟨2, 1, .rw, false⟩, ⟨3, 2, .wl, false⟩, ⟨8, 6, .wl, false⟩, ⟨16, 9, .wl, false⟩]⟩,
  ⟨0x40141004, [(8, 0x1000)], 0x0,
   [⟨0, 8, .rw, false⟩]⟩,
  ⟨0x40141008, [(8, 0x1000)], 0x0,
   [⟨0, 32, .ro, false⟩]⟩,
  ⟨0x4014100c, [(8, 0x1000)], 0x0,
   [⟨0, 32, .ro, false⟩]⟩,
  ⟨0x40141010, [(8, 0x1000)], 0x0,
   [⟨0, 32, .ro, false⟩]⟩,
  ⟨0x40141014, [(8, 0x1000)], 0x0,
   [⟨0, 32, .ro, false⟩]⟩,
  ⟨0x40141018, [(8, 0x1000)], 0x1800,
   [⟨0, 1, .w1c, false⟩, ⟨1, 1, .ro, false⟩, ⟨2, 1, .rw, false⟩, ⟨3, 1, .ro, false⟩, ⟨8, 6, .rw, false⟩]⟩,
  ⟨0x4014101c, [(8, 0x1000)], 0x0,
   [⟨0, 16, .rw, false⟩]⟩,
  ⟨0x40141020, [(8, 0x1000)], 0x7fff8000,
   [⟨0, 16, .rw, false⟩, ⟨16, 16, .rw, false⟩]⟩,
  ⟨0x40141024, [(8, 0x1000)], 0x0,
   [⟨0, 16, .ro, false⟩, ⟨16, 1, .ro, false⟩, ⟨17, 1, .ro, false⟩]⟩,
  ⟨0x40141028, [(8, 0x1000)], 0x0,
   [⟨0, 8, .wl, false⟩, ⟨8, 1, .wl, false⟩]⟩,
  ⟨0x4014102c, [(8, 0x1000)], 0x0,
   [⟨0, 1, .w1s, false⟩]⟩,
  ⟨0x40141030, [(8, 0x1000)], 0x0,
   [⟨0, 1, .w1c, false⟩, ⟨1, 1, .w1c, false⟩, ⟨2, 1, .w1c, false⟩, ⟨3, 1, .w1c, false⟩, ⟨4, 1, .w1c, false⟩, ⟨5, 1, .w1c, false⟩]⟩,
  ⟨0x40141034, [(8, 0x1000)], 0x0,
   [⟨0, 6, .rw, false⟩]⟩]

/-- 20_supply_ridethrough.md R751. -/
def regTableR751 : List RegDef := [
  ⟨0x40150000, [], 0x0,
   [⟨0, 1, .rw, false⟩, ⟨1, 1, .rw, false⟩, ⟨2, 1, .w1s, false⟩, ⟨8, 3, .ro, false⟩]⟩,
  ⟨0x40150004, [], 0x0,
   [⟨0, 1, .bs, false⟩, ⟨1, 5, .bs, false⟩, ⟨6, 2, .bs, false⟩, ⟨8, 2, .bs, false⟩, ⟨12, 4, .bs, false⟩, ⟨16, 2, .bs, false⟩, ⟨18, 2, .bs, false⟩, ⟨24, 8, .bs, false⟩]⟩,
  ⟨0x40150008, [], 0x0,
   [⟨0, 32, .bs, false⟩]⟩,
  ⟨0x4015000c, [], 0x0,
   [⟨0, 32, .bs, false⟩]⟩,
  ⟨0x40150010, [], 0x0,
   [⟨0, 8, .bs, false⟩, ⟨8, 8, .bs, false⟩, ⟨16, 8, .bs, false⟩]⟩,
  ⟨0x40150014, [], 0x0,
   [⟨0, 16, .bs, false⟩]⟩,
  ⟨0x40150018, [], 0xc834,
   [⟨0, 4, .wl, false⟩, ⟨4, 4, .wl, false⟩, ⟨8, 12, .wl, false⟩]⟩,
  ⟨0x4015001c, [], 0x6401f4,
   [⟨0, 16, .wl, false⟩, ⟨16, 16, .wl, false⟩]⟩,
  ⟨0x40150020, [], 0x140032,
   [⟨0, 16, .wl, false⟩, ⟨16, 16, .wl, false⟩]⟩,
  ⟨0x40150024, [], 0x5100064,
   [⟨0, 16, .wl, false⟩, ⟨16, 4, .wl, false⟩, ⟨20, 2, .wl, false⟩, ⟨24, 8, .wl, false⟩]⟩,
  ⟨0x40150028, [], 0x3c0010,
   [⟨0, 16, .wl, false⟩, ⟨16, 16, .wl, false⟩]⟩,
  ⟨0x4015002c, [], 0x0,
   [⟨0, 3, .ro, false⟩, ⟨4, 2, .ro, false⟩, ⟨6, 1, .ro, false⟩, ⟨7, 1, .ro, false⟩, ⟨8, 1, .ro, false⟩, ⟨9, 1, .ro, false⟩, ⟨10, 2, .ro, false⟩, ⟨16, 8, .ro, false⟩, ⟨24, 8, .ro, false⟩]⟩,
  ⟨0x40150030, [], 0x0,
   [⟨0, 32, .ro, false⟩]⟩,
  ⟨0x40150034, [], 0x0,
   [⟨0, 32, .ro, false⟩]⟩,
  ⟨0x40150038, [], 0x0,
   [⟨0, 32, .ro, false⟩]⟩,
  ⟨0x4015003c, [], 0x0,
   [⟨0, 32, .ro, false⟩]⟩,
  ⟨0x40150040, [], 0x0,
   [⟨0, 32, .ro, false⟩]⟩,
  ⟨0x40150044, [], 0x0,
   [⟨0, 32, .ro, false⟩]⟩,
  ⟨0x40150048, [], 0x0,
   [⟨0, 32, .ro, false⟩]⟩,
  ⟨0x4015004c, [], 0x0,
   [⟨0, 32, .ro, false⟩]⟩,
  ⟨0x40150050, [(8, 0x4)], 0x0,
   [⟨0, 32, .ro, false⟩]⟩,
  ⟨0x40150070, [], 0x0,
   [⟨0, 16, .rc, false⟩, ⟨16, 16, .rc, false⟩]⟩,
  ⟨0x40150074, [], 0x0,
   [⟨0, 16, .rc, false⟩]⟩,
  ⟨0x40150078, [], 0x0,
   [⟨0, 1, .w1c, false⟩, ⟨1, 1, .w1c, false⟩, ⟨2, 1, .w1c, false⟩, ⟨3, 1, .w1c, false⟩, ⟨4, 1, .w1c, false⟩, ⟨5, 1, .w1c, false⟩, ⟨6, 1, .w1c, false⟩, ⟨7, 1, .w1c, false⟩]⟩,
  ⟨0x4015007c, [], 0x0,
   [⟨0, 8, .rw, false⟩]⟩]

/-- 20_supply_ridethrough.md R753. -/
def regTableR753 : List RegDef := [
  ⟨0x40151000, [(8, 0x1000)], 0x0,
   [⟨0, 3, .ro, false⟩, ⟨4, 2, .ro, false⟩, ⟨8, 1, .w1c, false⟩, ⟨16, 8, .ro, false⟩]⟩,
  ⟨0x40151004, [(8, 0x1000)], 0x0,
   [⟨0, 32, .ro, false⟩]⟩]

/-- 21_current_loop.md R769. -/
def regTableR769 : List RegDef := [
  ⟨0x40160000, [(2, 0x100)], 0x0,
   [⟨0, 1, .rw, false⟩, ⟨1, 2, .rw, false⟩, ⟨3, 2, .rw, false⟩, ⟨5, 1, .rw, false⟩]⟩,
  ⟨0x40160004, [(2, 0x100)], 0x2aab,
   [⟨0, 16, .rw, false⟩]⟩,
  ⟨0x40160008, [(2, 0x100)], 0x10001388,
   [⟨0, 16, .wl, false⟩, ⟨16, 16, .wl, false⟩]⟩,
  ⟨0x4016000c, [(2, 0x100)], 0x5dc,
   [⟨0, 16, .rw, false⟩]⟩,
  ⟨0x40160010, [(2, 0x100)], 0x0,
   [⟨0, 1, .ro, false⟩, ⟨1, 1, .ro, false⟩, ⟨2, 2, .ro, false⟩, ⟨4, 1, .ro, false⟩]⟩,
  ⟨0x40160014, [(2, 0x100)], 0x0,
   [⟨0, 16, .ro, false⟩]⟩,
  ⟨0x40160018, [(2, 0x100)], 0x0,
   [⟨0, 16, .ro, false⟩]⟩,
  ⟨0x4016001c, [(2, 0x100)], 0x0,
   [⟨0, 16, .ro, false⟩]⟩,
  ⟨0x40160020, [(2, 0x100)], 0x0,
   [⟨0, 16, .ro, false⟩]⟩,
  ⟨0x40160024, [(2, 0x100)], 0x0,
   [⟨0, 16, .ro, false⟩]⟩,
  ⟨0x40160028, [(2, 0x100)], 0x0,
   [⟨0, 8, .rw, false⟩]⟩,
  ⟨0x4016002c, [(2, 0x100)], 0x0,
   [⟨0, 16, .rc, false⟩]⟩]

/-- 21_current_loop.md R770. -/
def regTableR770 : List RegDef := [
  ⟨0x40160200, [(2, 0x100)], 0x3200,
   [⟨0, 1, .rw, false⟩, ⟨1, 3, .wl, false⟩, ⟨8, 8, .rw, false⟩]⟩,
  ⟨0x40160204, [(2, 0x100)], 0x1388,
   [⟨0, 16, .wl, false⟩]⟩,
  ⟨0x40160208, [(2, 0x100)], 0x0,
   [⟨0, 16, .ro, false⟩]⟩,
  ⟨0x4016020c, [(2, 0x100)], 0x0,
   [⟨0, 1, .ro, false⟩, ⟨1, 1, .ro, false⟩, ⟨2, 1, .ro, false⟩]⟩,
  ⟨0x40160210, [(2, 0x100)], 0x0,
   [⟨0, 8, .rw, false⟩]⟩,
  ⟨0x40160214, [(2, 0x100)], 0x0,
   [⟨0, 16, .ro, false⟩]⟩,
  ⟨0x40160218, [(2, 0x100)], 0x0,
   [⟨0, 32, .ro, false⟩]⟩,
  ⟨0x40160400, [], 0x0,
   [⟨0, 2, .w1c, false⟩, ⟨2, 2, .w1c, false⟩, ⟨4, 2, .w1c, false⟩, ⟨6, 2, .w1c, false⟩, ⟨8, 2, .w1c, false⟩]⟩,
  ⟨0x40160404, [], 0x0,
   [⟨0, 10, .rw, false⟩]⟩]

/-- 22_capacitive.md R792. -/
def regTableR792 : List RegDef := [
  ⟨0x40170000, [], 0x0,
   [⟨0, 1, .rw, false⟩, ⟨1, 1, .rw, false⟩, ⟨2, 1, .w1s, false⟩, ⟨3, 1, .w1s, false⟩, ⟨8, 3, .ro, false⟩]⟩,
  ⟨0x40170004, [], 0x0,
   [⟨0, 8, .bs, false⟩, ⟨8, 8, .bs, false⟩, ⟨16, 6, .bs, false⟩]⟩,
  ⟨0x40170008, [], 0x8200000,
   [⟨0, 16, .bs, false⟩, ⟨16, 8, .wl, false⟩, ⟨24, 4, .wl, false⟩]⟩,
  ⟨0x4017000c, [], 0x260040,
   [⟨0, 16, .wl, false⟩, ⟨16, 4, .wl, false⟩, ⟨20, 4, .wl, false⟩]⟩,
  ⟨0x40170010, [], 0x4e20,
   [⟨0, 16, .rw, false⟩]⟩,
  ⟨0x40170014, [], 0xff000100,
   [⟨0, 16, .wl, false⟩, ⟨16, 16, .wl, false⟩]⟩,
  ⟨0x40170018, [], 0x0,
   [⟨0, 3, .ro, false⟩, ⟨3, 1, .ro, false⟩, ⟨4, 1, .ro, false⟩]⟩,
  ⟨0x4017001c, [], 0x0,
   [⟨0, 16, .ro, false⟩]⟩,
  ⟨0x40170020, [], 0x0,
   [⟨0, 16, .rw, false⟩]⟩,
  ⟨0x40170024, [], 0x20020,
   [⟨0, 16, .rw, true⟩, ⟨16, 4, .rw, true⟩]⟩,
  ⟨0x40170028, [], 0x0,
   [⟨0, 16, .ro, true⟩, ⟨16, 16, .ro, true⟩]⟩,
  ⟨0x40170040, [(8, 0x4)], 0x0,
   [⟨0, 16, .ro, false⟩]⟩,
  ⟨0x40170060, [], 0x0,
   [⟨0, 32, .ro, false⟩]⟩,
  ⟨0x40170064, [], 0x0,
   [⟨0, 32, .ro, false⟩]⟩,
  ⟨0x40170068, [], 0x0,
   [⟨0, 32, .ro, false⟩]⟩,
  ⟨0x4017006c, [], 0x0,
   [⟨0, 32, .ro, false⟩]⟩,
  ⟨0x40170070, [], 0x0,
   [⟨0, 1, .w1c, false⟩, ⟨1, 1, .w1c, false⟩, ⟨2, 1, .w1c, false⟩, ⟨3, 1, .w1c, false⟩, ⟨4, 1, .w1c, false⟩, ⟨5, 1, .w1c, false⟩, ⟨6, 1, .w1c, false⟩, ⟨7, 1, .w1c, false⟩]⟩,
  ⟨0x40170074, [], 0x0,
   [⟨0, 8, .rw, false⟩]⟩,
  ⟨0x40170078, [], 0x0,
   [⟨0, 16, .rc, false⟩]⟩]

/-- 22_capacitive.md R793. -/
def regTableR793 : List RegDef := [
  ⟨0x40170100, [(64, 0x10)], 0x0,
   [⟨0, 4, .bs, false⟩, ⟨4, 4, .bs, false⟩, ⟨8, 8, .bs, false⟩, ⟨16, 16, .bs, false⟩]⟩,
  ⟨0x40170104, [(64, 0x10)], 0x0,
   [⟨0, 16, .ro, false⟩, ⟨16, 16, .ro, false⟩]⟩,
  ⟨0x40170108, [(64, 0x10)], 0x0,
   [⟨0, 16, .ro, false⟩, ⟨16, 1, .bs, false⟩, ⟨17, 1, .ro, false⟩, ⟨18, 1, .ro, false⟩, ⟨19, 1, .ro, false⟩, ⟨20, 1, .ro, false⟩]⟩]

/-- 22_capacitive.md R794. -/
def regTableR794 : List RegDef := [
  ⟨0x40170600, [(8, 0x40)], 0x0,
   [⟨0, 1, .bs, false⟩, ⟨1, 1, .bs, false⟩, ⟨2, 1, .bs, false⟩, ⟨4, 4, .bs, false⟩, ⟨16, 16, .bs, false⟩]⟩,
  ⟨0x40170604, [(8, 0x40)], 0x404,
   [⟨0, 4, .wl, false⟩, ⟨8, 3, .wl, false⟩]⟩,
  ⟨0x40170608, [(8, 0x40)], 0x400200,
   [⟨0, 16, .rw, false⟩, ⟨16, 8, .rw, false⟩]⟩,
  ⟨0x4017060c, [(8, 0x40)], 0x0,
   [⟨0, 24, .ro, false⟩]⟩,
  ⟨0x40170610, [(8, 0x40)], 0x0,
   [⟨0, 24, .ro, false⟩]⟩,
  ⟨0x40170614, [(8, 0x40)], 0x0,
   [⟨0, 1, .ro, false⟩, ⟨1, 1, .ro, false⟩, ⟨2, 1, .ro, false⟩, ⟨3, 1, .ro, false⟩, ⟨4, 1, .ro, false⟩, ⟨5, 1, .ro, false⟩, ⟨6, 1, .ro, false⟩]⟩,
  ⟨0x40170618, [(8, 0x40)], 0x0,
   [⟨0, 32, .ro, false⟩]⟩,
  ⟨0x4017061c, [(8, 0x40)], 0x0,
   [⟨0, 16, .ro, false⟩]⟩,
  ⟨0x40170620, [(8, 0x40)], 0x0,
   [⟨0, 16, .ro, false⟩]⟩,
  ⟨0x40170624, [(8, 0x40)], 0x0,
   [⟨0, 32, .ro, false⟩]⟩]

/-- 23_tag_reader.md R818. -/
def regTableR818 : List RegDef := [
  ⟨0x40180000, [], 0x0,
   [⟨0, 1, .rw, false⟩, ⟨1, 1, .wl, false⟩, ⟨8, 8, .wl, false⟩]⟩,
  ⟨0x40180004, [], 0x0,
   [⟨0, 8, .bs, false⟩, ⟨8, 2, .bs, false⟩, ⟨16, 5, .bs, false⟩, ⟨24, 7, .bs, false⟩]⟩,
  ⟨0x40180008, [], 0x6403e8,
   [⟨0, 16, .wl, false⟩, ⟨16, 16, .wl, false⟩]⟩,
  ⟨0x4018000c, [], 0x0,
   [⟨0, 8, .wo, false⟩, ⟨8, 2, .wo, false⟩, ⟨10, 1, .wo, false⟩, ⟨31, 1, .wo, false⟩]⟩,
  ⟨0x40180010, [], 0x0,
   [⟨0, 1, .w1s, false⟩]⟩,
  ⟨0x40180014, [], 0x0,
   [⟨0, 4, .ro, false⟩, ⟨8, 4, .ro, false⟩, ⟨12, 1, .ro, false⟩, ⟨13, 1, .ro, false⟩, ⟨16, 11, .ro, false⟩]⟩,
  ⟨0x40180018, [], 0x0,
   [⟨0, 32, .ro, false⟩]⟩,
  ⟨0x4018001c, [], 0x0,
   [⟨0, 32, .ro, false⟩]⟩,
  ⟨0x40180020, [], 0x0,
   [⟨0, 8, .ro, false⟩, ⟨8, 8, .ro, false⟩, ⟨16, 8, .ro, false⟩, ⟨24, 1, .ro, false⟩]⟩,
  ⟨0x40180024, [], 0x0,
   [⟨0, 16, .rw, false⟩]⟩,
  ⟨0x40180028, [], 0x440,
   [⟨0, 8, .ro, false⟩, ⟨8, 4, .ro, false⟩]⟩,
  ⟨0x4018002c, [], 0x0,
   [⟨0, 4, .ro, false⟩, ⟨4, 1, .ro, false⟩, ⟨8, 4, .ro, false⟩, ⟨12, 1, .ro, false⟩, ⟨16, 6, .ro, false⟩, ⟨24, 6, .ro, false⟩]⟩,
  ⟨0x40180030, [], 0x0,
   [⟨0, 8, .wl, false⟩, ⟨8, 1, .wl, false⟩]⟩,
  ⟨0x40180034, [], 0x0,
   [⟨0, 1, .w1c, false⟩, ⟨1, 1, .w1c, false⟩, ⟨2, 1, .w1c, false⟩, ⟨3, 1, .w1c, false⟩, ⟨4, 1, .w1c, false⟩, ⟨5, 1, .w1c, false⟩]⟩,
  ⟨0x40180038, [], 0x0,
   [⟨0, 6, .rw, false⟩]⟩,
  ⟨0x4018003c, [], 0x0,
   [⟨0, 16, .rc, false⟩, ⟨16, 16, .rc, false⟩]⟩,
  ⟨0x40180040, [], 0x0,
   [⟨0, 16, .rc, false⟩, ⟨16, 16, .rc, false⟩]⟩,
  ⟨0x40181000, [(1024, 0x30), (12, 0x4)], 0x0,
   [⟨0, 32, .ro, false⟩]⟩]

/-- 24_pins_host.md R846. -/
def regTableR846 : List RegDef := [
  ⟨0x40010000, [], 0x0,
   [⟨0, 8, .bs, false⟩]⟩,
  ⟨0x40010100, [(128, 0x8)], 0x0,
   [⟨0, 4, .ro, false⟩, ⟨4, 4, .ro, false⟩, ⟨8, 5, .ro, false⟩, ⟨13, 3, .ro, false⟩, ⟨16, 3, .ro, false⟩, ⟨20, 1, .ro, false⟩, ⟨21, 1, .ro, false⟩, ⟨24, 1, .ro, false⟩]⟩,
  ⟨0x40010104, [(128, 0x8)], 0x0,
   [⟨0, 4, .rw, false⟩, ⟨4, 4, .rw, false⟩, ⟨8, 5, .rw, false⟩, ⟨13, 3, .rw, false⟩, ⟨31, 1, .ro, false⟩]⟩,
  ⟨0x40011000, [(8, 0x1000)], 0x0,
   [⟨0, 1, .w1s, false⟩, ⟨1, 1, .w1s, false⟩, ⟨2, 1, .ro, false⟩]⟩,
  ⟨0x40011004, [(8, 0x1000)], 0x0,
   [⟨0, 4, .ro, false⟩, ⟨8, 4, .ro, false⟩, ⟨16, 7, .ro, false⟩]⟩,
  ⟨0x40011008, [(8, 0x1000)], 0x0,
   [⟨0, 8, .rw, false⟩]⟩]

/-- 24_pins_host.md R847. -/
def regTableR847 : List RegDef := [
  ⟨0x401d0000, [(4, 0x20)], 0x0,
   [⟨0, 32, .ro, false⟩]⟩,
  ⟨0x401d0004, [(4, 0x20)], 0x0,
   [⟨0, 32, .rw, false⟩]⟩,
  ⟨0x401d0008, [(4, 0x20)], 0x0,
   [⟨0, 32, .wo, false⟩]⟩,
  ⟨0x401d000c, [(4, 0x20)], 0x0,
   [⟨0, 32, .wo, false⟩]⟩,
  ⟨0x401d0010, [(4, 0x20)], 0x0,
   [⟨0, 32, .rw, false⟩]⟩,
  ⟨0x401d0014, [(4, 0x20)], 0x0,
   [⟨0, 32, .w1c, false⟩]⟩,
  ⟨0x401d0018, [(4, 0x20)], 0x0,
   [⟨0, 32, .ro, false⟩]⟩,
  ⟨0x401d0100, [(128, 0x4)], 0x0,
   [⟨0, 3, .rw, false⟩, ⟨4, 1, .rw, false⟩, ⟨5, 1, .rw, false⟩]⟩,
  ⟨0x401d1000, [(8, 0x1000)], 0x0,
   [⟨0, 8, .rw, false⟩]⟩]

/-- 24_pins_host.md R848. -/
def regTableR848 : List RegDef := [
  ⟨0x401b0000, [], 0x2,
   [⟨0, 1, .rw, false⟩, ⟨1, 1, .rw, false⟩]⟩,
  ⟨0x401b0004, [], 0x0,
   [⟨0, 16, .rc, false⟩, ⟨16, 16, .rc, false⟩]⟩,
  ⟨0x401b0008, [], 0x0,
   [⟨0, 5, .rw, false⟩, ⟨8, 3, .rw, false⟩]⟩,
  ⟨0x401b000c, [], 0x0,
   [⟨0, 32, .rc, false⟩]⟩,
  ⟨0x401b0010, [], 0x0,
   [⟨0, 32, .wo, false⟩]⟩,
  ⟨0x401b0014, [], 0x0,
   [⟨0, 32, .rc, false⟩]⟩,
  ⟨0x401b0018, [], 0x0,
   [⟨0, 32, .wo, false⟩]⟩,
  ⟨0x401b0020, [], 0x0,
   [⟨0, 1, .rw, false⟩]⟩,
  ⟨0x401b0024, [], 0x0,
   [⟨0, 1, .ro, false⟩, ⟨1, 2, .ro, false⟩, ⟨3, 2, .ro, false⟩, ⟨5, 1, .ro, false⟩, ⟨6, 1, .ro, false⟩]⟩,
  ⟨0x401b0028, [], 0x0,
   [⟨0, 16, .wl, false⟩, ⟨16, 16, .wl, false⟩]⟩,
  ⟨0x401b002c, [], 0x0,
   [⟨12, 20, .rw, false⟩]⟩,
  ⟨0x401b0030, [], 0x0,
   [⟨0, 32, .rw, false⟩]⟩,
  ⟨0x401b0034, [], 0x0,
   [⟨0, 16, .rc, false⟩, ⟨16, 16, .rc, false⟩]⟩,
  ⟨0x401b0040, [], 0x1000000,
   [⟨0, 2, .rw, false⟩, ⟨4, 4, .rw, false⟩, ⟨8, 5, .rw, false⟩, ⟨16, 8, .rw, false⟩, ⟨24, 1, .rw, false⟩]⟩,
  ⟨0x401b0044, [], 0x0,
   [⟨0, 8, .rw, false⟩, ⟨8, 9, .rw, false⟩, ⟨17, 1, .rw, false⟩, ⟨18, 1, .rw, false⟩, ⟨31, 1, .wo, false⟩]⟩,
  ⟨0x401b0048, [], 0x0,
   [⟨0, 32, .rw, false⟩]⟩,
  ⟨0x401b004c, [], 0x0,
   [⟨0, 4, .ro, false⟩, ⟨4, 1, .ro, false⟩]⟩,
  ⟨0x401b0050, [], 0x0,
   [⟨0, 1, .w1c, false⟩, ⟨1, 1, .w1c, false⟩, ⟨2, 1, .w1c, false⟩, ⟨3, 1, .w1c, false⟩, ⟨4, 1, .w1c, false⟩, ⟨5, 1, .w1c, false⟩]⟩,
  ⟨0x401b0054, [], 0x0,
   [⟨0, 6, .rw, false⟩]⟩,
  ⟨0x401b0100, [(64, 0x4)], 0x0,
   [⟨0, 32, .rw, false⟩]⟩]

/-- 13_ethernet.md R494. -/
def regTableR494 : List RegDef := [
  ⟨0x40081000, [(4, 0x10000), (64, 0x10), (3, 0x4)], 0x0,
   [⟨0, 32, .rw, false⟩]⟩,
  ⟨0x4008100c, [(4, 0x10000), (64, 0x10)], 0x0,
   [⟨0, 32, .rc, false⟩]⟩,
  ⟨0x40080200, [(4, 0x10000)], 0x0,
   [⟨0, 32, .rc, false⟩]⟩,
  ⟨0x40080204, [(4, 0x10000)], 0x0,
   [⟨0, 32, .rc, false⟩]⟩,
  ⟨0x40080208, [(4, 0x10000)], 0x0,
   [⟨0, 32, .rc, false⟩]⟩,
  ⟨0x4008020c, [(4, 0x10000)], 0x0,
   [⟨0, 32, .rc, false⟩]⟩,
  ⟨0x40080210, [(4, 0x10000)], 0x0,
   [⟨0, 32, .rc, false⟩]⟩,
  ⟨0x40080214, [(4, 0x10000)], 0x0,
   [⟨0, 32, .rc, false⟩]⟩,
  ⟨0x40080218, [(4, 0x10000)], 0x0,
   [⟨0, 32, .rc, false⟩]⟩,
  ⟨0x4008021c, [(4, 0x10000)], 0x0,
   [⟨0, 32, .rc, false⟩]⟩,
  ⟨0x40080220, [(4, 0x10000)], 0x0,
   [⟨0, 32, .rc, false⟩]⟩,
  ⟨0x40080224, [(4, 0x10000)], 0x0,
   [⟨0, 32, .rc, false⟩]⟩,
  ⟨0x40080228, [(4, 0x10000)], 0x0,
   [⟨0, 32, .rc, false⟩]⟩,
  ⟨0x4008022c, [(4, 0x10000)], 0x0,
   [⟨0, 32, .rc, false⟩]⟩,
  ⟨0x40080230, [(4, 0x10000)], 0x0,
   [⟨0, 32, .rc, false⟩]⟩,
  ⟨0x40080234, [(4, 0x10000)], 0x0,
   [⟨0, 32, .rc, false⟩]⟩,
  ⟨0x40080238, [(4, 0x10000)], 0x0,
   [⟨0, 32, .rc, false⟩]⟩]

/-- Every register of the device, table by table. -/
def regTable : List RegDef :=
  regTableR117 ++
  regTableR126 ++
  regTableR160 ++
  regTableR161 ++
  regTableR198 ++
  regTableR233 ++
  regTableR234 ++
  regTableR235 ++
  regTableR270 ++
  regTableR271 ++
  regTableR302 ++
  regTableR303 ++
  regTableR387 ++
  regTableR388 ++
  regTableR389 ++
  regTableR390 ++
  regTableR425 ++
  regTableR426 ++
  regTableR427 ++
  regTableR428 ++
  regTableR459 ++
  regTableR460 ++
  regTableR492 ++
  regTableR493 ++
  regTableR543 ++
  regTableR544 ++
  regTableR590 ++
  regTableR591 ++
  regTableR625 ++
  regTableR626 ++
  regTableR659 ++
  regTableR688 ++
  regTableR718 ++
  regTableR719 ++
  regTableR751 ++
  regTableR753 ++
  regTableR769 ++
  regTableR770 ++
  regTableR792 ++
  regTableR793 ++
  regTableR794 ++
  regTableR818 ++
  regTableR846 ++
  regTableR847 ++
  regTableR848 ++
  regTableR494

end Sys2Proof.Machine
end

