-- ==== Sys2Proof/Machine/Ops.lean ====
section
/-! DEFINITION.
The named operations that every meaning uses: register fields, memory bytes, records of the running
configuration, ownership, free values and stamps. -/

namespace Sys2Proof.Machine

/-! ### Register fields -/

/-- The word of the register of field `f`. -/
def State.word (s : State) (f : Fld) : Word :=
  SMap.get 0#32 s.regs f.addr ^^^ BitVec.ofNat 32 f.rst

/-- The value of field `f`. -/
def State.get (s : State) (f : Fld) : Nat := field (s.word f).toNat f.lo f.w

/-- The mask of a field within its word. -/
def Fld.mask (f : Fld) : Word := BitVec.ofNat 32 ((2 ^ f.w - 1) <<< f.lo)

/-- The state with the register of `f` at the word `v`. -/
def State.putWord (s : State) (f : Fld) (v : Word) : State :=
  { s with regs := SMap.set 0#32 s.regs f.addr (v ^^^ BitVec.ofNat 32 f.rst) }

/-- The state with field `f` at `v`, taken modulo the field's width. -/
def State.put (s : State) (f : Fld) (v : Nat) : State :=
  s.putWord f ((s.word f &&& ~~~ f.mask) ||| (BitVec.ofNat 32 (v <<< f.lo) &&& f.mask))

/-- A field read as a flag. -/
def State.on (s : State) (f : Fld) : Bool := s.get f != 0

/-- A one-bit field written from a Bool. -/
def State.flag (s : State) (f : Fld) (b : Bool) : State := s.put f (b2n b)

/-- Bit `i` of a field. -/
def State.bit (s : State) (f : Fld) (i : Nat) : Bool := (s.get f).testBit i

/-- Bit `i` of a field set; the other bits stay. -/
def State.setB (s : State) (f : Fld) (i : Nat) : State := s.put f (setBit (s.get f) i)

/-- Bit `i` of a field cleared; the other bits stay. -/
def State.clrB (s : State) (f : Fld) (i : Nat) : State := s.put f (clrBit (s.get f) i)

/-- Bit `i` of a field written from a Bool. -/
def State.putB (s : State) (f : Fld) (i : Nat) (b : Bool) : State :=
  if b then s.setB f i else s.clrB f i

/-- A saturating counter field raised by `n`. -/
def State.addSat (s : State) (f : Fld) (n : Nat) : State :=
  s.put f (min (s.get f + n) (2 ^ f.w - 1))

/-- A saturating counter field raised by one. -/
def State.inc (s : State) (f : Fld) : State := s.addSat f 1

/-- A counter field raised by one, modulo its width. -/
def State.bump (s : State) (f : Fld) : State := s.put f (s.get f + 1)

/-- A field read as two's complement. -/
def State.getI (s : State) (f : Fld) : Int := signed f.w (s.get f)

/-- A field written from an integer, modulo its width. -/
def State.putI (s : State) (f : Fld) (i : Int) : State := s.put f (wrapInt f.w i)

/-- Apply `f` where `b` holds. -/
def State.when (s : State) (b : Bool) (f : State → State) : State := if b then f s else s

/-- Apply `f` for each element of a list, in order. -/
def State.forEach {α : Type} (l : List α) (f : α → State → State) (s : State) : State :=
  l.foldl (fun t a => f a t) s

/-! ### The register table -/

/-- Whether `off` is the place of some instance under the given counts and strides. -/
def inDims : List (Nat × Nat) → Nat → Bool
  | [], off => off == 0
  | (c, st) :: t, off => decide (off / st < c) && inDims t (off % st)

/-- Whether the register definition covers address `a`. -/
def RegDef.covers (r : RegDef) (a : Nat) : Bool := decide (r.base ≤ a) && inDims r.dims (a - r.base)

/-- The register at an address, if the tables list one. -/
def regAt (a : Nat) : Option RegDef := regTable.find? (fun r => r.covers a)

/-- The bits of a field definition within its word. -/
def FldDef.mask (f : FldDef) : Word := BitVec.ofNat 32 ((2 ^ f.w - 1) <<< f.lo)

/-- The union of the masks of the fields that satisfy `p`. -/
def RegDef.maskOf (r : RegDef) (p : FldDef → Bool) : Word :=
  r.fields.foldl (fun m f => if p f then m ||| f.mask else m) 0#32

/-- The always-on bits at an address (R5). -/
def aoMask (a : Nat) : Word :=
  match regAt a with
  | some r => r.maskOf (fun f => f.ao)
  | none => 0#32

/-- The bits that a block reset keeps at an address: BS fields and always-on fields (R183). -/
def bsMask (a : Nat) : Word :=
  match regAt a with
  | some r => r.maskOf (fun f => f.ao || decide (f.acc = Acc.bs))
  | none => 0#32

/-- The registers from `lo` up to `hi` (not included) at reset, BS and AO fields kept (R183). -/
def State.resetRegs (s : State) (lo hi : Nat) : State :=
  let keep : Nat → Word → Word := fun a v => if lo ≤ a ∧ a < hi then v &&& bsMask a else v
  { s with regs := SMap.mapDrop 0#32 keep s.regs }

/-! ### Memory -/

/-- One byte of shared SRAM or Reel local memory. -/
def State.byte (s : State) (a : Nat) : Byte := SMap.get 0#8 s.mem a

/-- `n` bytes from address `a` on. -/
def State.bytes (s : State) (a : Nat) : Nat → List Byte
  | 0 => []
  | n + 1 => s.byte a :: s.bytes (a + 1) n

/-- One byte written. -/
def State.putByte (s : State) (a : Nat) (b : Byte) : State := { s with mem := SMap.set 0#8 s.mem a b }

/-- Bytes written from address `a` on. -/
def State.putBytes (s : State) (a : Nat) : List Byte → State
  | [] => s
  | b :: t => (s.putByte a b).putBytes (a + 1) t

/-- The bytes from `lo` up to `hi` (not included) zeroed. -/
def State.zeroMem (s : State) (lo hi : Nat) : State :=
  let keep : Nat → Byte → Byte := fun a v => if lo ≤ a ∧ a < hi then 0#8 else v
  { s with mem := SMap.mapDrop 0#8 keep s.mem }

/-- `n` bytes of the NVM read window from window offset `a` (R222). -/
def nvmBytes (m : List Host.Cell) (a : Nat) : Nat → List Byte
  | 0 => []
  | n + 1 => SMap.get 0#8 m a :: nvmBytes m (a + 1) n

/-- Bytes stored in a cell list from `a` on. -/
def putCells (m : List Host.Cell) (a : Nat) : List Byte → List Host.Cell
  | [] => m
  | b :: t => putCells (SMap.set 0#8 m a b) (a + 1) t

/-- Bytes of the NVM written. -/
def State.putNvm (s : State) (a : Nat) (l : List Byte) : State := { s with nvm := putCells s.nvm a l }

/-- First address of a bank (R207). -/
def bankBase (n : Nat) : Nat := 0x10000000 + n * 0x40000
/-- First address of a Reel local memory (R207). -/
def rlmBase (n : Nat) : Nat := 0x11000000 + n * 0x10000
/-- Window offset of a logical page (R222). -/
def lpBase (n : Nat) : Nat := 0x188000 + n * 0x1000

/-! ### Free values, stamps, answers -/

/-- A free word, and the state in which the next one is another (the model's own counter). -/
def State.freeW (s : State) : Nat := (Config.freeWord s.free).toNat
def State.freeB (s : State) : Bool := Config.freeBool s.free
def State.took (s : State) (n : Nat) : State := { s with free := s.free + n }

/-- Steady time in ns (R397). -/
def State.now (s : State) : Nat := s.time.q / 4294967296 % 18446744073709551616

/-- The stamp of the present edge: bits [31:0] of steady time (R400). -/
def State.stamp (s : State) : Nat := s.now % 4294967296

/-- Traceable time in 2^-32 ns, none while INVALID (R404, R405). -/
def State.traceQ (s : State) : Option Int :=
  if s.time.state = .invalid then none else some ((s.time.q : Int) + s.time.ofs)

/-- Traceable time in ns, none while INVALID. -/
def State.trace (s : State) : Option Int := s.traceQ.map (fun i => i / 4294967296)

/-- The data answered to a read command. -/
def State.reply (s : State) (l : List Word) : State := { s with answer := l }

/-- A number answered as one word. -/
def State.reply1 (s : State) (n : Nat) : State := s.reply [BitVec.ofNat 32 n]

/-! ### The running configuration -/

/-- The records of table `n` of a section, empty where it is absent. -/
def cfgRecs (c : List Sect) (t : Tag) (n : Nat) : List (List Byte) :=
  match c.find? (fun x => decide (x.tag = t)) with
  | some x =>
    match x.tables.find? (fun y => y.num == n) with
    | some y => y.recs
    | none => []
  | none => []

def State.recs (s : State) (t : Tag) (n : Nat) : List (List Byte) := cfgRecs s.cfg t n

/-- The single record of a table, all zero where it is absent. -/
def State.rec1 (s : State) (t : Tag) (n : Nat) : List Byte := (s.recs t n).headD []

/-- Whether a section is present. -/
def cfgHas (c : List Sect) (t : Tag) : Bool := c.any (fun x => decide (x.tag = t))
def State.has (s : State) (t : Tag) : Bool := cfgHas s.cfg t

/-- The BAYS record of a bay. -/
def cfgBay (c : List Sect) (b : Nat) : Option (List Byte) :=
  (cfgRecs c .bays 0).find? (fun r => C.BAYS0.BAY r == b)
def State.bayRec (s : State) (b : Nat) : Option (List Byte) := cfgBay s.cfg b

/-- A field of the BAYS record of a bay, 0 without a record. -/
def State.bayFld (s : State) (b : Nat) (f : List Byte → Nat) : Nat :=
  match s.bayRec b with
  | some r => f r
  | none => 0

/-- The bay whose record satisfies `p`. -/
def cfgOwner (c : List Sect) (p : List Byte → Bool) : Option Nat :=
  match (cfgRecs c .bays 0).find? p with
  | some r => some (C.BAYS0.BAY r)
  | none => none

/-- The owner of a PERIPH resource (R57). -/
def State.ownPeriph (s : State) (i : Nat) : Option Nat :=
  cfgOwner s.cfg (fun r => (C.BAYS0.PERIPH r).testBit i)
/-- The owner of a bank. -/
def State.ownBank (s : State) (i : Nat) : Option Nat :=
  cfgOwner s.cfg (fun r => (C.BAYS0.BANKS r).testBit i)
/-- The engine that an engine serves for: the one the spare replaced (R301). -/
def State.servesFor (s : State) (i : Nat) : Nat :=
  if s.on R.REEL_SPARE.USED && s.get R.REEL_SPARE.ENGINE == i then s.get R.REEL_SPARE.REPLACED else i
/-- The owner of an engine; the spare joins the bay of the engine it replaced (R256). -/
def State.ownReel (s : State) (i : Nat) : Option Nat :=
  if s.on R.REEL_SPARE.USED && s.get R.REEL_SPARE.REPLACED == i then none
  else cfgOwner s.cfg (fun r => (C.BAYS0.REELS r).testBit (s.servesFor i))
/-- The owner of a core. -/
def State.ownCore (s : State) (i : Nat) : Option Nat :=
  cfgOwner s.cfg (fun r => (C.BAYS0.CORES r).testBit i)
/-- The bay whose IRQ mask holds a device line. -/
def State.ownLine (s : State) (i : Nat) : Option Nat :=
  cfgOwner s.cfg (fun r => (C.BAYS0.IRQ r).testBit i)
/-- The exclusive owner of a mailbox. -/
def State.ownMbx (s : State) (i : Nat) : Option Nat :=
  cfgOwner s.cfg (fun r => (C.BAYS0.MBX r).testBit i)
/-- The exclusive owner of a queue. -/
def State.ownQueue (s : State) (q : Nat) : Option Nat :=
  cfgOwner s.cfg (fun r => decide (C.BAYS0.QUEUE_BASE r ≤ q) &&
    decide (q < C.BAYS0.QUEUE_BASE r + C.BAYS0.QUEUE_COUNT r))
/-- The owner of a pin (R65). -/
def State.ownPin (s : State) (p : Nat) : Option Nat :=
  match (s.recs .pins 0).find? (fun r => C.PINS0.PIN r == p) with
  | some r => some (C.PINS0.BAY r)
  | none => none

/-- The grant record of a mailbox (kind 0) or queue (kind 1) (R58). -/
def State.grant (s : State) (kind n : Nat) : Option (List Byte) :=
  (s.recs .bays 1).find? (fun r => C.BAYS1.KIND r == kind && C.BAYS1.NUMBER r == n)

/-- Whether a grant is open (R151, R112). -/
def State.grantOpen (s : State) (kind n : Nat) : Bool :=
  match s.grant kind n with
  | some r => s.bay.released.testBit (C.BAYS1.BAY_A r) && s.bay.released.testBit (C.BAYS1.BAY_B r) &&
      !(s.bay.closedGrants.contains (kind, n))
  | none => false

/-- The binding record of a mailbox (R74). -/
def State.binding (s : State) (m : Nat) : Option (List Byte) :=
  (s.recs .link 4).find? (fun r => C.LINK4.MBX r == m)

/-- The bay that holds side `d` of mailbox `m` (R353); a bound side B is held by the link. -/
def State.mbxSide (s : State) (m d : Nat) : Option Nat :=
  match s.binding m with
  | some r => if d = 0 then some (C.LINK4.BAY r) else none
  | none =>
    match s.grant 0 m with
    | some r => some (if d = 0 then C.BAYS1.BAY_A r else C.BAYS1.BAY_B r)
    | none => s.ownMbx m

/-- The bay that holds end `e` of queue `q` (R365). -/
def State.queueEnd (s : State) (q e : Nat) : Option Nat :=
  match s.grant 1 q with
  | some r => some (if e = 0 then C.BAYS1.BAY_A r else C.BAYS1.BAY_B r)
  | none => s.ownQueue q

/-- Whether a grant involves a bay, and the other bay of it (R148 bit 9). -/
def State.peers (s : State) (b : Nat) : List Nat :=
  (s.recs .bays 1).filterMap (fun r =>
    if C.BAYS1.BAY_A r = b then some (C.BAYS1.BAY_B r)
    else if C.BAYS1.BAY_B r = b then some (C.BAYS1.BAY_A r) else none)

/-- Indices 0 .. n-1 that satisfy `p`. -/
def indices (n : Nat) (p : Nat → Bool) : List Nat := (List.range n).filter p

/-- The configured bays. -/
def State.bays (s : State) : List Nat := (s.recs .bays 0).map C.BAYS0.BAY

/-- The engines of a bay, after substitution. -/
def State.enginesOf (s : State) (b : Nat) : List Nat := indices 12 (fun i => s.ownReel i == some b)
/-- The cores of a bay. -/
def State.coresOf (s : State) (b : Nat) : List Nat := indices 4 (fun i => s.ownCore i == some b)
/-- The banks of a bay. -/
def State.banksOf (s : State) (b : Nat) : List Nat := indices 32 (fun i => s.ownBank i == some b)

/-- States of a bay (R152). -/
def bayNone : Nat := 0
def bayHeld : Nat := 1
def bayRunning : Nat := 2
def bayReset : Nat := 3
def bayStopped : Nat := 4

def State.bayState (s : State) (b : Nat) : Nat := s.get (R.BAYn_STATE.STATE b)

/-- Whether a bay is RUNNING. -/
def State.live (s : State) (b : Nat) : Bool := s.bayState b == bayRunning

/-- The IMGS record of the image that an engine serves (R67, R301). -/
def State.imgRec (s : State) (e : Nat) : Option (List Byte) :=
  (s.recs .imgs 0).find? (fun r => C.IMGS0.REEL r == s.servesFor e)

/-! ### Hidden parts updated in place -/

def State.modCore (s : State) (c : Nat) (f : Core → Core) : State :=
  { s with core := { s.core with cores := updAt s.core.cores c f } }
def State.coreAt (s : State) (c : Nat) : Core := s.core.cores.getD c Core.cold
def State.modEngine (s : State) (e : Nat) (f : Engine → Engine) : State :=
  { s with core := { s.core with engines := updAt s.core.engines e f } }
def State.engineAt (s : State) (e : Nat) : Engine := s.core.engines.getD e Engine.blank
def State.mbxQ (s : State) (m d : Nat) : MbxQ := SMap.get MbxQ.empty s.msg.mbx (2 * m + d)
def State.putMbx (s : State) (m d : Nat) (q : MbxQ) : State :=
  { s with msg := { s.msg with mbx := SMap.set MbxQ.empty s.msg.mbx (2 * m + d) q } }
def State.qEnd (s : State) (q e : Nat) : QEnd := SMap.get QEnd.empty s.msg.ends (2 * q + e)
def State.putEnd (s : State) (q e : Nat) (x : QEnd) : State :=
  { s with msg := { s.msg with ends := SMap.set QEnd.empty s.msg.ends (2 * q + e) x } }
def State.setPhase (s : State) (p : Phase) : State := { s with sys := { s.sys with phase := p } }

/-! ### Interrupts (R146, R148, R281) -/

/-- The pending and enabled bits of two registers, as a number. -/
def State.pendAnd (s : State) (p e : Fld) : Nat := ((s.word p) &&& (s.word e)).toNat

/-- Whether device interrupt line `l` is pending: its source block's pending and enabled bits (R146). -/
def State.line (s : State) (l : Nat) : Bool :=
  if l = 0 then s.pendAnd R.SYS_IRQ_PEND.LANE_UNLOCK R.SYS_IRQ_EN.EN != 0
  else if l = 1 then s.pendAnd R.FLT_IRQ_PEND.WAIT_FULL R.FLT_IRQ_EN.EN != 0
  else if l = 3 then s.pendAnd R.NVM_IRQ_PEND.PG_DONE R.NVM_IRQ_EN.EN != 0
  else if l = 4 then s.pendAnd R.TIME_IRQ_PEND.BACKSTEP R.TIME_IRQ_EN.EN != 0
  else if l = 5 then s.pendAnd R.HIF_IRQ_PEND.SPI_HDB R.HIF_IRQ_EN.EN &&& 0x3 != 0
  else if l = 6 then s.pendAnd R.HIF_IRQ_PEND.SPI_HDB R.HIF_IRQ_EN.EN &&& 0x1c != 0
  else if l = 7 then s.pendAnd R.HIF_IRQ_PEND.SPI_HDB R.HIF_IRQ_EN.EN &&& 0x20 != 0
  else if l = 8 then s.pendAnd R.SUP_IRQ_PEND.STATE_CHG R.SUP_IRQ_EN.EN != 0
  else if l = 9 then s.pendAnd R.CLP_IRQ_PEND.CMP R.CLP_IRQ_EN.EN != 0
  else if l = 10 then s.pendAnd R.CAP_IRQ_PEND.KEY_CHG R.CAP_IRQ_EN.EN != 0
  else if l = 11 then s.pendAnd R.TAG_IRQ_PEND.INV_DONE R.TAG_IRQ_EN.EN != 0
  else if 12 ≤ l ∧ l < 16 then s.pendAnd (R.ETHn_IRQ_PEND.LINK_CHG (l - 12)) (R.ETHn_IRQ_EN.EN (l - 12)) != 0
  else if 16 ≤ l ∧ l < 20 then s.pendAnd (R.CANn_IRQ_PEND.RX_FIFO (l - 16)) (R.CANn_IRQ_EN.EN (l - 16)) != 0
  else if 20 ≤ l ∧ l < 26 then s.pendAnd (R.SERn_IRQ_PEND.RX (l - 20)) (R.SERn_IRQ_EN.EN (l - 20)) != 0
  else if 26 ≤ l ∧ l < 28 then s.pendAnd (R.DRVn_IRQ_PEND.STARTED (l - 26)) (R.DRVn_IRQ_EN.EN (l - 26)) != 0
  else if 28 ≤ l ∧ l < 32 then s.pendAnd (R.ADCn_IRQ_PEND.SEQ_DONE (l - 28)) (R.ADCn_IRQ_EN.EN (l - 28)) != 0
  else if 32 ≤ l ∧ l < 40 then s.pendAnd (R.SDMn_IRQ_PEND.LATCH (l - 32)) (R.SDMn_IRQ_EN.EN (l - 32)) != 0
  else if 40 ≤ l ∧ l < 44 then s.pendAnd (R.QDRn_IRQ_PEND.CYCLE (l - 40)) (R.QDRn_IRQ_EN.EN (l - 40)) != 0
  else if l = 44 then s.pendAnd R.VDT_IRQ_PEND.LINK_CHG R.VDT_IRQ_EN.EN != 0
  else if l = 45 then s.pendAnd R.TRS_IRQ_PEND.TOPO_CHG R.TRS_IRQ_EN.EN != 0
  else if 46 ≤ l ∧ l < 54 then
    s.on (R.TEVn_CTRL.IRQ_EN (l - 46)) && (s.on (R.TEVn_STAT.FIRED (l - 46)) || s.on (R.TEVn_STAT.LATE (l - 46))
      || s.on (R.TEVn_STAT.MISSED (l - 46)) || s.on (R.TEVn_STAT.REPEATED (l - 46)))
  else if 54 ≤ l ∧ l < 62 then
    s.on (R.TCAPn_CTRL.IRQ_EN (l - 54)) && (s.on (R.TCAPn_STAT.COUNT (l - 54)) || s.on (R.TCAPn_STAT.OVR (l - 54)))
  else false

/-- Whether any mailbox side of a bay has bit `p` pending and enabled (R148 bits 0 and 1). -/
def State.mbxIrq (s : State) (b : Nat) (p e : Nat → Nat → Fld) : Bool :=
  (List.range 64).any (fun m => (List.range 2).any (fun d =>
    s.mbxSide m d == some b && s.on (p m d) && s.on (e m d)))

/-- Whether a local source of a bay is raised (R148). -/
def State.localBit (s : State) (b i : Nat) : Bool :=
  if i = 0 then s.mbxIrq b R.MBX_IRQ.DB R.MBX_IRQ.DB_EN
  else if i = 1 then s.mbxIrq b R.MBX_IRQ.EMPTY R.MBX_IRQ.EMPTY_EN
  else if i = 2 then (List.range 256).any (fun q => (List.range 2).any (fun e =>
    s.queueEnd q e == some b && s.on (R.QMGR_STAT.CPL_IRQ q e)))
  else if i = 3 then !(s.flt.notes.getD b []).isEmpty
  else if i = 4 then s.on (R.SUPn_NTF.CHG b)
  else if i = 5 then s.on (R.BAYn_LOC_PEND.WDT_WARN b)
  else if i = 6 then s.on (R.SECn_CMD_STAT.CPL_IRQ_EN b) && s.get (R.SECn_CPL_HEAD.HEAD b) != s.get (R.SECn_CPL_TAIL.TAIL b)
  else if i = 7 then s.bit R.TIME_HALFWRAP.PEND b
  else if i = 8 then (List.range 128).any (fun p =>
    s.ownPin p == some b && (s.get (R.GPIO_PENDk.PEND (p / 32))).testBit (p % 32))
  else if i = 9 then s.on (R.BAYn_LOC_PEND.GRANT_EVT b)
  else if i = 10 then (s.get (R.TRSn_REMOTE_PEND.CLAIM b) &&& s.get (R.TRSn_REMOTE_EN.EN b)) != 0
    || s.on (R.TRSn_SIRQ.PEND b)
  else if i = 11 then s.on (R.BAYn_LOC_PEND.ROLE b)
  else false

/-- Whether the bay external interrupt is raised at the cores of bay `b` (R281, R282). -/
def State.bayIrq (s : State) (b : Nat) : Bool :=
  s.live b &&
  ((List.range 62).any (fun l => s.ownLine l == some b && s.line l &&
      (if l < 32 then (s.get (R.BAYn_IRQ_EN_LO.EN b)).testBit l
       else (s.get (R.BAYn_IRQ_EN_HI.EN b)).testBit (l - 32)))
   || (List.range 12).any (fun i => s.localBit b i && (s.get (R.BAYn_LOC_EN.EN b)).testBit i))

/-- Whether any interrupt pends at a core: external, timer or software (R281). -/
def State.coreIrq (s : State) (c : Nat) : Bool :=
  (match s.ownCore c with
   | some b => s.bayIrq b && (s.get (R.BAYn_IRQ_CORE.CORES b)).testBit c
   | none => false)
  || decide ((s.coreAt c).mtimecmp ≤ s.now) || (s.coreAt c).msip

end Sys2Proof.Machine
end

