-- ==== Sys2Proof/Machine/PinOps.lean ====
section
/-! DEFINITION.
MPIO pins: functions, ownership of signals, park states and the commit sequence (R824 to R834). -/

namespace Sys2Proof.Machine

/-- The octets of R824: 0 Q0, 1 Q1, 2 H, 3 E2a, 4 E2b, 5 E3a, 6 E3b, 7 C, 8 S0, 9 S1, 10 S2, 11 T,
12 P, 13 D; the table of R825, block by block, functions 1 to 4. -/
def pinBlocks : List (List Nat) :=
  [[0, 7, 11, 8], [1, 12, 10, 13], [2, 7, 10, 11], [3, 8, 12, 13], [4, 10, 11, 7], [5, 9, 12, 2],
   [6, 13, 7, 8], [8, 11, 3, 9]] ++
  [[9, 12, 4, 7], [10, 13, 5, 11], [7, 8, 6, 12], [11, 9, 13, 10], [12, 2, 7, 8], [13, 3, 11, 9],
   [4, 10, 12, 7], [11, 12, 2, 13]]

/-- Whether an octet offers signal `i` (R824). -/
def octetHas (o i : Nat) : Bool :=
  if o = 1 then decide (i < 4) else if o = 4 ∨ o = 6 then decide (i < 7) else true

/-- The signal of pin `p` under function `f`: 8 × octet + index (R825). -/
def pinSignal (p f : Nat) : Option Nat :=
  if f = 0 ∨ 4 < f then none
  else
    let o := (pinBlocks.getD (p / 8) []).getD (f - 1) 99
    if octetHas o (p % 8) then some (8 * o + p % 8) else none

/-- The PERIPH resource that a signal belongs to (R826). -/
def signalPeriph (g : Nat) : Nat :=
  let o := g / 8
  let i := g % 8
  if o ≤ 2 then 5 else if o ≤ 4 then 12 else if o ≤ 6 then 13
  else if o = 7 then 14 + i / 2 else if o ≤ 10 then 18 + 2 * (o - 8) + i / 4
  else if o = 11 then 44 + i else if o = 12 then 52 + i else 24 + i / 4

/-- Whether PARK is legal: no pull with a driven level, no level 3, no pull 3 (R65, R832 reason 5). -/
def parkOk (k : Nat) : Bool :=
  let l := field k 0 2
  let u := field k 2 2
  l != 3 && u != 3 && (u == 0 || l == 2)

/-- The 16-bit configuration of a pin: FUNC, PARK, DRIVE, INPUT as PINp_ACTIVE holds them (R846). -/
def pinCfg (func park drive input : Nat) : Nat :=
  func % 16 + 16 * (park % 16) + 256 * (drive % 32) + 8192 * (input % 8)

def recPinCfg (r : List Byte) : Nat :=
  pinCfg (C.PINS0.FUNC r) (C.PINS0.PARK r) (C.PINS0.DRIVE r) (C.PINS0.INPUT r)

/-- The configuration of a pin without an owner: high-Z with a pull-down (R66, R92). -/
def freePinCfg : Nat := pinCfg 0 10 0 0

def State.pinActive (s : State) (p : Nat) : Nat := (s.word (R.PINp_ACTIVE.FUNC p)).toNat % 65536
def State.pinShadow (s : State) (p : Nat) : Nat := (s.word (R.PINp_SHADOW.FUNC p)).toNat % 65536

/-- The low 16 bits of a register replaced. -/
def State.putLow (s : State) (f : Fld) (v : Nat) : State :=
  s.putWord f ((s.word f &&& 0xFFFF0000#32) ||| (BitVec.ofNat 32 v &&& 0xFFFF#32))

/-- PEND shows whether the shadow differs from the active configuration (R846). -/
def State.syncPend (s : State) (p : Nat) : State :=
  s.flag (R.PINp_SHADOW.PEND p) (s.pinShadow p != s.pinActive p)

def State.setActive (s : State) (p c : Nat) : State := (s.putLow (R.PINp_ACTIVE.FUNC p) c).syncPend p
def State.setShadow (s : State) (p c : Nat) : State := (s.putLow (R.PINp_SHADOW.FUNC p) c).syncPend p

/-- The PINS record of a pin. -/
def State.pinRec (s : State) (p : Nat) : Option (List Byte) :=
  (s.recs .pins 0).find? (fun r => C.PINS0.PIN r == p)

/-- The configuration that the running configuration gives a pin. -/
def State.homePin (s : State) (p : Nat) : Nat :=
  match s.pinRec p with
  | some r => recPinCfg r
  | none => freePinCfg

def State.pinsOf (s : State) (b : Nat) : List Nat := (s.recs .pins 0).filterMap
  (fun r => if C.PINS0.BAY r = b then some (C.PINS0.PIN r) else none)

def State.dropMoves (s : State) (p : Nat) : State :=
  { s with pin := { s.pin with moves := s.pin.moves.filter (fun m => m.pin != p) } }

/-- A pin into its park state; a move in progress is dropped. -/
def State.parkPin (s : State) (p : Nat) : State := (s.dropMoves p).flag (R.PINp_ACTIVE.PARKED p) true

/-- A pin starts the commit sequence towards configuration `c` (R830 t0). -/
def State.movePin (s : State) (c p : Nat) : State :=
  if s.on (R.PINp_ACTIVE.FAULT p) then s
  else
    let old := s.get (R.PINp_ACTIVE.PARK p)
    let t := (s.dropMoves p).flag (R.PINp_ACTIVE.PARKED p) true
    { t with pin := { t.pin with moves := t.pin.moves ++ [⟨p, c, old⟩] } }

/-- Pins of a bay at t0 of its reset: parked at the park state of the record, shadow and active
configuration restored to it, no commit armed (R155, R833). -/
def State.parkBayPins (s : State) (b : Nat) : State :=
  ((s.forEach (s.pinsOf b) (fun p t =>
    ((t.setActive p (s.homePin p)).setShadow p (s.homePin p)).parkPin p)).put (R.PINb_COMMIT.ARMED b) 0)

/-- Pins of a bay that are in park pass to function by the commit sequence (R155 t4, R189, R192); one whose sequence
runs already goes on with it. -/
def State.unparkBayPins (s : State) (b : Nat) : State :=
  s.forEach (s.pinsOf b) (fun p t =>
    if t.on (R.PINp_ACTIVE.PARKED p) && !(t.pin.moves.any (fun m => m.pin == p)) then t.movePin (t.pinActive p) p else t)

/-- Every pin parked (R179, R193). -/
def State.parkAllPins (s : State) : State := s.forEach (List.range 128) (fun p t => t.parkPin p)

/-- Whether a signal is on a pin, in function now. -/
def State.signalPin (s : State) (g : Nat) : Option Nat :=
  (List.range 128).find? (fun p =>
    pinSignal p (s.get (R.PINp_ACTIVE.FUNC p)) == some g && !(s.on (R.PINp_ACTIVE.PARKED p)))

/-- Pins whose function belongs to a PERIPH resource. -/
def State.pinsOfPeriph (s : State) (i : Nat) : List Nat := indices 128 (fun p =>
  match pinSignal p (s.get (R.PINp_ACTIVE.FUNC p)) with
  | some g => signalPeriph g == i
  | none => false)

/-- Whether a monitored rail is low: 0 to 3 VDDIO_G0 to G3, 4 VDD_3V3, 5 VDDA_3V3 (R857). -/
def State.railIsLow (s : State) (k : Nat) : Bool := s.sys.railLow.testBit k

/-- The inactive level of an input signal (R826). -/
def inactiveLevel (g : Nat) : Bool :=
  let o := g / 8
  let i := g % 8
  (o == 7 && i % 2 == 1) || ((o == 8 || o == 9 || o == 10) && i % 2 == 1) || g == 17 || g == 23

/-- The level at an input signal: the filtered pad level, the last one through a park interval; its inactive level on no
pin, and while the pin's group has no supply (R826, R830, R857). -/
def State.signalIn (s : State) (g : Nat) : Bool :=
  match (List.range 128).find? (fun p => pinSignal p (s.get (R.PINp_ACTIVE.FUNC p)) == some g &&
      (!(s.on (R.PINp_ACTIVE.PARKED p)) || s.pin.moves.any (fun m => m.pin == p))) with
  | some p => if s.railIsLow (p / 32) then inactiveLevel g else s.on (R.PINp_ACTIVE.LEVEL p)
  | none => inactiveLevel g

/-- GPIO outputs take the OUT value in bank registers that `p` bits name. -/
def State.driveGpio (s : State) (p : Nat) : State :=
  let v := (s.get (R.GPIO_OUTk.OUT (p / 32))).testBit (p % 32)
  { s with pin := { s.pin with driven := if v then setBit s.pin.driven p else clrBit s.pin.driven p } }

/-- The level that a GPIO output drives, a shed included (R834). -/
def State.gpioLevel (s : State) (p : Nat) : Bool :=
  if s.pin.shed.testBit p then s.pin.shedLevel.testBit p else s.pin.driven.testBit p

/-- Whether an enabled wake pin is an MPIO pin in GPIO input; it stops being one at t0 of a commit of FUNC (R200, R830). -/
def State.isWakePin (s : State) (p : Nat) : Bool :=
  ((s.on R.SYS_WAKE_PIN.EN0 && s.get R.SYS_WAKE_PIN.PIN0 == p) ||
   (s.on R.SYS_WAKE_PIN.EN1 && s.get R.SYS_WAKE_PIN.PIN1 == p)) &&
  s.get (R.PINp_ACTIVE.FUNC p) == 0 && !(s.pin.moves.any (fun m => m.pin == p)) && !((s.get (R.GPIO_DIRk.DIR (p / 32))).testBit (p % 32))

end Sys2Proof.Machine
end

