-- ==== Sys2Proof/Machine/Role.lean ====
section
/-! DEFINITION.
Viaduct roles and generations, and the frames that wait for a lane (R556 to R572, R580, R584). -/

namespace Sys2Proof.Machine

/-! ### Lanes and connections -/

def State.modLink (s : State) (f : LinkPart → LinkPart) : State := { s with link := f s.link }
def State.modVdt (s : State) (f : VdtPart → VdtPart) : State := s.modLink (fun l => { l with vdt := f l.vdt })
def State.modTrs (s : State) (f : TrsPart → TrsPart) : State := s.modLink (fun l => { l with trs := f l.trs })
/-- LANE `l`, 2 to 5. -/
def State.laneAt (s : State) (l : Nat) : Lane := s.link.lanes.getD (l - 2) Lane.cold
def State.modLane (s : State) (l : Nat) (f : Lane → Lane) : State :=
  s.modLink (fun x => { x with lanes := updAt x.lanes (l - 2) f })
def State.hopAt (s : State) (h : Nat) : Hop := s.link.hops.getD h Hop.cold
def State.modHop (s : State) (h : Nat) (f : Hop → Hop) : State :=
  s.modLink (fun x => { x with hops := updAt x.hops h f })

/-- The sequenced connection of a lane: 0 Viaduct, 1 LANE4, 2 LANE5. -/
def hopOf (l : Nat) : Nat := if l < 4 then 0 else l - 3
def lanesOf (h : Nat) : List Nat := if h = 0 then [2, 3] else [h + 3]

/-- A frame put in a connection's queue of waiting frames. -/
def State.sendLater (s : State) (h : Nat) (f : LFrame) : State := s.modHop h (fun x => { x with waiting := x.waiting ++ [f] })

/-! ### Drive units at their off levels (R671, R672) -/

def State.drvAt (s : State) (n : Nat) : DrvUnit := s.ana.drv.getD n DrvUnit.cold
def State.modDrv (s : State) (n : Nat) (f : DrvUnit → DrvUnit) : State :=
  { s with ana := { s.ana with drv := updAt s.ana.drv n f } }

/-- Every gate at its off level (R671); GEN follows the state. -/
def Leg.off (now : Nat) (l : Leg) : Leg :=
  { val := none, hi := false, lo := false, hiAt := if l.hi then now else l.hiAt, loAt := if l.lo then now else l.loAt,
    dead := none, want := none }

def State.gatesOff (s : State) (n : Nat) : State :=
  s.modDrv n (fun x => { x with legs := x.legs.map (Leg.off s.now), sel := none, pulse := none, s1 := 0, s2 := 0 })

/-- BRK changed to a level, its on time counted (R675). -/
def State.brkTo (s : State) (n : Nat) (on : Bool) : State :=
  if s.on (R.DRVn_BRK_STAT.ON n) = on then s
  else
    (s.flag (R.DRVn_BRK_STAT.ON n) on).modDrv n (fun x =>
      { x with brkAt := s.now, brkOn := if on then x.brkOn else x.brkOn + (s.now - x.brkAt) })

/-- An interrupt bit of DRVn_IRQ_PEND by number (R688). -/
def State.drvIrq (s : State) (n bit : Nat) : State :=
  s.putWord (R.DRVn_IRQ_PEND.STARTED n) ((s.word (R.DRVn_IRQ_PEND.STARTED n)) ||| BitVec.ofNat 32 (1 <<< bit))

/-- A unit parks: every state but OFF parks (R672, R689): off levels, BRK included. -/
def State.parkDrv (s : State) (n : Nat) : State :=
  if s.get (R.DRVn_STATE.STATE n) = 0 ∨ s.get (R.DRVn_STATE.STATE n) = 9 then s
  else
    let s := ((s.gatesOff n).brkTo n false).put (R.DRVn_STATE.STATE n) 9
    (((s.flag (R.DRVn_KH.AVAIL n) false).flag (R.DRVn_KH.ACTIVE n) false).put (R.DRVn_VEC.SECTOR n) 0).drvIrq n 15

/-! ### Roles (R569 to R571, R582) -/

def State.roleOf (s : State) (b : Nat) : Nat := s.get (R.VDTn_ROLE.ROLE b)
def State.paired (s : State) (b : Nat) : Bool := s.on (R.VDTn_ROLE.PAIRED b)

/-- OWN_ACTIVE follows EN and the role of the named bay (R582). -/
def State.showOwn (s : State) : State :=
  s.flag R.VDT_STATUS.OWN_ACTIVE (s.on R.VDT_OWN.EN && s.roleOf (s.get R.VDT_OWN.BAY) == 2)

/-- Whether a bay is between the swap edge and the commit of a delta (R129). -/
def State.inDelta (s : State) (b : Nat) : Bool :=
  match s.sec.delta with
  | some d => d.bay == b && decide (d.phase = .swapped)
  | none => false

/-- A bay takes a role: CHANGES, ELIGIBLE, local bit 11, OWN_ACTIVE; a passive role parks its gate outputs, turns off its
RS-485 drivers and ends a bulk pass (R325, R570, R584). -/
def State.setRole (s : State) (b r : Nat) : State :=
  if s.roleOf b = r then s
  else
    let s := ((s.put (R.VDTn_ROLE.ROLE b) r).inc (R.VDTn_ROLE.CHANGES b)).flag (R.VDTn_ROLE.ELIGIBLE b) (r == 4 && !(s.inDelta b))
    let s := s.flag (R.BAYn_LOC_PEND.ROLE b) true
    let s := if r = 0 ∨ r = 2 then s else
      let s := s.forEach (indices 2 (fun n => s.ownPeriph (24 + n) == some b)) (fun n t => t.parkDrv n)
      let s := s.forEach (indices 6 (fun n => s.ownPeriph (18 + n) == some b)) (fun n t => t.flag (R.SERn_STATUS.DE n) false)
      s.modVdt (fun v => { v with bulk := updAt v.bulk b (fun _ => none) })
    s.showOwn

/-- FAB_CLK time, at 4 ns a cycle, of a receipt at own steady ns `t`. -/
def State.rawAt (s : State) (t : Nat) : Int := 4 * (s.time.edges : Int) - ((s.now : Int) - t)

/-- TIME_REF of this device: its SOURCE is not 3, or the partner's is 3 too and its PAIR_ID is 0 (R588).  A partner
whose SOURCE is not 3 shows TIME_REF itself. -/
def State.timeRef (s : State) : Bool :=
  s.get R.TIME_CFG2.SOURCE != 3 || (!(s.on R.VDT_STATUS.PAIR_ID) && !(s.link.vdt.pStatus.testBit 2))

/-- GEN + 1, and BAY_GEN of a bay set to it (R571). -/
def State.takeGen (s : State) (b : Nat) : State :=
  let s := s.bump R.VDT_GEN.GEN
  s.put (R.VDTn_BAY_GEN.GEN b) (s.get R.VDT_GEN.GEN)

/-- REGCRC of a bay: the CRC of its LINK table 1 records in ascending REGION order (R584). -/
def State.regCrc (s : State) (b : Nat) : Nat :=
  crc32c ((List.range 64).flatMap (fun r =>
    ((s.recs .link 1).filter (fun x => C.LINK1.BAY x == b && C.LINK1.REGION x == r)).flatten))

/-- A ROLE frame with its place in the order of R562: 1 CLAIM, 2 YIELD, 3 SYNCED, 4 RESYNC_REQ, 5 REFUSE (R557); one
that already waits is not repeated. -/
def State.rolePri (s : State) (b act pri : Nat) : State :=
  if (s.hopAt 0).waiting.any (fun f => f.ftype == 0x12 && f.b7 == b && beAt f.data 4 1 == act) then s
  else s.sendLater 0 ⟨0x12, 0, b, toBE 4 (s.get R.VDT_GEN.GEN) ++ toBE 1 act ++ List.replicate 3 0 ++
    toBE 4 (if act = 4 then s.regCrc b else 0) ++ List.replicate 4 0, pri⟩

/-- A ROLE frame in its place: YIELD and SYNCED follow the mirror records queued before them (R562, R580, R584). -/
def State.sendRole (s : State) (b act : Nat) : State := s.rolePri b act (if act = 2 then 5 else if act = 3 then 7 else 3)

/-- The lines of all regions of a bay, in ascending REGION and address order, with their regions (R584). -/
def State.mirrorLines (s : State) (b : Nat) : List (Nat × Nat) :=
  (List.range 64).flatMap (fun r =>
    ((s.recs .link 1).filter (fun x => C.LINK1.BAY x == b && C.LINK1.REGION x == r)).flatMap (fun x =>
      (List.range (C.LINK1.LEN x / 64)).map (fun k => (C.LINK1.BASE x + 64 * k, r))))

/-- Words of a line read with an uncorrectable error (R564). -/
def State.linePoison (s : State) (a : Nat) : Nat :=
  (List.range 8).foldl (fun m w => if s.memx.poison.contains (a + 8 * w) then setBit m w else m) 0

/-- A mirror record of a line (R564). -/
def State.mirrorFrame (s : State) (bulk : Bool) (b a r stamp : Nat) : LFrame :=
  ⟨if bulk then 0x11 else 0x10, 0, b,
   toBE 4 (s.get R.VDT_GEN.GEN) ++ toBE 5 a ++ toBE 1 r ++ toBE 1 (s.linePoison a) ++ [0] ++ toBE 4 stamp ++ s.bytes a 64,
   if bulk then 7 else 5⟩

/-- Every line of a bay's mirror queue sent (R563). -/
def State.flushMirror (s : State) (b : Nat) : State :=
  let s := s.forEach (s.link.vdt.mq.getD b []) (fun x t => t.sendLater 0 (t.mirrorFrame false b x.1 x.2.1 x.2.2))
  (s.modVdt (fun v => { v with mq := updAt v.mq b (fun _ => []) })).put (R.VDTn_MQ.FILL b) 0

/-- RESYNC_REQ of a SYNCING bay, unless it was refused under the same two CONFIG_IDs (R584). -/
def State.resyncAt (s : State) (b pri : Nat) : State :=
  if s.link.vdt.refused.contains (b, s.get R.SEC_CONFIG_ID.CONFIG_ID, s.get R.VDT_PARTNER_CFG.CONFIG_ID) then s
  else (s.put (R.VDTn_SYNC.LINES_LEFT b) (min 65535 (s.mirrorLines b).length)).rolePri b 4 pri

def State.resyncReq (s : State) (b : Nat) : State := s.resyncAt b 3

/-- A bay enters SYNCING (R584). -/
def State.enterSync (s : State) (b : Nat) : State := (s.setRole b 3).resyncReq b

/-- Whether the partner's bay is STANDBY and eligible. -/
def State.partnerReady (s : State) (b : Nat) : Bool := s.on R.VDT_STATUS.PARTNER && s.link.vdt.pStandby.testBit b

/-- An ACTIVE bay yields: SYNCING at once, then its queued records, YIELD and behind it RESYNC_REQ (R580, R582, R584). -/
def State.yieldBay (s : State) (b : Nat) : State :=
  let s := s.setRole b 3
  let s := (s.flushMirror b).sendRole b 2
  s.resyncAt b 5

/-- The role of a paired bay at t0 of its reset (R580, R596). -/
def State.roleReset (s : State) (b : Nat) : State :=
  if s.paired b && s.roleOf b == 2 && s.partnerReady b then s.yieldBay b else s

end Sys2Proof.Machine
end

