-- ==== Sys2Proof/Machine/Reset.lean ====
section
/-! DEFINITION.
Registering a bay reset (R153 to R155), and the device reset (R181, R183, R199). -/

namespace Sys2Proof.Machine

/-! ### Bay resets -/

/-- Partner bays of a bay's grants get local bit 9 and the peer bit of `f` (R155, R161). -/
def State.tellPeers (s : State) (b : Nat) (f : Nat → Fld) : State :=
  s.forEach (s.peers b) (fun m t => (t.flag (R.BAYn_LOC_PEND.GRANT_EVT m) true).setB (f m) b)

/-! ### Mailbox queues under a reset -/

/-- Words that a queue holds. -/
def MbxQ.words (q : MbxQ) : Nat := q.msgs.foldl (fun n m => n + m.length) 0 + q.opn.length

/-- The status words of both sides of a mailbox follow its queues (R388). -/
def State.showMbx (s : State) (m : Nat) : State :=
  s.forEach [0, 1] (fun d t =>
    let q := t.mbxQ m d
    let t := ((t.put (R.MBX_TX_STAT.WORDS m d) q.words).put (R.MBX_TX_STAT.MSGS m d) q.msgs.length).flag
      (R.MBX_TX_STAT.OPEN m d) q.isOpen
    let o := 1 - d
    let t := (t.put (R.MBX_RX_STAT.WORDS m o) q.words).put (R.MBX_RX_STAT.MSGS m o) q.msgs.length
    let t := t.put (R.MBX_RX_STAT.HEAD_LEN m o) (match q.msgs with | x :: _ => x.length + q.pos | [] => 0)
    t.put (R.MBX_RX_STAT.HEAD_POS m o) q.pos)

def State.setMbx (s : State) (m d : Nat) (q : MbxQ) : State := (s.putMbx m d q).showMbx m

/-- The status of a side's newest message (R359); a final status stays (R16). -/
def State.mbxStatus (s : State) (m d st res : Nat) : State :=
  (s.put (R.MBX_TX_MSG.STATUS m d) st).put (R.MBX_TX_MSG.RESULT m d) res

/-- A reset removes the messages of side `d`: a pending newest message ends with MBX_RESET (R359). -/
def State.mbxClear (s : State) (m d : Nat) : State :=
  let t := s.setMbx m d MbxQ.empty
  if s.on (R.MBX_TX_MSG.VALID m d) && s.get (R.MBX_TX_MSG.STATUS m d) == 0 then t.mbxStatus m d 3 0x0813 else t

/-- Both queues of every granted mailbox of a bay emptied (R156). -/
def State.emptyGrantedMbx (s : State) (b : Nat) : State :=
  s.forEach (s.recs .bays 1) (fun r t =>
    if C.BAYS1.KIND r = 0 ∧ (C.BAYS1.BAY_A r = b ∨ C.BAYS1.BAY_B r = b) then
      (t.mbxClear (C.BAYS1.NUMBER r) 0).mbxClear (C.BAYS1.NUMBER r) 1
    else t)

/-- The watchdog of a bay stopped (R155, R905). -/
def State.stopWdt (s : State) (b : Nat) : State :=
  { s with bay := { s.bay with wdt := updAt s.bay.wdt b (fun _ => 0) } }

/-- One TEV output updated. -/
def State.modTev (s : State) (n : Nat) (f : Tev → Tev) : State :=
  { s with time := { s.time with tev := updAt s.time.tev n f } }
def State.tevAt (s : State) (n : Nat) : Tev := s.time.tev.getD n Tev.cold

/-- The TEV outputs of a bay, as instance numbers. -/
def State.tevsOf (s : State) (b : Nat) : List Nat := indices 8 (fun n => s.ownPeriph (44 + n) == some b)
/-- The drive units of a bay. -/
def State.drvsOf (s : State) (b : Nat) : List Nat := indices 2 (fun n => s.ownPeriph (24 + n) == some b)

/-- Outputs of a bay into park at t0: owned pins, TEV outputs and gate outputs (R155, R429, R672). -/
def State.parkOutputs (s : State) (b : Nat) : State :=
  let s := s.forEach (s.drvsOf b) (fun n t => t.parkDrv n)
  (s.parkBayPins b).forEach (s.tevsOf b) (fun n t => t.modTev n (fun x => { x with pulse := false }))

/-- t0 of a bay reset (R155): state, cause and count; watchdog, pins, partners and granted mailboxes. -/
def State.enterReset (s : State) (b cause : Nat) : State :=
  let t := (s.put (R.BAYn_STATE.STATE b) bayReset).put (R.BAYn_STATE.LAST_CAUSE b) cause
  let t := (t.inc (R.BAYn_STATE.RESET_COUNT b)).stopWdt b
  let t := { t with bay := { t.bay with resetDone := clrBit t.bay.resetDone b } }
  ((((t.roleReset b).parkOutputs b).tellPeers b R.BAYn_GRANT_EVT.PEER_RESET).emptyGrantedMbx b)

/-- A bay reset source: taken in RUNNING and HELD, absorbed in RESET, ignored in STOPPED and NONE
(R153, R163, R905). -/
def State.registerReset (s : State) (b cause : Nat) : State :=
  if s.bayState b = bayRunning ∨ s.bayState b = bayHeld then s.enterReset b cause else s

/-! ### Device resets -/

/-- The volatile part of the state as every device reset leaves it (R183, R206): always-on registers
kept, the running configuration gone, every bay NONE. -/
def State.coldParts (s : State) : State :=
  let keep : Nat → Word → Word := fun a v => v &&& aoMask a
  { s with
    regs := SMap.mapDrop 0#32 keep s.regs
    cfg := []
    bay := BayPart.none
    sec := SecPart.cold s.sec.otp s.sec.slotA s.sec.slotB s.sec.bootOnce
    hif := HifPart.cold
    memx := MemPart.cold s.memx.pages
    flt := FltPart.cold
    core := CorePart.cold
    msg := MsgPart.cold
    time := TimePart.cold
    port := PortPart.cold
    link := LinkPart.cold
    ana := AnaPart.cold
    pin := PinPart.cold
    answer := [] }

/-- Whether the system PLL runs in a phase. -/
def pllOn : Phase → Bool
  | .zeroize => true
  | .run => true
  | .doze => true
  | .sleepDrain => true
  | .sleepParked => true
  | .offParked => true
  | _ => false

/-- A cause held in the always-on domain; further ones than four are counted in COUNT only (R204, R273). -/
def State.holdCause (s : State) (cause res detail : Nat) : State :=
  if s.sys.aoCauses.length < 4 then
    { s with sys := { s.sys with aoCauses := s.sys.aoCauses ++
        [{ cause := cause, res := res, detail := detail, stamp := 0, bay := 0, late := true }] } }
  else s

/-- A device reset other than power-on, with its bit of SYS_RESET_CAUSE, into phase `p` (R199, R206). -/
def State.resetInto (s : State) (bit : Fld) (p : Phase) : State :=
  let k := s.get R.SYS_CLK_STATUS.REF_KIND
  let t := ((s.flag bit true).inc R.SYS_RESET_CAUSE.COUNT).coldParts
  let t := ((t.put R.SYS_CLK_STATUS.REF_KIND k).put R.SYS_CLK_STATUS.REF_OK 1).flag
    R.SYS_CLK_STATUS.SYS_LOCK (pllOn p)
  { t with sys := { t.sys with phase := p, pwrEn := true, parked := true, wakeLeft := 0,
                               lanesIdle := true, wake := none, xtalOff := false, dozeNs := 0 } }

/-- A device reset: the PLL keeps running if locked (R183). -/
def State.deviceReset (s : State) (bit : Fld) : State :=
  s.resetInto bit (if pllOn s.sys.phase then .zeroize else .pllWait)

/-- A device reset by FLT, counted in the always-on domain over 60 s (R247, R248). -/
def State.fltReset (s : State) : State :=
  let y := if s.sys.fltResets = 0 ∨ s.sys.aoNs > s.sys.fltResetFirst + 60000000000
    then { s.sys with fltResets := 1, fltResetFirst := s.sys.aoNs }
    else { s.sys with fltResets := s.sys.fltResets + 1 }
  State.deviceReset { s with sys := y } R.SYS_RESET_CAUSE.FLT

/-- Held in reset by the always-on domain, every output parked (R179, R180). -/
def State.holdReset (s : State) (bit : Fld) : State := (s.resetInto bit .held).put R.SYS_CLK_STATUS.SYS_LOCK 0

end Sys2Proof.Machine
end

