-- ==== Sys2Proof/Machine/Flt.lean ====
section
/-! DEFINITION.
FLT: classes, reports, trackers, verdicts, repairs, log and notifications (chapter 07). -/

namespace Sys2Proof.Machine

/-! ### Cause lists (R267, R268) -/

def causesEvent : List Nat :=
  [0x0401, 0x0402, 0x0404, 0x0406, 0x0408, 0x0C05, 0x0C06, 0x1004, 0x1804, 0x1C01, 0x1C02, 0x1C03,
   0x1C04, 0x2003, 0x2004, 0x2403, 0x2405, 0x2801, 0x2804, 0x2805, 0x2806, 0x3403, 0x3404, 0x3405,
   0x3406, 0x3803, 0x3804, 0x3806, 0x3C01, 0x3C02, 0x3C03, 0x3C04, 0x3C05, 0x3C06, 0x3C08] ++
  [0x4001, 0x4401, 0x4402, 0x4403, 0x4404, 0x4405, 0x4801, 0x4802, 0x4803, 0x4C03, 0x4C05, 0x5003,
   0x5401, 0x5402, 0x5403, 0x5C01, 0x5C02, 0x5C03, 0x5801, 0x5802, 0x5804, 0x5806, 0x6003, 0x6404,
   0x6405, 0x6406, 0x6801]

def causesSoft : List Nat :=
  [0x0C01, 0x0C02, 0x0C03, 0x0C04, 0x1001, 0x1002, 0x1401, 0x1402, 0x1403, 0x180A, 0x1C06, 0x2001,
   0x2002, 0x2406, 0x2C02, 0x2C04, 0x3005, 0x3805, 0x4002]

def causesStore : List Nat :=
  [0x0802, 0x0C07, 0x0C08, 0x1003, 0x1404, 0x1405, 0x1C05, 0x2005, 0x2404, 0x2803, 0x3C09, 0x4C04,
   0x5404, 0x5805, 0x6002, 0x6401, 0x6402, 0x6403, 0x6803]

def causesRow : List Nat :=
  [0x0405, 0x1801, 0x1802, 0x1803, 0x1805, 0x1806, 0x1807, 0x1808, 0x1809]
def causesLoop : List Nat := [0x2401, 0x2802, 0x2C01]
def causesPrbs : List Nat := [0x0403, 0x2402, 0x3401, 0x3402, 0x3801, 0x3802, 0x5C04]
def causesEngine : List Nat := [0x3001, 0x3002, 0x3003, 0x3004, 0x5803]
def causesAnalog : List Nat := [0x0407, 0x4003, 0x6802]
def causesReadback : List Nat := [0x0801, 0x0803, 0x2C03, 0x3C07, 0x4406, 0x6C01]
def causesFront : List Nat := [0x4804, 0x4C01, 0x4C02, 0x5001, 0x5002]

/-- The class of a cause, numbered from the top of the table of R244: 0 EVENT, 1 SOFT, 2 ROW, 3 STORE,
4 LOOP, 5 PRBS, 6 ENGINE, 7 CORE, 8 ANALOG, 9 READBACK, 10 FRONT; none outside the cause lists. -/
def causeClass (c : Nat) : Option Nat :=
  if causesEvent.contains c then some 0 else if causesSoft.contains c then some 1
  else if causesRow.contains c then some 2 else if causesStore.contains c then some 3
  else if causesLoop.contains c then some 4 else if causesPrbs.contains c then some 5
  else if causesEngine.contains c then some 6 else if c = 0x6001 then some 7
  else if causesAnalog.contains c then some 8 else if causesReadback.contains c then some 9
  else if causesFront.contains c then some 10 else none

def classOf (c : Nat) : Nat := (causeClass c).getD 0

/-- Causes marked † (R247). -/
def causeDagger (c : Nat) : Bool := c == 0x1C05 || c == 0x5404 || c == 0x0C07 || c == 0x0C08

/-- Whether FLT runs a retest: by class (R244), except as the owning chapters give it (R268): the
checker comparison of blocked accesses (R164), the re-read of a rejected file, which Halvik makes before the
report (R131), and the write port's own rewrite, made before the report too (R906). -/
def needsRetest (c : Nat) : Bool :=
  if c = 0x0C01 ∨ c = 0x0C02 ∨ c = 0x0C03 ∨ c = 0x0C04 then true
  else if c = 0x6403 ∨ c = 0x5805 then false
  else decide (1 < classOf c)

/-! ### Trackers (R249 to R252) -/

/-- N and T of a cause, T in ns (R251, R274). -/
def State.policy (s : State) (c : Nat) : Nat × Nat :=
  let rs := s.recs .fltp 1
  match rs.find? (fun r => C.FLTP1.BLOCK r == c / 1024 && C.FLTP1.CAUSE r == c % 1024) with
  | some r => (C.FLTP1.N r, C.FLTP1.T r * 1000000)
  | none =>
    match rs.find? (fun r => C.FLTP1.BLOCK r == c / 1024 && C.FLTP1.CAUSE r == 0xFFFF) with
    | some r => (C.FLTP1.N r, C.FLTP1.T r * 1000000)
    | none =>
      match s.recs .fltp 0 with
      | r :: _ => (C.FLTP0.REC_N r, C.FLTP0.REC_T r * 1000000)
      | [] => (3, 1000000000)

/-- Whether FLTP REPAIR permits repair `i` (R245). -/
def State.permits (s : State) (i : Nat) : Bool := (C.FLTP0.REPAIR (s.rec1 .fltp 0)).testBit i

def isTracker (c r : Nat) (t : Tracker) : Bool := t.cause == c && t.res == r

/-- The least recently updated tracker's place in time. -/
def oldestUse (l : List Tracker) : Nat := l.foldl (fun m t => min m t.used) (l.headD ⟨0, 0, 0, 0, 0⟩).used

/-- A transient counted: the state, its count, whether it exceeds N, and whether a tracker was reused
(R249, R250, R252). -/
def State.count (s : State) (c r at_ : Nat) : State × Nat × Bool × Bool :=
  let (n, tw) := s.policy c
  let u := s.flt.uses + 1
  let ts := s.flt.trackers
  match ts.find? (isTracker c r) with
  | some t =>
    let k := if at_ ≤ t.opened + tw then t.count + 1 else 1
    let o := if at_ ≤ t.opened + tw then t.opened else at_
    let rest := ts.filter (fun x => !(isTracker c r x))
    if n < k then ({ s with flt := { s.flt with trackers := rest, uses := u } }, k, true, false)
    else ({ s with flt := { s.flt with trackers := rest ++ [⟨c, r, k, o, u⟩], uses := u } }, k, false, false)
  | none =>
    if n < 1 then (s, 1, true, false)
    else
      let full := decide (128 ≤ ts.length)
      let m := oldestUse ts
      let rest := if full then ts.filter (fun x => x.used != m) else ts
      ({ s with flt := { s.flt with trackers := rest ++ [⟨c, r, 1, at_, u⟩], uses := u } }, 1, false, full)

/-! ### Notifications (R264, R271) -/

/-- The NTF registers of a bay show the oldest notification (R271). -/
def State.showNote (s : State) (b : Nat) : State :=
  let q := s.flt.notes.getD b []
  let s := s.put (R.FLTn_NTF_STAT.COUNT b) q.length
  match q with
  | [] =>
    (((((s.put (R.FLTn_NTF_CODE.CAUSE b) 0).put (R.FLTn_NTF_CODE.VERDICT b) 0).put
      (R.FLTn_NTF_CODE.REPAIR b) 0).put (R.FLTn_NTF_RES.RESOURCE b) 0).put
      (R.FLTn_NTF_DETAIL.DETAIL b) 0).put (R.FLTn_NTF_STAMP.STAMP b) 0
      |>.put (R.FLTn_NTF_SEQ.SEQ b) 0xFFFFFFFF
  | x :: _ =>
    (((((s.put (R.FLTn_NTF_CODE.CAUSE b) x.cause).put (R.FLTn_NTF_CODE.VERDICT b) x.verdict).put
      (R.FLTn_NTF_CODE.REPAIR b) x.repair).put (R.FLTn_NTF_RES.RESOURCE b) x.res).put
      (R.FLTn_NTF_DETAIL.DETAIL b) x.detail).put (R.FLTn_NTF_STAMP.STAMP b) x.stamp
      |>.put (R.FLTn_NTF_SEQ.SEQ b) x.seq

/-- A notification placed in a bay's queue, or lost when it is full. -/
def State.pushNote (s : State) (b : Nat) (x : Note) : State :=
  let q := s.flt.notes.getD b []
  if q.length < (if b = 0 then 64 else 16) then
    State.showNote { s with flt := { s.flt with notes := updAt s.flt.notes b (fun l => l ++ [x]) } } b
  else (s.flag (R.FLTn_NTF_STAT.OVERFLOW b) true).inc (R.FLTn_NTF_STAT.LOST b)

/-- A verdict notified to the owning bay and to BAY0, once where they are the same (R264). -/
def State.notify (s : State) (b : Nat) (x : Note) : State :=
  let t := if b = 0 then s else s.pushNote b x
  t.pushNote 0 x

/-! ### Log (R259 to R263) -/

/-- The 28 bytes of a log entry under its CRC (R259). -/
def logBody (seq : Nat) (r : Report) (verdict repair traceS epoch count : Nat) : List Byte :=
  toLE 4 seq ++ toLE 2 r.cause ++ toLE 1 verdict ++ toLE 1 repair ++ toLE 4 r.res ++ toLE 4 r.detail ++
  toLE 4 (if r.late then 0 else r.stamp) ++ toLE 4 traceS ++ toLE 2 epoch ++ toLE 1 r.bay ++ toLE 1 count

/-- Traceable seconds [31:0] for the log, 0xFFFF_FFFF while INVALID (R259, R432). -/
def State.traceSec (s : State) : Nat :=
  match s.trace with
  | some i => wrapInt 32 (i / 1000000000)
  | none => 0xFFFFFFFF

/-- An entry written to the ring, or dropped with the bucket empty; answers its SEQ, 0xFFFF_FFFF where it
is not logged (R262, R271).  An entry that fails verification twice is not left readable (R263). -/
def State.logEntry (s : State) (r : Report) (verdict repair count : Nat) (written : Bool) : State × Nat :=
  let v := verdict % 4
  if v = 1 ∧ s.on R.FLT_POLICY.LOG = false then (s, 0xFFFFFFFF)
  else if s.flt.bucket = 0 then
    let t := if v = 1 then s.inc R.FLT_LOG_DROP.TRANSIENT else s.inc R.FLT_LOG_DROP.SEVERE
    (t.flag R.FLT_IRQ_PEND.LOG_DROP true, 0xFFFFFFFF)
  else
    let q := s.get R.FLT_LOG_SEQ.NEXT
    let body := logBody q r verdict repair s.traceSec (s.get R.TIME_STATUS.EPOCH) count
    let crc := crc32c body
    let t := { s with flt := { s.flt with bucket := s.flt.bucket - 1 } }
    let t := t.putNvm (0x180000 + 32 * (q % 1024))
      (body ++ toLE 4 (if written then crc else crc ^^^ 0xFFFFFFFF))
    (t.bump R.FLT_LOG_SEQ.NEXT, q)

/-! ### Repairs (R244 to R247, R256 to R258) -/

/-- Bay restart where REPAIR[3] permits it, else repair code `no` and nothing (R246, R260).  A resource without an owner
has no owning bay to restart (R242). -/
def State.orRestart (s : State) (b no : Nat) (owned : Bool := true) : State × Nat :=
  if s.permits 3 && owned then (s.registerReset b 5, 5) else (s, no)

/-- Commands that never completed leave the store, so that a retry runs (R350). -/
def dropPending (l : List ReplayOrigin) : List ReplayOrigin :=
  l.map (fun o => { o with entries := o.entries.filter (fun e => e.done.isSome) })

/-- The spare engine takes the place of engine `e` (R256, R257, R301): it joins the bay and loads the same image in its
turn (R91), with the image's replay store (R386). -/
def State.substitute (s : State) (e : Nat) : State :=
  let sp := s.get R.REEL_SPARE.ENGINE
  let x := s.engineAt e
  let t := (s.put (R.REELn_STATE.STATE e) 7).put (R.REELn_SUBST.ENGINE e) sp
  let t := (t.put R.REEL_SPARE.USED 1).put R.REEL_SPARE.REPLACED e
  let t := t.put R.REEL_RUN_SUM.RUNNING (clrBit (t.get R.REEL_RUN_SUM.RUNNING) e)
  let t := ((t.put (R.REELn_CFG.PORTS sp) (s.get (R.REELn_CFG.PORTS e))).put (R.REELn_CFG.CMD_MBX sp)
    (s.get (R.REELn_CFG.CMD_MBX e))).put (R.REELn_CFG.SOURCE sp) (s.get (R.REELn_CFG.SOURCE e))
  let t := (t.put (R.REELn_QUEUES.QBASE sp) (s.get (R.REELn_QUEUES.QBASE e))).put
    (R.REELn_QUEUES.QCOUNT sp) (s.get (R.REELn_QUEUES.QCOUNT e))
  let t := t.modEngine sp (fun y => { y with replay := dropPending x.replay, accepts := x.accepts })
  (t.modEngine e (fun y => { y with replay := [], accepts := 0 })).put (R.REELn_STATE.STATE sp) 2

/-- Whether a spare engine is left for engine `e`. -/
def State.spareLeft (s : State) (e : Nat) : Bool :=
  s.get R.REEL_SPARE.ENGINE != 15 && !(s.on R.REEL_SPARE.USED) && s.get R.REEL_SPARE.ENGINE != e

/-- An engine that keeps its place but stays held: LASTING without a spare (R297). -/
def State.retire (s : State) (e : Nat) : State :=
  (s.put (R.REELn_STATE.STATE e) 7).put R.REEL_RUN_SUM.RUNNING (clrBit (s.get R.REEL_RUN_SUM.RUNNING) e)

/-- Repair of an engine: the spare with REPAIR[1], otherwise the bay restart (R244, R246, R305). -/
def State.repairEngine (s : State) (e b : Nat) : State × Nat :=
  if s.permits 1 && s.spareLeft e then (s.substitute e, 3)
  else (s.retire e).orRestart b (if s.permits 1 then 9 else 8) (s.ownReel e).isSome

/-- Repair of an image load that failed twice: the spare with REPAIR[1]; otherwise the engine is LOAD_FAILED and its bay
stays held (R131, R297). -/
def State.repairLoad (s : State) (e : Nat) : State × Nat :=
  if s.permits 1 && s.spareLeft e then (s.substitute e, 3)
  else ((s.put (R.REELn_STATE.STATE e) 8).clrB R.REEL_RUN_SUM.RUNNING e, if s.permits 1 then 9 else 8)

/-- The row of a remap entry, none where it is not in use. -/
def State.remapRow (s : State) (bank k : Nat) : Option Nat :=
  let v := if k % 2 = 0 then s.on (R.MEMnn_REMAP.VALID0 bank (k / 2)) else s.on (R.MEMnn_REMAP.VALID1 bank (k / 2))
  let r := if k % 2 = 0 then s.get (R.MEMnn_REMAP.ROW0 bank (k / 2)) else s.get (R.MEMnn_REMAP.ROW1 bank (k / 2))
  if v then some r else none

def State.setRemap (s : State) (bank k row : Nat) : State :=
  if k % 2 = 0 then (s.put (R.MEMnn_REMAP.ROW0 bank (k / 2)) row).flag (R.MEMnn_REMAP.VALID0 bank (k / 2)) true
  else (s.put (R.MEMnn_REMAP.ROW1 bank (k / 2)) row).flag (R.MEMnn_REMAP.VALID1 bank (k / 2)) true

/-- A row moved to the next free spare whose read-back passes; `bad` spares fail it first (R219).  None
when no free spare is left (R220). -/
def State.remap (s : State) (bank row bad : Nat) : Option State :=
  let k := s.get (R.MEMnn_STAT.SPARES_USED bank)
  if 8 ≤ k + bad then none
  else
    let t := (s.put (R.MEMnn_STAT.SPARES_USED bank) (k + bad + 1)).setRemap bank (k + bad) row
    some { t with memx := { t.memx with lp0Due := t.memx.lp0Due ++ [(bank, row)] } }

/-- The lane that a PRBS report names: the lane itself, or DETAIL[3:0] of cause 0x2402. -/
def laneOf (r : Report) : Nat := if r.cause = 0x2402 then r.detail % 16 else r.res % 256

/-- A lane dropped to its next lower rate; none where it has none (R256, R501, R555). -/
def State.downgrade (s : State) (lane : Nat) : Option State :=
  if lane < 2 then
    if s.get (R.SYS_CLK_STATUS.LANE_ON) = 0 ∨ s.on (R.ETHn_STATUS.DOWNGRADED lane) ∨
        (field (C.SYS0.ETH_MODE (s.rec1 .sys 0)) (2 * lane) 2) ≠ 1 then none
    else some (s.flag (R.ETHn_STATUS.DOWNGRADED lane) true)
  else if lane < 4 then
    if (s.get R.VDT_STATUS.DOWNGRADED).testBit (lane - 2) then none
    else some (s.setB R.VDT_STATUS.DOWNGRADED (lane - 2))
  else if lane < 6 then
    if (s.get R.TRS_STATUS.DOWNGRADED).testBit (lane - 4) then none
    else some (s.setB R.TRS_STATUS.DOWNGRADED (lane - 4))
  else
    let k := s.get R.HIF_PCIE_STAT.RATE
    if k ≤ 1 then none else some ((s.put R.HIF_PCIE_STAT.RATE (k - 1)).flag R.HIF_PCIE_STAT.DOWNGRADED true)

/-- Whether a lane cause downgrades on this verdict: LASTING, or RECURRING by the class table (R244). -/
def State.repairLane (s : State) (r : Report) : State × Nat :=
  if s.permits 2 then
    match s.downgrade (laneOf r) with
    | some t =>
      ({ t with flt := { t.flt with waiting := t.flt.waiting ++ [⟨r.cause, r.res, [r], true⟩] } }, 4)
    | none => s.orRestart r.bay 9
  else s.orRestart r.bay 8

/-- Service limits on a LASTING verdict, by cause: port, channel or pin out of service, SUSPECT (R244). -/
def State.outOfService (s : State) (r : Report) : State :=
  let i := r.res % 256
  if r.cause = 0x2401 then s.flag (R.ETHn_STATUS.OUT_OF_SERVICE i) true
  else if r.cause = 0x2802 then s.flag (R.CANn_STATUS.OUT_OF_SERVICE i) true
  else if r.cause = 0x2C01 then s.flag (R.SERn_STATUS.OUT_OF_SERVICE i) true
  else if r.cause = 0x2C03 then
    ((s.flag (R.SERn_STATUS.OUT_OF_SERVICE i) true).parkPin (r.detail % 128)).flag (R.PINp_ACTIVE.FAULT (r.detail % 128)) true
  else if r.cause = 0x4003 then s.flag (R.ADCn_CTRL.DEGRADED i) true
  else if r.cause = 0x6802 then s.flag (R.SDMn_OVR.DEGRADED i) true
  else if r.cause = 0x0407 then s.flag R.SYS_CLK_STATUS.LPO_OK false
  else if r.cause = 0x4804 then
    ((s.flag (R.CLOn_STAT.OUT_OF_SERVICE i) true).put (R.CLOn_DAC.CODE i) 0).setB R.CLP_IRQ_PEND.OOS i
  else if r.cause = 0x4C01 ∨ r.cause = 0x4C02 then
    (if 0x40 ≤ i then s.flag (R.SNSn_STAT.OOS (i % 8)) true else s.flag (R.CAP_KEYk_STAT.OOS i) true)
  else if r.cause = 0x5001 ∨ r.cause = 0x5002 then s.flag R.TAG_ANT_STAT.READER_OOS true
  else if r.cause = 0x4406 then 
    (((s.setB R.SUP_STATE.UNAVAIL (r.detail % 8)).flag R.SUP_IRQ_PEND.GROUP_UNAVAIL true).parkPin i).flag (R.PINp_ACTIVE.FAULT i) true
  else if r.cause = 0x0801 ∨ r.cause = 0x0803 ∨ r.cause = 0x6C01 then
    (s.parkPin i).flag (R.PINp_ACTIVE.FAULT i) true
  else s

/-- Repair of a SRAM row with REPAIR[0], otherwise R246; no spare left sets NO_SPARE (R219, R220). -/
def State.repairRow (rep : State → Nat → Nat → Nat → State) (s : State) (r : Report) (bad : Nat) : State × Nat :=
  let bank := r.res % 256
  if s.permits 0 then
    match s.remap bank (r.res / 256) bad with
    | some t => (t, 1)
    | none =>
      let t := (s.put (R.MEMnn_STAT.SPARES_USED bank) 8).flag (R.MEMnn_STAT.NO_SPARE bank) true
      (rep t 0x1804 r.res 0).orRestart r.bay 9 (s.ownBank bank).isSome
  else s.orRestart r.bay 8 (s.ownBank bank).isSome

/-- Repair of an L2 line with REPAIR[0]: lock-out (R215); otherwise R246. -/
def State.repairLine (s : State) (r : Report) : State × Nat :=
  if s.permits 0 then
    ({ s.put R.MEM_L2_LOCKED.LINES (s.get R.MEM_L2_LOCKED.LINES + 1) with
       memx := { s.memx with l2Locked := s.memx.l2Locked ++ [r.res / 256] } }, 2)
  else s.orRestart r.bay 8

/-- Repair of a STORE cause: bay restart; an instance that a restart did not clear is held (R244). -/
def State.repairStore (s : State) (r : Report) : State × Nat :=
  if s.flt.restarted.contains (r.cause, r.res) then
    ({ s with flt := { s.flt with held := s.flt.held ++ [(r.cause, r.res)] } }, 7)
  else if s.permits 3 then
    let t := s.registerReset r.bay 5
    ({ t with flt := { t.flt with restarted := t.flt.restarted ++ [(r.cause, r.res)] } }, 5)
  else (s, 8)

/-- The repair of a verdict, 2 LASTING or 3 RECURRING, and its REPAIR code (R244 to R247, R268). -/
def State.repair (rep : State → Nat → Nat → Nat → State) (s : State) (r : Report) (v bad : Nat) : State × Nat :=
  let c := r.cause
  let cl := classOf c
  if v = 2 ∧ causeDagger c then (s.fltReset, 6)
  else if c = 0x0C07 ∨ c = 0x0C08 ∨ (c = 0x0403 ∧ v = 3) then (s, 0)
  else if cl = 1 then (if v = 3 then s.orRestart r.bay 8 else (s, 0))
  else if cl = 2 then
    if c = 0x1806 ∨ c = 0x1807 then s.repairEngine (r.res % 256) r.bay
    else if c = 0x1808 ∨ c = 0x1809 then s.repairLine r
    else s.repairRow rep r bad
  else if cl = 3 then
    (if c = 0x6401 ∨ c = 0x6402 ∨ c = 0x6403 ∨ c = 0x5805 then (s, 0) else s.repairStore r)
  else if cl = 5 then s.repairLane r
  else if c = 0x5803 ∧ v = 2 then s.repairLoad (r.res % 256)
  else if cl = 6 then s.repairEngine (r.res % 256) r.bay
  else if cl = 7 then
    ({ s with bay := { s.bay with coreHold := if v = 2 then setBit s.bay.coreHold r.bay else s.bay.coreHold } }, 0)
  else if cl = 4 ∨ cl = 8 ∨ cl = 9 ∨ cl = 10 then
    if v = 2 then (s.outOfService r, 7)
    else if c = 0x5001 ∧ r.res % 256 < 8 then (s.setB R.TAG_ANT_STAT.OOS (r.res % 256), 7)
    else (s, 0)
  else (s, 0)

/-! ### Verdicts (R249) -/

/-- The log byte of a verdict (R259). -/
def verdictByte (v : Nat) (notTested : Bool) (r : Report) : Nat :=
  v + 4 * b2n notTested + 8 * b2n r.injected + 16 * b2n r.late + 32 * b2n r.deferred

def State.countVerdict (s : State) (v : Nat) : State :=
  if v = 1 then s.inc R.FLT_CNT_TRANSIENT.COUNT
  else if v = 2 then s.inc R.FLT_CNT_LASTING.COUNT else s.inc R.FLT_CNT_RECURRING.COUNT

/-- How a retest ended: passed or not, spare rows whose read-back failed (R219), and the NVM verify of the
log entry, 0 good, 1 good after the rewrite, 2 failed twice (R263, R906). -/
structure RetestEnd where
  pass : Bool
  badSpares : Nat
  nvm : Nat
  deriving DecidableEq, Repr

/-- The engine whose bit-level unit drives SER channel `n` (R539). -/
def State.bitEngine (s : State) (n : Nat) : Option Nat :=
  (List.range 12).find? (fun e => s.get (R.REELn_BITIO.SER e) == n && (s.get (R.REELn_CFG.PORTS e)).testBit (8 + n))

/-- The injections of a cause and resource leave PENDING (R265, R270, R288). -/
def State.injectEnd (s : State) (c r : Nat) : State :=
  let mine := s.flt.injecting.filter (fun x => x.2 == (c, r))
  let s := { s with flt := { s.flt with injecting := s.flt.injecting.filter (fun x => x.2 != (c, r)) } }
  s.forEach mine (fun x t =>
    if x.1 = 4 then (t.put R.FLT_INJ_STAT.STATUS 1).flag R.FLT_IRQ_PEND.INJ_DONE true
    else t.modCore x.1 (fun y => { y with mfinjst := 1 }))

/-- The verdict of one report with its tracker, log entry, repair and notification (R249, R259, R264).
`rep` raises FLT's own causes; `joined` are further reports of the same cause that share the retest: they
take the same verdict, count in no tracker and carry the same SEQ (R253). -/
def State.judge (rep : State → Nat → Nat → Nat → State) (repL : State → Nat → Nat → Nat → State)
    (s : State) (e : RetestEnd) (notTested : Bool) (r : Report) (joined : List Report) : State :=
  let lasting := r.forced || !e.pass
  let (s1, cnt, beyond, reused) :=
    if lasting then
      (s, (match s.flt.trackers.find? (isTracker r.cause r.res) with | some t => t.count | none => 0), false, false)
    else s.count r.cause r.res r.stamp
  let v := if lasting then 2 else if beyond then 3 else 1
  let cnt := if beyond then 0 else cnt
  let s1 := s1.put R.FLT_TRK_USED.COUNT s1.flt.trackers.length
  let wait := match s1.sec.delta with | some d => d.bay == r.bay | none => false
  let (s2, code) := if v = 1 then (s1, 0) else s1.repair rep r v e.badSpares
  let dev := code == 6
  let s2 := if v = 1 ∨ dev then s1 else if wait then
    { s1 with flt := { s1.flt with later := s1.flt.later ++ [(r, v)] } } else s2
  let vb := verdictByte v notTested r
  let (s3, q) := s2.logEntry r vb code cnt (e.nvm != 2)
  let note : Report → Note := fun x => ⟨x.cause, vb, code, x.res, x.detail, x.stamp % 4294967296, q⟩
  let s3 := (s3.countVerdict v).notify r.bay (note r)
  let s3 := s3.forEach joined (fun x t => t.notify x.bay (note x))
  let s3 := if r.injected then s3.injectEnd r.cause r.res else s3
  let s4 := if reused then rep (s3.flag R.FLT_IRQ_PEND.TRK_REUSE true) 0x5402 0 0 else s3
  let off := 0x180000 + 32 * (q % 1024)
  let s5 := if e.nvm = 1 then rep s4 0x6403 0 off
    else if e.nvm = 2 then rep (repL s4 0x6403 0 off) 0x5403 0 off else s4
  let s6 := if v = 3 ∧ r.cause = 0x2C04 then rep s5 0x3004 ((s5.bitEngine (r.res % 256)).getD 0) r.detail else s5
  if dev then s6.fltReset else s6

/-! ### Reports (R241, R242, R253, R254) -/

/-- RUNNING and WAITING as FLT_STATUS shows them (R270). -/
def State.showRetests (s : State) : State :=
  (s.put R.FLT_STATUS.RUNNING s.flt.running.length).put R.FLT_STATUS.WAITING
    (s.flt.waiting.foldl (fun n x => n + x.reports.length) 0)

/-- Whether a retest is on the resource of a cause: same block and RESOURCE (R253). -/
def onResource (c r : Nat) (x : Retest) : Bool := x.cause / 1024 == c / 1024 && x.res == r

/-- Whether a retest of a class runs on a port, channel or lane, which is off its pins or out of service meanwhile (R244). -/
def State.portTest (s : State) (c i : Nat) : Bool := s.flt.running.any (fun x => x.cause == c && x.res % 256 == i)
def State.laneTest (s : State) (l : Nat) : Bool :=
  s.flt.running.any (fun x => classOf x.cause == 5 && x.reports.any (fun r => laneOf r == l))

/-- A report added to the retest that its resource waits for or runs; a stricter class registered on the
same edge takes over a waiting retest (R253, R272). -/
def joinRetest (r : Report) (x : Retest) : Retest :=
  if onResource r.cause r.res x then
    if x.again then x
    else
      { x with reports := x.reports ++ [r]
               cause := if classOf x.cause < classOf r.cause then r.cause else x.cause }
  else x

/-- The bay in whose name a report on an unowned resource stands (R242). -/
def ownerOr0 (o : Option Nat) : Nat := o.getD 0

/-- A report handled by FLT.  Fuel bounds FLT's own causes, which are EVENT causes with one tracker each
(R252, R254). -/
def State.reportN : Nat → State → Report → State
  | 0, s, _ => s
  | n + 1, s, r =>
    let own : State → Nat → Nat → Nat → State := fun t c res d =>
      t.reportN n { cause := c, res := res, detail := d, stamp := t.now, bay := 0 }
    let ownL : State → Nat → Nat → Nat → State := fun t c res d =>
      t.reportN n { cause := c, res := res, detail := d, stamp := t.now, bay := 0, forced := true }
    let r := { r with deferred := r.deferred || s.bayState r.bay == bayReset
                      injected := r.injected || s.flt.corrupt.contains (r.cause, r.res) }
    let s := { s with flt := { s.flt with corrupt := s.flt.corrupt.filter (fun x => x != (r.cause, r.res)) } }
    if causeClass r.cause = none then s
    else if classOf r.cause = 6 ∧ s.get (R.REELn_STATE.STATE (r.res % 256)) = 7 then s
    else
      let s := if r.cause = 0x6001 then s.registerReset r.bay 5 else s
      if needsRetest r.cause = false then s.judge own ownL ⟨true, 0, 0⟩ false r []
      else if (s.flt.running ++ s.flt.waiting).any (onResource r.cause r.res) then
        State.showRetests { s with flt := { s.flt with running := s.flt.running.map (joinRetest r)
                                                       waiting := s.flt.waiting.map (joinRetest r) } }
      else if 64 ≤ s.flt.waiting.foldl (fun k x => k + x.reports.length) 0 then
        let t := own (s.flag R.FLT_IRQ_PEND.WAIT_FULL true) 0x5401 0 0
        t.judge own ownL ⟨true, 0, 0⟩ true r []
      else State.showRetests
        { s with flt := { s.flt with waiting := s.flt.waiting ++ [⟨r.cause, r.res, [r], false⟩] } }

/-- A block reports an error: cause, RESOURCE, DETAIL, against a bay (R241, R242). -/
def State.report (s : State) (bay cause res detail : Nat) : State :=
  s.reportN 4 { cause := cause, res := res, detail := detail, stamp := s.now, bay := bay }

/-- A report whose retest has been made and failed: the second failure of a word write (R906). -/
def State.reportLasting (s : State) (bay cause res detail : Nat) : State :=
  s.reportN 4 { cause := cause, res := res, detail := detail, stamp := s.now, bay := bay, forced := true }

/-- The groups of reports of a finished retest: the first of each cause with those that join it. -/
def groupReports : List Report → List (Report × List Report)
  | [] => []
  | r :: t =>
    let g := groupReports t
    match g.find? (fun x => x.1.cause == r.cause) with
    | some x => (r, x.1 :: x.2) :: g.filter (fun y => y.1.cause != r.cause)
    | none => (r, []) :: g

/-- All verdicts of a finished retest. -/
def State.finishRetest (s : State) (x : Retest) (e : RetestEnd) (notTested : Bool) : State :=
  let own : State → Nat → Nat → Nat → State := fun t c res d => t.report 0 c res d
  let ownL : State → Nat → Nat → Nat → State := fun t c res d => t.reportLasting 0 c res d
  s.forEach (groupReports x.reports) (fun g t => t.judge own ownL e notTested g.1 g.2)

end Sys2Proof.Machine
end

