-- ==== Sys2Proof/Machine/Hart.lean ====
section
/-! DEFINITION.
Harts: their control and status registers, traps and returns (chapter 08, on the privileged specification
that R276 names). -/

namespace Sys2Proof.Machine

/-- Whether cores 2p and 2p + 1 form a lockstep pair (R61, R284). -/
def State.lockstep (s : State) (c : Nat) : Bool := (C.SYS0.CORE_MODE (s.rec1 .sys 0)).testBit (c / 2)

/-- The hart that a core belongs to: the even core of a lockstep pair (R286). -/
def State.hartOf (s : State) (c : Nat) : Nat := if s.lockstep c then c / 2 * 2 else c

/-- CSR addresses of the privileged specification that traps and returns use. -/
def csrMstatus : Nat := 0x300
def csrMedeleg : Nat := 0x302
def csrMideleg : Nat := 0x303
def csrMtvec : Nat := 0x305
def csrMepc : Nat := 0x341
def csrMcause : Nat := 0x342
def csrMtval : Nat := 0x343
def csrStvec : Nat := 0x105
def csrSepc : Nat := 0x141
def csrScause : Nat := 0x142
def csrStval : Nat := 0x143

def Core.csrGet (x : Core) (a : Nat) : Nat := (SMap.get 0#64 x.csr a).toNat
def Core.csrPut (x : Core) (a v : Nat) : Core := { x with csr := SMap.set 0#64 x.csr a (BitVec.ofNat 64 v) }

/-- Bits `lo .. lo+w-1` of `n` replaced by `v`. -/
def putBits (n lo w v : Nat) : Nat := andNot n ((2 ^ w - 1) <<< lo) ||| ((v % 2 ^ w) <<< lo)

/-- The address a trap goes to under a vector register: vectored for interrupts in mode 1. -/
def trapPc (tvec : Nat) (intr : Bool) (cause : Nat) : Nat :=
  tvec / 4 * 4 + (if intr ∧ tvec % 4 = 1 then 4 * cause else 0)

/-- A trap into M-mode, or into S-mode where it is delegated and taken from S- or U-mode. -/
def Core.trap (x : Core) (intr : Bool) (cause tval : Nat) : Core :=
  let code := cause + (if intr then 2 ^ 63 else 0)
  let st := x.csrGet csrMstatus
  if x.mode < 3 ∧ (x.csrGet (if intr then csrMideleg else csrMedeleg)).testBit cause then
    let x1 := ((x.csrPut csrSepc x.pc).csrPut csrScause code).csrPut csrStval tval
    let x2 := x1.csrPut csrMstatus (putBits (putBits (putBits st 5 1 (st / 2)) 1 1 0) 8 1 x.mode)
    { x2 with mode := 1, pc := trapPc (x.csrGet csrStvec) intr cause, wfi := false }
  else
    let x1 := ((x.csrPut csrMepc x.pc).csrPut csrMcause code).csrPut csrMtval tval
    let x2 := x1.csrPut csrMstatus (putBits (putBits (putBits st 7 1 (st / 8)) 3 1 0) 11 2 x.mode)
    { x2 with mode := 3, pc := trapPc (x.csrGet csrMtvec) intr cause, wfi := false }

/-- MRET and SRET. -/
def Core.mret (x : Core) : Core :=
  let st := x.csrGet csrMstatus
  let m := st / 2048 % 4
  let st1 := putBits (putBits (putBits st 3 1 (st / 128)) 7 1 1) 11 2 0
  { x.csrPut csrMstatus (if m = 3 then st1 else putBits st1 17 1 0) with mode := m, pc := x.csrGet csrMepc }

def Core.sret (x : Core) : Core :=
  let st := x.csrGet csrMstatus
  let m := st / 256 % 2
  let st1 := putBits (putBits (putBits (putBits st 1 1 (st / 32)) 5 1 1) 8 1 0) 17 1 0
  { x.csrPut csrMstatus st1 with mode := m, pc := x.csrGet csrSepc }

/-- An exception at a core's hart. -/
def State.coreFault (s : State) (c cause tval : Nat) : State := s.modCore (s.hartOf c) (fun x => x.trap false cause tval)

/-- The hart halts: dpc, and dcsr with its cause and mode; debug mode has the rights of M-mode (R289). -/
def State.haltHart (s : State) (c cause : Nat) : State :=
  s.modCore c (fun x =>
    let d := putBits (putBits (x.csrGet 0x7B0) 6 3 cause) 0 2 x.mode
    { (x.csrPut 0x7B1 x.pc).csrPut 0x7B0 d with halted := true, wfi := false, mode := 3 })

/-- Whether cores run: RUN, and a power entry before it stops them (R187, R189). -/
def State.coresRun (s : State) : Bool :=
  s.sys.phase == .run || s.sys.phase == .sleepDrain || s.sys.phase == .offParked

/-- Whether an access of a hart to another member is still out; its accesses there are ordered (R280, R610). -/
def State.coreWaits (s : State) (c : Nat) : Bool :=
  let mine := fun (u : TrsUse) => match u with
    | .access i _ _ (some _) => s.hartOf i.inst == c
    | _ => false
  s.link.trs.open_.any (fun r => mine r.use) || s.link.trs.queue.any (fun x => mine x.2.2)

/-- Whether a hart may retire an instruction: its bay RUNNING, not halted, not waiting in WFI or for another member (R277,
R289). -/
def State.hartRuns (s : State) (c : Nat) : Bool :=
  s.coresRun && (match s.ownCore c with | some b => s.live b | none => false) &&
  s.hartOf c == c && !((s.coreAt c).halted) && (!((s.coreAt c).wfi) || s.coreIrq c) && !(s.coreWaits c)

end Sys2Proof.Machine
end

