-- ==== Sys2Proof/Machine/Access.lean ====
section
/-! DEFINITION.
Who may act: bays that run, owners, and the record of a blocked access (R9, R138, R139, R155, R904). -/

namespace Sys2Proof.Machine

/-- The RESOURCE word of a blocked or unmapped access (R904). -/
def violRes (i : Init) (wr : Bool) : Nat := i.bay % 256 + 256 * (i.kind % 16) + 4096 * (i.inst % 16) + 65536 * b2n wr

/-- A blocked or unmapped access recorded in the bay's BAYn_VIOL registers and in BAY_VIOL_SUM, without its
report (R139, R161, R208). -/
def State.recordViol (s : State) (i : Init) (cause addr : Nat) (wr : Bool) : State :=
  let b := i.bay
  let s := s.setB R.BAY_VIOL_SUM.VIOL b
  let s :=
    if s.on (R.BAYn_VIOL.VALID b) then s
    else
      let s := (s.put (R.BAYn_VIOL.CAUSE b) cause).flag (R.BAYn_VIOL.VALID b) true
      let s := (s.put (R.BAYn_VIOL_ADDR_LO.ADDR b) addr).put (R.BAYn_VIOL_ADDR_HI.ADDR b) (addr / 4294967296)
      ((s.put (R.BAYn_VIOL_ADDR_HI.INIT b) i.kind).put (R.BAYn_VIOL_ADDR_HI.INST b) i.inst).flag
        (R.BAYn_VIOL_ADDR_HI.WRITE b) wr
  s.inc (R.BAYn_VIOL.COUNT b)

/-- An access recorded and reported against the initiating bay (R139). -/
def State.barred (s : State) (i : Init) (cause addr : Nat) (wr : Bool) : State :=
  (s.recordViol i cause addr wr).report i.bay cause (violRes i wr) (addr % 4294967296)

/-- The error that the initiator of a failed access receives (R138): a core an access fault, an image a bus error that it
handles when it next runs (R326), external debug an abstract command error.  What QMGR, Halvik and Trestle make of it
stands with them. -/
def State.busError (s : State) (i : Init) (wr : Bool) (addr : Nat) : State :=
  if i.kind = 0 then (if s.ownCore i.inst = some i.bay then s.coreFault i.inst (if wr then 7 else 5) addr else s)
  else if i.kind = 1 then
    (if s.get (R.REELn_STATE.STATE i.inst) = 5 then s.modEngine i.inst (fun x => { x with owed := x.owed ++ [addr] }) else s)
  else if i.kind = 4 then { s with core := { s.core with cmderr := if s.core.cmderr = 0 then 3 else s.core.cmderr } }
  else s

/-- A blocked access: no effect on the target, recorded and reported against the initiating bay, and an error to the
initiator (R138, R139). -/
def State.blocked (s : State) (i : Init) (cause addr : Nat) (wr : Bool) : State :=
  (s.barred i cause addr wr).busError i wr addr

/-- Whether an initiator is a bay of another member, whose request this member serves under a claim (R612): INIT 5 with
INST one more than its home position. -/
def fromAfar (i : Init) : Bool := i.kind == 5 && i.inst != 0

/-- Whether an initiator acts for bay `b` of this member. -/
def isBay (i : Init) (b : Nat) : Bool := !(fromAfar i) && i.bay == b

/-- An access by an initiator: a bay that does not run issues none (R155, R905); one that `ok` refuses is
blocked under `cause`; any other has effect `f`.  A request of another member that is refused is answered, not recorded
here (R612). -/
def State.act (s : State) (i : Init) (ok : Bool) (cause addr : Nat) (wr : Bool) (f : State → State) : State :=
  if fromAfar i then (if ok then f s else s)
  else if s.live i.bay then (if ok then f s else s.blocked i cause addr wr) else s

/-- The claims that this member holds for the bay behind a request of another member (R613, R615). -/
def State.claimsOf (s : State) (i : Init) : List TrsClaim :=
  s.link.trs.claims.filter (fun c => fromAfar i && c.home + 1 == i.inst && c.bay == i.bay)

/-- Whether an initiator's bay holds PERIPH resource `p`: owned in the running configuration, or claimed (R132, R615). -/
def State.holds (s : State) (i : Init) (p : Nat) : Bool :=
  if fromAfar i then (s.claimsOf i).any (fun c => c.res == p) else s.ownPeriph p == some i.bay

/-- Whether an initiator's bay holds pin `p`, by its configuration or by a claim (R65, R613). -/
def State.holdsPin (s : State) (i : Init) (p : Nat) : Bool :=
  if fromAfar i then (s.claimsOf i).any (fun c => decide (c.pinFirst ≤ p) && decide (p < c.pinFirst + c.pinCount))
  else s.ownPin p == some i.bay

/-- A write to a register of BAY0's (R9). -/
def State.byBay0 (s : State) (i : Init) (addr : Nat) (f : State → State) : State :=
  s.act i (isBay i 0) 0x0C02 addr true f

/-- A write to a register of the owner of PERIPH resource `p` (R9, R132).  While an engine to which the port
is attached runs, only that engine writes it, and other writes are ignored (R293). -/
def State.byOwner (s : State) (i : Init) (p addr : Nat) (f : State → State) : State :=
  s.act i (s.holds i p) 0x0C02 addr true f

/-- The engine that is RUNNING and attached to port index `k` (R67, R293). -/
def State.portEngine (s : State) (k : Nat) : Option Nat :=
  (List.range 12).find? (fun e =>
    s.get (R.REELn_STATE.STATE e) == 5 && (s.get (R.REELn_CFG.PORTS e)).testBit k)

/-- Whether a bay's role in a Viaduct pair makes its ports passive: any but SOLO and ACTIVE (R570). -/
def State.rolePassive (s : State) (b : Nat) : Bool :=
  s.get (R.VDTn_ROLE.ROLE b) != 0 && s.get (R.VDTn_ROLE.ROLE b) != 2

/-- Whether the port of index `k` is passive: by the role of its bay, or because images run that have it attached and
none of them is OPERATING (R324, R325, R570). -/
def State.portQuiet (s : State) (k : Nat) : Bool :=
  let l := indices 12 (fun e => s.get (R.REELn_STATE.STATE e) == 5 && (s.get (R.REELn_CFG.PORTS e)).testBit k)
  (match s.ownPeriph (10 + k) with | some b => s.rolePassive b | none => false) ||
  (!l.isEmpty && l.all (fun e => (s.engineAt e).imgState != 1))

/-- A write to a register of an attachable port (R293). -/
def State.byPort (s : State) (i : Init) (p k addr : Nat) (f : State → State) : State :=
  s.byOwner i p addr (fun t =>
    match t.portEngine k with
    | some e => if i.kind = 1 ∧ i.inst = e then f t else t
    | none => f t)

/-- A command without a fault or a refusal: its effect is a next state. -/
def answer (s : State) : Host.Outcome State Fault Refusal := .next s

end Sys2Proof.Machine
end

