-- ==== Sys2Proof/Machine/Replay.lean ====
section
/-! DEFINITION.
Replay windows of the command endpoints, Halvik and the images (R18, R381 to R386). -/

namespace Sys2Proof.Machine

/-- The fingerprint of a command: CRC-32C of word 0 and words 2 to LEN + 1 (R382). -/
def fingerprint (ws : List Word) : Nat :=
  crc32c ((ws.take 1 ++ ws.drop 2).flatMap (fun w => toLE 4 w.toNat))

/-- What the lookup of origin and tag gives (R383). -/
inductive Lookup where
  | fresh
  /-- A repeat of a final command, with its stored words. -/
  | stored (ws : List Word)
  | pending
  | reuse
  deriving DecidableEq, Repr

def lookup (l : List ReplayOrigin) (origin tag fp : Nat) : Lookup :=
  match l.find? (fun o => o.origin == origin) with
  | some o =>
    match o.entries.find? (fun e => e.tag == tag) with
    | some e => if e.fp ≠ fp then .reuse else match e.done with | some ws => .stored ws | none => .pending
    | none => .fresh
  | none => .fresh

/-- The origin whose latest accepted command is the oldest leaves a full store (R385). -/
def dropOldest (l : List ReplayOrigin) : List ReplayOrigin :=
  if l.length < 32 then l
  else
    let m := l.foldl (fun k o => min k o.last) (l.headD ⟨0, 0, []⟩).last
    l.filter (fun o => o.last != m)

/-- An accepted command enters its origin's window as acceptance number `n`; the window keeps 64 tags. -/
def acceptTag (l : List ReplayOrigin) (n origin tag op fp : Nat) : List ReplayOrigin :=
  let e : ReplayEntry := ⟨tag, op, fp, none, []⟩
  match l.find? (fun o => o.origin == origin) with
  | some o => ⟨origin, n, (e :: o.entries).take 64⟩ :: l.filter (fun x => x.origin != origin)
  | none => ⟨origin, n, [e]⟩ :: dropOldest l

/-- An entry of an origin's window changed. -/
def modEntry (l : List ReplayOrigin) (origin tag : Nat) (f : ReplayEntry → ReplayEntry) : List ReplayOrigin :=
  l.map (fun o => if o.origin = origin then
    { o with entries := o.entries.map (fun e => if e.tag = tag then f e else e) } else o)

/-- The channels whose repeats wait for the original's completion. -/
def repeatsOf (l : List ReplayOrigin) (origin tag : Nat) : List Nat :=
  match l.find? (fun o => o.origin == origin) with
  | some o => match o.entries.find? (fun e => e.tag == tag) with | some e => e.repeats | none => []
  | none => []

/-- Origins 0x0n00 to 0x0nFF removed (R386). -/
def dropBayOrigins (l : List ReplayOrigin) (b : Nat) : List ReplayOrigin := l.filter (fun o => o.origin / 256 != b)

/-- A stored completion as returned for a repeat: DUPLICATE set (R14, R383). -/
def asDuplicate : List Word → List Word
  | [] => []
  | w :: t => (w ||| 8#32) :: t

end Sys2Proof.Machine
end

