-- ==== Sys2Proof/Machine/TimeOps.lean ====
section
/-! DEFINITION.
TIME: the tick, the offset and its slew, the journal, corrections and time events (chapter 11). -/

namespace Sys2Proof.Machine

/-- 2^-32 ns per ns. -/
def qns : Int := 4294967296

/-- Bit codes of TSTATE (R405). -/
def TState.code : TState → Nat
  | .invalid => 0
  | .freerun => 1
  | .tracking => 2
  | .hold => 3

/-- The status fields that follow the time base (R425). -/
def State.showTime (s : State) : State :=
  ((s.put R.TIME_STATUS.TSTATE s.time.state.code).flag R.TIME_STATUS.SLEWING (s.time.slew != 0)).putI
    R.TIME_SLEW_LEFT.NS (s.time.slew.tdiv qns)

/-- ADJ in force. -/
def State.adj (s : State) : Int := s.getI R.TIME_RATE.ADJ

/-- Whether the five clock domains run. -/
def State.clocked (s : State) : Bool := pllOn s.sys.phase

/-- One FAB_CLK edge: steady time gains 4 ns and ADJ, the offset its share of the slew (R397, R407); the
always-on domain counts the time in every phase.  SLEWING stays until SLEW_END. -/
def State.timeTick (s : State) : State :=
  let s := { s with sys := { s.sys with aoNs := s.sys.aoNs + 4 } }
  if s.clocked then
    let inc : Int := 4 * qns + s.adj
    let gain : Nat := inc.toNat * s.get R.TIME_CFG2.SLEW_LIMIT + s.time.slewRem
    let most : Int := (gain / 1000000 : Nat)
    let part := clampInt (-most) most s.time.slew
    State.putI
      { s with time := { s.time with q := s.time.q + inc.toNat, dup := s.time.dup + inc.toNat,
                                     edges := s.time.edges + 1,
                                     ofs := s.time.ofs + part, slew := s.time.slew - part
                                     slewRem := gain % 1000000 } }
      R.TIME_SLEW_LEFT.NS ((s.time.slew - part).tdiv qns)
  else s

/-! ### Journal (R414, R415) -/

/-- The eight words of an entry. -/
def State.jrnWords (s : State) (kind seq : Nat) : List Nat :=
  let ofs := wrapInt 64 (s.time.ofs / qns)
  let frac := ((s.time.ofs % qns) / 65536).toNat
  let rate : Int := if s.time.slew = 0 then 0
    else if s.time.slew < 0 then -(1000 * (s.get R.TIME_CFG2.SLEW_LIMIT : Int)) else 1000 * (s.get R.TIME_CFG2.SLEW_LIMIT : Int)
  [s.now % 4294967296, s.now / 4294967296, ofs % 4294967296, ofs / 4294967296,
   frac + 65536 * s.get R.TIME_STATUS.EPOCH, kind + 256 * s.time.state.code + 65536 * seq,
   wrapInt 32 rate, wrapInt 32 (s.time.slew.tdiv qns)]

def State.putWords (s : State) (f : Nat → Fld) : Nat → List Nat → State
  | _, [] => s
  | k, w :: t => (s.put (f k) w).putWords f (k + 1) t

/-- A journal entry; none while traceable time is INVALID.  A second reason on one edge gives the entry the higher KIND. -/
def State.journal (s : State) (kind : Nat) : State :=
  if s.time.state = .invalid then s
  else
    let had := s.on R.TIME_JRN_HEAD.VALID
    let j := s.get R.TIME_JRN_HEAD.INDEX
    let same := had && s.get (R.TIME_JRNi.ENTRY j 0) + 4294967296 * s.get (R.TIME_JRNi.ENTRY j 1) == s.now
    let i := if same then j else if had then (j + 1) % 16 else 0
    let q := if same then s.get R.TIME_JRN_HEAD.SEQ else if had then (s.get R.TIME_JRN_HEAD.SEQ + 1) % 65536 else 0
    let k := if same then max kind (s.get (R.TIME_JRNi.ENTRY j 5) % 256) else kind
    let t := s.putWords (R.TIME_JRNi.ENTRY i) 0 (s.jrnWords k q)
    ((t.put R.TIME_JRN_HEAD.INDEX i).put R.TIME_JRN_HEAD.SEQ q).flag R.TIME_JRN_HEAD.VALID true

/-! ### Time events under a step (R418, R419) -/

/-- Target of a TEV as armed. -/
def State.tevTarget (s : State) (n : Nat) : Int :=
  (s.get (R.TEVn_TGT_LO.TGT n) : Int) + 4294967296 * (s.get (R.TEVn_TGT_HI.TGT n) : Int)

/-- The time of a TEV's base in ns; traceable time reads 0 while INVALID (R405). -/
def State.tevNow (s : State) (n : Nat) : Int :=
  if s.on (R.TEVn_CTRL.BASE n) then s.trace.getD 0 else (s.now : Int)

/-- The number of boundaries TGT + k × PERIOD, k ≥ 0, at or before `x`. -/
def boundariesTo (tgt per x : Int) : Int := if x < tgt then 0 else (x - tgt) / per + 1

/-- A fire: pulse, FIRED, LAST and EPOCH; once mode disarms, periodic mode goes to its next boundary.  A pulse in time is
placed on its boundary (R403, R417 to R419). -/
def State.tevFire (s : State) (n : Nat) (late : Bool) : State :=
  let at_ := (s.tevAt n).next
  let past : Nat := if late then 0 else (s.tevNow n - at_).toNat
  let s := (s.flag (R.TEVn_STAT.FIRED n) true).put (R.TEVn_LAST.STAMP n) ((s.now - past) % 4294967296)
  let s := s.put (R.TEVn_STAT.EPOCH n) (s.get R.TIME_STATUS.EPOCH)
  let pin := s.on (R.TEVn_CTRL.PIN n)
  let per : Int := s.get (R.TEVn_PERIOD.NS n)
  let nxt := if at_ + per ≤ s.tevNow n then
    s.tevTarget n + per * boundariesTo (s.tevTarget n) per (s.tevNow n) else at_ + per
  let s := s.modTev n (fun x => { x with pulse := x.pulse || pin, first := some (min at_ (x.first.getD at_)), next := nxt, late := false })
  let s := if s.on (R.TEVn_CTRL.PERIODIC n) then s else s.flag (R.TEVn_STAT.ARMED n) false
  if late then
    (s.flag (R.TEVn_STAT.LATE n) true).report (ownerOr0 (s.ownPeriph (44 + n))) 0x1C04 n 2
  else s

/-- One TEV after a step of traceable time from `old` to the present value. -/
def State.tevStep (old : Option Int) (n : Nat) (s : State) : State :=
  if s.on (R.TEVn_STAT.ARMED n) && s.on (R.TEVn_CTRL.BASE n) then
    match old, s.trace with
    | some t0, some t1 =>
      let tgt := s.tevTarget n
      if s.on (R.TEVn_CTRL.PERIODIC n) then
        let per : Int := s.get (R.TEVn_PERIOD.NS n)
        let was := (s.tevAt n).next
        let nxt := tgt + per * boundariesTo tgt per t1
        let again := max nxt ((s.tevAt n).first.getD was)
        let s := s.modTev n (fun x => { x with next := nxt })
        let b := ownerOr0 (s.ownPeriph (44 + n))
        if t0 < t1 ∧ was ≤ t1 then
          let c := min ((t1 - was) / per + 1).toNat 255
          ((s.flag (R.TEVn_STAT.MISSED n) true).put (R.TEVn_STAT.COUNT n) c).report b 0x1C04 n (1 + 256 * c)
        else if t1 < t0 ∧ again < was then
          let c := min ((was - again + per - 1) / per).toNat 255
          ((s.flag (R.TEVn_STAT.REPEATED n) true).put (R.TEVn_STAT.COUNT n) c).report b 0x1C04 n (3 + 256 * c)
        else s
      else if t0 < tgt ∧ tgt ≤ t1 then s.tevFire n true else s
    | _, _ => s
  else s

/-! ### Changes of the offset -/

/-- A step of OFFSET by `d` (2^-32 ns): any slew discarded, but not by the sleep adjustment; epoch + 1, journal, TEV
boundaries (R406, R413, R419, R429). -/
def State.stepOfs (s : State) (d : Int) (st : TState) (kind : Nat) : State :=
  let old := s.trace
  let s := { s with time := { s.time with ofs := s.time.ofs + d, slew := if kind = 6 then s.time.slew else 0, state := st } }
  let s := (s.bump R.TIME_STATUS.EPOCH).flag R.TIME_IRQ_PEND.STEPPED true
  (s.showTime.journal kind).forEach (List.range 8) (State.tevStep old)

/-- A slew of `d` ns, within ±(2^31 − 1), any slew in progress discarded (R407, R409). -/
def State.slewOfs (s : State) (d : Int) (st : TState) : State :=
  let a := clampInt (-2147483647) 2147483647 d * qns
  let t := State.showTime { s with time := { s.time with slew := a, slewRem := 0, state := st } }
  let t := if a = 0 then t.flag R.TIME_IRQ_PEND.SLEW_DONE true else t
  if s.time.slew = 0 ∧ a = 0 ∧ s.time.state = st then t else t.journal 2

/-- A new ADJ, applied at the nearest limit (R398, R399). -/
def State.setAdj (s : State) (v : Int) : State :=
  let a := clampInt (-8589934) 8589934 v
  let s := (s.putI R.TIME_RATE.ADJ a).putI R.TIME_SRV_RATE.ADJ a
  let s := s.flag R.TIME_STATUS.RATE_CLAMP (a == 8589934 || a == -8589934)
  if a = v then s else (s.flag R.TIME_IRQ_PEND.RATE_CLAMP true).report 0 0x1C02 0 (wrapInt 32 v)

/-- The newest correction of HOLD, the one that entered it included (R409, R426). -/
def State.holdCorr (s : State) (c : Int) : State :=
  (s.put R.TIME_HOLD_CORR_LO.CORR (wrapInt 32 c)).put R.TIME_HOLD_CORR_HI.CORR (wrapInt 64 c / 4294967296)

/-- A correction of `c` ns submitted (R409, R410). -/
def State.submitCorr (s : State) (c : Int) : State :=
  let s := { s.flag R.TIME_STATUS.SRC_OK true with time := { s.time with lastSub := s.now } }
  let th : Int := s.get R.TIME_CFG.STEP_THRESH
  let small := decide (-th ≤ c ∧ c ≤ th)
  match s.time.state with
  | .invalid =>
    let d := c * qns - (s.time.q : Int) - s.time.ofs
    (s.put R.TIME_SRV_LAST.ACTION 1).stepOfs d .tracking 5
  | .hold =>
    if small then (s.put R.TIME_SRV_LAST.ACTION 2).slewOfs c .tracking
    else
      (s.put R.TIME_SRV_LAST.ACTION 5).holdCorr c
  | _ =>
    if c < -th then
      let s := { (s.put R.TIME_SRV_LAST.ACTION 4).holdCorr c with time := { s.time with slew := 0, state := .hold } }
      let s := (s.showTime.flag R.TIME_IRQ_PEND.BACKSTEP true).journal 3
      s.report 0 0x1C01 0 (min (-c).toNat 0xFFFFFFFF)
    else if small || !(s.on R.TIME_CFG2.STEP_EN) then (s.put R.TIME_SRV_LAST.ACTION 2).slewOfs c .tracking
    else (s.put R.TIME_SRV_LAST.ACTION 3).stepOfs (c * qns) .tracking 4

/-- AMT as TIME_CMD takes it (R411). -/
def State.cmdAmt (s : State) : Int :=
  signed 64 (s.get R.TIME_CMD_AMT_LO.AMT + 4294967296 * s.get R.TIME_CMD_AMT_HI.AMT)

/-- TIME_CMD_STAT after a command: DONE with RESULT 0, FAILED with any other (R411). -/
def State.cmdStat (s : State) (r : Nat) : State :=
  (s.put R.TIME_CMD_STAT.STATUS (if r = 0 then 1 else 3)).put R.TIME_CMD_STAT.RESULT r

/-- The state that a command leaves (R411). -/
def State.afterCmd (s : State) : TState :=
  if s.time.state = .hold ∨ s.time.state = .invalid then
    (if s.on R.TIME_STATUS.SRC_OK then .tracking else .freerun)
  else s.time.state

/-- TIME_CMD with OP: 1 STEP, 2 SLEW, 3 SET, 0 never allowed; RESULT 3, then 1, then 2 (R411). -/
def State.timeCmd (s : State) (op : Nat) : State :=
  let a := s.cmdAmt
  if op = 0 then s.cmdStat 1
  else if 2 ≤ s.get R.TIME_CFG2.SOURCE then s.cmdStat 3
  else if (s.time.state = .invalid) ≠ (op = 3) then s.cmdStat 1
  else if op = 1 then
    if (s.time.q : Int) + s.time.ofs + a * qns < 0 then s.cmdStat 2
    else (s.stepOfs (a * qns) s.afterCmd 4).cmdStat 0
  else if op = 2 then
    if a < -2147483647 ∨ 2147483647 < a then s.cmdStat 2
    else (s.slewOfs a s.afterCmd).cmdStat 0
  else if a < 0 then s.cmdStat 2
  else (s.stepOfs (a * qns - (s.time.q : Int) - s.time.ofs) s.afterCmd 5).cmdStat 0

/-- The sleep adjustment on the wake edge (R413). -/
def State.sleepAdjust (s : State) : State :=
  if s.time.state = .invalid then s
  else
    let lpo : Int := s.get R.SYS_SLEEP_TIME.LPO
    let d : Int := if s.on R.SYS_LPO_CAL.VALID then
        lpo * (s.get R.SYS_LPO_CAL.REF_CYCLES : Int) * 40 * qns / 65536
      else lpo * 1000 * qns
    s.stepOfs d (if s.time.state = .hold then .hold else .freerun) 6

/-- ALIGNED set or cleared; a change sets its interrupt bit (R412, R427). -/
def State.setAligned (s : State) (v : Bool) : State :=
  if s.on R.TIME_STATUS.ALIGNED = v then s
  else (s.flag R.TIME_STATUS.ALIGNED v).flag R.TIME_IRQ_PEND.ALIGNED true

/-- Whether an initiator is the writer of the servo hooks (R408). -/
def State.hookWriter (s : State) (i : Init) : Bool :=
  let src := s.get R.TIME_CFG2.SOURCE
  if src = 0 then i.bay == 0 && i.kind == 0
  else if src = 1 then
    i.kind == 1 && s.servesFor i.inst == s.get R.TIME_CFG2.SOURCE_REEL &&
    s.get (R.REELn_STATE.STATE i.inst) == 5 && s.get (R.REELn_STATE.IMAGE_ID i.inst) == 0x0C
  else false

/-- TIME settings on the apply edge: BS fields, ADJ and the timeout's start (R71, R410, R422, R432). -/
def State.applyTime (s : State) : State :=
  let r := s.rec1 .time 0
  let d := s.has .time
  let s := s.put R.TIME_CFG.STEP_THRESH (if d then C.TIME0.STEP_THRESH r else 1000000)
  let s := s.put R.TIME_CFG2.STEP_EN (if d then C.TIME0.FLAGS r % 2 else 0)
  let s := s.put R.TIME_CFG2.SOURCE (if d then C.TIME0.SOURCE r else 0)
  let s := s.put R.TIME_CFG2.SOURCE_REEL (if d ∧ C.TIME0.SOURCE r = 1 then C.TIME0.SOURCE_REEL r else 15)
  let s := s.put R.TIME_CFG2.SLEW_LIMIT (if d then C.TIME0.SLEW_LIMIT r else 500)
  let trim : Int := if d then signed 32 (C.TIME0.RATE_TRIM r) else 0
  let adj := (2 * trim * 17179869184 + 1000000000) / 2000000000
  let s := s.setAdj adj
  { s with time := { s.time with lastSub := s.now } }

end Sys2Proof.Machine
end

