-- ==== Sys2Proof/Machine/MemOps.lean ====
section
/-! DEFINITION.
The address map and the accesses of initiators to memory (chapter 06). -/

namespace Sys2Proof.Machine

/-- What an address names (R207, R208, R843). -/
inductive Region where
  | bootRom
  | bank (n : Nat)
  | rlm (n : Nat)
  | nvm
  | xip
  | periph
  | member (m : Nat)
  | pcie
  | unmapped
  deriving DecidableEq, Repr

def regionOf (a : Nat) : Region :=
  if a < 0x10000 then .bootRom
  else if 0x10000000 ≤ a ∧ a < 0x10800000 then .bank ((a - 0x10000000) / 0x40000)
  else if 0x11000000 ≤ a ∧ a < 0x110C0000 then .rlm ((a - 0x11000000) / 0x10000)
  else if 0x18000000 ≤ a ∧ a < 0x18200000 then .nvm
  else if 0x20000000 ≤ a ∧ a < 0x30000000 then .xip
  else if 0x40000000 ≤ a ∧ a < 0x401E0000 then .periph
  else if 0x80000000 ≤ a ∧ a < 0xC0000000 then .member ((a - 0x80000000) / 0x8000000)
  else if 0x8000000000 ≤ a ∧ a < 0x8100000000 then .pcie
  else .unmapped

/-- The address that an offset of a member window reaches on its member; none where it reaches nothing (R611). -/
def windowAddr (o : Nat) : Option Nat :=
  if o < 0x800000 then some (0x10000000 + o)
  else if 0x4000000 ≤ o ∧ o < 0x41E0000 then some (0x40000000 + (o - 0x4000000))
  else none

/-- The cause of a buffer access that is refused at an address (R139, R164, R208). -/
def blockCause (a : Nat) : Nat :=
  match regionOf a with
  | .periph | .pcie => 0x0C02
  | .member _ => 0x0C04
  | .unmapped => 0x180A
  | _ => 0x0C01

/-- Bytes padded to whole blocks of a frame. -/
def padBlocks (d : List Byte) : List Byte := d ++ List.replicate ((8 - d.length % 8) % 8) 0

/-- Whether engine `e` lets another initiator of its bay write at local offset `o`: only WORK, while held
with its image loaded (R213). -/
def State.workWrite (s : State) (e o : Nat) : Bool :=
  let x := s.engineAt e
  let st := s.get (R.REELn_STATE.STATE e)
  x.loadLen != 0 && (st == 2 || st == 7 || st == 6) && decide (x.loadLen ≤ o) && decide (o < x.loadLen + x.work)

/-- The mirror region of a bay that holds an address (R563). -/
def State.mirrorAt (s : State) (b a : Nat) : Option Nat :=
  match (s.recs .link 1).find? (fun r => C.LINK1.BAY r == b && decide (C.LINK1.BASE r ≤ a) &&
      decide (a < C.LINK1.BASE r + C.LINK1.LEN r)) with
  | some r => some (C.LINK1.REGION r)
  | none => none

/-- Roles of a paired bay (R570). -/
def roleActive : Nat := 2
def State.role (s : State) (b : Nat) : Nat := s.get (R.VDTn_ROLE.ROLE b)

/-- Whether a write of a bay to an address is blocked because the address lies in a mirror region and the bay is
SYNCING, STANDBY or ORPHAN (R567). -/
def State.mirrorShut (s : State) (b a : Nat) : Bool := decide (3 ≤ s.role b) && (s.mirrorAt b a).isSome

/-- Whether a bay may reach one memory byte (R132, R134, R213). -/
def State.mayTouch (s : State) (b : Nat) (wr : Bool) (a : Nat) : Bool :=
  match regionOf a with
  | .bank n => s.ownBank n == some b && !(wr && s.mirrorShut b a)
  | .rlm n => s.ownReel n == some b && (!wr || s.workWrite n (a - rlmBase n))
  | .nvm => b == 0 && !wr
  | .xip => !wr && !(s.coresOf b).isEmpty
  | _ => false

/-- Whether a whole buffer may be reached: each 64-byte piece and the last byte. -/
def State.bufOk (s : State) (b : Nat) (wr : Bool) (a len : Nat) : Bool :=
  (List.range (len / 64 + 1)).all (fun k => s.mayTouch b wr (min (a + 64 * k) (a + len - 1))) &&
  s.mayTouch b wr (a + len - 1)

/-- The first byte of a buffer that may not be reached. -/
def State.bufFault (s : State) (b : Nat) (wr : Bool) (a len : Nat) : Nat :=
  match (List.range (len / 64 + 1)).find? (fun k => !(s.mayTouch b wr (min (a + 64 * k) (a + len - 1)))) with
  | some k => min (a + 64 * k) (a + len - 1)
  | none => a + len - 1

/-- Whether a buffer holds a poisoned word (R212). -/
def State.poisoned (s : State) (a len : Nat) : Bool :=
  s.memx.poison.any (fun w => decide (w < a + len) && decide (a < w + 8))

/-- A byte of the XIP window: the flash behind it (R844); a flash byte never placed reads 0xFF. -/
def State.flashByte (s : State) (o : Nat) : Byte := SMap.get 0xFF#8 s.flash o

def State.flashBytes (s : State) (o : Nat) : Nat → List Byte
  | 0 => []
  | n + 1 => s.flashByte o :: s.flashBytes (o + 1) n

/-- `n` bytes read from a memory region; the window above the logical pages reads 0 (R222). -/
def State.readMem (s : State) (a n : Nat) : List Byte :=
  match regionOf a with
  | .nvm => if a < 0x181C0000 then nvmBytes s.nvm (a - 0x18000000) n else List.replicate n 0
  | .xip => s.flashBytes (a - 0x20000000) n
  | _ => s.bytes a n

/-! ### Errors in memory words (R211 to R213) -/

/-- The first error of a bank since VALID was cleared (R234). -/
def State.lastErr (s : State) (bank off kind : Nat) : State :=
  if s.on (R.MEMnn_LAST_ERR.VALID bank) then s
  else ((s.put (R.MEMnn_LAST_ERR.OFFSET bank) off).put (R.MEMnn_LAST_ERR.KIND bank) kind).flag (R.MEMnn_LAST_ERR.VALID bank) true

/-- A read finds a single-bit error, 1, or an uncorrectable one, 2, in the 64-bit word at `a` (R211 to R213). -/
def State.eccFound (s : State) (a kind : Nat) : State :=
  let w := a / 8 * 8
  let s := if kind = 1 then { s with memx := { s.memx with writeback := if s.memx.writeback.contains w then s.memx.writeback else s.memx.writeback ++ [w] } }
    else { s with memx := { s.memx with poison := if s.memx.poison.contains w then s.memx.poison else s.memx.poison ++ [w] } }
  match regionOf w with
  | .bank n =>
    let off := w - bankBase n
    let res := n + 256 * (off / 128)
    let s := (if kind = 1 then s.inc (R.MEMnn_CE_COUNT.COUNT n) else (s.inc (R.MEMnn_UE_COUNT.COUNT n)).setB R.MEM_UE_SUM.BANK n).lastErr n off kind
    s.report (ownerOr0 (s.ownBank n)) (if kind = 1 then 0x1801 else 0x1802) res off
  | .rlm e =>
    let off := w - rlmBase e
    let s := if kind = 1 then s else s.setB R.MEM_RLM_UE.REEL e
    s.report (ownerOr0 (s.ownReel e)) (if kind = 1 then 0x1806 else 0x1807) (e + 256 * (off / 128)) off
  | _ => s

/-- The first poisoned word that a read of `n` bytes at `a` meets, found again (R212). -/
def State.poisonHit (s : State) (a n : Nat) : State :=
  match s.memx.poison.find? (fun w => decide (w < a + n) && decide (a < w + 8)) with
  | some w => s.eccFound w 2
  | none => s

/-- A poisoned word of which a write of `n` bytes at `a` covers only a part: the write is dropped there and faults as a read
would (R212). -/
def State.partHit (s : State) (a n : Nat) : State :=
  match s.memx.poison.find? (fun w => decide (w < a + n) && decide (a < w + 8) && !(decide (a ≤ w) && decide (w + 8 ≤ a + n))) with
  | some w => s.eccFound w 2
  | none => s

/-- Poison lifted from the words that a write covers whole (R212). -/
def State.unpoison (s : State) (a len : Nat) : State :=
  { s with memx := { s.memx with poison := s.memx.poison.filter (fun w => !(decide (a ≤ w) && decide (w + 8 ≤ a + len))) } }

/-- Bytes written to a bank or a local memory.  A part of a poisoned word is dropped (R212). -/
def State.writeMem (s : State) (a : Nat) : List Byte → State
  | [] => s
  | b :: t =>
    let s1 := if s.memx.poison.contains (a / 8 * 8) then s else s.putByte a b
    s1.writeMem (a + 1) t

/-! ### The row-test walk (R216, R218, R233) -/

/-- The row test in progress, as MEM_TEST_POS and the bank pages show it. -/
def State.setTest (s : State) (t : Option RowTest) : State :=
  let s := match s.memx.test with | some o => s.flag (R.MEMnn_STAT.TESTING o.bank) false | none => s
  let s := match t with | some n => s.flag (R.MEMnn_STAT.TESTING n.bank) true | none => s
  ({ s with memx := { s.memx with test := t } }).flag R.MEM_TEST_POS.ACTIVE t.isSome

/-- The first bank from `b` on whose MTEST is 1. -/
def State.testBank (s : State) (b : Nat) : Option Nat :=
  (List.range 32).find? (fun n => decide (b ≤ n) && s.on (R.MEMnn_CFG.MTEST n))

/-- The walk moves past a row; a return to the first bank completes a pass. -/
def State.walkOn (s : State) (bank row : Nat) : State :=
  if row < 2047 then (s.put R.MEM_TEST_POS.BANK bank).put R.MEM_TEST_POS.ROW (row + 1)
  else
    let s := s.put R.MEM_TEST_POS.ROW 0
    match s.testBank (bank + 1) with
    | some n => s.put R.MEM_TEST_POS.BANK n
    | none =>
      let s := (s.bump R.MEM_PASS_COUNT.COUNT).put R.MEM_PASS_TIME.US ((s.now - s.memx.passStart) / 1000)
      State.put { s with memx := { s.memx with passStart := s.now } } R.MEM_TEST_POS.BANK ((s.testBank 0).getD 0)

/-- A mirrored line queued; a line already queued is not queued again (R563).  Entries beyond the 32nd are writes
that wait for room (R568). -/
def State.mirrorLine (s : State) (line : Nat) : State :=
  match regionOf line with
  | .bank n =>
    match s.ownBank n with
    | none => s
    | some b =>
      match s.mirrorAt b line with
      | none => s
      | some r =>
        let q := s.link.vdt.mq.getD b []
        if s.role b != roleActive || s.get R.VDT_STATUS.LANE_UP == 0 || s.link.vdt.quiet || q.any (fun x => x.1 == line) then s
        else
          let q := q ++ [(line, r, s.stamp)]
          let s := { s with link := { s.link with vdt := { s.link.vdt with mq := updAt s.link.vdt.mq b (fun _ => q) } } }
          s.put (R.VDTn_MQ.FILL b) (min 32 q.length)
  | _ => s

/-- The lines that a write of `n` bytes touches are queued for the standby. -/
def State.capture (s : State) (a n : Nat) : State :=
  if n = 0 then s
  else s.forEach (List.range ((a + n - 1) / 64 - a / 64 + 1)) (fun k t => t.mirrorLine (64 * (a / 64 + k)))

/-- Whether a 64-byte line overlaps the `n` bytes at `a`. -/
def lineMeets (a n line : Nat) : Bool := decide (line < a + n) && decide (a < line + 64)

/-- What a write of `n` bytes at `a` does to the caches: dirty L2 lines are written back, reservations end (R279). -/
def State.snoop (s : State) (a n : Nat) : State :=
  { s with
    memx := { s.memx with dirty := s.memx.dirty.filter (fun d => !(lineMeets a n d.addr)) }
    core := { s.core with cores := s.core.cores.map (fun x =>
      match x.resv with | some r => if lineMeets a n r then { x with resv := none } else x | none => x) } }

/-- A buffer written: cached lines go first, full words lose their poison, mirrored lines are queued. -/
def State.writeBuf (s : State) (a : Nat) (l : List Byte) : State :=
  ((((s.partHit a l.length).snoop a l.length).unpoison a l.length).writeMem a l).capture a l.length

end Sys2Proof.Machine
end

