-- ==== Sys2Proof/Machine/Msg.lean ====
section
/-! DEFINITION.
Mailboxes and queues (chapter 10). -/

namespace Sys2Proof.Machine

/-! ### Mailboxes (R353 to R363) -/

/-- A new message becomes the newest of its side, PENDING (R359). -/
def State.newMsg (s : State) (m d : Nat) : State :=
  (s.mbxStatus m d 0 0).flag (R.MBX_TX_MSG.VALID m d) true

/-- A word appended by side `d`: TX_DATA, or TX_LAST when `last` (R354, R356). -/
def State.mbxPut (s : State) (m d : Nat) (w : Word) (last : Bool) : State :=
  let q := s.mbxQ m d
  if q.discard then (if last then s.setMbx m d { q with discard := false } else s)
  else
    let s := if q.isOpen then s else s.newMsg m d
    let q := if q.isOpen then q else { q with late := false }
    if 16 ≤ q.words then
      let t := (s.setMbx m d { q with opn := [], isOpen := false, discard := !last }).mbxStatus m d 3 0x0811
      (t.flag (R.MBX_TX_STAT.OVF m d) true).report (ownerOr0 (t.mbxSide m d)) 0x1001 m d
    else if last then s.setMbx m d { q with msgs := q.msgs ++ [q.opn ++ [w]], opn := [], isOpen := false, credit := true }
    else s.setMbx m d { q with opn := q.opn ++ [w], isOpen := true }

/-- EMPTY of the writing side set where its TX queue holds no word (R358). -/
def State.mbxEmptied (s : State) (m d : Nat) : State :=
  if (s.mbxQ m d).words = 0 then s.flag (R.MBX_IRQ.EMPTY m d) true else s

/-- A message of a bound mailbox has left: its doorbells come one place nearer. -/
def State.bellsDown (s : State) (m : Nat) : State :=
  { s with msg := { s.msg with bells := s.msg.bells.map (fun x => if x.1 = m then (m, x.2 - 1) else x) } }

/-- The oldest message of side `d` has left whole: DONE where it is the newest (R359, R360). -/
def State.mbxTaken (s : State) (m d : Nat) (q : MbxQ) : State :=
  let newest := q.msgs.length = 1 ∧ q.isOpen = false ∧ s.get (R.MBX_TX_MSG.STATUS m d) = 0
  let q' := { q with msgs := q.msgs.drop 1, pos := 0, sending := false }
  let t := (s.setMbx m d q').bellsDown m
  let t := if newest then t.mbxStatus m d (if q.late then 5 else 1) 0 else t
  t.mbxEmptied m d

/-- A pop by the reader of the queue that side `d` writes; answers the word (R355). -/
def State.mbxPop (s : State) (m d : Nat) : State × Word :=
  let q := s.mbxQ m d
  match q.msgs with
  | [] => (s, 0)
  | [] :: _ => (s, 0)
  | [w] :: _ => (s.mbxTaken m d q, w)
  | (w :: x) :: t => (s.setMbx m d { q with msgs := x :: t, pos := q.pos + 1 }, w)

/-- A doorbell of side `d` (R357); on a bound mailbox it is a record that waits behind its message (R361). -/
def State.mbxBell (s : State) (m d : Nat) : State :=
  let q := s.mbxQ m d
  if q.credit then
    let t := s.setMbx m d { q with credit := false }
    if (s.binding m).isSome then { t with msg := { t.msg with bells := t.msg.bells ++ [(m, q.msgs.length)] } }
    else t.flag (R.MBX_IRQ.DB m (1 - d)) true
  else s.report (ownerOr0 (s.mbxSide m d)) 0x1002 m d

/-- RECALL by side `d` (R360). -/
def State.mbxRecall (s : State) (m d : Nat) : State :=
  let q := s.mbxQ m d
  if s.on (R.MBX_TX_MSG.VALID m d) = false ∨ s.get (R.MBX_TX_MSG.STATUS m d) ≠ 0 then s
  else if q.isOpen then (s.setMbx m d { q with opn := [], isOpen := false }).mbxStatus m d 2 0
  else if q.msgs = [] then s
  else if q.msgs.length = 1 ∧ (q.pos ≠ 0 ∨ q.sending) then s.setMbx m d { q with late := true }
  else (s.setMbx m d { q with msgs := q.msgs.dropLast }).mbxStatus m d 2 0

/-- Whether a bay may use side `d` of mailbox `m`: it holds the side, and a grant is open (R149, R151, R353). -/
def State.mbxMay (s : State) (b m d : Nat) : Bool :=
  s.mbxSide m d == some b && ((s.grant 0 m).isNone || s.grantOpen 0 m)

/-- An access to a side's page. -/
def State.byMbx (s : State) (i : Init) (m d : Nat) (a : Fld) (wr : Bool) (f : State → State) : State :=
  s.act i (!(fromAfar i) && s.mbxMay i.bay m d) 0x0C03 a.addr wr f

/-- TX_DATA (R354, R356). -/
def execTxData (by_ : Init) (m d : Nat) (w : Word) (s : State) : Host.Outcome State Fault Refusal :=
  answer (s.byMbx by_ m d (R.MBX_TX_DATA.WORD m d) true (fun t => t.mbxPut m d w false))

/-- RECALL (R360). -/
def execRecall (by_ : Init) (m d : Nat) (s : State) : Host.Outcome State Fault Refusal :=
  answer (s.byMbx by_ m d (R.MBX_TX_CTRL.RECALL m d) true (fun t => t.mbxRecall m d))

/-- BOUND_MESSAGE_ACCEPT: the words of the record in transit leave the queue (R362). -/
def execBoundMessageAccept (m : Nat) (s : State) : Host.Outcome State Fault Refusal :=
  let q := s.mbxQ m 0
  answer (if (s.binding m).isSome && q.sending && !q.msgs.isEmpty then s.mbxTaken m 0 q else s)

/-- A record not accepted leaves the queue, FAILED with `res`; a refusal raises cause 0x1004 with DETAIL `why`,
0 for none (R363, R610). -/
def State.mbxRefused (s : State) (m res why : Nat) : State :=
  let q := s.mbxQ m 0
  if (s.binding m).isSome && q.sending && !q.msgs.isEmpty then
    let newest := q.msgs.length = 1 ∧ q.isOpen = false ∧ s.get (R.MBX_TX_MSG.STATUS m 0) = 0
    let t := (s.setMbx m 0 { q with msgs := q.msgs.drop 1, pos := 0, sending := false }).bellsDown m
    let t := if newest then t.mbxStatus m 0 3 res else t
    if why = 0 then t else t.report (ownerOr0 (t.mbxSide m 0)) 0x1004 m why
  else s

/-- BOUND_MESSAGE_REFUSED (R363, R394). -/
def execBoundMessageRefused (m why : Nat) (s : State) : Host.Outcome State Fault Refusal :=
  answer (s.mbxRefused m 0x0812 why)

/-! ### Queues (R365 to R378) -/

/-- Entries of an end's ring: 2^SIZE, other values of SIZE acting as 3 (R366, R390). -/
def State.ringSize (s : State) (q e : Nat) : Nat :=
  let k := s.get (R.QMGR_RING_HI.SIZE q e)
  2 ^ (if k < 3 ∨ 12 < k then 3 else k)

def State.ringBase (s : State) (q e : Nat) : Nat :=
  64 * s.get (R.QMGR_RING_LO.ADDR q e) + 4294967296 * s.get (R.QMGR_RING_HI.ADDR q e)

/-- Whether a claim covers a queue: a port queue of a claimed ETH port, or one that QBIND of a claimed CAN or SER instance
binds (R613). -/
def State.claimHasQueue (s : State) (c : TrsClaim) (q : Nat) : Bool :=
  if 10 ≤ c.res ∧ c.res < 14 then q / 24 == c.res - 10 && decide (q < 96)
  else if 14 ≤ c.res ∧ c.res < 18 then
    (s.on (R.CANn_QBIND.TXQ_EN (c.res - 14)) && s.get (R.CANn_QBIND.TXQ (c.res - 14)) == q) ||
    (s.on (R.CANn_QBIND.RXQ_EN (c.res - 14)) && s.get (R.CANn_QBIND.RXQ (c.res - 14)) == q)
  else if 18 ≤ c.res ∧ c.res < 24 then
    (s.on (R.SERn_QBIND.TXQ_EN (c.res - 18)) && s.get (R.SERn_QBIND.TXQ (c.res - 18)) == q) ||
    (s.on (R.SERn_QBIND.RXQ_EN (c.res - 18)) && s.get (R.SERn_QBIND.RXQ (c.res - 18)) == q)
  else false

/-- The claim under which an end of a queue of no local bay stands (R613, R615). -/
def State.claimOf (s : State) (q e : Nat) : Option TrsClaim :=
  if (s.queueEnd q e).isSome then none else s.link.trs.claims.find? (fun c => s.claimHasQueue c q)

/-- The initiator that QMGR is for an end: the holder's bay, and the queue group (R136, R161). -/
def State.qInit (s : State) (q e : Nat) : Init := ⟨ownerOr0 (s.queueEnd q e), 2, q / 16⟩

/-! ### Buffers and rings in member windows (R610, R611, R615) -/

/-- Where QMGR finds an address for an end: at a local address, in the window of another member under a HOME byte, or, for
a claimed queue outside its home's window, nowhere. -/
inductive Place where
  | here (a : Nat)
  | far (m off home : Nat)
  | nowhere

def State.place (s : State) (q e a : Nat) : Place :=
  match s.claimOf q e, regionOf a with
  | some c, .member m => if m = c.home then .far m (a % 0x8000000) (c.bay + 8 * c.home) else .nowhere
  | some _, _ => .nowhere
  | none, .member m =>
    if m = s.get R.TRS_STATUS.POS then .here ((windowAddr (a % 0x8000000)).getD 0xFFFFFFFF)
    else .far m (a % 0x8000000) (ownerOr0 (s.queueEnd q e) + 8 * s.get R.TRS_STATUS.POS)
  | none, _ => .here a

/-- The largest naturally aligned transfer of at most `n` bytes at an offset (R210). -/
def pieceAt (o n : Nat) : Nat := (([64, 32, 16, 8, 4, 2] : List Nat).find? (fun k => decide (k ≤ n) && o % k == 0)).getD 1

/-- A buffer of `n` bytes at an offset in transfers, as (place within the buffer, bytes). -/
def pieces (o n : Nat) : Nat → Nat → List (Nat × Nat)
  | 0, _ => []
  | fuel + 1, k => if n ≤ k then [] else (k, pieceAt (o + k) (n - k)) :: pieces o n fuel (k + pieceAt (o + k) (n - k))

/-- A request that leaves on the next edge. -/
def State.farQueue (s : State) (m ft home : Nat) (rest : List Byte) (u : TrsUse) : State :=
  { s with link := { s.link with trs := { s.link.trs with queue := s.link.trs.queue ++ [(m, ⟨ft, 0, home, rest, 7⟩, u)] } } }

/-- Reads of a buffer in a member window, each with its use. -/
def State.farRead (s : State) (m off home n : Nat) (u : Nat → TrsUse) : State :=
  s.forEach (pieces off n n 0) (fun x t => t.farQueue m 0x20 home (toBE 1 (Nat.log2 x.2) ++ toBE 4 (off + x.1)) (u x.1))

/-- Writes of a buffer in a member window. -/
def State.farWrite (s : State) (m off home : Nat) (l : List Byte) (u : TrsUse) : State :=
  s.forEach (pieces off l.length l.length 0) (fun x t =>
    t.farQueue m 0x22 home (toBE 1 (Nat.log2 x.2) ++ toBE 4 (off + x.1) ++ padBlocks (slice l x.1 x.2)) u)

/-- ETH_MODE of a port (R54); a downgraded lane runs 1000BASE-X (R501). -/
def State.ethMode (s : State) (n : Nat) : Nat :=
  let m := field (C.SYS0.ETH_MODE (s.rec1 .sys 0)) (2 * n) 2
  if s.on (R.ETHn_STATUS.DOWNGRADED n) && m == 1 && decide (n < 2) then 2 else m

/-- A parameter of the image of IMGS record `r`, as the configuration gives it (R321). -/
def State.cfgParam (s : State) (r : List Byte) (pid dflt : Nat) : Nat :=
  match (s.recs .imgs 1).find? (fun x => C.IMGS1.REEL x == C.IMGS0.REEL r && C.IMGS1.PARAM_ID x == pid) with
  | some x => C.IMGS1.VALUE x
  | none => dflt

/-- The end of its queue that an image holds, by the queue's place in its range: OUT, IN, REQ, RSP, CFG (R318, R365). -/
def imgEnd (k : Nat) : Nat := if k = 1 ∨ k = 2 then 0 else 1

/-- Whether an image holds that end of queue `k` of its range: of the CFG queue only with CFG_SRC 0 (R318). -/
def State.imgHolds (s : State) (r : List Byte) (k : Nat) : Bool :=
  decide (k < 4) || (k == 4 && (s.recs .imgs 1).any (fun x =>
    C.IMGS1.REEL x == C.IMGS0.REEL r && C.IMGS1.PARAM_ID x == 3 && C.IMGS1.VALUE x == 0))

/-- Whether the image of record `r` holds end `e` of queue `q`: of its own range, or of a port queue that its ETH_TXQ or
ETH_RXQ names (R318, R328, R470). -/
def State.imgHasEnd (s : State) (r : List Byte) (q e : Nat) : Bool :=
  let b := C.IMGS0.QBASE r
  (decide (b ≤ q) && decide (q < b + C.IMGS0.QCOUNT r) && e == imgEnd (q - b) && s.imgHolds r (q - b)) ||
  (decide (q < 96) && (C.IMGS0.PORTS r).testBit (q / 24) && s.ethMode (q / 24) != 0 &&
    (if q % 24 < 8 then e == 0 && (s.cfgParam r 0x10 0xFF).testBit (q % 24)
     else e == 1 && (s.cfgParam r 0x11 0xFFFF).testBit (q % 24 - 8)))

/-- The engine of the record that holds an end, as its image's number in the configuration. -/
def State.imgOfEnd (s : State) (q e : Nat) : Option Nat :=
  ((s.recs .imgs 0).find? (fun r => s.imgHasEnd r q e)).map C.IMGS0.REEL

/-- Whether a port function holds an end: the MAC of an enabled port, or the function that QBIND binds it to (R470, R530,
R708, R715, R813). -/
def State.portHolds (s : State) (q e : Nat) : Bool :=
  let ethQ := decide (q < 96) && s.ethMode (q / 24) != 0
  if e = 1 then
    (ethQ && decide (q % 24 < 8)) ||
    (List.range 4).any (fun n => s.on (R.CANn_QBIND.TXQ_EN n) && s.get (R.CANn_QBIND.TXQ n) == q) ||
    (List.range 6).any (fun n => s.on (R.SERn_QBIND.TXQ_EN n) && s.get (R.SERn_QBIND.TXQ n) == q)
  else
    (ethQ && decide (8 ≤ q % 24)) ||
    (List.range 4).any (fun n => s.on (R.CANn_QBIND.RXQ_EN n) && s.get (R.CANn_QBIND.RXQ n) == q) ||
    (List.range 6).any (fun n => s.on (R.SERn_QBIND.RXQ_EN n) && s.get (R.SERn_QBIND.RXQ n) == q) ||
    (List.range 4).any (fun n => s.on (R.ADCn_QBIND.QEN n) && s.get (R.ADCn_QBIND.QUEUE n) == q) ||
    (List.range 8).any (fun n => s.on (R.SDMn_QBIND.QEN n) && s.get (R.SDMn_QBIND.QUEUE n) == q) ||
    (s.on R.TAG_QBIND.QEN && s.get R.TAG_QBIND.QUEUE == q)

/-- What holds an end, as QMGR_STAT.AGENT reads: 0 software, 1 engine, 2 port function, 3 Viaduct (R365, R585). -/
def State.agent (s : State) (q e : Nat) : Nat :=
  if (List.range 8).any (fun b => s.on (R.VDTn_BULKQ.EN b) && s.get (R.VDTn_BULKQ.QUEUE b) == q &&
      s.ownQueue q == some b && (s.grant 1 q).isNone) then 3
  else if s.portHolds q e then 2
  else if (s.imgOfEnd q e).isSome then 1 else 0

/-- Whether an end is software's or an engine's, and so has rings (R366). -/
def State.ringed (s : State) (q e : Nat) : Bool := decide (s.agent q e ≤ 1)

/-- In-flight counts: end, bay, device; DRAINED (R374, R377). -/
def State.showEnd (s : State) (q e : Nat) : State :=
  let n := (s.qEnd q e).inflight.length
  (s.put (R.QMGR_FETCH.INFLIGHT q e) n).flag (R.QMGR_STAT.DRAINED q e) (!(s.on (R.QMGR_CTRL.EN q e)) && n == 0)

def State.setEnd (s : State) (q e : Nat) (x : QEnd) : State := (s.putEnd q e x).showEnd q e

/-- One descriptor more in flight for a bay (R374). -/
def State.quotaUp (s : State) (b : Nat) : State :=
  let s := (s.bump (R.QMGR_BAYn.INFLIGHT b)).bump R.QMGR_INFLIGHT.COUNT
  if s.get (R.QMGR_BAYn.INFLIGHT b) = s.get (R.QMGR_BAYn.QUOTA b) ∧ s.msg.quotaHit.testBit b = false then
    State.report { s with msg := { s.msg with quotaHit := setBit s.msg.quotaHit b } } b 0x1402 b (s.get (R.QMGR_BAYn.QUOTA b))
  else s

/-- One descriptor fewer; the cause is armed again below 7/8 of the quota (R374). -/
def State.quotaDown (s : State) (b : Nat) : State :=
  let s := (s.put (R.QMGR_BAYn.INFLIGHT b) (s.get (R.QMGR_BAYn.INFLIGHT b) - 1)).put R.QMGR_INFLIGHT.COUNT
    (s.get R.QMGR_INFLIGHT.COUNT - 1)
  if 8 * s.get (R.QMGR_BAYn.INFLIGHT b) < 7 * s.get (R.QMGR_BAYn.QUOTA b) then
    { s with msg := { s.msg with quotaHit := clrBit s.msg.quotaHit b } }
  else s

def Desc.flags (d : Desc) : Nat := leAt d.bytes 5 1
def Desc.len (d : Desc) : Nat := leAt d.bytes 6 2
def Desc.addr (d : Desc) : Nat := leAt d.bytes 0 4 + 4294967296 * leAt d.bytes 4 1
def Desc.aux (d : Desc) : List Byte := slice d.bytes 20 12
def Desc.irq (d : Desc) : Bool := d.flags.testBit 0
def Desc.tsreq (d : Desc) : Bool := d.flags.testBit 1
def Desc.sink (d : Desc) : Bool := d.flags.testBit 2

/-- A descriptor of an end more, or fewer, in flight: of its bay, or of the remote pool (R374, R615). -/
def State.endUp (s : State) (q e : Nat) : State :=
  if (s.claimOf q e).isSome then State.bump { s with msg := { s.msg with remote := s.msg.remote + 1 } } R.QMGR_INFLIGHT.COUNT
  else s.quotaUp (ownerOr0 (s.queueEnd q e))

def State.endDown (s : State) (q e : Nat) : State :=
  if (s.claimOf q e).isSome then
    State.put { s with msg := { s.msg with remote := s.msg.remote - 1 } } R.QMGR_INFLIGHT.COUNT (s.get R.QMGR_INFLIGHT.COUNT - 1)
  else s.quotaDown (ownerOr0 (s.queueEnd q e))

/-- Whether the quota of an end's bay, or the remote pool, is used up (R374, R615). -/
def State.endFull (s : State) (q e : Nat) : Bool :=
  if (s.claimOf q e).isSome then
    decide (32768 ≤ s.msg.remote + ((List.range 8).map (fun b => s.get (R.QMGR_BAYn.QUOTA b))).foldl (· + ·) 0)
  else
    let b := ownerOr0 (s.queueEnd q e)
    decide (s.get (R.QMGR_BAYn.QUOTA b) ≤ s.get (R.QMGR_BAYn.INFLIGHT b))

/-- A final completion as it stands in the ring: ABORT_LATE goes with DONE alone (R15, R378). -/
def Desc.done (d : Desc) (st res xlen stamp : Nat) (aux : List Byte) : Desc :=
  { d with final := some ⟨if st = 1 ∧ d.abortLate then 5 else st, res, xlen, stamp, aux⟩, peer := none }

/-- Applied to the descriptor of index `idx` of an end. -/
def State.modDesc (s : State) (q e idx : Nat) (f : Desc → Desc) : State :=
  let x := s.qEnd q e
  s.putEnd q e { x with inflight := x.inflight.map (fun d => if d.idx = idx then f d else d) }

/-- A ring access that fails: EN forced to 0, ERR set, the end's descriptors in flight end without an entry, and their
copy partners wait again (R391). -/
def State.ringLost (s : State) (q e : Nat) : State :=
  let n := (s.qEnd q e).inflight.length
  let s := (List.range n).foldl (fun t _ => t.endDown q e) s
  let o := s.qEnd q (1 - e)
  let s := s.putEnd q (1 - e) { o with inflight := o.inflight.map (fun d =>
    if d.peer.isSome && d.final.isNone then { d with peer := none, committed := false } else d) }
  ((s.put (R.QMGR_CTRL.EN q e) 0).flag (R.QMGR_STAT.ERR q e) true).setEnd q e QEnd.empty

/-- A ring access that is blocked. -/
def State.ringFault (s : State) (q e a : Nat) (wr : Bool) : State := (s.ringLost q e).blocked (s.qInit q e) (blockCause a) a wr

/-- The completion entry of a descriptor (R369). -/
def cplEntry (d : Desc) (c : Cpl) : List Byte :=
  slice d.bytes 0 10 ++ toLE 2 c.xlen ++ toLE 4 c.stamp ++ toLE 4 (c.status + 65536 * c.result) ++ slice c.aux 0 12

/-- The oldest descriptor leaves with its entry written: HEAD, the counts, CPL_IRQ (R372, R374). -/
def State.entryDone (s : State) (q e : Nat) : State :=
  match (s.qEnd q e).inflight with
  | d :: t =>
    let s := (s.bump (R.QMGR_CPL.HEAD q e)).setEnd q e { s.qEnd q e with inflight := t, storing := false }
    let s := s.endDown q e
    if d.irq || s.on (R.QMGR_CTRL.IRQ_ALL q e) then s.flag (R.QMGR_STAT.CPL_IRQ q e) true else s
  | [] => s

/-- A completion with what the link made of its buffer (R610). -/
def Desc.result (d : Desc) (c : Cpl) : Cpl :=
  match d.bad with
  | some (r, x) => { c with status := 3, result := r, aux := if x = 0 then c.aux else toLE 4 x ++ List.replicate 8 0 }
  | none => c

/-- The oldest descriptor's entry written, where it is final and none of its writes is out (R372). -/
def State.writeCpl (s : State) (q e : Nat) : State :=
  let x := s.qEnd q e
  match x.inflight with
  | d :: _ =>
    match d.final with
    | some c =>
      let a := s.ringBase q e + 32 * s.ringSize q e + 32 * (s.get (R.QMGR_CPL.HEAD q e) % s.ringSize q e)
      if x.storing ∨ d.pushes ≠ 0 then s
      else
        match s.place q e a with
        | .here a =>
          if s.bufOk (s.qInit q e).bay true a 32 then (s.writeBuf a (cplEntry d (d.result c))).entryDone q e
          else s.ringFault q e a true
        | .far m off home =>
          (s.putEnd q e { x with storing := true }).farWrite m off home (cplEntry d (d.result c)) (.entry q e)
        | .nowhere => s.ringLost q e
    | none => s
  | [] => s

/-- Every final descriptor at the front of an end gets its entry, in posting order (R372). -/
def State.drainEnd (s : State) (q e : Nat) : State :=
  (List.range (s.qEnd q e).inflight.length).foldl (fun t _ => t.writeCpl q e) s

/-- A descriptor made final, and the entries that this lets out. -/
def State.finishDesc (s : State) (q e idx st res xlen stamp : Nat) (aux : List Byte) : State :=
  (s.modDesc q e idx (fun d => d.done st res xlen stamp aux)).drainEnd q e

/-- Whether a descriptor is a source of its end (R371). -/
def State.isSource (s : State) (q e : Nat) (d : Desc) : Bool :=
  match s.grant 1 q with
  | some r => if C.BAYS1.DIR r = 1 then !d.sink else e == 0
  | none => e == 0

/-- The oldest descriptor of an end that is unpaired, not final, and a source or a sink as asked. -/
def State.unpaired (s : State) (q e : Nat) (src : Bool) : Option Desc :=
  (s.qEnd q e).inflight.find? (fun d => d.final.isNone && d.peer.isNone && d.pulls == 0 && s.isSource q e d == src)

/-- One pairing of a source at end `e` with a sink at the other end (R371). -/
def State.pairOnce (s : State) (q e : Nat) : State :=
  match s.unpaired q e true, s.unpaired q (1 - e) false with
  | some a, some b =>
    if b.len < a.len then s.finishDesc q e a.idx 3 0x0802 0 s.stamp (a.aux)
    else
      (s.modDesc q e a.idx (fun d => { d with peer := some b.idx })).modDesc q (1 - e) b.idx
        (fun d => { d with peer := some a.idx })
  | _, _ => s

/-- Every pairing that a copy queue allows; gated queues start none (R371, R376). -/
def State.pairAll (s : State) (q : Nat) : State :=
  if s.ringed q 0 && s.ringed q 1 && !(s.on (R.QMGR_STAT.GATED q 0)) then
    (List.range ((s.qEnd q 0).inflight.length + (s.qEnd q 1).inflight.length)).foldl
      (fun t _ => (t.pairOnce q 0).pairOnce q 1) s
  else s

/-- The flag bits that a descriptor may carry: SINK only on a DIR 1 queue (R369, R370). -/
def State.flagsOk (s : State) (q : Nat) (d : Desc) : Bool :=
  let dir1 := match s.grant 1 q with | some r => C.BAYS1.DIR r == 1 | none => false
  d.flags < (if dir1 then 8 else 4) && leAt d.bytes 16 2 / 16 == 0

/-- Whether an end may fetch (R368): its bay runs, or a claim stands. -/
def State.mayFetch (s : State) (q e : Nat) : Bool :=
  s.ringed q e && s.on (R.QMGR_CTRL.EN q e) && s.get (R.QMGR_FETCH.FETCH q e) != s.get (R.QMGR_POST.POST q e) &&
  !(s.on (R.QMGR_STAT.GATED q e)) && ((s.claimOf q e).isSome || s.live (ownerOr0 (s.queueEnd q e))) &&
  s.sys.phase != .sleepDrain && !((s.qEnd q e).fetching)

/-- A source whose buffer lies in a member window is read from there (R611). -/
def State.pullIn (s : State) (q e : Nat) (d : Desc) : State :=
  if s.isSource q e d = false then s
  else
    match s.place q e d.addr with
    | .far m off home =>
      let n := (pieces off d.len d.len 0).length
      (s.modDesc q e d.idx (fun x => { x with pulls := n, data := List.replicate d.len 0 })).farRead m off home d.len
        (fun k => .pull q e d.idx k)
    | _ => s

/-- The descriptor of index `f` as it was fetched (R368 to R371, R378). -/
def State.fetched (s : State) (q e f : Nat) (bytes : List Byte) (ecc : Bool) : State :=
  let d : Desc := { idx := f, bytes := bytes, peer := none, committed := false, abortLate := false, taken := false, final := none }
  let x := s.qEnd q e
  let ab := x.aborts.contains f
  let bad := d.len == 0 || !(s.flagsOk q d)
  let s := (s.bump (R.QMGR_FETCH.FETCH q e)).setEnd q e
    { x with inflight := x.inflight ++ [d], aborts := x.aborts.filter (fun y => y != f), waitRaised := false, fetching := false }
  let s := s.endUp q e
  if ab then s.finishDesc q e f 2 0 0 s.stamp d.aux
  else if ecc then s.finishDesc q e f 3 0x0806 0 s.stamp d.aux
  else if bad then
    (s.finishDesc q e f 3 0x0804 0 s.stamp d.aux).report (ownerOr0 (s.queueEnd q e)) 0x1401 q (e + 2 + 65536 * f)
  else (s.pullIn q e d).pairAll q

/-- DESCRIPTOR_FETCH (R368 to R371, R374). -/
def State.fetch (s : State) (q e : Nat) : State :=
  let f := s.get (R.QMGR_FETCH.FETCH q e)
  let full := (f + 65536 - s.get (R.QMGR_CPL.TAIL q e)) % 65536 == s.ringSize q e
  let most := s.endFull q e
  if s.mayFetch q e = false then s
  else
    let s := (s.flag (R.QMGR_STAT.CPL_WAIT q e) full).flag (R.QMGR_STAT.QUOTA_WAIT q e) most
    if full || most then s
    else
      let a := s.ringBase q e + 32 * (f % s.ringSize q e)
      match s.place q e a with
      | .here a =>
        if s.bufOk (s.qInit q e).bay false a 32 = false then s.ringFault q e a false
        else (s.poisonHit a 32).fetched q e f (s.readMem a 32) (s.poisoned a 32)
      | .far m off home => (s.putEnd q e { s.qEnd q e with fetching := true }).farRead m off home 32 (fun _ => .ring q e f)
      | .nowhere => s.ringLost q e

/-- The commit edge of a copy: the first slot that moves a byte of either descriptor (R378). -/
def State.commitCopy (s : State) (q e idx : Nat) : State :=
  match (s.qEnd q e).inflight.find? (fun d => d.idx == idx) with
  | some d =>
    match d.peer with
    | some j => (s.modDesc q e idx (fun x => { x with committed := true })).modDesc q (1 - e) j
        (fun x => { x with committed := true })
    | none => s
  | none => s

/-- Why a buffer may not be reached: nothing, a blocked access with its first byte, a poisoned word, or no place. -/
inductive BufEnd where
  | good (l : List Byte)
  | blocked (a : Nat)
  | poisoned (a : Nat)
  | nowhere

/-- The source buffer of a descriptor: read here, or as it came from a member window. -/
def State.sourceOf (s : State) (q e : Nat) (d : Desc) : BufEnd :=
  let i := s.qInit q e
  match s.place q e d.addr with
  | .here a =>
    if s.bufOk i.bay false a d.len = false then .blocked (s.bufFault i.bay false a d.len)
    else if s.poisoned a d.len then .poisoned a
    else .good (s.readMem a d.len)
  | .far _ _ _ => .good d.data
  | .nowhere => .nowhere

/-- Bytes stored at an offset of a sink buffer: here, or on their way to a member window. -/
def State.sinkTo (s : State) (q e : Nat) (d : Desc) (off : Nat) (l : List Byte) : State × BufEnd :=
  let i := s.qInit q e
  match s.place q e (d.addr + off) with
  | .here a =>
    if l.isEmpty || s.bufOk i.bay true a l.length then (s.writeBuf a l, .good [])
    else (s, .blocked (s.bufFault i.bay true a l.length))
  | .far m o home =>
    let n := (pieces o l.length l.length 0).length
    ((s.modDesc q e d.idx (fun x => { x with pushes := x.pushes + n })).farWrite m o home l (.push q e d.idx), .good [])
  | .nowhere => (s, .nowhere)

/-- The end of a copy from source `a` at end `e` to sink `b` (R150, R371, R373): bytes moved under both
identities, both descriptors final. -/
def State.finishCopy (s : State) (q e : Nat) (a b : Desc) : State :=
  let fin : State → Nat → Nat → Nat → State := fun t st res n =>
    (t.finishDesc q (1 - e) b.idx st res n (leAt a.bytes 12 4) a.aux).finishDesc q e a.idx st res n t.stamp a.aux
  match s.sourceOf q e a with
  | .blocked x => (fin s 3 0x0801 0).blocked (s.qInit q e) (blockCause x) x false
  | .poisoned x => (fin s 3 0x0806 0).poisonHit x a.len
  | .nowhere => fin s 3 0x0801 0
  | .good l =>
    match s.sinkTo q (1 - e) b 0 l with
    | (t, .good _) => fin t 1 0 a.len
    | (t, .blocked x) => (fin t 3 0x0801 0).blocked (s.qInit q (1 - e)) (blockCause x) x true
    | (t, _) => fin t 3 0x0801 0

/-- DESCRIPTOR_COMPLETION of an end: every byte of its oldest descriptor has moved (R372). -/
def State.complete (s : State) (q e : Nat) : State :=
  match (s.qEnd q e).inflight with
  | d :: _ =>
    match d.final, d.peer with
    | some _, _ => s.drainEnd q e
    | none, some j =>
      match (s.qEnd q (1 - e)).inflight.find? (fun x => x.idx == j) with
      | some p => ((if s.isSource q e d then s.finishCopy q e d p else s.finishCopy q (1 - e) p d).pairAll q)
      | none => s
    | none, none => s
  | [] => s

def execDescriptorCompletion (q e : Nat) (s : State) : Host.Outcome State Fault Refusal := answer (s.complete q e)

/-- COMPLETION_RING_WAIT: cause 0x1403 once for the wait (R375). -/
def execCompletionRingWait (q e : Nat) (s : State) : Host.Outcome State Fault Refusal :=
  let full := (s.get (R.QMGR_FETCH.FETCH q e) + 65536 - s.get (R.QMGR_CPL.TAIL q e)) % 65536 == s.ringSize q e
  answer (if s.mayFetch q e && full && !((s.qEnd q e).waitRaised) then
    State.report (s.putEnd q e { s.qEnd q e with waitRaised := true }) (ownerOr0 (s.queueEnd q e)) 0x1403 q e
  else s)

/-- Whether an initiator may use an end's page (R149, R151, R365, R612). -/
def State.queueMay (s : State) (i : Init) (q e : Nat) : Bool :=
  if fromAfar i then (s.claimsOf i).any (fun c => s.claimHasQueue c q)
  else s.queueEnd q e == some i.bay && ((s.grant 1 q).isNone || s.grantOpen 1 q)

/-- Whether a write to an end's page by an initiator that may use it takes effect: an end held by an agent is closed to
software, and one held by an engine is open to that engine alone (R365). -/
def State.endOpen (s : State) (i : Init) (q e : Nat) : Bool :=
  let g := s.agent q e
  g == 0 || (g == 1 && i.kind == 1 && s.imgOfEnd q e == some (s.servesFor i.inst))

/-- A write to an end's page. -/
def State.byEnd (s : State) (i : Init) (q e : Nat) (a : Fld) (f : State → State) : State :=
  s.act i (s.queueMay i q e) 0x0C03 a.addr true (fun t => if t.endOpen i q e then f t else t)

/-- POST advanced, or ignored as an overrun (R368). -/
def State.postTo (s : State) (q e v : Nat) : State :=
  if s.ringSize q e < (v % 65536 + 65536 - s.get (R.QMGR_FETCH.FETCH q e)) % 65536 then
    s.report (ownerOr0 (s.queueEnd q e)) 0x1401 q (e + 4 + 65536 * (v % 65536))
  else s.put (R.QMGR_POST.POST q e) v

/-- POST (R367, R368). -/
def execQueuePost (by_ : Init) (q e v : Nat) (s : State) : Host.Outcome State Fault Refusal :=
  answer (s.byEnd by_ q e (R.QMGR_POST.POST q e) (fun t => t.postTo q e v))

/-- An uncommitted descriptor aborted, its partner unpaired (R378). -/
def State.abortDesc (s : State) (q e : Nat) (d : Desc) : State :=
  if d.final.isSome then s
  else if d.committed then s.modDesc q e d.idx (fun x => { x with abortLate := true })
  else
    let s := match d.peer with
      | some j => s.modDesc q (1 - e) j (fun x => { x with peer := none })
      | none => s
    (s.finishDesc q e d.idx 2 0 0 s.stamp d.aux).pairAll q

/-- An abort registered on an index from HEAD up to POST (R378). -/
def State.abortIdx (s : State) (q e idx : Nat) : State :=
  let h := s.get (R.QMGR_CPL.HEAD q e)
  if (s.get (R.QMGR_POST.POST q e) + 65536 - h) % 65536 ≤ (idx + 65536 - h) % 65536 then s
  else
    match (s.qEnd q e).inflight.find? (fun d => d.idx == idx) with
    | some d => s.abortDesc q e d
    | none => s.putEnd q e { s.qEnd q e with aborts := (s.qEnd q e).aborts ++ [idx] }

def execQueueAbort (by_ : Init) (q e idx : Nat) (s : State) : Host.Outcome State Fault Refusal :=
  answer (s.byEnd by_ q e (R.QMGR_ABORT.INDEX q e) (fun t => t.abortIdx q e (idx % 65536)))

/-- EN of an end written (R377). -/
def State.endEn (s : State) (q e : Nat) (en : Bool) : State :=
  if en && !(s.on (R.QMGR_CTRL.EN q e)) then
    let t := ((s.put (R.QMGR_POST.POST q e) 0).put (R.QMGR_FETCH.FETCH q e) 0).put (R.QMGR_CPL.HEAD q e) 0
    ((t.put (R.QMGR_CPL.TAIL q e) 0).put (R.QMGR_CTRL.EN q e) 1).showEnd q e
  else if !en && s.on (R.QMGR_CTRL.EN q e) then
    let t := s.put (R.QMGR_CTRL.EN q e) 0
    let t := t.forEach (t.qEnd q e).inflight (fun d u => u.abortDesc q e d)
    (t.putEnd q e { t.qEnd q e with aborts := [] }).showEnd q e
  else s

def execQueueEn (by_ : Init) (q e : Nat) (en : Bool) (s : State) : Host.Outcome State Fault Refusal :=
  answer (s.byEnd by_ q e (R.QMGR_CTRL.EN q e) (fun t => t.endEn q e en))

/-! ### Ends that agents hold -/

/-- The oldest descriptor of an end that its agent at the other end has not taken, its buffer at hand. -/
def State.agentNext (s : State) (q e : Nat) : Option Desc :=
  match (s.qEnd q e).inflight.find? (fun d => d.final.isNone && !d.taken) with
  | some d => if d.pulls = 0 then some d else none
  | none => none

def State.agentTake (s : State) (q e idx : Nat) : State :=
  s.modDesc q e idx (fun d => { d with taken := true })

/-- The buffer of a descriptor read under its holder's identity; none where it is blocked or poisoned,
which ends the descriptor (R138, R373). -/
def State.agentRead (s : State) (q e : Nat) (d : Desc) : State × Option (List Byte) :=
  let fin := fun res => s.finishDesc q e d.idx 3 res 0 s.stamp d.aux
  match s.sourceOf q e d with
  | .good l => (s, some l)
  | .blocked x => ((fin 0x0801).blocked (s.qInit q e) (blockCause x) x false, none)
  | .poisoned x => ((fin 0x0806).poisonHit x d.len, none)
  | .nowhere => (fin 0x0801, none)

/-- Bytes delivered into the buffer of a receive descriptor at an offset; false where it is blocked, which
ends the descriptor. -/
def State.agentWrite (s : State) (q e : Nat) (d : Desc) (off : Nat) (l : List Byte) : State × Bool :=
  match s.sinkTo q e d off l with
  | (t, .good _) => (t, true)
  | (t, .blocked x) => ((t.finishDesc q e d.idx 3 0x0801 0 s.stamp d.aux).blocked (s.qInit q e) (blockCause x) x true, false)
  | (t, _) => (t.finishDesc q e d.idx 3 0x0801 0 s.stamp d.aux, false)

/-! ### Answers from member windows (R610) -/

/-- A part of a source buffer arrives. -/
def State.pulled (s : State) (q e idx off : Nat) (l : List Byte) : State :=
  (s.modDesc q e idx (fun d => { d with
    data := d.data.take off ++ l ++ d.data.drop (off + l.length), pulls := d.pulls - 1 })).pairAll q

/-- A part of a buffer is lost, with RESULT and AUX code: a source ends, a sink ends when its other parts have. -/
def State.partLost (s : State) (q e idx : Nat) (push : Bool) (res aux : Nat) : State :=
  if push then
    (s.modDesc q e idx (fun d => { d with pushes := d.pushes - 1, bad := some (res, aux) })).drainEnd q e
  else
    match (s.qEnd q e).inflight.find? (fun d => d.idx == idx) with
    | some d =>
      if d.final.isSome then s
      else (s.modDesc q e idx (fun x => { x with bad := some (res, aux) })).finishDesc q e idx 3 res 0 s.stamp d.aux
    | none => s

/-- A part of a sink buffer is stored. -/
def State.pushed (s : State) (q e idx : Nat) : State :=
  (s.modDesc q e idx (fun d => { d with pushes := d.pushes - 1 })).drainEnd q e

/-- An answer to QMGR: the data, or RESULT and AUX code of a failure. -/
def State.qmgrAnswer (s : State) (u : TrsUse) (r : List Byte ⊕ (Nat × Nat)) : State :=
  match u, r with
  | .ring q e f, .inl l => if (s.qEnd q e).fetching then s.fetched q e f l false else s
  | .ring q e _, .inr _ => if (s.qEnd q e).fetching then s.ringLost q e else s
  | .pull q e i k, .inl l => s.pulled q e i k l
  | .pull q e i _, .inr (x, a) => s.partLost q e i false x a
  | .push q e i, .inl _ => s.pushed q e i
  | .push q e i, .inr (x, a) => s.partLost q e i true x a
  | .entry q e, .inl _ => if (s.qEnd q e).storing then (s.entryDone q e).drainEnd q e else s
  | .entry q e, .inr _ => if (s.qEnd q e).storing then s.ringLost q e else s
  | _, _ => s

end Sys2Proof.Machine
end

