-- ==== Sys2Proof/Machine/QdrOps.lean ====
section
/-! DEFINITION.
Quadrille contexts: context time, windows in force, alignment (chapter 12). -/

namespace Sys2Proof.Machine

/-- A parameter of the image that engine `e` serves, its default where none is set (R321). -/
def State.imgParam (s : State) (e pid dflt : Nat) : Nat :=
  match SMap.get 0 (s.engineAt e).params pid with
  | 0 => dflt
  | v + 1 => v

/-! ### Contexts and context time (R434 to R436) -/

def State.ctx (s : State) (n : Nat) : Option Ctx := s.port.ctxs.getD n none

def State.putCtx (s : State) (n : Nat) (x : Option Ctx) : State :=
  { s with port := { s.port with ctxs := updAt s.port.ctxs n (fun _ => x) } }

/-- CYCLE_LEN in ns, and N_CYCLES. -/
def Matrix.len (m : Matrix) : Nat := 4 * C.QDRS0.CYCLE_LEN m.row
def Matrix.cycles (m : Matrix) : Nat := max 1 (C.QDRS0.N_CYCLES m.row)
def Matrix.phase (m : Matrix) : Nat := 4 * C.QDRS0.PHASE m.row

/-- The context time in ns of cycle start `k` = m × N + c (R435). -/
def Matrix.start (m : Matrix) (k : Nat) : Int := ((k * m.len + m.phase : Nat) : Int)

/-- Context time in ns: steady time minus OFS (R435). -/
def State.ctxNow (s : State) (x : Ctx) : Int := ((s.time.q : Int) - x.ofs) / qns

/-- The first cycle start at or after context time `c`. -/
def Matrix.from (m : Matrix) (c : Int) : Nat :=
  if c ≤ (m.phase : Int) then 0 else ((c - m.phase + m.len - 1) / (m.len : Int)).toNat

/-- The first cycle 0 start at or after context time `c`. -/
def Matrix.zeroFrom (m : Matrix) (c : Int) : Nat :=
  let k := m.from c
  (k + m.cycles - 1) / m.cycles * m.cycles

/-- The matrix of context `n` in a configuration. -/
def cfgMatrix (c : List Sect) (n : Nat) : Option Matrix :=
  match (cfgRecs c .qdrs 0).find? (fun r => C.QDRS0.CTX r == n) with
  | some r => some ⟨r, (cfgRecs c .qdrs 1).filter (fun w => C.QDRS1.CTX w == n),
      (cfgRecs c .qdrs 2).filter (fun w => C.QDRS2.CTX w == n)⟩
  | none => none

/-- A context that starts with OFS 0 and next cycle start `k` (R435, R456, R464). -/
def Ctx.fresh (m : Matrix) (k : Nat) : Ctx :=
  { mat := m, change := none, ofs := 0, trim := 0, trimming := false, next := k, mode := 0, refSeen := false,
    wins := [], trimRem := 0, ended := [] }

/-- OFS and the remaining trim as the page shows them (R460). -/
def State.showCtx (s : State) (n : Nat) : State :=
  match s.ctx n with
  | some x =>
    let o := x.ofs / qns
    ((s.put (R.QDRn_OFS_LO.NS n) (wrapInt 32 o)).put (R.QDRn_OFS_HI.NS n) (wrapInt 64 o / 4294967296)).putI
      (R.QDRn_TRIM_LEFT.NS n) (x.trim.tdiv qns)
  | none => s

def State.setCtx (s : State) (n : Nat) (x : Ctx) : State := (s.putCtx n (some x)).showCtx n

/-- TRIM_PPM as it acts (R460). -/
def State.trimPpm (s : State) (n : Nat) : Nat := clampNat 1 500 (s.get (R.QDRn_ALIGN.TRIM_PPM n))

/-- The share of a trim that `inc` of steady time applies (R449). -/
def State.trimTick (inc : Int) (n : Nat) (s : State) : State :=
  match s.ctx n with
  | some x =>
    if x.trim = 0 then s
    else
      let gain := inc.toNat * s.trimPpm n + x.trimRem
      let most : Int := (gain / 1000000 : Nat)
      let part := clampInt (-most) most x.trim
      s.setCtx n { x with ofs := x.ofs + part, trim := x.trim - part, trimRem := gain % 1000000 }
  | none => s

/-! ### Windows in force (R437 to R440, R452) -/

/-- The ports that a window governs, each with its channel (R452). -/
def winPorts (w : List Byte) : List (Nat × Nat) :=
  let p := C.QDRS1.PORT w
  if C.QDRS1.CHAN w = 0 then [(p, 0)] else if C.QDRS1.CHAN w = 1 then [(p + 1, 1)] else [(p, 0), (p + 1, 1)]

def winOn (p : Nat) (w : List Byte) : Bool := (winPorts w).any (fun x => x.1 == p)

/-- A window's start and end in ns from the start of its cycle. -/
def winFrom (w : List Byte) : Nat := 4 * C.QDRS1.OFFSET w
def winTo (w : List Byte) : Nat := 4 * (C.QDRS1.OFFSET w + C.QDRS1.LENGTH w)

/-- The end of the chain that a window ending at `e` heads or extends (R438). -/
def Matrix.chainTo (m : Matrix) (p c : Nat) : Nat → Nat → Nat
  | 0, e => e
  | f + 1, e =>
    match m.wins.find? (fun w => winOn p w && C.QDRS1.CYCLE w == c && C.QDRS1.KIND w == 3 && winFrom w == e) with
    | some w => m.chainTo p c f (winTo w)
    | none => e

/-- The end of a window's guard limit in ns from its cycle's start (R439). -/
def Matrix.guardTo (m : Matrix) (p : Nat) (w : List Byte) : Nat :=
  let k := C.QDRS1.KIND w
  if k = 1 ∨ k = 3 then m.chainTo p (C.QDRS1.CYCLE w) m.wins.length (winTo w) else winTo w

/-- The context that schedules a port (R437, R458). -/
def State.portCtx (s : State) (p : Nat) : Option (Nat × Ctx) :=
  (List.range 4).findSome? (fun n =>
    match s.ctx n with
    | some x => if x.mat.wins.any (winOn p) then some (n, x) else none
    | none => none)

/-- The window in force on a port. -/
def State.inForce (s : State) (p : Nat) : Option OpenWin :=
  match s.portCtx p with
  | some (_, x) => x.wins.find? (fun w => w.port == p)
  | none => none

/-- The least of `l` above `c`. -/
def leastAbove (c : Int) (l : List Int) : Option Int :=
  l.foldl (fun m x => if x ≤ c then m else match m with | some y => some (min x y) | none => some x) none

/-- Context time of the next window start on a port. -/
def State.nextWindow (s : State) (x : Ctx) (p : Nat) : Option Int :=
  leastAbove (s.ctxNow x) ((List.range (x.mat.cycles + 1)).flatMap (fun j =>
    let k := x.next - 1 + j
    (x.mat.wins.filter (fun w => winOn p w && C.QDRS1.CYCLE w == k % x.mat.cycles)).map
      (fun w => x.mat.start k + (winFrom w : Int))))

/-- Whether a transmission of `dur` ns that starts now meets its guard limit (R439). -/
def State.fits (s : State) (p dur : Nat) : Bool :=
  match s.portCtx p with
  | none => true
  | some (_, x) =>
    match x.wins.find? (fun w => w.port == p) with
    | some w => decide (s.ctxNow x + (dur : Int) ≤ w.limit)
    | none =>
      match s.nextWindow x p with
      | some e => decide (s.ctxNow x + (dur : Int) ≤ e)
      | none => true

/-- Whether `k` is an exclusive SENDER on a port anywhere in the matrix (R437). -/
def Matrix.isSender (m : Matrix) (p k : Nat) : Bool :=
  m.wins.any (fun w => winOn p w && C.QDRS1.KIND w == 0 && C.QDRS1.SENDER w == k)

/-- Whether sender `k` of an ETH or CAN port may start under the window in force (R437, R438).  In an
exclusive window the item `idx` must be in the batch (R440). -/
def State.winOpen (s : State) (p k : Nat) (idx : Option Nat) : Bool :=
  match s.portCtx p with
  | none => true
  | some (_, x) =>
    match x.wins.find? (fun w => w.port == p) with
    | some w =>
      let kd := C.QDRS1.KIND w.row
      if kd = 0 then C.QDRS1.SENDER w.row == k && (match idx with | some i => w.batch.contains i | none => true)
      else if kd = 2 then false else w.starts && !(x.mat.isSender p k)
    | none => !(x.mat.isSender p k)

/-- Whether the transmitter of a SER port may start (R437). -/
def State.serOpen (s : State) (p : Nat) : Bool :=
  match s.portCtx p with
  | none => true
  | some (_, x) =>
    match x.wins.find? (fun w => w.port == p) with
    | some w => C.QDRS1.KIND w.row == 0 && C.QDRS1.SENDER w.row != 0xFF
    | none => false

/-- The longest time in which sender `k` may start on a port: its exclusive windows, or the arbitrating
chains and the time between windows (R437, R442). -/
def Matrix.longest (m : Matrix) (p k : Nat) : Nat :=
  let ws := m.wins.filter (winOn p)
  let per := m.cycles * m.len
  let at_ : List Byte → Nat := fun w => C.QDRS1.CYCLE w * m.len + winFrom w
  if m.isSender p k then
    (ws.filter (fun w => C.QDRS1.KIND w == 0 && C.QDRS1.SENDER w == k)).foldl (fun x w => max x (winTo w - winFrom w)) 0
  else
    ws.foldl (fun x w =>
      let e := C.QDRS1.CYCLE w * m.len + winTo w
      let gap := ws.foldl (fun g v => min g ((at_ v + per - e % per) % per)) per
      max (max x gap) (if C.QDRS1.KIND w = 1 then m.guardTo p w - winFrom w else 0)) 0

/-- Whether `dur` exceeds every window in which sender `k` of a port may start (R442). -/
def State.tooLong (s : State) (p k dur : Nat) : Bool :=
  match s.portCtx p with
  | none => false
  | some (_, x) => decide (x.mat.longest p k < dur)

/-! ### Findings (R441, R443, R462) -/

def qdrRes (n p : Nat) (w : List Byte) : Nat := n + 256 * p + 65536 * C.QDRS1.CYCLE w + 16777216 * C.QDRS1.WIN w

/-- The bay that owns a context. -/
def State.ctxBay (s : State) (n : Nat) : Nat := ownerOr0 (s.ownPeriph (38 + n))

/-- A frame of sender `k` became ready on a port: cause 0x2001 in an exclusive window of that sender whose
batch is empty (R441). -/
def State.readyIn (s : State) (p k : Nat) : State :=
  match s.portCtx p with
  | none => s
  | some (n, x) =>
    match x.wins.find? (fun w => w.port == p) with
    | none => s
    | some w =>
      if C.QDRS1.KIND w.row = 0 ∧ C.QDRS1.SENDER w.row = k ∧ w.batch = [] ∧ w.late = false ∧ s.now ≠ w.opened then
        let y := { x with wins := x.wins.map (fun v => if v.port = p then { v with late := true } else v) }
        let s := (s.putCtx n (some y)).flag (R.QDRn_IRQ_PEND.LATE n) true
        (s.inc (R.QDRn_CNT_ERR.LATE n)).report (s.ctxBay n) 0x2001 (qdrRes n p w.row)
          (k + 256 * min (s.now - w.opened) 0xFFFFFF)
      else s

/-- Causes 0x2003 of a CHAN 2 window that has ended (R454). -/
def State.missing (s : State) (n : Nat) (w : OpenWin) (other : List (Nat × Nat)) : State :=
  s.forEach w.heard (fun h s =>
    if other.any (fun o => o.1 == h.1) then s
    else
      let s := (s.flag (R.QDRn_IRQ_PEND.MISSING n) true).inc (R.QDRn_CNT_RED.MISSING n)
      s.report (s.ctxBay n) 0x2003 (qdrRes n w.port w.row) ((1 - w.chan) + 65536 * (h.2 % 65536)))

/-- CHAN 2 windows that have ended and in which no reception goes on are judged and leave; with `port`, those on that port
at once (R454). -/
def State.judgeEnded (s : State) (n : Nat) (port : Option Nat) : State :=
  match s.ctx n with
  | none => s
  | some x =>
    let rows := (x.ended.map (fun w => w.1.row)).eraseDups
    let go := rows.filter (fun r =>
      let ws := x.ended.filter (fun w => w.1.row == r)
      ws.all (fun w => !w.1.starts) || ws.any (fun w => some w.1.port == port))
    let out := x.ended.filter (fun w => go.contains w.1.row)
    let s := s.putCtx n (some { x with ended := x.ended.filter (fun w => !go.contains w.1.row) })
    s.forEach out (fun w t =>
      t.missing n w.1 ((out.filter (fun v => v.1.row == w.1.row && v.1.port != w.1.port)).flatMap (fun v => v.1.heard)))

/-- A frame received valid on port `p` whose reception started at steady ns `at_`: whether it is a second copy
in a CHAN 2 window; it counts for the window in which its reception started (R454, R461). -/
def State.heard (s : State) (p at_ key d : Nat) : State × Bool :=
  match s.portCtx p with
  | none => (s, false)
  | some (n, x) =>
    match x.ended.find? (fun w => w.1.port == p && decide (w.1.opened ≤ at_) && decide (at_ ≤ w.2)) with
    | some w =>
      let dup := x.ended.any (fun v => v.1.row == w.1.row && v.1.port != p && v.1.heard.any (fun h => h.1 == key))
      let y := { x with ended := x.ended.map (fun v =>
        if v = w then ({ v.1 with heard := v.1.heard ++ [(key, d)], starts := false }, v.2) else v) }
      let s := s.putCtx n (some y)
      let s := if dup then s.inc (R.QDRn_CNT_RED.DUP n) else s
      (s.judgeEnded n none, dup)
    | none =>
      match x.wins.find? (fun w => w.port == p && C.QDRS1.CHAN w.row == 2 && decide (w.opened ≤ at_)) with
      | none => (s, false)
      | some w =>
        let dup := x.wins.any (fun v => v.row == w.row && v.port != p && v.heard.any (fun h => h.1 == key))
        let y := { x with wins := x.wins.map (fun v => if v.port = p then { v with heard := v.heard ++ [(key, d)] } else v) }
        let s := s.putCtx n (some y)
        if dup then (s.inc (R.QDRn_CNT_RED.DUP n), true) else (s, false)

/-! ### Cycle starts (R436, R448, R456) -/

/-- A context enters the cycle whose start is due: position, stamp, MODE, interrupts; a changed matrix takes
over at its first cycle 0 start. -/
def State.cycleStart (s : State) (n : Nat) : State :=
  match s.ctx n with
  | none => s
  | some x =>
    let x := match x.change with
      | some (m, k) => if m.start k ≤ x.mat.start x.next then { x with mat := m, next := k, change := none } else x
      | none => x
    let c := x.next % x.mat.cycles
    let was := s.on (R.QDRn_POS.RUNNING n)
    let md := s.get (R.QDRn_ALIGN.MODE n)
    let s := s.setCtx n { x with next := x.next + 1, mode := if md = 3 then 0 else md, refSeen := false }
    let s := (s.put (R.QDRn_POS.CYCLE n) c).flag (R.QDRn_POS.RUNNING n) true
    let s := if was && c == 0 then s.bump (R.QDRn_POS.ROTATION n) else s
    let s := (s.put (R.QDRn_CYC_STAMP.STAMP n) s.stamp).flag (R.QDRn_IRQ_PEND.CYCLE n) true
    if c = 0 then s.flag (R.QDRn_IRQ_PEND.MATRIX n) true else s

/-! ### Alignment (R448 to R451) -/

/-- Whether an initiator may write the alignment registers of a context (R451). -/
def State.alignEngine (s : State) (n : Nat) : Option Nat :=
  (List.range 12).find? (fun e =>
    s.get (R.REELn_STATE.STATE e) == 5 &&
    ((s.get (R.REELn_STATE.IMAGE_ID e) == 0x04 && s.imgParam e 0x100 0xFF == n) ||
     (s.get (R.REELn_STATE.IMAGE_ID e) == 0x0B && s.imgParam e 0x103 0xFF == n)))

/-- A write of the alignment page of a context (R451). -/
def State.byAlign (s : State) (i : Init) (n addr : Nat) (f : State → State) : State :=
  s.byOwner i (38 + n) addr (fun t =>
    match t.alignEngine n with
    | some e => if i.kind = 1 ∧ i.inst = e then f t else t
    | none => f t)

/-- ALIGN and cause 0x2004 (R449, R450). -/
def State.alignErr (s : State) (n : Nat) (d : Int) : State :=
  if (s.get (R.QDRn_SYNC_LIMIT.NS n) : Int) < d.natAbs then
    (s.flag (R.QDRn_IRQ_PEND.ALIGN n) true).report (s.ctxBay n) 0x2004 n (wrapInt 32 d)
  else s

/-- TRIM_REQ (R449): ignored in mode 0. -/
def State.trimReq (s : State) (n : Nat) (v : Nat) : State :=
  match s.ctx n with
  | none => s
  | some x =>
    if x.mode = 1 ∨ x.mode = 2 then
      let d := signed 32 v
      let s := s.setCtx n { x with trim := d * qns, trimming := true, trimRem := 0 }
      let s := if x.mode = 1 then s.putI (R.QDRn_ALIGN_ERR.NS n) d else s
      s.alignErr n d
    else s

/-- A valid reference message with start-of-frame time `t0` (steady ns, corrected) and cycle count `cc`
on CAN port `p` (R450). -/
def State.refMessage (s : State) (p t0 cc : Nat) : State :=
  s.forEach (List.range 4) (fun n s =>
    match s.ctx n with
    | none => s
    | some x =>
      if x.mode = 2 ∧ s.get (R.QDRn_ALIGN.REF_PORT n) = p ∧ x.mat.wins.any (winOn (4 + p)) then
        let m := x.mat
        let c := cc % m.cycles
        let at_ : Int := ((t0 : Int) * qns - x.ofs) / qns
        let near := m.from (at_ - (m.cycles * m.len / 2 : Nat))
        let k := near + (c + m.cycles - near % m.cycles) % m.cycles
        let d := at_ - m.start k
        let s := s.setCtx n { x with ofs := x.ofs + d * qns, refSeen := true }
        let s := (s.putI (R.QDRn_ALIGN_ERR.NS n) d).alignErr n d
        if k + 1 = x.next then s.put (R.QDRn_CYC_STAMP.STAMP n) (t0 % 4294967296)
        else
          let s := s.setCtx n { x with ofs := x.ofs + d * qns, next := k }
          let s := s.cycleStart n
          match s.ctx n with
          | some y => (s.setCtx n { y with refSeen := true }).put (R.QDRn_CYC_STAMP.STAMP n) (t0 % 4294967296)
          | none => s
      else s)

/-- CYCLE_START without the effects on the ports of the context, TRIM_REQ and TRIM_DONE. -/
def execTrimReq (by_ : Init) (n v : Nat) (s : State) : Host.Outcome State Fault Refusal :=
  answer (s.byAlign by_ n (R.QDRn_TRIM_REQ.NS n).addr (fun t => t.trimReq n v))

/-- TRIM_DONE: the whole trim has been applied (R449). -/
def execTrimDone (n : Nat) (s : State) : Host.Outcome State Fault Refusal :=
  answer (match s.ctx n with
  | some x =>
    if x.trimming then
      (s.setCtx n { x with ofs := x.ofs + x.trim, trim := 0, trimming := false }).flag (R.QDRn_IRQ_PEND.TRIM_DONE n) true
    else s
  | none => s)

/-- The contexts of a configuration on the apply edge (R435, R436, R464). -/
def State.applyQdr (s : State) : State :=
  s.forEach (List.range 4) (fun n s =>
    match cfgMatrix s.cfg n with
    | none => s.putCtx n none
    | some m =>
      let k := m.from ((s.now : Int) + 1)
      let s := s.setCtx n (Ctx.fresh m k)
      let s := (s.setB R.QDR_CTX_CFG.CONFIGURED n).putB R.QDR_CTX_CFG.REDUND n (C.QDRS0.REDUND m.row == 1)
      let s := (s.put (R.QDRn_CFG.N_CYCLES n) (C.QDRS0.N_CYCLES m.row)).put (R.QDRn_CFG.REDUND n) (C.QDRS0.REDUND m.row)
      (s.put (R.QDRn_CYCLE_LEN.TICKS n) (C.QDRS0.CYCLE_LEN m.row)).put (R.QDRn_PHASE.TICKS n) (C.QDRS0.PHASE m.row))

/-- The contexts of a bay at the swap edge of a delta that leads from configuration `old` to the present
one (R456). -/
def State.swapQdr (s : State) (old : List Sect) (b : Nat) : State :=
  s.forEach (List.range 4) (fun n s =>
    let mine : List Sect → Bool := fun c => cfgOwner c (fun r => (C.BAYS0.PERIPH r).testBit (38 + n)) == some b
    match cfgMatrix s.cfg n, s.ctx n with
    | none, _ => if mine old then (s.putCtx n none).clrB R.QDR_CTX_CFG.CONFIGURED n else s
    | some m, x =>
      if mine s.cfg = false then s
      else
        let s := (s.setB R.QDR_CTX_CFG.CONFIGURED n).putB R.QDR_CTX_CFG.REDUND n (C.QDRS0.REDUND m.row == 1)
        let s := (s.put (R.QDRn_CFG.N_CYCLES n) (C.QDRS0.N_CYCLES m.row)).put (R.QDRn_CFG.REDUND n) (C.QDRS0.REDUND m.row)
        let s := (s.put (R.QDRn_CYCLE_LEN.TICKS n) (C.QDRS0.CYCLE_LEN m.row)).put (R.QDRn_PHASE.TICKS n) (C.QDRS0.PHASE m.row)
        match x with
        | some y =>
          if mine old = false then s.setCtx n (Ctx.fresh m (m.zeroFrom ((s.now : Int) + 1)))
          else if y.mat = m then s
          else s.setCtx n { y with change := some (m, m.zeroFrom (s.ctxNow y)) }
        | none => s.setCtx n (Ctx.fresh m (m.zeroFrom ((s.now : Int) + 1))))

end Sys2Proof.Machine
end

