-- ==== Sys2Proof/Machine/Eth.lean ====
section
/-! DEFINITION.
Ethernet ports (chapter 13). -/

namespace Sys2Proof.Machine

def State.ethAt (s : State) (n : Nat) : EthPort := s.port.eth.getD n EthPort.cold
def State.modEth (s : State) (n : Nat) (f : EthPort → EthPort) : State :=
  { s with port := { s.port with eth := updAt s.port.eth n f } }

/-- The bay of a port. -/
def State.ethBay (s : State) (n : Nat) : Nat := ownerOr0 (s.ownPeriph (10 + n))

/-- Line rate in Mbit/s. -/
def State.ethRate (s : State) (n : Nat) : Nat :=
  let v := s.get (R.ETHn_STATUS.SPEED n)
  if v = 0 then 10 else if v = 1 then 100 else if v = 2 then 1000 else 10000

/-- Receive and transmit corrections of R403 in ns. -/
def State.ethCorr (s : State) (n : Nat) : Nat × Nat :=
  let v := s.get (R.ETHn_STATUS.SPEED n)
  if n < 2 then (if s.ethMode n = 1 then (44, 36) else (168, 104))
  else if s.ethMode n = 1 then (if v = 2 then (20, 12) else if v = 1 then (60, 44) else (420, 404))
  else if v = 1 then (80, 48) else (800, 520)

def State.ethMax (s : State) (n : Nat) : Nat :=
  let v := s.get (R.ETHn_MAX_FRAME.BYTES n)
  if 64 ≤ v ∧ v ≤ 9600 then v else 1522

/-- The even port of a port's PRP pair (R484). -/
def State.prpPair (s : State) (n : Nat) : Option Nat :=
  let e := n / 2 * 2
  if s.on (R.ETHn_PRP_CTRL.PRP_EN e) then some e else none

/-- CRC-32 of IEEE 802.3, as the FCS value. -/
def fcs32 (l : List Byte) : Nat :=
  (l.foldl (fun c b => (List.range 8).foldl (fun x _ => if x % 2 = 1 then (x / 2) ^^^ 0xEDB88320 else x / 2)
    (c ^^^ b.toNat)) 0xFFFFFFFF) ^^^ 0xFFFFFFFF

/-! ### Event FIFO (R483) -/

/-- The event FIFO registers show the oldest entry. -/
def State.showPtp (s : State) (n : Nat) : State :=
  let l := (s.ethAt n).ptp
  let s := (s.put (R.ETHn_PTPF_STAT.COUNT n) l.length).flag (R.ETHn_IRQ_PEND.PTPF n) (!l.isEmpty)
  let x := l.headD ⟨0, 0, 0, 0, 0⟩
  ((((s.put (R.ETHn_PTPF_STAMP.STAMP n) x.stamp).put (R.ETHn_PTPF_INFO.SEQ_ID n) x.seqId).put
    (R.ETHn_PTPF_INFO.MSG_TYPE n) x.kind).put (R.ETHn_PTPF_INFO.DIR n) x.dir).put (R.ETHn_PTPF_INFO.DOMAIN n) x.domain

/-- Whether a frame is tagged with TPID 0x8100, and its EtherType (R480). -/
def frameTagged (d : List Byte) : Bool := beAt d 12 2 == 0x8100
def frameType (d : List Byte) : Nat := if frameTagged d then beAt d 16 2 else beAt d 12 2
def frameHead (d : List Byte) : Nat := if frameTagged d then 18 else 14

/-- Where the PTP header of an event message starts in a frame (R483). -/
def ptpAt (d : List Byte) : Option Nat :=
  let h := frameHead d
  let at_ :=
    if frameType d = 0x88F7 then some h
    else if frameType d = 0x0800 ∧ leAt d (h + 9) 1 = 17 ∧
        beAt d (h + 4 * (leAt d h 1 % 16) + 2) 2 = 319 then some (h + 4 * (leAt d h 1 % 16) + 8)
    else none
  match at_ with
  | some o => if leAt d o 1 % 16 < 4 ∧ o < d.length then some o else none
  | none => none

/-- The entry of a frame pushed into the event FIFO, or dropped with OVF and cause 0x2406 (R483). -/
def State.pushPtp (s : State) (n : Nat) (d : List Byte) (stamp dir : Nat) : State :=
  match ptpAt d with
  | none => s
  | some o =>
    if 32 ≤ (s.ethAt n).ptp.length then
      (s.flag (R.ETHn_PTPF_STAT.OVF n) true).report (s.ethBay n) 0x2406 n 0
    else
      (s.modEth n (fun x => { x with ptp := x.ptp ++ [⟨stamp, beAt d (o + 30) 2, leAt d o 1 % 16, dir, leAt d (o + 4) 1⟩] })).showPtp n

/-! ### Transmit memory (R472, R473, R485, R486) -/

/-- Whether the descriptor of a frame is still pending. -/
def State.ethPending (s : State) (f : EthFrame) : Bool :=
  (s.qEnd (24 * f.src + f.k) 0).inflight.any (fun d => d.idx == f.idx && d.final.isNone)

/-- The pair entry of a copy. -/
def State.ethPair (s : State) (f : EthFrame) : Option EthPair :=
  (s.ethAt f.src).pairs.find? (fun p => p.k == f.k && p.idx == f.idx)

/-- Whether a staged frame is still to be sent; an abort before the commit point frees it (R476, R486). -/
def State.ethLive (s : State) (f : EthFrame) : Bool :=
  f.start.isSome || decide (4 ≤ f.src) ||
  (if f.copy = 0 then s.ethPending f
   else match s.ethPair f with
     | some p => s.ethPending f || p.a.isSome || p.b.isSome
     | none => false)

/-- STAGED of each TX queue; frames that an abort freed leave (R493, R496). -/
def State.ethPrune (s : State) (n : Nat) : State :=
  let s := s.modEth n (fun x => { x with staged := x.staged.filter s.ethLive })
  s.forEach (List.range 8) (fun k t => t.put (R.ETHn_TXQk_CTRL.STAGED n k)
    (min 3 ((t.ethAt n).staged.filter (fun f => f.k == k && f.src == n)).length))

/-- Bytes of a frame on the line from its first preamble bit to its last FCS bit, and with the gap (R439). -/
def EthFrame.octets (f : EthFrame) : Nat := f.data.length + (if f.noFcs then 0 else 4)
def State.ethTime (s : State) (n : Nat) (f : EthFrame) : Nat := (f.octets + 20) * 8000 / s.ethRate n

/-- A copy of a pair has been sent or has failed; the frame completes as R453 and R486 say. -/
def State.pairEnd (s : State) (f : EthFrame) (ok : Bool) (stamp code : Nat) : State :=
  match s.ethPair f with
  | none => s
  | some p =>
    let e := (ok, if ok then stamp else code)
    let p := if f.copy = 1 then { p with a := some e } else { p with b := some e }
    let q := 24 * f.src + f.k
    let d := (s.qEnd q 0).inflight.find? (fun d => d.idx == f.idx && d.final.isNone)
    let len := match d with | some x => x.len | none => 0
    let aux := match d with | some x => x.aux | none => []
    let both := p.a.isSome && p.b.isSome
    let s := s.modEth f.src (fun x => { x with pairs :=
      (x.pairs.filter (fun y => !(y.k == f.k && y.idx == f.idx))) ++ (if both then [] else [p]) })
    let okA := match p.a with | some (o, _) => o | none => false
    let okB := match p.b with | some (o, _) => o | none => false
    let fin : Bool := if f.prp then both else both || okA || okB
    if fin && d.isSome then
      if okA || okB then
        s.finishDesc q 0 f.idx 1 0 len (match (if okA then p.a else p.b) with | some (_, t) => t | none => stamp) aux
      else
        let c := match p.a with | some (_, c) => c | none => code
        s.finishDesc q 0 f.idx 3 (if c = 0 then 0x0806 else 0x0805) 0 s.stamp (if c = 0 then aux else toLE 2 c ++ aux.drop 2)
    else s

/-- A frame ends: DONE with a stamp, or FAILED with Q_ECC (code 0) or Q_AGENT and `code` in AUX (R477, R499). -/
def State.ethEnd (s : State) (n : Nat) (f : EthFrame) (ok : Bool) (stamp code : Nat) : State :=
  let s := s.modEth n (fun x => { x with staged := x.staged.filter (fun g => g != f) })
  let s := if ok then (s.inc (R.ETHn_TX_FRAMES.COUNT n)).addSat (R.ETHn_TX_OCTETS.COUNT n) f.octets
    else s.inc (R.ETHn_TX_FAILED.COUNT n)
  let s :=
    if 4 ≤ f.src then s
    else if f.copy ≠ 0 then s.pairEnd f ok stamp code
    else
      let q := 24 * f.src + f.k
      match (s.qEnd q 0).inflight.find? (fun d => d.idx == f.idx) with
      | none => s
      | some d =>
        if ok then s.finishDesc q 0 f.idx 1 0 d.len stamp d.aux
        else if code = 0 then s.finishDesc q 0 f.idx 3 0x0806 0 s.stamp d.aux
        else s.finishDesc q 0 f.idx 3 0x0805 0 s.stamp (toLE 2 code ++ d.aux.drop 2)
  s.ethPrune n

/-- A head frame that fits no window in which it may start ends with 0x2001 (R442). -/
def State.ethHeads (s : State) (n : Nat) : State :=
  s.forEach (List.range 8) (fun k s =>
    match (s.ethAt n).staged.find? (fun f => f.k == k && s.ethLive f) with
    | some f => if f.start.isNone && s.tooLong n k (s.ethTime n f) then s.ethEnd n f false 0 0x2001 else s
    | none => s)

/-- A frame placed in transmit memory: it is ready (R440, R441, R473). -/
def State.ethStage (s : State) (n : Nat) (f : EthFrame) : State :=
  let s := s.modEth n (fun x => { x with staged := x.staged ++ [f] })
  let s := match s.portCtx n with
    | some (m, x) =>
      let join : OpenWin → OpenWin := fun w =>
        if w.port = n ∧ w.opened = s.now ∧ C.QDRS1.KIND w.row = 0 ∧ C.QDRS1.SENDER w.row = f.k
        then { w with batch := w.batch ++ [65536 * f.src + f.idx] } else w
      s.putCtx m (some { x with wins := x.wins.map join })
    | none => s
  ((s.readyIn n f.k).ethPrune n).ethHeads n

/-- The PRP trailer of a copy (R485): sequence number, LanId with LSDUsize, suffix. -/
def prpTrailer (seq lan : Nat) (d : List Byte) : List Byte :=
  toBE 2 seq ++ toBE 2 ((0xA + lan) * 4096 + (d.length + 6 - frameHead d) % 4096) ++ toBE 2 0x88FB

/-- Whether queue `k` of an even port is the SENDER of a CHAN 2 exclusive window (R453). -/
def State.chan2Sender (s : State) (n k : Nat) : Bool :=
  match s.portCtx n with
  | some (_, x) => n % 2 == 0 && x.mat.wins.any (fun w => C.QDRS1.PORT w == n && C.QDRS1.CHAN w == 2 &&
      C.QDRS1.KIND w == 0 && C.QDRS1.SENDER w == k)
  | none => false

/-- The frame of the next descriptor of TX queue `k` read into transmit memory; `ecc` is the word of an
uncorrectable error in it (R472, R473, R485, R499). -/
def State.ethReady (s : State) (n k : Nat) (ecc : Option Nat) : State :=
  let q := 24 * n + k
  let s := s.ethPrune n
  if s.on (R.ETHn_CTRL.EN n) = false ∨ 2 ≤ s.get (R.ETHn_TXQk_CTRL.STAGED n k) ∨ 8 ≤ k then s
  else
    match s.agentNext q 0 with
    | none => s
    | some d =>
      let txf := leAt d.aux 0 1
      let noFcs := txf.testBit 0
      let top := if noFcs then s.ethMax n else s.ethMax n - 4
      if d.len < 14 ∨ top < d.len then
        (s.finishDesc q 0 d.idx 3 0x0804 0 s.stamp d.aux).report (ownerOr0 (s.queueEnd q 0)) 0x1401 q (2 + 65536 * d.idx)
      else
        match s.agentRead q 0 d with
        | (s, none) => s
        | (s, some l) =>
          match ecc with
          | some w => (s.finishDesc q 0 d.idx 3 0x0806 0 s.stamp d.aux).report (s.ethBay n) 0x2404 n (2 + 65536 * w)
          | none =>
            let l := l ++ List.replicate (60 - l.length) 0
            let s := s.agentTake q 0 d.idx
            let f : EthFrame := ⟨k, n, d.idx, 0, false, l, noFcs, txf.testBit 1, none, none⟩
            let prp := n % 2 == 0 && s.on (R.ETHn_PRP_CTRL.PRP_EN n)
            if prp && txf.testBit 2 then s.ethStage (if txf.testBit 3 then n + 1 else n) f
            else if prp || s.chan2Sender n k then
              let sq := (s.ethAt n).prpSeq
              let tr : Nat → List Byte := fun lan => if prp then prpTrailer sq lan l else []
              let s := s.modEth n (fun x => { x with prpSeq := if prp then (sq + 1) % 65536 else sq,
                                                     pairs := x.pairs ++ [⟨n, k, d.idx, none, none⟩] })
              (s.ethStage n { f with copy := 1, prp := prp, data := l ++ tr 0 }).ethStage (n + 1)
                { f with copy := 2, prp := prp, data := l ++ tr 1 }
            else s.ethStage n f

/-- ETH_FRAME_READY (R473). -/
def execEthFrameReady (n k : Nat) (ecc : Option Nat) (s : State) : Host.Outcome State Fault Refusal :=
  answer (s.ethReady n k ecc)

/-! ### Credits (R475) -/

/-- The credit of queue `k` after `dt` ns, in 10^-6 bits. -/
def State.creditStep (s : State) (n k dt : Nat) (c : Int) : Int :=
  let x := s.ethAt n
  let slope : Int := s.get (R.ETHn_TXQk_SLOPE.KBPS n k)
  let hi : Int := s.getI (R.ETHn_TXQk_HICRED.BITS n k) * 1000000
  let sending := x.staged.any (fun f => f.k == k && f.start.isSome)
  let waits := x.staged.any (fun f => f.k == k && f.start.isNone && s.ethLive f)
  if s.on (R.ETHn_TXQk_CTRL.CBS_EN n k) = false then 0
  else if sending then c + (slope - 1000 * (s.ethRate n : Int)) * dt
  else if waits then (if s.winOpen n k none then min hi (c + slope * dt) else c)
  else if 0 < c then 0 else if s.winOpen n k none then min 0 (c + slope * dt) else c

/-- Every credit of a port brought up to the present edge. -/
def State.ethCredits (s : State) (n : Nat) : State :=
  let x := s.ethAt n
  let dt := s.now - x.creditAt
  let l := (List.range 8).map (fun k => s.creditStep n k dt (x.credit.getD k 0))
  let s := s.modEth n (fun y => { y with credit := l, creditAt := s.now })
  s.forEach (List.range 8) (fun k t => t.putI (R.ETHn_TXQk_CREDIT.BITS n k) (l.getD k 0 / 1000000))

/-! ### Transmission (R474 to R478) -/

/-- Whether the head frame of queue `k` is eligible (R474). -/
def State.ethEligible (s : State) (n k : Nat) (f : EthFrame) : Bool :=
  s.winOpen n k (some (65536 * f.src + f.idx)) &&
  (!(s.on (R.ETHn_TXQk_CTRL.CBS_EN n k)) || decide (0 ≤ (s.ethAt n).credit.getD k 0)) &&
  s.fits n (s.ethTime n f) && (decide (4 ≤ f.src) || !(s.on (R.QMGR_STAT.GATED (24 * f.src + f.k) 0)))

/-- The frame that a start opportunity starts. -/
def State.ethPick (s : State) (n : Nat) : Option EthFrame :=
  let x := s.ethAt n
  (List.range 8).reverse.findSome? (fun k =>
    match x.staged.find? (fun f => f.k == k && s.ethLive f) with
    | some f => if s.ethEligible n k f then some f else none
    | none => none)

/-- A frame start opportunity; the start is the frame's commit point (R476). -/
def State.ethStart (s : State) (n : Nat) : State :=
  let s := (s.ethPrune n).ethCredits n
  let x := s.ethAt n
  if s.on (R.ETHn_CTRL.EN n) && s.on (R.ETHn_STATUS.LINK n) && !(s.on (R.ETHn_STATUS.OUT_OF_SERVICE n)) && !(s.portTest 0x2401 n) &&
      !(s.portQuiet n) && decide (x.pauseTo ≤ s.now) && !(x.staged.any (fun f => f.start.isSome)) then
    match s.ethPick n with
    | none => s
    | some f =>
      let s := s.modEth n (fun x => { x with staged := x.staged.map (fun g => if g = f then 
        { g with start := some s.now, traced := if s.time.state = .invalid then none else some s.time.ofs } else g) })
      if f.src < 4 then s.modDesc (24 * f.src + f.k) 0 f.idx (fun d => { d with committed := true }) else s
  else s

def execEthTxFrameStart (n : Nat) (s : State) : Host.Outcome State Fault Refusal := answer (s.ethStart n)

/-- The frame as sent: the ONE_STEP field and the checksum written at the stamp instant `ti` (R478). -/
def State.ethSent (s : State) (f : EthFrame) (ti : Nat) : List Byte :=
  if f.oneStep && decide (f.src < 4) then
    let aux := match (s.qEnd (24 * f.src + f.k) 0).inflight.find? (fun d => d.idx == f.idx) with
      | some d => d.aux
      | none => []
    let o := leAt aux 2 2
    let c := leAt aux 4 2
    let v : Int := match f.traced with
      | some q => (ti : Int) + q / qns
      | none => ti
    let d := f.data
    let d := if o + 10 ≤ d.length then
      d.take o ++ toBE 6 (wrapInt 48 (v / 1000000000)) ++ toBE 4 (wrapInt 32 (v % 1000000000)) ++ d.drop (o + 10) else d
    if c = 0 ∨ d.length < c + 2 then d else d.take c ++ [0, 0] ++ d.drop (c + 2)
  else f.data

/-! ### Receive (R479 to R488) -/

/-- One rule word. -/
def State.ethRule (s : State) (n r w : Nat) : Nat := s.get (R.ETHn_RULE.ALL n r w)

/-- Whether rule `r` is enabled and matches a frame (R480). -/
def State.ruleHits (s : State) (n : Nat) (d : List Byte) (r : Nat) : Bool :=
  let w0 := s.ethRule n r 0
  let w1 := s.ethRule n r 1
  let w2 := s.ethRule n r 2
  let tag := frameTagged d
  let tci := beAt d 14 2
  let act := field w2 20 2
  let da := field w2 22 2
  let mt := field w2 27 2
  (act == 1 || act == 2) &&
  (da == 0 || (da == 1 && beAt d 2 4 == w0 && beAt d 0 2 == field w1 0 16) || (da == 2 && leAt d 0 1 % 2 == 1)) &&
  (!(w2.testBit 24) || (tag && tci % 4096 == field w1 16 12)) &&
  (!(w2.testBit 25) || (tag && tci / 8192 == field w1 28 3)) &&
  (!(w2.testBit 26) || frameType d == field w2 0 16) &&
  (mt == 0 || (mt == 1 && !tag) || (mt == 2 && tag))

/-- A frame that finds no buffer (R481). -/
def State.noBuf (s : State) (n : Nat) : State :=
  (s.inc (R.ETHn_RX_NOBUF.COUNT n)).flag (R.ETHn_IRQ_PEND.RX_NOBUF n) true

/-- A classified frame delivered to RX queue `j` of port `n` (R481, R482). -/
def State.ethDeliver (s : State) (n j : Nat) (out : List Byte) (stamp : Nat) (aux : List Byte) : State :=
  let q := 24 * n + 8 + j
  match s.agentNext q 1 with
  | none => s.noBuf n
  | some d =>
    if d.len < out.length then s.noBuf n
    else
      match s.agentWrite q 1 d 0 out with
      | (s, false) => s
      | (s, true) => s.finishDesc q 1 d.idx 1 0 out.length stamp aux

/-- A good frame `d` (with FCS) classified by the rules of port `n`; received on LAN `lan` (R480, R482). -/
def State.ethClassify (s : State) (n lan : Nat) (d : List Byte) (stamp : Nat) (cut : Bool) (seq : Nat) : State :=
  let body := d.take (d.length - 4)
  let out := if cut then body.take (body.length - 6) else body
  let out := if s.on (R.ETHn_CTRL.KEEP_FCS n) then out ++ d.drop (d.length - 4) else out
  let tag := frameTagged d
  let rxf := b2n tag + 2 * lan + 4 * b2n cut + 8 * b2n (ptpAt body).isSome + 16 * (leAt d 0 1 % 2) +
    32 * b2n (beAt d 0 6 == 0xFFFFFFFFFFFF)
  let aux : Nat → List Byte := fun r => toLE 1 r ++ toLE 1 rxf ++ toLE 2 (if tag then beAt d 14 2 else 0) ++ toLE 2 seq ++
    List.replicate 6 0
  match (List.range 64).find? (s.ruleHits n d) with
  | some r =>
    let s := s.inc (R.ETHn_RULE_HITS.HITS n r)
    if field (s.ethRule n r 2) 20 2 = 1 then s.ethDeliver n (field (s.ethRule n r 2) 16 4) out stamp (aux r)
    else s
  | none =>
    if s.on (R.ETHn_CTRL.DEF_EN n) then s.ethDeliver n (s.get (R.ETHn_CTRL.DEF_RXQ n)) out stamp (aux 0xFF)
    else s.inc (R.ETHn_RX_FILTERED.COUNT n)

/-- The sequence number of a valid PRP trailer for LAN `lan` (R487). -/
def prpSeqOf (lan : Nat) (d : List Byte) : Option Nat :=
  let l := d.length - 4
  if 20 ≤ l ∧ beAt d (l - 2) 2 = 0x88FB ∧ beAt d (l - 4) 2 / 4096 = 0xA + lan ∧
      beAt d (l - 4) 2 % 4096 = (l - frameHead d) % 4096 then some (beAt d (l - 6) 2)
  else none

/-- A PRP frame at the pair of even port `e`: first copies delivered, later ones discarded (R487). -/
def State.prpFrame (s : State) (e lan : Nat) (d : List Byte) (stamp seq : Nat) : State :=
  let sa := beAt d 6 6
  let hit := (s.ethAt e).prp.find? (fun x => x.sa == sa && x.seq == seq && decide (s.now < x.expiry))
  let cut := !(s.on (R.ETHn_PRP_CTRL.KEEP_RCT e))
  match hit with
  | some _ =>
    let s := s.modEth e (fun y => { y with prp := y.prp.map (fun x =>
      if x.sa = sa ∧ x.seq = seq then { x with lans := setBit x.lans lan } else x) })
    if s.on (R.ETHn_PRP_CTRL.DUP_ACCEPT e) then s.ethClassify e lan d stamp cut seq
    else s.inc (R.ETHn_PRP_DUP.COUNT e)
  | none =>
    let s := s.modEth e (fun y =>
      let l := y.prp.filter (fun x => !(x.sa == sa && x.seq == seq))
      { y with prp := (if 1024 ≤ l.length then l.drop 1 else l) ++
          [⟨sa, seq, 2 ^ lan, s.now + 1000000 * s.get (R.ETHn_PRP_FORGET.MS e)⟩] })
    s.ethClassify e lan d stamp cut seq

/-- A frame whose FCS is good; a passive port receives for the counters alone (R325, R467, R480, R487). -/
def State.ethGood (s : State) (n : Nat) (d : List Byte) (at_ : Nat) : State :=
  let s := s.modEth n (fun x => { x with rxFrames := x.rxFrames + 1 })
  let s := (s.inc (R.ETHn_RX_FRAMES.COUNT n)).addSat (R.ETHn_RX_OCTETS.COUNT n) d.length
  let stamp := (at_ + 4294967296 * 2 - (s.ethCorr n).1 - s.get (R.ETHn_PHY_LAT.RX n)) % 4294967296
  if s.portQuiet n then s
  else if beAt d 0 6 = 0x0180C2000001 ∧ frameType d = 0x8808 ∧ beAt d 14 2 = 1 then
    let s := s.inc (R.ETHn_PAUSE_RX_CNT.COUNT n)
    if s.on (R.ETHn_CTRL.PAUSE_RX n) then
      let t := s.now + beAt d 16 2 * 512000 / s.ethRate n
      (s.modEth n (fun x => { x with pauseTo := t })).flag (R.ETHn_STATUS.PAUSED n) (decide (s.now < t))
    else s
  else
    let s := s.pushPtp n (d.take (d.length - 4)) stamp 0
    match s.prpPair n with
    | some e =>
      match prpSeqOf (n % 2) d with
      | some q => s.prpFrame e (n % 2) d stamp q
      | none => s.ethClassify n (n % 2) d stamp false 0
    | none =>
      match s.heard n at_ (d.length * 4294967296 + leAt d (d.length - 4) 4) (leAt d (d.length - 4) 2) with
      | (s, true) => s
      | (s, false) => s.ethClassify n 0 d stamp false 0

/-- A frame at the receiver (R479): `good` its FCS, `pcs` a PCS error, `full` that the receive memory was full
when it began, `ecc` the word of an uncorrectable error in that memory, `at_` the steady ns of its first bit
after the SFD. -/
def State.ethReceive (s : State) (n : Nat) (d : List Byte) (at_ : Nat) (good pcs full : Bool) (ecc : Option Nat) : State :=
  let top := s.ethMax n + (if (s.prpPair n).isSome then 6 else 0)
  if pcs then s.inc (R.ETHn_RX_PCS_ERR.COUNT n)
  else if !good then (s.modEth n (fun x => { x with rxErrs := x.rxErrs + 1 })).inc (R.ETHn_RX_FCS_ERR.COUNT n)
  else if d.length < 64 then s.inc (R.ETHn_RX_RUNT.COUNT n)
  else if top < d.length then s.inc (R.ETHn_RX_TOO_LONG.COUNT n)
  else if full then s.noBuf n
  else
    match ecc with
    | some w => (s.inc (R.ETHn_RX_PCS_ERR.COUNT n)).report (s.ethBay n) 0x2404 n (3 + 65536 * w)
    | none => s.ethGood n d at_

/-- Whether a port receives (R491, R496, R500). -/
def State.ethRxOn (s : State) (n : Nat) : Bool :=
  s.on (R.ETHn_CTRL.EN n) && !(s.on (R.ETHn_STATUS.OUT_OF_SERVICE n)) && !(s.portTest 0x2401 n)

/-- ETH_RX_FRAME: a frame from the line; ignored in loopback (R491). -/
def execEthRxFrame (n : Nat) (d : List Byte) (at_ : Nat) (good pcs full : Bool) (ecc : Option Nat) (s : State) :
    Host.Outcome State Fault Refusal :=
  answer (if s.ethRxOn n && s.get (R.ETHn_CTRL.LOOP n) == 0 then s.ethReceive n d at_ good pcs full ecc else s)

/-- Frame `f` on the line has ended: its stamps, its descriptor and, in loopback, its reception. -/
def State.ethOut (s : State) (n : Nat) (ecc : Option Nat) (f : EthFrame) : State :=
  let t0 := f.start.getD 0 + 64000 / s.ethRate n
  let ti := t0 + (s.ethCorr n).2 + s.get (R.ETHn_PHY_LAT.TX n)
  let st := ti % 4294967296
  let ts := decide (f.src < 4) && (s.qEnd (24 * f.src + f.k) 0).inflight.any (fun d => d.idx == f.idx && d.tsreq)
  let sent := s.ethSent f ti
  let full := if f.noFcs then sent else sent ++ toLE 4 (fcs32 sent)
  let lp := s.get (R.ETHn_CTRL.LOOP n)
  let s := s.pushPtp n sent st 1
  let s := match ecc with
    | some w => (s.ethEnd n f false 0 0).report (s.ethBay n) 0x2404 n (2 + 65536 * w)
    | none => s.ethEnd n f true (if ts then st else s.stamp) 0
  let s := if (lp = 1 ∨ (lp = 2 ∧ n < 2)) ∧ s.ethRxOn n then
      let good := leAt full (full.length - 4) 4 == fcs32 (full.take (full.length - 4)) && ecc.isNone
      s.ethReceive n full t0 good false false none
    else s
  s.ethHeads n

/-- The frame on the line has ended; `ecc` is the word of an uncorrectable error that inverted its FCS (R477,
R499).  In loopback the same MAC receives it (R491). -/
def State.ethDone (s : State) (n : Nat) (ecc : Option Nat) : State :=
  let s := s.ethCredits n
  match (s.ethAt n).staged.find? (fun f => f.start.isSome) with
  | none => s
  | some f => s.ethOut n ecc f

def execEthTxFrameDone (n : Nat) (ecc : Option Nat) (s : State) : Host.Outcome State Fault Refusal :=
  answer (s.ethDone n ecc)

/-! ### Link and enable (R468, R477, R504) -/

/-- The link goes up or down; a frame on the line when it falls fails (R468, R477). -/
def State.ethLink (s : State) (n : Nat) (up : Bool) (inband : Nat) : State :=
  if s.on (R.ETHn_STATUS.LINK n) = up then s
  else
    let m := s.ethMode n
    let sel := s.get (R.ETHn_CTRL.SPEED_SEL n)
    let sp := if n < 2 then (if m = 1 then 3 else if m = 2 then 2 else inband % 3)
      else if sel = 3 then (if m = 1 then inband % 3 else 1) else if m = 2 then min sel 1 else sel
    let s := s.ethCredits n
    let s := (s.flag (R.ETHn_STATUS.LINK n) up).flag (R.ETHn_IRQ_PEND.LINK_CHG n) true
    if up then (s.put (R.ETHn_STATUS.SPEED n) sp).ethHeads n
    else
      match (s.ethAt n).staged.find? (fun f => f.start.isSome) with
      | some f => s.ethEnd n f false 0 (if n < 2 then 0x2402 else 0x2403)
      | none => s

/-- ETH_LINK_CHANGE: the port's link goes up or down, with the in-band rate (R468). -/
def execEthLinkChange (n : Nat) (up : Bool) (inband : Nat) (s : State) : Host.Outcome State Fault Refusal :=
  answer (if up && (!(s.on (R.ETHn_CTRL.EN n)) || (decide (n < 2) && s.laneTest n)) then s else s.ethLink n up inband)

/-- PHY_POLL: register 1 of the PHY, as read (R468). -/
def execPhyPoll (n reg : Nat) (s : State) : Host.Outcome State Fault Refusal :=
  answer (if n < 2 ∨ s.on (R.ETHn_CTRL.EN n) = false ∨ s.get (R.ETHn_PHY_POLL.POLL_MS n) = 0 then s
  else
    let up := reg.testBit 2
    let was := s.on (R.ETHn_STATUS.LINK n)
    let s := s.ethLink n up (s.get (R.ETHn_STATUS.SPEED n))
    if was && !up then s.report (s.ethBay n) 0x2403 n (reg % 65536) else s)

/-- EN of a port: link acquisition starts, or unstarted frames are aborted and the link goes down (R496, R504). -/
def State.ethEn (s : State) (n : Nat) (en : Bool) : State :=
  if s.ethMode n = 0 then s
  else if en then s.flag (R.ETHn_CTRL.EN n) true
  else
    let s := s.ethPrune n
    let s := s.forEach ((s.ethAt n).staged.filter (fun f => f.start.isNone)) (fun f t =>
      let t := t.modEth n (fun x => { x with staged := x.staged.filter (fun g => g != f) })
      if 4 ≤ f.src then t
      else
        let q := 24 * f.src + f.k
        let one := match t.ethPair f with | some p => p.a.isNone && p.b.isNone | none => true
        match (t.qEnd q 0).inflight.find? (fun d => d.idx == f.idx && d.final.isNone && !d.committed) with
        | some d => if one then t.finishDesc q 0 f.idx 2 0 0 t.stamp d.aux else t
        | none => if f.copy = 0 then t else t.pairEnd f false 0 (if n < 2 then 0x2402 else 0x2403))
    let s := (s.flag (R.ETHn_CTRL.EN n) false).ethPrune n
    if s.on (R.ETHn_STATUS.LINK n) then
      (s.flag (R.ETHn_STATUS.LINK n) false).flag (R.ETHn_IRQ_PEND.LINK_CHG n) true else s

/-- ETH_EN (R504). -/
def execEthEn (by_ : Init) (n : Nat) (en : Bool) (s : State) : Host.Outcome State Fault Refusal :=
  answer (s.byPort by_ (10 + n) n (R.ETHn_CTRL.EN n).addr (fun t => t.ethEn n en))

/-! ### MDIO (R469, R492) -/

/-- A write of ETHn_MDIO_CMD with GO: the fields take their values; the frame starts unless BUSY. -/
def State.mdioGo (t : State) (n phy reg op wdata : Nat) : State :=
  let t := (((t.put (R.ETHn_MDIO_CMD.PHY n) phy).put (R.ETHn_MDIO_CMD.REG n) reg).put
    (R.ETHn_MDIO_CMD.OP n) op).put (R.ETHn_MDIO_CMD.WDATA n) wdata
  if n < 2 ∨ t.on (R.ETHn_MDIO_STAT.BUSY n) then t
  else (t.modEth n (fun x => { x with mdio := true })).flag (R.ETHn_MDIO_STAT.BUSY n) true

def execMdioGo (by_ : Init) (n phy reg op wdata : Nat) (s : State) : Host.Outcome State Fault Refusal :=
  answer (s.byPort by_ (10 + n) n (R.ETHn_MDIO_CMD.GO n).addr (fun t => t.mdioGo n phy reg op wdata))

/-- MDIO_DONE: BUSY clears, with the data of a read. -/
def execMdioDone (n data : Nat) (s : State) : Host.Outcome State Fault Refusal :=
  answer (if (s.ethAt n).mdio = false then s
  else
    let op := s.get (R.ETHn_MDIO_CMD.OP n)
    let t := (s.modEth n (fun x => { x with mdio := false })).flag (R.ETHn_MDIO_STAT.BUSY n) false
    if op = 0 ∨ op = 4 then t.put (R.ETHn_MDIO_STAT.RDATA n) data else t)

/-- ETHN_PTPF_INFO: the read answers the oldest entry and pops it (R483, R492). -/
def execEthnPtpfInfo (by_ : Init) (n : Nat) (s : State) : Host.Outcome State Fault Refusal :=
  answer ((s.reply1 0).act by_ (s.holds by_ (10 + n)) 0x0C02 (R.ETHn_PTPF_INFO.SEQ_ID n).addr false
    (fun t =>
      let u := t.reply [t.word (R.ETHn_PTPF_INFO.SEQ_ID n)]
      (u.modEth n (fun x => { x with ptp := x.ptp.drop 1 })).showPtp n))

/-! ### Intervals and PRP times (R488, R489, R498) -/

/-- PRP_ENTRY_EXPIRY: an entry of the table of even port `n` expires (R488). -/
def execPrpEntryExpiry (n sa seq : Nat) (s : State) : Host.Outcome State Fault Refusal :=
  answer (match (s.ethAt n).prp.find? (fun x => x.sa == sa && x.seq == seq) with
  | none => s
  | some x =>
    let s := s.modEth n (fun y => { y with prp := y.prp.filter (fun z => !(z.sa == sa && z.seq == seq)) })
    if x.lans = 1 then (s.modEth n (fun y => { y with missB := y.missB + 1 })).inc (R.ETHn_PRP_MISS_B.COUNT n)
    else if x.lans = 2 then (s.modEth n (fun y => { y with missA := y.missA + 1 })).inc (R.ETHn_PRP_MISS_A.COUNT n)
    else s)

/-- Cause 0x2405 for one LAN (R488). -/
def State.prpMiss (s : State) (n lan count : Nat) : State :=
  if s.get (R.ETHn_PRP_CTRL.MISS_LIMIT n) ≤ count then
    (s.flag (R.ETHn_IRQ_PEND.PRP_MISS n) true).report (s.ethBay n) 0x2405 n (lan + 65536 * (count % 65536))
  else s

/-- PRP_MISS_INTERVAL (R488). -/
def execPrpMissInterval (n : Nat) (s : State) : Host.Outcome State Fault Refusal :=
  answer (if s.on (R.ETHn_PRP_CTRL.PRP_EN n) then
    let x := s.ethAt n
    ((s.modEth n (fun y => { y with missA := 0, missB := 0 })).prpMiss n 0 x.missA).prpMiss n 1 x.missB
  else s)

/-- The supervision frame of the pair, without its trailer (R489). -/
def State.supFrame (s : State) (n seq : Nat) : List Byte :=
  let mac := toBE 2 (s.get (R.ETHn_MAC_HI.ADDR n)) ++ toBE 4 (s.get (R.ETHn_MAC_LO.ADDR n))
  let l := toBE 6 0x01154E000100 ++ mac ++ toBE 2 0x88FB ++ toBE 2 1 ++ toBE 2 seq ++ [20, 6] ++ mac ++ [0, 0]
  l ++ List.replicate (60 - l.length) 0

/-- PRP_SUPERVISION_SEND: a frame on each LAN, through TX queue 0 (R489). -/
def execPrpSupervisionSend (n : Nat) (s : State) : Host.Outcome State Fault Refusal :=
  answer (if s.on (R.ETHn_PRP_CTRL.PRP_EN n) && s.on (R.ETHn_PRP_CTRL.SUP_EN n) && s.on (R.ETHn_CTRL.EN n) then
    let sq := (s.ethAt n).prpSeq
    let l := s.supFrame n sq
    let s := s.modEth n (fun x => { x with prpSeq := (sq + 1) % 65536 })
    (s.ethStage n ⟨0, 4, sq, 0, true, l ++ prpTrailer sq 0 l, false, false, none, none⟩).ethStage (n + 1)
      ⟨0, 4, sq, 0, true, l ++ prpTrailer sq 1 l, false, false, none, none⟩
  else s)

/-- FCS_ERROR_INTERVAL (R498). -/
def execFcsErrorInterval (n : Nat) (s : State) : Host.Outcome State Fault Refusal :=
  let x := s.ethAt n
  let t := s.modEth n (fun y => { y with rxFrames := 0, rxErrs := 0 })
  answer (if x.rxFrames < 1000000 * x.rxErrs then
    (t.flag (R.ETHn_IRQ_PEND.FCS_HIGH n) true).report (t.ethBay n) 0x2401 n x.rxErrs
  else t)

/-- BLOCK_LOCK_LOSS: lost for more than 1 ms while LINK was 1 (R498). -/
def execBlockLockLoss (n : Nat) (s : State) : Host.Outcome State Fault Refusal :=
  answer (if decide (n < 2) && s.on (R.ETHn_STATUS.LINK n) then (s.ethLink n false 0).report (s.ethBay n) 0x2402 n n
  else s)

/-- PRP_EN as a write leaves it: both ports enabled, in one mode and at one rate, and of one bay (R484). -/
def State.prpAllowed (s : State) (n : Nat) : Bool :=
  n % 2 == 0 && s.ethMode n != 0 && s.ethMode n == s.ethMode (n + 1) &&
  (decide (n < 2) || s.get (R.ETHn_CTRL.SPEED_SEL n) == s.get (R.ETHn_CTRL.SPEED_SEL (n + 1))) &&
  (s.ownPeriph (10 + n)).isSome && s.ownPeriph (10 + n) == s.ownPeriph (11 + n)

/-- Block reset of a port: its registers, memories, tables and credits; DOWNGRADED and OUT_OF_SERVICE stay
(R184, R503). -/
def State.resetEth (s : State) (n : Nat) : State :=
  let dg := s.on (R.ETHn_STATUS.DOWNGRADED n)
  let oo := s.on (R.ETHn_STATUS.OUT_OF_SERVICE n)
  let s := s.forEach (s.ethAt n).staged (fun f t =>
    if 4 ≤ f.src then t
    else
      let q := 24 * f.src + f.k
      match (t.qEnd q 0).inflight.find? (fun d => d.idx == f.idx && d.final.isNone) with
      | some d => if d.committed then t.finishDesc q 0 f.idx 3 0x0805 0 t.stamp d.aux
        else t.finishDesc q 0 f.idx 2 0 0 t.stamp d.aux
      | none => t)
  let s := (s.modEth n (fun _ => { EthPort.cold with creditAt := s.now })).resetRegs (0x40080000 + 0x10000 * n) (0x40090000 + 0x10000 * n)
  (s.flag (R.ETHn_STATUS.DOWNGRADED n) dg).flag (R.ETHn_STATUS.OUT_OF_SERVICE n) oo

end Sys2Proof.Machine
end

