-- ==== Sys2Proof/Machine/Can.lean ====
section
/-! DEFINITION.
CAN controllers (chapter 14). -/

namespace Sys2Proof.Machine

def State.canAt (s : State) (n : Nat) : CanPort := s.port.can.getD n CanPort.cold
def State.modCan (s : State) (n : Nat) (f : CanPort → CanPort) : State :=
  { s with port := { s.port with can := updAt s.port.can n f } }
def State.canBay (s : State) (n : Nat) : Nat := ownerOr0 (s.ownPeriph (14 + n))

/-- Twin mode of the pair of a controller, and the controller whose settings it uses (R525). -/
def State.canTwin (s : State) (n : Nat) : Bool := s.on (R.CANn_CTRL.TWIN_EN (n / 2 * 2))
def State.canCfg (s : State) (n : Nat) : Nat := if s.canTwin n then n / 2 * 2 else n

/-- MODE in force: a passive port is in listen-only mode (R325). -/
def State.canMode (s : State) (n : Nat) : Nat := if s.portQuiet (4 + n) then 1 else s.get (R.CANn_CTRL.MODE (s.canCfg n))

/-- TSC: CAN_CLK cycles since its start (R515). -/
def State.canTsc (s : State) (n : Nat) : Nat := (s.time.edges - (s.canAt n).tscFrom) * 8 / 25 % 4294967296

/-! ### Frames and bit timing (R508 to R511, R521) -/

def State.txWord (s : State) (n b w : Nat) : Nat := s.get (R.CANn_TXBUF.ALL n b w)

/-- Data bytes that a DLC gives. -/
def dlcLen (fdf : Bool) (d : Nat) : Nat :=
  if d ≤ 8 then d else if fdf = false then 8
  else if d = 9 then 12 else if d = 10 then 16 else if d = 11 then 20 else if d = 12 then 24
  else if d = 13 then 32 else if d = 14 then 48 else 64

def w1Fdf (w : Nat) : Bool := w.testBit 4
def w1Brs (w : Nat) : Bool := w.testBit 5
def frameLen (w0 w1 : Nat) : Nat := if w0.testBit 30 ∧ ¬ w1Fdf w1 then 0 else dlcLen (w1Fdf w1) (w1 % 16)

/-- A bit length in units of 12.5 ns: nominal and data (R508). -/
def State.nbit (s : State) (n : Nat) : Nat :=
  (s.get (R.CANn_NBT.BRP n) + 1) * (3 + s.get (R.CANn_NBT.TSEG1 n) + s.get (R.CANn_NBT.TSEG2 n))
def State.dbit (s : State) (n : Nat) : Nat :=
  (s.get (R.CANn_DBT.DBRP n) + 1) * (3 + s.get (R.CANn_DBT.DTSEG1 n) + s.get (R.CANn_DBT.DTSEG2 n))

/-- Bits of a frame at the nominal and at the data rate (R521). -/
def frameBits (w0 w1 : Nat) : Nat × Nat :=
  let n := frameLen w0 w1
  let x := w0.testBit 29
  if w1Fdf w1 = false then
    (if x then 8 * n + 67 + (53 + 8 * n) / 4 else 8 * n + 47 + (33 + 8 * n) / 4, 0)
  else
    let d := 5 + 8 * n + (5 + 8 * n) / 4 + (if n ≤ 16 then 27 else 32)
    let a := if x then 57 else 34
    if w1Brs w1 then (a, d) else (a + d, 0)

/-- Duration of a frame in ns, rounded up (R439, R521). -/
def State.canTime (s : State) (n w0 w1 : Nat) : Nat :=
  let c := s.canCfg n
  let (a, d) := frameBits w0 w1
  ((a * s.nbit c + d * s.dbit c) * 25 + 1) / 2

/-- The place of a frame in arbitration: the lower wins (R516). -/
def arbKey (w0 : Nat) : Nat :=
  let rtr := b2n (w0.testBit 30)
  if w0.testBit 29 then field w0 18 11 * 2097152 + 1048576 + 524288 + field w0 0 18 * 2 + rtr
  else field w0 18 11 * 2097152 + rtr * 1048576

/-- The bit timing that R509 refuses. -/
def State.timingBad (s : State) (n : Nat) : Bool :=
  decide (s.nbit n < 80) || decide (s.dbit n < 10) ||
  decide (s.get (R.CANn_NBT.TSEG2 n) < s.get (R.CANn_NBT.SJW n)) ||
  decide (s.get (R.CANn_DBT.DTSEG2 n) < s.get (R.CANn_DBT.DSJW n))

/-! ### Error states (R528) -/

/-- STATE follows the error counts; its changes pend, and error passive and bus-off are reported.  `tec` is the
count before saturation. -/
def State.canState (s : State) (n tec rec_ : Nat) : State :=
  let was := s.get (R.CANn_STATUS.STATE n)
  let s := (s.put (R.CANn_STATUS.TEC n) (min tec 255)).put (R.CANn_STATUS.REC n) (min rec_ 255)
  let now := if 255 < tec then 2 else if 128 ≤ tec ∨ 128 ≤ rec_ then 1 else 0
  if was = now ∨ was = 2 ∨ was = 3 then s
  else
    let s := (s.put (R.CANn_STATUS.STATE n) now).flag (R.CANn_IRQ_PEND.STATE n) true
    if now = 1 then s.report (s.canBay n) 0x2801 n (min tec 255 + 256 * min rec_ 255)
    else if now = 2 then
      (s.modCan n (fun x => { x with verdict := false, recover := false })).report (s.canBay n) 0x2802 n
        (s.word (R.CANn_LEC.NOM n)).toNat
    else s

/-- LEC (R543). -/
def State.canLec (s : State) (n code : Nat) (dataPhase : Bool) : State :=
  if dataPhase then s.put (R.CANn_LEC.DATA n) code else s.put (R.CANn_LEC.NOM n) code

/-! ### Requests, aborts and ends of buffers (R516 to R520, R531) -/

def State.bufPending (s : State) (n b : Nat) : Bool := s.bit (R.CANn_TXREQ.REQ n) b

/-- A buffer becomes final: status, CAUSE, TXDONE, and the descriptor that feeds it (R518, R531). -/
def State.canFinal (s : State) (n b status cause tsc stamp : Nat) : State :=
  let s := (s.clrB (R.CANn_TXREQ.REQ n) b).clrB (R.CANn_TXABORT.ABORT n) b
  let s := (s.put (R.CANn_TXSTATb.STATUS n b) status).put (R.CANn_TXSTATb.CAUSE n b) cause
  let s := s.setB (R.CANn_TXDONE.DONE n) b
  let s := if s.bit (R.CANn_TXDONE_EN.EN n) b then s.flag (R.CANn_IRQ_PEND.TX_DONE n) true else s
  let s := if cause = 1 ∨ cause = 2 then
      s.report (s.canBay n) 0x2804 n (b + 256 * cause + 65536 * s.get (R.CANn_TXSTATb.FAILS n b)) else s
  let s := s.modCan n (fun x => { x with committed := clrBit x.committed b, leftA := if status % 4 = 1 then x.leftA else clrBit x.leftA b,
                                         leftB := if status % 4 = 1 then x.leftB else clrBit x.leftB b })
  match SMap.get 0 (s.canAt n).fed b with
  | 0 => s
  | j + 1 =>
    let q := s.get (R.CANn_QBIND.TXQ n)
    let s := (s.modCan n (fun x => { x with fed := SMap.set 0 x.fed b 0 })).flag (R.CANn_TXSTATb.QUEUED n b) false
    match (s.qEnd q 0).inflight.find? (fun d => d.idx == j && d.final.isNone) with
    | none => s
    | some d =>
      let code := if cause = 1 ∨ cause = 2 then 0x2804 else if cause = 3 then 0x2802 else 0
      let aux := toLE 2 code ++ toLE 2 cause ++ toLE 4 tsc ++ d.aux.drop 8
      if status % 4 = 1 then s.finishDesc q 0 j 1 0 d.len stamp aux
      else if status = 2 then s.finishDesc q 0 j 2 0 0 s.stamp aux
      else s.finishDesc q 0 j 3 0x0805 0 stamp aux

/-- Whether a buffer lies in the range that the TX queue feeds (R531). -/
def State.inQbuf (s : State) (n b : Nat) : Bool :=
  let f := s.get (R.CANn_QBUF.FIRST n)
  s.on (R.CANn_QBIND.TXQ_EN n) && decide (f ≤ b) && decide (b < f + s.get (R.CANn_QBUF.COUNT n))

/-- One buffer requested: causes 8, 7 and 5 at once, else PENDING (R516, R518, R442). -/
def State.canRequest (s : State) (n b : Nat) : State :=
  if s.bufPending n b then s
  else
    let c := s.canCfg n
    let w0 := s.txWord n b 0
    let w1 := s.txWord n b 1
    let s := ((s.put (R.CANn_TXSTATb.STATUS n b) 0).put (R.CANn_TXSTATb.CAUSE n b) 0).put (R.CANn_TXSTATb.FAILS n b) 0
    let bad := (w1Fdf w1 && !(s.on (R.CANn_CTRL.FD_EN c))) || (w0.testBit 30 && w1Fdf w1) || (w1Brs w1 && !(w1Fdf w1))
    if s.canMode n = 1 ∨ s.on (R.CANn_STATUS.OUT_OF_SERVICE n) then s.canFinal n b 3 8 0 s.stamp
    else if bad then s.canFinal n b 3 7 0 s.stamp
    else if s.tooLong (4 + n) b (s.canTime n w0 w1) then s.canFinal n b 3 5 0 s.stamp
    else
      let s := s.setB (R.CANn_TXREQ.REQ n) b
      let two := s.canTwin n && n % 2 == 0
      let s := s.modCan n (fun x => { x with
        leftA := if two then setBit x.leftA b else clrBit x.leftA b
        leftB := if two then setBit x.leftB b else clrBit x.leftB b
        okA := clrBit x.okA b, okB := clrBit x.okB b, failsB := SMap.set 0 x.failsB b 0, causeA := SMap.set 0 x.causeA b 0 })
      let s := match s.portCtx (4 + n) with
        | some (m, x) =>
          let join : OpenWin → OpenWin := fun w =>
            if w.port = 4 + n ∧ w.opened = s.now ∧ C.QDRS1.KIND w.row = 0 ∧ C.QDRS1.SENDER w.row = b
            then { w with batch := [b] } else w
          s.putCtx m (some { x with wins := x.wins.map join })
        | none => s
      s.readyIn (4 + n) b

/-- TXREQ: bits of the QBUF range are ignored (R516, R531). -/
def State.canTxreq (t : State) (n mask : Nat) : State :=
  t.forEach (indices 32 (fun b => mask.testBit b && !(t.inQbuf n b))) (fun b u => u.canRequest n b)

def execTxreq (by_ : Init) (n mask : Nat) (s : State) : Host.Outcome State Fault Refusal :=
  answer (s.byPort by_ (14 + n) (4 + n) (R.CANn_TXREQ.REQ n).addr (fun t => t.canTxreq n mask))

/-- An abort of one buffer (R519). -/
def State.canAbort (s : State) (n b : Nat) : State :=
  if s.bufPending n b = false then s
  else if (s.canAt n).committed.testBit b then s.setB (R.CANn_TXABORT.ABORT n) b
  else s.canFinal n b 2 0 0 s.stamp

def State.canTxabort (t : State) (n mask : Nat) : State :=
  t.forEach (indices 32 (fun b => mask.testBit b && !(t.inQbuf n b))) (fun b u => u.canAbort n b)

def execTxabort (by_ : Init) (n mask : Nat) (s : State) : Host.Outcome State Fault Refusal :=
  answer (s.byPort by_ (14 + n) (4 + n) (R.CANn_TXABORT.ABORT n).addr (fun t => t.canTxabort n mask))

/-- A frame record of a TX descriptor: words 0 and 1, then the data bytes that DLC gives (R531). -/
def recordOk (l : List Byte) : Bool :=
  decide (8 ≤ l.length) && l.length == 8 + frameLen (leAt l 0 4) (leAt l 4 4)

/-- A record written into a buffer. -/
def State.canFill (s : State) (n b : Nat) (l : List Byte) : State :=
  let s := (s.put (R.CANn_TXBUF.ALL n b 0) (leAt l 0 4)).put (R.CANn_TXBUF.ALL n b 1) (leAt l 4 4)
  s.forEach (List.range 16) (fun k t => t.put (R.CANn_TXBUF.ALL n b (4 + k)) (leAt l (8 + 4 * k) 4))

/-- Buffers whose descriptor an abort has made final end ABORTED; an abort of a committed one stays pending
(R519). -/
def State.canPrune (s : State) (n : Nat) : State :=
  let q := s.get (R.CANn_QBIND.TXQ n)
  s.forEach (s.canAt n).fed (fun e t =>
    match (t.qEnd q 0).inflight.find? (fun d => d.idx == e.2 - 1) with
    | some d =>
      if d.final.isSome then t.canAbort n e.1
      else if d.abortLate then t.setB (R.CANn_TXABORT.ABORT n) e.1 else t
    | none => t.canAbort n e.1)

/-- The records of fetched TX descriptors copied into the lowest free buffers of the range (R531). -/
def State.canFeed (s : State) (n : Nat) : State :=
  let s := s.canPrune n
  if s.on (R.CANn_QBIND.TXQ_EN n) = false then s
  else
    let q := s.get (R.CANn_QBIND.TXQ n)
    (List.range (s.get (R.CANn_QBUF.COUNT n))).foldl (fun s _ =>
      match s.agentNext q 0, (List.range 32).find? (fun b => s.inQbuf n b && !(s.bufPending n b)) with
      | some d, some b =>
        if s.on (R.QMGR_STAT.GATED q 0) then s
        else
          match s.agentRead q 0 d with
          | (s, none) => s
          | (s, some l) =>
            if recordOk l = false then
              (s.finishDesc q 0 d.idx 3 0x0804 0 s.stamp d.aux).report (ownerOr0 (s.queueEnd q 0)) 0x1401 q (2 + 65536 * d.idx)
            else
              let s := (s.agentTake q 0 d.idx).canFill n b l
              let s := s.modCan n (fun x => { x with fed := SMap.set 0 x.fed b (d.idx + 1) })
              (s.flag (R.CANn_TXSTATb.QUEUED n b) true).canRequest n b
      | _, _ => s) s

/-! ### Receive (R512 to R515, R523 to R526, R532) -/

def State.canFilter (s : State) (n f w : Nat) : Nat := s.get (R.CANn_FILTER.ALL n f w)

/-- Whether filter `f` is enabled and matches (R512). -/
def State.filterHits (s : State) (n w0 f : Nat) : Bool :=
  let a := s.canFilter n f 0
  let m := s.canFilter n f 1
  let act := field (s.canFilter n f 2) 0 3
  decide (1 ≤ act) && decide (act ≤ 4) && a.testBit 29 == w0.testBit 29 &&
  ((a ^^^ w0) &&& (m % 536870912)) == 0 && (!(m.testBit 29) || a.testBit 30 == w0.testBit 30)

/-- A frame written to RX buffer `r`. -/
def State.canStore (s : State) (n r : Nat) (ws : List Nat) (ovw : Bool) : State :=
  s.forEach (List.range 20) (fun w t => t.put (R.CANn_RXBUF.ALL n r w)
    (let v := ws.getD w 0; if w = 1 ∧ ovw then setBit v 16 else v))

/-- A frame for the RX FIFO (R513). -/
def State.canFifo (s : State) (n : Nat) (ws : List Nat) : State :=
  let z := min 64 (s.get (R.CANn_RXF_CFG.SIZE n))
  let fill := s.get (R.CANn_RXF_STAT.FILL n)
  let g := s.get (R.CANn_RXF_STAT.GET n)
  if fill < z then
    ((s.canStore n ((g + fill) % z) ws false).put (R.CANn_RXF_STAT.FILL n) (fill + 1)).flag (R.CANn_IRQ_PEND.RX_FIFO n) true
  else if s.on (R.CANn_CTRL.RXF_OVW n) ∧ 0 < z then
    ((s.canStore n g ws true).put (R.CANn_RXF_STAT.GET n) ((g + 1) % z)).flag (R.CANn_IRQ_PEND.RX_FIFO n) true
  else (s.inc (R.CANn_RXF_STAT.LOST n)).flag (R.CANn_IRQ_PEND.RX_LOST n) true

/-- A frame for a dedicated buffer (R513). -/
def State.canDedicated (s : State) (n r : Nat) (ws : List Nat) : State :=
  let f := if r < 32 then R.CANn_RXB_NEW_LO.NEW n else R.CANn_RXB_NEW_HI.NEW n
  let ovw := s.bit f (r % 32)
  ((s.canStore n r ws ovw).setB f (r % 32)).flag (R.CANn_IRQ_PEND.RX_BUF n) true

/-- A frame for the RX queue (R532). -/
def State.canRxq (s : State) (n : Nat) (ws : List Nat) (len : Nat) : State :=
  let q := s.get (R.CANn_QBIND.RXQ n)
  let l := ((ws.flatMap (fun w => toLE 4 w)).take (16 + len))
  let drop : State → State := fun t => (t.inc (R.CANn_RX_DROPPED.COUNT n)).flag (R.CANn_IRQ_PEND.RX_LOST n) true
  match s.agentNext q 1 with
  | none => drop s
  | some d =>
    if d.len < l.length then drop s
    else
      match s.agentWrite q 1 d 0 l with
      | (s, false) => s
      | (s, true) => s.finishDesc q 1 d.idx 1 0 l.length (ws.getD 3 0) (toLE 4 (ws.getD 2 0) ++ List.replicate 8 0)

/-- A frame filtered and stored through controller `c`; only a frame that no filter matches is counted as
discarded (R512). -/
def State.canAccept (s : State) (c w0 w1 tsc stamp : Nat) (data : List Byte) : State :=
  let ws : Nat → List Nat := fun f => [w0, (w1 % 64) + 256 * f + (w1 &&& 0x20000), tsc, stamp] ++
    (List.range 16).map (fun k => leAt data (4 * k) 4)
  let len := frameLen w0 w1
  match (List.range 64).find? (s.filterHits c w0) with
  | some f =>
    let a := s.canFilter c f 2
    let act := field a 0 3
    let buf := field a 8 6
    if act = 1 then s.canFifo c (ws f)
    else if act = 2 then (if buf < s.get (R.CANn_RXF_CFG.SIZE c) then s else s.canDedicated c buf (ws f))
    else if act = 3 then (if s.on (R.CANn_QBIND.RXQ_EN c) then s.canRxq c (ws f) len else s)
    else s
  | none =>
    if (if w0.testBit 29 then s.on (R.CANn_CTRL.XTD_ACC c) else s.on (R.CANn_CTRL.STD_ACC c)) then s.canFifo c (ws 0xFF)
    else s.inc (R.CANn_RX_DROPPED.COUNT c)

/-- The N_CYCLES of the context in mode 2 that names controller `n` as its reference port (R450, R524). -/
def State.canCycles (s : State) (n : Nat) : Nat :=
  match (List.range 4).findSome? (fun m => match s.ctx m with
      | some x => if x.mode = 2 ∧ s.get (R.QDRn_ALIGN.REF_PORT m) = n then some x.mat.cycles else none
      | none => none) with
  | some k => max 1 k
  | none => 64

/-- A reference message at controller `n` (R523, R524). -/
def State.canRef (s : State) (n w0 sof : Nat) (data : List Byte) : State :=
  let hit := s.on (R.CANn_CTRL.TT_REF_EN n) && s.on (R.CANn_TT_REF_ID.XTD n) == w0.testBit 29 &&
    ((s.get (R.CANn_TT_REF_ID.ID n) ^^^ (w0 % 536870912)) &&& s.get (R.CANn_TT_REF_MASK.MASK n)) == 0
  if hit = false then s
  else
    let cc := leAt data 0 1 % 64
    let prev := s.get (R.CANn_TT_STAT.CYCLE n)
    let cyc := s.canCycles n
    let bad := (s.canAt n).refEver && cc % cyc != (prev + 1) % cyc
    let s := (s.put (R.CANn_TT_STAT.CYCLE n) cc).flag (R.CANn_TT_STAT.GAP n) ((leAt data 0 1).testBit 7)
    let s := (s.put (R.CANn_TT_STAT.MISSED n) 0).put (R.CANn_TT_REF_STAMP.STAMP n) sof
    let s := (s.put (R.CANn_TT_REF_DATA_LO.DATA n) (leAt data 0 4)).put (R.CANn_TT_REF_DATA_HI.DATA n) (leAt data 4 4)
    let s := (s.flag (R.CANn_IRQ_PEND.TT_REF n) true).modCan n (fun x => { x with refSeen := true, refEver := true })
    let s := if bad then
        (s.flag (R.CANn_IRQ_PEND.TT_ERR n) true).report (s.canBay n) 0x2806 n (1 + 256 * ((prev + 1) % cyc) + 65536 * cc)
      else s
    s.refMessage n sof cc

/-- The twin key of a frame (R526). -/
def twinKey (w0 w1 crc : Nat) : Nat := (w0 % 2147483648) + 2147483648 * (w1 % 32) + 68719476736 * crc

/-- A copy of a twin pair: true where it is a first copy, which is delivered (R526). -/
def State.twinFrame (s : State) (e bus key : Nat) : State × Bool :=
  match (s.canAt e).twin.find? (fun x => x.key == key && decide (s.now < x.expiry) && !(x.buses.testBit bus)) with
  | some _ =>
    ((s.modCan e (fun y => { y with twin := y.twin.map (fun x =>
      if x.key = key then { x with buses := setBit x.buses bus } else x) })).inc (R.CANn_TWIN_DUP.COUNT e), false)
  | none =>
    (s.modCan e (fun y =>
      let l := y.twin.filter (fun x => x.key != key)
      { y with twin := (if 16 ≤ l.length then l.drop 1 else l) ++
          [⟨key, 2 ^ bus, s.now + 1000 * s.get (R.CANn_TWIN_CFG.WINDOW_US e)⟩] }), true)

/-- A frame that became valid at controller `n`: words 0 and 1, data, CRC field, start of frame in steady ns as
captured, before the correction of R403 (R514, R515). -/
def State.canValid (s : State) (n w0 w1 crc sof : Nat) (data : List Byte) : State :=
  let at_ := sof - 25
  let tsc := (s.canTsc n + 4294967296 - (s.now - at_) * 2 / 25 % 4294967296) % 4294967296
  let stamp := at_ % 4294967296
  let s := s.inc (R.CANn_RX_FRAMES.COUNT n)
  let s := if w1Fdf w1 then s.inc (R.CANn_RX_FD.COUNT n) else s
  let s := s.canRef n w0 at_ data
  if s.canTwin n then
    let e := n / 2 * 2
    match s.twinFrame e (n % 2) (twinKey w0 w1 crc) with
    | (s, false) => s
    | (s, true) => s.canAccept e w0 ((w1 % 64) + 131072 * (n % 2)) tsc stamp data
  else
    match s.heard (4 + n) at_ (twinKey w0 w1 crc) (w0 % 65536) with
    | (s, true) => s
    | (s, false) => s.canAccept n w0 (w1 % 64) tsc stamp data

/-- Whether a controller takes part in bus traffic. -/
def State.canActive (s : State) (n : Nat) : Bool :=
  s.on (R.CANn_CTRL.EN (s.canCfg n)) && decide (s.get (R.CANn_STATUS.STATE n) < 2)

/-- CAN_RX_FRAME_VALID: `errs` receive errors with last code `lec` were counted since the frame before (R514,
R528); with FD_EN 0 an FD frame is a form error (R505). -/
def execCanRxFrameValid (n w0 w1 crc sof : Nat) (data : List Byte) (errs lec : Nat) (s : State) :
    Host.Outcome State Fault Refusal :=
  answer (if s.canActive n = false ∨ s.canMode n = 2 then s
  else
    let tec := s.get (R.CANn_STATUS.TEC n)
    let rec_ := s.get (R.CANn_STATUS.REC n) + errs
    let s := if 0 < errs then ((s.canLec n lec false).addSat (R.CANn_ERR_FRAMES.COUNT n) errs).canState n tec rec_ else s
    if w1Fdf w1 && !(s.on (R.CANn_CTRL.FD_EN (s.canCfg n))) then
      ((s.canLec n 2 false).inc (R.CANn_ERR_FRAMES.COUNT n)).canState n tec (rec_ + 1)
    else
      let f := s.freeW % 9
      let (s, down) : State × Nat := if rec_ = 0 then (s, 0) else if rec_ ≤ 127 then (s, rec_ - 1) else (s.took 1, 119 + f)
      (s.canState n tec down).canValid n w0 w1 crc sof data)

/-! ### Transmission (R516 to R522, R527) -/

/-- The buffers that may start on the bus of controller `n`, as controller and number. -/
def State.canCandidates (s : State) (n : Nat) : List (Nat × Nat) :=
  if s.canTwin n then
    let e := n / 2 * 2
    (indices 32 (fun b => (if n % 2 = 0 then (s.canAt e).leftA else (s.canAt e).leftB).testBit b)).map (fun b => (e, b)) ++
    (if n % 2 = 1 then (indices 32 (s.bufPending n)).map (fun b => (n, b)) else [])
  else (indices 32 (s.bufPending n)).map (fun b => (n, b))

/-- The winner among candidates (R516). -/
def State.canPick (s : State) (n : Nat) : Option (Nat × Nat) :=
  let ok : Nat × Nat → Bool := fun x =>
    s.winOpen (4 + n) x.2 none && s.fits (4 + n) (s.canTime n (s.txWord x.1 x.2 0) (s.txWord x.1 x.2 1))
  (s.canCandidates n).foldl (fun m x =>
    if ok x then
      match m with
      | none => some x
      | some y => if arbKey (s.txWord x.1 x.2 0) < arbKey (s.txWord y.1 y.2 0) then some x else m
    else m) none

/-- Start of frame driven for a buffer: its commit point (R519). -/
def State.canDrive (s : State) (n c b excl : Nat) : State :=
  let s := s.modCan n (fun x => { x with tx := some ⟨c, b, s.now, excl⟩ })
  let s := s.modCan c (fun x => { x with committed := setBit x.committed b })
  match SMap.get 0 (s.canAt c).fed b with
  | 0 => s
  | j + 1 => s.modDesc (s.get (R.CANn_QBIND.TXQ c)) 0 j (fun d => { d with committed := true })

/-- CAN_FRAME_START by arbitration; an exclusive window starts its sender itself (R522).  `ecc` is the word of
an uncorrectable error in the buffer (R547). -/
def State.canStart (s : State) (n : Nat) (ecc : Option Nat) : State :=
  let s := (s.canFeed (s.canCfg n)).canFeed n
  let excl := match s.inForce (4 + n) with | some w => C.QDRS1.KIND w.row == 0 | none => false
  if s.canActive n && (s.canAt n).tx.isNone && !excl && !(s.on (R.CANn_STATUS.OUT_OF_SERVICE n)) && !(s.portTest 0x2802 n) &&
      s.canMode n != 1 then
    match s.canPick n with
    | none => s
    | some (c, b) =>
      match ecc with
      | some w => (s.canFinal c b 3 7 0 s.stamp).report (s.canBay c) 0x2803 c (1 + 16 * w)
      | none => s.canDrive n c b 0
  else s

def execCanFrameStart (n : Nat) (ecc : Option Nat) (s : State) : Host.Outcome State Fault Refusal :=
  answer (s.canStart n ecc)

/-- A copy on two buses fails: FAILED when both have, with the cause of bus A (R453, R527). -/
def State.copyFail (s : State) (c b bus cause : Nat) : State :=
  let s := s.modCan c (fun x => { x with
    leftA := if bus = 0 then clrBit x.leftA b else x.leftA
    leftB := if bus = 1 then clrBit x.leftB b else x.leftB
    causeA := if bus = 0 then SMap.set 0 x.causeA b cause else x.causeA })
  let x := s.canAt c
  if s.bufPending c b && !(x.leftA.testBit b) && !(x.leftB.testBit b) then
    s.canFinal c b 3 (let k := SMap.get 0 x.causeA b; if k = 0 then cause else k) 0 s.stamp
  else s

/-- A buffer, or its copy on the bus of `n`, ends FAILED with a cause. -/
def State.canFail (s : State) (n : Nat) (t : CanTx) (cause : Nat) : State :=
  let x := s.canAt t.ctrl
  if x.leftA.testBit t.buf ∨ x.leftB.testBit t.buf then s.copyFail t.ctrl t.buf (n % 2) cause
  else s.canFinal t.ctrl t.buf 3 cause 0 s.stamp

/-- FAILS of a buffer, or of its bus B copy, raised by one; the new count (R517). -/
def State.canFails (s : State) (n : Nat) (t : CanTx) : State × Nat :=
  if n % 2 = 1 ∧ t.ctrl ≠ n then
    let k := SMap.get 0 (s.canAt t.ctrl).failsB t.buf + 1
    (s.modCan t.ctrl (fun x => { x with failsB := SMap.set 0 x.failsB t.buf k }), k)
  else
    let s := s.inc (R.CANn_TXSTATb.FAILS t.ctrl t.buf)
    (s, s.get (R.CANn_TXSTATb.FAILS t.ctrl t.buf))

/-- An attempt that succeeded (R515, R518, R527). -/
def State.canSent (s : State) (n : Nat) (t : CanTx) (sof : Nat) : State :=
  let at_ := sof - 25
  let tsc := (s.canTsc n + 4294967296 - (s.now - at_) * 2 / 25 % 4294967296) % 4294967296
  let stamp := at_ % 4294967296
  let late := s.bit (R.CANn_TXABORT.ABORT t.ctrl) t.buf
  let pend := s.bufPending t.ctrl t.buf
  let two := (s.canAt t.ctrl).leftA.testBit t.buf || (s.canAt t.ctrl).leftB.testBit t.buf
  let s := if pend || n == t.ctrl then
      (s.put (R.CANn_TXBUF.ALL t.ctrl t.buf 2) tsc).put (R.CANn_TXBUF.ALL t.ctrl t.buf 3) stamp else s
  let s := if two then s.modCan t.ctrl (fun x => { x with
      leftA := if n % 2 = 0 then clrBit x.leftA t.buf else x.leftA
      leftB := if n % 2 = 1 then clrBit x.leftB t.buf else x.leftB
      okA := if n % 2 = 0 then setBit x.okA t.buf else x.okA
      okB := if n % 2 = 1 then setBit x.okB t.buf else x.okB }) else s
  if pend then s.canFinal t.ctrl t.buf (if late then 5 else 1) 0 tsc stamp else s

/-- Every requested buffer past its commit point fails on entry to bus-off (R520). -/
def State.canBusOff (s : State) (n : Nat) : State :=
  s.forEach (indices 32 (fun b => s.bufPending n b && (s.canAt n).committed.testBit b)) (fun b t => t.canFinal n b 3 3 0 t.stamp)

/-- A transmission attempt ends: 0 success, 1 arbitration lost, 2 an error with its LEC code (R517 to R522). -/
def State.canAttempt (s : State) (n r lec : Nat) (dataPhase : Bool) (sof : Nat) : State :=
  let s := s.canPrune n
  match (s.canAt n).tx with
  | none => s
  | some t =>
    let force := (s.canAt n).forceErr
    let r := if force then 2 else r
    let lec := if force then 4 else lec
    let s := s.modCan n (fun x => { x with tx := none, forceErr := false })
    let tec := s.get (R.CANn_STATUS.TEC n)
    let rec_ := s.get (R.CANn_STATUS.REC n)
    let w0 := s.txWord t.ctrl t.buf 0
    let w1 := s.txWord t.ctrl t.buf 1
    if r = 0 then
      let s := (s.inc (R.CANn_TX_FRAMES.COUNT n)).canState n (tec - 1) rec_
      let s := s.canSent n t sof
      let md := s.canMode n
      if md = 2 ∨ md = 3 then
        s.canValid n (w0 % 2147483648 + (if w1Fdf w1 && s.get (R.CANn_STATUS.STATE n) == 1 then 2147483648 else 0)) w1 0 sof ((List.range 16).flatMap (fun k => toLE 4 (s.txWord t.ctrl t.buf (4 + k))))
      else s
    else if r = 1 then
      let s := s.inc (R.CANn_ARB_LOST.COUNT n)
      if s.bit (R.CANn_TXABORT.ABORT t.ctrl) t.buf then s.canFinal t.ctrl t.buf 2 0 0 s.stamp
      else if t.excl ≠ 0 then s.canFail n t 4
      else if s.on (R.CANn_CTRL.ARB_EXCL (s.canCfg n)) then s
      else
        let (s, k) := s.canFails n t
        if s.get (R.CANn_CTRL.RETRY (s.canCfg n)) < k then s.canFail n t 2 else s
    else
      let up := if lec = 3 ∧ s.get (R.CANn_STATUS.STATE n) = 1 then tec else tec + 8
      let s := ((s.canLec n lec dataPhase).inc (R.CANn_ERR_FRAMES.COUNT n)).canState n up rec_
      if s.get (R.CANn_STATUS.STATE n) = 2 then
        let s := if t.ctrl = n then s else s.canFail n t 3
        s.canBusOff n
      else if t.excl ≠ 0 then s.canFail n t 4
      else
        let (s, k) := s.canFails n t
        if s.get (R.CANn_CTRL.RETRY (s.canCfg n)) < k then s.canFail n t 1 else s

def execCanTxAttemptEnd (n r lec : Nat) (dataPhase : Bool) (sof : Nat) (s : State) : Host.Outcome State Fault Refusal :=
  answer (s.canAttempt n r lec dataPhase sof)

/-- The exclusive sender of a window at its start edge, `busy` being the bus (R522); a controller that takes no
part in bus traffic leaves it PENDING (R520, R545). -/
def State.canExclusive (s : State) (n c b : Nat) (busy two : Bool) : State :=
  if s.bufPending c b = false ∨ s.portQuiet (4 + n) = true ∨ s.canActive n = false ∨ s.canMode n = 1 ∨
      s.on (R.CANn_STATUS.OUT_OF_SERVICE n) = true ∨ s.portTest 0x2802 n = true then s
  else
    let t : CanTx := ⟨c, b, s.now, if two then 2 else 1⟩
    if busy || (s.canAt n).tx.isSome then s.canFail n t 4
    else s.canDrive n c b t.excl

/-! ### Enable, recovery and latches (R507, R509, R515, R529) -/

/-- EN of a controller; in twin mode the even one enables both (R507, R509, R525). -/
def State.canEn (s : State) (n : Nat) (en : Bool) : State :=
  let l := if s.canTwin n then [n, n + 1] else [n]
  if s.canTwin n && n % 2 == 1 then s
  else if en then
    if s.timingBad n then (s.flag (R.CANn_CTRL.EN n) false).flag (R.CANn_STATUS.TIMING_ERR n) true
    else if s.on (R.CANn_CTRL.EN n) then s
    else
      let s := (s.flag (R.CANn_CTRL.EN n) true).flag (R.CANn_STATUS.TIMING_ERR n) false
      s.forEach l (fun k t => t.modCan k (fun x => { x with joining := true }))
  else
    let s := s.flag (R.CANn_CTRL.EN n) false
    s.forEach l (fun k t =>
      let t := t.modCan k (fun x => { x with joining := false, tx := none })
      if t.get (R.CANn_STATUS.STATE k) = 3 then t
      else (t.put (R.CANn_STATUS.STATE k) 3).flag (R.CANn_IRQ_PEND.STATE k) true)

def execCanEn (by_ : Init) (n : Nat) (en : Bool) (s : State) : Host.Outcome State Fault Refusal :=
  answer (s.byPort by_ (14 + n) (4 + n) (R.CANn_CTRL.EN n).addr (fun t => t.canEn n en))

/-- Error active with both counts 0. -/
def State.canFresh (s : State) (n : Nat) : State :=
  let s := ((s.put (R.CANn_STATUS.TEC n) 0).put (R.CANn_STATUS.REC n) 0).put (R.CANn_STATUS.STATE n) 0
  s.flag (R.CANn_IRQ_PEND.STATE n) true

/-- CAN_INTEGRATION_DONE (R507). -/
def execCanIntegrationDone (n : Nat) (s : State) : Host.Outcome State Fault Refusal :=
  answer (if (s.canAt n).joining then (s.modCan n (fun x => { x with joining := false })).canFresh n else s)

/-- Recovery from bus-off begins (R529). -/
def State.canRecover (s : State) (n : Nat) : State :=
  if s.get (R.CANn_STATUS.STATE n) = 2 then
    (s.flag (R.CANn_STATUS.RECOVERING n) true).flag (R.CANn_CTRL.RECOVER n) false
  else s

/-- The verdict on 0x2802 has come: other than LASTING it lets recovery begin (R529). -/
def State.canVerdict (s : State) (n : Nat) (lasting : Bool) : State :=
  if lasting then s
  else
    let s := s.modCan n (fun x => { x with verdict := true })
    if s.on (R.CANn_CTRL.AUTO_REC n) || (s.canAt n).recover then s.canRecover n else s

/-- RECOVER: held until the verdict (R529). -/
def State.canRecoverReq (t : State) (n : Nat) : State :=
  if t.get (R.CANn_STATUS.STATE n) ≠ 2 then t
  else if (t.canAt n).verdict then t.canRecover n
  else (t.modCan n (fun x => { x with recover := true })).flag (R.CANn_CTRL.RECOVER n) true

def execRecover (by_ : Init) (n : Nat) (s : State) : Host.Outcome State Fault Refusal :=
  answer (s.byPort by_ (14 + n) (4 + n) (R.CANn_CTRL.RECOVER n).addr (fun t => t.canRecoverReq n))

/-- BUS_OFF_RECOVERY_END (R529). -/
def execBusOffRecoveryEnd (n : Nat) (s : State) : Host.Outcome State Fault Refusal :=
  answer (if s.on (R.CANn_STATUS.RECOVERING n) then (s.flag (R.CANn_STATUS.RECOVERING n) false).canFresh n else s)

/-- CANN_TSC_LATCH (R515). -/
def State.canTscLatch (t : State) (n : Nat) : State :=
  ((t.put (R.CANn_LATCH_TSC.COUNT n) (t.canTsc n)).put (R.CANn_LATCH_ST_LO.NS n) t.now).put
    (R.CANn_LATCH_ST_HI.NS n) (t.now / 4294967296)

def execCannTscLatch (by_ : Init) (n : Nat) (s : State) : Host.Outcome State Fault Refusal :=
  answer (s.byPort by_ (14 + n) (4 + n) (R.CANn_TSC_LATCH.GO n).addr (fun t => t.canTscLatch n))

/-- CANN_RXF_POP (R513). -/
def State.canRxfPop (t : State) (n : Nat) : State :=
  let z := max 1 (min 64 (t.get (R.CANn_RXF_CFG.SIZE n)))
  if t.get (R.CANn_RXF_STAT.FILL n) = 0 then t
  else (t.put (R.CANn_RXF_STAT.FILL n) (t.get (R.CANn_RXF_STAT.FILL n) - 1)).put (R.CANn_RXF_STAT.GET n)
    ((t.get (R.CANn_RXF_STAT.GET n) + 1) % z)

def execCannRxfPop (by_ : Init) (n : Nat) (s : State) : Host.Outcome State Fault Refusal :=
  answer (s.byPort by_ (14 + n) (4 + n) (R.CANn_RXF_POP.POP n).addr (fun t => t.canRxfPop n))

/-- TWIN_ENTRY_EXPIRY (R526). -/
def execTwinEntryExpiry (n key : Nat) (s : State) : Host.Outcome State Fault Refusal :=
  answer (match (s.canAt n).twin.find? (fun x => x.key == key) with
  | none => s
  | some x =>
    let s := s.modCan n (fun y => { y with twin := y.twin.filter (fun z => z.key != key) })
    if x.buses = 1 then (s.modCan n (fun y => { y with missB := y.missB + 1 })).inc (R.CANn_TWIN_MISS.B n)
    else if x.buses = 2 then (s.modCan n (fun y => { y with missA := y.missA + 1 })).inc (R.CANn_TWIN_MISS.A n)
    else s)

/-- Cause 0x2805 for one bus (R526). -/
def State.twinMiss (s : State) (n bus count : Nat) : State :=
  if s.get (R.CANn_TWIN_CFG.MISS_LIMIT n) ≤ count then
    (s.flag (R.CANn_IRQ_PEND.TWIN_MISS n) true).report (s.canBay n) 0x2805 n (bus + 65536 * (count % 65536))
  else s

/-- TWIN_MISS_INTERVAL (R526). -/
def execTwinMissInterval (n : Nat) (s : State) : Host.Outcome State Fault Refusal :=
  answer (if s.on (R.CANn_CTRL.TWIN_EN n) then
    let x := s.canAt n
    ((s.modCan n (fun y => { y with missA := 0, missB := 0 })).twinMiss n 0 x.missA).twinMiss n 1 x.missB
  else s)

/-- A cycle start at the CAN port of a context in mode 2 (R524). -/
def State.canCycle (s : State) (n : Nat) : State :=
  if s.on (R.CANn_CTRL.TT_REF_EN n) = false then s
  else if (s.canAt n).refSeen then s.modCan n (fun x => { x with refSeen := false })
  else
    let s := s.inc (R.CANn_TT_STAT.MISSED n)
    let lim := max 1 (s.get (R.CANn_TT_CFG.REF_LIMIT n))
    if s.get (R.CANn_TT_STAT.MISSED n) = lim ∧ s.on (R.CANn_TT_STAT.GAP n) = false then
      (s.flag (R.CANn_IRQ_PEND.TT_ERR n) true).report (s.canBay n) 0x2806 n (256 * ((s.get (R.CANn_TT_STAT.CYCLE n) + 1) % s.canCycles n))
    else s

/-- Block reset of a controller: buffers past their commit point fail with cause 6, others are aborted; TSC
restarts (R184, R545, R549). -/
def State.resetCan (s : State) (n : Nat) : State :=
  let oo := s.on (R.CANn_STATUS.OUT_OF_SERVICE n)
  let s := s.forEach (indices 32 (s.bufPending n)) (fun b t =>
    if (t.canAt n).committed.testBit b then t.canFinal n b 3 6 0 t.stamp else t.canFinal n b 2 0 0 t.stamp)
  let s := (s.modCan n (fun _ => { CanPort.cold with tscFrom := s.time.edges })).resetRegs (0x400C0000 + 0x4000 * n) (0x400C4000 + 0x4000 * n)
  s.flag (R.CANn_STATUS.OUT_OF_SERVICE n) oo

end Sys2Proof.Machine
end

