-- ==== Sys2Proof/Machine/Ser.lean ====
section
/-! DEFINITION.
Serial lines and bit-level I/O (chapter 14). -/

namespace Sys2Proof.Machine

def State.serAt (s : State) (n : Nat) : SerPort := s.port.ser.getD n SerPort.cold
def State.modSer (s : State) (n : Nat) (f : SerPort → SerPort) : State :=
  { s with port := { s.port with ser := updAt s.port.ser n f } }
def State.serBay (s : State) (n : Nat) : Nat := ownerOr0 (s.ownPeriph (18 + n))

/-- The input filter of the pin that carries a signal, in ns (R403, R829). -/
def State.pinFilter (s : State) (g : Nat) : Nat :=
  match s.signalPin g with
  | some p => (let k := s.get (R.PINp_ACTIVE.INPUT p) / 2; if k = 0 then 0 else 4 * 2 ^ k)
  | none => 0

/-- The RXD signal of a channel: index 1 or 5 of its octet (R824). -/
def serRxd (n : Nat) : Nat := 8 * (8 + n / 2) + 4 * (n % 2) + 1

/-- Time of one character in ns (R439, R533, R534). -/
def State.serTime (s : State) (n : Nat) : Nat :=
  let bits := 2 + (7 + min 2 (s.get (R.SERn_CTRL.DATA n))) + b2n (s.get (R.SERn_CTRL.PARITY n) != 0) + s.get (R.SERn_CTRL.STOP2 n)
  bits * (32 * max 10 (s.get (R.SERn_BAUD.DIV_INT n)) + s.get (R.SERn_BAUD.DIV_FRAC n)) / 4

/-- Bytes of a character in a buffer (R537). -/
def State.serSize (s : State) (n : Nat) : Nat :=
  if 2 ≤ s.get (R.SERn_CTRL.DATA n) ∨ s.on (R.SERn_CTRL.ERRF n) then 2 else 1

/-- FIFO fills and the oldest received character as the registers show them (R544). -/
def State.showSer (s : State) (n : Nat) : State :=
  let x := s.serAt n
  let s := (s.put (R.SERn_STATUS.TXF_FILL n) x.txf.length).put (R.SERn_STATUS.RXF_FILL n) x.rxf.length
  let s := s.flag (R.SERn_STATUS.TX_BUSY n) x.sending.isSome
  match x.rxf with
  | [] => (s.putWord (R.SERn_RXDATA.CHAR n) 0).put (R.SERn_RX_STAMP.STAMP n) 0
  | c :: _ => (s.putWord (R.SERn_RXDATA.CHAR n) (BitVec.ofNat 32 (c.1 + 2147483648))).put (R.SERn_RX_STAMP.STAMP n) c.2.1

/-- Whether a channel works as a UART. -/
def State.serOn (s : State) (n : Nat) : Bool :=
  s.on (R.SERn_CTRL.EN n) && !(s.on (R.SERn_STATUS.OUT_OF_SERVICE n)) && !(s.on (R.SERn_STATUS.BITLEVEL n)) && !(s.portTest 0x2C01 n)

/-! ### Transmit (R533, R535 to R538) -/

/-- The TX descriptor in progress, or the next one. -/
def State.serDesc (s : State) (n : Nat) : Option Desc :=
  let q := s.get (R.SERn_QBIND.TXQ n)
  match (s.serAt n).txd with
  | some (i, _, _) => (s.qEnd q 0).inflight.find? (fun d => d.idx == i && d.final.isNone)
  | none => if s.on (R.QMGR_STAT.GATED q 0) then none else s.agentNext q 0

/-- The next waiting character starts, where its window allows it; its descriptor is committed (R378, R538). -/
def State.serKick (s : State) (n : Nat) : State :=
  let x := s.serAt n
  let q := s.get (R.SERn_QBIND.TXQ n)
  if !(s.serOn n) || s.portQuiet (8 + n) || x.sending.isSome || !(s.serOpen (8 + n)) || !(s.fits (8 + n) (s.serTime n)) then s
  else
    let go : State → State := fun t =>
      let t := t.modSer n (fun y => { y with sending := some t.now })
      (if t.on (R.SERn_CTRL.RS485 n) then t.flag (R.SERn_STATUS.DE n) true else t).showSer n
    if s.on (R.SERn_QBIND.TXQ_EN n) then
      match s.serDesc n with
      | none => s.modSer n (fun y => { y with txd := none })
      | some d =>
        let s := (s.agentTake q 0 d.idx).modDesc q 0 d.idx (fun y => { y with committed := true })
        go (match x.txd with
          | some _ => s
          | none => s.modSer n (fun y => { y with txd := some (d.idx, 0, s.now % 4294967296) }))
    else if x.txf = [] then s else go s

/-- SERN_TXDATA (R536, R537). -/
def State.serTx (t : State) (n ch : Nat) : State :=
  if t.on (R.SERn_QBIND.TXQ_EN n) ∨ 32 ≤ (t.serAt n).txf.length then t
  else ((t.modSer n (fun x => { x with txf := x.txf ++ [ch % 512] })).showSer n).serKick n

def execSernTxdata (by_ : Init) (n ch : Nat) (s : State) : Host.Outcome State Fault Refusal :=
  answer (s.byPort by_ (18 + n) (8 + n) (R.SERn_TXDATA.CHAR n).addr (fun t => t.serTx n ch))

/-! ### Receive (R534, R536, R537) -/

/-- The RX descriptor in progress completes with END 1 full, 2 idle or 3 break (R537). -/
def State.serRxEnd (s : State) (n end_ : Nat) (d : Desc) : State :=
  let x := s.serAt n
  let aux := toLE 4 x.rxEnd ++ toLE 2 x.rxErr ++ toLE 1 end_ ++ List.replicate 5 0
  (s.modSer n (fun y => { y with rxLen := 0, rxErr := 0 })).finishDesc (s.get (R.SERn_QBIND.RXQ n)) 1 d.idx 1 0 x.rxLen x.rxStamp aux

/-- The oldest held character moved to the descriptor in progress (R537, R545). -/
def State.serMove (s : State) (n : Nat) : State :=
  let q := s.get (R.SERn_QBIND.RXQ n)
  let x := s.serAt n
  match s.agentNext q 1 with
  | none => s
  | some d =>
    if x.rxBreak then
      (s.modSer n (fun y => { y with rxBreak := false })).serRxEnd n 3 d
    else
      match x.rxf with
      | [] => s
      | (v, st, en) :: rest =>
        let z := s.serSize n
        let brk := v.testBit 11
        let err := (v.testBit 9 || v.testBit 10)
        match s.agentWrite q 1 d x.rxLen (toLE z v) with
        | (s, false) => s.modSer n (fun y => { y with rxLen := 0, rxErr := 0 })
        | (s, true) =>
          let s := s.modSer n (fun y => { y with
            rxf := rest, rxLen := x.rxLen + z, rxEnd := en, rxErr := x.rxErr + b2n err
            rxStamp := if x.rxLen = 0 then st else x.rxStamp })
          if d.len < x.rxLen + 2 * z then
            let s := s.serRxEnd n 1 d
            if brk then s.modSer n (fun y => { y with rxBreak := true }) else s
          else if brk then s.serRxEnd n 3 d else s

/-- Held characters moved to fetched descriptors (R537). -/
def State.serDrain (s : State) (n : Nat) : State :=
  if s.on (R.SERn_QBIND.RXQ_EN n) && s.serOn n then
    ((List.range ((s.serAt n).rxf.length + 1)).foldl (fun t _ => t.serMove n) s).showSer n
  else s

/-- A character completed at the receiver: its flags and character as in RXDATA, and the stamps of its start-bit
edge and of the end of its last stop bit (R536). -/
def State.serReceive (s : State) (n v st en : Nat) : State :=
  let s := s.inc (R.SERn_RX_CHARS.COUNT n)
  let err := v.testBit 9 || v.testBit 10
  let s := s.modSer n (fun x => { x with chars := x.chars + 1, errs := x.errs + b2n err })
  let s := if v.testBit 9 then s.inc (R.SERn_PE.COUNT n) else s
  let s := if v.testBit 10 then s.inc (R.SERn_FE.COUNT n) else s
  let s := if v.testBit 11 then s.inc (R.SERn_BREAK.COUNT n) else s
  let s := (s.flag (R.SERn_IRQ_PEND.RX n) true).when (err || v.testBit 11) (fun t => t.flag (R.SERn_IRQ_PEND.ERR n) true)
  let s := s.serDrain n
  if 32 ≤ (s.serAt n).rxf.length then
    ((s.inc (R.SERn_OVERRUN.COUNT n)).flag (R.SERn_IRQ_PEND.OVERRUN n) true).report (s.serBay n) 0x2C02 n 1
  else
    ((s.modSer n (fun x => { x with rxf := x.rxf ++ [(v, st, en)] })).showSer n).serDrain n

/-- SER_CHAR_RECEIVED: flags and character, and the steady ns of its start-bit edge and of its end as captured, before the correction of R403;
ignored while DE is asserted without ECHO, and in loopback (R534 to R537). -/
def execSerCharReceived (n v t0 t1 : Nat) (s : State) : Host.Outcome State Fault Refusal :=
  let c := 8 + s.pinFilter (serRxd n)
  answer (if s.serOn n = false ∨ s.on (R.SERn_CTRL.LOOP n) ∨
      (s.on (R.SERn_CTRL.RS485 n) ∧ s.on (R.SERn_STATUS.DE n) ∧ s.on (R.SERn_CTRL.ECHO n) = false) then s
  else s.serReceive n (v % 4096) ((t0 - c) % 4294967296) ((t1 - c) % 4294967296))

/-- SERN_RXDATA: the read answers the oldest character and pops it (R536). -/
def execSernRxdata (by_ : Init) (n : Nat) (s : State) : Host.Outcome State Fault Refusal :=
  answer ((s.reply1 0).act by_ (s.holds by_ (18 + n)) 0x0C02 (R.SERn_RXDATA.CHAR n).addr false (fun t =>
    let u := t.reply [t.word (R.SERn_RXDATA.CHAR n)]
    (u.modSer n (fun x => { x with rxf := x.rxf.drop 1 })).showSer n))

/-- The character that leaves the transmitter: from the descriptor or from the FIFO; its descriptor completes with
its last character (R536, R537). -/
def State.serSent (s : State) (n : Nat) : State × Nat :=
  let x := s.serAt n
  if s.on (R.SERn_QBIND.TXQ_EN n) then
    let q := s.get (R.SERn_QBIND.TXQ n)
    match x.txd, s.serDesc n with
    | some (_, k, st), some d =>
      let z := s.serSize n
      match s.agentRead q 0 d with
      | (s, none) => (s.modSer n (fun y => { y with txd := none }), 0)
      | (s, some l) =>
        if d.len ≤ k + z then
          ((s.modSer n (fun y => { y with txd := none })).finishDesc q 0 d.idx 1 0 d.len st d.aux, leAt l k z % 512)
        else (s.modSer n (fun y => { y with txd := some (d.idx, k + z, st) }), leAt l k z % 512)
    | _, _ => (s.modSer n (fun y => { y with txd := none }), 0)
  else
    let s := s.modSer n (fun y => { y with txf := y.txf.drop 1 })
    (if x.txf.length = 1 then s.flag (R.SERn_IRQ_PEND.TX_EMPTY n) true else s, x.txf.headD 0)

/-- SER_CHAR_SENT: the last stop bit of a character is sent; in loopback the channel receives it (R533, R544). -/
def State.serDone (s : State) (n : Nat) : State :=
  let s := s.serKick n
  match (s.serAt n).sending with
  | none => s
  | some t0 =>
    let (s, ch) := s.serSent n
    let s := (s.modSer n (fun y => { y with sending := none })).inc (R.SERn_TX_CHARS.COUNT n)
    let s := s.showSer n
    let s := if s.on (R.SERn_CTRL.LOOP n) then s.serReceive n ch (t0 % 4294967296) s.stamp else s
    s.serKick n

def execSerCharSent (n : Nat) (s : State) : Host.Outcome State Fault Refusal := answer (s.serDone n)

/-- SER_IDLE_TIMEOUT (R537). -/
def execSerIdleTimeout (n : Nat) (s : State) : Host.Outcome State Fault Refusal :=
  answer (if s.serOn n = false ∨ s.get (R.SERn_IDLE.IDLE_TO n) = 0 then s
  else
    let s := (s.flag (R.SERn_IRQ_PEND.IDLE n) true).serDrain n
    if s.on (R.SERn_QBIND.RXQ_EN n) ∧ 0 < (s.serAt n).rxLen then
      match s.agentNext (s.get (R.SERn_QBIND.RXQ n)) 1 with
      | some d => s.serRxEnd n 2 d
      | none => s
    else s)

/-- DE_RELEASE: LAG eighths of a bit after the last stop bit of the last waiting character (R535). -/
def execDeRelease (n : Nat) (s : State) : Host.Outcome State Fault Refusal :=
  answer (if (s.serAt n).sending.isSome then s else s.flag (R.SERn_STATUS.DE n) false)

/-- SER_ERROR_INTERVAL (R548). -/
def execSerErrorInterval (n : Nat) (s : State) : Host.Outcome State Fault Refusal :=
  let x := s.serAt n
  let t := s.modSer n (fun y => { y with chars := 0, errs := 0 })
  answer (if x.chars < 10000 * x.errs then t.report (t.serBay n) 0x2C01 n x.errs else t)

/-- A readback mismatch on DE: the waiting TX descriptors fail (R545). -/
def State.serDeFault (s : State) (n : Nat) : State :=
  let q := s.get (R.SERn_QBIND.TXQ n)
  if s.on (R.SERn_QBIND.TXQ_EN n) = false then s
  else
    let s := s.modSer n (fun y => { y with sending := none, txd := none })
    s.forEach ((s.qEnd q 0).inflight.filter (fun d => d.final.isNone)) (fun d t =>
      t.finishDesc q 0 d.idx 3 0x0805 0 t.stamp (toLE 2 0x2C03 ++ d.aux.drop 2))

/-! ### Bit-level I/O (R539, R540) -/

/-- Fills of the bit-level FIFOs of channel `n`. -/
def State.showBits (s : State) (n e : Nat) : State :=
  (s.put (R.SERn_BITIO.OUT_FILL n) (s.engineAt e).bitOut.length).put (R.SERn_BITIO.IN_FILL n) (s.engineAt e).bitIn.length

/-- A bit-level error: its bit, BITIO, and cause 0x2C04 (R540). -/
def State.bitErr (s : State) (n d : Nat) (f : Fld) : State :=
  ((s.flag f true).flag (R.SERn_IRQ_PEND.BITIO n) true).report (s.serBay n) 0x2C04 n d

/-- BITIO_OUTPUT_EDGE: the oldest output entry of channel `n` takes effect, at its target or at once (R540). -/
def execBitioOutputEdge (n : Nat) (s : State) : Host.Outcome State Fault Refusal :=
  answer (match s.bitEngine n with
  | none => s
  | some e =>
    match (s.engineAt e).bitOut with
    | [] => s
    | (p, t, v) :: rest =>
      let s := (s.modEngine e (fun x => { x with bitOut := rest, bitLevel := if v then setBit x.bitLevel p else clrBit x.bitLevel p })).showBits n e
      let s := if p = 1 then s.flag (R.SERn_STATUS.DE n) (v && !(s.portQuiet (8 + n))) else s
      if t < s.now then s.bitErr n 1 (R.SERn_BITIO.UNDERRUN n) else s)

/-- BITIO_INPUT_EDGE: an edge at input `p` (0 RXD, 1 RXB) captured at steady ns `t0`, before the correction of R403 (R540). -/
def execBitioInputEdge (n p t0 : Nat) (v : Bool) (s : State) : Host.Outcome State Fault Refusal :=
  answer (match s.bitEngine n with
  | none => s
  | some e =>
    let x := s.engineAt e
    let at_ := t0 - (8 + s.pinFilter (serRxd n + 2 * p))
    let near := match x.bitLast.getD p none with | some l => decide (at_ < l + 8) | none => false
    if near then s
    else
      let s := s.modEngine e (fun y => { y with bitLast := updAt y.bitLast p (fun _ => some at_) })
      if 64 ≤ x.bitIn.length then s.bitErr n 2 (R.SERn_BITIO.OVERRUN n)
      else (s.modEngine e (fun y => { y with bitIn := y.bitIn ++ [(p, at_, v)] })).showBits n e)

/-- Block reset of a channel: waiting descriptors end, registers return to reset, BITLEVEL and OUT_OF_SERVICE
stay (R184, R549). -/
def State.resetSer (s : State) (n : Nat) : State :=
  let oo := s.on (R.SERn_STATUS.OUT_OF_SERVICE n)
  let q := s.get (R.SERn_QBIND.TXQ n)
  let s := if s.on (R.SERn_QBIND.TXQ_EN n) then
      s.forEach ((s.qEnd q 0).inflight.filter (fun d => d.final.isNone && d.taken)) (fun d t =>
        if d.committed then t.finishDesc q 0 d.idx 3 0x0805 0 t.stamp d.aux else t.finishDesc q 0 d.idx 2 0 0 t.stamp d.aux)
    else s
  let s := (s.modSer n (fun _ => SerPort.cold)).resetRegs (0x400D0000 + 0x1000 * n) (0x400D1000 + 0x1000 * n)
  s.flag (R.SERn_STATUS.OUT_OF_SERVICE n) oo

end Sys2Proof.Machine
end

