-- ==== Sys2Proof/Machine/Qdr.lean ====
section
/-! DEFINITION.
Cycle starts and windows of the schedule contexts, with their effects on the ports (chapter 12). -/

namespace Sys2Proof.Machine

/-- CYCLE_START: the context enters the cycle that is due; a reference port counts the cycle (R435, R436, R524). -/
def execCycleStart (n : Nat) (s : State) : Host.Outcome State Fault Refusal :=
  answer (match s.ctx n with
  | none => s
  | some x =>
    let t := s.cycleStart n
    if x.mode = 2 then t.canCycle (t.get (R.QDRn_ALIGN.REF_PORT n)) else t)

/-- The record of window `w` in the current cycle of a context. -/
def State.winRec (s : State) (n w : Nat) : Option (List Byte) :=
  match s.ctx n with
  | some x => if s.on (R.QDRn_POS.RUNNING n) then
      x.mat.wins.find? (fun r => C.QDRS1.CYCLE r == s.get (R.QDRn_POS.CYCLE n) && C.QDRS1.WIN r == w) else none
  | none => none

/-- The batch of an exclusive window on a port at its start edge (R440, R441). -/
def State.winBatch (s : State) (p ctl : Nat) (r : List Byte) : List Nat :=
  let k := C.QDRS1.SENDER r
  if C.QDRS1.KIND r ≠ 0 ∨ k = 0xFF then []
  else if p < 4 then
    ((s.ethAt p).staged.filter (fun f => f.k == k && f.start.isNone && s.ethLive f &&
      (decide (4 ≤ f.src) || !(s.on (R.QMGR_STAT.GATED (24 * f.src + f.k) 0))))).map (fun f => 65536 * f.src + f.idx)
  else if p < 8 then (if s.bufPending (ctl - 4) k then [k] else [])
  else []

/-- A window opens on one port that it governs (R437 to R440). -/
def State.winOpenOn (s : State) (n : Nat) (r : List Byte) (busy : Bool) (pc : Nat × Nat) : State :=
  match s.ctx n with
  | none => s
  | some x =>
    let p := pc.1
    let lim : Int := x.mat.start (x.next - 1) + (x.mat.guardTo p r : Int)
    let ctl := if C.QDRS1.CHAN r = 2 then C.QDRS1.PORT r else p
    let w : OpenWin := ⟨r, p, pc.2, s.now, lim, C.QDRS1.KIND r != 3, s.winBatch p ctl r, false, []⟩
    let s := s.putCtx n (some { x with wins := x.wins.filter (fun v => v.port != p) ++ [w] })
    let s := s.judgeEnded n (some p)
    let k := C.QDRS1.SENDER r
    if p < 4 then s.ethCredits p
    else if p < 8 then
      (if C.QDRS1.KIND r = 0 ∧ k < 32 then s.canExclusive (p - 4) (ctl - 4) k busy (C.QDRS1.CHAN r == 2) else s)
    else s.serKick (p - 8)

/-- WINDOW_START: window `w` of the current cycle opens on its ports; bit c of `busy` says that the medium of
channel c is busy (R437 to R441, R452, R522). -/
def State.windowStart (s : State) (n w busy : Nat) : State :=
  match s.winRec n w with
  | none => s
  | some r =>
    let p := C.QDRS1.PORT r
    let s := if 4 ≤ p ∧ p < 8 then s.canFeed (p - 4) else s
    let s := if 4 ≤ p ∧ p < 8 ∧ C.QDRS1.CHAN r = 2 ∧ C.QDRS1.KIND r = 0 ∧ s.bufPending (p - 4) (C.QDRS1.SENDER r) then
        s.modCan (p - 4) (fun x => { x with leftA := setBit x.leftA (C.QDRS1.SENDER r)
                                            leftB := setBit x.leftB (C.QDRS1.SENDER r) })
      else s
    s.forEach (winPorts r) (fun pc t => t.winOpenOn n r (busy.testBit pc.2) pc)

def execWindowStart (n w busy : Nat) (s : State) : Host.Outcome State Fault Refusal := answer (s.windowStart n w busy)

/-- Whether the port's own transmission is on the line. -/
def State.ownBusy (s : State) (p : Nat) : Bool :=
  if p < 4 then (s.ethAt p).staged.any (fun f => f.start.isSome)
  else if p < 8 then (s.canAt (p - 4)).tx.isSome
  else (s.serAt (p - 8)).sending.isSome

/-- A window ends on one port; `over` is how many ns its medium stays busy beyond the end (R443). -/
def State.winEndOn (s : State) (n : Nat) (r : List Byte) (beyond : Nat) (p : Nat) : State :=
  let s := if p < 4 then s.ethCredits p else s
  let s := match s.ctx n with
    | some x => s.putCtx n (some { x with wins := x.wins.filter (fun v => !(v.port == p && v.row == r)) })
    | none => s
  if beyond = 0 then s
  else
    ((s.flag (R.QDRn_IRQ_PEND.OVERRUN n) true).inc (R.QDRn_CNT_ERR.OVERRUN n)).report (s.ctxBay n) 0x2002 (qdrRes n p r)
      (b2n (!(s.ownBusy p)) + 256 * min beyond 0xFFFFFF)

/-- Whether a window is the first of its cycle. -/
def Matrix.firstWin (m : Matrix) (r : List Byte) : Bool :=
  m.wins.all (fun v => C.QDRS1.CYCLE v != C.QDRS1.CYCLE r || decide (C.QDRS1.OFFSET r ≤ C.QDRS1.OFFSET v))

/-- WINDOW_END: findings 0x2003 and 0x2002, and REF_LOST (R443, R450, R454). -/
def State.windowEnd (s : State) (n w overA overB : Nat) : State :=
  match s.winRec n w, s.ctx n with
  | some r, some x =>
    let mine := x.wins.filter (fun v => v.row == r)
    let goes : OpenWin → Bool := fun v => decide (0 < (if v.chan = 0 then overA else overB)) && !(s.ownBusy v.port)
    let s := s.forEach (winPorts r) (fun pc t => t.winEndOn n r (if pc.2 = 0 then overA else overB) pc.1)
    let s := match s.ctx n with
      | some y =>
        if C.QDRS1.CHAN r = 2 then
          (s.putCtx n (some { y with ended := y.ended ++ mine.map (fun v => ({ v with starts := goes v }, s.now)) })).judgeEnded n none
        else s
      | none => s
    if x.mode = 2 ∧ x.refSeen = false ∧ x.mat.firstWin r then s.flag (R.QDRn_IRQ_PEND.REF_LOST n) true else s
  | _, _ => s

def execWindowEnd (n w overA overB : Nat) (s : State) : Host.Outcome State Fault Refusal :=
  answer (s.windowEnd n w overA overB)

/-- Agents of SER and CAN act on newly fetched descriptors (R531, R537). -/
def State.agentsKick (s : State) (q e : Nat) : State :=
  let s := s.forEach (indices 6 (fun n => s.on (R.SERn_QBIND.TXQ_EN n) && e == 0 && s.get (R.SERn_QBIND.TXQ n) == q))
    (fun n t => t.serKick n)
  let s := s.forEach (indices 6 (fun n => s.on (R.SERn_QBIND.RXQ_EN n) && e == 1 && s.get (R.SERn_QBIND.RXQ n) == q))
    (fun n t => t.serDrain n)
  s.forEach (indices 4 (fun n => s.on (R.CANn_QBIND.TXQ_EN n) && e == 0 && s.get (R.CANn_QBIND.TXQ n) == q))
    (fun n t => t.canFeed n)

/-- DESCRIPTOR_FETCH (R368 to R371). -/
def execDescriptorFetch (q e : Nat) (s : State) : Host.Outcome State Fault Refusal :=
  answer ((s.fetch q e).agentsKick q e)

/-- A bay reset of a context's owner: timing and alignment stay; IRQ_EN, IRQ_PEND and counters reset; the open
windows send nothing (R461, R465). -/
def State.resetQdr (s : State) (n : Nat) : State :=
  let s := (s.putWord (R.QDRn_IRQ_EN.EN n) 0).putWord (R.QDRn_IRQ_PEND.CYCLE n) 0
  (s.putWord (R.QDRn_CNT_ERR.LATE n) 0).putWord (R.QDRn_CNT_RED.DUP n) 0

end Sys2Proof.Machine
end

