-- ==== Sys2Proof/Machine/Lane.lean ====
section
/-! DEFINITION.
Lanes and their sequenced frames (R553 to R562, R602, R604). -/

namespace Sys2Proof.Machine

/-! ### Lanes (R553, R559 to R562) -/

/-- Lane state: 0 DOWN, 1 LOCK, 2 TS1, 3 TS2, 4 UP. -/
def laneFld (l : Nat) : Fld :=
  if l = 2 then R.VDT_STATUS.LANE_STATE_A else if l = 3 then R.VDT_STATUS.LANE_STATE_B
  else if l = 4 then R.TRS_STATUS.LANE_UP else R.TRS_STATUS.LANE_DOWN

def State.laneIs (s : State) (l st : Nat) : Bool := s.get (laneFld l) == st
def State.laneUp (s : State) (l : Nat) : Bool := s.laneIs l 4

/-- Whether a lane is set in LANE_EN and its link is enabled (R173, R595, R623). -/
def State.laneUsed (s : State) (l : Nat) : Bool :=
  (C.SYS0.LANE_EN (s.rec1 .sys 0)).testBit l &&
  (if l < 4 then s.on R.VDT_STATUS.PAIR_EN else C.LINK2.STACK_EN (s.rec1 .link 2) == 1)

/-- Serial-number order (R261, R559): `a` before `b`. -/
def seqLt (a b : Nat) : Bool := let d := (b + 4294967296 - a) % 4294967296; d != 0 && decide (d < 2147483648)

/-- Sequence registers of Viaduct. -/
def State.showSeq (s : State) : State :=
  (s.put R.VDT_TX_SEQ.SEQ (s.hopAt 0).txSeq).put R.VDT_RX_SEQ.SEQ (s.hopAt 0).rxSeq

/-- Whether a frame type is sequenced (R557, R602). -/
def seqType (t : Nat) : Bool := decide (0x10 ≤ t)

/-- The place of the lane's pending copies and replays in the order of R562; before all others in R604. -/
def copyPri (l : Nat) : Nat := if l < 4 then 4 else 3

/-- The first waiting frame of the least priority number. -/
def nextWaiting (l : List LFrame) : Option LFrame :=
  l.foldl (fun m f => match m with | none => some f | some g => if f.pri < g.pri then some f else m) none

/-- The frame removed at its first place. -/
def dropFrame (f : LFrame) : List LFrame → List LFrame
  | [] => []
  | g :: t => if g = f then t else g :: dropFrame f t

/-- The next BREC of a bulk pass becomes a waiting frame, or SYNCED after the last (R584, R585). -/
def State.bulkNext (s : State) : State :=
  match (List.range 8).find? (fun b => (s.link.vdt.bulk.getD b none).isSome && s.on (R.VDTn_BULKQ.EN b)) with
  | none => s
  | some b =>
    let k := (s.link.vdt.bulk.getD b none).getD 0
    let ls := s.mirrorLines b
    match ls[k]? with
    | some (a, r) =>
      let s := s.sendLater 0 (s.mirrorFrame true b a r s.stamp)
      let s := s.modVdt (fun v => { v with bulk := updAt v.bulk b (fun _ => some (k + 1)) })
      s.put (R.VDTn_SYNC.LINES_LEFT b) (min 65535 (ls.length - k - 1))
    | none => (s.modVdt (fun v => { v with bulk := updAt v.bulk b (fun _ => none) })).sendRole b 3

/-- `l` put over the bytes of `d` from `o` on. -/
def patch (d : List Byte) (o : Nat) (l : List Byte) : List Byte := d.take o ++ l ++ d.drop (o + l.length)

/-- Traceable seconds and nanoseconds as frames carry them, all ones while INVALID (R574, R619). -/
def State.traceBytes (s : State) : List Byte :=
  match s.trace with
  | some i => toBE 6 (wrapInt 48 (i / 1000000000)) ++ toBE 4 (wrapInt 32 (i % 1000000000))
  | none => List.replicate 6 0xFF ++ toBE 4 0

/-- What a frame's START block fixes as it leaves the pins: TX_STEADY of a heartbeat, MASTER_STEADY of an own TIME
frame, CORR of a relayed one, which waits as its value less the steady ns of receipt (R574, R607, R619). -/
def State.stampOut (s : State) (l : Nat) (f : LFrame) : LFrame :=
  if f.ftype = 1 then
    (if l < 4 then { f with data := patch f.data 12 (toBE 8 s.now ++ s.traceBytes) }
     else { f with data := patch f.data 16 (toBE 8 s.now) })
  else if f.ftype = 0x28 then
    (if f.b7 % 8 = s.get R.TRS_STATUS.POS then { f with data := patch (patch f.data 0 (toBE 8 s.now)) 16 s.traceBytes }
     else { f with data := patch f.data 8 (toBE 8 (beAt f.data 8 8 + s.now)) })
  else f

/-- An idle lane that is UP starts its next frame (R561, R562, R604). -/
def State.laneKick (s : State) (l : Nat) : State :=
  let x := s.laneAt l
  if s.laneUp l = false ∨ x.cur.isSome then s
  else
    match nextWaiting x.ctl with
    | some f => s.modLane l (fun y => { y with cur := some (s.stampOut l f), ctl := dropFrame f y.ctl })
    | none =>
      let h := hopOf l
      let s := if l < 4 ∧ (s.hopAt 0).waiting = [] then s.bulkNext else s
      let p := s.hopAt h
      let fresh := if p.unacked.length < 64 then nextWaiting p.waiting else none
      let old := x.copies.head?
      let takeOld := match old, fresh with
        | some _, some f => decide (copyPri l ≤ f.pri)
        | some _, none => true
        | none, _ => false
      if takeOld then s.modLane l (fun y => { y with cur := old.map (s.stampOut l), copies := y.copies.drop 1 })
      else
        match fresh with
        | none => s
        | some f =>
          let g := { f with seq := p.txSeq }
          let s := s.modHop h (fun y => { y with waiting := dropFrame f y.waiting, unacked := y.unacked ++ [g],
                                                 txSeq := (y.txSeq + 1) % 4294967296 })
          let s := s.forEach ((lanesOf h).filter (fun k => k != l && s.laneUp k)) (fun k t =>
            t.modLane k (fun y => { y with copies := y.copies ++ [g] }))
          (s.modLane l (fun y => { y with cur := some (s.stampOut l g) })).showSeq

/-- Every lane of a connection started where it is idle. -/
def State.hopKick (s : State) (h : Nat) : State := s.forEach (lanesOf h) (fun l t => t.laneKick l)

/-- A frame sent on a connection. -/
def State.sendOn (s : State) (h : Nat) (f : LFrame) : State := (s.sendLater h f).hopKick h

/-- LANE_FRAME_END: the frame leaves the lane and the next one starts (R562, R604). -/
def execLaneFrameEnd (l : Nat) (s : State) : Host.Outcome State Fault Refusal :=
  answer ((s.modLane l (fun x => { x with cur := none })).laneKick l)

/-- LANE_FRAME_DISCARD (R558). -/
def execLaneFrameDiscard (l : Nat) (s : State) : Host.Outcome State Fault Refusal :=
  answer (if s.laneUp l = false then s
  else s.inc (if l = 2 then R.VDT_CRC_ERR.A else if l = 3 then R.VDT_CRC_ERR.B
    else if l = 4 then R.TRS_CRC_ERR.UP else R.TRS_CRC_ERR.DOWN))

/-- ACK or NAK queued on every lane of a connection that is UP; a waiting one of the same type gives way. -/
def State.sendCtl (s : State) (h t seq : Nat) : State :=
  s.forEach ((lanesOf h).filter s.laneUp) (fun l u =>
    (u.modLane l (fun x => { x with ctl := x.ctl.filter (fun f => f.ftype != t) ++ [⟨t, seq, 0, [], 1⟩] })).laneKick l)

/-- ACK of the highest SEQ received in order (R560). -/
def State.sendAck (s : State) (h : Nat) : State :=
  (s.modHop h (fun x => { x with unsent := 0 })).sendCtl h 2 (((s.hopAt h).rxSeq + 4294967295) % 4294967296)

/-- A valid sequenced frame with SEQ `q` on lane `l`: whether it is taken; duplicates are discarded and
acknowledged again, a higher SEQ on every lane asks for a repeat (R559, R560). -/
def State.hopTake (s : State) (l q : Nat) : State × Bool :=
  let h := hopOf l
  let p := s.hopAt h
  if s.laneUp l = false then (s, false)
  else if q = p.rxSeq then
    let s := s.modHop h (fun x => { x with rxSeq := (q + 1) % 4294967296, unsent := x.unsent + 1 })
    let s := (s.forEach (lanesOf h) (fun k t => t.modLane k (fun y => { y with higher := false }))).showSeq
    (if 8 ≤ (s.hopAt h).unsent then s.sendAck h else s, true)
  else if seqLt q p.rxSeq then (s.sendAck h, false)
  else
    let s := s.modLane l (fun y => { y with higher := true })
    let all := (lanesOf h).all (fun k => !(s.laneUp k) || (s.laneAt k).higher)
    let again := match p.nak with | some (e, t) => e == p.rxSeq && decide (s.now < t + 2000) | none => false
    if all && !again then
      ((s.modHop h (fun x => { x with nak := some (p.rxSeq, s.now) })).sendCtl h 3 p.rxSeq, false)
    else (s, false)

/-- Replay from `q` on (R561), counted. -/
def State.replayFrom (s : State) (h q : Nat) : State :=
  let fs := (s.hopAt h).unacked.filter (fun f => !(seqLt f.seq q))
  let s := s.forEach ((lanesOf h).filter s.laneUp) (fun l t => t.modLane l (fun x => { x with copies := fs }))
  let s := s.modHop h (fun x => { x with replays := x.replays + 1 })
  (s.inc (if h = 0 then R.VDT_REPLAY.COUNT else R.TRS_REPLAY.COUNT)).hopKick h

/-- ACK (R561). -/
def execVdtAck (l q : Nat) (s : State) : Host.Outcome State Fault Refusal :=
  let h := hopOf l
  answer (if s.laneUp l then
    (s.modHop h (fun x => { x with unacked := x.unacked.filter (fun f => seqLt q f.seq) })).hopKick h
  else s)

/-- NAK (R561). -/
def execVdtNak (l q : Nat) (s : State) : Host.Outcome State Fault Refusal :=
  answer (if s.laneUp l then s.replayFrom (hopOf l) q else s)

/-- ACK_TIMER of a connection (R560). -/
def execAckTimer (h : Nat) (s : State) : Host.Outcome State Fault Refusal :=
  answer (if 0 < (s.hopAt h).unsent then s.sendAck h else s)

/-- REPLAY_TIMEOUT of a connection (R561). -/
def execReplayTimeout (h : Nat) (s : State) : Host.Outcome State Fault Refusal :=
  answer (match (s.hopAt h).unacked with
  | [] => s
  | f :: _ => s.replayFrom h f.seq)

/-- REPLAY_RATE_INTERVAL of a connection (R594, R629). -/
def execReplayRateInterval (h : Nat) (s : State) : Host.Outcome State Fault Refusal :=
  let n := (s.hopAt h).replays
  let t := s.modHop h (fun x => { x with replays := 0 })
  answer (if 64 < n then
    (if h = 0 then t.report (ownerOr0 (t.ownPeriph 42)) 0x3401 (if t.laneUp 2 then 2 else 3) n
     else t.report (ownerOr0 (t.ownPeriph 43)) 0x3801 (h + 3) n)
  else t)

end Sys2Proof.Machine
end

