-- ==== Sys2Proof/Machine/TrsOps.lean ====
section
/-! DEFINITION.
Trestle: routes, requests and bound mailboxes (chapter 16); what both links do for bound mailboxes. -/

namespace Sys2Proof.Machine

/-! ### Routes (R597, R601, R606) -/

/-- Own position, the number of members, and whether the closure hop is configured. -/
def State.pos (s : State) : Nat := s.get R.TRS_STATUS.POS
def State.members (s : State) : Nat := C.LINK2.MEMBERS (s.rec1 .link 2)
def State.ring (s : State) : Bool := C.LINK2.RING (s.rec1 .link 2) == 1

/-- A hop is named by the position whose LANE4 it uses; the hop of lane `l`. -/
def State.hopId (s : State) (l : Nat) : Nat :=
  if l = 4 then s.pos else if s.pos = 0 then s.members - 1 else s.pos - 1

/-- Whether `k` hops upward from position `a` all stand. -/
def State.runGood (s : State) (a k : Nat) : Bool :=
  (List.range k).all (fun i => !(s.link.trs.lostHops.testBit ((a + i) % s.members)))

/-- The lane towards position `d`: along the chain, or across the closure hop of a ring (R606); a member that was refused
has none (R600). -/
def State.hopTo (s : State) (d : Nat) : Option Nat :=
  let n := s.members
  let p := s.pos
  if d = p ∨ n ≤ d ∨ s.on R.TRS_STATUS.JOIN_REFUSED = true then none
  else if p < d then
    if s.runGood p (d - p) then some 4 else if s.ring && s.runGood d (n - (d - p)) then some 5 else none
  else if s.runGood d (p - d) then some 5
  else if s.ring && s.runGood p (n - (p - d)) then some 4 else none

/-- Whether a position is present and reachable. -/
def State.reach (s : State) (d : Nat) : Bool :=
  d == s.pos || ((s.get R.TRS_MEMBERS.PRESENT).testBit d && (s.hopTo d).isSome)

/-- A frame sent towards a position; dropped where there is no route. -/
def State.trsSend (s : State) (d : Nat) (f : LFrame) : State :=
  match s.hopTo d with
  | some l => s.sendOn (l - 3) f
  | none => s

/-- A frame on every Trestle lane that is UP with its hop not lost, but for lane `not_`; a member that was refused sends
none (R600). -/
def State.trsAll (s : State) (not_ : Nat) (f : LFrame) : State :=
  s.forEach (([4, 5] : List Nat).filter (fun l => l != not_ && s.laneUp l && !(s.link.trs.lostHops.testBit (s.hopId l)) &&
      !(s.on R.TRS_STATUS.JOIN_REFUSED))) (fun l t => t.sendOn (l - 3) f)

/-- START byte 7 (R602). -/
def trsB7 (src dst : Nat) : Nat := src + 8 * dst
def trsBcast (src : Nat) : Nat := src + 64

/-! ### Requests (R603, R604, R610) -/

/-- The bay of a request frame: HOME [2:0]. -/
def reqBay (f : LFrame) : Nat := beAt f.data 2 1 % 8

/-- A request placed among the requests that wait, round-robin by bay; `k` requests of its bay are ahead. -/
def rrPlace (f : LFrame) (k : Nat) : List Nat → List LFrame → List LFrame
  | _, [] => [f]
  | seen, g :: t =>
    if g.pri ≠ 7 then g :: rrPlace f k seen t
    else if k < (seen.filter (fun b => b == reqBay g)).length then f :: g :: t
    else g :: rrPlace f k (reqBay g :: seen) t

/-- A request issued to `d`: ESEQ, HOME, then the rest of its data (R603). -/
def State.trsIssue (s : State) (d : Nat) (use : TrsUse) (ft home : Nat) (rest : List Byte) : State :=
  let q := SMap.get 0 s.link.trs.eseqTx d
  let f : LFrame := ⟨ft, 0, trsB7 s.pos d, toBE 2 q ++ toBE 1 home ++ rest, 7⟩
  let s := s.modTrs (fun t => { t with eseqTx := SMap.set 0 t.eseqTx d ((q + 1) % 65536), open_ := t.open_ ++ [⟨d, q, use⟩] })
  match s.hopTo d with
  | some l =>
    (s.modHop (l - 3) (fun h =>
      let k := (h.waiting.filter (fun g => g.pri == 7 && reqBay g == home % 8)).length
      { h with waiting := rrPlace f k [] h.waiting })).hopKick (l - 3)
  | none => s

/-- A request to a reachable position; it waits while 64 are outstanding there (R610). -/
def State.trsRequest (s : State) (d : Nat) (use : TrsUse) (ft home : Nat) (rest : List Byte) : State :=
  if 64 ≤ (s.link.trs.open_.filter (fun r => r.dst == d)).length then
    s.modTrs (fun t => { t with queue := t.queue ++ [(d, ⟨ft, 0, home, rest, 7⟩, use)] })
  else s.trsIssue d use ft home rest

/-- The oldest request that waits for room at `d` issued. -/
def State.trsNext (s : State) (d : Nat) : State :=
  match s.link.trs.queue.find? (fun x => x.1 == d) with
  | some x =>
    if 64 ≤ (s.link.trs.open_.filter (fun r => r.dst == d)).length then s
    else
      (s.modTrs (fun t => { t with queue := (t.queue.filter (fun y => y.1 == d)).drop 1 ++ t.queue.filter (fun y => y.1 != d) })).trsIssue
        d x.2.2 x.2.1.ftype x.2.1.b7 x.2.1.data
  | none => s

/-- A response to a request of position `d` (R603). -/
def State.trsAnswer (s : State) (d eseq home status : Nat) : State :=
  s.trsSend d ⟨0x23, 0, trsB7 s.pos d, toBE 2 eseq ++ toBE 1 home ++ toBE 1 status ++ List.replicate 4 0, 5⟩

/-! ### Bound mailboxes (R361 to R363, R587, R617) -/

/-- Whether a record may be handed to a link. -/
def State.boundUp (s : State) (r : List Byte) : Bool :=
  if C.LINK4.LINKSEL r = 0 then s.get R.VDT_STATUS.LANE_UP != 0 else s.on R.TRS_STATUS.FORMED

/-- Words as bytes, padded to whole blocks. -/
def wordBlocks (l : List Word) : List Byte :=
  let b := l.flatMap (fun w => toLE 4 w.toNat)
  b ++ List.replicate ((8 - b.length % 8) % 8) 0

/-- Words appended to the RX queue of side A of a mailbox, if it has room (R361, R362). -/
def State.boundDeliver (s : State) (m : Nat) (ws : List Word) : Option State :=
  let q := s.mbxQ m 1
  if q.words + ws.length ≤ 16 then some (s.setMbx m 1 { q with msgs := q.msgs ++ [ws] }) else none

/-- A bound message or doorbell that finds its destination lost (R610). -/
def State.trsLost (s : State) (m : Nat) : State := (s.inc R.TRS_FAILS.UNKNOWN).mbxRefused m 0x0814 0

/-- Stack mailboxes: one MSG outstanding, doorbells behind their message (R617). -/
def State.trsBound (s : State) : State :=
  s.forEach ((s.recs .link 4).filter (fun r => C.LINK4.LINKSEL r == 1)) (fun r s =>
    let m := C.LINK4.MBX r
    let d := C.LINK4.MEMBER r
    let q := s.mbxQ m 0
    if s.boundUp r = false then s
    else
      let due := s.msg.bells.filter (fun x => x.1 == m && x.2 == 0)
      let s := { s with msg := { s.msg with bells := s.msg.bells.filter (fun x => !(x.1 == m && x.2 == 0)) } }
      let s := if s.reach d then s.forEach due (fun _ t => t.trsRequest d (.bell m) 0x25 (C.LINK4.BAY r + 8 * s.pos)
        ([0] ++ toBE 1 (C.LINK4.REMOTE_MBX r) ++ [0, 0, 0])) else s
      match q.msgs with
      | w :: _ =>
        if q.sending then s
        else
          let s := s.putMbx m 0 { q with sending := true }
          if s.reach d then s.trsRequest d (.message m) 0x24 (C.LINK4.BAY r + 8 * s.pos)
            ([0] ++ toBE 1 (C.LINK4.REMOTE_MBX r) ++ toBE 1 m ++ toBE 1 w.length ++ [0] ++ wordBlocks w)
          else s.trsLost m
      | [] => s)

/-- Stack messages held for room, accepted where there is some; then the doorbells behind them. -/
def State.trsHeld (s : State) : State :=
  s.forEach (s.link.vdt.held.filter (fun x => x.via != 8)) (fun x s =>
    match s.boundDeliver x.mbx x.words with
    | none => s
    | some t =>
      let t := t.modVdt (fun v => { v with held := v.held.filter (fun y => y != x) })
      let n := (t.link.vdt.bells.filter (fun m => m == x.mbx)).length
      let t := if n = 0 then t else (t.modVdt (fun v => { v with bells := v.bells.filter (fun m => m != x.mbx) })).flag
        (R.MBX_IRQ.DB x.mbx 0) true
      t.trsAnswer x.via x.a x.b 0)

end Sys2Proof.Machine
end

