-- ==== Sys2Proof/Machine/Vdt.lean ====
section
/-! DEFINITION.
Viaduct: bound mailboxes, mirror, roles and heartbeats (chapter 15). -/

namespace Sys2Proof.Machine

/-! ### Bound mailboxes (R361 to R363, R587) -/

/-- The MSG frame of the oldest message of a Viaduct mailbox (R557). -/
def State.vdtMsgFrame (s : State) (r : List Byte) (ws : List Word) : LFrame :=
  ⟨0x13, 0, C.LINK4.BAY r, toBE 4 (s.get R.VDT_GEN.GEN) ++ toBE 1 (C.LINK4.REMOTE_MBX r) ++ toBE 1 (C.LINK4.MBX r) ++
    toBE 1 ws.length ++ [0] ++ wordBlocks ws, 6⟩

/-- Viaduct bound mailboxes: the first pop of the oldest message is its send; doorbells follow their message. -/
def State.vdtBound (s : State) : State :=
  s.forEach ((s.recs .link 4).filter (fun r => C.LINK4.LINKSEL r == 0)) (fun r s =>
    let m := C.LINK4.MBX r
    let q := s.mbxQ m 0
    if s.boundUp r = false then s
    else
      let due := s.msg.bells.filter (fun x => x.1 == m && x.2 == 0)
      let s := { s with msg := { s.msg with bells := s.msg.bells.filter (fun x => !(x.1 == m && x.2 == 0)) } }
      let s := s.forEach due (fun _ t => t.sendOn 0 ⟨0x15, 0, C.LINK4.BAY r,
        toBE 4 (t.get R.VDT_GEN.GEN) ++ toBE 1 (C.LINK4.REMOTE_MBX r) ++ List.replicate 3 0, 6⟩)
      match q.msgs with
      | w :: _ => if q.sending then s else (s.putMbx m 0 { q with sending := true }).sendOn 0 (s.vdtMsgFrame r w)
      | [] => s)

/-- MRSP: its bay, source mailbox and RESULT (R557). -/
def State.sendMrsp (s : State) (b src res : Nat) : State :=
  s.sendOn 0 ⟨0x14, 0, b, toBE 4 (s.get R.VDT_GEN.GEN) ++ toBE 1 src ++ toBE 1 res ++ [0, 0], 6⟩

/-- Viaduct messages held for room, accepted where there is some; then the doorbells behind them (R587). -/
def State.vdtHeld (s : State) : State :=
  s.forEach (s.link.vdt.held.filter (fun x => x.via == 8)) (fun x s =>
    match s.boundDeliver x.mbx x.words with
    | none => s
    | some t =>
      let t := t.modVdt (fun v => { v with held := v.held.filter (fun y => y != x) })
      let n := (t.link.vdt.bells.filter (fun m => m == x.mbx)).length
      let t := if n = 0 then t else (t.modVdt (fun v => { v with bells := v.bells.filter (fun m => m != x.mbx) })).flag
        (R.MBX_IRQ.DB x.mbx 0) true
      t.sendMrsp x.a x.src 1)

/-- Both links take up what their bound mailboxes hold. -/
def State.linksBound (s : State) : State := s.vdtBound.trsBound

/-- Both links deliver what they hold for room. -/
def State.linksHeld (s : State) : State := s.vdtHeld.trsHeld

/-- TX_LAST (R354, R356); on a bound mailbox the link starts to send when it may (R362). -/
def execTxLast (by_ : Init) (m d : Nat) (w : Word) (s : State) : Host.Outcome State Fault Refusal :=
  answer (s.byMbx by_ m d (R.MBX_TX_LAST.WORD m d) true (fun t => (t.mbxPut m d w true).linksBound))

/-- DB (R357). -/
def execMbxDb (by_ : Init) (m d : Nat) (s : State) : Host.Outcome State Fault Refusal :=
  answer (s.byMbx by_ m d (R.MBX_TX_CTRL.DB m d) true (fun t => (t.mbxBell m d).linksBound))

/-- A read of RX_DATA from the queue that side `d` writes: the word popped is answered, and room may let a held bound
message in; without a complete message 0 is answered and nothing else happens (R355). -/
def State.mbxRead (s : State) (m d : Nat) : State :=
  if (s.mbxQ m d).msgs.isEmpty then s.reply1 0
  else
    let (t, w) := s.mbxPop m d
    t.linksHeld.reply [w]

/-- RX_DATA: side `d` reads the queue that the other side writes (R355). -/
def execRxData (by_ : Init) (m d : Nat) (s : State) : Host.Outcome State Fault Refusal :=
  answer ((s.reply1 0).byMbx by_ m d (R.MBX_RX_DATA.WORD m d) false (fun t => t.mbxRead m (1 - d)))

/-- A record refused at the generation fence or by role: 0x3404 with kind, FTYPE and SEQ (R572, R593). -/
def State.stale (s : State) (b kind ft q : Nat) : State :=
  (s.flag R.VDT_IRQ_PEND.STALE true).report (ownerOr0 (s.ownPeriph 42)) 0x3404 b (kind + 256 * ft + 65536 * (q % 65536))

/-- A higher GEN is adopted (R571). -/
def State.adoptGen (s : State) (g : Nat) : State := if s.get R.VDT_GEN.GEN < g then s.put R.VDT_GEN.GEN g else s

/-- A sequenced Viaduct frame for bay `b` under GEN `g`, past sequence and fence (R559, R571, R572). -/
def State.vdtFrame (s : State) (l q b g ft : Nat) (fenced f : State → State) : State :=
  if 4 ≤ l then s
  else
    match s.hopTake l q with
    | (s, false) => s
    | (s, true) =>
      if g < s.get (R.VDTn_BAY_GEN.GEN b) then fenced (s.stale b 1 ft q) else f (s.adoptGen g)

/-- VDT_MSG: a message for mailbox `m` from far mailbox `src` (R572, R587). -/
def execVdtMsg (l q b g m src : Nat) (ws : List Word) (s : State) : Host.Outcome State Fault Refusal :=
  answer (s.vdtFrame l q b g 0x13 (fun t => t.sendMrsp b src 4) (fun t =>
    match t.binding m with
    | some r =>
      if C.LINK4.LINKSEL r = 0 ∧ C.LINK4.REMOTE_MBX r = src then
        if t.live (C.LINK4.BAY r) then
          (t.modVdt (fun v => { v with held := v.held ++ [⟨m, src, ws, 8, b, g⟩] })).vdtHeld
        else t.sendMrsp b src 3
      else t.sendMrsp b src 2
    | none => t.sendMrsp b src 2))

/-- MRSP: the bound message of mailbox `m` ends (R363, R587). -/
def execMrsp (l q b g m res : Nat) (s : State) : Host.Outcome State Fault Refusal :=
  answer (s.vdtFrame l q b g 0x14 id (fun t =>
    let x := t.mbxQ m 0
    let t := if x.sending = false ∨ x.msgs = [] then t
      else if res = 1 then t.mbxTaken m 0 x
      else if res = 2 ∨ res = 3 then t.mbxRefused m 0x0812 (res - 1)
      else t.mbxRefused m 0x0812 0
    t.vdtBound))

/-- VDT_DB (R363, R587). -/
def execVdtDb (l q b g m : Nat) (s : State) : Host.Outcome State Fault Refusal :=
  answer (s.vdtFrame l q b g 0x15 id (fun t =>
    match t.binding m with
    | some r =>
      if t.live (C.LINK4.BAY r) = false then t
      else if t.link.vdt.held.any (fun x => x.mbx == m) then t.modVdt (fun v => { v with bells := v.bells ++ [m] })
      else t.flag (R.MBX_IRQ.DB m 0) true
    | none => t))

/-! ### Mirror (R563 to R568) -/

/-- MIRROR_RECORD_SEND: the oldest queued line of a bay is read and sent (R563). -/
def execMirrorRecordSend (b : Nat) (s : State) : Host.Outcome State Fault Refusal :=
  answer (match s.link.vdt.mq.getD b [] with
  | [] => s
  | x :: t =>
    let s := (s.modVdt (fun v => { v with mq := updAt v.mq b (fun _ => t) })).put (R.VDTn_MQ.FILL b) (min 32 t.length)
    if s.get R.VDT_STATUS.LANE_UP = 0 then s else s.sendOn 0 (s.mirrorFrame false b x.1 x.2.1 x.2.2))

/-- MIRROR_QUEUE_FULL_TIMEOUT (R568). -/
def execMirrorQueueFullTimeout (b : Nat) (s : State) : Host.Outcome State Fault Refusal :=
  answer (if s.get (R.VDTn_MQ.FILL b) = 32 then
    (s.flag R.VDT_IRQ_PEND.BACKLOG true).report (ownerOr0 (s.ownPeriph 42)) 0x3406 b 10
  else s)

/-- A mirror record applied, or discarded with 0x3404 (R565). -/
def State.applyMirror (s : State) (b a region poison ft q : Nat) (line : List Byte) : State :=
  if s.roleOf b ≠ 3 ∧ s.roleOf b ≠ 4 then s.stale b 3 ft q
  else if s.mirrorAt b a ≠ some region ∨ s.mirrorAt b (a + 63) ≠ some region then s.stale b 2 ft q
  else
    let s := ((s.snoop a 64).unpoison a 64).writeMem a (slice line 0 64)
    { s with memx := { s.memx with poison := s.memx.poison ++ ((List.range 8).filter (fun w => poison.testBit w)).map (fun w => a + 8 * w) } }

/-- MREC (R565). -/
def execMrec (l q b g a region poison : Nat) (line : List Byte) (s : State) : Host.Outcome State Fault Refusal :=
  answer (s.vdtFrame l q b g 0x10 id (fun t => t.applyMirror b a region poison 0x10 q line))

/-- BREC (R565, R584). -/
def execBrec (l q b g a region poison : Nat) (line : List Byte) (s : State) : Host.Outcome State Fault Refusal :=
  answer (s.vdtFrame l q b g 0x11 id (fun t =>
    let u := t.applyMirror b a region poison 0x11 q line
    if u.roleOf b = 3 then u.put (R.VDTn_SYNC.LINES_LEFT b) (u.get (R.VDTn_SYNC.LINES_LEFT b) - 1) else u))

/-! ### Roles (R571 to R584) -/

/-- A bay becomes ACTIVE under a new generation and claims it (R571, R573, R581). -/
def State.claimBay (s : State) (b : Nat) : State := (((s.takeGen b).setRole b 2).sendRole b 1).hopKick 0

/-- Whether this device wins an UNDECIDED bay (R573); `partnerPref` holds the partner's PREF_ACTIVE bits. -/
def State.winsBay (s : State) (b partnerPref : Nat) : Bool :=
  let mine := s.get (R.VDTn_ROLE.PREF b)
  if mine = b2n (partnerPref.testBit b) then !(s.on R.VDT_STATUS.PAIR_ID) else mine == 1

/-- CLAIM: BAY_GEN is its GEN, and a bay that waits for it is SYNCING (R571, R573); two ACTIVE bays are settled by
heartbeats (R583, R592). -/
def execVdtClaim (l q b g : Nat) (s : State) : Host.Outcome State Fault Refusal :=
  answer (s.vdtFrame l q b g 0x12 id (fun t =>
    let t := t.put (R.VDTn_BAY_GEN.GEN b) g
    if t.paired b = false then t
    else if t.roleOf b = 1 then (t.enterSync b).hopKick 0 else t))

/-- The action of a declaration edge on one bay (R579). -/
def State.declareBay (s : State) (b : Nat) : State :=
  let r := s.roleOf b
  if r = 4 ∧ s.on (R.VDTn_ROLE.ELIGIBLE b) then
    (s.takeGen b).modVdt (fun v => { v with taking := setBit v.taking b })
  else if r = 3 ∨ r = 1 ∨ r = 4 then s.setRole b 5
  else s

/-- YIELD (R580). -/
def execYield (l q b g : Nat) (s : State) : Host.Outcome State Fault Refusal :=
  answer (s.vdtFrame l q b g 0x12 id (fun t => if t.paired b then t.declareBay b else t))

/-- SYNCED: the syncing bay is STANDBY (R584, R585). -/
def execSynced (l q b g : Nat) (s : State) : Host.Outcome State Fault Refusal :=
  answer (s.vdtFrame l q b g 0x12 id (fun t =>
    if t.roleOf b = 3 ∧ t.on (R.VDTn_BULKQ.EN b) then (t.put (R.VDTn_SYNC.LINES_LEFT b) 0).setRole b 4 else t))

/-- RESYNC_REQ with the requester's REGCRC: the bulk pass starts, or REFUSE is sent (R584). -/
def execResyncReq (l q b g crc : Nat) (s : State) : Host.Outcome State Fault Refusal :=
  answer (s.vdtFrame l q b g 0x12 id (fun t =>
    if t.roleOf b = 2 ∨ t.link.vdt.taking.testBit b then
      if crc = t.regCrc b then
        ((t.modVdt (fun v => { v with bulk := updAt v.bulk b (fun _ => some 0) })).put (R.VDTn_SYNC.LINES_LEFT b)
          (min 65535 (t.mirrorLines b).length)).hopKick 0
      else (t.sendRole b 5).hopKick 0
    else t))

/-- REFUSE: the bay stays SYNCING, and asks no more until a CONFIG_ID changes (R584). -/
def execRefuse (l q b g : Nat) (s : State) : Host.Outcome State Fault Refusal :=
  answer (s.vdtFrame l q b g 0x12 id (fun t =>
    (t.modVdt (fun v => { v with refused := v.refused ++ [(b, t.get R.SEC_CONFIG_ID.CONFIG_ID, t.get R.VDT_PARTNER_CFG.CONFIG_ID)] })).stale
      b 2 0x12 q))

/-- The partner declared lost (R577, R579); `why` 1 for SELF_FAULT. -/
def State.declareLost (s : State) (why : Nat) : State :=
  let take := (List.range 8).foldl (fun m b => if s.roleOf b = 4 ∧ s.on (R.VDTn_ROLE.ELIGIBLE b) then setBit m b else m) 0
  let s := (s.modVdt (fun v => { v with lost := true })).flag R.VDT_IRQ_PEND.PARTNER_LOST true
  let s := s.forEach (List.range 8) (fun b t => if t.paired b then t.declareBay b else t)
  s.report (ownerOr0 (s.ownPeriph 42)) 0x3403 0 (why + 256 * take)

/-- HEARTBEAT_MISS: 10 µs without a valid HB on any lane (R577).  A partner from which no HB has arrived since the apply
edge is not declared lost: R573 settles its bays. -/
def execHeartbeatMiss (s : State) : Host.Outcome State Fault Refusal :=
  answer (if s.on R.VDT_STATUS.PAIR_EN = false then s
  else
    let k := s.link.vdt.misses + 1
    let s := (s.modVdt (fun v => { v with misses := k })).inc R.VDT_HB_MISS.COUNT
    let s := if 3 ≤ k then s.flag R.VDT_STATUS.PARTNER false else s
    if 3 ≤ k ∧ s.on R.VDT_STATUS.WITNESS = false ∧ s.link.vdt.lost = false ∧ s.link.vdt.hbSeen = true then s.declareLost 0
    else s)

/-- WITNESS_CHANGE: the filtered PAIR_ALIVE_IN changes (R576, R577). -/
def execWitnessChange (v : Bool) (s : State) : Host.Outcome State Fault Refusal :=
  answer (if s.on R.VDT_STATUS.WITNESS = v then s
  else
    let s := (s.flag R.VDT_STATUS.WITNESS v).modVdt (fun x => { x with disagree := false })
    if s.on R.VDT_STATUS.PAIR_EN ∧ v = false ∧ 3 ≤ s.link.vdt.misses ∧ s.link.vdt.lost = false ∧ s.link.vdt.hbSeen = true then
      s.declareLost 0
    else s)

/-- WITNESS_DISAGREE: 0 link lost with the witness high, 1 witness low with the link (R578). -/
def execWitnessDisagree (s : State) : Host.Outcome State Fault Refusal :=
  let hi := s.on R.VDT_STATUS.WITNESS
  let miss := decide (3 ≤ s.link.vdt.misses)
  answer (if s.on R.VDT_STATUS.PAIR_EN = false ∨ s.link.vdt.disagree ∨ hi ≠ miss then s
  else
    let s := (s.modVdt (fun v => { v with disagree := true, quiet := v.quiet || hi })).flag R.VDT_IRQ_PEND.DISAGREE true
    let s := if hi then s.forEach (List.range 8) (fun b t => if t.roleOf b = 4 then t.enterSync b else t) else s
    let s := s.hopKick 0
    s.report (ownerOr0 (s.ownPeriph 42)) 0x3405 0 (b2n (!hi)))

/-- UNDECIDED_TIMEOUT: 100 ms after the release of a bay (R573). -/
def execUndecidedTimeout (b : Nat) (s : State) : Host.Outcome State Fault Refusal :=
  answer (if s.roleOf b ≠ 1 ∨ s.link.vdt.hbSeen then s
  else if s.on R.VDT_STATUS.WITNESS = false ∨ s.on R.VDT_STATUS.PAIR_ID = false then s.claimBay b
  else ((s.setRole b 5).flag R.VDT_IRQ_PEND.DISAGREE true).report (ownerOr0 (s.ownPeriph 42)) 0x3405 0 0)

/-- A write of VDTn_CMD by bay `b` or BAY0 (R590). -/
def State.byVdtPage (s : State) (i : Init) (b addr : Nat) (f : State → State) : State :=
  s.act i (isBay i b || isBay i 0) 0x0C02 addr true f

/-- HANDOVER (R580). -/
def State.handover (t : State) (b : Nat) : State :=
  if t.roleOf b = 2 && t.partnerReady b then (t.yieldBay b).hopKick 0 else t.flag (R.VDTn_CMD.REFUSED b) true

def execHandover (by_ : Init) (b : Nat) (s : State) : Host.Outcome State Fault Refusal :=
  answer (s.byVdtPage by_ b (R.VDTn_CMD.HANDOVER b).addr (fun t => t.handover b))

/-- SELF_FAULT (R575). -/
def State.selfFault (t : State) : State :=
  (t.flag R.VDT_CTRL.SELF_FAULT true).flag R.VDT_STATUS.ALIVE_OUT false

def execSelfFault (by_ : Init) (s : State) : Host.Outcome State Fault Refusal :=
  answer (s.byOwner by_ 42 R.VDT_CTRL.SELF_FAULT.addr (fun t => t.selfFault))

/-! ### Heartbeats (R573, R574, R583, R588) -/

def bayMask (p : Nat → Bool) : Nat := (List.range 8).foldl (fun m b => if p b then setBit m b else m) 0

/-- The HB that lane `l` sends now (R574). -/
def State.vdtHbFrame (s : State) (l : Nat) : LFrame :=
  let x := s.laneAt l
  let st := b2n (s.on R.VDT_CTRL.SELF_FAULT) + 2 * b2n (s.on R.VDT_STATUS.WITNESS) + 4 * b2n s.timeRef +
    8 * b2n ((List.range 8).any (fun b => s.roleOf b == 1))
  ⟨1, 0, 0, toBE 4 (s.get R.VDT_GEN.GEN) ++ toBE 4 (s.get R.SEC_CONFIG_ID.CONFIG_ID) ++
    toBE 1 (bayMask s.paired) ++ toBE 1 (bayMask (fun b => s.roleOf b == 2)) ++
    toBE 1 (bayMask (fun b => s.on (R.VDTn_ROLE.ELIGIBLE b))) ++ toBE 1 st ++ toBE 8 s.now ++ s.traceBytes ++
    toBE 2 (s.get R.TIME_STATUS.EPOCH) ++ toBE 8 x.hbTx ++ toBE 8 x.hbRx, 2⟩

/-- The HB of a Trestle lane (R607). -/
def State.trsHbFrame (s : State) (l : Nat) : LFrame :=
  let x := s.laneAt l
  ⟨1, 0, 0, toBE 1 (if s.link.trs.unplaced then 0xFF else s.get R.TRS_STATUS.POS) ++ toBE 1 (s.get R.TRS_STATUS.MASTER) ++
    toBE 1 (s.get R.TRS_STATUS.ELECTED + 2 * s.get R.TRS_STATUS.JOIN_REFUSED) ++ [0] ++
    toBE 4 (s.get R.SEC_CONFIG_ID.CONFIG_ID) ++ toBE 8 s.sec.otp.uid ++ toBE 8 s.now ++ toBE 8 x.hbTx ++ toBE 8 x.hbRx ++
    List.replicate 8 0, 2⟩

/-- HB_SEND: every 10,000 ns of steady time each lane that is UP is given a heartbeat (R562, R604). -/
def execHbSend (s : State) : Host.Outcome State Fault Refusal :=
  answer (s.forEach (([2, 3, 4, 5] : List Nat).filter s.laneUp) (fun l t =>
    let f := if l < 4 then t.vdtHbFrame l else t.trsHbFrame l
    (t.modLane l (fun x => { x with ctl := x.ctl.filter (fun g => g.ftype != 1) ++ [f] })).laneKick l))

/-- d of R588 from the echo of a heartbeat received at `t4` with TX_STEADY `t3`. -/
def hbDelay (t1 t2 t3 t4 : Nat) : Int := (((t4 : Int) - t1) - ((t3 : Int) - t2)) / 2

/-- A bay at a valid HB (R573, R583).  HB has one UNDECIDED bit for all bays: a bay that the partner pairs and shows
neither ACTIVE nor STANDBY counts as UNDECIDED where that bit is set.  An ACTIVE bay claims such a bay under the present
GEN, as the chapter's example does. -/
def State.hbBay (s : State) (g paired active standby undec : Nat) (pref b : Nat) : State :=
  let s := s.flag (R.VDTn_ROLE.PARTNER_ACTIVE b) (active.testBit b)
  let r := s.roleOf b
  if s.paired b = false then s
  else if r = 1 then
    if paired.testBit b = false then s.claimBay b
    else if active.testBit b then (s.enterSync b).hopKick 0
    else if undec = 1 ∧ standby.testBit b = false ∧ s.winsBay b pref then s.claimBay b
    else s
  else if r = 2 ∧ active.testBit b then
    let own := s.get (R.VDTn_BAY_GEN.GEN b)
    if g < own then s
    else if own = g ∧ s.on R.VDT_STATUS.PAIR_ID = false then s.claimBay b
    else (s.enterSync b).hopKick 0
  else if r = 2 ∧ undec = 1 ∧ paired.testBit b = true ∧ standby.testBit b = false then (s.sendRole b 1).hopKick 0
  else s

/-- Resynchronizations refused under another pair of CONFIG_IDs are asked for again (R584). -/
def State.askAgain (s : State) : State :=
  let now := fun (x : Nat × Nat × Nat) =>
    x.2.1 == s.get R.SEC_CONFIG_ID.CONFIG_ID && x.2.2 == s.get R.VDT_PARTNER_CFG.CONFIG_ID
  let old := s.link.vdt.refused.filter (fun x => !(now x))
  let s := s.modVdt (fun v => { v with refused := v.refused.filter now })
  s.forEach old (fun x t => if t.roleOf x.1 = 3 then (t.resyncReq x.1).hopKick 0 else t)

/-- A valid Viaduct HB on lane `l`, its 48 data bytes received at steady ns `t4`; `pref` is the partner's
PREF_ACTIVE (R573, R574, R577, R583, R588). -/
def State.hbTaken (s : State) (l t4 pref : Nat) (d : List Byte) : State :=
  let g := beAt d 0 4
  let st := beAt d 11 1
  let t3 := beAt d 12 8
  let t1 := beAt d 32 8
  let t2 := beAt d 40 8
  let dl := hbDelay t1 t2 t3 t4
  let tr : Option Int := if beAt d 20 6 = 281474976710655 then none else some ((beAt d 20 6 * 1000000000 + beAt d 26 4 : Nat) : Int)
  let s := s.adoptGen g
  let s := s.modLane l (fun x => { x with hbTx := t3, hbRx := t4, delays := dl :: x.delays.take 63 })
  let s := s.modVdt (fun v => { v with
    misses := 0, lost := v.lost && decide (st % 2 = 1), quiet := false, hbSeen := true, pPaired := beAt d 8 1, pActive := beAt d 9 1, pStandby := beAt d 10 1
    pStatus := st, samples := ((t3 : Int), s.rawAt t4) :: v.samples.take 99, hbAt := t4, pTrace := tr
    disagree := v.disagree && !(s.on R.VDT_STATUS.WITNESS) })
  let s := (s.flag R.VDT_STATUS.PARTNER true).put R.VDT_PARTNER_CFG.CONFIG_ID (beAt d 4 4)
  let s := s.flag R.VDT_STATUS.TIME_REF s.timeRef
  let s := (s.put R.VDT_DELAY.NS (wrapInt 16 dl)).askAgain
  let s := s.forEach (List.range 8) (fun b t => t.hbBay g (beAt d 8 1) (beAt d 9 1) (beAt d 10 1) (st / 8 % 2) pref b)
  if st % 2 = 1 ∧ s.link.vdt.lost = false then s.declareLost 1 else s

/-- HB (R573, R574). -/
def execVdtHb (l t4 pref : Nat) (d : List Byte) (s : State) : Host.Outcome State Fault Refusal :=
  answer (if s.laneUp l && decide (l < 4) then s.hbTaken l t4 pref d else s)

/-- The ADJ that makes the own rate match a far clock over samples, newest first: its ns, and own FAB_CLK time at 4 ns a
cycle (R588, R620). -/
def State.matchRate (s : State) (l : List (Int × Int)) : Int :=
  match l.head?, l.getLast? with
  | some (a1, b1), some (a0, b0) =>
    if b1 ≤ b0 then s.adj else 4 * qns * (a1 - a0) / (b1 - b0) - 4 * qns
  | _, _ => s.adj

/-- Following the partner: each 1 ms the rate, each 125 ms (`corr`) a correction (R588). -/
def State.pairFollow (s : State) (corr : Bool) : State :=
  if s.get R.TIME_CFG2.SOURCE ≠ 3 ∨ s.link.vdt.pStatus.testBit 2 = false ∨ s.on R.VDT_STATUS.PARTNER = false ∨ s.timeRef then s
  else if corr = false then s.setAdj (s.matchRate s.link.vdt.samples)
  else
    match s.link.vdt.pTrace with
    | some p =>
      let t4 := s.link.vdt.hbAt
      let d := signed 16 (s.get R.VDT_DELAY.NS)
      let own : Int := (s.traceQ.getD 0) / qns - ((s.now : Int) - t4)
      s.submitCorr (if s.time.state = .invalid then p + d + ((s.now : Int) - t4) else p + d - own)
    | none => s

end Sys2Proof.Machine
end

