-- ==== Sys2Proof/Machine/Reel.lean ====
section
/-! DEFINITION.
Reel engines and the common interface of their images (chapters 08 and 09). -/

namespace Sys2Proof.Machine

/-! ### Image files (R294, R295) -/

def enkLoadLen (f : List Byte) : Nat := beAt f 0x0C 4
def enkWork (f : List Byte) : Nat := beAt f 0x14 4
def enkBody (f : List Byte) : List Byte := slice f 64 (enkLoadLen f)

/-- Whether a DEVID fits this device (R45). -/
def devidOk (s : State) (d : Nat) : Bool :=
  let own := s.get R.SYS_DEVID.DEVID
  d / 65536 == own / 65536 && d % 256 == own % 256 && decide (d / 256 % 256 ≤ own / 256 % 256)

/-- The checks of an image in order: 0, or IMG_SIG, IMG_ID, IMG_VERSION (R295). -/
def State.imgCheck (s : State) (e : Nat) (f : List Byte) : Nat :=
  let r := (s.imgRec e).getD []
  if beAt f 0 4 ≠ 0x454E524B ∨ beAt f 5 1 ≠ 1 ∨ devidOk s (beAt f 8 4) = false ∨ 65536 < enkLoadLen f + enkWork f ∨
      f.length ≠ 128 + enkLoadLen f then 0x0601
  else if beAt f 4 1 ≠ C.IMGS0.IMAGE_ID r then 0x0603
  else if beAt f 6 2 < C.IMGS0.MIN_VER r then 0x0602
  else if Config.p256Verify Config.imageKeyX Config.imageKeyY (Config.sha256 (f.take (64 + enkLoadLen f)))
      (slice f (64 + enkLoadLen f) 32) (slice f (96 + enkLoadLen f) 32) then 0
  else 0x0601

/-- The file that an engine loads: the host's bytes, or the QSPI flash at FLASH_OFFSET (R295). -/
def State.imgFile (s : State) (e : Nat) : List Byte :=
  if s.on (R.REELn_CFG.SOURCE e) then (s.engineAt e).incoming
  else
    let o := C.IMGS0.FLASH_OFFSET ((s.imgRec e).getD [])
    s.flashBytes o (128 + enkLoadLen (s.flashBytes o 64))

/-! ### Parameters (R321, R322, R330 to R344) -/

/-- PARAM_ID, class 0 B, 1 S, 2 L, and the default where the image states one. -/
def commonParams : List (Nat × Nat × Option Nat) :=
  [(0x0001, 0, some 1), (0x0002, 2, some 0xFFFFFFFF), (0x0003, 0, some 2), (0x0004, 0, some 0), (0x0010, 0, some 0xFF),
   (0x0011, 0, some 0xFFFF), (0x0012, 0, some 0x4000)]

/-- Classes of parameters 0x0100 on, in order, with stated defaults. -/
def ownParams (id : Nat) : List (Nat × Option Nat) :=
  if id = 0x01 then [(1, none), (0, none), (0, none), (1, some 3)]
  else if id = 0x02 then [(1, none), (1, none), (1, none), (1, some 17224), (1, some 17225)]
  else if id = 0x03 then [(1, none), (0, none), (1, none), (0, none), (0, none)]
  else if id = 0x04 then [(0, none), (0, none), (0, none), (0, none)]
  else if id = 0x05 then [(1, none), (1, none), (1, none), (0, none)]
  else if id = 0x06 then [(1, none), (0, none), (0, none)]
  else if id = 0x07 then [(1, none), (1, none)]
  else if id = 0x08 then [(1, none), (1, none), (1, none), (1, some 502), (1, some 1), (1, some (19200 + 16777216)),
    (0, none), (2, some 1000)]
  else if id = 0x09 then [(1, none), (1, none), (2, none)]
  else if id = 0x0A then [(0, none), (0, none), (1, none), (1, none)]
  else if id = 0x0B then [(1, none), (0, none), (0, none), (0, none), (2, none)]
  else if id = 0x0C then [(0, none), (1, none), (1, none), (1, none), (1, none), (0, none), (1, none), (1, none)]
  else []

def paramInfo (id pid : Nat) : Option (Nat × Option Nat) :=
  match commonParams.find? (fun x => x.1 == pid) with
  | some x => some x.2
  | none => if pid < 0x100 then none else (ownParams id)[pid - 0x100]?

/-- The cycle-time encoding of one port of image 0x07 (R337). -/
def cycleOk (b : Nat) : Bool := b == 0 || (b / 64 == 0 && decide (4 ≤ b)) || b / 64 == 1 || b / 64 == 2

/-- Bit rates of image 0x03 in bit/s (R332), and of image 0x09 in kbit/s (R340). -/
def type3Rates : List Nat := [0, 9600, 19200, 45450, 93750, 187500, 500000, 1500000, 3000000, 6000000, 12000000]
def canopenRates : List Nat := [10, 20, 50, 125, 250, 500, 800, 1000]

/-- Whether a value of a parameter that SET_PARAM may set is in its range; `profile` is image 0x0C's PROFILE. -/
def paramOk (id pid v profile : Nat) : Bool :=
  let k := id * 65536 + pid
  if k = 0x010100 then decide (1 ≤ v ∧ v ≤ 0xFFF)
  else if k = 0x010103 then decide (v ≤ 3)
  else if k = 0x020103 ∨ k = 0x020104 ∨ k = 0x080103 then decide (v ≤ 65535)
  else if k = 0x030100 then decide (v ≤ 125)
  else if k = 0x030102 then type3Rates.contains v
  else if k = 0x060100 then decide (1 ≤ v ∧ v ≤ 239)
  else if k = 0x070100 then decide (v ≤ 255)
  else if k = 0x070101 then (List.range 4).all (fun i => cycleOk (v / 256 ^ i % 256))
  else if k = 0x080105 then decide (1200 ≤ v % 16777216 ∧ v % 16777216 ≤ 921600 ∧ v / 16777216 % 4 ≤ 2)
  else if k = 0x090100 then decide (1 ≤ v ∧ v ≤ 127) || v == 255
  else if k = 0x090101 then canopenRates.contains v
  else if k = 0x0A0103 then v == 250 || v == 500
  else if k = 0x0B0100 then decide (v ≤ 7)
  else if k = 0x0C0101 then (if profile = 2 then v == 0 else decide (v ≤ 127))
  else if k = 0x0C0103 then decide (v ≤ 2)
  else if k = 0x0C0104 then decide (-7 ≤ signed 32 v ∧ signed 32 v ≤ 4)
  else if k = 0x0C0107 then decide (v ≤ 1)
  else true

/-- Entry KINDs that an image lists (R323, R330 to R344). -/
def entryKinds (id : Nat) : Nat :=
  if id = 0x01 ∨ id = 0x02 ∨ id = 0x09 ∨ id = 0x0A then 3
  else if id = 0x04 ∨ id = 0x08 then 2
  else if id = 0x0B ∨ id = 0x0C then 0 else 1

/-- Whether a configuration buffer passes: header, ENTRY_COUNT, CRC and KINDs (R323). -/
def cfgBufOk (id : Nat) (d : List Byte) : Bool :=
  let n := leAt d 2 2
  leAt d 0 1 == id && leAt d 1 1 == 1 && decide (1 ≤ n ∧ n ≤ 512) && decide (16 + 16 * n ≤ d.length) &&
  leAt d 4 4 == crc32c (slice d 16 (16 * n)) && leAt d 8 8 == 0 &&
  (List.range n).all (fun i => let k := leAt d (16 + 16 * i + 2) 1; decide (1 ≤ k ∧ k ≤ entryKinds id))

def State.imageId (s : State) (e : Nat) : Nat := s.get (R.REELn_STATE.IMAGE_ID e)
def State.engRunning (s : State) (e : Nat) : Bool := s.get (R.REELn_STATE.STATE e) == 5
def State.engBay (s : State) (e : Nat) : Nat := ownerOr0 (s.ownReel e)

/-- A counter of the image raised, saturating at 32 bits (R327). -/
def State.imgCount (s : State) (e i n : Nat) : State :=
  s.modEngine e (fun x => { x with counters := SMap.set 0 x.counters i (min (SMap.get 0 x.counters i + n) 4294967295) })

/-! ### Command mailbox (R309, R312, R313) -/

/-- The side of its CMD_MBX on which an image writes. -/
def State.imgSide (s : State) (e : Nat) : Nat :=
  let m := s.get (R.REELn_CFG.CMD_MBX e)
  if (s.binding m).isSome then 0
  else match s.grant 0 m with
    | some r => if C.BAYS1.BAY_A r = s.engBay e then 0 else 1
    | none => 1

/-- Held replies written, oldest first, while they fit whole. -/
def State.sendReplies : Nat → State → Nat → State
  | 0, s, _ => s
  | n + 1, s, e =>
    match (s.engineAt e).replies with
    | [] => s
    | ws :: t =>
      let m := s.get (R.REELn_CFG.CMD_MBX e)
      let d := s.imgSide e
      if (s.mbxQ m d).words + ws.length ≤ 16 then
        let s := s.modEngine e (fun x => { x with replies := t })
        let s := s.forEach ws.dropLast (fun w u => u.mbxPut m d w false)
        State.sendReplies n (s.mbxPut m d (ws.getLastD 0) true).linksBound e
      else s

/-- A completion: never dropped (R312, R313). -/
def State.putReply (s : State) (e : Nat) (ws : List Word) : State :=
  let s := s.modEngine e (fun x => { x with replies := x.replies ++ [ws] })
  s.sendReplies (s.engineAt e).replies.length e

/-- An event, unless EVENT_MASK hides it; one that finds the hold full is dropped and counted (R313, R317, R322). -/
def State.imgEvent (s : State) (e code detail value : Nat) : State :=
  let mask := s.imgParam e 2 0xFFFFFFFF
  let shown := if 0x8001 ≤ code ∧ code ≤ 0x8004 then mask.testBit (code - 0x8001)
    else if 0x9000 ≤ code ∧ code ≤ 0x901B then mask.testBit (code - 0x9000 + 4) else true
  if shown = false then s
  else
    let s := s.sendReplies (s.engineAt e).replies.length e
    if 32 ≤ (s.engineAt e).replies.length then s.imgCount e 3 1
    else s.putReply e [BitVec.ofNat 32 (0x11 + 65536 * code), BitVec.ofNat 32 s.stamp, BitVec.ofNat 32 detail, BitVec.ofNat 32 value]

/-! ### Image states (R324, R325, R328, R334, R347, R348, R352) -/

/-- OUT descriptors before their commit point end as ABORTED (R325). -/
def State.abortOut (s : State) (e : Nat) : State :=
  let q := s.get (R.REELn_QUEUES.QBASE e)
  s.forEach ((s.qEnd q 0).inflight.filter (fun d => !d.committed)) (fun d t => t.abortDesc q 0 d)

/-- The RS-485 drivers of the passive SER ports of an engine are off (R325). -/
def State.quietDrivers (s : State) (e : Nat) : State :=
  s.forEach (indices 6 (fun n => (s.get (R.REELn_CFG.PORTS e)).testBit (8 + n) && s.portQuiet (8 + n))) (fun n t =>
    t.flag (R.SERn_STATUS.DE n) false)

def State.imgEnter (s : State) (e st : Nat) : State :=
  let old := (s.engineAt e).imgState
  let s := (s.modEngine e (fun x => { x with imgState := st })).quietDrivers e
  let s := if st = 2 ∨ st = 3 then s.abortOut e else s
  s.imgEvent e 0x8001 st old

/-- A fatal error: cause 0x3005, FAULT (R326, R351). -/
def State.imgFatal (s : State) (e detail : Nat) : State :=
  if (s.engineAt e).imgState = 3 then s
  else (s.imgEnter e 3).report (s.engBay e) 0x3005 e detail

/-- Whether two engines' allocations on a shared ETH port overlap (R322, R328). -/
def State.overlaps (s : State) (e f : Nat) : Bool :=
  let eth := (s.get (R.REELn_CFG.PORTS e) &&& s.get (R.REELn_CFG.PORTS f)) % 16
  let ra := s.imgParam e 0x12 0x4000
  let rb := s.imgParam f 0x12 0x4000
  eth != 0 &&
  ((s.imgParam e 0x10 0xFF &&& s.imgParam f 0x10 0xFF) != 0 || (s.imgParam e 0x11 0xFFFF &&& s.imgParam f 0x11 0xFFFF) != 0 ||
   (decide (ra % 256 < rb % 256 + rb / 256 % 256) && decide (rb % 256 < ra % 256 + ra / 256 % 256)))

/-- Whether the allocation of an engine conflicts with one that is OPERATING (R328). -/
def State.allocClash (s : State) (e : Nat) : Bool :=
  (List.range 12).any (fun f => f != e && s.engRunning f && (s.engineAt f).imgState == 1 && s.overlaps e f)

/-- What an image needs and lacks: a time source (R334), or a context of its own bay (R348); 0 for nothing. -/
def State.imgLacks (s : State) (e : Nat) : Nat :=
  let id := s.imageId e
  let c := if id = 0x0B then s.imgParam e 0x103 0xFF else if id = 0x04 then s.imgParam e 0x100 0xFF else 0xFF
  if id = 0x04 ∧ c ≠ 0xFF ∧ s.get R.TIME_CFG2.SOURCE ≠ 1 then 5
  else if (id = 0x0B ∨ (id = 0x04 ∧ c ≠ 0xFF)) ∧ s.ownPeriph (38 + c) ≠ s.ownReel e then 2 else 0

/-- Entry into OPERATING where nothing stands against it: 0, or IMG_STATE, IMG_RESOURCE (R314, R328). -/
def State.imgStart (s : State) (e : Nat) : State × Nat :=
  let x := s.engineAt e
  if x.cfgOk = false ∨ (x.imgState ≠ 0 ∧ x.imgState ≠ 2) then (s, 0x0701)
  else if s.imgLacks e ≠ 0 then (s.imgFatal e (s.imgLacks e), 0x0701)
  else if s.allocClash e then (s, 0x0703)
  else (s.imgEnter e 1, 0)

/-- The configuration found valid or not; then AUTOSTART (R351, R352). -/
def State.imgConfigured (s : State) (e : Nat) (ok : Bool) : State :=
  if ok = false then s.imgFatal e 2
  else
    let s := s.modEngine e (fun x => { x with cfgOk := true })
    if s.imgParam e 1 1 = 1 then (s.imgStart e).1 else s

/-- The image parameters of IMGS table 1 (R321). -/
def State.recParams (s : State) (e : Nat) : SMap Nat :=
  (s.recs .imgs 1).foldl (fun m r =>
    if C.IMGS1.REEL r = s.servesFor e then SMap.set 0 m (C.IMGS1.PARAM_ID r) (C.IMGS1.VALUE r + 1) else m) []

/-- An engine enters RUNNING: the image starts in CONFIGURED (R297, R352). -/
def State.engineRun (s : State) (e id ver : Nat) : State :=
  let s := ((s.put (R.REELn_STATE.STATE e) 5).put (R.REELn_STATE.IMAGE_ID e) id).put (R.REELn_STATE.VERSION e) ver
  let s := (s.setB R.REEL_RUN_SUM.RUNNING e).bump (R.REELn_HEALTH.LOADS e)
  let ps := s.recParams e
  let s := s.modEngine e (fun x => { x with
    imgState := 0, params := ps, pendingParams := [], counters := [], cmds := [], replies := [], busErrs := []
    cfgOk := false, healthAt := s.now, missed := false, incoming := [] })
  let s := (s.quietDrivers e).imgEvent e 0x8004 (s.get (R.REELn_HEALTH.LOADS e)) e
  let src := s.imgParam e 3 2
  if src = 0 then s
  else if src = 1 then
    let o := s.imgParam e 4 0
    s.imgConfigured e (cfgBufOk id (s.flashBytes o (16 + 16 * leAt (s.flashBytes o 4) 2 2)))
  else s.imgConfigured e true

/-- A passed file copied into local memory and run (R292, R295). -/
def State.engineLoaded (s : State) (e : Nat) (f : List Byte) : State :=
  let s := s.zeroMem (rlmBase e) (rlmBase e + 0x10000)
  let s := s.putBytes (rlmBase e) (enkBody f)
  let s := s.modEngine e (fun x => { x with loadLen := enkLoadLen f, work := enkWork f, bodyCrc := crc32c (enkBody f) })
  s.engineRun e (beAt f 4 1) (beAt f 6 2)

/-- A load that failed or was aborted: local memory zeroed, the state before the load (R295). -/
def State.engineBack (s : State) (e : Nat) : State :=
  let s := s.zeroMem (rlmBase e) (rlmBase e + 0x10000)
  let s := s.put (R.REELn_STATE.STATE e) (s.engineAt e).before
  s.modEngine e (fun x => { x with loadLen := 0, work := 0, bodyCrc := 0, incoming := [] })

/-- Halvik's image loads in ascending engine order: a host-sourced image waits, the first other one loads (R91, R93). -/
def State.loadKick (s : State) : State :=
  s.forEach (List.range 12) (fun e t =>
    if t.get (R.REELn_STATE.STATE e) = 2 then
      match t.ownReel e with
      | some b =>
        if t.bayState b ≠ bayHeld ∧ t.bayState b ≠ bayRunning then t
        else if t.on (R.REELn_CFG.SOURCE e) then t.put (R.REELn_STATE.STATE e) 4
        else if (t.flt.running ++ t.flt.waiting).any (fun x => x.cause == 0x5803 && x.res == e) then t
        else if (List.range 12).any (fun f => t.get (R.REELn_STATE.STATE f) == 3 && !(t.on (R.REELn_CFG.SOURCE f))) then t
        else (t.put (R.REELn_STATE.STATE e) 3).modEngine e (fun x => { x with before := 2 })
      | none => t
    else t)

/-- Operations of an image's queues end as a block reset ends them (R184). -/
def State.endImageQueues (s : State) (e : Nat) : State :=
  let q0 := s.get (R.REELn_QUEUES.QBASE e)
  s.forEach (List.range (s.get (R.REELn_QUEUES.QCOUNT e))) (fun k t =>
    t.forEach [0, 1] (fun en u =>
      u.forEach ((u.qEnd (q0 + k) en).inflight.filter (fun d => d.final.isNone)) (fun d v =>
        if d.committed then v.finishDesc (q0 + k) en d.idx 3 0x0803 0 v.stamp d.aux
        else v.finishDesc (q0 + k) en d.idx 2 0 0 v.stamp d.aux)))

/-- An image that ran ends: its open message goes, its queue operations end (R300). -/
def State.imageEnd (s : State) (e : Nat) : State :=
  let m := s.get (R.REELn_CFG.CMD_MBX e)
  let d := s.imgSide e
  let q := s.mbxQ m d
  let s := if q.isOpen then (s.setMbx m d { q with opn := [], isOpen := false }).mbxStatus m d 2 0 else s
  s.endImageQueues e

/-- An image stops with its engine, which ran or was held for its retest: replies and commands in hand are lost; the replay
store keeps what completed (R300, R350, R386). -/
def State.imageStop (s : State) (e : Nat) : State :=
  let st := s.get (R.REELn_STATE.STATE e)
  let s := if st = 5 ∨ st = 6 then s.imageEnd e else s
  let s := (s.clrB R.REEL_RUN_SUM.RUNNING e).zeroMem (rlmBase e) (rlmBase e + 0x10000)
  let s := ((s.put (R.REELn_STATE.IMAGE_ID e) 0).put (R.REELn_STATE.VERSION e) 0).put (R.REELn_BITIO.ACTIVE e) 0
  s.modEngine e (fun x => { Engine.blank with replay := dropPending x.replay, accepts := x.accepts })

/-- Images whose engine was retired end as with RESTART; 4 marks the engine as done (R297, R301, R350). -/
def State.settleRetired (s : State) : State :=
  s.forEach (indices 12 (fun e => s.get (R.REELn_STATE.STATE e) == 7 && (s.engineAt e).imgState != 4)) (fun e t =>
    (t.imageEnd e).modEngine e (fun x => { Engine.blank with replay := x.replay, accepts := x.accepts, imgState := 4 }))

/-- RESTART (R300). -/
def State.reelRestart (t : State) (e : Nat) : State :=
  let st := t.get (R.REELn_STATE.STATE e)
  if st = 5 ∨ st = 8 then ((t.imageStop e).put (R.REELn_STATE.STATE e) 2).loadKick else t

def execRestart (by_ : Init) (e : Nat) (s : State) : Host.Outcome State Fault Refusal :=
  answer (s.act by_ (!(fromAfar by_) && s.ownReel e == some by_.bay) 0x0C02 (R.REELn_CTRL.RESTART e).addr true (fun t => t.reelRestart e))

/-! ### Bus errors (R138, R326) -/

def State.imgBus (s : State) (e addr : Nat) : State :=
  if s.engRunning e = false then s
  else
    let s := (s.inc (R.REELn_BUSERR.COUNT e)).imgCount e 4 1
    let l := (s.now :: (s.engineAt e).busErrs).take 17
    let s := (s.modEngine e (fun x => { x with busErrs := l })).imgEvent e 0x8002 (addr % 4294967296) (addr / 4294967296)
    if 17 ≤ l.length ∧ s.now ≤ l.getLastD 0 + 1000000000 then s.imgFatal e 1 else s

/-- The bus errors that wait for an image, each handled (R326). -/
def State.imgOwed (s : State) (e : Nat) : State :=
  let l := (s.engineAt e).owed
  (s.modEngine e (fun x => { x with owed := [] })).forEach l (fun a t => t.imgBus e a)

/-! ### Commands (R310 to R316) -/

/-- The completion words of a command, with payload (R312). -/
def imgWords (w1 res detail value : Nat) (pay : List Nat) : List Word :=
  [BitVec.ofNat 32 ((if res = 0 then 1 else 3) + 256 * pay.length + 65536 * res), BitVec.ofNat 32 w1, BitVec.ofNat 32 detail,
   BitVec.ofNat 32 value] ++ pay.map (BitVec.ofNat 32)

/-- A command's completion: stored for repeats without its payload, answered, and the waiting repeats after it
(R383, R384). -/
def State.imgDone (s : State) (e origin tag res detail value : Nat) (pay : List Nat) : State :=
  let w1 := origin + 65536 * tag
  let kept := imgWords w1 res detail value []
  let reps := repeatsOf (s.engineAt e).replay origin tag
  let s := s.modEngine e (fun x => { x with
    replay := modEntry x.replay origin tag (fun y => { y with done := some kept, repeats := [] })
    cmds := x.cmds.filter (fun c => !(c.1 == origin && c.2.1 == tag)) })
  let s := if res = 0 then s else s.imgCount e 1 1
  let s := s.putReply e (imgWords w1 res detail value pay)
  s.forEach reps (fun _ t => (t.imgCount e 2 1).putReply e (asDuplicate kept))

/-- A command refused before it enters the window (R311, R383). -/
def State.imgRefuse (s : State) (e w1 res : Nat) : State := (s.imgCount e 1 1).putReply e (imgWords w1 res 0 0 [])

/-- Payload words that an opcode takes; none where the image has no such opcode (R314, R330 to R332). -/
def imgOpLen (id op : Nat) : Option Nat :=
  if op = 1 ∨ op = 3 ∨ op = 4 then some 0 else if op = 5 ∨ op = 7 then some 1 else if op = 6 then some 2
  else if id = 1 ∧ op = 0x20 then some 1 else if id = 1 ∧ op = 0x21 then some 0
  else if id = 2 ∧ op = 0x20 then some 2 else if id = 2 ∧ op = 0x21 then some 1
  else if id = 3 ∧ op = 0x20 then some 1 else none

/-- The current value of a parameter; a free value where neither a record nor the image gives one. -/
def State.paramVal (s : State) (e pid : Nat) (dflt : Option Nat) : State × Nat :=
  match SMap.get 0 (s.engineAt e).params pid, dflt with
  | v + 1, _ => (s, v)
  | 0, some d => (s, d)
  | 0, none => (s.took 1, s.freeW)

/-- SET_PARAM (R321): its RESULT, and the value set at once, or at the next protocol cycle while OPERATING. -/
def State.setParam (s : State) (e pid v : Nat) : State × Nat :=
  match paramInfo (s.imageId e) pid with
  | none => (s, 0x0702)
  | some (cls, _) =>
    let op := (s.engineAt e).imgState == 1
    if cls = 0 then (s, 0x0202)
    else if cls = 1 ∧ (s.engineAt e).imgState ≠ 0 ∧ (s.engineAt e).imgState ≠ 2 then (s, 0x0701)
    else if paramOk (s.imageId e) pid v (s.imgParam e 0x100 0) = false then (s, 0x0702)
    else if op then (s.modEngine e (fun x => { x with pendingParams := SMap.set 0 x.pendingParams pid (v + 1) }), 0)
    else (s.modEngine e (fun x => { x with params := SMap.set 0 x.params pid (v + 1) }), 0)

/-- A common command executed, or an image-specific one taken in hand (R314). -/
def State.imgExec (s : State) (e origin tag op : Nat) (pay : List Word) : State :=
  let p (i : Nat) : Nat := (pay.getD i 0).toNat
  let x := s.engineAt e
  let id := s.imageId e
  if op = 2 then s.imgDone e origin tag 0x0207 0 0 []
  else
    match imgOpLen id op with
    | none => s.imgDone e origin tag 0x0203 0 0 []
    | some n =>
      if pay.length ≠ n then s.imgDone e origin tag 0x0204 0 0 []
      else if op = 1 then
        s.imgDone e origin tag 0 (x.imgState + 256 * id + 65536 * s.get (R.REELn_STATE.VERSION e)) (x.loadLen + x.work) []
      else if op = 3 then
        let (t, r) := s.imgStart e
        t.imgDone e origin tag r 0 0 []
      else if op = 4 then
        if x.imgState = 1 then (s.imgEnter e 2).imgDone e origin tag 0 0 0 [] else s.imgDone e origin tag 0x0701 0 0 []
      else if op = 5 then
        let i := p 0 % 256
        let k := p 0 / 256 % 256
        if k = 0 ∨ 12 < k then s.imgDone e origin tag 0x0702 0 0 []
        else
          let vs := (List.range k).map (fun j => SMap.get 0 x.counters (i + j))
          let s := if (p 0).testBit 16 then
              s.modEngine e (fun y => { y with counters := (List.range k).foldl (fun m j => SMap.set 0 m (i + j) 0) y.counters })
            else s
          s.imgDone e origin tag 0 0 0 vs
      else if op = 6 then
        let (t, r) := s.setParam e (p 0) (p 1)
        t.imgDone e origin tag r 0 0 []
      else if op = 7 then
        match paramInfo id (p 0) with
        | none => s.imgDone e origin tag 0x0702 0 0 []
        | some (_, d) =>
          let (t, v) := s.paramVal e (p 0) d
          t.imgDone e origin tag 0 0 v []
      else if x.imgState = 1 then s.modEngine e (fun y => { y with cmds := y.cmds ++ [(origin, tag, op)] })
      else s.imgDone e origin tag 0x0701 0 0 []

/-- Whether an image takes commands of this origin: the range of the bay that wrote it, or the bound range (R311). -/
def State.imgOrigin (s : State) (e origin : Nat) : Bool :=
  let m := s.get (R.REELn_CFG.CMD_MBX e)
  if (s.binding m).isSome then origin / 4096 == 2
  else
    let w := match s.grant 0 m with
      | some r => if C.BAYS1.BAY_A r = s.engBay e then C.BAYS1.BAY_B r else C.BAYS1.BAY_A r
      | none => s.engBay e
    origin / 256 == w

/-- A command message of the image (R310, R311, R383). -/
def State.imgCommand (s : State) (e : Nat) (ws : List Word) : State :=
  let w0 := (ws.getD 0 0).toNat
  let w1 := (ws.getD 1 0).toNat
  let origin := w1 % 65536
  let tag := w1 / 65536
  let x := s.engineAt e
  if s.imgOrigin e origin = false then s.imgRefuse e w1 0x0201
  else
    match lookup x.replay origin tag (fingerprint ws) with
    | .reuse => s.imgRefuse e w1 0x0208
    | .stored k => (s.imgCount e 2 1).putReply e (asDuplicate k)
    | .pending => s.modEngine e (fun y => { y with replay := modEntry y.replay origin tag (fun z => { z with repeats := z.repeats ++ [e] }) })
    | .fresh =>
      let s := s.modEngine e (fun y => { y with accepts := y.accepts + 1, replay := acceptTag y.replay (y.accepts + 1) origin tag (w0 % 256) (fingerprint ws) })
      let s := s.imgCount e 0 1
      if w0 / 256 % 256 + 2 ≠ ws.length then s.imgDone e origin tag 0x0204 0 0 []
      else s.imgExec e origin tag (w0 % 256) (ws.drop 2)

/-- Reads the oldest whole command of CMD_MBX, unless 32 replies are held (R309, R313). -/
def State.imgTake (s : State) (e : Nat) : State :=
  let s := s.sendReplies (s.engineAt e).replies.length e
  let m := s.get (R.REELn_CFG.CMD_MBX e)
  let d := 1 - s.imgSide e
  match (s.mbxQ m d).msgs with
  | [] => s
  | ws :: _ =>
    if 32 ≤ (s.engineAt e).replies.length then s
    else ((s.forEach ws (fun _ t => (t.mbxPop m d).1)).linksHeld).imgCommand e ws

/-- One action of a running image. -/
def State.engineAct (s : State) (e : Nat) : EngAct → State
  | .health => if (s.engineAt e).deaf then s else s.modEngine e (fun x => { x with healthAt := s.now, missed := false })
  | .command => s.imgTake e
  | .complete o t r d v => if (s.engineAt e).cmds.any (fun c => c.1 == o && c.2.1 == t) then s.imgDone e o t r d v [] else s
  | .event c d v => s.imgEvent e c d v
  | .count i n => s.imgCount e i n
  | .cycle => s.modEngine e (fun x => { x with
      params := x.pendingParams.foldl (fun m p => SMap.set 0 m p.1 p.2) x.params, pendingParams := [] })
  | .config d =>
    if s.imgParam e 3 2 = 0 ∧ (s.engineAt e).cfgOk = false ∧ (s.engineAt e).imgState = 0 then s.imgConfigured e (cfgBufOk (s.imageId e) d)
    else s
  | .fatal d => s.imgFatal e d
  | .send => s.sendReplies (s.engineAt e).replies.length e

/-- ENGINE_INSTRUCTION (R292). -/
def execEngineInstruction (e : Nat) (a : EngAct) (s : State) : Host.Outcome State Fault Refusal :=
  answer (if s.engRunning e then (s.imgOwed e).engineAct e a else s)

/-! ### Health (R299, R305) -/

/-- µs since the last health signal; saturates (R303). -/
def State.healthAge (s : State) (e : Nat) : Nat := min 2047 ((s.now - (s.engineAt e).healthAt) / 1000)

/-- ENGINE_HEALTH_MISSED: 0x3001 once per gap. -/
def execEngineHealthMissed (e : Nat) (s : State) : Host.Outcome State Fault Refusal :=
  answer (if s.engRunning e && !((s.engineAt e).missed) then
    (((s.modEngine e (fun x => { x with missed := true })).report (s.engBay e) 0x3001 e (s.healthAge e)).settleRetired).loadKick
  else s)

/-- ENGINE_BODY_CHECK: the loaded body against its CRC; `block` is the first changed 64-byte block. -/
def execEngineBodyCheck (e block : Nat) (s : State) : Host.Outcome State Fault Refusal :=
  answer (if s.engRunning e && crc32c (s.bytes (rlmBase e) (s.engineAt e).loadLen) != (s.engineAt e).bodyCrc then
    ((s.report (s.engBay e) 0x3003 e block).settleRetired).loadKick
  else s)

/-- ENGINE_TRAP. -/
def execEngineTrap (e why : Nat) (s : State) : Host.Outcome State Fault Refusal :=
  answer (if s.engRunning e then ((s.report (s.engBay e) 0x3002 e why).settleRetired).loadKick else s)

end Sys2Proof.Machine
end

