-- ==== Sys2Proof/Machine/Adc.lean ====
section
/-! DEFINITION.
Converters and sigma-delta inputs (chapter 19). -/

namespace Sys2Proof.Machine

def State.adcAt (s : State) (n : Nat) : AdcPort := s.ana.adc.getD n AdcPort.cold
def State.modAdc (s : State) (n : Nat) (f : AdcPort → AdcPort) : State :=
  { s with ana := { s.ana with adc := updAt s.ana.adc n f } }
def State.sdmAt (s : State) (n : Nat) : SdmPort := s.ana.sdm.getD n SdmPort.cold
def State.modSdm (s : State) (n : Nat) (f : SdmPort → SdmPort) : State :=
  { s with ana := { s.ana with sdm := updAt s.ana.sdm n f } }
def State.adcBay (s : State) (n : Nat) : Nat := ownerOr0 (s.ownPeriph (26 + n))
def State.sdmBay (s : State) (n : Nat) : Nat := ownerOr0 (s.ownPeriph (30 + n))

/-! ### Runs (R698 to R700) -/

/-- BUSY and WAITING of the sequences (R718). -/
def State.showAdc (s : State) (n : Nat) : State :=
  let x := s.adcAt n
  let seqs := fun (l : List AdcRun) => (l.filter (fun r => r.src == 0)).foldl (fun m r => setBit m r.num) 0
  (s.put (R.ADCn_STAT.BUSY n) (seqs x.run.toList)).put (R.ADCn_STAT.WAITING n) (seqs x.waiting)

/-- The place of a requester in the order of R698. -/
def AdcRun.rank (r : AdcRun) : Nat := 100 * (if r.src = 1 then 0 else if r.src = 2 then 1 else if r.src = 0 then 2 else 3) + r.num

/-- The first waiting requester. -/
def firstRun (l : List AdcRun) : Option AdcRun :=
  l.foldl (fun m r => match m with | none => some r | some g => if r.rank < g.rank then some r else m) none

def sameRun (r g : AdcRun) : Bool := r.src == g.src && r.num == g.num

/-- Cause 0x4002: requester 0 sequence, 1 drive, 2 SUP (R721). -/
def State.adcLate (s : State) (n : Nat) (r : AdcRun) (dropped : Bool) : State :=
  let w := if dropped then 0 else min (s.now - r.at_) 65535
  (s.flag (R.ADCn_IRQ_PEND.LATE n) true).report (s.adcBay n) 0x4002 n
    (r.src % 4 + 4 * (if r.src = 0 then r.num else 0) + 16 * b2n dropped + 65536 * w)

/-- An idle converter starts its first waiting requester; a trigger that waited carries cause 0x4002 (R699). -/
def State.adcKick (s : State) (n : Nat) : State :=
  let x := s.adcAt n
  if x.run.isSome ∨ s.on (R.ADCn_CTRL.EN n) = false then s.showAdc n
  else
    match firstRun x.waiting with
    | none => s.showAdc n
    | some r =>
      let t := (s.modAdc n (fun y => { y with run := some r, start := s.now, waiting := y.waiting.filter (fun g => !(sameRun g r)) })).showAdc n
      if r.onTime ∨ r.src = 3 then t else (t.inc (R.ADCn_CNT_TRIG.LATE n)).adcLate n r false

/-- A trigger of a requester on converter `n` (R698 to R700).  Of triggers on one edge the first in the order of R698 starts,
in whichever order they come (R720). -/
def State.adcTrigger (s : State) (n : Nat) (r : AdcRun) : State :=
  let x := s.adcAt n
  if s.on (R.ADCn_CTRL.EN n) = false ∨ r.left = [] then s
  else if (x.run.toList ++ x.waiting).any (sameRun r) then
    if r.src = 3 then s else (s.inc (R.ADCn_CNT_TRIG.DROPPED n)).adcLate n r true
  else
    match x.run with
    | none => (s.modAdc n (fun y => { y with waiting := y.waiting ++ [{ r with onTime := true }] })).adcKick n
    | some g =>
      if g.src = 3 ∧ r.src ≠ 3 then
        (s.modAdc n (fun y => { y with run := none, waiting := [g] ++ y.waiting ++ [{ r with onTime := true }] })).adcKick n
      else if x.start = s.now ∧ g.words = [] ∧ g.onTime = true ∧ r.rank < g.rank then
        (s.modAdc n (fun y => { y with run := none, waiting := { g with onTime := false } :: y.waiting ++ [{ r with onTime := true }] })).adcKick n
      else (s.modAdc n (fun y => { y with waiting := y.waiting ++ [{ r with onTime := false }] })).showAdc n

/-- A run of sequence `k`: its slots, codes 9 to 15 acting as 7 (R702, R718). -/
def State.seqRun (s : State) (n k : Nat) : AdcRun :=
  let w := s.get (R.ADCn_SEQk_SLOTS.SLOT n k)
  { src := 0, num := k, onTime := true, at_ := s.now, words := [], stamp := 0
    left := (List.range (s.get (R.ADCn_SEQk_CFG.COUNT n k) + 1)).map (fun i =>
      let c := w / 16 ^ i % 16
      (if 9 ≤ c then 7 else c, i, 0)) }

/-- A trigger of kind `trig` reaches the sequences of every converter that it names: 2 an instant of a context, by
the sequence's CIO; 3 the fire edge of a TEV that the converter's bay owns (R702). -/
def State.seqTrigger (s : State) (n k : Nat) : State := s.adcTrigger n (s.seqRun n k)

/-- A TEV fires: sequences with TRIG 3 that name it. -/
def State.adcTev (s : State) (m : Nat) : State :=
  s.forEach (List.range 4) (fun n t => t.forEach (List.range 4) (fun k u =>
    if u.get (R.ADCn_SEQk_CFG.TRIG n k) = 3 ∧ u.get (R.ADCn_SEQk_CFG.TEV n k) = m ∧
        (u.ownPeriph (44 + m)).isSome ∧ u.ownPeriph (44 + m) = u.ownPeriph (26 + n) then u.seqTrigger n k else u))

/-- SEQ_GO: a write of GO triggers a sequence whose TRIG is 1. -/
def State.seqGo (t : State) (n k : Nat) : State :=
  if t.get (R.ADCn_SEQk_CFG.TRIG n k) = 1 then t.seqTrigger n k else t

def execSeqGo (by_ : Init) (n k : Nat) (s : State) : Host.Outcome State Fault Refusal :=
  answer (s.byOwner by_ (26 + n) (R.ADCn_SEQk_CTRL.GO n k).addr (fun t => t.seqGo n k))

/-- ADC_INTERNAL_CHECK: REF and GND (R701). -/
def execAdcInternalCheck (n : Nat) (s : State) : Host.Outcome State Fault Refusal :=
  answer (s.adcTrigger n ⟨3, 0, [(6, 0, 0), (7, 1, 0)], true, s.now, [], 0⟩)

/-! ### Delivery to queues (R708, R715) -/

/-- Bytes written into the receive descriptors that an RX queue holds: `most` is the room below which a descriptor
completes.  Answers the progress, and whether the bytes found room. -/
def State.rxRecord (s : State) : Nat → Nat → Nat → Nat → Nat → Nat → List Byte → State × Nat × Nat × Bool
  | 0, _, _, _, len, st, _ => (s, len, st, false)
  | k + 1, q, most, stamp, len, st, l =>
    match s.agentNext q 1 with
    | none => (s, len, st, false)
    | some d =>
      if d.len < len + l.length then State.rxRecord (s.finishDesc q 1 d.idx 3 0x0802 0 s.stamp d.aux) k q most stamp 0 0 l
      else
        let first := if len = 0 then stamp else st
        match s.agentWrite q 1 d len l with
        | (t, false) => (t, 0, 0, true)
        | (t, true) =>
          let n := len + l.length
          let t := t.modDesc q 1 d.idx (fun x => { x with committed := true })
          if d.len < n + most then (t.finishDesc q 1 d.idx 1 0 n first d.aux, 0, 0, true) else (t, n, first, true)

/-- The descriptor in progress completes with what it holds. -/
def State.rxFlush (s : State) (q len st : Nat) : State :=
  if len = 0 then s
  else match s.agentNext q 1 with
    | some d => s.finishDesc q 1 d.idx 1 0 len st d.aux
    | none => s

/-- Bytes of the largest record among the QEN sequences of a converter. -/
def State.adcMost (s : State) (n : Nat) : Nat :=
  (List.range 4).foldl (fun m k =>
    if s.on (R.ADCn_SEQk_CFG.QEN n k) then max m (4 * (s.get (R.ADCn_SEQk_CFG.COUNT n k) + 2)) else m) 0

/-- The record of a finished run. -/
def State.adcRecord (s : State) (n : Nat) (r : AdcRun) : State :=
  if s.on (R.ADCn_QBIND.QEN n) && s.on (R.ADCn_SEQk_CFG.QEN n r.num) then
    let q := s.get (R.ADCn_QBIND.QUEUE n)
    let x := s.adcAt n
    let l := (r.stamp :: r.words).flatMap (toLE 4)
    let (t, len, st, ok) := s.rxRecord ((s.qEnd q 1).inflight.length + 1) q (s.adcMost n) r.stamp x.rxLen x.rxStamp l
    let t := t.modAdc n (fun y => { y with rxLen := len, rxStamp := st })
    if ok then t else (t.inc (R.ADCn_CNT_QDROP.COUNT n)).flag (R.ADCn_IRQ_PEND.QDROP n) true
  else s

/-- QFLUSH of a converter. -/
def State.adcFlush (s : State) (n : Nat) : State :=
  let x := s.adcAt n
  (s.rxFlush (s.get (R.ADCn_QBIND.QUEUE n)) x.rxLen x.rxStamp).modAdc n (fun y => { y with rxLen := 0, rxStamp := 0 })

def execAdcnQflush (by_ : Init) (n : Nat) (s : State) : Host.Outcome State Fault Refusal :=
  answer (s.byOwner by_ (26 + n) (R.ADCn_QFLUSH.FLUSH n).addr (fun t => t.adcFlush n))

/-! ### Conversions (R694 to R697, R703 to R707) -/

/-- Whether local index `j` belongs to a differential pair. -/
def State.adcDiff (s : State) (n j : Nat) : Bool := decide (j < 6) && (s.get (R.ADCn_CTRL.DIFF n)).testBit (j / 2)

/-- The local index that a slot converts: the even one of a differential pair. -/
def State.adcIndex (s : State) (n j : Nat) : Nat := if s.adcDiff n j then j / 2 * 2 else j

/-- The saturated code of a value, and whether it is beyond the range; internal channels never over-range. -/
def adcCode (diff internal : Bool) (v : Int) : Nat × Bool :=
  if diff then (wrapInt 16 (clampInt (-32768) 32767 v), decide (v < -32768 ∨ 32767 < v))
  else ((clampInt 0 65535 v).toNat, !internal && decide (v < 0 ∨ 65535 < v))

/-- A result word (R703). -/
def resWord (code ch : Nat) (ovr susp sv : Bool) (adc src slot : Nat) : Nat :=
  code + 65536 * ch + 2097152 * b2n ovr + 4194304 * b2n susp + 8388608 * b2n sv + 16777216 * adc + 67108864 * src + 268435456 * slot

def wordBad (w : Nat) : Bool := w.testBit 21 || w.testBit 22

/-- A drive unit's result of quantity `q` (R637); 8 + q is a pole-voltage sample (R641). -/
def State.drvResult (s : State) (d q w : Nat) : State :=
  s.modDrv d (fun x =>
    if 8 ≤ q then { x with poles := x.poles ++ [(q - 8, w)] }
    else { x with meas := updAt x.meas q (fun _ => w), fresh := setBit x.fresh q })

/-- Over-range of local index `j`: sticky OVR and ACTIVE, and cause 0x4001 (R704). -/
def State.adcOver (s : State) (n j code src slot : Nat) : State :=
  let s := ((s.setB (R.ADCn_OVR.OVR n) j).setB (R.ADCn_OVR.ACTIVE n) j).flag (R.ADCn_IRQ_PEND.OVR n) true
  if s.bit (R.ADCn_OVR.FLT_EN n) j then
    s.report (s.adcBay n) 0x4001 (n + 256 * j) (code + 65536 * (1024 * src + 4096 * slot))
  else s

/-- The internal check's comparison (R701), skipped on a result that carries SUSPECT (R720). -/
def State.adcCompare (s : State) (n j code : Nat) (susp : Bool) : State :=
  if susp then s
  else if j = 6 ∧ (code < 32768 - 164 ∨ 32768 + 164 < code) then s.report (s.adcBay n) 0x4003 n (1 + 65536 * code)
  else if j = 7 ∧ 64 < code then s.report (s.adcBay n) 0x4003 n (2 + 65536 * code)
  else s

/-- The result of one conversion delivered to its requester. -/
def State.adcDeliver (s : State) (n j w q : Nat) (susp : Bool) (r : AdcRun) : State :=
  if r.src = 1 then s.drvResult r.num q w
  else if r.src = 2 then { s with ana := { s.ana with supWord := w, supFresh := true } }
  else if r.src = 3 then s.adcCompare n j (w % 65536) susp
  else s

/-- A finished run: its interrupt and its record. -/
def State.adcRunEnd (s : State) (n : Nat) (r : AdcRun) : State :=
  if r.src = 0 then
    let s := if s.on (R.ADCn_SEQk_CFG.IRQ n r.num) then s.setB (R.ADCn_IRQ_PEND.SEQ_DONE n) r.num else s
    s.adcRecord n r
  else s

/-- The conversion in progress gives the rounded, unsaturated code `v` (R694, R696). -/
def State.adcEnd (n : Nat) (v : Int) (s : State) : State :=
  let x := s.adcAt n
  match x.run with
  | none => s
  | some r =>
    match r.left with
    | [] => s
    | (j0, slot, q) :: rest =>
      let j := s.adcIndex n j0
      let t0 := x.start + 12
      let force := x.forceSat == some j
      let v := if j = 6 ∧ x.refOfs then v + 1024 else if force then 1000000 else v
      let (code, ovr) := adcCode (s.adcDiff n j) (decide (6 ≤ j)) v
      let clear := s.bit (R.ADCn_OVR.ACTIVE n) j && !ovr
      let lim := if clear then t0 + 1500 else SMap.get 0 x.until_ j
      let susp := s.railIsLow 5 || x.suspect || s.bit (R.ADCn_OVR.ACTIVE n) j || decide (t0 < lim) || s.on (R.ADCn_CTRL.DEGRADED n)
      let ch := if j < 6 then 6 * n + j else 18 + j
      let w := resWord code ch ovr susp r.onTime n r.src slot
      let s := s.modAdc n (fun y => { y with
        suspect := ovr, until_ := SMap.set 0 y.until_ j lim
        forceSat := if force then none else y.forceSat, refOfs := y.refOfs && j != 6 })
      let s := if clear then s.clrB (R.ADCn_OVR.ACTIVE n) j else s
      let s := s.put (R.ADCn_RESj.WORD n j) w
      let s := if slot = 0 ∧ r.src = 0 then s.put (R.ADCn_SEQk_STAMP.STAMP n r.num) (t0 % 4294967296) else s
      let s := if ovr then s.adcOver n j code r.src slot else s
      let r' := { r with left := rest, words := r.words ++ [w], stamp := if slot = 0 then t0 % 4294967296 else r.stamp }
      let s := s.adcDeliver n j w q susp r'
      if rest ≠ [] ∧ s.on (R.ADCn_CTRL.EN n) then (s.modAdc n (fun y => { y with run := some r', start := s.now })).showAdc n
      else
        let s := s.modAdc n (fun y => { y with run := none })
        let s := if rest = [] then s.adcRunEnd n r' else s
        if s.on (R.ADCn_CTRL.EN n) then s.adcKick n else (s.adcFlush n).showAdc n

/-- EN of a converter written 0: what waits goes; the descriptor completes with the records written, after the
conversion in progress (R720). -/
def State.adcOff (s : State) (n : Nat) : State :=
  let s := s.modAdc n (fun y => { y with waiting := [] })
  if (s.adcAt n).run.isSome then s.showAdc n else (s.adcFlush n).showAdc n

/-- Block reset of a converter; DEGRADED stays (R184, R723). -/
def State.resetAdc (s : State) (n : Nat) : State :=
  let dg := s.on (R.ADCn_CTRL.DEGRADED n)
  let q := s.get (R.ADCn_QBIND.QUEUE n)
  let s := if s.on (R.ADCn_QBIND.QEN n) && (s.adcAt n).rxLen != 0 then
      (match s.agentNext q 1 with | some d => s.finishDesc q 1 d.idx 3 0x0805 0 s.stamp d.aux | none => s) else s
  let s := (s.modAdc n (fun _ => AdcPort.cold)).resetRegs (0x40131000 + 0x1000 * n) (0x40132000 + 0x1000 * n)
  s.flag (R.ADCn_CTRL.DEGRADED n) dg

/-! ### Sigma-delta inputs (R709 to R716) -/

/-- DIV in force (R719). -/
def State.sdmDiv (s : State) : Nat :=
  let d := s.get R.SDM_CLK.DIV
  if d < 80 ∨ 200 < d then 100 else d

/-- Whether SDM_CLKOUT runs (R709). -/
def State.showSdmClk (s : State) : State :=
  s.flag R.SDM_CLK.RUN ((List.range 8).any (fun n => s.on (R.SDMn_CTRL.EN n)))

def State.sdmDec (s : State) (n : Nat) : Nat := clampNat 32 256 (s.get (R.SDMn_CTRL.DEC n))

/-- A data output as one word into the oldest fetched descriptor (R715). -/
def State.sdmRecord (s : State) (n w st : Nat) : State :=
  if s.on (R.SDMn_QBIND.QEN n) then
    let q := s.get (R.SDMn_QBIND.QUEUE n)
    let x := s.sdmAt n
    let (t, len, st', ok) := s.rxRecord ((s.qEnd q 1).inflight.length + 1) q 4 st x.rxLen x.rxStamp (toLE 4 w)
    let t := t.modSdm n (fun y => { y with rxLen := len, rxStamp := st' })
    if ok then t else t.flag (R.SDMn_IRQ_PEND.QDROP n) true
  else s

/-- The data filter gives the rounded, unsaturated code `v` (R710, R711). -/
def State.sdmData (n : Nat) (v : Int) (s : State) : State :=
  if s.on (R.SDMn_CTRL.EN n) = false then s
  else
    let x := s.sdmAt n
    let ovr := s.on (R.SDMn_OVR.ACTIVE n)
    let code := if ovr then (if x.level then 0x7FFF else 0x8000) else wrapInt 16 (clampInt (-32768) 32767 v)
    let susp := s.railIsLow 5 || ovr || decide (0 < x.suspect) || s.on (R.SDMn_OVR.DEGRADED n)
    let w := resWord code n ovr susp true 0 0 0
    let back := (3 * s.sdmDec n * s.sdmDiv + 2) / 4 + 8 + s.get (R.SDMn_LAT.NS n)
    let st := (s.now + 4294967296 - back % 4294967296) % 4294967296
    let s := s.modSdm n (fun y => { y with suspect := y.suspect - 1 })
    ((s.put (R.SDMn_RES.WORD n) w).put (R.SDMn_STAMP.STAMP n) st).sdmRecord n w st

/-- An instant copies the newest output (R711). -/
def State.sdmLatch (s : State) (n : Nat) : State :=
  ((s.put (R.SDMn_LATCH.WORD n) (s.get (R.SDMn_RES.WORD n))).put (R.SDMn_LATCH_STAMP.STAMP n)
    (s.get (R.SDMn_STAMP.STAMP n))).flag (R.SDMn_IRQ_PEND.LATCH n) true

/-- The comparator filter gives `v` (R712). -/
def State.sdmCompare (n : Nat) (v : Int) (s : State) : State :=
  if s.on (R.SDMn_CTRL.EN n) = false ∨ s.on (R.SDMn_CTRL.CMP_EN n) = false then s
  else
    let c := clampInt (-32768) 32767 v
    let hi := decide (signed 16 (s.get (R.SDMn_CMP_LIM.HI n)) < c)
    let lo := decide (c < signed 16 (s.get (R.SDMn_CMP_LIM.LO n)))
    let s := if hi && !(s.on (R.SDMn_CMP.ABOVE n)) then s.flag (R.SDMn_IRQ_PEND.CMP_HI n) true else s
    let s := if lo && !(s.on (R.SDMn_CMP.BELOW n)) then s.flag (R.SDMn_IRQ_PEND.CMP_LO n) true else s
    ((s.put (R.SDMn_CMP.VALUE n) (wrapInt 16 c)).flag (R.SDMn_CMP.ABOVE n) hi).flag (R.SDMn_CMP.BELOW n) lo

/-- A saturated run begins at `level` (R713). -/
def State.sdmSat (s : State) (n : Nat) (level : Bool) : State :=
  let s := (s.modSdm n (fun y => { y with level := level })).flag (R.SDMn_OVR.OVR n) true
  let s := (s.flag (R.SDMn_OVR.ACTIVE n) true).flag (R.SDMn_IRQ_PEND.OVR n) true
  if s.on (R.SDMn_OVR.FLT_EN n) then s.report (s.sdmBay n) 0x6801 n (b2n level) else s

/-- SDM_SATURATION: a run of SAT_N clocks at `level`, or the first clock that ends it (R713). -/
def execSdmSaturation (n : Nat) (begins level : Bool) (s : State) : Host.Outcome State Fault Refusal :=
  answer (if s.on (R.SDMn_CTRL.EN n) = false then s
  else if begins then (if s.on (R.SDMn_OVR.ACTIVE n) then s else s.sdmSat n level)
  else if s.on (R.SDMn_OVR.ACTIVE n) then (s.flag (R.SDMn_OVR.ACTIVE n) false).modSdm n (fun y => { y with suspect := 6, stuck := false })
  else s)

/-- SDM_STUCK: 65,536 clocks at one level, or a clock pad that does not toggle (R714). -/
def execSdmStuck (n : Nat) (clock : Bool) (s : State) : Host.Outcome State Fault Refusal :=
  answer (if s.on (R.SDMn_CTRL.EN n) = false then s
  else ((s.modSdm n (fun y => { y with stuck := true })).flag (R.SDMn_IRQ_PEND.STUCK n) true).report (s.sdmBay n) 0x6802 n (if clock then 1 else 2))

/-- QFLUSH of an input. -/
def State.sdmFlush (s : State) (n : Nat) : State :=
  let x := s.sdmAt n
  (s.rxFlush (s.get (R.SDMn_QBIND.QUEUE n)) x.rxLen x.rxStamp).modSdm n (fun y => { y with rxLen := 0, rxStamp := 0 })

def execSdmnQflush (by_ : Init) (n : Nat) (s : State) : Host.Outcome State Fault Refusal :=
  answer (s.byOwner by_ (30 + n) (R.SDMn_QFLUSH.FLUSH n).addr (fun t => t.sdmFlush n))

/-- Block reset of an input; DEGRADED stays (R184, R723). -/
def State.resetSdm (s : State) (n : Nat) : State :=
  let dg := s.on (R.SDMn_OVR.DEGRADED n)
  let q := s.get (R.SDMn_QBIND.QUEUE n)
  let s := if s.on (R.SDMn_QBIND.QEN n) && (s.sdmAt n).rxLen != 0 then
      (match s.agentNext q 1 with | some d => s.finishDesc q 1 d.idx 3 0x0805 0 s.stamp d.aux | none => s) else s
  let s := (s.modSdm n (fun _ => SdmPort.cold)).resetRegs (0x40141000 + 0x1000 * n) (0x40142000 + 0x1000 * n)
  (s.flag (R.SDMn_OVR.DEGRADED n) dg).showSdmClk

end Sys2Proof.Machine
end

