-- ==== Sys2Proof/Machine/Clp.lean ====
section
/-! DEFINITION.
Current-loop outputs and inputs (chapter 21). -/

namespace Sys2Proof.Machine

def State.cloAt (s : State) (n : Nat) : CloPort := s.ana.clo.getD n CloPort.cold
def State.modClo (s : State) (n : Nat) (f : CloPort → CloPort) : State :=
  { s with ana := { s.ana with clo := updAt s.ana.clo n f } }
def State.cliAt (s : State) (m : Nat) : CliPort := s.ana.cli.getD m CliPort.cold
def State.modCli (s : State) (m : Nat) (f : CliPort → CliPort) : State :=
  { s with ana := { s.ana with cli := updAt s.ana.cli m f } }
def State.clpBay (s : State) : Nat := ownerOr0 (s.ownPeriph 7)

/-- A resistor in 10 mΩ units; values outside the range act as 50 Ω (R769). -/
def ohms (r : Nat) : Nat := if 2000 ≤ r ∧ r ≤ 5000 then r else 5000

/-- The code of R759 outside shortfall and recovery. -/
def State.cloBase (s : State) (n : Nat) : Nat :=
  let f := s.get (R.CLOn_CTRL.FORCE n)
  let c := (s.cloAt n).set
  if f = 1 then 0x2666 else if f = 2 then 0xE000
  else if s.on (R.CLOn_CTRL.LIMIT_EN n) then clampNat 0x2889 0xDAAB c else c

/-- A retest holds the drive of an output (R771, R772). -/
def State.cloHeld (s : State) (n : Nat) : Bool := s.flt.running.any (fun x => x.cause == 0x4804 && x.res == n)

/-- Consecutive measurements. -/
def consec (b : Bool) (n : Nat) : Nat := if b then n + 1 else 0

/-- Cause 0x4804 of an output, once for a run of measurements (R772). -/
def State.cloFront (s : State) (n : Nat) (neg limS limV beyond : Bool) : State :=
  let x := s.cloAt n
  let y := { x with neg := consec neg x.neg, limS := consec limS x.limS, limV := consec limV x.limV, beyond := consec beyond x.beyond }
  let sense := y.neg == 4 || y.limS == 4 || y.beyond == 100
  let loop := y.limV == 4
  let s := s.modClo n (fun _ => y)
  if sense || loop then s.report s.clpBay 0x4804 n (b2n sense + 2 * b2n loop) else s

/-- Entry to compliance shortfall (R761, R762). -/
def State.cloShort (s : State) (n : Nat) (byErr : Bool) (i : Nat) : State :=
  let m := s.get (R.CLOn_CTRL.CMP_ACT n)
  let s := ((s.flag (R.CLOn_STAT.COMPLIANCE n) true).flag (R.CLOn_STAT.RECOVERING n) false).put (R.CLOn_STAT.MODE n) m
  let s := (s.inc (R.CLOn_CNT.SHORTFALLS n)).setB R.CLP_IRQ_PEND.CMP n
  (s.modClo n (fun x => { x with hold := 1024 * i, good := 0, low := 0, err := 0 })).report s.clpBay 0x4801 n
    (b2n byErr + 256 * m + 65536 * (i / 10 % 65536))

/-- The target of a step in 1/1024 µA (R759, R762, R763). -/
def State.cloTarget (s : State) (n : Nat) : Nat :=
  let base := 375 * s.cloBase n
  let x := s.cloAt n
  let m := s.get (R.CLOn_STAT.MODE n)
  if s.on (R.CLOn_STAT.COMPLIANCE n) then (if m = 1 then 375 * 0x2666 else if m = 2 then base else min base x.hold)
  else if s.on (R.CLOn_STAT.RECOVERING n) then
    (if x.teff ≤ base then min base (x.teff + 10240) else max base (x.teff - 10240))
  else base

/-- T_eff in force and shown; the end of a slew (R763). -/
def State.cloFollow (s : State) (n : Nat) : State :=
  let t := s.cloTarget n
  let s := if s.on (R.CLOn_STAT.RECOVERING n) ∧ t = 375 * s.cloBase n then s.flag (R.CLOn_STAT.RECOVERING n) false else s
  (s.modClo n (fun x => { x with teff := t })).put (R.CLOn_TARGET.CODE n) (t / 375)

/-- The end of a shortfall: headroom on every measurement for 10 ms (R763). -/
def State.cloRestore (s : State) (n i : Nat) (h : Int) : State :=
  let lim := clampNat 1000 10000 (s.get (R.CLOn_HEAD_RECOV.MV n))
  let x := s.cloAt n
  let g := consec (decide ((lim : Int) ≤ h)) x.good
  let m := s.get (R.CLOn_STAT.MODE n)
  let hold := if 100 * 1024 * i < 99 * x.hold then 1024 * i else x.hold
  let s := s.modClo n (fun y => { y with good := g, hold := hold })
  if 1000 < g then
    let s := (s.flag (R.CLOn_STAT.COMPLIANCE n) false).setB R.CLP_IRQ_PEND.RECOV n
    if m = 2 then s
    else ((s.flag (R.CLOn_STAT.RECOVERING n) true).put (R.CLOn_TARGET.CODE n) (1024 * i / 375)).modClo n
      (fun y => { y with teff := 1024 * i, good := 0 })
  else s

/-- The entry criteria on a measurement (R761). -/
def State.cloCheck (s : State) (n i : Nat) (h : Int) : State :=
  let x := s.cloAt n
  let off := (max x.teff (1024 * i) - min x.teff (1024 * i))
  let low := consec (decide (h < 1000)) x.low
  let err := consec (decide (max (x.teff / 100) 10240 < off)) x.err
  let s := s.modClo n (fun y => { y with low := low, err := err })
  if low = 4 ∨ err = 200 then s.cloShort n (low != 4) i else s

/-- CLO_REGULATOR_STEP: the voltage across the sense resistor and that at CLOn_LOOPV, in µV (R757 to R763).  The gains of
the regulator are not given: its DAC code is a free value. -/
def execCloRegulatorStep (n : Nat) (vs vl : Int) (s : State) : Host.Outcome State Fault Refusal :=
  answer (if s.clocked = false then s
  else if s.on (R.CLOn_CTRL.EN n) = false ∨ s.on (R.CLOn_STAT.OUT_OF_SERVICE n) then
    (((s.put (R.CLOn_DAC.CODE n) 0).flag (R.CLOn_STAT.COMPLIANCE n) false).flag (R.CLOn_STAT.RECOVERING n) false).modClo n
      (fun y => { y with low := 0, err := 0, good := 0, neg := 0, limS := 0, limV := 0, beyond := 0 })
  else if s.cloHeld n then s
  else
    let x := s.cloAt n
    let vs := if 0 < x.injS then vs + vs / 20 else vs
    let i := (vs * 100 / (ohms (s.get (R.CLOn_CFG.RSENSE n)) : Int)).toNat
    let loop : Int := vl * (s.get (R.CLOn_CFG.LOOPV_DIV n) : Int) / 256000
    let h := if 0 < x.injH then 500 else loop - vs / 1000
    let s := s.modClo n (fun y => { y with
      injS := y.injS - 1, injH := y.injH - 1
      set := if (s.get (R.CLOn_CIO.CIO n)).testBit 7 then y.set else s.get (R.CLOn_SET.CODE n) })
    let s := ((s.put (R.CLOn_MEAS.UA n) (min i 65535)).put (R.CLOn_HEADROOM.MV n) (min h.toNat 65535)).put
      (R.CLOn_LOOPV.MV n) (min loop.toNat 65535)
    let s := if s.on (R.CLOn_STAT.COMPLIANCE n) then s.cloRestore n i h else (s.cloFollow n).cloCheck n i h
    let s := if s.on (R.CLOn_STAT.COMPLIANCE n) then s.cloFollow n else s
    let s := s.cloFront n (decide (vs < -5000)) (decide (1250000 ≤ vs)) (decide (2500000 ≤ vl))
      (decide ((s.cloAt n).teff + 2000 * 1024 < 1024 * i))
    if s.railIsLow 5 then s.put (R.CLOn_DAC.CODE n) 0 else (s.put (R.CLOn_DAC.CODE n) s.freeW).took 1)

/-- A bound setpoint is taken at its instant (R446, R760). -/
def State.cloInstant (s : State) (n : Nat) : State := s.modClo n (fun x => { x with set := s.get (R.CLOn_SET.CODE n) })

/-- An instant copies the input's mean (R766). -/
def State.cliInstant (s : State) (m : Nat) : State :=
  (s.put (R.CLIm_LATCH.UA m) (s.get (R.CLIm_MEAS.UA m))).put (R.CLIm_LATCH_STAMP.STAMP m) s.stamp

/-- The flags of an input on a measurement (R765). -/
def State.cliClass (s : State) (m : Nat) (mean : Nat) : State :=
  let x := s.cliAt m
  let y := { x with nOpen := consec (decide (mean < 500)) x.nOpen, nLow := consec (decide (mean < 3600)) x.nLow
                    nHigh := consec (decide (21000 < mean)) x.nHigh, nOk := consec (decide (3600 ≤ mean ∧ mean ≤ 21000)) x.nOk }
  let lim := 100 * max 1 (s.get (R.CLIm_CTRL.LIM_MS m))
  let s := s.modCli m (fun _ => y)
  let ua := 65536 * (mean / 10 % 65536)
  if lim < y.nOpen ∧ s.on (R.CLIm_STAT.OPEN m) = false then
    (((s.flag (R.CLIm_STAT.OPEN m) true).flag (R.CLIm_STAT.LOW m) true).setB R.CLP_IRQ_PEND.LOW m).report s.clpBay 0x4802
      (m + 256) (1 + ua)
  else if lim < y.nLow ∧ s.on (R.CLIm_STAT.LOW m) = false then
    ((s.flag (R.CLIm_STAT.LOW m) true).setB R.CLP_IRQ_PEND.LOW m).report s.clpBay 0x4802 (m + 256) ua
  else if lim < y.nHigh ∧ s.on (R.CLIm_STAT.HIGH m) = false then
    ((s.flag (R.CLIm_STAT.HIGH m) true).setB R.CLP_IRQ_PEND.HIGH m).report s.clpBay 0x4803 (m + 256) ua
  else if lim < y.nOk then
    ((s.flag (R.CLIm_STAT.OPEN m) false).flag (R.CLIm_STAT.LOW m) false).flag (R.CLIm_STAT.HIGH m) false
  else s

/-- CLI_MEASUREMENT: the voltage across the burden resistor in µV (R764, R765). -/
def execCliMeasurement (m : Nat) (v : Int) (s : State) : Host.Outcome State Fault Refusal :=
  answer (if s.clocked = false ∨ s.on (R.CLIm_CTRL.EN m) = false then s
  else
    let x := s.cliAt m
    let i := if 0 < x.inj then x.injV else v * 100 / (ohms (s.get (R.CLIm_CFG.RBURDEN m)) : Int)
    let l := (i :: x.last).take (2 ^ s.get (R.CLIm_CTRL.AVG m))
    let mean := min 65535 (l.foldl (fun (a : Int) b => a + b) 0 / (l.length : Int)).toNat
    ((s.modCli m (fun y => { y with last := l, inj := y.inj - 1 })).put (R.CLIm_MEAS.UA m) mean).cliClass m mean)

/-- Block reset: every instance at reset, CLOn_DRV parked; OUT_OF_SERVICE stays (R771, R773). -/
def State.resetClp (s : State) : State :=
  let o0 := s.on (R.CLOn_STAT.OUT_OF_SERVICE 0)
  let o1 := s.on (R.CLOn_STAT.OUT_OF_SERVICE 1)
  let s := { s with ana := { s.ana with clo := List.replicate 2 CloPort.cold, cli := List.replicate 2 CliPort.cold } }
  let s := s.resetRegs 0x40160000 0x40170000
  (s.flag (R.CLOn_STAT.OUT_OF_SERVICE 0) o0).flag (R.CLOn_STAT.OUT_OF_SERVICE 1) o1

/-- CLOn_DRV parks at t2 of SLEEP entry: regulation resumes from DAC code 0 (R771). -/
def State.cloPark (s : State) : State := (s.put (R.CLOn_DAC.CODE 0) 0).put (R.CLOn_DAC.CODE 1) 0

end Sys2Proof.Machine
end

