-- ==== Sys2Proof/Machine/Nvm.lean ====
section
/-! DEFINITION.
The non-volatile store: physical pages, logical page writes, wear levelling (R222 to R236). -/

namespace Sys2Proof.Machine

def State.nvmPage (s : State) (p : Nat) : NvmPage := SMap.get NvmPage.blank s.memx.pages p
def State.setPage (s : State) (p : Nat) (x : NvmPage) : State :=
  { s with memx := { s.memx with pages := SMap.set NvmPage.blank s.memx.pages p x } }

/-- The physical page that holds a logical page: the copy with the highest SEQ, the lower page among equals (R226). -/
def State.pageOf (s : State) (lp : Nat) : Option Nat :=
  (indices 119 (fun p => (s.nvmPage p).lpage == some lp)).foldl (fun m p =>
    match m with
    | none => some p
    | some q => if (s.nvmPage q).seq < (s.nvmPage p).seq then some p else m) none

/-- Whether a physical page holds the current copy of its logical page. -/
def State.pageUsed (s : State) (p : Nat) : Bool :=
  match (s.nvmPage p).lpage with
  | some lp => s.pageOf lp == some p
  | none => false

/-- The free pool: pages that hold no current copy, are not retired and are not being written. -/
def State.freePages (s : State) : List Nat :=
  indices 119 (fun p => !(s.pageUsed p) && !((s.nvmPage p).retired) && !(s.memx.pgWrites.any (fun w => w.phys == p)))

/-- The free page with the lowest WRITES, the lowest number first (R225). -/
def State.nextPage (s : State) : Option Nat :=
  s.freePages.foldl (fun m p =>
    match m with
    | none => some p
    | some q => if (s.nvmPage p).writes < (s.nvmPage q).writes then some p else m) none

/-- The highest SEQ on the device. -/
def State.topSeq (s : State) : Nat := (List.range 119).foldl (fun m p => max m (s.nvmPage p).seq) 0

/-- FREE, RETIRED, BUSY and NVM_WEAR_MAX (R235). -/
def State.showNvm (s : State) : State :=
  let ret := indices 119 (fun p => (s.nvmPage p).retired)
  let live := indices 119 (fun p => !((s.nvmPage p).retired))
  let top := live.foldl (fun m p => if (s.nvmPage m).writes < (s.nvmPage p).writes ∨ (s.nvmPage m).retired then p else m) 0
  let s := ((s.put R.NVM_STATUS.FREE s.freePages.length).put R.NVM_STATUS.RETIRED ret.length).flag R.NVM_STATUS.BUSY
    (s.memx.pgWrites.any (fun w => w.block))
  (s.put R.NVM_WEAR_MAX.WRITES (s.nvmPage top).writes).put R.NVM_WEAR_MAX.PHYS top

/-- The steps of a logical page write up to its commit edge (R225): none while the pool is empty. -/
def State.startPage (s : State) (lp : Nat) (data : List Byte) (block again : Bool) : Option State :=
  match s.nextPage with
  | none => none
  | some p => some (State.showNvm
      { s with memx := { s.memx with pgWrites := s.memx.pgWrites ++ [⟨lp, p, data, block, again⟩] } })

/-- A page retired: never allocated again, cause 0x6404; a pool left below 8 pages raises 0x6405 (R227). -/
def State.retirePage (s : State) (p : Nat) : State :=
  let s := s.setPage p { s.nvmPage p with retired := true }
  let s := (s.showNvm.flag R.NVM_IRQ_PEND.RETIRED true).report 0 0x6404 0 0
  if s.freePages.length < 8 then (s.flag R.NVM_IRQ_PEND.LOW_POOL true).report 0 0x6405 0 0 else s

/-- The commit edge: the window moves to the new copy and the old page joins the free pool, or retires (R225, R227). -/
def State.commitPage (s : State) (w : PageWrite) : State :=
  let old := s.pageOf w.lpage
  let x := s.nvmPage w.phys
  let s := { s with memx := { s.memx with pgWrites := s.memx.pgWrites.filter (fun v => v.phys != w.phys) } }
  let s := (s.setPage w.phys ⟨some w.lpage, s.topSeq + 1, x.writes + 1, x.retired⟩).putNvm (lpBase w.lpage) w.data
  let s := s.showNvm
  match old with
  | some p => if 9900000 ≤ (s.nvmPage p).writes then s.retirePage p else s
  | none => s

/-- NVM_PG_STAT as a page write leaves PENDING (R14, R235). -/
def State.pgStat (s : State) (st res : Nat) : State :=
  ((s.put R.NVM_PG_STAT.STATUS st).put R.NVM_PG_STAT.RESULT res).flag R.NVM_IRQ_PEND.PG_DONE true

/-- A logical page write of Halvik's, made whole within its command (R225, R229). -/
def State.writePage (s : State) (lp : Nat) (data : List Byte) : State :=
  match s.nextPage with
  | none => s
  | some p => s.commitPage ⟨lp, p, data, false, false⟩

/-- NVM_PG_CMD (R235, R236): a source that BAY0 may not read, or that holds a poisoned word, fails with RESULT 2. -/
def State.pgCmd (t : State) (lp : Nat) (go : Bool) : State :=
  if go = false ∨ t.on R.NVM_STATUS.BUSY then t
  else
    let lp := lp % 64
    let a := (t.get R.NVM_PG_SRC_LO.ADDR + 4294967296 * t.get R.NVM_PG_SRC_HI.ADDR) / 64 * 64
    let t := ((t.put R.NVM_PG_STAT.LPAGE lp).put R.NVM_PG_STAT.STATUS 0).put R.NVM_PG_STAT.RESULT 0
    if lp = 0 ∨ lp = 10 ∨ 56 ≤ lp then t.pgStat 3 1
    else if t.bufOk 0 false a 4096 = false then
      (t.pgStat 3 2).blocked ⟨0, 6, 0⟩ (blockCause (t.bufFault 0 false a 4096)) (t.bufFault 0 false a 4096) false
    else if t.poisoned a 4096 then (t.pgStat 3 2).poisonHit a 4096
    else
      match t.startPage lp (t.readMem a 4096) true false with
      | some u => u
      | none => t.pgStat 3 3

def execNvmPgCmd (by_ : Init) (lp : Nat) (go : Bool) (s : State) : Host.Outcome State Fault Refusal :=
  answer (s.byBay0 by_ R.NVM_PG_CMD.GO.addr (fun t => t.pgCmd lp go))

/-- NVM_PAGE_COMMIT: the verified write of TRL_CRC of the write of a logical page (R225, R906).  `verify`: 0 every
word good, 1 one word good after its rewrite, 2 a word failed twice at window offset `off`: the page retires and the
write begins again on another page, once. -/
def execNvmPageCommit (lp verify off : Nat) (s : State) : Host.Outcome State Fault Refusal :=
  answer (match s.memx.pgWrites.find? (fun w => w.lpage == lp) with
  | none => s
  | some w =>
    if verify < 2 then
      let t := s.commitPage w
      let t := if w.block then t.pgStat 1 0 else t
      if verify = 1 then t.report 0 0x6403 0 off else t
    else
      let t := { s with memx := { s.memx with pgWrites := s.memx.pgWrites.filter (fun v => v.phys != w.phys) } }
      let t := (t.reportLasting 0 0x6403 0 off).retirePage w.phys
      if w.again then (if w.block then t.pgStat 3 4 else t)
      else
        match t.startPage lp w.data w.block true with
        | some u => u
        | none => if w.block then t.pgStat 3 3 else t)

end Sys2Proof.Machine
end

