-- ==== Sys2Proof/Machine/Fix.lean ====
section
/-! DEFINITION.
Fixed-point arithmetic of the drive units (R643): inside, numbers carry 60 fraction bits; results are rounded to
nearest and saturated to their formats. -/

namespace Sys2Proof.Machine

/-- 1.0 with 60 fraction bits, 2π, π ÷ 4 and √3. -/
def one60 : Int := 1152921504606846976
def twoPi60 : Int := 7244019458077122842
def quarterPi60 : Int := 905502432259640355
def sqrt3 : Int := 1996918623117814388

/-- `n ÷ d` rounded to nearest, for d > 0. -/
def rdiv (n d : Int) : Int := (2 * n + d) / (2 * d)

def fmul (a b : Int) : Int := rdiv (a * b) one60

/-- Quotient of two numbers with 60 fraction bits, the divisor not 0. -/
def fdiv (a b : Int) : Int := if b < 0 then rdiv (-(a * one60)) (-b) else rdiv (a * one60) b

/-- A value with `k` fraction bits, widened to 60. -/
def ofQ (k : Nat) (v : Int) : Int := v * 2 ^ (60 - k)

/-- Rounded to `k` fraction bits and saturated to 32 bits. -/
def toQ (k : Nat) (x : Int) : Int := clampInt (-2147483648) 2147483647 (rdiv x (2 ^ (60 - k)))

/-- The integer square root, bit by bit from bit `k - 1` down. -/
def isqrtGo : Nat → Nat → Nat → Nat
  | 0, _, r => r
  | k + 1, n, r => if (r + 2 ^ k) * (r + 2 ^ k) ≤ n then isqrtGo k n (r + 2 ^ k) else isqrtGo k n r

/-- The square root of `n` rounded to nearest, for n < 2^158. -/
def sqrtNear (n : Nat) : Nat := (isqrtGo 80 (4 * n) 0 + 1) / 2

/-- √(a² + b²) in the format of a and b. -/
def hypot (a b : Int) : Int := (sqrtNear (a * a + b * b).toNat : Nat)

/-- The square root of a number with 60 fraction bits. -/
def fsqrt (a : Int) : Int := (sqrtNear (a * one60).toNat : Nat)

/-- sin x ÷ x and cos x for |x| ≤ π ÷ 4, as nested series in x². -/
def sinGo : Nat → Int → Int → Int
  | 0, _, _ => one60
  | n + 1, k, x2 => one60 - rdiv (fmul x2 (sinGo n (k + 1) x2)) (2 * k * (2 * k + 1))

def cosGo : Nat → Int → Int → Int
  | 0, _, _ => one60
  | n + 1, k, x2 => one60 - rdiv (fmul x2 (cosGo n (k + 1) x2)) ((2 * k - 1) * (2 * k))

/-- cos and sin of an angle in U0.32 turns. -/
def cosSin (t : Nat) : Int × Int :=
  let q := (t + 536870912) / 1073741824
  let r : Int := (t : Int) - 1073741824 * q
  let x := rdiv (r * twoPi60) 4294967296
  let x2 := fmul x x
  let c := cosGo 14 1 x2
  let s := fmul x (sinGo 14 1 x2)
  if q % 4 = 0 then (c, s) else if q % 4 = 1 then (-s, c) else if q % 4 = 2 then (-c, -s) else (s, -c)

/-- arctan x ÷ x for |x| ≤ √2 − 1. -/
def atanGo : Nat → Int → Int → Int
  | 0, k, _ => rdiv one60 (2 * k + 1)
  | n + 1, k, x2 => rdiv one60 (2 * k + 1) - fmul x2 (atanGo n (k + 1) x2)

/-- arctan x in radians for 0 ≤ x ≤ 1. -/
def atan01 (x : Int) : Int :=
  if 2 * x ≤ one60 - (one60 / 6) then fmul x (atanGo 28 0 (fmul x x))
  else
    let y := fdiv (one60 - x) (one60 + x)
    quarterPi60 - fmul y (atanGo 28 0 (fmul y y))

/-- The angle of the vector (a, b) in U0.32 turns; none for the zero vector. -/
def angleOf (a b : Int) : Option Nat :=
  if a = 0 ∧ b = 0 then none
  else
    let x : Int := (a.natAbs : Nat)
    let y : Int := (b.natAbs : Nat)
    let half := 2 * quarterPi60
    let r := if y ≤ x then atan01 (fdiv y x) else half - atan01 (fdiv x y)
    let r := if a < 0 then 2 * half - r else r
    let r := if b < 0 then -r else r
    some (wrapInt 32 (rdiv (r * 4294967296) twoPi60))

/-- Sign of a number: -1, 0, 1. -/
def sgn (a : Int) : Int := if a < 0 then -1 else if 0 < a then 1 else 0

end Sys2Proof.Machine
end

