-- ==== Sys2Proof/Machine/DrvOps.lean ====
section
/-! DEFINITION.
Drive units: records and sets, gate logic, measurement, observer and control law (chapters 17 and 18). -/

namespace Sys2Proof.Machine

/-! ### Records, sets and their fields (R655, R686) -/

/-- The DRVP record of a unit. -/
def State.drvRec (s : State) (n : Nat) : Option (List Byte) := (s.recs .drvp 0).find? (fun r => C.DRVP0.DRV r == n)
def State.drvP (s : State) (n : Nat) : List Byte := (s.drvRec n).getD []
def State.drvBay (s : State) (n : Nat) : Nat := ownerOr0 (s.ownPeriph (24 + n))
def State.drvSt (s : State) (n : Nat) : Nat := s.get (R.DRVn_STATE.STATE n)

/-- A signed 32-bit field of a set, in its own format. -/
def setI (d : List Byte) (o : Nat) : Int := signed 32 (leAt d o 4)
/-- A Q3.28 field of a set with 60 fraction bits. -/
def setF (d : List Byte) (o : Nat) : Int := ofQ 28 (setI d o)
def setN (d : List Byte) (o k : Nat) : Nat := leAt d o k

/-- V_DC_LIM in pu of V_BASE, Q3.28 (R673). -/
def State.vLim (s : State) (n : Nat) (d : List Byte) : Int :=
  clampInt (-2147483648) 2147483647
    (rdiv ((C.DRVP0.V_DC_LIM (s.drvP n) * 1000 * 268435456 : Nat) : Int) (max 1 (setN d 0x0C 4) : Nat))

/-- V_REG (R673). -/
def State.vReg (s : State) (n : Nat) (d : List Byte) : Int := s.vLim n d - setI d 0x22C

/-- The stated ranges of the control part (R647, R655). -/
def setRange (period : Nat) (d : List Byte) : Bool :=
  let u := setN d
  let i := setI d
  decide (1 ≤ u 6 1 ∧ u 6 1 ≤ 32) && decide (1000 ≤ u 8 4 ∧ u 8 4 ≤ 2000000) &&
  decide (10000 ≤ u 0x0C 4 ∧ u 0x0C 4 ≤ 2000000) && decide (10000 ≤ u 0x10 4 ∧ u 0x10 4 ≤ 1000000) &&
  decide (0 < i 0x2C) && decide (0 ≤ i 0x30) && decide (0 ≤ i 0x34) &&
  decide (i 0x38 * (u 0x10 4 : Nat) ≤ 1000000 * 268435456) && decide (0 ≤ i 0x3C) &&
  decide (0 < i 0x4C) && decide (0 < i 0x50) && decide (500 ≤ u 0x54 4 ∧ u 0x54 4 * period ≤ 125000000) &&
  decide (0x100 ≤ u 0x5A 2) && decide (u 0x5A 2 ≤ u 0x5C 2 ∧ 0x1000 ≤ u 0x5C 2) &&
  decide (0 < i 0x64) && decide (0 < i 0x70) && decide (1 ≤ u 0x74 2 ∧ u 0x74 2 ≤ 500) &&
  decide (10 ≤ u 0x76 2 ∧ u 0x76 2 ≤ 10000) && decide (0 < i 0x7C) && decide (1 ≤ u 0x80 2 ∧ u 0x80 2 ≤ 10000) &&
  decide (50 ≤ u 0x82 2 ∧ u 0x82 2 ≤ 100)

/-- The stated ranges of the protection part (R686). -/
def protRange (d : List Byte) : Bool :=
  let u := setN d
  let i := setI d
  decide (1 ≤ u 0x200 2 ∧ u 0x200 2 ≤ 3300) && decide (u 0x202 2 < u 0x200 2) && decide (u 0x204 1 ≤ 15) &&
  decide (1 ≤ u 0x205 1) && decide (1 ≤ u 0x206 1) && decide (1 ≤ u 0x207 1) && decide (0 < i 0x208) && decide (0 < i 0x20C) &&
  decide (1 ≤ u 0x210 2 ∧ u 0x210 2 ≤ 3600) && decide (u 0x212 2 ≤ 10000) && decide (1 ≤ u 0x214 2 ∧ u 0x214 2 ≤ 100) &&
  decide (20 ≤ u 0x216 2 ∧ u 0x216 2 ≤ 2000 ∧ u 0x214 2 < u 0x216 2) && decide (0 < i 0x218) && decide (i 0x220 < i 0x21C) &&
  decide (1 ≤ u 0x224 2 ∧ u 0x224 2 ≤ 1000) && decide (1 ≤ u 0x226 2 ∧ u 0x226 2 ≤ 255) && decide (0 < i 0x228) &&
  decide (0 < i 0x22C) && decide (0 < i 0x230) && decide (0 < i 0x234) && decide (0 < i 0x238) && decide (0 < i 0x248)

/-- The orders of R687. -/
def State.setOrder (s : State) (n : Nat) (d : List Byte) : Bool :=
  let top := s.vReg n d - setI d 0x230
  decide (setI d 0x228 < setI d 0x23C ∧ setI d 0x23C < top) &&
  (C.DRVP0.BRAKE (s.drvP n) != 1 || decide (setI d 0x23C < setI d 0x220 ∧ setI d 0x220 < setI d 0x21C ∧ setI d 0x21C ≤ top))

/-- The check of a set: 0, or 1 MAGIC or FORMAT, 2 MOTOR, 3 CRC, 4 range (R656, R668). -/
def State.setCheck (s : State) (n : Nat) (d : List Byte) : Nat :=
  let r := s.drvP n
  if setN d 0 4 ≠ 0x54455350 ∨ setN d 4 1 ≠ 1 then 1
  else if setN d 5 1 ≠ C.DRVP0.MOTOR r then 2
  else if setN d 0x3FC 4 ≠ crc32c (slice d 0 0x3FC) then 3
  else if setRange (C.DRVP0.DEC_PERIOD r) d && protRange d && s.setOrder n d then 0 else 4

/-- Set `k` of a unit as it stands in the parameter area (R656). -/
def State.setBytes (s : State) (n k : Nat) : List Byte :=
  nvmBytes s.nvm (lpBase (2 + 4 * n + k / 4) + 1024 * (k % 4)) 1024

/-! ### States -/

/-- AVAIL, ACTIVE and what follows the state (R659, R678). -/
def State.showDrv (s : State) (n : Nat) : State :=
  let st := s.drvSt n
  let x := s.drvAt n
  let av := decide (5 ≤ st ∧ st ≤ 7) && decide (setI x.set 0x248 ≤ (x.wEst.natAbs : Nat)) && !(s.on (R.DRVn_KH.EXHAUSTED n))
  let s := (s.flag (R.DRVn_KH.AVAIL n) av).flag (R.DRVn_KH.ACTIVE n) (st == 7)
  if 5 ≤ st ∧ st ≤ 7 then s else s.put (R.DRVn_VEC.SECTOR n) 0

/-- A unit takes a state; from RUNNING, DECELERATING and KINETIC_HOLD to another of them the tests run on (R680); leaving
kinetic hold pends KH_EXIT (R688). -/
def State.drvTo (s : State) (n st : Nat) : State :=
  let was := s.drvSt n
  let s := if was = 7 ∧ st ≠ 7 then s.drvIrq n 13 else s
  let keep := 5 ≤ was ∧ was ≤ 7 ∧ 5 ≤ st ∧ st ≤ 7
  let s := if keep then s else s.modDrv n (fun x => { x with since := 0, nFlux := 0, nSpeed := 0, nRes := 0 })
  let s := if 2 ≤ st ∧ st ≤ 7 then s else s.gatesOff n
  let s := if st = 0 ∨ st = 9 then s.brkTo n false else s
  (s.put (R.DRVn_STATE.STATE n) st).showDrv n

/-- R639: the sources of a unit. -/
def State.measOk (s : State) (n : Nat) : Bool :=
  let en := fun q => s.on (R.DRVn_MSRCq.EN n q)
  let owned := fun q =>
    let c := s.get (R.DRVn_MSRCq.CH n q)
    if (if s.on (R.DRVn_MSRCq.KIND n q) then 8 else 24) ≤ c then false
    else if s.on (R.DRVn_MSRCq.KIND n q) then (s.ownPeriph (30 + c)).isSome && s.ownPeriph (30 + c) == s.ownPeriph (24 + n)
    else (s.ownPeriph (26 + c / 6)).isSome && s.ownPeriph (26 + c / 6) == s.ownPeriph (24 + n)
  let load := fun u c => ((List.range 7).filter (fun q => s.on (R.DRVn_MSRCq.EN u q) && !(s.on (R.DRVn_MSRCq.KIND u q)) &&
    s.get (R.DRVn_MSRCq.CH u q) / 6 == c)).length
  en 0 && en 1 && en 3 && (C.DRVP0.VSENSE (s.drvP n) != 0 || (en 4 && en 5 && en 6)) &&
  (List.range 7).all (fun q => !(en q) || owned q) &&
  (List.range 2).all (fun u => (List.range 4).all (fun c => decide (load u c ≤ 4)))

/-- The OCP fields of a set (R683, R688). -/
def ocpCode (mv : Nat) : Nat := (mv * 1024 * 2 + 3300) / 6600

/-- A set read, checked and made active, or cause 0x3C09 (R656). -/
def State.loadSet (s : State) (n k : Nat) (tag : Bool) : State :=
  let d := s.setBytes n k
  let d := if (s.drvAt n).injSet then updAt d 0x10 (fun b => b ^^^ 1#8) else d
  let s := s.modDrv n (fun x => { x with injSet := false })
  let e := s.setCheck n d
  if e = 0 then
    let s := (s.modDrv n (fun x => { x with set := d })).put (R.DRVn_STATE.PSET n) k
    let s := ((s.flag (R.DRVn_STATE.PSET_VALID n) true).flag (R.DRVn_STATE.PSET_FROM_TAG n) tag).flag (R.DRVn_IRQ_PEND.PSET_DONE n) true
    ((s.put (R.DRVn_OCP_CFG.HI n) (min 0x3FF (ocpCode (setN d 0x200 2)))).put (R.DRVn_OCP_CFG.LO n) (ocpCode (setN d 0x202 2))).put
      (R.DRVn_OCP_CFG.FILT n) (setN d 0x204 1)
  else (s.flag (R.DRVn_IRQ_PEND.PSET_ERR n) true).report (s.drvBay n) 0x3C09 n (k + 256 * e)

/-- Whether a unit may be in READY (R670). -/
def State.readyOk (s : State) (n : Nat) : Bool := (s.drvRec n).isSome && s.on (R.DRVn_STATE.PSET_VALID n) && s.measOk n

/-- Entry to READY, where a held TAG selection is loaded, or to OFF (R657, R670). -/
def State.toReady (s : State) (n : Nat) : State :=
  if s.readyOk n then
    match (s.drvAt n).held with
    | some k => ((s.modDrv n (fun x => { x with held := none })).loadSet n k true).drvTo n 1
    | none => s.drvTo n 1
  else s.drvTo n 0

/-- OFF and READY follow the set and R639 (R670). -/
def State.drvReady (s : State) (n : Nat) : State :=
  if s.drvSt n = 0 ∧ s.readyOk n = true then s.toReady n
  else if s.drvSt n = 1 ∧ s.readyOk n = false then s.drvTo n 0 else s

/-- A trip: off levels on the edge, TRIPPED, the first source and its stamp (R685, R690). -/
def State.drvTrip (s : State) (n src leg cause detail : Nat) : State :=
  let st := s.drvSt n
  let bay := s.drvBay n
  if 2 ≤ st ∧ st ≤ 7 then
    let s := (s.drvTo n 8).put (R.DRVn_TRIP.SOURCE n) src
    (((s.put (R.DRVn_TRIP.LEG n) leg).put (R.DRVn_TRIP_STAMP.STAMP n) s.stamp).drvIrq n 8).report bay cause n detail
  else if st = 8 ∧ s.get (R.DRVn_TRIP_STAMP.STAMP n) = s.stamp then
    (if src < s.get (R.DRVn_TRIP.SOURCE n) then s.put (R.DRVn_TRIP.SOURCE n) src else s).report bay cause n detail
  else s

/-! ### Gate logic (R633, R634) -/

/-- Whether a leg may change to `v` now: MIN_PULSE of the outgoing on time and of the incoming off time. -/
def legOk (mp dead now : Nat) (l : Leg) (v : Bool) : Bool :=
  let onAt := if v then l.loAt else l.hiAt
  let offAt := if v then l.hiAt else l.loAt
  l.dead.isNone && (l.val.isNone || decide (onAt + mp ≤ now)) && decide (offAt + mp ≤ now + dead)

/-- The change: the outgoing switch off now, the incoming one after DEAD. -/
def legGo (dead now : Nat) (l : Leg) (v : Bool) : Leg :=
  let off := { l with val := some v, want := none, hi := l.hi && v, lo := l.lo && !v
                      hiAt := if l.hi && !v then now else l.hiAt, loAt := if l.lo && v then now else l.loAt }
  if dead = 0 then
    (if v then { off with hi := true, hiAt := now, dead := none } else { off with lo := true, loAt := now, dead := none })
  else { off with dead := some v }

def State.drvMp (s : State) (n : Nat) : Nat := 4 * C.DRVP0.MIN_PULSE (s.drvP n)
def State.drvDead (s : State) (n : Nat) : Nat := 4 * C.DRVP0.DEAD (s.drvP n)

/-- Leg `i` changed to `v`, counted (R654). -/
def State.legChange (s : State) (n i : Nat) (v : Bool) : State :=
  s.modDrv n (fun x => { x with legs := updAt x.legs i (fun l => legGo (s.drvDead n) s.now l v)
                                ntr := x.ntr + 1, chg := updAt x.chg i (fun c => c + 1) })

/-- Leg `i` wanted at `v`: changed, or deferred (R634). -/
def State.legTo (s : State) (n i : Nat) (v : Bool) : State :=
  let l := (s.drvAt n).legs.getD i Leg.cold
  if l.val = some v then s.modDrv n (fun x => { x with legs := updAt x.legs i (fun l => { l with want := none }) })
  else if legOk (s.drvMp n) (s.drvDead n) s.now l v then s.legChange n i v
  else (s.inc (R.DRVn_DEFER.COUNT n)).modDrv n (fun x => { x with legs := updAt x.legs i (fun l => { l with want := some v }) })

/-- A switching state at the gate logic: Sa is its bit 2, Sc its bit 0. -/
def State.applyVec (s : State) (n v : Nat) : State :=
  let s := ((s.legTo n 0 (v.testBit 2)).legTo n 1 (v.testBit 1)).legTo n 2 (v.testBit 0)
  (s.modDrv n (fun x => { x with s2 := x.s1, s1 := v })).put (R.DRVn_VEC.STATE_ABC n) v

/-! ### Measurement (R638, R640, R642, R663) -/

/-- The MSRC and MGAIN words of quantity `q` as of the last START; before the first, as they stand (R663). -/
def State.srcNow (s : State) (n q : Nat) : Nat × Nat := ((s.word (R.DRVn_MSRCq.EN n q)).toNat, s.get (R.DRVn_MGAINq.GAIN n q))
def State.srcOf (s : State) (n q : Nat) : Nat × Nat :=
  match (s.drvAt n).src[q]? with
  | some p => p
  | none => s.srcNow n q
def State.srcOn (s : State) (n q : Nat) : Bool := (s.srcOf n q).1.testBit 0
def State.srcSdm (s : State) (n q : Nat) : Bool := (s.srcOf n q).1.testBit 1
def State.srcCh (s : State) (n q : Nat) : Nat := field (s.srcOf n q).1 2 5

/-- The value of quantity `q` in Q3.28 from a result word. -/
def State.measVal (s : State) (n q w : Nat) : Int :=
  let c := s.srcCh n q
  let sg := s.srcSdm n q || s.adcDiff (c / 6) (c % 6)
  let code : Int := if sg then signed 16 w else ((w % 65536 : Nat) : Int)
  clampInt (-2147483648) 2147483647
    ((code - signed 16 (field (s.srcOf n q).1 16 16)) * signed 32 (s.srcOf n q).2 * 16)

/-- Whether a current or VDC result of the decision is missing or carries OVR or SUSPECT. -/
def State.measBad (s : State) (n : Nat) : Bool :=
  let x := s.drvAt n
  ([0, 1, 2, 3] : List Nat).any (fun q => s.srcOn n q &&
    (!(x.fresh.testBit q) || wordBad (x.meas.getD q 0)))

/-- iα and iβ with 60 fraction bits. -/
def State.currents (s : State) (n : Nat) : Int × Int :=
  let x := s.drvAt n
  let v := fun q => ofQ 28 (s.measVal n q (x.meas.getD q 0))
  if s.srcOn n 2 then (rdiv (2 * v 0 - v 1 - v 2) 3, fdiv (v 1 - v 2) sqrt3)
  else (v 0, fdiv (v 0 + 2 * v 1) sqrt3)

/-- Three leg values as α and β. -/
def clarke (a b c : Int) : Int × Int := (rdiv (2 * a - b - c) 3, fdiv (b - c) sqrt3)

def bitF (s i : Nat) (v : Int) : Int := if s.testBit i then v else 0

/-- V(S) for a link voltage. -/
def vecOf (sw : Nat) (vdc : Int) : Int × Int := clarke (bitF sw 2 vdc) (bitF sw 1 vdc) (bitF sw 0 vdc)

/-- The mean of the pole-voltage samples of one phase. -/
def State.poleMean (s : State) (n q : Nat) : Int :=
  let l := (s.drvAt n).polesPrev.filter (fun p => p.1 == q)
  rdiv ((l.map (fun p => ofQ 28 (s.measVal n q p.2))).foldl (· + ·) 0) (max 1 l.length : Nat)

/-- The applied voltage of the interval that ends at the tick (R641). -/
def State.volts (s : State) (n : Nat) (vdc : Int) : Int × Int :=
  let x := s.drvAt n
  let r := s.drvP n
  let p : Int := (max 1 (C.DRVP0.DEC_PERIOD r) : Nat)
  if C.DRVP0.VSENSE r = 0 then clarke (s.poleMean n 4) (s.poleMean n 5) (s.poleMean n 6)
  else
    let d := rdiv (500 * one60) p
    let (a1, b1) := vecOf x.s1 vdc
    let (a2, b2) := vecOf x.s2 vdc
    let ia := ofQ 28 x.ia
    let ib := ofQ 28 x.ib
    let sa := sgn ia
    let sb := sgn (fmul sqrt3 ib - ia)
    let sc := sgn (-(fmul sqrt3 ib) - ia)
    let drop := setF x.set 0x60
    let dt := rdiv (vdc * (C.DRVP0.DEAD r : Nat)) p
    let e := fun (i : Nat) (g : Int) => g * (drop + dt * (x.chgPrev.getD i 0 : Nat))
    let (ea, eb) := clarke (e 0 sa) (e 1 sb) (e 2 sc)
    (fmul (one60 - d) a1 + fmul d a2 - ea, fmul (one60 - d) b1 + fmul d b2 - eb)

/-! ### Observer and PLL (R643 to R646) -/

/-- T, Ωb × T and F_BASE × T with 60 fraction bits. -/
def State.decT (s : State) (n : Nat) : Int := rdiv ((4 * C.DRVP0.DEC_PERIOD (s.drvP n) : Nat) * one60) 1000000000
def State.omegaT (s : State) (n : Nat) : Int :=
  rdiv (twoPi60 * (setN (s.drvAt n).set 0x10 4 : Nat) * (4 * C.DRVP0.DEC_PERIOD (s.drvP n) : Nat)) 1000000000000
def State.freqT (s : State) (n : Nat) : Int :=
  rdiv (one60 * (setN (s.drvAt n).set 0x10 4 : Nat) * (4 * C.DRVP0.DEC_PERIOD (s.drvP n) : Nat)) 1000000000000

/-- The unit vector along (a, b); its angle is a free value for the zero vector. -/
def State.unitVec (s : State) (a b : Int) : State × Int × Int :=
  if a = 0 ∧ b = 0 then
    (s.took 1, cosSin s.freeW)
  else
    let m := fsqrt (fmul a a + fmul b b)
    if m = 0 then (s, one60, 0) else (s, fdiv a m, fdiv b m)

/-- The current model: ψcm, and |ψa| of an induction machine as it follows (R644).  `ia`, `ib` are is(k − 1). -/
def State.model (s : State) (n : Nat) (ia ib : Int) : State × Int × Int × Int :=
  let x := s.drvAt n
  let d := x.set
  let lx := setF d 0x18
  let pa := ofQ 28 x.psa - fmul lx ia
  let pb := ofQ 28 x.psb - fmul lx ib
  let (s, ca, cb) := s.unitVec pa pb
  let id := fmul ia ca + fmul ib cb
  if setN d 5 1 = 0 then
    let m := fmul (setF d 0x1C - lx) id + setF d 0x20
    (s, fmul m ca + fmul lx ia, fmul m cb + fmul lx ib, ofQ 28 x.act)
  else
    let tau : Int := (setN d 0x28 4 : Nat)
    let goal := fmul (fmul (setF d 0x24) (setF d 0x20)) id
    let (s, act) := if tau = 0 then (s.took 1, ofQ 28 (signed 32 s.freeW))
      else (s, ofQ 28 x.act + rdiv (fmul (s.decT n) (goal - ofQ 28 x.act) * 1000000) tau)
    (s, fmul act ca + fmul lx ia, fmul act cb + fmul lx ib, act)

/-- The observer step of a decision: new ψs and its derived values; answers ψcm with 60 fraction bits (R644). -/
def State.observe (s : State) (n : Nat) (vdc : Int) : State × Int × Int :=
  let x := s.drvAt n
  let d := x.set
  let ia := ofQ 28 x.ia
  let ib := ofQ 28 x.ib
  let (va, vb) := s.volts n vdc
  let (s, cma, cmb, act) := s.model n ia ib
  let w := s.omegaT n
  let rs := setF d 0x14
  let wc := fmul w (setF d 0x3C)
  let pa := ofQ 28 x.psa
  let pb := ofQ 28 x.psb
  let na := pa + fmul w (va - fmul rs ia) + fmul wc (cma - pa)
  let nb := pb + fmul w (vb - fmul rs ib) + fmul wc (cmb - pb)
  (s.modDrv n (fun y => { y with psa := toQ 28 na, psb := toQ 28 nb, act := toQ 28 act }), cma, cmb)

/-- Torque ψ × i (R645). -/
def torqueOf (pa pb ia ib : Int) : Int := toQ 28 (fmul (ofQ 28 pa) (ofQ 28 ib) - fmul (ofQ 28 pb) (ofQ 28 ia))

/-- The speed PLL, W_EST and W_ROT (R646). -/
def State.pll (s : State) (n : Nat) : State :=
  let x := s.drvAt n
  let d := x.set
  let cs := cosSin x.thetaPll
  let m := ofQ 28 (hypot x.psa x.psb)
  let num := fmul (ofQ 28 x.psb) cs.1 - fmul (ofQ 28 x.psa) cs.2
  let eps := if m = 0 then ofQ 28 (signed 32 s.freeW) else fdiv num m
  let s := if m = 0 then s.took 1 else s
  let t := s.decT n
  let i' := toQ 28 (ofQ 28 x.integ + fmul (fmul (ofQ 16 (setI d 0x44)) t) eps)
  let fm := setI d 0x38
  let w := clampInt (-fm) fm (toQ 28 (fmul (ofQ 24 (setI d 0x40)) eps + ofQ 28 i'))
  let turn := rdiv (fmul (ofQ 28 w) (s.freqT n) * 4294967296) one60
  let tau : Int := (setN d 0x48 4 : Nat)
  let share := if tau * one60 ≤ t * 1000000 then one60 else rdiv (t * 1000000) tau
  let we := toQ 28 (ofQ 28 x.wEst + fmul share (ofQ 28 w - ofQ 28 x.wEst))
  let lx := setF d 0x18
  let ia := ofQ 28 x.ia
  let ib := ofQ 28 x.ib
  let pa := ofQ 28 x.psa - fmul lx ia
  let pb := ofQ 28 x.psb - fmul lx ib
  let p2 := fmul pa pa + fmul pb pb
  let den := rdiv (fmul p2 (rdiv (twoPi60 * (setN d 0x10 4 : Nat)) 1000) * (setN d 0x28 4 : Nat)) 1000000
  let rot := if setN d 5 1 = 0 then we
    else if den = 0 then signed 32 s.freeW
    else toQ 28 (ofQ 28 we - fdiv (fmul (fmul (setF d 0x24) (setF d 0x20)) (fmul pa ib - fmul pb ia)) den)
  let s := if setN d 5 1 ≠ 0 ∧ den = 0 then s.took 1 else s
  let s := s.modDrv n (fun y => { y with integ := i', wHat := w, thetaPll := wrapInt 32 ((y.thetaPll : Int) + turn), wEst := we })
  (s.putI (R.DRVn_W_EST.VALUE n) we).putI (R.DRVn_W_ROT.VALUE n) rot

/-! ### References and limits (R648 to R650, R673, R676, R679) -/

/-- Tg in Q3.28 (R673). -/
def State.genLimit (s : State) (n : Nat) : Int :=
  let x := s.drvAt n
  let d := x.set
  let band := setF d 0x230
  if band ≤ 0 then 0
  else toQ 28 (fmul (setF d 0x34) (clampInt 0 one60 (fdiv (ofQ 28 (s.vReg n d - x.vdc)) band)))

/-- The flux reference (R648): held in kinetic hold (R679), and at PSI_REF_NOM while a reversal passes through standstill
(R677). -/
def State.fluxRef (s : State) (n : Nat) : Int :=
  let x := s.drvAt n
  let w : Int := (x.wHat.natAbs : Nat)
  let turning := s.drvSt n == 5 && s.on (R.DRVn_CTRL.CMODE n) && decide (x.refs.getD 1 0 * x.wEst < 0 ∧ w ≤ 4194304)
  let r := x.refs.getD 2 0
  let r := if r = 0 ∨ turning then setI x.set 0x2C else r
  if s.drvSt n = 7 then x.psiRef
  else if s.on (R.DRVn_CTRL.FW_EN n) ∧ 4194304 < w then
    min r (toQ 28 (fdiv (rdiv (95 * ofQ 28 x.vdc) 100) (fmul sqrt3 (ofQ 28 w))))
  else r

/-- A torque reference limited in the direction of W_EST; whether the limit, and whether Tg, binds (R650, R673). -/
def State.limitTorque (s : State) (n : Nat) (t tg : Int) : Int × Bool × Bool :=
  let x := s.drvAt n
  let d := x.set
  let g : Int := if x.wEst < 0 then -1 else 1
  let tl := x.refs.getD 3 0
  let top := if tl = 0 then setI d 0x30 else min (setI d 0x30) tl
  let low := min (setI d 0x34) tg
  let y := g * t
  let z := clampInt (-low) top y
  (g * z, z != y, decide (y < -tg))

/-- `a` moved towards `b` by at most `step`. -/
def towards (a b step : Int) : Int := if a < b then min b (a + step) else max b (a - step)

/-- The ramp of R676 towards `tgt`. -/
def State.rampStep (s : State) (n : Nat) (tgt : Int) : Int :=
  let x := s.drvAt n
  let t := s.decT n
  let dec := toQ 28 (fmul (setF x.set 0x234) t)
  let acc := toQ 28 (fmul (setF x.set 0x64) t)
  if x.atGen ∧ tgt.natAbs < x.ramp.natAbs then x.ramp
  else if tgt.natAbs < x.ramp.natAbs ∨ tgt * x.ramp < 0 then towards x.ramp tgt dec
  else towards x.ramp tgt acc

/-- The torque reference of the speed controller (R649). -/
def State.speedCtl (s : State) (n : Nat) (tg : Int) : State × Int :=
  let x := s.drvAt n
  let i0 := if x.speed then x.spdI else x.torque
  let e := ofQ 28 (x.ramp - x.wEst)
  let out := toQ 28 (fmul (ofQ 24 (setI x.set 0x68)) e + ofQ 28 i0)
  let (t, lim, gen) := s.limitTorque n out tg
  let i' := if lim then i0 else toQ 28 (ofQ 28 i0 + fmul (fmul (ofQ 16 (setI x.set 0x6C)) (s.decT n)) e)
  (s.modDrv n (fun y => { y with spdI := i', limited := lim, atGen := gen, speed := true, torque := t }), t)

/-- The torque reference of a decision, by state. -/
def State.torqueRef (s : State) (n : Nat) (tg : Int) : State × Int :=
  let x := s.drvAt n
  let st := s.drvSt n
  if st = 7 then
    let e := ofQ 28 (setI x.set 0x23C - x.vdc)
    let ex := decide ((x.wEst.natAbs : Nat) < setI x.set 0x248) || s.on (R.DRVn_KH.EXHAUSTED n)
    let s := if ex then s.flag (R.DRVn_KH.EXHAUSTED n) true else s
    let raw := toQ 28 (fmul (ofQ 24 (setI x.set 0x240)) e + ofQ 28 x.khI)
    let u := if ex then 0 else clampInt 0 tg raw
    let i' := if u ≠ raw then x.khI else toQ 28 (ofQ 28 x.khI + fmul (fmul (ofQ 16 (setI x.set 0x244)) (s.decT n)) e)
    let t := if x.wEst < 0 then u else -u
    (s.modDrv n (fun y => { y with khI := i', torque := t, limited := true, atGen := !ex && decide (tg < raw), speed := false }), t)
  else if st = 6 ∨ s.on (R.DRVn_CTRL.CMODE n) then
    let sref := x.refs.getD 1 0
    let r := if st = 6 then s.rampStep n x.target
      else if sref * x.wEst < 0 then s.rampStep n sref
      else towards x.ramp sref (toQ 28 (fmul (setF x.set 0x64) (s.decT n)))
    (s.modDrv n (fun y => { y with ramp := r })).speedCtl n tg
  else
    let (t, lim, gen) := s.limitTorque n (x.refs.getD 0 0) tg
    (s.modDrv n (fun y => { y with torque := t, limited := lim, atGen := gen, speed := false, ramp := y.wEst }), t)

/-! ### Sectors, comparators and switching table (R651 to R653) -/

/-- The sector of a flux angle. -/
def sectorOf (t : Nat) : Nat := ((12 * t + 4294967296) / 8589934592) % 6 + 1

/-- V1 to V6 as (Sa, Sb, Sc), with V0 at index 0 and V7 at 7. -/
def vecBits : List Nat := [0, 4, 6, 2, 3, 1, 5, 7]

/-- The zero vector after a state. -/
def zeroAfter (s : Nat) : Nat := if s = 4 ∨ s = 2 ∨ s = 1 ∨ s = 0 then 0 else 7

/-- The switching state of the table. -/
def tableVec (sector : Nat) (dpsi : Bool) (dt : Int) (prev : Nat) : Nat :=
  if dt = 0 then zeroAfter prev
  else
    let k := if dt = 1 then (if dpsi then 1 else 2) else (if dpsi then 5 else 4)
    vecBits.getD ((sector - 1 + k) % 6 + 1) 0

def fluxComp (cur : Bool) (mag ref h : Int) : Bool :=
  if 2 * mag < 2 * ref - h then true else if 2 * ref + h < 2 * mag then false else cur

def torqueComp (cur e h : Int) : Int :=
  if h ≤ 2 * e then 1 else if 2 * e ≤ -h then -1
  else if cur = 1 ∧ e ≤ 0 then 0 else if cur = -1 ∧ 0 ≤ e then 0 else cur

end Sys2Proof.Machine
end

