-- ==== Sys2Proof/Machine/Drv.lean ====
section
/-! DEFINITION.
The commands and events of the drive units (chapters 17 and 18). -/

namespace Sys2Proof.Machine

/-! ### Start, stop and sets (R656, R657, R661, R664 to R666, R670, R676, R689) -/

/-- DRVn_CMD_STAT (R661). -/
def State.drvStat (s : State) (n res : Nat) : State :=
  (s.put (R.DRVn_CMD_STAT.STATUS n) (if res = 0 then 1 else 3)).put (R.DRVn_CMD_STAT.RESULT n) res

/-- Observer and control state as every START leaves it. -/
def DrvUnit.fresh_ (x : DrvUnit) : DrvUnit :=
  { DrvUnit.cold with
    set := x.set, held := x.held, refs := x.refs, lastS := x.refs.getD 1 0, meas := x.meas, fresh := x.fresh, ia := x.ia
    ib := x.ib, vdc := x.vdc, legs := x.legs, brkSel := x.brkSel, brkAt := x.brkAt, brkOn := x.brkOn, brkFrom := x.brkFrom
    brkHeld := x.brkHeld, inputs := x.inputs, bad := x.bad, lastTick := x.lastTick, injSet := x.injSet, injRot := x.injRot
    injVdc := x.injVdc }

/-- RUNNING entered. -/
def State.toRunning (s : State) (n : Nat) : State := (s.drvTo n 5).drvIrq n 0

/-- The vectors of the position test in order, V1, V4, V2, V5, V3, V6 (R664). -/
def testVecs : List Nat := [1, 4, 2, 5, 3, 6]

/-- Pulse `m` of the position test begins. -/
def State.testPulse (s : State) (n m : Nat) : State :=
  (s.applyVec n (vecBits.getD (testVecs.getD m 1) 0)).modDrv n (fun x => { x with pulse := some m, phase := 0 })

/-- Catch-spin enters a step: 1 the wait, 2 and 4 a pulse of V0, 3 the gap (R682). -/
def State.catchStep (s : State) (n k : Nat) : State :=
  let s := s.modDrv n (fun x => { x with step := k })
  if k = 2 ∨ k = 4 then s.applyVec n 0 else s.gatesOff n

/-- A START failure (R666); in CATCHING a catch failure, which trips (R682). -/
def State.startFail (s : State) (n detail : Nat) : State :=
  if s.drvSt n = 4 then (s.drvTrip n 8 0 0x3C08 detail).drvIrq n 1
  else ((s.toReady n).drvIrq n 1).report (s.drvBay n) 0x3C08 n detail

/-- Whether a bay may run its drives: alone, or ACTIVE in a pair (R661). -/
def State.drvRole (s : State) (n : Nat) : Bool := s.roleOf (s.drvBay n) == 0 || s.roleOf (s.drvBay n) == 2

/-- RESULT of START (R639, R658, R661, R669). -/
def State.startResult (s : State) (n : Nat) : Nat :=
  let st := s.drvSt n
  if (st ≠ 0 ∧ st ≠ 1) ∨ s.drvRole n = false ∨ (s.drvAt n).bad ≠ 0 then 1
  else if s.on (R.DRVn_STATE.INHIBIT n) then 2
  else if s.on (R.DRVn_STATE.PSET_VALID n) = false then 3
  else if s.measOk n = false then 4
  else if st = 0 then 1 else 0

/-- A trip as for a readback mismatch: every output at its off level, BRK included (R669). -/
def State.mismatchTrip (s : State) (n : Nat) : State :=
  let s := s.brkTo n false
  let first := s.drvSt n != 8
  let s := s.drvTo n 8
  if first then ((s.put (R.DRVn_TRIP.SOURCE n) 7).put (R.DRVn_TRIP_STAMP.STAMP n) s.stamp).drvIrq n 8 else s

/-- A unit in a state that drives its gates trips while VDD_3V3 is low (R857). -/
def State.drvRail (s : State) (n : Nat) : State :=
  if s.railIsLow 4 ∧ 2 ≤ s.drvSt n ∧ s.drvSt n ≤ 7 then s.mismatchTrip n else s

/-- START accepted (R654, R663 to R666, R681). -/
def State.drvBegin (s : State) (n : Nat) (spin : Bool) : State :=
  let s := s.modDrv n (fun x => { x.fresh_ with src := (List.range 7).map (s.srcNow n) })
  let s := s.put (R.DRVn_BETA.BETA n) 0x1000
  let s := ((s.put (R.DRVn_TRIP.RESTARTS n) 0).flag (R.DRVn_KH.EXHAUSTED n) false).flag (R.DRVn_STATE.BAND_AT_LIMIT n) false
  if spin then (s.drvTo n 4).catchStep n 2
  else if C.DRVP0.MOTOR (s.drvP n) = 0 then (s.drvTo n 2).testPulse n 0
  else s.drvTo n 3

/-- START (R661). -/
def State.drvStart (t : State) (n : Nat) (spin : Bool) : State :=
  let r := t.startResult n
  if r = 0 then ((t.drvBegin n spin).drvStat n 0).drvRail n else t.drvStat n r

def execDrvStart (by_ : Init) (n : Nat) (spin : Bool) (s : State) : Host.Outcome State Fault Refusal :=
  answer (s.byOwner by_ (24 + n) (R.DRVn_CMD.OP n).addr (fun t => t.drvStart n spin))

/-- DECELERATING entered, towards 0; from torque mode the ramp starts at W_EST (R649, R676, R679). -/
def State.toDecel (s : State) (n : Nat) : State :=
  let kh := s.drvSt n == 7
  (s.modDrv n (fun x => { x with target := 0, lastS := x.refs.getD 1 0, atGen := x.atGen && !kh, ramp := if x.speed && !kh then x.ramp else x.wEst })).drvTo n 6

/-- STOP (R661, R667, R676, R679, R682, R689). -/
def State.drvStop (s : State) (n : Nat) : State :=
  let st := s.drvSt n
  if s.drvRole n = false then s.drvStat n 1
  else if st = 2 ∨ st = 3 ∨ st = 4 then (s.modDrv n (fun x => { x with stopReq := true })).drvStat n 0
  else if st = 5 ∨ st = 7 then (s.toDecel n).drvStat n 0
  else if st = 6 then (s.modDrv n (fun x => { x with target := 0, lastS := x.refs.getD 1 0 })).drvStat n 0
  else s.drvStat n 1

def execDrvStop (by_ : Init) (n : Nat) (s : State) : Host.Outcome State Fault Refusal :=
  answer (s.byOwner by_ (24 + n) (R.DRVn_CMD.OP n).addr (fun t => t.drvStop n))

/-- COAST: at the next apply edge (R661, R676, R679, R689). -/
def State.drvCoast (t : State) (n : Nat) : State :=
  let st := t.drvSt n
  if t.drvRole n = true ∧ (st = 2 ∨ st = 3 ∨ st = 4 ∨ st = 5 ∨ st = 7) then (t.modDrv n (fun x => { x with coast := true })).drvStat n 0
  else t.drvStat n 1

def execCoast (by_ : Init) (n : Nat) (s : State) : Host.Outcome State Fault Refusal :=
  answer (s.byOwner by_ (24 + n) (R.DRVn_CMD.OP n).addr (fun t => t.drvCoast n))

/-- PSET_LOAD (R656, R661). -/
def State.psetLoad (t : State) (n k : Nat) : State :=
  let st := t.drvSt n
  if (st ≠ 0 ∧ st ≠ 1) ∨ t.drvRole n = false then t.drvStat n 1
  else if C.DRVP0.PSET_TAG (t.drvP n) = 1 then t.drvStat n 5
  else ((t.loadSet n (k % 16) false).drvReady n).drvStat n 0

def execPsetLoad (by_ : Init) (n k : Nat) (s : State) : Host.Outcome State Fault Refusal :=
  answer (s.byOwner by_ (24 + n) (R.DRVn_CMD.OP n).addr (fun t => t.psetLoad n k))

/-- A TAG selection for a unit (R657, R667). -/
def State.tagSet (s : State) (n k : Nat) : State :=
  if C.DRVP0.PSET_TAG (s.drvP n) ≠ 1 then s
  else if s.drvSt n = 0 ∨ s.drvSt n = 1 then (s.loadSet n k true).drvReady n
  else s.modDrv n (fun x => { x with held := some k })

/-- A unit in the state of R670: registers at reset, OFF, its set loaded; BRK_STAT.DISABLED stays (R692). -/
def State.drvInit (s : State) (n : Nat) (tag : Option Nat) : State :=
  let dis := s.on (R.DRVn_BRK_STAT.DISABLED n)
  let inh := s.on (R.DRVn_STATE.INHIBIT n)
  let s := s.modDrv n (fun x => { DrvUnit.cold with bad := x.bad })
  let s := (s.resetRegs (0x40110000 + 0x10000 * n) (0x40111000 + 0x10000 * n)).flag (R.DRVn_BRK_STAT.DISABLED n) dis
  let s := s.flag (R.DRVn_STATE.INHIBIT n) inh
  match s.drvRec n with
  | none => s
  | some r =>
    let s := match tag with
      | some k => if C.DRVP0.PSET_TAG r = 1 then s.loadSet n k true else s.loadSet n (C.DRVP0.PSET_DEFAULT r) false
      | none => s.loadSet n (C.DRVP0.PSET_DEFAULT r) false
    s.drvReady n

/-! ### Decisions (R636, R637, R642) -/

/-- Whether decision ticks fall: in every state but OFF and PARKED of a unit with a record (R636, R675). -/
def State.drvTicks (s : State) (n : Nat) : Bool :=
  (s.drvRec n).isSome && s.clocked && s.drvSt n != 0 && s.drvSt n != 9

/-- The conversions of some quantities triggered; `k` is added to the quantity's number. -/
def State.drvConvert (s : State) (n k : Nat) (qs : List Nat) : State :=
  let adc := qs.filter (fun q => s.srcOn n q && !(s.srcSdm n q))
  let sdm := qs.filter (fun q => s.srcOn n q && s.srcSdm n q)
  let s := s.forEach sdm (fun q t => t.drvResult n (q + k) (t.get (R.SDMn_RES.WORD (t.srcCh n q % 8))))
  s.forEach (List.range 4) (fun c t =>
    let here := adc.filter (fun q => t.srcCh n q / 6 == c)
    t.adcTrigger c { src := 1, num := n, onTime := true, at_ := t.now, words := [], stamp := 0
                     left := here.zipIdx.map (fun p => (t.srcCh n p.1 % 6, p.2, p.1 + k)) })

/-- Shadows taken by name: those bound by CIO_REF at an instant, the others at each tick (R662). -/
def State.takeRefs (s : State) (n : Nat) : State :=
  s.modDrv n (fun x => { x with refs := [s.getI (R.DRVn_TREF.TREF n), s.getI (R.DRVn_SREF.SREF n),
    s.getI (R.DRVn_PSIREF.PSIREF n), s.getI (R.DRVn_TLIM.TLIM n)] })

/-- Whether SUP may take the unit into kinetic hold (R678). -/
def State.khAvail (s : State) (n : Nat) : Bool := s.on (R.DRVn_KH.AVAIL n)

/-- The state changes that fall on a decision tick: the end of a catch-spin, the entry into kinetic hold. -/
def State.tickState (s : State) (n : Nat) : State :=
  let x := s.drvAt n
  let s := if s.drvSt n = 4 ∧ x.step = 5 then
      let t := (s.modDrv n (fun y => { y with step := 0, stopReq := false })).drvIrq n 10
      if x.stopReq then ((t.toRunning n).modDrv n (fun y => { y with speed := true })).toDecel n else t.toRunning n
    else s
  if x.khReq then
    let s := s.modDrv n (fun y => { y with khReq := false })
    if s.khAvail n then
      (((s.modDrv n (fun y => { y with khFrom := s.drvSt n, khI := 0 })).drvTo n 7).drvIrq n 12)
    else s
  else s

/-- DECISION_TICK: references taken, measurements triggered (R637 t0). -/
def execDecisionTick (n : Nat) (s : State) : Host.Outcome State Fault Refusal :=
  answer (if s.drvTicks n = false then s
  else
    let s := if s.get (R.DRVn_CIO.CIO_REF n) / 128 = 1 then s else s.takeRefs n
    let s := s.modDrv n (fun x => { x with fresh := 0, polesPrev := x.poles, poles := [], chgPrev := x.chg, chg := [0, 0, 0], lastTick := s.now })
    ((s.put (R.DRVn_DEC_STAMP.STAMP n) s.stamp).tickState n).drvConvert n 0 [0, 1, 2, 3])

/-- POLE_VOLTAGE_TRIGGER (R641). -/
def execPoleVoltageTrigger (n : Nat) (s : State) : Host.Outcome State Fault Refusal :=
  answer (if s.drvTicks n && C.DRVP0.VSENSE (s.drvP n) == 0 then s.drvConvert n 8 [4, 5, 6] else s)

/-- The link voltage of a decision, as measured or as an injection forces it (R642, R691). -/
def State.vdcNow (s : State) (n : Nat) : Int :=
  let x := s.drvAt n
  if x.injVdc.1 = 0 then s.measVal n 3 (x.meas.getD 3 0)
  else if x.injVdc.2 then s.vLim n x.set * 101 / 100 + 1 else setI x.set 0x228 * 99 / 100

/-- The measurement of a decision: MEAS_BAD, or the new currents and link voltage (R642). -/
def State.takeMeas (s : State) (n : Nat) (bad : Bool) : State :=
  let s := s.flag (R.DRVn_STATE.MEAS_BAD n) bad
  if bad then (s.inc (R.DRVn_MEAS_BAD.COUNT n)).drvIrq n 5
  else
    let (a, b) := s.currents n
    let v := s.vdcNow n
    let s := s.modDrv n (fun x => { x with ia := toQ 28 a, ib := toQ 28 b, vdc := v, injVdc := (x.injVdc.1 - 1, x.injVdc.2) })
    ((s.putI (R.DRVn_IALPHA.VALUE n) (toQ 28 a)).putI (R.DRVn_IBETA.VALUE n) (toQ 28 b)).putI (R.DRVn_VDC.VALUE n) v

/-- The chopper (R675); what its level may be is applied with MIN_PULSE. -/
def State.chopper (s : State) (n : Nat) (bad : Bool) : State :=
  let x := s.drvAt n
  let fitted := C.DRVP0.BRAKE (s.drvP n) == 1 && s.on (R.DRVn_PROT_CTRL.CHOP_EN n)
  let sel := if bad then x.brkSel else if setI x.set 0x21C ≤ x.vdc then true else if x.vdc ≤ setI x.set 0x220 then false else x.brkSel
  let used := x.brkOn + (if s.on (R.DRVn_BRK_STAT.ON n) then s.now - x.brkAt else 0)
  let full := decide (setN x.set 0x224 2 * 1000000 ≤ used)
  let s := if fitted && full && !(s.on (R.DRVn_BRK_STAT.DUTY_LIMIT n)) then
      (s.flag (R.DRVn_BRK_STAT.DUTY_LIMIT n) true).drvIrq n 14 else s
  let want := fitted && sel && !(s.on (R.DRVn_BRK_STAT.DUTY_LIMIT n)) && !(s.on (R.DRVn_BRK_STAT.DISABLED n)) && !x.brkHeld &&
    !(x.bad.testBit 6)
  let s := s.modDrv n (fun y => { y with brkSel := sel && fitted })
  if want = s.on (R.DRVn_BRK_STAT.ON n) ∨ s.now < x.brkAt + s.drvMp n then s else s.brkTo n want

/-- VDC in mV. -/
def State.vdcMv (s : State) (n : Nat) : Nat :=
  let x := s.drvAt n
  (rdiv (x.vdc * (setN x.set 0x0C 4 : Nat)) 268435456).toNat

/-- R674: VDC beyond V_DC_LIM or below VDC_MIN on VDC_N consecutive decisions. -/
def State.vdcTests (s : State) (n : Nat) (bad : Bool) : State :=
  let x := s.drvAt n
  let st := s.drvSt n
  if bad ∨ st < 2 ∨ 7 < st then s
  else
    let hi := if s.vLim n x.set < x.vdc then x.nHigh + 1 else 0
    let lo := if x.vdc < setI x.set 0x228 then x.nLow + 1 else 0
    let k := max 1 (setN x.set 0x226 2)
    let s := s.modDrv n (fun y => { y with nHigh := hi, nLow := lo })
    let s := if k ≤ hi then s.drvTrip n 5 0 0x3C05 (s.vdcMv n) else s
    if k ≤ lo then s.drvTrip n 6 0 0x3C06 (s.vdcMv n) else s

/-- The snapshot registers (R659): latched at a bound instant, otherwise at each decision. -/
def State.drvSnap (s : State) (n : Nat) : State :=
  (((s.put (R.DRVn_SNAP_TE.VALUE n) (s.get (R.DRVn_TE.VALUE n))).put (R.DRVn_SNAP_W.VALUE n) (s.get (R.DRVn_W_EST.VALUE n))).put
    (R.DRVn_SNAP_VDC.VALUE n) (s.get (R.DRVn_VDC.VALUE n))).put (R.DRVn_SNAP_STAMP.VALUE n) s.stamp

/-- The angle of ψs; a free value for the zero vector. -/
def State.fluxAngle (s : State) (n : Nat) : State × Nat :=
  let x := s.drvAt n
  let (s, t) := match angleOf x.psa x.psb with
    | some t => (s, t)
    | none => (s.took 1, s.freeW)
  if x.injRot then (s.modDrv n (fun y => { y with injRot := false }), (t + 1073741824) % 4294967296) else (s, t)

/-- Values of the decision as registers show them. -/
def State.showFlux (s : State) (n t : Nat) : State :=
  let x := s.drvAt n
  let te := torqueOf x.psa x.psb x.ia x.ib
  let s := ((s.putI (R.DRVn_PSI_ALPHA.VALUE n) x.psa).putI (R.DRVn_PSI_BETA.VALUE n) x.psb).putI (R.DRVn_TE.VALUE n) te
  let s := (s.putI (R.DRVn_PSI_MAG.VALUE n) (clampInt 0 2147483647 (hypot x.psa x.psb))).put (R.DRVn_THETA.ANGLE n) t
  s.put (R.DRVn_VEC.SECTOR n) (sectorOf t)

/-- The four plausibility tests (R680): the state with its counters, and the tests declared, bit t − 1. -/
def State.losTests (s : State) (n t : Nat) (cma cmb psiRef : Int) (bad : Bool) : State × Nat :=
  let x := s.drvAt n
  let d := x.set
  let m := hypot x.psa x.psb
  let diff := signed 32 (wrapInt 32 ((t : Int) - x.theta))
  let lx := setF d 0x18
  let dm := ofQ 28 (hypot (x.psa - toQ 28 cma) (x.psb - toQ 28 cmb))
  let (s, res) := if lx = 0 then (s.took 1, signed 32 s.freeW) else (s, toQ 28 (fdiv dm lx))
  let s := s.putI (R.DRVn_RESID.VALUE n) res
  let s := s.modDrv n (fun y => { y with theta := t, since := y.since + 1 })
  if x.since + 1 < 256 ∨ bad then (s, 0)
  else
    let f1 := decide (4 * m < 3 * psiRef ∨ 5 * psiRef < 4 * m)
    let f2 := decide (4294967296 < 6 * diff.natAbs)
    let f3 := (s.on (R.DRVn_CTRL.CMODE n) && s.drvSt n == 5 || s.drvSt n == 6) && !x.limited &&
      decide (setI d 0x208 < ((x.wEst - x.ramp).natAbs : Nat))
    let f4 := decide (setI d 0x20C < res)
    let n1 := if f1 then x.nFlux + 1 else 0
    let n3 := if f3 then x.nSpeed + 1 else 0
    let n4 := if f4 then x.nRes + 1 else 0
    let s := s.modDrv n (fun y => { y with nFlux := n1, nSpeed := n3, nRes := n4 })
    (s, b2n (decide (setN d 0x205 1 ≤ n1 ∧ 0 < n1)) + 2 * b2n f2 + 4 * b2n (decide (setN d 0x206 1 ≤ n3 ∧ 0 < n3)) +
      8 * b2n (decide (setN d 0x207 1 ≤ n4 ∧ 0 < n4)))

/-- A loss of synchronism (R681). -/
def State.drvLos (s : State) (n tests : Nat) : State :=
  let s := ((s.put (R.DRVn_LOS.TESTS n) tests).inc (R.DRVn_LOS.COUNT n)).drvIrq n 9
  let k := s.get (R.DRVn_TRIP.RESTARTS n)
  if k < C.DRVP0.LOS_ACT (s.drvP n) then
    let s := (s.put (R.DRVn_TRIP.RESTARTS n) (k + 1)).report (s.drvBay n) 0x3C04 n (tests + 256 * (k + 1))
    ((s.modDrv n (fun x => { x with khReq := false })).drvTo n 4).catchStep n 1
  else s.drvTrip n 4 0 0x3C04 (tests + 256 * k)

/-- The comparators and the table: the state selected (R652, R653). -/
def State.drvSelect (s : State) (n t : Nat) (psiRef tref : Int) : State :=
  let x := s.drvAt n
  let beta : Int := (s.get (R.DRVn_BETA.BETA n) : Nat)
  let hp := toQ 28 (rdiv (setF x.set 0x50 * beta) 4096)
  let ht := toQ 28 (rdiv (setF x.set 0x4C * beta) 4096)
  let dp := fluxComp x.dpsi (hypot x.psa x.psb) psiRef hp
  let dt := torqueComp x.dt (tref - torqueOf x.psa x.psb x.ia x.ib) ht
  let v := tableVec (sectorOf t) dp dt x.s1
  let s := s.modDrv n (fun y => { y with dpsi := dp, dt := dt, sel := some v })
  (s.put (R.DRVn_VEC.DPSI_DT n) (b2n dp + 2 * b2n (dt != 0))).flag (R.DRVn_VEC.DT_NEG n) (dt == -1)

/-- The target of a deceleration follows a speed command; its end (R676). -/
def State.decelStep (s : State) (n : Nat) : State :=
  let x := s.drvAt n
  let sref := x.refs.getD 1 0
  let s := s.modDrv n (fun y => { y with target := if sref ≠ x.lastS then sref else y.target, lastS := sref })
  s

/-- After the control law: RUNNING at a nonzero target, READY at standstill (R676). -/
def State.decelEnd (s : State) (n : Nat) : State :=
  let x := s.drvAt n
  let s := s.putI (R.DRVn_RAMP.R n) x.ramp
  let s := s.putI (R.DRVn_TARGET.TGT n) x.target
  if s.drvSt n ≠ 6 then s
  else if x.target ≠ 0 ∧ x.ramp = x.target then s.toRunning n
  else if x.target = 0 ∧ x.ramp = 0 ∧ (x.wEst.natAbs : Int) ≤ setI x.set 0x238 then (s.toReady n).drvIrq n 11
  else s

/-- A decision in RUNNING, DECELERATING or KINETIC_HOLD. -/
def State.drvRun (s : State) (n : Nat) (bad : Bool) : State :=
  let x := s.drvAt n
  let v := if bad then ofQ 28 x.vdc else ofQ 28 (s.vdcNow n)
  let (s, cma, cmb) := s.observe n v
  let s := s.takeMeas n bad
  let (s, t) := s.fluxAngle n
  let s := (s.pll n).showFlux n t
  let tg := s.genLimit n
  let s := s.putI (R.DRVn_GEN_LIM.TG n) tg
  let psiRef := s.fluxRef n
  let s := s.modDrv n (fun y => { y with psiRef := psiRef })
  let s := if s.drvSt n = 6 then s.decelStep n else s.modDrv n (fun y => { y with lastS := y.refs.getD 1 0 })
  let (s, tref) := if bad then (s, x.torque) else s.torqueRef n tg
  let s := s.flag (R.DRVn_GEN_STAT.LIM_GEN n) (s.drvAt n).atGen
  let (s, los) := s.losTests n t cma cmb psiRef bad
  let s := if bad then s.modDrv n (fun y => { y with sel := some y.s1 }) else s.drvSelect n t psiRef tref
  let s := s.modDrv n (fun y => { y with win := y.win + 1 })
  let s := s.decelEnd n
  let s := s.showDrv n
  if los ≠ 0 ∧ 5 ≤ s.drvSt n ∧ s.drvSt n ≤ 7 then s.drvLos n los else s

/-- A decision in MAGNETIZING (R665). -/
def State.drvMagnetize (s : State) (n : Nat) (bad : Bool) : State :=
  let s := s.takeMeas n bad
  let x := s.drvAt n
  let d := x.set
  if x.stopReq then s.toReady n
  else if bad then s.modDrv n (fun y => { y with sel := some y.s1 })
  else
    let tau : Int := (setN d 0x28 4 : Nat)
    let goal := fmul (fmul (setF d 0x24) (setF d 0x20)) (ofQ 28 x.ia)
    let (s, act) := if tau = 0 then (s.took 1, ofQ 28 (signed 32 s.freeW))
      else (s, ofQ 28 x.act + rdiv (fmul (s.decT n) (goal - ofQ 28 x.act) * 1000000) tau)
    let lx := setF d 0x18
    let ca := toQ 28 (act + fmul lx (ofQ 28 x.ia))
    let cb := toQ 28 (fmul lx (ofQ 28 x.ib))
    let s := s.modDrv n (fun y => { y with act := toQ 28 act })
    if (setN d 0x82 2 : Nat) * setI d 0x2C ≤ 100 * hypot ca cb then
      (s.modDrv n (fun y => { y with psa := ca, psb := cb, thetaPll := 0, sel := some y.s1 })).toRunning n
    else
      let avg := rdiv (2 * ofQ 28 x.vdc * ((x.magOn + 1 : Nat) : Int)) (3 * (x.magN + 1 : Nat))
      let on := decide (x.ia < setI d 0x7C) && decide (avg ≤ setF d 0x84)
      s.modDrv n (fun y => { y with magN := y.magN + 1, magOn := if on then y.magOn + 1 else y.magOn
                                    sel := some (if on then 4 else zeroAfter y.s1) })

/-- The vector that the decision selected, applied in the states that run (R637). -/
def State.applySel (s : State) (n : Nat) : State :=
  match (s.drvAt n).sel with
  | some v => if s.drvSt n = 3 ∨ (5 ≤ s.drvSt n ∧ s.drvSt n ≤ 7) then s.applyVec n v else s
  | none => s

/-- The decision of a unit, evaluated in its state. -/
def State.decision (s : State) (n : Nat) (bad : Bool) : State :=
  let st := s.drvSt n
  if 5 ≤ st ∧ st ≤ 7 then s.drvRun n bad else if st = 3 then s.drvMagnetize n bad
  else
    let t := s.takeMeas n bad
    if st = 4 then t.putI (R.DRVn_GEN_LIM.TG n) (t.genLimit n) else t

/-- DECISION_APPLY: the decision evaluated, and its state at the gate logic (R637 t1 to t3). -/
def execDecisionApply (n : Nat) (s : State) : Host.Outcome State Fault Refusal :=
  answer (if s.drvTicks n = false then s
  else if (s.drvAt n).coast then (s.modDrv n (fun x => { x with coast := false })).toReady n
  else
    let bad := s.measBad n
    let s := (((s.decision n bad).vdcTests n bad).chopper n bad).applySel n
    if s.get (R.DRVn_CIO.CIO_SNAP n) / 128 = 1 then s else s.drvSnap n)

/-- DEAD_TIME_END of a leg (R633). -/
def execDeadTimeEnd (n i : Nat) (s : State) : Host.Outcome State Fault Refusal :=
  answer (s.modDrv n (fun x => { x with legs := updAt x.legs i (fun l =>
    match l.dead with
    | some v => if v then { l with hi := true, hiAt := s.now, dead := none } else { l with lo := true, loAt := s.now, dead := none }
    | none => l) }))

/-- LEG_CHANGE_DEFERRED: the deferred value takes effect once MIN_PULSE is met (R634). -/
def execLegChangeDeferred (n i : Nat) (s : State) : Host.Outcome State Fault Refusal :=
  let l := (s.drvAt n).legs.getD i Leg.cold
  answer (match l.want with
  | some v => if legOk (s.drvMp n) (s.drvDead n) s.now l v then s.legChange n i v else s
  | none => s)

/-- BAND_WINDOW_END (R654). -/
def execBandWindowEnd (n : Nat) (s : State) : Host.Outcome State Fault Refusal :=
  let x := s.drvAt n
  answer (if x.win < 256 then s
  else
    let p := C.DRVP0.DEC_PERIOD (s.drvP n)
    let tgt : Int := (setN x.set 0x54 4 : Nat)
    let den : Int := (6144 * p : Nat)
    let s := s.put (R.DRVn_FSW.HZ n) (rdiv ((x.ntr * 1000000000 : Nat) : Int) (max 1 den)).toNat
    let s := s.modDrv n (fun y => { y with ntr := 0, win := 0 })
    if s.on (R.DRVn_CTRL.BAND_ADAPT n) = false ∨ tgt * den = 0 then s
    else
      let b : Int := (s.get (R.DRVn_BETA.BETA n) : Nat)
      let kb : Int := (setN x.set 0x58 2 : Nat)
      let b' := rdiv (b * (32768 * tgt * den + kb * ((x.ntr * 1000000000 : Nat) - tgt * den))) (32768 * tgt * den)
      let lo : Int := (setN x.set 0x5A 2 : Nat)
      let hi : Int := (setN x.set 0x5C 2 : Nat)
      let c := clampInt lo hi b'
      let lim := decide (c = lo ∨ c = hi)
      let s := if lim && !(s.on (R.DRVn_STATE.BAND_AT_LIMIT n)) then s.drvIrq n 4 else s
      (s.put (R.DRVn_BETA.BETA n) c.toNat).flag (R.DRVn_STATE.BAND_AT_LIMIT n) lim)

/-! ### Position test, magnetization, catch-spin (R664, R665, R682) -/

/-- cos and sin of a vector's angle and of twice it, with 60 fraction bits. -/
def vecDir (v : Nat) : Int × Int × Int × Int :=
  let h := one60 / 2
  let r := sqrt3 / 2
  if v = 1 then (one60, 0, one60, 0) else if v = 2 then (h, r, -h, r) else if v = 3 then (-h, r, -h, -r)
  else if v = 4 then (-one60, 0, one60, 0) else if v = 5 then (-h, -r, -h, r) else (h, -r, -h, -r)

/-- The contrast |A2| ÷ Σ(1 ÷ t) in Q3.28, and the rotor angle, none where A2 is zero. -/
def rotorAxis (rises : List Nat) : Int × Option Nat :=
  let l := (testVecs.zip rises).map (fun p => (vecDir p.1, rdiv one60 (max 1 p.2 : Nat)))
  let sum := fun (f : Int × Int × Int × Int → Int) => (l.map (fun p => fmul (f p.1) p.2)).foldl (· + ·) 0
  let a1 := (sum (fun d => d.1), sum (fun d => d.2.1))
  let a2 := (sum (fun d => d.2.2.1), sum (fun d => d.2.2.2))
  let tot := (l.map (fun p => p.2)).foldl (· + ·) 0
  let con := if tot = 0 then 0 else toQ 28 (fdiv (hypot a2.1 a2.2) tot)
  match angleOf a2.1 a2.2 with
  | none => (con, none)
  | some t =>
    let ax := t / 2
    match angleOf a1.1 a1.2 with
    | none => (con, some ax)
    | some u =>
      let d := (signed 32 (wrapInt 32 ((u : Int) - ax))).natAbs
      (con, some (if d ≤ 1073741824 then ax else (ax + 2147483648) % 4294967296))

/-- ψs of a magnitude at an angle, and the PLL with it. -/
def State.setFlux (s : State) (n : Nat) (m : Int) (t : Nat) : State :=
  s.modDrv n (fun x => { x with psa := toQ 28 (fmul m (cosSin t).1), psb := toQ 28 (fmul m (cosSin t).2), thetaPll := t, theta := t })

/-- The six pulses evaluated (R664). -/
def State.testEval (s : State) (n : Nat) : State :=
  let x := s.drvAt n
  let (con, ax) := rotorAxis x.rises
  if con < setI x.set 0x78 then s.startFail n 1
  else
    let (s, t) := match ax with | some t => (s, t) | none => (s.took 1, s.freeW)
    let s := (s.modDrv n (fun y => { y with pulse := none })).setFlux n (setF x.set 0x20) t
    if s.drvSt n = 4 then (s.gatesOff n).modDrv n (fun y => { y with step := 5 })
    else s.toRunning n

/-- The opposite vector and the zero vector that follow a pulse end by time; then the next pulse, or the evaluation; a STOP
ends the test once a vector has ended (R664, R667). -/
def State.testTick (s : State) (n : Nat) : State :=
  let x := s.drvAt n
  match x.pulse with
  | none => s
  | some m =>
    if x.phase = 0 ∨ s.now < x.phaseEnd then s
    else if s.drvSt n = 2 ∧ x.stopReq then s.toReady n
    else if x.phase = 1 then
      (s.applyVec n (zeroAfter x.s1)).modDrv n (fun y => { y with phase := 2, phaseEnd := s.now + 1000 * setN x.set 0x76 2 })
    else if m < 5 then s.testPulse n (m + 1)
    else s.testEval n

/-- POSITION_TEST_PULSE: the pulse ends after `rise` ns, at its current or at PT_TMAX (`limit`); the opposite vector follows
for the same time (R664). -/
def execPositionTestPulse (n rise : Nat) (limit : Bool) (s : State) : Host.Outcome State Fault Refusal :=
  let x := s.drvAt n
  answer (if x.pulse.isNone ∨ x.phase ≠ 0 then s
  else if s.drvSt n = 2 ∧ x.stopReq then s.toReady n
  else if limit then s.startFail n 3
  else
    (s.applyVec n (7 - x.s1)).modDrv n (fun y => { y with rises := y.rises ++ [rise], phase := 1, phaseEnd := s.now + rise }))

/-- MAG_TIME_EXPIRY (R665). -/
def execMagTimeExpiry (n : Nat) (s : State) : Host.Outcome State Fault Refusal :=
  answer (if s.drvSt n = 3 then s.startFail n 2 else s)

/-- ns from now to the next decision tick. -/
def State.toTick (s : State) (n : Nat) : Nat :=
  let p := max 1 (4 * C.DRVP0.DEC_PERIOD (s.drvP n))
  p - (s.now - (s.drvAt n).lastTick) % p

/-- Steps 4 and 5 of the catch-spin, with i2 (R682). -/
def State.catchEval (s : State) (n : Nat) (a b : Int) : State :=
  let x := s.drvAt n
  let d := x.set
  let s := s.gatesOff n
  let min_ := setI d 0x218
  match angleOf x.i1.1 x.i1.2, angleOf a b with
  | some t1, some t2 =>
    if min_ ≤ hypot x.i1.1 x.i1.2 ∧ min_ ≤ hypot a b then
      let th1 := t1 + 2147483648
      let th2 := t2 + 2147483648
      let dth := signed 32 (wrapInt 32 ((th2 : Int) - th1))
      let gap : Int := (max 1 (setN d 0x216 2) : Nat)
      let fb : Int := (max 1 (setN d 0x10 4) : Nat)
      -- turns ÷ µs × 10^9 ÷ mHz: pu
      let w := rdiv (rdiv (dth * one60) 4294967296 * 1000000000) (gap * fb)
      let adv := rdiv (dth * (s.toTick n : Nat)) (gap * 1000)
      let t := wrapInt 32 ((th2 : Int) - 1073741824 + adv)
      let wq := toQ 28 w
      let (s, m) := if setN d 5 1 = 0 then (s, setF d 0x20)
        else if w = 0 then (s.took 1, ofQ 28 (signed 32 s.freeW))
        else
          let base := rdiv (twoPi60 * fb * (max 1 (setN d 0x214 2) : Nat)) 1000000000
          (s, fdiv (fdiv (fmul (setF d 0x18) (ofQ 28 (hypot a b))) base) (if w < 0 then -w else w))
      (s.setFlux n m t).modDrv n (fun y => { y with
        integ := wq, wHat := wq, wEst := wq, ramp := wq, act := toQ 28 m, step := 5 })
    else if setN d 5 1 = 0 then s.testPulse n 0 else s.startFail n 4
  | _, _ => if setN d 5 1 = 0 then s.testPulse n 0 else s.startFail n 4

/-- CATCH_SPIN_STEP: the present step ends, with the current vector at its end (R682). -/
def execCatchSpinStep (n : Nat) (a b : Int) (s : State) : Host.Outcome State Fault Refusal :=
  let k := (s.drvAt n).step
  answer (if s.drvSt n ≠ 4 ∨ (s.drvAt n).pulse.isSome then s
  else if k = 1 then s.catchStep n 2
  else if k = 2 then (s.modDrv n (fun x => { x with i1 := (a, b) })).catchStep n 3
  else if k = 3 then s.catchStep n 4
  else if k = 4 then s.catchEval n a b
  else s)

/-- The PARKED drive units of a bay at its takeover edge (R672). -/
def State.takeDrvs (s : State) (b : Nat) : State :=
  s.forEach (s.drvsOf b) (fun n t =>
    if t.drvSt n = 9 then
      (if t.on (R.DRVn_PROT_CTRL.TAKEOVER_CS n) then (((t.modDrv n DrvUnit.fresh_).drvTo n 4).catchStep n 2).drvRail n else t.toReady n)
    else t)

/-- TAKEOVER_EDGE of a bay (R579, R672). -/
def execTakeoverEdge (b : Nat) (s : State) : Host.Outcome State Fault Refusal :=
  answer (if s.link.vdt.taking.testBit b then
    ((s.modVdt (fun v => { v with taking := clrBit v.taking b })).setRole b 2).takeDrvs b
  else s)

/-- TAKE: the edge on which the bay becomes ACTIVE is its takeover edge for the drive units (R581, R672). -/
def State.takeOver (t : State) (b : Nat) : State :=
  if t.roleOf b = 5 && !(t.on R.VDT_STATUS.PARTNER && t.link.vdt.pActive.testBit b) then (t.claimBay b).takeDrvs b
  else t.flag (R.VDTn_CMD.REFUSED b) true

def execVdtTake (by_ : Init) (b : Nat) (s : State) : Host.Outcome State Fault Refusal :=
  answer (s.byVdtPage by_ b (R.VDTn_CMD.TAKE b).addr (fun t => t.takeOver b))

/-- LOS_CLEAR_EXPIRY (R681). -/
def execLosClearExpiry (n : Nat) (s : State) : Host.Outcome State Fault Refusal :=
  answer (if s.drvSt n = 5 then s.put (R.DRVn_TRIP.RESTARTS n) 0 else s)

/-! ### Protection (R669, R675, R683 to R685) -/

/-- A filtered trip input, bit `k`: OCP A to C, FLT, DSAT A to C, as DRVn_TRIP.ACTIVE shows them. -/
def State.tripInput (s : State) (n k : Nat) (on : Bool) : State :=
  let s := s.modDrv n (fun x => { x with inputs := if on then setBit x.inputs k else clrBit x.inputs k })
  s.flag (R.DRVn_TRIP.ACTIVE n) ((s.drvAt n).inputs != 0)

/-- OVERCURRENT_TRIP: the filtered comparator of a leg, beyond OCP_HI (`above`) or OCP_LO (R683). -/
def execOvercurrentTrip (n leg : Nat) (active above : Bool) (s : State) : Host.Outcome State Fault Refusal :=
  answer (if (active = true ∧ (s.drvSt n = 0 ∨ s.drvSt n = 9)) ∨ 3 ≤ leg then s
  else
    let s := (s.putB (R.DRVn_PROT_LIVE.OCP n) leg active).tripInput n leg active
    if active then s.drvTrip n 1 leg 0x3C01 (leg + 4 * b2n above) else s)

/-- GATE_DRIVER_FAULT: DRVn_FLTn low, or high again (R684). -/
def execGateDriverFault (n : Nat) (low : Bool) (s : State) : Host.Outcome State Fault Refusal :=
  let st := s.drvSt n
  answer (
    let s := (s.flag (R.DRVn_PROT_LIVE.FLT n) low).tripInput n 3 low
    if low && decide (2 ≤ st ∧ st ≤ 7) then
      ((s.brkTo n false).modDrv n (fun x => { x with brkHeld := true })).drvTrip n 2 0 0x3C02 st
    else s)

/-- DESATURATION: a DSAT input, leg 3 for BRK (R684). -/
def execDesaturation (n leg : Nat) (active : Bool) (s : State) : Host.Outcome State Fault Refusal :=
  answer (if 4 ≤ leg then s
  else
    let s := s.putB (R.DRVn_PROT_LIVE.DSAT n) leg active
    if leg = 3 then
      (if active then ((s.brkTo n false).flag (R.DRVn_BRK_STAT.DISABLED n) true).report (s.drvBay n) 0x3C03 n 3 else s)
    else
      let s := s.tripInput n (4 + leg) active
      if active then s.drvTrip n 3 leg 0x3C03 leg else s)

/-- GATE_READBACK_MISMATCH: output 0 to 5 GAH to GCL, 6 BRK, 7 GEN (R669). -/
def execGateReadbackMismatch (n out : Nat) (level : Bool) (s : State) : Host.Outcome State Fault Refusal :=
  answer (if (s.drvRec n).isNone ∨ 8 ≤ out ∨ s.railIsLow 4 then s
  else
    let s := (s.modDrv n (fun x => { x with bad := setBit x.bad out })).mismatchTrip n
    s.report (s.drvBay n) 0x3C07 n (out + 256 * b2n level))

/-- TRIP_CLEAR (R684, R685). -/
def State.tripClear (t : State) (n : Nat) : State :=
  if t.drvSt n = 8 ∧ t.on (R.DRVn_TRIP.ACTIVE n) = false then
    ((t.modDrv n (fun x => { x with brkHeld := false })).put (R.DRVn_TRIP.SOURCE n) 0).toReady n
  else t

def execTripClear (by_ : Init) (n : Nat) (s : State) : Host.Outcome State Fault Refusal :=
  answer (s.byOwner by_ (24 + n) (R.DRVn_PROT_CTRL.TRIP_CLEAR n).addr (fun t => t.tripClear n))

/-- CHOPPER_DUTY_INTERVAL (R675). -/
def execChopperDutyInterval (n : Nat) (s : State) : Host.Outcome State Fault Refusal :=
  let x := s.drvAt n
  let on := s.on (R.DRVn_BRK_STAT.ON n)
  let used := x.brkOn + (if on then s.now - x.brkAt else 0)
  answer (((s.put (R.DRVn_BRK_STAT.DUTY n) (min 1000 (used / 1000000))).flag (R.DRVn_BRK_STAT.DUTY_LIMIT n) false).modDrv n
    (fun y => { y with brkOn := 0, brkFrom := s.now, brkAt := if on then s.now else y.brkAt }))

/-! ### Kinetic hold, as SUP commands it (R678, R679) -/

def State.khEnter (s : State) (n : Nat) : State :=
  if s.khAvail n ∧ s.drvSt n ≠ 7 then s.modDrv n (fun x => { x with khReq := true }) else s

def State.khExit (s : State) (n : Nat) : State :=
  let s := s.modDrv n (fun x => { x with khReq := false })
  if s.drvSt n = 7 then
    ((s.modDrv n (fun x => { x with ramp := x.wEst, speed := true, spdI := x.torque, atGen := false })).drvTo n (s.drvAt n).khFrom)
  else s

end Sys2Proof.Machine
end

