-- ==== Sys2Proof/Machine/Wake.lean ====
section
/-! DEFINITION.
Wake events, and the way back from a power entry (R189 to R193, R201, R202). -/

namespace Sys2Proof.Machine

/-- Drive units that a SLEEP entry parked are in READY again (R672). -/
def State.unparkDrvs (s : State) : State :=
  s.forEach [0, 1] (fun n t => if t.drvSt n = 9 then t.toReady n else t)

/-- Lanes restart, pins pass from park to function, cores and drives resume (R189, R192 t3). -/
def State.resume (s : State) : State :=
  let s := { s with sys := { s.sys with phase := .run, parked := false, lanesIdle := false } }
  let s := (s.flag R.VDT_STATUS.ALIVE_OUT (s.on R.VDT_STATUS.PAIR_EN && !(s.on R.VDT_CTRL.SELF_FAULT))).showOwn
  (s.forEach (indices 8 (fun b => s.live b)) (fun b t => t.unparkBayPins b)).unparkDrvs

/-- A power entry cancelled before its commit point, with its REFUSE code (R188, R189, R193, R202). -/
def State.cancelEntry (s : State) (refuse : Nat) : State :=
  let s := ((s.put R.SYS_PWR_STAT.REFUSE refuse).flag R.SYS_PWR_STAT.BUSY false).flag R.SYS_IRQ_PEND.PWR_REFUSED true
  if s.sys.phase = .sleepDrain then s.setPhase .run
  else if s.sys.phase = .sleepParked ∨ s.sys.phase = .offParked then s.resume else s

/-- Whether a power entry has begun and not passed its commit point. -/
def State.entering (s : State) : Bool :=
  s.sys.phase == .sleepDrain || s.sys.phase == .sleepParked || s.sys.phase == .offParked

/-- A wake event with its LAST_WAKE code: it cancels an entry before its commit point, wakes from SLEEP or OFF after it
(R189, R191 to R193, R196, R201, R202). -/
def State.wakeEvent (s : State) (code : Nat) : State :=
  if s.entering then s.cancelEntry 6
  else if s.sys.phase = .sleepStopped ∨ s.sys.phase = .sleep then
    let k := match s.sys.wake with | some c => min c code | none => code
    let s := { s with sys := { s.sys with wake := some k, wakeLeft := 0 } }
    ((s.put R.SYS_PWR_STAT.LAST_WAKE k).flag R.SYS_PWR_STAT.FROM_OFF false).put R.SYS_WAKE_TIMER.UNITS 0
  else if s.sys.phase = .off ∧ (code = 2 ∨ code = 3) then
    let k := match s.sys.wake with | some c => min c code | none => code
    let s := { s with sys := { s.sys with wake := some k, wakeLeft := 0 } }
    ((s.put R.SYS_PWR_STAT.LAST_WAKE k).flag R.SYS_PWR_STAT.FROM_OFF true).put R.SYS_WAKE_TIMER.UNITS 0
  else s

end Sys2Proof.Machine
end

