-- ==== Sys2Proof/Machine/Sup.lean ====
section
/-! DEFINITION.
Supply supervision: measurement, classification, the ride-through actions and learning (chapter 20). -/

namespace Sys2Proof.Machine

def State.supX (s : State) : SupPart := s.ana.sup
def State.modSup (s : State) (f : SupPart → SupPart) : State := { s with ana := { s.ana with sup := f s.ana.sup } }
def State.supSt (s : State) : Nat := s.get R.SUP_STATE.STATE
def State.supClass (s : State) : Nat := s.get R.SUP_STATE.CLASS
def State.supIrq (s : State) (f : Fld) : State := s.flag f true

/-- 2^32: Vn carries 32 fraction bits. -/
def q32 : Int := 4294967296

/-! ### The source (R724, R730, R732, R733) -/

def State.supKind (s : State) : Bool := s.on R.SUP_CFG.SRC_KIND
def State.supCh (s : State) : Nat := s.get R.SUP_CFG.SRC_CH
def State.supAc (s : State) : Bool := s.get R.SUP_CFG.LINE != 0

/-- Whether the codes of the source are signed: an SDM input or a differential pair. -/
def State.supSigned (s : State) : Bool := !(s.supKind) || s.adcDiff (s.supCh / 6) (s.supCh % 6)

/-- A code as a line value in mV (R724). -/
def State.supMv (s : State) (code : Nat) : Int :=
  let sc : Int := s.get R.SUP_SCALE.MV
  if s.supSigned then rdiv (signed 16 code * sc) 32768 else rdiv ((code : Int) * sc) 65536

def State.supSrcEn (s : State) : Bool :=
  if s.supKind then s.on (R.ADCn_CTRL.EN (s.supCh / 6)) else s.on (R.SDMn_CTRL.EN s.supCh)

def State.gapN (s : State) : Nat := max 1 (s.get R.SUP_DETECT.GAP_N)
def State.hyst (s : State) : Nat := max 1 (s.get R.SUP_DETECT.HYST_PCT)

/-- t_det in half nanoseconds for a GAP_N (R730). -/
def State.tDet2 (s : State) (n : Nat) : Nat :=
  if s.supKind then 2 * (n * 2000 + 1220)
  else (clampNat 1 3 (s.get (R.SDMn_CTRL.CMP_ORD s.supCh)) + n) * clampNat 4 32 (s.get (R.SDMn_CTRL.CMP_OSR s.supCh)) * s.sdmDiv + 48

/-- The conditions of SRC_BAD as DETAIL of 0x4405 names them (R733, R755). -/
def State.srcBits (s : State) : Nat :=
  let deg := if s.supKind then s.on (R.ADCn_CTRL.DEGRADED (s.supCh / 6)) else s.on (R.SDMn_OVR.DEGRADED s.supCh)
  let stuck := (!(s.supKind) && (s.sdmAt s.supCh).stuck) || decide (s.now < s.supX.forceStuck)
  b2n (!(s.supSrcEn)) + 2 * b2n deg + 4 * b2n stuck + 8 * b2n s.supX.freqBad + 16 * b2n s.supX.late

/-- SRC_BAD follows its conditions while classification is on; its rising edge raises 0x4405 (R732, R733). -/
def State.supSource (s : State) : State :=
  let en := s.on R.SUP_CTRL.EN
  let s := if en && s.supSrcEn then s.modSup (fun x => { x with late := decide (40000 < s.tDet2 s.gapN) }) else s
  let d := if en then s.srcBits else 0
  let was := s.on R.SUP_STATE.SRC_BAD
  let s := s.flag R.SUP_STATE.SRC_BAD (d != 0)
  if d ≠ 0 ∧ was = false then
    ((s.modSup (fun x => { x with runGap := 0, runClear := 0 })).supIrq R.SUP_IRQ_PEND.SRC_BAD).report 0 0x4405 0 d
  else s

/-! ### Dew and the start inhibit (R745, R746) -/

/-- Linked film channels. -/
def State.linked (s : State) : List Nat := indices 8 (fun n => s.on (R.SNSn_CFG.DEW_LINK n))

/-- Whether a linked index stands at or above its DEW_INDEX, `back` below it counted too. -/
def State.dewAt (s : State) (back n : Nat) : Bool :=
  !(s.on (R.SNSn_STAT.FI_VALID n)) || decide (s.get (R.SNSn_CFG.DEW_INDEX n) ≤ s.get (R.SNSn_FILM_IDX.FI n) + back)

def State.supDew (s : State) : State :=
  if s.on R.SUP_STATE.DEW = false ∧ (s.linked.any (s.dewAt 0)) then
    (s.flag R.SUP_STATE.DEW true).supIrq R.SUP_IRQ_PEND.DEW_CHG
  else s

/-- The start inhibit to the drives of INHIBIT_DRV (R745). -/
def State.supInhibit (s : State) : State :=
  let on := s.has .supp && (s.supSt != 0 || s.on R.SUP_STATE.SRC_BAD || !(s.on R.SUP_CTRL.EN) || s.on R.SUP_STATE.DEW ||
    s.on R.SUP_CTRL.INHIBIT_SW)
  (s.flag R.SUP_STATE.INHIBIT on).forEach [0, 1] (fun n t =>
    t.flag (R.DRVn_STATE.INHIBIT n) (on && (t.get R.SUP_CFG.INHIBIT_DRV).testBit n))

/-! ### Shedding order, shed and restore (R737, R738, R741, R742) -/

def State.groupRec (s : State) (g : Nat) : Option (List Byte) := (s.recs .supp 1).find? (fun r => C.SUPP1.GROUP r == g)

/-- r_g (R738). -/
def State.rank (s : State) (g : Nat) : Nat :=
  match s.groupRec g with
  | none => 0
  | some r =>
    let d : Int := if (s.get R.SUP_CFG.LEARN).testBit 1 then s.supX.delta.getD g 0 else 0
    (clampInt 0 7 ((C.SUPP1.ORDER_INIT r : Int) + d)).toNat

def State.showRank (s : State) : State :=
  let s := s.put R.SUP_RANK.RANK ((List.range 8).foldl (fun m g => m + s.rank g * 16 ^ g) 0)
  s

/-- The first group in shedding order among those that `p` admits. -/
def State.firstGroup (s : State) (p : Nat → Bool) : Option Nat :=
  let key := fun g => 65536 * s.rank g + 256 * (match s.groupRec g with | some r => C.SUPP1.ORDER_INIT r | none => 0) + g
  (indices 8 (fun g => (s.groupRec g).isSome && p g)).foldl (fun m g =>
    match m with
    | none => some g
    | some h => if key g < key h then some g else m) none

/-- The next group to shed: not shed and not unavailable. -/
def State.nextShed (s : State) : Option Nat :=
  s.firstGroup (fun g => !(s.bit R.SUP_STATE.SHED g) && !(s.bit R.SUP_STATE.UNAVAIL g))

/-- The pin of a group driven to its shed level, or handed back. -/
def State.shedPin (s : State) (g : Nat) (on : Bool) : State :=
  match s.groupRec g with
  | none => s
  | some r =>
    let p := C.SUPP1.PIN r
    let lv := C.SUPP1.SHED_LEVEL r != 0
    { s with pin := { s.pin with
        shed := if on then setBit s.pin.shed p else clrBit s.pin.shed p
        shedLevel := if lv then setBit s.pin.shedLevel p else clrBit s.pin.shedLevel p } }

/-- A shed or a restore spoils the measurement of another group within its interval (R739). -/
def State.supMoved (s : State) : State := s.modSup (fun x => { x with movedAt := some s.now, cand := none })

/-- A group shed; measured where the kinetic set has held for 1 ms and no other group moved within it (R739). -/
def State.shedGroup (s : State) (g : Nat) : State :=
  let x := s.supX
  let alone := match x.movedAt with | none => true | some m => decide (m + 1000000 < s.now)
  let c := if s.get R.SUP_STATE.KH_SET != 0 && decide (x.khAt + 1000000 ≤ s.now) && alone && (s.get R.SUP_CFG.LEARN).testBit 1 then some (g, s.now) else none
  (((s.shedPin g true).setB R.SUP_STATE.SHED g).supMoved).modSup (fun y => { y with order := g :: y.order, cand := c })

def State.shedNext (s : State) : State :=
  match s.nextShed with
  | some g => s.shedGroup g
  | none => s

/-- Every remaining group shed. -/
def State.shedAll (s : State) : State := s.forEach (List.range 8) (fun _ t => t.shedNext)

/-- The group shed last handed back; unavailable ones are passed over. -/
def State.restoreLast (s : State) : State :=
  match s.supX.order.find? (fun g => s.bit R.SUP_STATE.SHED g && !(s.bit R.SUP_STATE.UNAVAIL g)) with
  | none => s
  | some g => (((s.shedPin g false).clrB R.SUP_STATE.SHED g).supMoved).modSup (fun x => { x with order := x.order.filter (fun h => h != g) })

/-- Whether a group is left to restore. -/
def State.shedLeft (s : State) : Bool :=
  s.supX.order.any (fun g => s.bit R.SUP_STATE.SHED g && !(s.bit R.SUP_STATE.UNAVAIL g))

/-! ### Learned data in LP10 (R747, R748) -/

def State.vnMv (s : State) : Nat := ((2 * s.supX.vn + 4294967296) / 8589934592)

def State.orderCrc (s : State) : Nat := crc32c ((s.recs .supp 1).flatten)

/-- The 4,096 bytes of LP10. -/
def State.lp10 (s : State) : List Byte :=
  let x := s.supX
  let g := fun k => toLE 1 (wrapInt 8 (x.delta.getD k 0)) ++ toLE 1 (min 255 (x.count.getD k 0)) ++ [0, 0] ++ toLE 4 (s.get (R.SUP_DPg.W k))
  let body := toLE 4 0x4C505553 ++ [1, 0, 0, 0] ++ toLE 4 (s.get R.SUP_NOMINAL.MV) ++ toLE 4 s.orderCrc ++ toLE 4 s.vnMv ++
    toLE 4 (min 0xFFFFFFFF x.stays) ++ List.replicate 8 0 ++ (List.range 8).flatMap g ++ List.replicate 3996 0
  body ++ toLE 4 (crc32c body)

/-- LP10 written if the last write is 60 s old; else the write stays due (R748). -/
def State.lpWrite (s : State) : State :=
  let x := s.supX
  let free := match x.lpAt with | none => true | some t => decide (t + 60000000000 ≤ s.now)
  if free && !(s.memx.pgWrites.any (fun w => w.lpage == 10)) then
    let t := s.modSup (fun y => { y with lpDue := false, lpAt := some s.now, lpVn := s.vnMv })
    match t.startPage 10 t.lp10 false false with
    | some u => u
    | none => s.modSup (fun y => { y with lpDue := true })
  else s.modSup (fun y => { y with lpDue := true })

def State.setVn (s : State) (v : Nat) : State :=
  let s := s.modSup (fun x => { x with vn := v })
  s.put R.SUP_VN.MV s.vnMv

/-- SUP on the apply edge: BS fields, learned data, start values (R748, R756). -/
def State.applySup (s : State) : State :=
  if s.has .supp = false then s
  else
    let r := s.rec1 .supp 0
    let s := ((s.put R.SUP_CFG.SRC_KIND (C.SUPP0.SRC_KIND r)).put R.SUP_CFG.SRC_CH (C.SUPP0.SRC_CH r)).put R.SUP_CFG.LINE (C.SUPP0.LINE r)
    let s := ((s.put R.SUP_CFG.LEARN (C.SUPP0.LEARN r)).put R.SUP_CFG.LEARN_BOUND (C.SUPP0.LEARN_BOUND r)).put R.SUP_CFG.KH_DRV (C.SUPP0.KH_DRV r)
    let s := (s.put R.SUP_CFG.INHIBIT_DRV (C.SUPP0.INHIBIT_DRV r)).put R.SUP_CFG.NOTIFY_BAYS (C.SUPP0.NOTIFY_BAYS r)
    let s := (s.put R.SUP_NOMINAL.MV (C.SUPP0.NOMINAL r)).put R.SUP_SCALE.MV (C.SUPP0.SCALE r)
    let s := ((s.put R.SUP_PCT.DIP (C.SUPP0.DIP_PCT r)).put R.SUP_PCT.GAP (C.SUPP0.GAP_PCT r)).put R.SUP_PCT.SURGE (C.SUPP0.SURGE_PCT r)
    let s := s.put R.SUP_HOLD.MS (C.SUPP0.HOLD_MS r)
    let d := nvmBytes s.nvm (lpBase 10) 4096
    let ok := (s.pageOf 10).isSome && leAt d 0 4 == 0x4C505553 && leAt d 4 1 == 1 && leAt d 0xFFC 4 == crc32c (slice d 0 0xFFC) &&
      leAt d 8 4 == s.get R.SUP_NOMINAL.MV && leAt d 12 4 == s.orderCrc
    let nom := C.SUPP0.NOMINAL r
    let vn := if ok ∧ (C.SUPP0.LEARN r).testBit 0 then leAt d 0x10 4 else nom
    let s := s.modSup (fun _ => { SupPart.cold with
      delta := (List.range 8).map (fun g => if ok then signed 8 (leAt d (0x20 + 8 * g) 1) else 0)
      count := (List.range 8).map (fun g => if ok then leAt d (0x21 + 8 * g) 1 else 0)
      stays := if ok then leAt d 0x14 4 else 0, lpVn := vn })
    let s := s.forEach (List.range 8) (fun g t => t.put (R.SUP_DPg.W g) (if ok then leAt d (0x24 + 8 * g) 4 else 0))
    (((s.setVn (vn * 4294967296)).showRank).supDew).supInhibit

/-! ### Queues (R743) -/

/-- The queues of SUPP table 2 gated, or opened again: what waited starts (R376). -/
def State.supGate (s : State) (on : Bool) : State :=
  s.forEach (s.recs .supp 2) (fun r t =>
    let q := C.SUPP2.QUEUE r
    let was := t.on (R.QMGR_STAT.GATED q 0)
    let t := (t.flag (R.QMGR_STAT.GATED q 0) on).flag (R.QMGR_STAT.GATED q 1) on
    if on || !was then t
    else (t.pairAll q).forEach (List.range 4) (fun n u =>
      if (u.ethAt n).staged.any (fun f => f.src == q / 24 && f.k == q % 24) ∧ q / 24 < 4 then u.readyIn n (q % 24) else u))

/-! ### The kinetic set (R736, R739) -/

/-- Power of the kinetic set in mW (R739). -/
def State.supPower (s : State) : Int :=
  (indices 2 (fun n => s.bit R.SUP_STATE.KH_SET n)).foldl (fun (m : Int) n =>
    let x := s.drvAt n
    let vi : Int := ((setN x.set 0x0C 4 * setN x.set 0x08 4 : Nat) : Int)
    m + rdiv (3 * s.getI (R.DRVn_TE.VALUE n) * s.getI (R.DRVn_W_EST.VALUE n) * vi) (2000 * 72057594037927936)) 0

/-- The power recorded where it changed; 8 ms of it are kept. -/
def State.notePower (s : State) : State :=
  if s.get R.SUP_STATE.KH_SET = 0 then s
  else
    let p := s.supPower
    let h := s.supX.power
    if (match h with | (_, q) :: _ => q == p | [] => false) then s
    else s.modSup (fun x => { x with power := (s.now, p) :: h.take ((h.filter (fun y => decide (s.now < y.1 + 8000000))).length + 1) })

/-- The mean power over steady ns `a` to `b`, in mW. -/
def meanPower (a b : Nat) : Nat → List (Nat × Int) → Int
  | _, [] => 0
  | u, (t, p) :: l => p * ((min u b - max t a : Nat) : Int) + meanPower a b (min u t) l

/-- Entry to kinetic hold commanded to the drives of KH_DRV that are available (R736). -/
def State.supKhEnter (s : State) : State :=
  let m := indices 2 (fun n => (s.get R.SUP_CFG.KH_DRV).testBit n && s.khAvail n)
  let s := (s.forEach m (fun n t => t.khEnter n)).put R.SUP_STATE.KH_SET (m.foldl setBit 0)
  (s.modSup (fun x => { x with khAt := s.now, power := [] })).notePower

/-- Exit commanded to every drive of the kinetic set; the set is then empty. -/
def State.supKhExit (s : State) : State :=
  ((s.forEach (indices 2 (fun n => s.bit R.SUP_STATE.KH_SET n)) (fun n t => t.khExit n)).put R.SUP_STATE.KH_SET 0).modSup
    (fun x => { x with cand := none })

/-! ### States (R734, R735, R740, R742 to R744) -/

/-- The notification of a change of state (R744). -/
def State.supNotify (s : State) : State :=
  let s := (s.put R.SUP_STAMP.STAMP s.stamp).supIrq R.SUP_IRQ_PEND.STATE_CHG
  s.forEach (indices 8 (fun b => (s.get R.SUP_CFG.NOTIFY_BAYS).testBit b)) (fun b t =>
    (((t.put (R.SUPn_NTF.STATE b) t.supSt).put (R.SUPn_NTF.CLASS b) t.supClass).put (R.SUPn_NTF.SHED b) (t.get R.SUP_STATE.SHED)).flag
      (R.SUPn_NTF.CHG b) true |>.put (R.SUPn_STAMP.STAMP b) t.stamp)

/-- Ranks of the groups measured in the stay, if there are two (R740). -/
def State.learnRanks (s : State) : State :=
  let x := s.supX
  let m := indices 8 (fun g => x.measured.testBit g)
  let k : Int := m.length
  let sum : Int := m.foldl (fun (a : Int) g => a + s.getI (R.SUP_DPg.W g)) 0
  let lim : Int := s.get R.SUP_RESTORE.RANK_MOVE
  if m.length < 2 ∨ (s.get R.SUP_CFG.LEARN).testBit 1 = false then s
  else
    (s.modSup (fun y => { y with delta := (List.range 8).map (fun g =>
      let d := y.delta.getD g 0
      let w := s.getI (R.SUP_DPg.W g)
      if y.measured.testBit g then
        clampInt (-lim) lim (if 5 * sum < 4 * k * w then d - 1 else if 4 * k * w < 3 * sum then d + 1 else d)
      else d) })).showRank

/-- NORMAL entered: ranks, LP10 (R740, R748). -/
def State.supNormal (s : State) : State :=
  let s := s.put R.SUP_STATE.STATE 0
  let s := if s.supX.ridden then s.learnRanks else s
  (s.modSup (fun x => { x with ridden := false, measured := 0 })).lpWrite

/-- A state entered with its actions. -/
def State.supTo (s : State) (st : Nat) : State :=
  let s := if s.supSt = 0 ∧ s.entering then s.cancelEntry 2 else s
  let s := s.put R.SUP_STATE.STATE st
  let s :=
    if st = 1 then (s.supGate true).forEach (List.range (min 8 (s.get R.SUP_RESTORE.DIP_SHED))) (fun _ t => t.shedNext)
    else if st = 2 then
      ((s.supGate true).modSup (fun x => { x with ridden := true, stays := x.stays + 1 })).supKhEnter
    else if st = 4 then (s.supGate true).supKhExit
    else if st = 5 then
      let t := (s.supGate false).restoreLast
      if t.shedLeft then t else t.supNormal
    else s
  (s.supInhibit).supNotify

/-- A shedding trigger: one group, the first one of a stay enters SHED (R735, R737). -/
def State.supTrigger (s : State) : State :=
  if s.supSt = 2 then (s.put R.SUP_STATE.STATE 3).shedNext.supNotify
  else if s.supSt = 3 then s.shedNext else s

/-- The state change that a change of class brings (R735). -/
def State.supMove (s : State) (c : Nat) : State :=
  let st := s.supSt
  if c = 2 then (if st = 0 ∨ st = 1 ∨ st = 4 ∨ st = 5 then s.supTo 2 else s)
  else if c = 3 then (if st = 0 ∨ st = 1 ∨ st = 5 then s.supTo 4 else s)
  else if st = 2 ∨ st = 3 then s.supTo 4
  else if c = 1 then (if st = 0 then s.supTo 1 else if st = 5 then s.supTo 4 else s)
  else if st = 1 then s.supTo 4 else s

/-! ### Classification (R725 to R729, R733) -/

/-- The slow value in force: as measured, or as an injection forces it (R755). -/
def State.slow (s : State) : Int :=
  let v := s.supX.vn
  if s.supX.forceSlow = 1 then ((99 * s.get R.SUP_PCT.DIP * v / 10000 / 4294967296 : Nat) : Int)
  else if s.supX.forceSlow = 2 then ((101 * s.get R.SUP_PCT.SURGE * v / 10000 / 4294967296 + 1 : Nat) : Int)
  else s.getI R.SUP_VALUE.MV

/-- Whether the slow value lies below, or above, `pct` per cent of Vn; at a limit of its source it lies beyond every
threshold. -/
def State.slowBelow (s : State) (pct : Nat) : Bool :=
  if s.supX.ovr = 0 then decide (100 * q32 * s.slow < (pct : Int) * s.supX.vn) else decide (s.supX.ovr < 0)
def State.slowAbove (s : State) (pct : Nat) : Bool :=
  if s.supX.ovr = 0 then decide ((pct : Int) * s.supX.vn < 100 * q32 * s.slow) else decide (0 < s.supX.ovr)

/-- Low 16 bits of a value in V. -/
def inVolts (mv : Int) : Nat := wrapInt 16 (mv.tdiv 1000)

/-- The class changes (R729), with the cause, the counter and the state change of it. -/
def State.supClassTo (s : State) (c : Nat) : State :=
  let was := s.supClass
  if c = was then s
  else
    let st := s.supSt
    let s := (s.put R.SUP_STATE.CLASS c).modSup (fun x => { x with runGap := 0, runClear := 0 })
    let s := if was = 2 then s.put R.SUP_GAP_US.US (min 0xFFFFFFFF ((s.now - s.supX.gapAt) / 1000)) else s
    let s :=
      if c = 2 then
        (((s.modSup (fun x => { x with gapAt := s.now })).inc R.SUP_CNT_EVT.GAP).supIrq R.SUP_IRQ_PEND.GAP).report 0 0x4401 0
          (inVolts (s.getI R.SUP_FAST.MV) + 65536 * st)
      else if c = 1 then ((s.inc R.SUP_CNT_EVT.DIP).supIrq R.SUP_IRQ_PEND.DIP).report 0 0x4402 0 (inVolts s.slow)
      else if c = 3 then ((s.inc R.SUP_CNT_SURGE.SURGE).supIrq R.SUP_IRQ_PEND.SURGE).report 0 0x4403 0 (inVolts s.slow)
      else s
    s.supMove c

/-- Whether samples change the class. -/
def State.supOn (s : State) : Bool := s.on R.SUP_CTRL.EN && !(s.on R.SUP_STATE.SRC_BAD)

/-- √2 with 60 fraction bits. -/
def sqrt2 : Int := 1630477228166597777

/-- The line phase now: the loop's last value, advanced at its frequency (R726). -/
def State.phase (s : State) : Nat :=
  (s.supX.theta + (s.now - s.supX.thetaAt) * s.supX.freq * 4294967296 / 1000000000000) % 4294967296

/-- A fast value as 1 gap, 2 clear or 0 neutral (R728). -/
def State.fastKind (s : State) (v ovr : Int) : Nat :=
  let g : Int := s.get R.SUP_PCT.GAP
  let gh : Int := g + s.hyst
  let vn : Int := s.supX.vn
  if ovr ≠ 0 then (if 0 < ovr ∨ s.supAc then 2 else 1)
  else if s.supAc = false then (if 100 * q32 * v < g * vn then 1 else if gh * vn ≤ 100 * q32 * v then 2 else 0)
  else
    let sn : Int := ((cosSin s.phase).2.natAbs : Nat)
    let e := rdiv (sqrt2 * sn) one60 * vn
    let a : Int := (v.natAbs : Nat) * 100 * q32 * one60
    if 4 * sn < one60 then 0 else if a < g * e then 1 else if gh * e ≤ a then 2 else 0

/-- A fast value of the source (R725, R728, R729). -/
def State.supFast (s : State) (v ovr : Int) (susp : Bool) : State :=
  let force := decide (0 < s.supX.forceGap)
  let v := if force then 0 else v
  let ovr := if force then 0 else ovr
  let s := (s.putI R.SUP_FAST.MV v).modSup (fun x => { x with forceGap := x.forceGap - 1 })
  if s.supOn = false ∨ (susp ∧ ovr = 0 ∧ force = false) then s
  else
    let k := if force ∧ s.supAc = false then 1 else if force then (if s.fastKind 0 0 = 0 then 0 else 1) else s.fastKind v ovr
    let s := if k = 1 then s.modSup (fun x => { x with runGap := x.runGap + 1, runClear := 0 })
      else if k = 2 then s.modSup (fun x => { x with runClear := x.runClear + 1, runGap := 0 }) else s
    if s.supClass ≠ 2 ∧ s.gapN ≤ s.supX.runGap then s.supClassTo 2
    else if s.supClass = 2 ∧ s.gapN ≤ s.supX.runClear then
      s.supClassTo (if s.slowBelow (s.get R.SUP_PCT.DIP + s.hyst) then 1 else 0)
    else s

/-- The window of the slow value in ns (R725). -/
def State.slowWindow (s : State) : Nat :=
  if s.supAc then 500000000000 / max 1 s.supX.freq else 1000 * max 32 (s.get R.SUP_DETECT.SLOW_US)

/-- The mean, or the RMS, of the samples in the window. -/
def State.slowOf (s : State) (l : List (Nat × Int)) : Int :=
  let n : Int := max 1 l.length
  if s.supAc then ((sqrtNear ((rdiv (l.foldl (fun (a : Int) x => a + x.2 * x.2) 0) n).toNat) : Nat) : Int)
  else rdiv (l.foldl (fun (a : Int) x => a + x.2) 0) n

/-- A period of the line ends: SUP_FREQ, and the range of R726 for three periods in a row (R726, R733). -/
def State.linePeriod (s : State) : State :=
  let x := s.supX
  let t := s.now - x.zeroAt
  let ok := if s.get R.SUP_CFG.LINE = 1 then decide (t * 1503 ≤ 100000000000 ∧ 100000000000 ≤ t * 1837)
    else decide (t * 45 ≤ 1000000000 ∧ 1000000000 ≤ t * 55)
  let ps := (t :: x.periods).take 8
  let out := if ok then 0 else x.outside + 1
  let ins := if ok then x.inside + 1 else 0
  let s := s.modSup (fun y => { y with
    zeroAt := s.now, periods := ps, outside := min 3 out, inside := min 3 ins
    freqBad := if 3 ≤ out then true else if 3 ≤ ins then false else y.freqBad })
  s.put R.SUP_FREQ.MHZ (1000000000000 * ps.length / max 1 (ps.foldl (fun a b => a + b) 0))

/-- The loop follows a data value: its phase and frequency are values that the spec does not give (R726); while the
class is not NORMAL it holds its frequency and advances at it. -/
def State.supLoop (s : State) : State :=
  if s.supAc = false then s
  else
    let ph := s.phase
    if s.supClass = 0 then
      let th := (Config.freeWord s.free).toNat
      let f := (Config.freeWord (s.free + 1)).toNat
      let wrap := decide (th < ph ∧ ph - th > 2147483648)
      let t := (s.modSup (fun x => { x with theta := th, thetaAt := s.now, freq := f })).took 2
      if wrap then t.linePeriod else t
    else s.modSup (fun x => { x with theta := ph, thetaAt := s.now })

/-- A data value of the source (R725, R729). -/
def State.supData (s : State) (v ovr : Int) (susp : Bool) : State :=
  let s := s.supLoop
  if susp ∧ ovr = 0 then s
  else
    let from_ := s.now - s.slowWindow
    let l := (s.now, v) :: s.supX.samples.filter (fun x => decide (from_ < x.1))
    let o : Int := if ovr < 0 ∧ s.supAc then 1 else ovr
    let s := (s.modSup (fun x => { x with samples := l, ovr := o })).putI R.SUP_VALUE.MV (s.slowOf l)
    if s.supOn = false then s
    else if s.supClass = 1 ∧ s.slowBelow (s.get R.SUP_PCT.DIP + s.hyst) = false then s.supClassTo 0
    else if s.supClass = 3 ∧ s.slowAbove (s.get R.SUP_PCT.SURGE - s.hyst) = false then s.supClassTo 0
    else s

/-! ### Every edge (R733, R735 to R737, R741, R745, R746) -/

/-- A group that became unavailable: its pin is no longer SUP's; one being shed passes its shed on (R741, R754). -/
def State.supUnavail (s : State) : State :=
  let u := s.get R.SUP_STATE.UNAVAIL
  let fresh := indices 8 (fun g => u.testBit g && !(s.supX.known.testBit g))
  (s.modSup (fun x => { x with known := u })).forEach fresh (fun g t =>
    if t.bit R.SUP_STATE.SHED g then
      let t := ((t.shedPin g false).clrB R.SUP_STATE.SHED g).modSup (fun x => { x with order := x.order.filter (fun h => h != g) })
      if t.supSt = 2 ∨ t.supSt = 3 then t.shedNext else t
    else t)

/-- Drives of the kinetic set that dropped AVAIL: a trigger each; the last one sheds what remains (R736, R737). -/
def State.supDrops (s : State) : State :=
  let gone := indices 2 (fun n => s.bit R.SUP_STATE.KH_SET n && !(s.khAvail n))
  if gone = [] then s
  else
    let s := s.forEach gone (fun n t => t.clrB R.SUP_STATE.KH_SET n)
    if s.get R.SUP_STATE.KH_SET = 0 then
      let t := s.modSup (fun x => { x with cand := none })
      if t.supSt = 2 then (t.put R.SUP_STATE.STATE 3).shedAll.supNotify
      else if t.supSt = 3 then t.shedAll else t
    else s.forEach gone (fun _ t => t.supTrigger)

/-- What SUP evaluates on every FAB_CLK edge. -/
def State.supEdge (s : State) : State :=
  if s.has .supp = false then s
  else ((((s.supSource.supDrops).supUnavail).supDew).notePower).supInhibit

/-! ### Results of the source (R724, R725, R733) -/

def State.isSupSdm (s : State) (n : Nat) : Bool := s.has .supp && !(s.supKind) && s.supCh == n

/-- The limit at which a saturated code stands. -/
def codeLimit (sgn : Bool) (code : Nat) : Int :=
  if sgn then (if code = 0x7FFF then 1 else if code = 0x8000 then -1 else 0) else (if code = 65535 then 1 else -1)

/-- ADC_CONVERSION_END (R694, R696); SUP takes the result of its request. -/
def execAdcConversionEnd (n : Nat) (v : Int) (s : State) : Host.Outcome State Fault Refusal :=
  answer (
    let t := State.adcEnd n v s
    if t.ana.supFresh && t.has .supp && t.supKind then
      let w := t.ana.supWord
      let t := { t with ana := { t.ana with supFresh := false } }
      let o := if w.testBit 21 then codeLimit t.supSigned (w % 65536) else 0
      let mv := t.supMv (w % 65536)
      ((t.supSource.supData mv o (w.testBit 22)).supFast mv o (w.testBit 22)).supInhibit
    else t)

/-- SDM_DATA_OUTPUT (R710, R711); the source's data value reaches SUP. -/
def execSdmDataOutput (n : Nat) (v : Int) (s : State) : Host.Outcome State Fault Refusal :=
  answer (
    let t := State.sdmData n v s
    if t.isSupSdm n && t.on (R.SDMn_CTRL.EN n) then
      let w := t.get (R.SDMn_RES.WORD n)
      let o : Int := if t.on (R.SDMn_OVR.ACTIVE n) then (if (t.sdmAt n).level then 1 else -1) else 0
      (t.supSource.supData (t.supMv (w % 65536)) o (w.testBit 22)).supInhibit
    else t)

/-- SDM_COMPARATOR_OUTPUT (R712); the source's fast value reaches SUP. -/
def execSdmComparatorOutput (n : Nat) (v : Int) (s : State) : Host.Outcome State Fault Refusal :=
  answer (
    let t := State.sdmCompare n v s
    if t.isSupSdm n && t.on (R.SDMn_CTRL.EN n) && t.on (R.SDMn_CTRL.CMP_EN n) then
      let o : Int := if t.on (R.SDMn_OVR.ACTIVE n) then (if (t.sdmAt n).level then 1 else -1) else 0
      (t.supSource.supFast (t.supMv (t.get (R.SDMn_CMP.VALUE n))) o (decide (0 < (t.sdmAt n).suspect))).supInhibit
    else t)

/-! ### Commands and events -/

/-- KINETIC_HOLD_EXIT: a drive that SUP no longer holds leaves KINETIC_HOLD to its entry state (R679, R736). -/
def execKineticHoldExit (n : Nat) (s : State) : Host.Outcome State Fault Refusal :=
  answer (if s.supSt = 2 ∨ s.supSt = 3 then s else s.khExit n)

/-- SUP_AIN_REQUEST: one conversion of the AIN source (R724, R698). -/
def execSupAinRequest (s : State) : Host.Outcome State Fault Refusal :=
  answer (if s.has .supp && s.supKind then
    s.adcTrigger (s.supCh / 6) ⟨2, 0, [(s.supCh % 6, 0, 0)], true, s.now, [], 0⟩
  else s)

/-- Vn takes a step of the learning, clamped to its bound (R727). -/
def State.learnVn (s : State) : State :=
  if s.on R.SUP_CTRL.EN = false ∨ (s.get R.SUP_CFG.LEARN).testBit 0 = false ∨ s.supSt ≠ 0 ∨ s.supClass ≠ 0 ∨ s.on R.SUP_STATE.SRC_BAD then s
  else
    let v : Int := s.supX.vn
    let nom : Int := s.get R.SUP_NOMINAL.MV
    let b : Int := s.get R.SUP_CFG.LEARN_BOUND
    let hi := nom * q32 * (100 + b) / 100
    let lo := nom * q32 * (100 - b) / 100
    let n := clampInt lo hi (v + rdiv (s.slow * q32 - v) 10000)
    let at_ := decide (n = hi ∨ n = lo)
    let was := s.on R.SUP_STATE.AT_BOUND
    let s := (s.setVn n.toNat).flag R.SUP_STATE.AT_BOUND at_
    if at_ && !was then
      (s.supIrq R.SUP_IRQ_PEND.BOUND).report 0 0x4404 0 (s.vnMv / 1000 % 65536 + 65536 * b2n (decide (n = hi)))
    else s

/-- SUP_MILLISECOND: SUP_ROC and Vn (R726, R727). -/
def execSupMillisecond (s : State) : Host.Outcome State Fault Refusal :=
  answer (if s.has .supp then
    let v := s.slow
    ((s.putI R.SUP_ROC.MV_MS (v - s.supX.lastMs)).modSup (fun x => { x with lastMs := v })).learnVn
  else s)

/-- SUP_CONFIRM_EXPIRY: the slow value has stayed beyond its threshold for DIP_US or SURGE_US (R729). -/
def execSupConfirmExpiry (surge : Bool) (s : State) : Host.Outcome State Fault Refusal :=
  answer (
    let c := s.supClass
    let t := if s.supOn = false then s
      else if surge then (if c ≤ 1 ∧ s.slowAbove (s.get R.SUP_PCT.SURGE) then s.supClassTo 3 else s)
      else if c = 0 ∧ s.slowBelow (s.get R.SUP_PCT.DIP) then s.supClassTo 1 else s
    t.modSup (fun x => { x with forceSlow := 0 }))

/-- SHED_TRIGGER: SHED_AFTER_MS or SHED_STEP_MS have elapsed (R737). -/
def execShedTrigger (s : State) : Host.Outcome State Fault Refusal := answer s.supTrigger

/-- HOLD_EXPIRY: HOLD_MS with class NORMAL and a low rate of change (R735). -/
def execHoldExpiry (s : State) : Host.Outcome State Fault Refusal :=
  answer (
    let roc : Int := ((s.getI R.SUP_ROC.MV_MS).natAbs : Nat)
    if s.supSt = 4 ∧ s.supClass = 0 ∧ 100 * q32 * roc ≤ (s.get R.SUP_RESTORE.RECOV_ROC : Int) * s.supX.vn then s.supTo 5 else s)

/-- RESTORE_STEP: the next group handed back; the last one enters NORMAL (R735, R742). -/
def execRestoreStep (s : State) : Host.Outcome State Fault Refusal :=
  answer (if s.supSt = 5 then
    let t := s.restoreLast
    if t.shedLeft then t else (t.supNormal.supInhibit).supNotify
  else s)

/-- SHED_POWER_MEASUREMENT: 3 ms after a shed that met R739. -/
def execShedPowerMeasurement (s : State) : Host.Outcome State Fault Refusal :=
  answer (
    let s := s.notePower
    match s.supX.cand with
    | none => s
    | some (g, t) =>
      if s.get R.SUP_STATE.KH_SET = 0 ∨ s.now < t + 3000000 then s
      else
        let h := s.supX.power
        let d := rdiv (meanPower (t - 1000000) t s.now h - meanPower (t + 2000000) (t + 3000000) s.now h) (1000000 * 1000)
        let n := s.supX.count.getD g 0
        let old := s.getI (R.SUP_DPg.W g)
        let v := if n = 0 then d else old + rdiv (d - old) 4
        (s.putI (R.SUP_DPg.W g) v).modSup (fun x => { x with
          cand := none, count := updAt x.count g (fun k => min 255 (k + 1)), measured := setBit x.measured g }))

/-- SUP_LP10_WRITE: a write that is due, or 600 s while Vn has moved by 0.1 % (R748). -/
def execSupLp10Write (s : State) : Host.Outcome State Fault Refusal :=
  answer (
    let x := s.supX
    let moved := decide (x.lpVn ≤ 1000 * (max s.vnMv x.lpVn - min s.vnMv x.lpVn))
    if s.has .supp && (x.lpDue || moved) then s.lpWrite else s)

/-- EN_RESULT of a write of EN (R752). -/
def State.supEnResult (s : State) (en : Bool) : Nat :=
  if s.has .supp = false then 5
  else if en = false then (if s.supSt ≠ 0 then 4 else 0)
  else if 40000 < s.tDet2 s.gapN then 1
  else if s.supAc ∧ s.supSigned = false then 2
  else if s.supSrcEn = false then 3 else 0

/-- A write of EN (R752); one of the value it has restarts nothing. -/
def State.supEn (s : State) (en : Bool) : State :=
  let r := s.supEnResult en
  let s := s.put R.SUP_CTRL.EN_RESULT r
  if r ≠ 0 ∨ s.on R.SUP_CTRL.EN = en then s
  else ((s.flag R.SUP_CTRL.EN en).modSup (fun x => { x with runGap := 0, runClear := 0 })).supEdge

def execSupEn (by_ : Init) (en : Bool) (s : State) : Host.Outcome State Fault Refusal :=
  answer (s.byBay0 by_ R.SUP_CTRL.EN.addr (fun t => t.supEn en))

/-- A write of SUP_DETECT, unlocked in NORMAL; ignored whole where t_det would exceed its bound (R732, R751). -/
def State.supDetect (s : State) (w : Word) : State :=
  if s.supSt ≠ 0 then s
  else if s.on R.SUP_CTRL.EN ∧ 40000 < s.tDet2 (max 1 (w.toNat % 16)) then s.put R.SUP_CTRL.EN_RESULT 1
  else s.putWord R.SUP_DETECT.GAP_N (w &&& 0x000FFFFF#32)

def execSupDetect (by_ : Init) (w : Word) (s : State) : Host.Outcome State Fault Refusal :=
  answer (s.byBay0 by_ R.SUP_DETECT.GAP_N.addr (fun t => t.supDetect w))

/-- LEARN_RESET, in NORMAL only (R751). -/
def State.learnReset (s : State) : State :=
  if s.supSt ≠ 0 ∨ s.has .supp = false then s
  else
    let s := s.setVn (s.get R.SUP_NOMINAL.MV * 4294967296)
    let s := s.modSup (fun x => { x with delta := List.replicate 8 0, count := List.replicate 8 0, measured := 0, cand := none })
    let s := s.forEach (List.range 8) (fun g t => t.put (R.SUP_DPg.W g) 0)
    (s.flag R.SUP_STATE.AT_BOUND false).showRank.lpWrite

def execLearnReset (by_ : Init) (s : State) : Host.Outcome State Fault Refusal :=
  answer (s.byBay0 by_ R.SUP_CTRL.LEARN_RESET.addr (fun t => t.learnReset))

/-- DEW_CLEAR: every linked index has stayed below its clear level for DEW_CLEAR_S (R746). -/
def execDewClear (s : State) : Host.Outcome State Fault Refusal :=
  answer (if s.on R.SUP_STATE.DEW ∧ s.linked.any (s.dewAt (s.get R.SUP_DEW.DEW_HYST)) = false then
    ((s.flag R.SUP_STATE.DEW false).supIrq R.SUP_IRQ_PEND.DEW_CHG).supInhibit
  else s)

end Sys2Proof.Machine
end

