-- ==== Sys2Proof/Machine/Cap.lean ====
section
/-! DEFINITION.
Capacitive sensing and the film gauge (chapter 22). -/

namespace Sys2Proof.Machine

def State.capX (s : State) : CapPart := s.ana.cap
def State.modCap (s : State) (f : CapPart → CapPart) : State := { s with ana := { s.ana with cap := f s.ana.cap } }
def State.capBay (s : State) : Nat := ownerOr0 (s.ownPeriph 8)
def State.capKey (s : State) (k : Nat) : CapElem := s.capX.keys.getD k CapElem.cold
def State.modKey (s : State) (k : Nat) (f : CapElem → CapElem) : State := s.modCap (fun x => { x with keys := updAt x.keys k f })
def State.capSns (s : State) (n : Nat) : CapElem := s.capX.sns.getD n CapElem.cold
def State.modSns (s : State) (n : Nat) (f : CapElem → CapElem) : State := s.modCap (fun x => { x with sns := updAt x.sns n f })
def State.filmAt (s : State) (n : Nat) : Film := s.capX.film.getD n Film.cold
def State.modFilm (s : State) (n : Nat) (f : Film → Film) : State := s.modCap (fun x => { x with film := updAt x.film n f })

def State.keysIn (s : State) : List Nat := indices 64 (fun k => s.on (R.CAP_KEYk_STAT.PRESENT k))
def State.snsIn (s : State) : List Nat := indices 8 (fun n => s.on (R.SNSn_CFG.PRESENT n))
def State.freqs (s : State) : List Nat := indices 8 (fun f => (s.get R.CAP_CFG.FREQ_MASK).testBit f)
def State.freqNow (s : State) : Nat := s.get R.CAP_STAT.FREQ

/-! ### Scan time (R776, R777) -/

/-- PERI_CLK divider of a drive frequency. -/
def capDiv (f : Nat) : Nat := [1000, 800, 625, 500, 400, 320, 280, 250].getD f 1000
def State.nper (s : State) (n : Nat) : Nat := 16 * max 1 (s.get (R.SNSn_CTRL.NPER16 n))

/-- T_scan in ns for a setting of GLOVE. -/
def State.scanTime (s : State) (glove : Bool) : Nat :=
  let pulses := clampNat 8 128 (s.get R.CAP_SCAN.PULSES) * (if glove then 4 else 1)
  let tx := (indices 16 (fun p => s.keysIn.any (fun k => s.get (R.CAP_KEYk_CFG.TX k) == p))).length
  let dv := s.freqs.foldl (fun m f => max m (capDiv f)) 0
  (tx + 1) * pulses * dv * 8 + s.snsIn.foldl (fun m n => max m (s.nper n)) 0 * 100000 + 20000

/-! ### Faults and validity (R783, R789, R790) -/

def State.showFault (s : State) : State :=
  let m := (indices 64 (fun k => s.on (R.CAP_KEYk_STAT.OPEN k) || s.on (R.CAP_KEYk_STAT.SHORT k) || s.on (R.CAP_KEYk_STAT.OOS k))).foldl setBit 0
  (s.put R.CAP_FAULT_LO.KEYS m).put R.CAP_FAULT_HI.KEYS (m / 4294967296)

/-- Whether the conditions of a valid index hold (R789). -/
def State.filmOk (s : State) (n : Nat) : Bool :=
  s.on R.CAP_CTRL.EN && !(s.railIsLow 5) && s.on (R.SNSn_STAT.CAL_OK n) && !(s.on (R.SNSn_STAT.OPEN n)) && !(s.on (R.SNSn_STAT.SHORT n)) &&
  !(s.on (R.SNSn_STAT.OOS n)) && (leAt (s.filmAt n).record 6 1 != 2 || s.capX.tempOk)

/-- A linked index at its level or invalid: AT_DEW, DEW_LEVEL and cause 0x4C05 (R790). -/
def State.atDew (s : State) (n : Nat) (invalid : Bool) : State :=
  ((s.flag (R.SNSn_STAT.AT_DEW n) true).flag R.CAP_IRQ_PEND.DEW_LEVEL true).report s.capBay 0x4C05 (0x40 + n)
    (s.get (R.SNSn_FILM_IDX.FI n) + 65536 * b2n invalid)

/-- An index becomes invalid on the edge on which a condition of it fails (R789, R790). -/
def State.filmCheck (s : State) (n : Nat) : State :=
  if s.on (R.SNSn_STAT.FI_VALID n) ∧ s.filmOk n = false then
    let t := s.flag (R.SNSn_STAT.FI_VALID n) false
    if s.on (R.SNSn_CFG.DEW_LINK n) then t.atDew n true else t
  else s

def State.capEdge (s : State) : State := ((s.forEach (List.range 8) (fun n t => t.filmCheck n)).supDew).supInhibit

/-! ### Calibration records (R786, R787, R798) -/

/-- What is wrong with a record: 0 nothing, else DETAIL of 0x4C04 (R796). -/
def State.calCheck (s : State) (n : Nat) (d : List Byte) : Nat :=
  if leAt d 0 4 ≠ 0x4D4C4946 ∨ leAt d 4 1 ≠ 1 then 1
  else if leAt d 5 1 ≠ n ∨ leAt d 0x14 2 ≠ s.nper n then 2
  else if leAt d 0x10 4 = 0 ∨ 2 < leAt d 6 1 then 3
  else if leAt d 0x3C 4 ≠ crc32c (slice d 0 0x3C) then 4 else 0

/-- The record of a film channel read; `quiet` for the read after a STORE retest, which raises no further cause. -/
def State.calLoad (s : State) (quiet : Bool) (n : Nat) : State :=
  let slot := s.get (R.SNSn_CFG.CAL_SLOT n)
  let d := nvmBytes s.nvm (lpBase 1 + 64 * slot) 64
  let d := if s.capX.injBit then updAt d 8 (fun b => b ^^^ 1#8) else d
  let e := s.calCheck n d
  if e = 0 then (s.flag (R.SNSn_STAT.CAL_OK n) true).modFilm n (fun x => { x with record := d })
  else
    let t := s.flag (R.SNSn_STAT.CAL_OK n) false
    if quiet then t
    else (t.flag R.CAP_IRQ_PEND.CAL_ERR true).report s.capBay 0x4C04 (0x40 + n) (e + 256 * slot)

/-- Every record of a ROLE 1 channel read (R787). -/
def State.calReload (s : State) : State :=
  let s := s.forEach s.snsIn (fun n t => if t.on (R.SNSn_CFG.ROLE n) then t.calLoad false n else t)
  (s.modCap (fun x => { x with injBit := false })).capEdge

/-! ### Touch (R779, R780) -/

/-- What a scan makes of an element: released or touched after it, its baseline, its counters. -/
structure Touch where
  touched : Bool
  base : Nat
  elem : CapElem

/-- The rules of R779: DELTA `d` towards a touch, threshold, hysteresis, RAW and baseline. -/
def touchRule (was noisy : Bool) (tn shift maxMs now raw base : Nat) (d thr hyst : Int) (x : CapElem) : Touch :=
  let old := was && maxMs != 0 && decide (x.at_ + 1000000 * maxMs < now)
  if old then ⟨false, raw, { x with on := 0, off := 0, neg := 0 }⟩
  else if noisy then ⟨was, base, x⟩
  else if was then
    let off := if d < thr - hyst then x.off + 1 else 0
    if tn ≤ off then ⟨false, base, { x with on := 0, off := 0, neg := 0 }⟩ else ⟨true, base, { x with off := off }⟩
  else
    let on := if thr ≤ d then x.on + 1 else 0
    let neg := if d ≤ -thr then x.neg + 1 else 0
    if tn ≤ on then ⟨true, base, { x with on := 0, off := 0, neg := 0, at_ := now }⟩
    else if tn ≤ neg then ⟨false, raw, { x with on := on, neg := 0 }⟩
    else
      let b : Int := base
      let nb := if 2 * ((d.natAbs : Nat) : Int) < thr then b + ((raw : Int) - b).tdiv (2 ^ shift) else b
      ⟨false, nb.toNat, { x with on := on, neg := neg }⟩

def State.touchBit (s : State) (k : Nat) (on : Bool) : State :=
  let s := s.flag (R.CAP_KEYk_STAT.TOUCH k) on
  if k < 32 then s.putB R.CAP_TOUCH_LO.KEYS k on else s.putB R.CAP_TOUCH_HI.KEYS (k - 32) on

/-- Every key and approach channel released (R779, R782, R795). -/
def State.releaseAll (s : State) : State :=
  let s := s.forEach (List.range 64) (fun k t => if t.on (R.CAP_KEYk_STAT.TOUCH k) then (t.touchBit k false).flag R.CAP_IRQ_PEND.KEY_CHG true else t)
  let s := s.forEach (List.range 8) (fun n t => if t.on (R.SNSn_STAT.TOUCH n) then
    (t.flag (R.SNSn_STAT.TOUCH n) false).flag R.CAP_IRQ_PEND.SNS_CHG true else t)
  let z : CapElem → CapElem := fun e => { e with on := 0, off := 0, neg := 0 }
  s.modCap (fun x => { x with keys := x.keys.map z, sns := x.sns.map z })

/-- OPEN and SHORT of an element after a scan: set after `need` scans with the condition, cleared after 4 without. -/
def markRule (need : Nat) (open_ short wasO wasS : Bool) (x : CapElem) : Bool × Bool × CapElem :=
  let y := { x with nOpen := if open_ then x.nOpen + 1 else 0, nShort := if short then x.nShort + 1 else 0
                    clearO := if open_ then 0 else x.clearO + 1, clearS := if short then 0 else x.clearS + 1 }
  (decide (need ≤ y.nOpen) || (wasO && decide (y.clearO < 4)), decide (need ≤ y.nShort) || (wasS && decide (y.clearS < 4)), y)

/-- A mark newly set: FAULT and its cause (R783). -/
def State.capMark (s : State) (res raw : Nat) (newO newS : Bool) : State :=
  let s := if newO || newS then s.flag R.CAP_IRQ_PEND.FAULT true else s
  let s := if newO then s.report s.capBay 0x4C01 res (65536 * (raw % 65536)) else s
  if newS then s.report s.capBay 0x4C02 res (65536 * (raw % 65536)) else s

/-- THR_EFF (R779). -/
def State.thrEff (s : State) (thr : Nat) : Int :=
  ((if s.capX.glove then thr * max 1 (s.get R.CAP_SCAN.GLOVE_TH) / 16 else thr : Nat) : Int)

/-- One key after a scan at the current frequency; `load` for a scan that loads its baseline (R779, R783). -/
def State.scanKey (s : State) (c : CapScan) (load : Bool) (k : Nat) : State :=
  let x := s.capKey k
  let f := s.freqNow
  let raw := if 0 < x.inj then x.injV else c.keys.getD k 0 % 65536
  let wasO := s.on (R.CAP_KEYk_STAT.OPEN k)
  let wasS := s.on (R.CAP_KEYk_STAT.SHORT k)
  let (o, h, x1) := markRule 4 (decide (raw < s.get R.CAP_RAW_LIM.OPEN_RAW)) (decide (s.get R.CAP_RAW_LIM.SHORT_RAW ≤ raw)) wasO wasS
    { x with inj := x.inj - 1 }
  let s := ((s.flag (R.CAP_KEYk_STAT.OPEN k) o).flag (R.CAP_KEYk_STAT.SHORT k) h).capMark k raw (o && !wasO) (h && !wasS)
  let base := if load then raw else x.base.getD f 0
  let was := s.on (R.CAP_KEYk_STAT.TOUCH k)
  let d : Int := (base : Int) - raw
  let r : Touch := if o || h || s.on (R.CAP_KEYk_STAT.OOS k) then ⟨false, base, { x1 with on := 0, off := 0, neg := 0 }⟩
    else if load then ⟨was, base, x1⟩
    else touchRule was (s.on R.CAP_STAT.NOISY) (max 1 (s.get R.CAP_TUNE.TOUCH_N)) (s.get R.CAP_TUNE.BL_SHIFT) (s.get R.CAP_MAX_ON.MS)
      s.now raw base d (s.thrEff (s.get (R.CAP_KEYk_CFG.THRESH k))) (s.get (R.CAP_KEYk_CFG.HYST k) : Int) x1
  let s := s.modKey k (fun _ => { r.elem with base := updAt r.elem.base f (fun _ => r.base) })
  let s := ((s.put (R.CAP_KEYk_RAW.RAW k) raw).put (R.CAP_KEYk_RAW.BASE k) r.base).putI (R.CAP_KEYk_STAT.DELTA k) d
  if r.touched = was then s else (s.touchBit k r.touched).flag R.CAP_IRQ_PEND.KEY_CHG true

/-- An approach channel after a scan (R780). -/
def State.scanApproach (s : State) (raw : Nat) (n : Nat) : State :=
  let x := s.capSns n
  let base := s.get (R.SNSn_BASE.BASE n)
  let was := s.on (R.SNSn_STAT.TOUCH n)
  let marked := s.on (R.SNSn_STAT.OPEN n) || s.on (R.SNSn_STAT.SHORT n) || s.on (R.SNSn_STAT.OOS n)
  let r : Touch := if marked then ⟨false, base, { x with on := 0, off := 0, neg := 0 }⟩
    else touchRule was (s.on R.CAP_STAT.NOISY) (max 1 (s.get R.CAP_TUNE.TOUCH_N)) (s.get R.CAP_TUNE.BL_SHIFT) (s.get R.CAP_MAX_ON.MS)
      s.now raw base ((raw : Int) - base) (s.thrEff (s.get (R.SNSn_THRESH.THRESH n))) (s.get (R.SNSn_THRESH.HYST n) : Int) x
  let s := (s.modSns n (fun _ => r.elem)).put (R.SNSn_BASE.BASE n) r.base
  if r.touched = was then s else (s.flag (R.SNSn_STAT.TOUCH n) r.touched).flag R.CAP_IRQ_PEND.SNS_CHG true

/-! ### Film index (R785) -/

/-- The end of a film average of `cnt` scans with sum `sum`. -/
def State.filmUpdate (s : State) (n sum cnt : Nat) : State :=
  let meas := rdiv ((sum * 320 : Nat) : Int) ((cnt * s.nper n : Nat) : Int)
  let s := s.putI (R.SNSn_CMEAS.C n) meas
  let x := s.filmAt n
  let d := x.record
  if s.filmOk n = false then s
  else
    let src := leAt d 6 1
    let t : Int := if src = 0 then signed 16 (leAt d 0xC 2) else if src = 1 then s.getI R.CAP_TEMP.T else s.getI R.CAP_TEMP_SW.T
    let dry : Int := (leAt d 8 4 : Int) + rdiv (signed 16 (leAt d 0xE 2) * (t - signed 16 (leAt d 0xC 2))) 16
    let dc := meas - dry
    let fi := min 65535 ((max 0 dc).toNat * 1024 / max 1 (leAt d 0x10 4))
    let lvl := s.get (R.SNSn_CFG.DEW_INDEX n)
    let fi := if x.inj then lvl else fi
    let s := s.modFilm n (fun y => { y with inj := false })
    let s := ((s.putI (R.SNSn_FILM_C.C n) (clampInt (-32768) 32767 (rdiv dc 80))).put (R.SNSn_FILM_IDX.FI n) fi).put
      (R.SNSn_FILM_STAMP.STAMP n) s.stamp
    let s := (s.flag (R.SNSn_STAT.FI_VALID n) true).flag R.CAP_IRQ_PEND.FILM_UPD true
    if s.on (R.SNSn_CFG.DEW_LINK n) = false then s
    else if fi < lvl then s.flag (R.SNSn_STAT.AT_DEW n) false
    else if s.on (R.SNSn_STAT.AT_DEW n) then s else s.atDew n false

/-- A film channel after a scan. -/
def State.scanFilm (s : State) (raw : Option Nat) (n : Nat) : State :=
  match raw with
  | none => s.modFilm n (fun x => { x with sum := 0, n := 0 })
  | some r =>
    let x := s.filmAt n
    let cnt := x.n + 1
    let s := s.modFilm n (fun y => { y with sum := y.sum + r, n := cnt })
    if 2 ^ min 6 (s.get (R.SNSn_CTRL.FILM_AVG n)) ≤ cnt then
      (s.modFilm n (fun y => { y with sum := 0, n := 0 })).filmUpdate n (x.sum + r) cnt
    else s

/-- Keys and channels out of service report released and have no valid index (R797). -/
def State.capOos (s : State) : State :=
  let s := s.forEach (indices 64 (fun k => s.on (R.CAP_KEYk_STAT.OOS k) && s.on (R.CAP_KEYk_STAT.TOUCH k))) (fun k t =>
    (t.touchBit k false).flag R.CAP_IRQ_PEND.KEY_CHG true)
  let s := s.forEach (indices 8 (fun n => s.on (R.SNSn_STAT.OOS n) && s.on (R.SNSn_STAT.TOUCH n))) (fun n t =>
    (t.flag (R.SNSn_STAT.TOUCH n) false).flag R.CAP_IRQ_PEND.SNS_CHG true)
  s.showFault.capEdge

/-- One SNS channel after a scan: RAW, marks, then its role (R783, R785). -/
def State.scanSns (s : State) (c : CapScan) (load : Bool) (n : Nat) : State :=
  let x := s.capSns n
  let raw : Option Nat := if 0 < x.inj then (if x.injV = 0 then some 0 else none) else (c.sns.getD n none).map (fun r => r % 16777216)
  let wasO := s.on (R.SNSn_STAT.OPEN n)
  let wasS := s.on (R.SNSn_STAT.SHORT n)
  let low := match raw with | some r => decide (r * 320 < 32000 * s.nper n) | none => false
  let (o, h, x1) := markRule 1 low raw.isNone wasO wasS { x with inj := x.inj - 1 }
  let s := (s.modSns n (fun _ => x1)).put (R.SNSn_RAW.RAW n) (raw.getD (s.get (R.SNSn_RAW.RAW n)))
  let s := ((s.flag (R.SNSn_STAT.OPEN n) o).flag (R.SNSn_STAT.SHORT n) h).capMark (0x40 + n) (raw.getD 0) (o && !wasO) (h && !wasS)
  if s.on (R.SNSn_CFG.ROLE n) then (s.filmCheck n).scanFilm raw n
  else if load then (match raw with | some r => s.put (R.SNSn_BASE.BASE n) r | none => s)
  else s.scanApproach (raw.getD 0) n

/-! ### Noise and hopping (R777, R778) -/

/-- The enabled frequency with the lowest noise held. -/
def State.quietest (s : State) : Option Nat :=
  (s.freqs.filter (fun f => s.capX.heard.testBit f)).foldl (fun m f =>
    match m with
    | none => some f
    | some g => if s.get (R.CAP_NOISEf.LEVEL f) < s.get (R.CAP_NOISEf.LEVEL g) then some f else m) none

/-- The enabled frequency after `f` in rotation, the current one passed over. -/
def State.nextFreq (s : State) (f : Nat) : Nat :=
  let c := s.freqs.filter (fun g => g != s.freqNow)
  match c.find? (fun g => decide (f < g)) with
  | some g => g
  | none => c.headD s.freqNow

def State.scanNoise (s : State) (c : CapScan) : State :=
  let f := s.freqNow
  let x := s.capX
  let g := s.nextFreq x.next
  let n0 := if 0 < x.injNoise then 0xFFFF else c.noise % 65536
  let n1 := if 0 < x.injNoise then 0xFFFF else c.noiseNext % 65536
  let s := (s.put (R.CAP_NOISEf.LEVEL g) n1).put (R.CAP_NOISEf.LEVEL f) n0
  let s := s.modCap (fun y => { y with heard := setBit (setBit y.heard f) g, next := g, injNoise := y.injNoise - 1 })
  let lim := s.get R.CAP_TUNE.NOISE_LIM
  let hyst := max 1 (s.get R.CAP_CFG.HOP_HYST)
  let q := (s.quietest).getD f
  let hop := decide (lim < n0 ∧ 2 * s.get (R.CAP_NOISEf.LEVEL q) ≤ n0)
  let all := s.freqs.all (fun h => s.capX.heard.testBit h && decide (lim < s.get (R.CAP_NOISEf.LEVEL h)))
  let hn := if hop then x.hopN + 1 else 0
  let nn := if all then x.noisyN + 1 else 0
  let qn := if n0 ≤ lim then x.quietN + 1 else 0
  let s := s.modCap (fun y => { y with hopN := if hyst ≤ hn then 0 else hn, noisyN := nn, quietN := qn
                                       hopTo := if hyst ≤ hn then some q else y.hopTo })
  if hyst ≤ nn ∧ s.on R.CAP_STAT.NOISY = false then
    ((s.flag R.CAP_STAT.NOISY true).flag R.CAP_IRQ_PEND.NOISY true).report s.capBay 0x4C03 0
      (s.get R.CAP_CFG.FREQ_MASK + 65536 * s.get (R.CAP_NOISEf.LEVEL q))
  else if hyst ≤ qn then s.flag R.CAP_STAT.NOISY false else s

/-- What a scan start takes: a decided hop, GLOVE (R778, R792). -/
def State.scanStart (s : State) : State :=
  let s := match s.capX.hopTo with
    | some q => ((s.put R.CAP_STAT.FREQ q).inc R.CAP_CNT_HOP.COUNT).flag R.CAP_IRQ_PEND.HOP true
    | none => s
  let s := s.modCap (fun x => { x with hopTo := none, glove := s.on R.CAP_CTRL.GLOVE })
  match s.capX.load with
  | f :: _ => s.put R.CAP_STAT.FREQ f
  | [] => s

/-- CAP_SCAN: one scan with what it measures (R777, R779, R783, R785, R788). -/
def execCapScan (c : CapScan) (s : State) : Host.Outcome State Fault Refusal :=
  answer (if s.on R.CAP_CTRL.EN = false ∨ s.clocked = false then s
  else
    let s := s.scanStart
    let s := s.putI R.CAP_TEMP.T c.temp
    match s.capX.load with
    | _ :: rest =>
      let s := (s.scanNoise c).modCap (fun x => { x with hopN := 0, hopTo := none })
      let s := s.forEach s.keysIn (fun k t => t.scanKey c true k)
      let s := s.forEach s.snsIn (fun n t => t.scanSns c true n)
      let s := s.modCap (fun x => { x with load := rest })
      let s := if rest = [] then (s.releaseAll).put R.CAP_STAT.FREQ (s.freqs.headD 0) else s
      s.showFault.capEdge
    | [] =>
      let s := s.scanNoise c
      let s := s.forEach s.keysIn (fun k t => t.scanKey c false k)
      (s.forEach s.snsIn (fun n t => t.scanSns c false n)).showFault.capEdge)

/-! ### Commands -/

/-- Baselines loaded from one scan at each enabled frequency (R779). -/
def State.startLoad (s : State) : State := s.modCap (fun x => { x with load := s.freqs, hopTo := none })

/-- A write of EN and GLOVE (R777, R779, R791, R795). -/
def State.capEn (s : State) (en glove : Bool) : State :=
  let was := s.on R.CAP_CTRL.EN
  if en ∧ s.has .caps = false then s.put R.CAP_CTRL.EN_RESULT 2
  else if (en ∨ glove ≠ s.on R.CAP_CTRL.GLOVE) ∧ s.get R.CAP_SCAN.SCAN_US * 1000 < s.scanTime glove then
    s.put R.CAP_CTRL.EN_RESULT 1
  else
    let s := ((s.put R.CAP_CTRL.EN_RESULT 0).flag R.CAP_CTRL.EN en).flag R.CAP_CTRL.GLOVE glove
    if en && !was then
      let s := s.forEach s.linked (fun n t => t.flag (R.SNSn_STAT.AT_DEW n) true)
      (s.modCap (fun x => { x with film := x.film.map (fun f => { f with sum := 0, n := 0 }) })).startLoad
    else if was && !en then ((s.releaseAll).modCap (fun x => { x with load := [] })).capEdge
    else s

def execCapEn (by_ : Init) (en glove : Bool) (s : State) : Host.Outcome State Fault Refusal :=
  answer (s.byOwner by_ 8 R.CAP_CTRL.EN.addr (fun t => t.capEn en glove))

/-- RECAL (R779). -/
def State.recal (s : State) : State := if s.on R.CAP_CTRL.EN then s.startLoad else s

def execRecal (by_ : Init) (s : State) : Host.Outcome State Fault Refusal :=
  answer (s.byOwner by_ 8 R.CAP_CTRL.RECAL.addr (fun t => t.recal))

/-- CAL_RELOAD (R787). -/
def execCalReload (by_ : Init) (s : State) : Host.Outcome State Fault Refusal :=
  answer (s.byOwner by_ 8 R.CAP_CTRL.CAL_RELOAD.addr (fun t => t.calReload))

/-- A write of CAP_TEMP_SW: the value is present for 10 s (R788). -/
def State.capTempSw (s : State) (v : Nat) : State := (s.put R.CAP_TEMP_SW.T v).modCap (fun x => { x with tempOk := true })

/-- CAP_TEMP_SW_TIMEOUT: not written for 10 s (R788, R789). -/
def execCapTempSwTimeout (s : State) : Host.Outcome State Fault Refusal :=
  answer ((s.modCap (fun x => { x with tempOk := false })).capEdge)

/-- FILM_REFERENCE_CHECK: RAW of the internal 10 pF reference on a film channel's oscillator (R784). -/
def execFilmReferenceCheck (n raw : Nat) (s : State) : Host.Outcome State Fault Refusal :=
  answer (if s.on (R.SNSn_CFG.PRESENT n) && s.on (R.SNSn_CFG.ROLE n) && s.on R.CAP_CTRL.EN then
    let c := raw * 320
    let k := s.nper n
    if c < 156800 * k then s.report s.capBay 0x4C01 (0x40 + n) (1 + 65536 * (raw % 65536))
    else if 163200 * k < c then s.report s.capBay 0x4C02 (0x40 + n) (1 + 65536 * (raw % 65536)) else s
  else s)

/-- SLEEP_SLOW_SCAN: the ganged electrode in SLEEP (R781). -/
def execSleepSlowScan (raw : Nat) (s : State) : Host.Outcome State Fault Refusal :=
  answer (
  let ok := (s.sys.phase == .sleep || s.sys.phase == .sleepStopped) && (s.get R.SYS_WAKE_EN.EN).testBit 0 &&
    s.has .caps && C.CAPS0.SLEEP_GANG (s.rec1 .caps 0) != 0
  if ok = false then s
  else
    let raw := raw % 65536
    let s := s.put R.CAP_SLEEP_RAW.RAW raw
    if s.capX.slow = false then
      (s.put R.CAP_SLEEP_RAW.BASE raw).modCap (fun x => { x with slow := true, slowN := 0 })
    else
      let b : Int := s.get R.CAP_SLEEP_RAW.BASE
      let d := b - raw
      let th : Int := s.get R.CAP_SLEEP.SLEEP_THRESH
      let n := if th ≤ d then s.capX.slowN + 1 else 0
      let s := if 2 * d < th then s.put R.CAP_SLEEP_RAW.BASE (b + ((raw : Int) - b).tdiv 8).toNat else s
      let s := s.modCap (fun x => { x with slowN := n })
      if max 1 (s.get R.CAP_SLEEP.SLEEP_N) ≤ n then (s.modCap (fun x => { x with slowN := 0 })).wakeEvent 1 else s)

/-! ### Apply edge, resets, sleep -/

/-- BS fields and records on the apply edge (R787, R799). -/
def State.applyCap (s : State) : State :=
  if s.has .caps = false then s
  else
    let r := s.rec1 .caps 0
    let s := ((s.put R.CAP_CFG.FREQ_MASK (C.CAPS0.FREQ_MASK r)).put R.CAP_CFG.HOP_HYST (C.CAPS0.HOP_HYST r)).put
      R.CAP_CFG.SLEEP_RATE (C.CAPS0.SLEEP_RATE r)
    let s := (s.put R.CAP_SCAN.SCAN_US (C.CAPS0.SCAN_US r)).put R.CAP_CTRL.GLOVE (C.CAPS0.GLOVE r)
    let s := s.forEach (s.recs .caps 1) (fun q t =>
      let k := C.CAPS1.KEY q
      let t := ((t.put (R.CAP_KEYk_CFG.TX k) (C.CAPS1.TX q)).put (R.CAP_KEYk_CFG.RX k) (C.CAPS1.RX q)).put (R.CAP_KEYk_CFG.HYST k) (C.CAPS1.HYST q)
      (t.put (R.CAP_KEYk_CFG.THRESH k) (C.CAPS1.THRESH q)).flag (R.CAP_KEYk_STAT.PRESENT k) true)
    let s := s.forEach (s.recs .caps 2) (fun q t =>
      let n := C.CAPS2.SNS q
      let t := ((t.put (R.SNSn_CFG.ROLE n) (C.CAPS2.ROLE q)).put (R.SNSn_CFG.DEW_LINK n) (C.CAPS2.DEW_LINK q)).flag (R.SNSn_CFG.PRESENT n) true
      (t.put (R.SNSn_CFG.CAL_SLOT n) (C.CAPS2.CAL_SLOT q)).put (R.SNSn_CFG.DEW_INDEX n) (C.CAPS2.DEW_INDEX q))
    s.calReload

/-- Block reset: pins low, EN 0, every index invalid, records read again; OOS marks stay (R184, R795, R799). -/
def State.resetCap (s : State) : State :=
  let s := (s.flag R.CAP_CTRL.EN false).capEdge
  let ks := indices 64 (fun k => s.on (R.CAP_KEYk_STAT.OOS k))
  let ns := indices 8 (fun n => s.on (R.SNSn_STAT.OOS n))
  let s := (s.modCap (fun x => { CapPart.cold with slow := x.slow })).resetRegs 0x40170000 0x40180000
  let s := s.forEach ks (fun k t => t.flag (R.CAP_KEYk_STAT.OOS k) true)
  let s := s.forEach ns (fun n t => t.flag (R.SNSn_STAT.OOS n) true)
  (s.put R.CAP_CTRL.GLOVE (if s.has .caps then C.CAPS0.GLOVE (s.rec1 .caps 0) else 0)).showFault.calReload

/-- After a wake from SLEEP keys and approach channels are released and no index is valid until its next update (R782). -/
def State.capWake (s : State) : State :=
  let s := s.releaseAll
  let s := s.forEach (List.range 8) (fun n t =>
    if t.on (R.SNSn_STAT.FI_VALID n) then
      let t := t.flag (R.SNSn_STAT.FI_VALID n) false
      if t.on (R.SNSn_CFG.DEW_LINK n) then t.atDew n true else t
    else t)
  (s.modCap (fun x => { x with slow := false, film := x.film.map (fun f => { f with sum := 0, n := 0 }) })).capEdge

end Sys2Proof.Machine
end

