-- ==== Sys2Proof/Machine/Tag.lean ====
section
/-! DEFINITION.
The contactless identity reader (chapter 23). -/

namespace Sys2Proof.Machine

def State.tagX (s : State) : TagPart := s.ana.tag
def State.modTag (s : State) (f : TagPart → TagPart) : State := { s with ana := { s.ana with tag := f s.ana.tag } }
def State.tagBay (s : State) : Nat := ownerOr0 (s.ownPeriph 9)
def State.setRun (s : State) (r : TagRun) : State := s.modTag (fun x => { x with run := some r })

/-! ### Completion and selection (R814, R815) -/

/-- Whether the first `n` bits of two identifiers agree, byte 0 bit 7 first. -/
def sameBits (n : Nat) (a b : List Byte) : Bool :=
  (List.range n).all (fun i => (a.getD (i / 8) 0#8).getLsbD (7 - i % 8) == (b.getD (i / 8) 0#8).getLsbD (7 - i % 8))

/-- Word `w` of a record in the results table. -/
def State.tagWord (s : State) (i w : Nat) : Nat := s.get (R.TAG_RECi.RECORD i w)

/-- The identifier bytes of a record. -/
def State.tagId (s : State) (i : Nat) : List Byte := (List.range 8).flatMap (fun k => toLE 4 (s.tagWord i (4 + k)))

/-- A TAGS table 1 record matches a record of the results table (R815). -/
def State.tagMatch (s : State) (r : List Byte) (i : Nat) : Bool :=
  s.tagWord i 1 % 256 == C.TAGS1.ANT r && sameBits (C.TAGS1.MATCH_LEN r) (slice r 0 8) (s.tagId i)

/-- Selection for a drive unit (R815). -/
def State.tagSelect (s : State) (n : Nat) : State :=
  match s.drvRec n with
  | none => s
  | some d =>
    if C.DRVP0.PSET_TAG d ≠ 1 then s
    else
      match ((s.recs .tags 1).zipIdx.filter (fun x => C.TAGS1.DRV x.1 == n)).find? (fun x =>
          (List.range (s.get R.TAG_INV_STAT.RECORDS)).any (fun i => s.tagMatch x.1 i)) with
      | none => s
      | some (r, k) =>
        let p := C.TAGS1.PSET r
        let t := if n = 0 then ((s.put R.TAG_SEL.PSET0 p).put R.TAG_SEL.VALID0 1).put R.TAG_SEL.REC0 k
          else ((s.put R.TAG_SEL.PSET1 p).put R.TAG_SEL.VALID1 1).put R.TAG_SEL.REC1 k
        (t.flag R.TAG_IRQ_PEND.SELECT true).tagSet n p

/-- An inventory leaves PENDING (R814): status, result. -/
def State.tagEnd (s : State) (st res : Nat) : State :=
  let s := s.modTag (fun x => { x with run := none, fieldOn := false })
  let s := ((s.put R.TAG_INV_STAT.STATUS st).put R.TAG_INV_STAT.RESULT res).flag R.TAG_INV_STAT.RUNNING false
  let s := (s.put R.TAG_INV_STAMP.STAMP s.stamp).flag R.TAG_IRQ_PEND.INV_DONE true
  if st = 1 then (s.tagSelect 0).tagSelect 1 else s

/-! ### Start (R801, R803, R805) -/

/-- The lowest antenna of a mask that is not out of service. -/
def State.nextAnt (s : State) (m : Nat) : Option Nat :=
  (List.range 8).find? (fun a => m.testBit a && !((s.get R.TAG_ANT_STAT.OOS).testBit a))

/-- An inventory starts: the receiver check runs with the field off. -/
def State.tagStart (s : State) (ants protos : Nat) (one boot : Bool) : State :=
  let s := (s.resetRegs 0x40181000 0x4018D000).bump R.TAG_INV_SEQ.SEQ
  let s := ((s.put R.TAG_INV_STAT.STATUS 0).put R.TAG_INV_STAT.RESULT 0).flag R.TAG_INV_STAT.RUNNING true
  let s := ((s.flag R.TAG_INV_STAT.BOOT boot).put R.TAG_INV_STAT.RECORDS 0).put R.TAG_ANT_STAT.TOO_MANY 0
  if s.on R.TAG_ANT_STAT.READER_OOS then s.tagEnd 3 1
  else if s.railIsLow 5 then s.tagEnd 3 5
  else
    let a := (s.nextAnt ants).getD 0
    let r : TagRun := { phase := .check, ants := ants, ant := a, protos := protos, slots1 := one, proto := 0, reqs := [], kids := []
                        len := 0, mask := 0, one := false, slot := 0, qfp := 64, q := 4, frame := 0, heard := false, slots := 0
                        found := 0, tried := false, began := false, abort := false }
    s.modTag (fun x => { x with run := some r, fieldOn := false, antSel := if (s.nextAnt ants).isSome then a else x.antSel })

/-- A start while an inventory runs is counted in IGNORED (R805). -/
def State.tagGo (s : State) (ants protos : Nat) (one boot : Bool) : State :=
  if s.on R.TAG_INV_STAT.RUNNING then s.inc R.TAG_CNT2.IGNORED else s.tagStart ants protos one boot

/-- TAG_INV_CMD with GO (R805, R817, R818). -/
def State.tagCmd (s : State) (ants protos : Nat) (one : Bool) : State :=
  let ants := ants % 256
  let protos := protos % 4
  if s.on R.TAG_CTRL.EN = false then s
  else if s.on R.TAG_INV_STAT.RUNNING then s.inc R.TAG_CNT2.IGNORED
  else if ants = 0 ∨ protos = 0 ∨ andNot ants (s.get R.TAG_CFG.ANT_MASK) ≠ 0 ∨ andNot protos (s.get R.TAG_CFG.PROTO) ≠ 0 ∨
      s.has .tags = false then
    ((s.flag R.TAG_INV_STAT.BOOT false).put R.TAG_INV_STAT.RECORDS 0).tagEnd 3 4
  else s.tagStart ants protos one false

def execTagInvCmd (by_ : Init) (ants protos : Nat) (slots1 : Bool) (s : State) : Host.Outcome State Fault Refusal :=
  answer (s.byOwner by_ 9 R.TAG_INV_CMD.GO.addr (fun t => t.tagCmd ants protos slots1))

/-- TAG_AUTO_INVENTORY (R805). -/
def execTagAutoInventory (s : State) : Host.Outcome State Fault Refusal :=
  answer (if s.on R.TAG_CTRL.EN && s.get R.TAG_AUTO.PERIOD_S != 0 && s.has .tags then
    s.tagGo (s.get R.TAG_CFG.ANT_MASK) (s.get R.TAG_CFG.PROTO) false false
  else s)

/-- The boot inventory on the apply edge (R805). -/
def State.tagBoot (s : State) : State :=
  if s.recs .tags 1 = [] then s else s.tagGo (s.get R.TAG_CFG.ANT_MASK) (s.get R.TAG_CFG.PROTO) false true

/-! ### Rounds (R806, R808, R811) -/

/-- The first slot of a round. -/
def TagRun.openRound (r : TagRun) (p : Nat) : TagRun :=
  { r with phase := .slot, proto := p, reqs := [], kids := [], len := 0, mask := 0, one := r.slots1 && p == 0, slot := 0
           qfp := 64, q := 4, frame := 0, heard := false, slots := 0, found := 0, began := true }

def State.showQ (s : State) (r : TagRun) : State := (s.put R.TAG_Q.QFP r.qfp).put R.TAG_Q.Q r.q

/-- The antenna is done: the field off, and on to the next one. -/
def State.tagAntenna (s : State) (r : TagRun) : State :=
  let m := clrBit r.ants r.ant
  let s := s.modTag (fun x => { x with fieldOn := false })
  match s.nextAnt m with
  | some a => (s.modTag (fun x => { x with antSel := a })).setRun { r with phase := .antenna, ants := m, ant := a }
  | none => s.setRun { r with phase := .ended, ants := 0 }

/-- The round is over: the next protocol of the antenna, else the next antenna. -/
def State.tagNext (s : State) (r : TagRun) : State :=
  if r.proto = 0 ∧ r.protos.testBit 1 then
    let r := r.openRound 1
    (s.setRun r).showQ r
  else s.tagAntenna r

/-- The field switches on for the present antenna; FIELD_SETTLE begins (R801, R802). -/
def State.tagField (s : State) (r : TagRun) : State :=
  if s.on R.TAG_ANT_STAT.READER_OOS then s.tagEnd 3 1
  else (s.modTag (fun x => { x with fieldOn := true })).setRun { r with phase := .field }

/-- RECEIVER_CHECK_END: 0 decoded with a correct CRC, 1 no decode, 2 CRC error (R801, R803). -/
def execReceiverCheckEnd (result : Nat) (s : State) : Host.Outcome State Fault Refusal :=
  answer (match s.tagX.run with
  | none => s
  | some r =>
    if r.phase ≠ .check then s
    else if result ≠ 0 ∨ s.tagX.injRx then
      let t := s.modTag (fun x => { x with injRx := false })
      ((t.flag R.TAG_IRQ_PEND.RX_FAULT true).report t.tagBay 0x5002 0xFF (if result = 2 then 1 else 0)).tagEnd 3 5
    else if (s.nextAnt r.ants).isNone then s.setRun { r with phase := .ended }
    else if 200 < s.get R.TAG_TIMING.ANT_SETTLE then s.setRun { r with phase := .antenna }
    else s.tagField r)

/-- ANT_SETTLE_END: the field switches on (R801). -/
def execAntSettleEnd (s : State) : Host.Outcome State Fault Refusal :=
  answer (match s.tagX.run with
  | none => s
  | some r => if r.phase = .antenna then s.tagField r else s)

/-- The load check fails with the field on (R802). -/
def State.tagLoad (s : State) (r : TagRun) (load : Nat) : State :=
  let t := (s.setB R.TAG_ANT_STAT.FAULT r.ant).flag R.TAG_IRQ_PEND.ANT_FAULT true
  (t.modTag (fun x => { x with injLoad := false })).report t.tagBay 0x5001 r.ant (min load 65535) |>.tagAntenna r

/-- ANTENNA_LOAD_FAULT: the load magnitude in 0.1 Ω (R802). -/
def execAntennaLoadFault (load : Nat) (s : State) : Host.Outcome State Fault Refusal :=
  answer (match s.tagX.run with
  | none => s
  | some r => if r.phase ≠ .field ∨ (250 ≤ load ∧ load ≤ 1000) then s else s.tagLoad r load)

/-- FIELD_SETTLE_END: the load check has passed; the first command opens the first slot (R801, R802). -/
def execFieldSettleEnd (s : State) : Host.Outcome State Fault Refusal :=
  answer (match s.tagX.run with
  | none => s
  | some r =>
    if r.phase ≠ .field then s
    else if s.tagX.injLoad then s.tagLoad r 100
    else
      let t := s.clrB R.TAG_ANT_STAT.FAULT r.ant
      let r := ({ r with tried := true }).openRound (if r.protos.testBit 0 then 0 else 1)
      (t.setRun r).showQ r)

/-! ### Records (R809, R812, R813) -/

/-- The 48 bytes of a record. -/
def State.tagRecord (s : State) (r : TagRun) (bits : Nat) (id : List Byte) (level : Nat) : List Byte :=
  let n := (min bits 256 + 7) / 8
  toLE 4 s.stamp ++ toLE 1 r.ant ++ toLE 1 r.proto ++ toLE 2 (min bits 256) ++ toLE 2 (min level 65535) ++ [if 256 < bits then 1 else 0, 0] ++
    toLE 4 (s.get R.TAG_INV_SEQ.SEQ) ++ slice (id.take n ++ List.replicate 32 0) 0 32

/-- Whether an identifier is already recorded for the antenna and protocol. -/
def State.tagKnown (s : State) (d : List Byte) : Bool :=
  (List.range (s.get R.TAG_INV_STAT.RECORDS)).any (fun i =>
    s.tagWord i 1 == leAt d 4 4 && slice d 16 32 == s.tagId i)

/-- A record into the oldest fetched descriptor of the bound queue (R813). -/
def State.tagQueue (s : State) : Nat → Nat → Nat → List Byte → State
  | 0, _, _, _ => s.inc R.TAG_CNT2.QDROP
  | k + 1, q, i, d =>
    match s.agentNext q 1 with
    | none => s.inc R.TAG_CNT2.QDROP
    | some x =>
      if x.len < 48 then State.tagQueue (s.finishDesc q 1 x.idx 3 0x0802 0 s.stamp x.aux) k q i d
      else
        match s.agentWrite q 1 x 0 d with
        | (t, true) => t.finishDesc q 1 x.idx 1 0 48 (leAt d 0 4) (toLE 4 i ++ List.replicate 8 0)
        | (t, false) => t

/-- An identifier read (R812, R813). -/
def State.tagStore (s : State) (r : TagRun) (bits : Nat) (id : List Byte) (level : Nat) : State × Nat :=
  let d := s.tagRecord r bits id level
  let i := s.get R.TAG_INV_STAT.RECORDS
  if s.tagKnown d ∨ 1024 ≤ i then (s, r.found)
  else
    let s := s.forEach (List.range 12) (fun w t => t.put (R.TAG_RECi.RECORD i w) (leAt d (4 * w) 4))
    let s := (s.put R.TAG_INV_STAT.RECORDS (i + 1)).flag R.TAG_IRQ_PEND.RECORD true
    let q := s.get R.TAG_QBIND.QUEUE
    (if s.on R.TAG_QBIND.QEN then s.tagQueue ((s.qEnd q 1).inflight.length + 1) q i d else s, r.found + 1)

/-! ### Slots -/

def slotReply : TagOut → Bool
  | .reply _ _ _ => true
  | _ => false
def slotEmpty : TagOut → Bool
  | .empty => true
  | _ => false
def slotCrc : TagOut → Bool
  | .crc => true
  | _ => false

/-- An ISO/IEC 15693 slot: the round after it, and whether it has ended (R806). -/
def isoSlot (r : TagRun) (o : TagOut) : TagRun × Bool :=
  let hit := !(slotReply o) && !(slotEmpty o)
  let kids := if r.one then (if hit && !(slotCrc o) then r.kids ++ [(0, 0)] else r.kids)
    else if hit && decide (r.len < 60) then r.kids ++ [(r.len + 4, r.mask + r.slot * 2 ^ r.len)] else r.kids
  if r.one = false ∧ r.slot < 15 then ({ r with kids := kids, slot := r.slot + 1 }, false)
  else
    match kids ++ r.reqs with
    | (l, m) :: rest => ({ r with reqs := rest, kids := [], len := l, mask := m, one := false, slot := 0 }, false)
    | [] => ({ r with reqs := [], kids := [] }, true)

/-- Qfp rounded, halves up. -/
def roundQ (qfp : Nat) : Nat := (qfp + 8) / 16

/-- A Mode 3 slot (R808). -/
def modeSlot (c : Nat) (r : TagRun) (o : TagOut) : TagRun × Bool :=
  let heard := r.heard || !(slotEmpty o)
  let n := r.frame + 1
  if n = 2 ^ r.q ∧ heard = false then ({ r with frame := n }, true)
  else
    let f := if slotEmpty o then r.qfp - c else if slotReply o then r.qfp else min 240 (r.qfp + c)
    let q := roundQ f
    if q ≠ r.q then ({ r with qfp := f, q := q, frame := 0, heard := false }, false)
    else if n = 2 ^ r.q then ({ r with qfp := f, frame := 0, heard := false }, false)
    else ({ r with qfp := f, frame := n, heard := heard }, false)

/-- Counters of a slot. -/
def State.tagCount (s : State) (r : TagRun) (o : TagOut) : State :=
  match o with
  | .collision => s.inc R.TAG_CNT.COLLISIONS
  | .crc => if r.proto = 1 then (s.inc R.TAG_CNT.CRC_ERR).inc R.TAG_CNT.COLLISIONS else s.inc R.TAG_CNT.CRC_ERR
  | _ => s

/-- TAG_SLOT: the slot in progress ends as `o` (R806, R808, R809, R811, R814). -/
def execTagSlot (o : TagOut) (s : State) : Host.Outcome State Fault Refusal :=
  answer (match s.tagX.run with
  | none => s
  | some r =>
    if r.phase ≠ .slot then s
    else
      let s := s.tagCount r o
      let (s, found) := match o with
        | .reply bits id level => if r.proto = 1 ∧ bits < 16 then (s, r.found) else s.tagStore r bits id level
        | _ => (s, r.found)
      let r := { r with found := found, slots := r.slots + 1 }
      let (r, beyond) := if r.proto = 0 then isoSlot r o else modeSlot (s.get R.TAG_CFG.Q_STEP) r o
      let s := s.showQ r
      let many := !beyond && (decide (s.get R.TAG_CFG.MAX_TAGS ≤ r.found) || decide (4096 ≤ r.slots))
      let s := if many then
          ((s.setB R.TAG_ANT_STAT.TOO_MANY r.ant).flag R.TAG_IRQ_PEND.TOO_MANY true).report s.tagBay 0x5003 r.ant
            (r.found % 128 + 256 * b2n (decide (4096 ≤ r.slots)) + 512 * r.proto)
        else s
      let last := beyond && (r.proto == 1 || !(r.protos.testBit 1)) && (s.nextAnt (clrBit r.ants r.ant)).isNone
      if r.abort ∧ last = false then s.tagEnd 5 0
      else if beyond || many then s.tagNext r else s.setRun r)

/-- TAG_INVENTORY_DONE (R814). -/
def execTagInventoryDone (s : State) : Host.Outcome State Fault Refusal :=
  answer (match s.tagX.run with
  | none => s
  | some r =>
    if r.phase ≠ .ended then s
    else if s.on R.TAG_ANT_STAT.READER_OOS then s.tagEnd 3 1
    else if r.tried = false then s.tagEnd 3 2
    else s.tagEnd (if r.abort then 5 else 1) 0)

/-- ABORT (R814, R819). -/
def State.tagAbort (s : State) : State :=
  match s.tagX.run with
  | none => s
  | some r =>
    if r.began = false then s.tagEnd 2 0
    else if r.phase = .slot then s.setRun { r with abort := true }
    else if r.phase = .ended then s
    else s.tagEnd 5 0

def execTagInvAbort (by_ : Init) (s : State) : Host.Outcome State Fault Refusal :=
  answer (s.byOwner by_ 9 R.TAG_INV_ABORT.ABORT.addr (fun t => t.tagAbort))

/-! ### Apply edge and reset -/

def State.applyTag (s : State) : State :=
  if s.has .tags = false then s
  else
    let r := s.rec1 .tags 0
    let s := (s.put R.TAG_CFG.ANT_MASK (C.TAGS0.ANT_MASK r)).put R.TAG_CFG.PROTO (C.TAGS0.PROTO r)
    let s := (s.put R.TAG_CFG.Q_STEP (C.TAGS0.Q_STEP r)).put R.TAG_CFG.MAX_TAGS (C.TAGS0.MAX_TAGS r)
    (s.put R.TAG_CTRL.POWER_MW (C.TAGS0.POWER r)).tagBoot

/-- Block reset: field off, the inventory FAILED with RESULT 3; OOS, READER_OOS and TAG_SEL stay (R819, R822). -/
def State.resetTag (s : State) : State :=
  let ran := (s.tagX.run).isSome
  let oos := s.get R.TAG_ANT_STAT.OOS
  let ro := s.on R.TAG_ANT_STAT.READER_OOS
  let sel := s.word R.TAG_SEL.PSET0
  let s := (s.modTag (fun _ => TagPart.cold)).resetRegs 0x40180000 0x4018D000
  let s := ((s.put R.TAG_ANT_STAT.OOS oos).flag R.TAG_ANT_STAT.READER_OOS ro).putWord R.TAG_SEL.PSET0 sel
  let s := s.put R.TAG_CTRL.POWER_MW (if s.has .tags then C.TAGS0.POWER (s.rec1 .tags 0) else 0)
  if ran then (s.put R.TAG_INV_STAT.STATUS 3).put R.TAG_INV_STAT.RESULT 3 else s

/-- The selection that a unit loads at a release of its bay (R657, R822). -/
def State.tagHeld (s : State) (n : Nat) : Option Nat :=
  if n = 0 then (if s.on R.TAG_SEL.VALID0 then some (s.get R.TAG_SEL.PSET0) else none)
  else if s.on R.TAG_SEL.VALID1 then some (s.get R.TAG_SEL.PSET1) else none

end Sys2Proof.Machine
end

