-- ==== Sys2Proof/Machine/Pin.lean ====
section
/-! DEFINITION.
Pin commits and GPIO (chapter 24, R830 to R834, R851). -/

namespace Sys2Proof.Machine

/-! ### Commits (R830 to R833) -/

/-- The configuration that a pin has once a commit of bay `b` has acted. -/
def State.pinAfter (s : State) (b p : Nat) : Nat := if s.ownPin p = some b then s.pinShadow p else s.pinActive p

/-- Why the shadow of a pin may not be committed by bay `b`: 0, else RESULT of R832. -/
def State.pinReason (s : State) (b p : Nat) : Nat :=
  let c := s.pinShadow p
  let f := c % 16
  let sig := pinSignal p f
  if f ≠ 0 ∧ sig.isNone then 1
  else if (match sig with | some g => s.ownPeriph (signalPeriph g) != some b | none => false) then 2
  else if (match sig with
      | some g => (List.range 128).any (fun q => q != p && pinSignal q (s.pinAfter b q % 16) == some g)
      | none => false) then 3
  else if f ≠ 0 ∧ (s.recs .supp 1).any (fun r => C.SUPP1.PIN r == p) then 4
  else if parkOk (field c 4 4) = false then 5 else 0

/-- A pin takes its shadow: by the park interval where FUNC changes, else at once (R830). -/
def State.commitPin (s : State) (p : Nat) : State :=
  let c := s.pinShadow p
  if c = s.pinActive p ∨ s.on (R.PINp_ACTIVE.FAULT p) then s
  else if c % 16 = s.get (R.PINp_ACTIVE.FUNC p) then s.setActive p c else s.movePin c p

/-- A commit of bay `b` on its commit edge: DONE only if every pin of the bay is valid after it (R831, R832). -/
def State.commitBay (s : State) (b : Nat) : State :=
  let pins := (indices 128 (fun p => s.ownPin p == some b && s.pinShadow p != s.pinActive p))
  let s := s.put (R.PINb_COMMIT.ARMED b) 0
  match (indices 128 (fun p => s.ownPin p == some b)).find? (fun p => s.pinReason b p != 0) with
  | some p => ((s.put (R.PINb_COMMIT_STAT.STATUS b) 3).put (R.PINb_COMMIT_STAT.RESULT b) (s.pinReason b p)).put
      (R.PINb_COMMIT_STAT.PIN b) p
  | none =>
    let t := ((s.put (R.PINb_COMMIT_STAT.STATUS b) 1).put (R.PINb_COMMIT_STAT.RESULT b) 0).put (R.PINb_COMMIT_STAT.PIN b) 0
    t.forEach pins (fun p u => u.commitPin p)

/-- A write to PINb or GPIOb, by bay `b` alone (R846). -/
def State.byPage (s : State) (i : Init) (b addr : Nat) (f : State → State) : State := s.act i (isBay i b) 0x0C02 addr true f

/-- PIN_COMMIT_GO (R831). -/
def execPinCommitGo (by_ : Init) (b : Nat) (s : State) : Host.Outcome State Fault Refusal :=
  answer (s.byPage by_ b (R.PINb_COMMIT.GO b).addr (fun t => t.commitBay b))

/-- PIN_COMMIT_ARM (R831). -/
def execPinCommitArm (by_ : Init) (b : Nat) (s : State) : Host.Outcome State Fault Refusal :=
  answer (s.byPage by_ b (R.PINb_COMMIT.ARM b).addr (fun t => t.put (R.PINb_COMMIT.ARMED b) 1))

/-- The level that a park state gives its pad: driven, or pulled; none with high-Z and no pull (R830). -/
def parkLevel (k : Nat) : Option Bool :=
  let l := field k 0 2
  let u := field k 2 2
  if l = 0 then some false else if l = 1 then some true else if u = 1 then some true else if u = 2 then some false else none

/-- An input takes a pad level: LEVEL, GPIO_IN and the interrupt of the pin (R834, R847). -/
def State.pinLevel (s : State) (p : Nat) (v : Bool) : State :=
  let was := s.on (R.PINp_ACTIVE.LEVEL p)
  let s := s.flag (R.PINp_ACTIVE.LEVEL p) v
  let s := if (s.ownPin p).isSome then s.putB (R.GPIO_INk.IN (p / 32)) (p % 32) v else s
  let m := s.get (R.GPIOp_CFG.IRQ_MODE p)
  let hit := (m == 1 && v && !was) || (m == 2 && !v && was) || (m == 3 && (v != was)) || (m == 4 && v) || (m == 5 && !v)
  if hit && s.get (R.PINp_ACTIVE.FUNC p) == 0 && (s.ownPin p).isSome then s.setB (R.GPIO_PENDk.PEND (p / 32)) (p % 32) else s

/-- PIN_COMMIT_SWITCH: t1 and t2 of a pin in its park interval, with its pad level at t1 (R830). -/
def execPinCommitSwitch (p : Nat) (level : Bool) (s : State) : Host.Outcome State Fault Refusal :=
  answer (match s.pin.moves.find? (fun m => m.pin == p) with
  | none => s
  | some m =>
    let level := if s.flt.corrupt.contains (0x0803, p) then !level else level
    let bad := !(s.railIsLow (p / 32)) && match parkLevel m.oldPark with | some v => v != level | none => false
    let t := ((s.dropMoves p).setActive p m.target).flag (R.PINp_ACTIVE.PARKED p) false
    let t := if t.railIsLow (p / 32) then t else t.pinLevel p level
    let t := if (t.get (R.GPIOp_CFG.BIND_OUT p)) = 0 then t.driveGpio p else t
    if bad then t.report (ownerOr0 (t.ownPin p)) 0x0803 p (match parkLevel m.oldPark with | some v => b2n v | none => 0) else t)

/-! ### GPIO (R834, R847) -/

/-- The bits of bank `k` that a bay owns. -/
def State.bankMask (s : State) (b k : Nat) : Nat := (indices 32 (fun i => s.ownPin (32 * k + i) == some b)).foldl setBit 0

/-- OUT bits of bank `k` within a mask written; unbound pins drive them (R834). -/
def State.gpioOut (s : State) (k mask v : Nat) : State :=
  let s := s.put (R.GPIO_OUTk.OUT k) (andNot (s.get (R.GPIO_OUTk.OUT k)) mask + (v &&& mask))
  s.forEach (indices 32 (fun i => mask.testBit i)) (fun i t =>
    if t.on (R.GPIOp_CFG.BIND_OUT (32 * k + i)) then t else t.driveGpio (32 * k + i))

/-- GPIO_SET: every bay may write; each bit acts for the bay that owns its pin. -/
def execGpioSet (by_ : Init) (k : Nat) (w : Word) (s : State) : Host.Outcome State Fault Refusal :=
  answer (s.act by_ (!(fromAfar by_)) 0x0C02 (R.GPIO_SETk.SET k).addr true (fun t =>
    t.gpioOut k (w.toNat &&& t.bankMask by_.bay k) 0xFFFFFFFF))

/-- GPIO_CLR. -/
def execGpioClr (by_ : Init) (k : Nat) (w : Word) (s : State) : Host.Outcome State Fault Refusal :=
  answer (s.act by_ (!(fromAfar by_)) 0x0C02 (R.GPIO_CLRk.CLR k).addr true (fun t => t.gpioOut k (w.toNat &&& t.bankMask by_.bay k) 0))

/-- Bound outputs and inputs of a bay at an instant of its GPIO CIO field (R834). -/
def State.gpioInstant (s : State) (b : Nat) : State :=
  s.forEach (s.pinsOf b) (fun p t =>
    let t := if t.on (R.GPIOp_CFG.BIND_OUT p) then t.driveGpio p else t
    if t.on (R.GPIOp_CFG.BIND_IN p) then t.putB (R.GPIO_LATCHk.LATCH (p / 32)) (p % 32) (t.on (R.PINp_ACTIVE.LEVEL p)) else t)

/-- GPIO_INPUT_EDGE: the filtered level of a pin changes; a pin in its park interval holds its last one (R830, R834). -/
def execGpioInputEdge (p : Nat) (level : Bool) (s : State) : Host.Outcome State Fault Refusal :=
  answer (if s.clocked = false ∨ s.pin.moves.any (fun m => m.pin == p) ∨ s.on (R.PINp_ACTIVE.LEVEL p) = level ∨
      s.railIsLow (p / 32) then s
  else s.pinLevel p level)

/-- The SER channel whose driver enable a signal is. -/
def deOf (g : Option Nat) : Option Nat :=
  match g with
  | some k => if 64 ≤ k ∧ k < 88 ∧ k % 4 = 2 then some ((k - 64) / 4) else none
  | none => none

/-- PIN_READBACK_MISMATCH: the pad of a driven output differs from its level (R737, R851). -/
def execPinReadbackMismatch (p : Nat) (driven : Bool) (s : State) : Host.Outcome State Fault Refusal :=
  answer (
  let f := s.get (R.PINp_ACTIVE.FUNC p)
  if s.clocked = false ∨ s.on (R.PINp_ACTIVE.PARKED p) ∨ (s.ownPin p).isNone ∨ s.railIsLow (p / 32) then s
  else if f ≠ 0 then
    match deOf (pinSignal p f) with
    | some n => ((s.parkPin p).serDeFault n).report (ownerOr0 (s.ownPin p)) 0x2C03 n p
    | none => s.report (ownerOr0 (s.ownPin p)) 0x0801 p (b2n driven + 256 * f)
  else if s.pin.shed.testBit p then
    match (s.recs .supp 1).find? (fun r => C.SUPP1.PIN r == p) with
    | some r => s.report 0 0x4406 p (C.SUPP1.GROUP r)
    | none => s
  else if s.bit (R.GPIO_DIRk.DIR (p / 32)) (p % 32) then s.report (ownerOr0 (s.ownPin p)) 0x6C01 p (b2n driven)
  else s)

end Sys2Proof.Machine
end

