-- ==== Sys2Proof/Machine/TimeCmds.lean ====
section
/-! DEFINITION.
The commands of TIME (chapter 11). -/

namespace Sys2Proof.Machine

/-- Output pulses that a step of traceable time fired trigger their converters (R417, R418). -/
def State.tevTriggers (old s : State) : State :=
  s.forEach (indices 8 (fun n => old.on (R.TEVn_STAT.ARMED n) && !(s.on (R.TEVn_STAT.ARMED n)))) (fun n t => t.adcTev n)

/-! ### Steady time -/

/-- STEADY_HALFWRAP: the bit of every configured bay; B31 follows steady time at each read (R401). -/
def execSteadyHalfwrap (s : State) : Host.Outcome State Fault Refusal :=
  answer (s.put R.TIME_HALFWRAP.PEND (s.bays.foldl setBit (s.get R.TIME_HALFWRAP.PEND)))

/-- The words at 0x0004 to 0x0014 of a latch (R424, R425); traceable time reads 0 while INVALID. -/
def TimeLatch.words (l : TimeLatch) : List Nat :=
  let tr : Nat := (l.trace.getD 0).toNat
  let sec := tr / 4294967296 / 1000000000
  [l.q / 18446744073709551616 % 4294967296, l.q % 4294967296, sec % 4294967296,
   sec / 4294967296 % 65536 + 65536 * (tr % 4294967296 / 65536), tr / 4294967296 % 1000000000]

/-- The latch of an initiator. -/
def State.latchOf (s : State) (i : Init) : TimeLatch :=
  (s.time.latches.find? (fun l => l.bay == i.bay && l.kind == i.kind && l.inst == i.inst)).getD ⟨i.bay, i.kind, i.inst, 0, none⟩

/-- TIME_STEADY_LO: steady time, its fraction and traceable time latched for the reader alone (R424). -/
def State.latchTime (s : State) (i : Init) : State :=
  let others := s.time.latches.filter (fun l => !(l.bay == i.bay && l.kind == i.kind && l.inst == i.inst))
  State.reply1 { s with time := { s.time with latches := ⟨i.bay, i.kind, i.inst, s.time.q, s.traceQ⟩ :: others } }
    (s.now % 4294967296)

def execTimeSteadyLo (by_ : Init) (s : State) : Host.Outcome State Fault Refusal :=
  answer (s.act by_ (!(fromAfar by_)) 0x0C02 R.TIME_STEADY_LO.NS.addr false (fun t => t.latchTime by_))

/-- STEADY_COUNTER_MISMATCH: `x` is inverted in the duplicate's integer nanoseconds (R430, R431). -/
def execSteadyCounterMismatch (x : Nat) (s : State) : Host.Outcome State Fault Refusal :=
  answer (if s.clocked = false then s
  else
    let d := (s.time.dup / 4294967296 ^^^ x) * 4294967296 + s.time.dup % 4294967296
    let t := { s with time := { s.time with dup := d } }
    if d = s.time.q then t
    else t.report 0 0x1C05 0 ((s.time.q / 4294967296 ^^^ d / 4294967296) % 4294967296))

/-! ### Servo hooks (R408 to R410) -/

/-- A write to a servo hook: one by any other initiator is ignored and raises no fault (R408). -/
def State.byHook (s : State) (i : Init) (f : State → State) : State :=
  if s.live i.bay && s.hookWriter i then f s else s

/-- TIME_SRV_RATE (R398, R399). -/
def execTimeSrvRate (by_ : Init) (w : Word) (s : State) : Host.Outcome State Fault Refusal :=
  answer (s.byHook by_ (fun t => t.setAdj w.toInt))

/-- TIME_SRV_CORR: the write of TIME_SRV_CORR_HI (R409). -/
def execTimeSrvCorr (by_ : Init) (w : Word) (s : State) : Host.Outcome State Fault Refusal :=
  answer (s.byHook by_ (fun t =>
    let t := t.put R.TIME_SRV_CORR_HI.CORR w.toNat
    State.tevTriggers t (t.submitCorr (signed 64 (t.get R.TIME_SRV_CORR_LO.CORR + 4294967296 * w.toNat)))))

/-- TIME_SRC_TIMEOUT (R410). -/
def execTimeSrcTimeout (s : State) : Host.Outcome State Fault Refusal :=
  answer (if s.cfg.isEmpty || !s.clocked then s
  else
    let st := if s.time.state = .tracking then .freerun else s.time.state
    let s := ((s.flag R.TIME_STATUS.SRC_OK false).flag R.TIME_IRQ_PEND.SRC_LOST true).report 0 0x1C03 0 (s.get R.TIME_CFG2.SOURCE)
    State.showTime { s with time := { s.time with state := st } })

/-- SLEW_END: the whole amount has been applied (R407, R414). -/
def execSlewEnd (s : State) : Host.Outcome State Fault Refusal :=
  answer (if s.on R.TIME_STATUS.SLEWING then
    let s := State.showTime { s with time := { s.time with ofs := s.time.ofs + s.time.slew, slew := 0 } }
    (s.flag R.TIME_IRQ_PEND.SLEW_DONE true).journal 1
  else s)

/-- JOURNAL_PERIODIC (R414). -/
def execJournalPeriodic (s : State) : Host.Outcome State Fault Refusal := answer (if s.clocked then s.journal 0 else s)

/-- PAIR_TIME_FOLLOW (R588). -/
def execPairTimeFollow (corr : Bool) (s : State) : Host.Outcome State Fault Refusal :=
  answer (State.tevTriggers s (s.pairFollow corr))

/-! ### Commands of BAY0 (R411) -/

/-- TIME_CMD with OP 1. -/
def execTimeStep (by_ : Init) (s : State) : Host.Outcome State Fault Refusal :=
  answer (s.byBay0 by_ R.TIME_CMD.OP.addr (fun t => State.tevTriggers t (t.timeCmd 1)))

/-- TIME_CMD with OP 2. -/
def execTimeSlew (by_ : Init) (s : State) : Host.Outcome State Fault Refusal :=
  answer (s.byBay0 by_ R.TIME_CMD.OP.addr (fun t => t.timeCmd 2))

/-- TIME_CMD with OP 3. -/
def execTimeSet (by_ : Init) (s : State) : Host.Outcome State Fault Refusal :=
  answer (s.byBay0 by_ R.TIME_CMD.OP.addr (fun t => State.tevTriggers t (t.timeCmd 3)))

/-! ### Time-event outputs (R416 to R420) -/

/-- Whether an arming may set ARMED (R416). -/
def State.tevOk (s : State) (n : Nat) : Bool :=
  let per := s.get (R.TEVn_PERIOD.NS n)
  let wid := s.get (R.TEVn_WIDTH.NS n)
  decide (1000 ≤ per) && wid != 0 && !(s.on (R.TEVn_CTRL.PERIODIC n) && decide (per ≤ wid)) &&
  !(s.on (R.TEVn_CTRL.BASE n) && s.time.state == .invalid)

/-- A write of TEVn_TGT_HI (R416, R417). -/
def State.tevArm (s : State) (n hi : Nat) : State :=
  let s := s.put (R.TEVn_TGT_HI.TGT n) hi
  if s.on (R.TEVn_CTRL.EN n) = false then s
  else
    let s := s.flag (R.TEVn_STAT.ARMED n) false
    if s.tevOk n = false then s
    else (s.flag (R.TEVn_STAT.ARMED n) true).modTev n (fun x =>
      { x with next := s.tevTarget n, first := none, late := decide (s.tevTarget n < s.tevNow n + 64) })

/-- TEV_ARM. -/
def execTevArm (by_ : Init) (n : Nat) (hi : Word) (s : State) : Host.Outcome State Fault Refusal :=
  answer (s.byOwner by_ (44 + n) (R.TEVn_TGT_HI.TGT n).addr (fun t => t.tevArm n hi.toNat))

/-- TEV_FIRE: the edge at which the base reaches the next boundary, or 64 ns after a late arming (R417). -/
def execTevFire (n : Nat) (s : State) : Host.Outcome State Fault Refusal :=
  answer (if s.clocked && s.on (R.TEVn_STAT.ARMED n) && ((s.tevAt n).late || decide ((s.tevAt n).next ≤ s.tevNow n)) && s.live (ownerOr0 (s.ownPeriph (44 + n))) then
    (s.tevFire n (s.tevAt n).late).adcTev n else s)

/-- TEV_PULSE_END (R417, R420). -/
def execTevPulseEnd (n : Nat) (s : State) : Host.Outcome State Fault Refusal :=
  answer (s.modTev n (fun x => { x with pulse := false }))

/-- EN of a TEV written (R420). -/
def State.tevEn (s : State) (n : Nat) (en : Bool) : State :=
  let s := s.flag (R.TEVn_CTRL.EN n) en
  if en then s else s.flag (R.TEVn_STAT.ARMED n) false

/-- TEV_DISARM. -/
def execTevDisarm (by_ : Init) (n : Nat) (s : State) : Host.Outcome State Fault Refusal :=
  answer (s.byOwner by_ (44 + n) (R.TEVn_CTRL.EN n).addr (fun t => t.tevEn n false))

/-! ### Capture inputs (R421) -/

/-- COUNT, LEVEL and STAMP show the store (R428). -/
def State.showTcap (s : State) (n : Nat) : State :=
  let l := s.time.tcap.getD n []
  let h := l.headD (0, false)
  ((s.put (R.TCAPn_STAT.COUNT n) l.length).flag (R.TCAPn_STAT.LEVEL n) h.2).put (R.TCAPn_STAMP.STAMP n) h.1

def State.setTcap (s : State) (n : Nat) (l : List (Nat × Bool)) : State :=
  State.showTcap { s with time := { s.time with tcap := updAt s.time.tcap n (fun _ => l) } } n

/-- An edge of a capture input with its stamp under R403. -/
def State.tcapEdge (s : State) (n : Nat) (rise : Bool) (stamp : Nat) : State :=
  if (s.get (R.TCAPn_CTRL.EDGE n)).testBit (if rise then 0 else 1) = false then s
  else
    let near := match s.time.tcapLast.getD n none with
      | some l => decide ((stamp + 4294967296 - l) % 4294967296 < 8) | none => false
    if near then s.flag (R.TCAPn_STAT.GLITCH n) true
    else
      let s := { s with time := { s.time with tcapLast := updAt s.time.tcapLast n (fun _ => some stamp) } }
      let l := s.time.tcap.getD n []
      if 8 ≤ l.length then (s.flag (R.TCAPn_STAT.OVR n) true).report (ownerOr0 (s.ownPeriph (52 + n))) 0x1C06 n l.length
      else s.setTcap n (l ++ [(stamp, rise)])

/-- TCAP_EDGE. -/
def execTcapEdge (n : Nat) (rise : Bool) (stamp : Nat) (s : State) : Host.Outcome State Fault Refusal :=
  answer (if s.clocked && s.live (ownerOr0 (s.ownPeriph (52 + n))) && (s.ownPeriph (52 + n)).isSome then
    s.tcapEdge n rise (stamp % 4294967296) else s)

/-- TCAP_STAMP: the oldest stamp, 0 if none (R428). -/
def execTcapStamp (by_ : Init) (n : Nat) (s : State) : Host.Outcome State Fault Refusal :=
  answer (s.act by_ (s.holds by_ (52 + n)) 0x0C02 (R.TCAPn_STAMP.STAMP n).addr false (fun t =>
    let l := t.time.tcap.getD n []
    (t.reply1 (l.headD (0, false)).1).setTcap n (l.drop 1)))

/-- Block reset of a TEV output: its page; its pulse was cut at t0 (R429, R433). -/
def State.resetTev (s : State) (n : Nat) : State :=
  (s.resetRegs (0x40061000 + 0x100 * n) (0x40061100 + 0x100 * n)).modTev n (fun _ => Tev.cold)

/-- Block reset of a capture input. -/
def State.resetTcap (s : State) (n : Nat) : State :=
  { s.resetRegs (0x40062000 + 0x100 * n) (0x40062100 + 0x100 * n) with
    time := { s.time with tcap := updAt s.time.tcap n (fun _ => []), tcapLast := updAt s.time.tcapLast n (fun _ => none) } }

end Sys2Proof.Machine
end

