-- ==== Sys2Proof/Machine/BitRec.lean ====
section
/-! DEFINITION.
The content checks of single records of a bitstream (chapter 02, R50 to R83, and the ranges that the block
chapters add). -/

namespace Sys2Proof.Machine

/-- A failed check: its code and the file offset reported with it (R84, R85). -/
abbrev BsErr := Nat × Nat

/-- The first failure of a list of checks. -/
def firstErr : List (Option BsErr) → Option BsErr
  | [] => none
  | some e :: _ => some e
  | none :: t => firstErr t

def failIf (b : Bool) (code off : Nat) : Option BsErr := if b then some (code, off) else none

/-- The first code whose condition holds (R85). -/
def firstCode : List (Bool × Nat) → Option Nat
  | [] => none
  | (b, c) :: t => if b then some c else firstCode t

def bsTable : Nat := 0x0131
def bsRange : Nat := 0x0132
def bsOwn : Nat := 0x0133
def bsShare : Nat := 0x0134
def bsCore : Nat := 0x0135
def bsRef : Nat := 0x0136
def bsSched : Nat := 0x0137
def bsMirror : Nat := 0x0138
def bsDelta : Nat := 0x0139

/-! ### The configuration that a file produces, as far as it has been read -/

/-- A record added to a table of a section. -/
def addRec (c : List Sect) (t : Tag) (n : Nat) (r : List Byte) : List Sect :=
  let c := if cfgHas c t then c else c ++ [⟨t, []⟩]
  c.map (fun x =>
    if x.tag = t then
      let ts := if x.tables.any (fun y => y.num == n) then x.tables else x.tables ++ [⟨n, []⟩]
      { x with tables := ts.map (fun y => if y.num = n then { y with recs := y.recs ++ [r] } else y) }
    else x)

/-- What a content check sees: the device, the kind of the file, the target bay, the records read so far with those
that stand, the sections that the file carries, and the configuration before it. -/
structure BsEnv where
  dev : State
  full : Bool
  bay : Nat
  vis : List Sect
  carries : List Tag
  run : List Sect
  deriving DecidableEq, Repr

def BsEnv.recs (e : BsEnv) (t : Tag) (n : Nat) : List (List Byte) := cfgRecs e.vis t n
def BsEnv.sys (e : BsEnv) : List Byte := (e.recs .sys 0).headD []
/-- The owner of a PERIPH resource in the records read. -/
def BsEnv.periph (e : BsEnv) (i : Nat) : Option Nat := cfgOwner e.vis (fun r => (C.BAYS0.PERIPH r).testBit i)
def BsEnv.reel (e : BsEnv) (i : Nat) : Option Nat := cfgOwner e.vis (fun r => (C.BAYS0.REELS r).testBit i)
def BsEnv.bank (e : BsEnv) (i : Nat) : Option Nat := cfgOwner e.vis (fun r => (C.BAYS0.BANKS r).testBit i)
def BsEnv.mbx (e : BsEnv) (i : Nat) : Option Nat := cfgOwner e.vis (fun r => (C.BAYS0.MBX r).testBit i)
def recQueue (r : List Byte) (q : Nat) : Bool :=
  decide (C.BAYS0.QUEUE_BASE r ≤ q) && decide (q < C.BAYS0.QUEUE_BASE r + C.BAYS0.QUEUE_COUNT r)
def BsEnv.queue (e : BsEnv) (i : Nat) : Option Nat := cfgOwner e.vis (fun r => recQueue r i)
def BsEnv.bayRec (e : BsEnv) (b : Nat) : Option (List Byte) := cfgBay e.vis b
def BsEnv.hasCore (e : BsEnv) (b : Nat) : Bool := match e.bayRec b with | some r => C.BAYS0.CORES r != 0 | none => false
/-- Whether a mailbox (kind 0) or queue (kind 1) is granted, and to a given bay. -/
def BsEnv.granted (e : BsEnv) (k n : Nat) : Bool := (e.recs .bays 1).any (fun r => C.BAYS1.KIND r == k && C.BAYS1.NUMBER r == n)
def BsEnv.grantedTo (e : BsEnv) (k n b : Nat) : Bool :=
  (e.recs .bays 1).any (fun r => C.BAYS1.KIND r == k && C.BAYS1.NUMBER r == n && (C.BAYS1.BAY_A r == b || C.BAYS1.BAY_B r == b))
/-- Whether a LINK table 3 record gives a bay a resource of another member. -/
def BsEnv.remote (e : BsEnv) (b res : Nat) : Bool := (e.recs .link 3).any (fun r => C.LINK3.BAY r == b && C.LINK3.RES r == res)
/-- Whether LINK stands behind this point: in the file, or kept by a delta. -/
def BsEnv.linkLater (e : BsEnv) : Bool := e.carries.contains .link || (!e.full && cfgHas e.run .link)
def BsEnv.drvpLater (e : BsEnv) : Bool := e.carries.contains .drvp || (!e.full && cfgHas e.run .drvp)

/-- Whether listed bytes of a record are all zero. -/
def zeroAt (r : List Byte) (l : List Nat) : Bool := l.all (fun i => beAt r i 1 == 0)
def upTo (a b : Nat) : List Nat := (List.range (b + 1 - a)).map (fun i => a + i)

/-! ### SYS and BAYS (R54 to R61, R80, R82, R83, R135, R147, R159, R169, R471) -/

def sys0Code (e : BsEnv) (r : List Byte) : Option Nat :=
  let m := C.SYS0.ETH_MODE r
  let l := C.SYS0.LANE_EN r
  let h := (C.SYS0.HOST r).testBit 1
  firstCode [(
    decide (3 < C.SYS0.CORE_MODE r) || (decide (11 < C.SYS0.SPARE_REEL r) && C.SYS0.SPARE_REEL r != 0xFF) ||
    C.SYS0.PARK_TIME r == 0 || decide (1 < C.SYS0.CLK_SRC r) || C.SYS0.CLK_SRC r != e.dev.get R.SYS_CLK_STATUS.REF_KIND ||
    field m 4 2 == 3 || field m 6 2 == 3 || (field m 0 2 != 0 && !(l.testBit 0)) || (field m 2 2 != 0 && !(l.testBit 1)) ||
    (l.testBit 6 != h) || (l.testBit 7 != h) || decide (15 < C.SYS0.WAKE_SRC r) || decide (3 < C.SYS0.HOST r) ||
    decide (1 < C.SYS0.FLASH r) || decide (1 < C.SYS0.DEBUG r) || !(zeroAt r (upTo 10 15)), bsRange)]

/-- Lines that an IRQ mask may set: those whose source the record owns (R147). -/
def irqOk (r : List Byte) : Bool :=
  let p := C.BAYS0.PERIPH r
  let i := C.BAYS0.IRQ r
  (List.range 64).all (fun l => !(i.testBit l) ||
    (if l < 8 then p % 64 == 63 else if l < 62 then p.testBit (l - 2) else false))

def entryOk (r : List Byte) : Bool :=
  let a := C.BAYS0.ENTRY r
  if C.BAYS0.CORES r = 0 then a == 0
  else match regionOf a with
    | .xip => true
    | .bank n => (C.BAYS0.BANKS r).testBit n
    | _ => false

/-- Whether two records own a common core, engine, bank, PERIPH bit, mailbox, line or queue. -/
def bayClash (a b : List Byte) : Bool :=
  (C.BAYS0.CORES a &&& C.BAYS0.CORES b) != 0 || (C.BAYS0.REELS a &&& C.BAYS0.REELS b) != 0 ||
  (C.BAYS0.BANKS a &&& C.BAYS0.BANKS b) != 0 || (C.BAYS0.PERIPH a &&& C.BAYS0.PERIPH b) != 0 ||
  (C.BAYS0.MBX a &&& C.BAYS0.MBX b) != 0 || (C.BAYS0.IRQ a &&& C.BAYS0.IRQ b) != 0 ||
  (List.range 256).any (fun q => recQueue a q && recQueue b q)

def spareOwned (e : BsEnv) (r : List Byte) : Bool := (C.BAYS0.REELS r).testBit (C.SYS0.SPARE_REEL e.sys)

/-- Whether a port whose ETH_MODE is on lacks one of its 24 queues in the record that owns it (R471). -/
def ethMode (e : BsEnv) (n : Nat) : Nat := field (C.SYS0.ETH_MODE e.sys) (2 * n) 2
def portQueuesBad (e : BsEnv) (r : List Byte) : Bool :=
  (List.range 4).any (fun n => ethMode e n != 0 && (C.BAYS0.PERIPH r).testBit (10 + n) &&
    (List.range 24).any (fun k => !(recQueue r (24 * n + k))))

/-- Whether a pair set in CORE_MODE is owned in part. -/
def halfPair (e : BsEnv) (r : List Byte) : Bool :=
  (List.range 2).any (fun p => (C.SYS0.CORE_MODE e.sys).testBit p && (let c := C.BAYS0.CORES r / 4 ^ p % 4; c == 1 || c == 2))

/-- Whether a pair set in CORE_MODE belongs to no bay. -/
def pairLost (e : BsEnv) (l : List (List Byte)) : Bool :=
  (List.range 2).any (fun p => (C.SYS0.CORE_MODE e.sys).testBit p && !(l.any (fun r => C.BAYS0.CORES r / 4 ^ p % 4 == 3)))

/-- A PERIPH resource that a Trestle claim holds (R628 collision of a claim and a delta). -/
def claimHeld (e : BsEnv) (p : Nat) : Bool := e.dev.link.trs.claims.any (fun c => c.res == p)

def bays0Code (e : BsEnv) (r : List Byte) : Option Nat :=
  let b := C.BAYS0.BAY r
  let others := (e.recs .bays 0).filter (fun x => C.BAYS0.BAY x != b || e.full)
  let wdt := C.BAYS0.FLAGS r
  let shares := others.foldl (fun n x => n + C.BAYS0.SHARE x) (C.BAYS0.SHARE r)
  let quotas := others.foldl (fun n x => n + C.BAYS0.DESC_QUOTA x) (C.BAYS0.DESC_QUOTA r)
  let low := C.BAYS0.PERIPH r % 64
  let clash := others.any (bayClash r)
  let none_ := C.BAYS0.CORES r == 0 && C.BAYS0.REELS r == 0 && C.BAYS0.BANKS r == 0 && C.BAYS0.QUEUE_COUNT r == 0 &&
    C.BAYS0.PERIPH r == 0 && C.BAYS0.MBX r == 0 && C.BAYS0.IRQ r == 0
  firstCode [
    (!e.full && b != e.bay, bsDelta),
    (decide (7 < b) || decide (1 < wdt) || decide (64 < C.BAYS0.SHARE r) || decide (15 < C.BAYS0.CORES r) ||
     decide (4095 < C.BAYS0.REELS r) || ((wdt == 1) == (C.BAYS0.WDT_TIMEOUT r == 0)) || (wdt == 1 && C.BAYS0.CORES r == 0) ||
     decide (32768 < C.BAYS0.DESC_QUOTA r) || decide (255 < C.BAYS0.QUEUE_BASE r) || decide (256 < C.BAYS0.QUEUE_COUNT r) ||
     decide (256 < C.BAYS0.QUEUE_BASE r + C.BAYS0.QUEUE_COUNT r) || !(entryOk r) || decide (2 ^ 60 ≤ C.BAYS0.PERIPH r) ||
     !(irqOk r) || !(zeroAt r ([14, 15] ++ upTo 48 63)), bsRange),
    (e.full && ((if b = 0 then low != 63 else low != 0) || clash || spareOwned e r), bsOwn),
    (decide (64 < shares) || decide (32768 < quotas), bsShare),
    (halfPair e r || (!e.full && pairLost e (r :: others)), bsCore),
    (portQueuesBad e r, bsRef),
    (!e.full && (clash || spareOwned e r || (b == 0 && low != 63) || none_ ||
      (List.range 64).any (fun p => (C.BAYS0.PERIPH r).testBit p && claimHeld e p) ||
      (cfgRecs e.run .bays 1).any (fun g =>
        if C.BAYS1.KIND g = 0 then (C.BAYS0.MBX r).testBit (C.BAYS1.NUMBER g) else recQueue r (C.BAYS1.NUMBER g))), bsDelta)]

def bays1Code (e : BsEnv) (r : List Byte) : Option Nat :=
  let k := C.BAYS1.KIND r
  let n := C.BAYS1.NUMBER r
  let a := C.BAYS1.BAY_A r
  let b := C.BAYS1.BAY_B r
  let old := (cfgRecs e.run .bays 1).contains r
  let heldBefore := if k = 0 then (cfgOwner e.run (fun x => (C.BAYS0.MBX x).testBit n)).isSome
    else (cfgOwner e.run (fun x => recQueue x n)).isSome
  firstCode [
    (decide (1 < k) || (k == 0 && decide (63 < n)) || decide (7 < a) || decide (7 < b) || decide (1 < C.BAYS1.DIR r) ||
     (k == 0 && C.BAYS1.DIR r != 0) || !(zeroAt r [5, 6, 7]), bsRange),
    (!(!e.full && heldBefore) && ((if k = 0 then (e.mbx n).isSome else (e.queue n).isSome) || (e.bayRec a).isNone ||
      (e.bayRec b).isNone || a == b), bsOwn),
    (k == 1 && (List.range 4).any (fun p => ethMode e p != 0 && decide (24 * p ≤ n) && decide (n < 24 * p + 24)), bsRef),
    (!e.full && ((a != e.bay && b != e.bay) || (!old && (heldBefore ||
      (cfgRecs e.run .bays 1).any (fun g => C.BAYS1.KIND g == k && C.BAYS1.NUMBER g == n)))), bsDelta)]

/-! ### MEMB and PINS (R63 to R66, R80, R845) -/

def memb0Code (e : BsEnv) (r : List Byte) : Option Nat :=
  firstCode [
    (decide (31 < C.MEMB0.BANK r) || decide (1 < C.MEMB0.MTEST r) || decide (C.MEMB0.MTEST_INT r < 10) ||
     decide (1 < C.MEMB0.ZERO r) || !(zeroAt r [5, 6, 7]), bsRange),
    ((e.bank (C.MEMB0.BANK r)).isNone, bsRef),
    (!e.full && e.bank (C.MEMB0.BANK r) != some e.bay, bsDelta)]

def memb1Code (e : BsEnv) (r : List Byte) : Option Nat :=
  firstCode [
    (!(e.hasCore (C.MEMB1.BAY r)) || !(zeroAt r [1, 4, 5, 6, 7]), bsRange),
    (C.MEMB1.WAYS r == 0 || (e.recs .memb 1).any (fun x => (C.MEMB1.WAYS x &&& C.MEMB1.WAYS r) != 0), bsOwn),
    (!e.full && C.MEMB1.BAY r != e.bay, bsDelta)]

def pins0Code (e : BsEnv) (r : List Byte) : Option Nat :=
  let p := C.PINS0.PIN r
  let f := C.PINS0.FUNC r
  let sig := pinSignal p f
  let dup := match sig with
    | some g => (e.recs .pins 0).any (fun x => pinSignal (C.PINS0.PIN x) (C.PINS0.FUNC x) == some g)
    | none => false
  let owned := match sig with
    | some g => e.periph (signalPeriph g) == some (C.PINS0.BAY r) || e.linkLater
    | none => true
  firstCode [
    (decide (127 < p) || decide (7 < C.PINS0.BAY r) || decide (8 < f) || decide (15 < C.PINS0.PARK r) || !(parkOk (C.PINS0.PARK r)) ||
     (C.PINS0.DRIVE r &&& 0xEC) != 0 || decide (7 < C.PINS0.INPUT r) || decide (3 < C.PINS0.GPIO_INIT r) ||
     (f != 0 && C.PINS0.GPIO_INIT r != 0) || (f != 0 && sig.isNone) || dup || !(zeroAt r [7]), bsRange),
    ((e.bayRec (C.PINS0.BAY r)).isNone || !owned, bsRef),
    (!e.full && (C.PINS0.BAY r != e.bay || (e.recs .pins 0).any (fun x => C.PINS0.PIN x == p) ||
      e.dev.link.trs.claims.any (fun c => decide (c.pinFirst ≤ p) && decide (p < c.pinFirst + c.pinCount))), bsDelta)]

/-! ### IMGS and QDRS (R67 to R70, R452, R458, R542) -/

def imgs0Code (e : BsEnv) (r : List Byte) : Option Nat :=
  let o := e.reel (C.IMGS0.REEL r)
  let b := o.getD 99
  firstCode [
    (decide (11 < C.IMGS0.REEL r) || C.IMGS0.IMAGE_ID r == 0 || decide (12 < C.IMGS0.IMAGE_ID r) || decide (1 < C.IMGS0.SOURCE r) ||
     decide (63 < C.IMGS0.CMD_MBX r) || decide (255 < C.IMGS0.QBASE r) || C.IMGS0.QCOUNT r == 0 || decide (64 < C.IMGS0.QCOUNT r) ||
     decide (256 < C.IMGS0.QBASE r + C.IMGS0.QCOUNT r) || decide (2 ^ 14 ≤ C.IMGS0.PORTS r) ||
     (C.IMGS0.SOURCE r == 1 && C.IMGS0.FLASH_OFFSET r != 0) || !(zeroAt r [11]), bsRange),
    (o.isNone ||
     (List.range 14).any (fun p => (C.IMGS0.PORTS r).testBit p && e.periph (10 + p) != o && !e.linkLater) ||
     (e.mbx (C.IMGS0.CMD_MBX r) != o && !(e.grantedTo 0 (C.IMGS0.CMD_MBX r) b)) ||
     (List.range (C.IMGS0.QCOUNT r)).any (fun k => e.queue (C.IMGS0.QBASE r + k) != o && !(e.grantedTo 1 (C.IMGS0.QBASE r + k) b)) ||
     (C.IMGS0.IMAGE_ID r == 1 && (C.IMGS0.PORTS r % 256 != 0 || popCount 14 (C.IMGS0.PORTS r) != 1)), bsRef),
    (!e.full && o != some e.bay, bsDelta)]

def imgs1Code (e : BsEnv) (r : List Byte) : Option Nat :=
  let im := (e.recs .imgs 0).find? (fun x => C.IMGS0.REEL x == C.IMGS1.REEL r)
  firstCode [
    (im.isNone || !(zeroAt r [1]) ||
     (match im with | some x => (paramInfo (C.IMGS0.IMAGE_ID x) (C.IMGS1.PARAM_ID r)).isNone | none => false), bsRange),
    (!e.full && e.reel (C.IMGS1.REEL r) != some e.bay, bsDelta)]

def qdrs0Code (e : BsEnv) (r : List Byte) : Option Nat :=
  let n := C.QDRS0.N_CYCLES r
  let l := C.QDRS0.CYCLE_LEN r
  let o := e.periph (38 + C.QDRS0.CTX r)
  firstCode [
    (decide (3 < C.QDRS0.CTX r) || n == 0 || decide (64 < n) || decide (1 < C.QDRS0.REDUND r) || decide (l < 2500) ||
     decide (25000000 < l) || decide (n * l ≤ C.QDRS0.PHASE r) || !(zeroAt r [3, 12, 13, 14, 15]), bsRange),
    (o.isNone, bsRef),
    (!e.full && o != some e.bay, bsDelta)]

/-- The matrix record of a context. -/
def BsEnv.ctxRec (e : BsEnv) (c : Nat) : Option (List Byte) := (e.recs .qdrs 0).find? (fun x => C.QDRS0.CTX x == c)

/-- The ports that a window governs (R452). -/
def bsPorts (w : List Byte) : List Nat :=
  let p := C.QDRS1.PORT w
  if C.QDRS1.CHAN w = 0 then [p] else if C.QDRS1.CHAN w = 1 then [p + 1] else [p, p + 1]

def bsShares (a b : List Byte) : Bool := (bsPorts a).any (fun p => (bsPorts b).contains p)
def bsEnd (w : List Byte) : Nat := C.QDRS1.OFFSET w + C.QDRS1.LENGTH w
def bsOverlap (a b : List Byte) : Bool := decide (C.QDRS1.OFFSET a < bsEnd b) && decide (C.QDRS1.OFFSET b < bsEnd a)

/-- Whether a port is the even one of a pair of R452. -/
def pairPort (p : Nat) : Bool := decide (p < 8) && p % 2 == 0

def qdrs1Code (e : BsEnv) (r : List Byte) : Option Nat :=
  let c := e.ctxRec (C.QDRS1.CTX r)
  let n := match c with | some x => C.QDRS0.N_CYCLES x | none => 64
  let len := match c with | some x => C.QDRS0.CYCLE_LEN x | none => 25000000
  let red := match c with | some x => C.QDRS0.REDUND x == 1 | none => false
  let p := C.QDRS1.PORT r
  let sd := C.QDRS1.SENDER r
  let ch := C.QDRS1.CHAN r
  let others := e.recs .qdrs 1
  let cyc := others.filter (fun x => C.QDRS1.CTX x == C.QDRS1.CTX r && C.QDRS1.CYCLE x == C.QDRS1.CYCLE r)
  let o := e.periph (38 + C.QDRS1.CTX r)
  firstCode [
    (decide (3 < C.QDRS1.CTX r) || decide (n ≤ C.QDRS1.CYCLE r) || decide (63 < C.QDRS1.WIN r) || decide (3 < C.QDRS1.KIND r) ||
     decide (C.QDRS1.LENGTH r < 250) || decide (13 < p) || decide (2 < ch) || !(zeroAt r [15]) ||
     (C.QDRS1.KIND r != 0 && sd != 0xFF) || (sd != 0xFF && decide ((if p < 4 then 7 else if p < 8 then 31 else 0) < sd)) ||
     (decide (8 ≤ p) && (C.QDRS1.KIND r == 1 || C.QDRS1.KIND r == 3)), bsRange),
    (c.isSome && (if ch = 0 ∨ (red && pairPort p) then bsPorts r else []).any (fun q => e.periph (10 + q) != o), bsRef),
    (c.isNone || decide (len < bsEnd r) || (ch != 0 && !red) || (ch != 0 && !(pairPort p)) ||
     cyc.any (fun x => bsShares r x && bsOverlap r x) ||
     others.any (fun x => C.QDRS1.CTX x != C.QDRS1.CTX r && bsShares r x), bsSched),
    (!e.full && o != some e.bay, bsDelta)]

def qdrs2Code (e : BsEnv) (r : List Byte) : Option Nat :=
  let c := e.ctxRec (C.QDRS2.CTX r)
  let n := match c with | some x => C.QDRS0.N_CYCLES x | none => 64
  let len := match c with | some x => C.QDRS0.CYCLE_LEN x | none => 25000000
  firstCode [
    (decide (3 < C.QDRS2.CTX r) || decide (n ≤ C.QDRS2.CYCLE r) || decide (3 < C.QDRS2.INST r) || decide (len ≤ C.QDRS2.OFFSET r) ||
     !(zeroAt r [3]), bsRange),
    (c.isNone || (e.recs .qdrs 2).any (fun x => C.QDRS2.CTX x == C.QDRS2.CTX r && C.QDRS2.CYCLE x == C.QDRS2.CYCLE r &&
      decide (C.QDRS2.OFFSET r ≤ C.QDRS2.OFFSET x)), bsSched),
    (!e.full && e.periph (38 + C.QDRS2.CTX r) != some e.bay, bsDelta)]

/-- Merged windows of one cycle, with their offsets: the first that begins nowhere an arbitrating or merged window of
a port it governs ends (R438, R458). -/
def mergedBad (l : List (Nat × List Byte)) : Option Nat :=
  match l.find? (fun x => C.QDRS1.KIND x.2 == 3 && (bsPorts x.2).any (fun p =>
      !(l.any (fun y => (C.QDRS1.KIND y.2 == 1 || C.QDRS1.KIND y.2 == 3) && (bsPorts y.2).contains p &&
        bsEnd y.2 == C.QDRS1.OFFSET x.2)))) with
  | some x => some x.1
  | none => none

/-! ### TIME, SUPP and FLTP (R71, R269, R422, R717, R750) -/

def time0Code (e : BsEnv) (r : List Byte) : Option Nat :=
  let src := C.TIME0.SOURCE r
  let rl := C.TIME0.SOURCE_REEL r
  let trim := signed 32 (C.TIME0.RATE_TRIM r)
  firstCode [(
    decide (C.TIME0.STEP_THRESH r < 1000) || decide (4000000000 < C.TIME0.STEP_THRESH r) || decide (1 < C.TIME0.FLAGS r) ||
    C.TIME0.SLEW_LIMIT r == 0 || decide (500 < C.TIME0.SLEW_LIMIT r) || decide (3 < src) ||
    (if src = 1 then !((e.recs .imgs 0).any (fun x => C.IMGS0.REEL x == rl && C.IMGS0.IMAGE_ID x == 0x0C)) else rl != 0xFF) ||
    (decide (2 ≤ src) && !e.linkLater) || decide (trim < -500000) || decide (500000 < trim) || !(zeroAt r [5, 10, 11]), bsRange)]

/-- Drives of a mask that have no DRVP record. -/
def drvMissing (e : BsEnv) (m : Nat) : Bool :=
  (List.range 2).any (fun n => m.testBit n && !((e.recs .drvp 0).any (fun x => C.DRVP0.DRV x == n)))

def supp0Code (e : BsEnv) (r : List Byte) : Option Nat :=
  let k := C.SUPP0.SRC_KIND r
  let ch := C.SUPP0.SRC_CH r
  let dip := C.SUPP0.DIP_PCT r
  let gap := C.SUPP0.GAP_PCT r
  firstCode [
    (decide (1 < k) || decide ((if k = 0 then 7 else 23) < ch) || decide (2 < C.SUPP0.LINE r) || decide (3 < C.SUPP0.LEARN r) ||
     decide (dip < 50) || decide (95 < dip) || decide (gap < 10) || decide (60 < gap) || decide (dip ≤ gap) ||
     decide (C.SUPP0.SURGE_PCT r < 105) || decide (150 < C.SUPP0.SURGE_PCT r) || decide (15 < C.SUPP0.LEARN_BOUND r) ||
     decide (3 < C.SUPP0.KH_DRV r) || decide (3 < C.SUPP0.INHIBIT_DRV r) || C.SUPP0.HOLD_MS r == 0 || decide (60000 < C.SUPP0.HOLD_MS r) ||
     !(zeroAt r ([0x13] ++ upTo 0x16 0x1F)), bsRange),
    (e.periph 6 != some 0 || e.periph (if k = 0 then 30 + ch else 26 + ch / 6) != e.periph 6 ||
     (!e.drvpLater && (C.SUPP0.KH_DRV r != 0 || C.SUPP0.INHIBIT_DRV r != 0)) ||
     (List.range 8).any (fun b => (C.SUPP0.NOTIFY_BAYS r).testBit b && (e.bayRec b).isNone), bsRef)]

def supp1Code (e : BsEnv) (r : List Byte) : Option Nat :=
  firstCode [
    (decide (7 < C.SUPP1.GROUP r) || decide (127 < C.SUPP1.PIN r) || decide (1 < C.SUPP1.SHED_LEVEL r) || decide (7 < C.SUPP1.ORDER_INIT r) ||
     !(zeroAt r [4, 5, 6, 7]) || (e.recs .supp 1).any (fun x => C.SUPP1.PIN x == C.SUPP1.PIN r), bsRange),
    (e.periph 6 != some 0 || !((e.recs .pins 0).any (fun x => C.PINS0.PIN x == C.SUPP1.PIN r && C.PINS0.FUNC x == 0)), bsRef)]

def supp2Code (e : BsEnv) (r : List Byte) : Option Nat :=
  firstCode [(decide (255 < C.SUPP2.QUEUE r) || !(zeroAt r [2, 3]), bsRange), (e.periph 6 != some 0, bsRef)]

def fltp0Code (r : List Byte) : Option Nat :=
  firstCode [(
    C.FLTP0.REC_N r == 0 || C.FLTP0.REC_T r == 0 || decide (86400000 < C.FLTP0.REC_T r) || decide (15 < C.FLTP0.REPAIR r) ||
    decide (1 < C.FLTP0.INJECT r) || decide (1 < C.FLTP0.LOG r) || !(zeroAt r ([1, 2, 3] ++ upTo 11 15)), bsRange)]

def fltp1Code (r : List Byte) : Option Nat :=
  let b := C.FLTP1.BLOCK r
  let c := C.FLTP1.CAUSE r
  firstCode [(
    b == 0 || decide (0x1B < b) || C.FLTP1.N r == 0 || C.FLTP1.T r == 0 || decide (86400000 < C.FLTP1.T r) ||
    (c != 0xFFFF && (c == 0 || decide (0x3FF < c) || (causeClass (1024 * b + c)).isNone)), bsRange)]

/-! ### DRVP, CAPS and TAGS (R72, R73, R658, R791, R817) -/

def drvp0Code (e : BsEnv) (r : List Byte) : Option Nat :=
  let d := C.DRVP0.DEAD r
  let m := C.DRVP0.MIN_PULSE r
  let o := e.periph (24 + C.DRVP0.DRV r)
  firstCode [
    (decide (1 < C.DRVP0.DRV r) || decide (1 < C.DRVP0.MOTOR r) || decide (1 < C.DRVP0.VSENSE r) || decide (1 < C.DRVP0.BRAKE r) ||
     decide (2000 < d) || decide (C.DRVP0.DEC_PERIOD r < 3125) || decide (12500 < C.DRVP0.DEC_PERIOD r) || decide (3 < C.DRVP0.LOS_ACT r) ||
     decide (15 < C.DRVP0.PSET_DEFAULT r) || decide (1 < C.DRVP0.PSET_TAG r) || decide (2500 < m) || decide (m < d) ||
     decide (C.DRVP0.DEC_PERIOD r < d + m) || o.isNone, bsRange),
    (!e.full && o != some e.bay, bsDelta)]

def caps0Code (e : BsEnv) (r : List Byte) : Option Nat :=
  firstCode [
    (C.CAPS0.FREQ_MASK r == 0 || C.CAPS0.HOP_HYST r == 0 || decide (1 < C.CAPS0.GLOVE r) || C.CAPS0.SLEEP_RATE r == 0 ||
     decide (32 < C.CAPS0.SLEEP_RATE r) || decide (C.CAPS0.SCAN_US r < 500) || !(zeroAt r (upTo 8 15)), bsRange),
    ((e.periph 8).isNone, bsRef)]

def caps1Code (e : BsEnv) (r : List Byte) : Option Nat :=
  let l := e.recs .caps 1
  firstCode [
    (decide (63 < C.CAPS1.KEY r) || decide (15 < C.CAPS1.TX r) || decide (15 < C.CAPS1.RX r) || C.CAPS1.TX r == C.CAPS1.RX r ||
     !(zeroAt r [3, 7]) || l.any (fun x => C.CAPS1.TX x == C.CAPS1.RX r || C.CAPS1.RX x == C.CAPS1.TX r ||
       (C.CAPS1.TX x == C.CAPS1.TX r && C.CAPS1.RX x == C.CAPS1.RX r)), bsRange),
    ((e.periph 8).isNone, bsRef)]

def caps2Code (e : BsEnv) (r : List Byte) : Option Nat :=
  firstCode [
    (decide (7 < C.CAPS2.SNS r) || decide (1 < C.CAPS2.ROLE r) || decide (1 < C.CAPS2.DEW_LINK r) || decide (15 < C.CAPS2.CAL_SLOT r) ||
     !(zeroAt r [3, 7]) || (C.CAPS2.DEW_LINK r == 1 && C.CAPS2.ROLE r == 0) ||
     (C.CAPS2.ROLE r == 1 && (e.recs .caps 2).any (fun x => C.CAPS2.ROLE x == 1 && C.CAPS2.CAL_SLOT x == C.CAPS2.CAL_SLOT r)), bsRange),
    ((e.periph 8).isNone, bsRef)]

def tags0Code (e : BsEnv) (r : List Byte) : Option Nat :=
  firstCode [
    (C.TAGS0.ANT_MASK r == 0 || decide (250 < C.TAGS0.POWER r) || C.TAGS0.PROTO r == 0 || decide (3 < C.TAGS0.PROTO r) ||
     C.TAGS0.Q_STEP r == 0 || decide (16 < C.TAGS0.Q_STEP r) || C.TAGS0.MAX_TAGS r == 0 || decide (64 < C.TAGS0.MAX_TAGS r) ||
     !(zeroAt r [5, 6, 7]), bsRange),
    ((e.periph 9).isNone, bsRef)]

def tags1Code (e : BsEnv) (r : List Byte) : Option Nat :=
  let n := C.TAGS1.MATCH_LEN r
  firstCode [
    (n == 0 || decide (64 < n) || decide (7 < C.TAGS1.ANT r) || decide (1 < C.TAGS1.DRV r) || decide (15 < C.TAGS1.PSET r) ||
     !((C.TAGS0.ANT_MASK ((e.recs .tags 0).headD [])).testBit (C.TAGS1.ANT r)) || C.TAGS1.MATCH r % 2 ^ (64 - n) != 0 ||
     decide (64 ≤ (e.recs .tags 1).length) || !(zeroAt r (upTo 12 15)), bsRange),
    ((e.periph 9).isNone || drvMissing e (1 <<< C.TAGS1.DRV r), bsRef)]

/-! ### LINK (R74, R75, R422, R586, R589, R624) -/

/-- SOURCE of the TIME record read, 0 without one. -/
def BsEnv.source (e : BsEnv) : Nat := C.TIME0.SOURCE ((e.recs .time 0).headD [])

def link0Code (e : BsEnv) (r : List Byte) : Option Nat :=
  let en := C.LINK0.PAIR_EN r == 1
  firstCode [
    (decide (1 < C.LINK0.PAIR_EN r) || !(zeroAt r (upTo 2 7)) || (en && !((C.SYS0.LANE_EN e.sys).testBit 2)) ||
     (!en && e.source == 3), bsRange),
    (en && e.periph 42 != some 0, bsRef)]

def link1Code (e : BsEnv) (r : List Byte) : Option Nat :=
  let a := C.LINK1.BASE r
  let n := C.LINK1.LEN r
  let total := (e.recs .link 1).foldl (fun k x => k + C.LINK1.LEN x) n
  let inBanks := decide (bankBase 0 ≤ a) && decide (a + n ≤ bankBase 32) &&
    (List.range 32).all (fun k => decide (a + n ≤ bankBase k) || decide (bankBase (k + 1) ≤ a) || e.bank k == some (C.LINK1.BAY r))
  firstCode [
    (decide (63 < C.LINK1.REGION r) || decide (7 < C.LINK1.BAY r) || a % 64 != 0 || n % 64 != 0 || n == 0 ||
     !(zeroAt r [2, 3, 12, 13, 14, 15]), bsRange),
    (!inBanks || decide (2097152 < total), bsMirror)]

def link2Code (e : BsEnv) (r : List Byte) : Option Nat :=
  let en := C.LINK2.STACK_EN r == 1
  let l := C.SYS0.LANE_EN e.sys
  firstCode [
    (decide (1 < C.LINK2.STACK_EN r) || decide (1 < C.LINK2.RING r) || C.LINK2.MEMBERS r == 0 || decide (8 < C.LINK2.MEMBERS r) ||
     !(zeroAt r (upTo 3 7)) || (en && !(l.testBit 4) && !(l.testBit 5)) ||
     (C.LINK2.RING r == 1 && !(l.testBit 4 && l.testBit 5)) || (!en && e.source == 2), bsRange),
    (en && e.periph 43 != some 0, bsRef)]

def BsEnv.pairEn (e : BsEnv) : Bool := C.LINK0.PAIR_EN ((e.recs .link 0).headD []) == 1
def BsEnv.stackEn (e : BsEnv) : Bool := C.LINK2.STACK_EN ((e.recs .link 2).headD []) == 1

def link3Code (e : BsEnv) (r : List Byte) : Option Nat :=
  let k := C.LINK3.RES r
  let f := C.LINK3.PIN_FIRST r
  firstCode [
    (decide (7 < C.LINK3.BAY r) || decide (7 < C.LINK3.MEMBER r) || C.LINK3.MEMBER r == e.dev.get R.SYS_STRAPS.STACK_POS ||
     decide (k < 10) || decide (37 < k) || k == 24 || k == 25 || (decide (127 < f) && f != 0xFF) || decide (16 < C.LINK3.PIN_COUNT r) ||
     (f != 0xFF && decide (128 < f + C.LINK3.PIN_COUNT r)) || decide (32 ≤ (e.recs .link 3).length) || !(zeroAt r [5, 6, 7]), bsRange),
    (!e.stackEn, bsRef)]

def link4Code (e : BsEnv) (r : List Byte) : Option Nat :=
  let t := C.LINK4.LINKSEL r == 1
  firstCode [
    (decide (C.LINK4.MBX r < 48) || decide (63 < C.LINK4.MBX r) || decide (1 < C.LINK4.LINKSEL r) ||
     (if t then decide (7 < C.LINK4.MEMBER r) else C.LINK4.MEMBER r != 0xFF) || decide (63 < C.LINK4.REMOTE_MBX r) ||
     decide (7 < C.LINK4.BAY r) || !(zeroAt r [5, 6, 7]), bsRange),
    (if t then !e.stackEn else !e.pairEn, bsRef)]

/-! ### The tables -/

/-- REC_SIZE of a table, and the key of its records where it has one (R50, R52, R54 to R74). -/
def tabInfo : Tag → Nat → Option (Nat × Option (List Byte → Nat))
  | .sys, 0 => some (16, none)
  | .bays, 0 => some (64, some C.BAYS0.BAY)
  | .bays, 1 => some (8, some (fun r => beAt r 0 2))
  | .memb, 0 => some (8, some C.MEMB0.BANK)
  | .memb, 1 => some (8, some C.MEMB1.BAY)
  | .pins, 0 => some (8, some C.PINS0.PIN)
  | .imgs, 0 => some (16, some C.IMGS0.REEL)
  | .imgs, 1 => some (8, some (fun r => 65536 * C.IMGS1.REEL r + C.IMGS1.PARAM_ID r))
  | .qdrs, 0 => some (16, some C.QDRS0.CTX)
  | .qdrs, 1 => some (16, some (fun r => beAt r 0 3))
  | .qdrs, 2 => some (8, some (fun r => beAt r 0 3))
  | .time, 0 => some (16, none)
  | .supp, 0 => some (32, none)
  | .supp, 1 => some (8, some C.SUPP1.GROUP)
  | .supp, 2 => some (4, some C.SUPP2.QUEUE)
  | .fltp, 0 => some (16, none)
  | .fltp, 1 => some (8, some (fun r => 65536 * C.FLTP1.BLOCK r + C.FLTP1.CAUSE r))
  | .drvp, 0 => some (16, some C.DRVP0.DRV)
  | .caps, 0 => some (16, none)
  | .caps, 1 => some (8, some C.CAPS1.KEY)
  | .caps, 2 => some (8, some C.CAPS2.SNS)
  | .tags, 0 => some (8, none)
  | .tags, 1 => some (16, none)
  | .link, 0 => some (8, none)
  | .link, 1 => some (16, some C.LINK1.REGION)
  | .link, 2 => some (8, none)
  | .link, 3 => some (8, some (fun r => beAt r 0 3))
  | .link, 4 => some (8, some C.LINK4.MBX)
  | _, _ => none

/-- The content checks of one record. -/
def recCode (e : BsEnv) (t : Tag) (n : Nat) (r : List Byte) : Option Nat :=
  match t, n with
  | .sys, _ => sys0Code e r
  | .bays, 0 => bays0Code e r
  | .bays, _ => bays1Code e r
  | .memb, 0 => memb0Code e r
  | .memb, _ => memb1Code e r
  | .pins, _ => pins0Code e r
  | .imgs, 0 => imgs0Code e r
  | .imgs, _ => imgs1Code e r
  | .qdrs, 0 => qdrs0Code e r
  | .qdrs, 1 => qdrs1Code e r
  | .qdrs, _ => qdrs2Code e r
  | .time, _ => time0Code e r
  | .supp, 0 => supp0Code e r
  | .supp, 1 => supp1Code e r
  | .supp, _ => supp2Code e r
  | .fltp, 0 => fltp0Code r
  | .fltp, _ => fltp1Code r
  | .drvp, _ => drvp0Code e r
  | .caps, 0 => caps0Code e r
  | .caps, 1 => caps1Code e r
  | .caps, _ => caps2Code e r
  | .tags, 0 => tags0Code e r
  | .tags, _ => tags1Code e r
  | .link, 0 => link0Code e r
  | .link, 1 => link1Code e r
  | .link, 2 => link2Code e r
  | .link, 3 => link3Code e r
  | .link, _ => link4Code e r
  | .sign, _ => none

end Sys2Proof.Machine
end

