-- ==== Sys2Proof/Machine/Bits.lean ====
section
/-! DEFINITION.
The validation of a bitstream in its four stages, and the configuration that it produces (chapter 02). -/

namespace Sys2Proof.Machine

/-! ### Header stage (R43 to R45, R84, R901) -/

def hdrKind (f : List Byte) : Nat := beAt f 0x06 1
def hdrEnc (f : List Byte) : Bool := (beAt f 0x07 1).testBit 0
def hdrTotal (f : List Byte) : Nat := beAt f 0x0C 4
def hdrConfig (f : List Byte) : Nat := beAt f 0x10 4
def hdrBase (f : List Byte) : Nat := beAt f 0x14 4
def hdrSecVer (f : List Byte) : Nat := beAt f 0x18 2
def hdrBay (f : List Byte) : Nat := beAt f 0x1C 1
def hdrSects (f : List Byte) : Nat := beAt f 0x1D 1
def hdrKey (f : List Byte) : Nat := beAt f 0x1E 1

/-- The header checks; `kind` is the KIND that the command expects. -/
def State.bsHeader (s : State) (f : List Byte) (kind : Nat) : Option BsErr :=
  if f.length < 80 then some (0x0101, 0x4C)
  else
    let k := hdrKind f
    let enc := hdrEnc f
    let n := hdrSects f
    let t := hdrTotal f
    firstErr ([
      failIf (crc32c (f.take 0x4C) != beAt f 0x4C 4) 0x0101 0x4C,
      failIf (beAt f 0 4 != 0x4854564E) 0x0102 0,
      failIf (beAt f 4 2 != 0x0100) 0x0103 4,
      failIf (!(devidOk s (beAt f 8 4))) 0x0104 8,
      failIf (t % 16 != 0 || decide ((if k = 2 then 131072 else 786432) < t) || t != f.length) 0x0105 0x0C,
      failIf (k != kind) 0x0106 0x06,
      failIf (decide (1 < beAt f 7 1)) 0x0106 0x07,
      failIf (hdrConfig f == 0) 0x0106 0x10,
      failIf ((k == 1) != (hdrBase f == 0)) 0x0106 0x14,
      failIf (if k = 1 then hdrBay f != 0xFF else decide (7 < hdrBay f)) 0x0106 0x1C,
      failIf (if k = 1 then decide (n < 5) || decide (14 < n) else decide (n < 2) || decide (7 < n)) 0x0106 0x1D,
      failIf (decide (1 < hdrKey f) || (!enc && hdrKey f != 0)) 0x0106 0x1E,
      failIf (beAt f 0x1F 1 != 0) 0x0106 0x1F,
      failIf (!enc && beAt f 0x20 12 != 0) 0x0106 0x20,
      failIf (!enc && beAt f 0x2C 16 != 0) 0x0106 0x2C] ++
      (upTo 0x3C 0x4B).map (fun i => failIf (beAt f i 1 != 0) 0x0106 i))

/-! ### Directory stage (R42, R46, R47, R902) -/

def tagOf (v : Nat) : Option Tag :=
  if v = 0x53595320 then some .sys else if v = 0x42415953 then some .bays else if v = 0x4D454D42 then some .memb
  else if v = 0x50494E53 then some .pins else if v = 0x494D4753 then some .imgs else if v = 0x51445253 then some .qdrs
  else if v = 0x54494D45 then some .time else if v = 0x53555050 then some .supp else if v = 0x464C5450 then some .fltp
  else if v = 0x44525650 then some .drvp else if v = 0x43415053 then some .caps else if v = 0x54414753 then some .tags
  else if v = 0x4C494E4B then some .link else if v = 0x5349474E then some .sign else none

def allTags : List Tag := [.sys, .bays, .memb, .pins, .imgs, .qdrs, .time, .supp, .fltp, .drvp, .caps, .tags, .link, .sign]

/-- Place of a tag in the table of R47. -/
def Tag.rank (t : Tag) : Nat := allTags.findIdx (fun x => decide (x = t))

/-- A directory entry: its offset, TAG, OFFSET, LENGTH and CRC. -/
structure DirEnt where
  at_ : Nat
  tagv : Nat
  off : Nat
  len : Nat
  crc : Nat
  deriving DecidableEq, Repr

def dirEnt (f : List Byte) (i : Nat) : DirEnt :=
  let a := 0x50 + 16 * i
  ⟨a, beAt f a 4, beAt f (a + 4) 4, beAt f (a + 8) 4, beAt f (a + 12) 4⟩

def directory (f : List Byte) : List DirEnt := (List.range (hdrSects f)).map (dirEnt f)

def pad16 (n : Nat) : Nat := (n + 15) / 16 * 16

/-- Contiguity and alignment from offset `exp` on, up to the end of the file. -/
def dirFields (total : Nat) : Nat → List DirEnt → Option BsErr
  | _, [] => none
  | exp, d :: t =>
    let fin := exp + pad16 d.len
    firstErr [
      failIf ((List.range 4).any (fun k => decide (128 ≤ d.tagv / 256 ^ k % 256))) 0x0111 d.at_,
      failIf (d.off != exp) 0x0111 (d.at_ + 4),
      failIf (d.len == 0 || decide (total < fin) || (d.tagv == 0x5349474E && d.len != 132) || (t.isEmpty && fin != total))
        0x0111 (d.at_ + 8),
      dirFields total fin t]

/-- Unknown tag, repeated tag, order, SIGN not last. -/
def dirOrder : Option Nat → List DirEnt → Option BsErr
  | _, [] => none
  | last, d :: t =>
    match tagOf d.tagv with
    | none => some (0x0112, d.at_)
    | some g =>
      if (match last with | some k => decide (g.rank ≤ k) | none => false) || (decide (g = .sign) && !t.isEmpty) then some (0x0112, d.at_)
      else dirOrder (some g.rank) t

def tagsIn (l : List DirEnt) : List Tag := l.filterMap (fun d => tagOf d.tagv)

/-- The directory entry before which a section stands in the order of R47. -/
def dirBefore (f : List Byte) (t : Tag) : Nat :=
  match (directory f).find? (fun d => match tagOf d.tagv with | some g => decide (t.rank ≤ g.rank) | none => false) with
  | some d => d.at_
  | none => 0x50 + 16 * hdrSects f

def mandatory (full : Bool) (t : Tag) : Bool :=
  match t with
  | .bays | .sign => true
  | .sys | .memb | .pins => full
  | _ => false

def forbidden (full : Bool) (t : Tag) : Bool :=
  match t with
  | .sys | .time | .supp | .fltp | .caps | .tags | .link => !full
  | _ => false

def bsDirectory (f : List Byte) : Option BsErr :=
  let l := directory f
  let ts := tagsIn l
  let full := hdrKind f == 1
  match l.find? (fun d => decide (hdrTotal f < d.at_ + 16)) with
  | some d => some (0x0111, d.at_)
  | none =>
    match dirFields (hdrTotal f) (0x50 + 16 * hdrSects f) l with
    | some e => some e
    | none =>
      match dirOrder none l with
      | some e => some e
      | none =>
        match allTags.find? (fun t => (mandatory full t && !(ts.contains t)) || (forbidden full t && ts.contains t)) with
        | some t => some (0x0113, dirBefore f t)
        | none =>
          match l.find? (fun d => crc32c (slice f d.off (if d.tagv = 0x5349474E then 0x44 else d.len)) != d.crc) with
          | some d => some (0x0114, d.at_ + 12)
          | none => none

/-! ### Authentication stage (R77, R78, R94, R95, R98) -/

/-- The order of the P-256 base point. -/
def p256Order : Nat := 0xFFFFFFFF00000000FFFFFFFFFFFFFFFFBCE6FAADA7179E84F3B9CAC2FC632551

def signOff (f : List Byte) : Nat := (dirEnt f (hdrSects f - 1)).off

/-- The security-version floor (R95). -/
def Otp.floor (o : Otp) : Nat := o.floors.foldl max 0

/-- Whether an ECDSA signature of 64 bytes is valid under a key, for SHA-256 of a message (R77). -/
def sigOk (x y msg r t : List Byte) : Bool :=
  ofBE r != 0 && decide (ofBE r < p256Order) && ofBE t != 0 && decide (ofBE t < p256Order) &&
  Config.p256Verify x y (Config.sha256 msg) r t

/-- The plaintext of a file: itself, or the bodies before SIGN decrypted (R78). -/
def State.bsPlain (s : State) (f : List Byte) : Option (List Byte) :=
  if hdrEnc f = false then some f
  else
    let a := 0x50 + 16 * hdrSects f
    let b := signOff f
    match s.sec.otp.aes.getD (hdrKey f) none with
    | none => none
    | some k =>
      match Config.gcmDecrypt k (slice f 0x20 12) (slice f 0 0x2C ++ slice f 0x50 (a - 0x50)) (slice f a (b - a)) (slice f 0x2C 16) with
      | some p => some (f.take a ++ p ++ f.drop b)
      | none => none

def State.bsAuth (s : State) (f : List Byte) : Option BsErr :=
  let o := signOff f
  let k := beAt f o 1
  let x := slice f (o + 4) 32
  let y := slice f (o + 0x24) 32
  let hash := if 3 < k then none else s.sec.otp.hash.getD k none
  firstErr [
    failIf hash.isNone 0x0121 o,
    failIf (s.sec.otp.revoked.testBit k) 0x0121 o,
    failIf (some (Config.sha256 (x ++ y)) != hash) 0x0121 (o + 4),
    failIf (!(Config.p256OnCurve x y)) 0x0121 (o + 4),
    failIf (!(sigOk x y (f.take (o + 0x44)) (slice f (o + 0x44) 32) (slice f (o + 0x64) 32))) 0x0122 (o + 0x44),
    failIf (decide (hdrSecVer f < s.sec.otp.floor)) 0x0123 0x18,
    failIf (hdrEnc f && (s.sec.otp.aes.getD (hdrKey f) none).isNone) 0x0124 0x1E,
    failIf (s.bsPlain f).isNone 0x0124 0x2C]

/-! ### Content stage (R85, R903) -/

/-- The walk through the content: what has been read, the first failure, the windows of the cycle being read, and the
header of IMGS table 0. -/
structure Walk where
  env : BsEnv
  err : Option BsErr
  cyc : List (Nat × List Byte)
  imgs : Option Nat
  deriving DecidableEq, Repr

def Walk.failed (w : Walk) (e : Option BsErr) : Walk := if w.err.isSome then w else { w with err := e }

/-- The windows of a cycle have been read: its merged windows are checked (R458). -/
def Walk.endCycle (w : Walk) : Walk :=
  { (w.failed (match mergedBad w.cyc with | some o => some (bsSched, o) | none => none)) with cyc := [] }

/-- One record at a file offset. -/
def Walk.record (w : Walk) (t : Tag) (n off : Nat) (r : List Byte) : Walk :=
  let win := decide (t = .qdrs) && n == 1
  let w := match w.cyc with
    | x :: _ => if win && (C.QDRS1.CTX x.2 != C.QDRS1.CTX r || C.QDRS1.CYCLE x.2 != C.QDRS1.CYCLE r) then w.endCycle else w
    | [] => w
  if w.err.isSome then w
  else
    match recCode w.env t n r with
    | some c => { w with err := some (c, off) }
    | none => { w with env := { w.env with vis := addRec w.env.vis t n r }, cyc := if win then w.cyc ++ [(off, r)] else w.cyc }

/-- What is checked at the end of a table, or where an absent one belongs. -/
def tableEnd (e : BsEnv) (t : Tag) (n off : Nat) : Option BsErr :=
  match t, n with
  | .bays, 0 => firstErr [
      failIf (e.full && (e.bayRec 0).isNone) bsOwn off,
      failIf (e.full && pairLost e (e.recs .bays 0)) bsCore off,
      failIf (!e.full && (e.bayRec e.bay).isNone) bsDelta off]
  | .bays, 1 => failIf (!e.full && (cfgRecs e.run .bays 1).any (fun g =>
      (C.BAYS1.BAY_A g == e.bay || C.BAYS1.BAY_B g == e.bay) && !((e.recs .bays 1).contains g))) bsDelta off
  | .memb, 0 => failIf ((List.range 32).any (fun b => (e.bank b).isSome && !((e.recs .memb 0).any (fun r => C.MEMB0.BANK r == b)))) bsRef off
  | .memb, 1 => failIf ((e.recs .bays 0).any (fun r => C.BAYS0.CORES r != 0 &&
      !((e.recs .memb 1).any (fun x => C.MEMB1.BAY x == C.BAYS0.BAY r)))) bsOwn off
  | .drvp, 0 => failIf (match e.recs .supp 0 with
      | r :: _ => drvMissing e (C.SUPP0.KH_DRV r ||| C.SUPP0.INHIBIT_DRV r) | [] => false) bsRef off
  | .link, 0 => failIf ((e.recs .link 0).isEmpty && e.source == 3) bsRange off
  | .link, 2 => failIf ((e.recs .link 2).isEmpty && e.source == 2) bsRange off
  | .link, 3 => failIf (
      (e.recs .pins 0).any (fun r => match pinSignal (C.PINS0.PIN r) (C.PINS0.FUNC r) with
        | some g => e.periph (signalPeriph g) != some (C.PINS0.BAY r) && !(e.remote (C.PINS0.BAY r) (signalPeriph g))
        | none => false) ||
      (e.recs .imgs 0).any (fun r => let b := (e.reel (C.IMGS0.REEL r)).getD 99
        (List.range 14).any (fun p => (C.IMGS0.PORTS r).testBit p && e.periph (10 + p) != some b && !(e.remote b (10 + p))))) bsRef off
  | _, _ => none

/-- The records of one table from a file offset on; keys rise strictly (R52). -/
def walkRecs (t : Tag) (n size : Nat) (key : Option (List Byte → Nat)) : Nat → Option Nat → Nat → List Byte → Walk → Walk
  | 0, _, _, _, w => w
  | k + 1, last, off, l, w =>
    if w.err.isSome then w
    else
      let r := l.take size
      let foreign := !w.env.full && decide (t = .bays) && n == 0 && C.BAYS0.BAY r != w.env.bay
      let cur := match key with | some g => g r | none => 0
      let bad : Bool := match last with
        | some p => (match key with | some _ => decide (cur ≤ p) | none => !(decide (t = .tags) && n == 1))
        | none => false
      let w := if foreign then { w with err := some (bsDelta, off) } else if bad then { w with err := some (bsTable, off) }
        else w.record t n off r
      walkRecs t n size key k (some cur) (off + size) (l.drop size) w

/-- The tables of a section body: `least` is the least TABLE that may follow. -/
def walkTables (t : Tag) : Nat → Nat → Nat → List Byte → Walk → Walk
  | 0, _, _, _, w => w
  | k + 1, least, off, l, w =>
    if w.err.isSome ∨ l = [] then w
    else
      let n := beAt l 1 1
      let size := beAt l 2 2
      let cnt := beAt l 4 2
      let len := 8 + size * cnt
      match tabInfo t n with
      | none => { w with err := some (bsTable, off) }
      | some (sz, key) =>
        if l.length < 8 ∨ beAt l 0 1 ≠ 1 ∨ n < least ∨ size ≠ sz ∨ cnt = 0 ∨ l.length < len then { w with err := some (bsTable, off) }
        else if beAt l 6 2 ≠ 0 then { w with err := some (bsRange, off) }
        else
          let w := if t = .imgs ∧ n = 0 then { w with imgs := some off } else w
          let w := walkRecs t n size key cnt none (off + 8) (l.drop 8) w
          let w := if t = .qdrs ∧ n = 1 then w.endCycle else w
          let w := w.failed (tableEnd w.env t n off)
          walkTables t k (n + 1) (off + len) (l.drop len) w

/-- Tables that a section ends without (R85). -/
def Walk.absent (w : Walk) (t : Tag) (off : Nat) : Walk :=
  let has := fun n => !(w.env.recs t n).isEmpty
  w.failed (firstErr ((failIf (decide (t = .sys) && !(has 0)) bsTable off) ::
    (List.range 5).map (fun n => if has n then none else tableEnd w.env t n off)))

/-! ### What a delta leaves standing (R81) -/

/-- Whether a record belongs to a bay under a configuration: by the bay, bank, pin, engine, context or drive it names. -/
def ofBay (c : List Sect) (b : Nat) (t : Tag) (n : Nat) (r : List Byte) : Bool :=
  let per := fun i => cfgOwner c (fun x => (C.BAYS0.PERIPH x).testBit i) == some b
  match t, n with
  | .bays, 0 => C.BAYS0.BAY r == b
  | .bays, _ => C.BAYS1.BAY_A r == b || C.BAYS1.BAY_B r == b
  | .memb, 0 => cfgOwner c (fun x => (C.BAYS0.BANKS x).testBit (C.MEMB0.BANK r)) == some b
  | .memb, _ => C.MEMB1.BAY r == b
  | .pins, _ => C.PINS0.BAY r == b
  | .imgs, 0 => cfgOwner c (fun x => (C.BAYS0.REELS x).testBit (C.IMGS0.REEL r)) == some b
  | .imgs, _ => cfgOwner c (fun x => (C.BAYS0.REELS x).testBit (C.IMGS1.REEL r)) == some b
  | .qdrs, 0 => per (38 + C.QDRS0.CTX r)
  | .qdrs, 1 => per (38 + C.QDRS1.CTX r)
  | .qdrs, _ => per (38 + C.QDRS2.CTX r)
  | .drvp, _ => per (24 + C.DRVP0.DRV r)
  | _, _ => false

/-- Whether a record of the target bay names what the bay does not own after the delta, and so is dropped. -/
def dropsRec (e : BsEnv) (t : Tag) (n : Nat) (r : List Byte) : Bool :=
  match t, n with
  | .memb, 1 => false
  | .pins, _ => (match pinSignal (C.PINS0.PIN r) (C.PINS0.FUNC r) with
      | some g => e.periph (signalPeriph g) != some e.bay &&
          !((cfgRecs e.run .link 3).any (fun x => C.LINK3.BAY x == e.bay && C.LINK3.RES x == signalPeriph g))
      | none => false)
  | .memb, _ | .imgs, _ | .qdrs, _ | .drvp, _ => !(ofBay e.vis e.bay t n r)
  | _, _ => false

/-- The records of a section of the running configuration, with their tables. -/
def runRecs (c : List Sect) (t : Tag) : List (Nat × List Byte) :=
  (List.range 5).flatMap (fun n => (cfgRecs c t n).map (fun r => (n, r)))

/-- The records of other bays stand before the delta's are read. -/
def Walk.others (w : Walk) (t : Tag) : Walk :=
  let e := w.env
  if e.full then w
  else
    let stay := (runRecs e.run t).filter (fun x => !(ofBay e.run e.bay t x.1 x.2))
    { w with env := { e with vis := stay.foldl (fun c x => addRec c t x.1 x.2) e.vis } }

/-- A section that a delta omits: the records kept are checked again at the directory entry `off`. -/
def Walk.kept (w : Walk) (t : Tag) (off : Nat) : Walk :=
  let e := w.env
  if e.full then w
  else
    let own := (runRecs e.run t).filter (fun x => ofBay e.run e.bay t x.1 x.2)
    let shared := !(own.isEmpty) || [Tag.memb, .pins, .imgs, .qdrs, .drvp].contains t
    let w := if shared then w.others t else w
    let list := if shared then own.filter (fun x => !(dropsRec e t x.1 x.2)) else runRecs e.run t
    let w := list.foldl (fun v x => v.record t x.1 off x.2) w
    let w := if t = .qdrs then w.endCycle else w
    let moved := decide (t = .memb) && (List.range 32).any (fun b =>
      (cfgOwner e.run (fun x => (C.BAYS0.BANKS x).testBit b) == some e.bay) != (e.bank b == some e.bay))
    let w := w.failed (failIf moved bsRef off)
    (List.range 5).foldl (fun v n => v.failed (tableEnd v.env t n off)) w

/-- Engine-only bays whose images cannot be reached (R62). -/
def unreachable (e : BsEnv) : Bool :=
  (List.range 8).any (fun b => match e.bayRec b with
    | none => false
    | some r =>
      let images := (e.recs .imgs 0).filter (fun x => (C.BAYS0.REELS r).testBit (C.IMGS0.REEL x))
      let reach := fun k n => (e.recs .bays 1).any (fun g => C.BAYS1.KIND g == k && C.BAYS1.NUMBER g == n &&
        ((C.BAYS1.BAY_A g == b && e.hasCore (C.BAYS1.BAY_B g)) || (C.BAYS1.BAY_B g == b && e.hasCore (C.BAYS1.BAY_A g))))
      C.BAYS0.CORES r == 0 && C.BAYS0.REELS r != 0 &&
      ((List.range 12).any (fun i => (C.BAYS0.REELS r).testBit i && !(images.any (fun x => C.IMGS0.REEL x == i))) ||
       (!((e.recs .link 4).any (fun x => C.LINK4.BAY x == b)) &&
        !(images.any (fun x => reach 0 (C.IMGS0.CMD_MBX x) || (List.range (C.IMGS0.QCOUNT x)).any (fun k => reach 1 (C.IMGS0.QBASE x + k)))))))

/-- One section in the order of R47. -/
def walkSection (f p : List Byte) (t : Tag) (w : Walk) : Walk :=
  if w.err.isSome then w
  else
    match (directory f).find? (fun d => decide (tagOf d.tagv = some t)) with
    | none => w.kept t (dirBefore f t)
    | some d =>
      let w := w.others t
      let w := walkTables t 6 0 d.off (slice p d.off d.len) w
      let w := w.absent t d.at_
      let padBytes := upTo (d.off + d.len) (d.off + pad16 d.len - 1)
      w.failed (match padBytes.find? (fun i => beAt p i 1 != 0) with | some i => some (bsRange, i) | none => none)

/-- The content stage on the plaintext `p` of file `f`. -/
def State.bsContent (s : State) (f p : List Byte) : BsErr ⊕ List Sect :=
  let full := hdrKind f == 1
  let env : BsEnv := ⟨s, full, hdrBay f, [], tagsIn (directory f), if full then [] else s.cfg⟩
  let w : Walk := ⟨env, if !full && hdrBase f != s.get R.SEC_CONFIG_ID.CONFIG_ID then some (bsDelta, 0x14) else none, [], none⟩
  let w := (allTags.filter (fun t => decide (t ≠ .sign))).foldl (fun v t => walkSection f p t v) w
  let w := w.failed (failIf (unreachable w.env) bsRef (w.imgs.getD (dirBefore f .imgs)))
  let o := signOff f
  let w := w.failed (match (upTo (o + 132) (o + 143) ++ [o + 1, o + 2, o + 3]).find? (fun i => beAt f i 1 != 0) with
    | some i => some (bsRange, i) | none => none)
  match w.err with
  | some e => .inl e
  | none => .inr w.env.vis

/-- Every check of R84 in its order: the first failure, or the configuration that the file produces. -/
def State.bsCheck (s : State) (f : List Byte) (kind : Nat) : BsErr ⊕ List Sect :=
  match firstErr [s.bsHeader f kind] with
  | some e => .inl e
  | none =>
    match bsDirectory f with
    | some e => .inl e
    | none =>
      match s.bsAuth f with
      | some e => .inl e
      | none => s.bsContent f ((s.bsPlain f).getD f)

end Sys2Proof.Machine
end

