-- ==== Sys2Proof/Machine/PeriphReset.lean ====
section
/-! DEFINITION.
What a bay reset does to each kind of resource that the bay holds (R156, R183, R184), and release (R91). -/

namespace Sys2Proof.Machine

/-! ### Peripherals (R141, R156, R183, R184) -/

/-- Reset of a drive unit: registers at reset, gates parked; it leaves PARKED at release (R670, R692). -/
def State.resetDrv (s : State) (n : Nat) : State :=
  let dis := s.on (R.DRVn_BRK_STAT.DISABLED n)
  let inh := s.on (R.DRVn_STATE.INHIBIT n)
  let st := s.drvSt n
  let s := (s.parkDrv n).modDrv n (fun x => { DrvUnit.cold with bad := x.bad })
  let s := s.resetRegs (0x40110000 + 0x10000 * n) (0x40111000 + 0x10000 * n)
  let s := (s.flag (R.DRVn_BRK_STAT.DISABLED n) dis).flag (R.DRVn_STATE.INHIBIT n) inh
  s.put (R.DRVn_STATE.STATE n) (if st = 0 then 0 else 9)

/-- The reset of the block behind PERIPH resource `i`; resources 0 to 6 keep running (R141), and of VDT and TRS
the interrupt registers alone are reset (chapter 15; the routes of TRS keep running). -/
def State.resetPeriph (s : State) (i : Nat) : State :=
  if i < 7 then s
  else if i = 7 then s.resetClp
  else if i = 8 then s.resetCap
  else if i = 9 then s.resetTag
  else if i < 14 then s.resetEth (i - 10)
  else if i < 18 then s.resetCan (i - 14)
  else if i < 24 then s.resetSer (i - 18)
  else if i < 26 then s.resetDrv (i - 24)
  else if i < 30 then s.resetAdc (i - 26)
  else if i < 38 then s.resetSdm (i - 30)
  else if i < 42 then s.resetQdr (i - 38)
  else if i = 42 then (s.putWord R.VDT_IRQ_PEND.LINK_CHG 0).putWord R.VDT_IRQ_EN.EN 0
  else if i = 43 then (s.putWord R.TRS_IRQ_PEND.TOPO_CHG 0).putWord R.TRS_IRQ_EN.EN 0
  else if i < 52 then s.resetTev (i - 44)
  else if i < 60 then s.resetTcap (i - 52)
  else s

/-- The PERIPH resources of a bay. -/
def State.periphsOf (s : State) (b : Nat) : List Nat := indices 60 (fun i => s.ownPeriph i == some b)

def State.resetPeriphs (s : State) (b : Nat) : State := s.forEach (s.periphsOf b) (fun i t => t.resetPeriph i)

/-- A block reset for another cause than a bay reset: pins of the block's functions park and return (R183). -/
def State.blockReset (s : State) (i : Nat) : State :=
  let ps := s.pinsOfPeriph i
  let s := (s.forEach ps (fun p t => t.parkPin p)).resetPeriph i
  s.forEach ps (fun p t => t.movePin (t.pinActive p) p)

/-! ### Mailboxes and queues (R156, R393, R396) -/

/-- Mailboxes on a bay reset: owned ones emptied, and each side page that the bay holds at its reset values. -/
def State.resetMbxs (s : State) (b : Nat) : State :=
  s.forEach (List.range 64) (fun m t =>
    let own := t.ownMbx m == some b && (t.grant 0 m).isNone
    let t := if own then (t.mbxClear m 0).mbxClear m 1 else t
    let t := if own then { t with msg := { t.msg with bells := t.msg.bells.filter (fun x => x.1 != m) } } else t
    let t := t.forEach [0, 1] (fun d u =>
      if u.mbxSide m d = some b then u.resetRegs (0x40031000 + 0x200 * m + 0x100 * d) (0x40031100 + 0x200 * m + 0x100 * d)
      else u)
    if own || (t.grant 0 m).isSome then t.showMbx m else t)

/-- The partner of a descriptor that a reset discards: a copy in progress leaves it FAILED with Q_RESET, any other
waits unpaired (R156, R393). -/
def State.leavePartner (s : State) (q e : Nat) (d : Desc) : State :=
  match d.peer with
  | some j =>
    match (s.qEnd q (1 - e)).inflight.find? (fun x => x.idx == j) with
    | some p =>
      if d.committed then s.finishDesc q (1 - e) j 3 0x0803 0 s.stamp p.aux
      else s.modDesc q (1 - e) j (fun x => { x with peer := none })
    | none => s
  | none => s

/-- An end emptied without completions, its page at reset values; what holds the end stays (R156, R365). -/
def State.resetEnd (s : State) (q e b : Nat) : State :=
  let n := (s.qEnd q e).inflight.length
  let s := (List.range n).foldl (fun t _ => t.quotaDown b) s
  let s := (s.putEnd q e QEnd.empty).resetRegs (0x40041000 + 0x40 * q + 0x20 * e) (0x40041020 + 0x40 * q + 0x20 * e)
  s.showEnd q e

/-- Queues on a bay reset: owned ones discarded whole; of granted ones the end that the bay holds. -/
def State.resetQueues (s : State) (b : Nat) : State :=
  s.forEach (List.range 256) (fun q t => t.forEach [0, 1] (fun e u =>
    if u.queueEnd q e = some b then
      let v := if (u.grant 1 q).isSome then u.forEach (u.qEnd q e).inflight (fun d w => w.leavePartner q e d) else u
      (v.resetEnd q e b).pairAll q
    else u))

/-! ### Cores, engines, memory, pages -/

/-- A core held and as its release leaves it; halt-on-reset stays with the debug module (R277, R289, R291). -/
def State.resetCores (s : State) (b : Nat) : State :=
  s.forEach (s.coresOf b) (fun c t => t.modCore c (fun x => { Core.cold with haltOnReset := x.haltOnReset }))

/-- Lines of the bay's L2 ways invalidated without write-back (R156). -/
def State.dropL2 (s : State) (b : Nat) : State :=
  let s1 := s.forEach (s.memx.dirty.filter (fun l => l.bay == b)) (fun l t => t.putBytes l.addr l.old)
  { s1 with memx := { s1.memx with dirty := s1.memx.dirty.filter (fun l => l.bay != b) } }

/-- Engines that a delta in progress has loaded for this bay and that keep their image through its swap (R108). -/
def State.preparedOf (s : State) (b : Nat) : Nat :=
  match s.sec.delta with
  | some d => if d.bay = b ∧ d.phase = .swapped then d.prepEngines else 0
  | none => 0

/-- Engines of the bay held, local memory zeroed, replay store emptied (R156, R307, R386). -/
def State.resetEngines (s : State) (b : Nat) : State :=
  let keep := s.preparedOf b
  let s := s.forEach (s.enginesOf b) (fun e t =>
    if keep.testBit e then t
    else
      let t := if t.get (R.REELn_STATE.STATE e) = 7 then t else (t.imageStop e).put (R.REELn_STATE.STATE e) 2
      t.modEngine e (fun x => { x with replay := [], accepts := 0 }))
  { s with sec := { s.sec with delta := s.sec.delta.map (fun d => if d.bay = b then { d with prepEngines := 0 } else d) } }

/-- Origins of the bay removed from Halvik's and every image's replay store (R386). -/
def State.dropOrigins (s : State) (b : Nat) : State :=
  let s := { s with sec := { s.sec with replay := dropBayOrigins s.sec.replay b } }
  s.forEach (List.range 12) (fun e t => t.modEngine e (fun x => { x with replay := dropBayOrigins x.replay b }))

/-- The pages that other blocks keep for the bay: BAY, FLT, VDT, TRS, SUP and TIME (R167, R275, R433, R596, R630). -/
def State.resetPages (s : State) (b : Nat) : State :=
  let s := ((s.putWord (R.BAYn_IRQ_EN_LO.EN b) 0).putWord (R.BAYn_IRQ_EN_HI.EN b) 0).putWord (R.BAYn_LOC_EN.EN b) 0
  let s := (s.putWord (R.BAYn_LOC_PEND.SRC b) 0).putWord (R.BAYn_GRANT_EVT.PEER_RESET b) 0
  let s := ((s.putWord (R.BAYn_SLOT_USED.COUNT b) 0).putWord (R.BAYn_SLOT_SLACK.COUNT b) 0).putWord (R.BAYn_SLOT_WAIT.MAX b) 0
  let s := State.showNote { s with flt := { s.flt with notes := updAt s.flt.notes b (fun _ => []) } } b
  let s := if s.paired b then s.resetRegs (0x400F1008 + 0x1000 * b) (0x400F2000 + 0x1000 * b) else s
  let s := s.resetRegs (0x40101000 + 0x1000 * b) (0x40102000 + 0x1000 * b)
  let s := s.resetRegs (0x40151000 + 0x1000 * b) (0x40152000 + 0x1000 * b)
  s.clrB R.TIME_HALFWRAP.PEND b

/-- A row test of one of the bay's banks ends; the walk goes on at the next row (R239). -/
def State.endRowTest (s : State) (b : Nat) : State :=
  match s.memx.test with
  | some t => if s.ownBank t.bank = some b ∧ t.targeted = false then (s.setTest none).walkOn t.bank t.row else s
  | none => s

/-- t1 and t2 of a bay reset (R155, R156): every effect on the bay's resources up to the start of bank zeroing.
Queues go first, so that nothing of theirs completes. -/
def State.resetBay (s : State) (b : Nat) : State :=
  let s := ((((s.resetQueues b).resetMbxs b).resetPeriphs b).resetCores b).dropL2 b
  let s := (((s.resetEngines b).dropOrigins b).resetPages b).endRowTest b
  { s with bay := { s.bay with resetDone := setBit s.bay.resetDone b } }

/-- The banks of the bay that MEMB ZERO names, zeroed and without poison (R155). -/
def State.zeroBanks (s : State) (b : Nat) : State :=
  s.forEach ((s.banksOf b).filter (fun n => (s.recs .memb 0).any (fun r => C.MEMB0.BANK r == n && C.MEMB0.ZERO r % 2 == 1)))
    (fun n t =>
      let t := t.zeroMem (bankBase n) (bankBase n + 0x40000)
      { t with memx := { t.memx with
          poison := t.memx.poison.filter (fun a => !(decide (bankBase n ≤ a) && decide (a < bankBase n + 0x40000)))
          writeback := t.memx.writeback.filter (fun a => !(decide (bankBase n ≤ a) && decide (a < bankBase n + 0x40000))) } })

/-! ### Release (R91, R157, R258) -/

/-- Whether a HELD bay may be released: every engine runs, and no CORE retest or verdict holds it. -/
def State.mayRelease (s : State) (b : Nat) : Bool :=
  s.bayState b == bayHeld && (s.sys.phase == .run || s.sys.phase == .doze) && !(s.bay.coreHold.testBit b) &&
  !((s.flt.running ++ s.flt.waiting).any (fun x => x.cause == 0x6001 && x.reports.any (fun r => r.bay == b))) &&
  (s.enginesOf b).all (fun e => s.get (R.REELn_STATE.STATE e) == 5 || s.get (R.REELn_STATE.STATE e) == 7)

/-- The watchdog period of a bay in ns, 0 without WDT_EN (R157). -/
def State.wdtPeriod (s : State) (b : Nat) : Nat :=
  if s.on (R.BAYn_STATE.WDT_EN b) then 100000 * s.bayFld b C.BAYS0.WDT_TIMEOUT else 0

def State.startWdt (s : State) (b : Nat) : State :=
  { s with bay := { s.bay with wdt := updAt s.bay.wdt b (fun _ => s.wdtPeriod b) } }

/-- t4 of R155: cores at ENTRY, pins by the commit sequence, drives and watchdog start, partners told; a paired bay
that is not ACTIVE enters SYNCING (R584, R596). -/
def State.release (s : State) (b : Nat) : State :=
  let s := s.put (R.BAYn_STATE.STATE b) bayRunning
  let s := if s.sys.phase = .doze ∧ s.coresOf b ≠ [] then s.setPhase .run else s
  let s := { s with bay := { s.bay with released := setBit s.bay.released b } }
  let s := s.forEach (s.coresOf b) (fun c t => t.modCore c (fun x =>
    { Core.cold with running := true, haltOnReset := x.haltOnReset, pc := s.bayFld b C.BAYS0.ENTRY }))
  let s := s.forEach ((s.coresOf b).filter (fun c => (s.coreAt c).haltOnReset)) (fun c t => t.haltHart c 5)
  let s := ((s.unparkBayPins b).startWdt b).tellPeers b R.BAYn_GRANT_EVT.PEER_READY
  let s := s.forEach (s.drvsOf b) (fun n t => if t.drvSt n = 9 then t.drvInit n (t.tagHeld n) else t)
  if s.paired b && s.get (R.BAYn_STATE.LAST_CAUSE b) != 0 && s.roleOf b != 2 then s.enterSync b else s

end Sys2Proof.Machine
end

