-- ==== Sys2Proof/Machine/Bay.lean ====
section
/-! DEFINITION.
The commands of the BAY block: reset sources, the reset sequence, STOP and START, watchdog (chapter 04). -/

namespace Sys2Proof.Machine

/-- A write to the page of bay `b`: bay `b` and BAY0 reach it, any other bay is blocked (R134). -/
def State.byBayPage (s : State) (i : Init) (b addr : Nat) (f : State → State) : State :=
  s.act i (isBay i b || isBay i 0) 0x0C02 addr true f

/-- SELF_RST, RST, STOP and START act for their own writer only; any other write has no effect (R162). -/
def State.bySelf (s : State) (i : Init) (b addr : Nat) (f : State → State) : State :=
  s.byBayPage i b addr (fun t => if i.bay = b then f t else t)
def State.byBoss (s : State) (i : Init) (b addr : Nat) (f : State → State) : State :=
  s.byBayPage i b addr (fun t => if i.bay = 0 then f t else t)

/-- SELF_RST (R154). -/
def execSelfRst (by_ : Init) (b : Nat) (s : State) : Host.Outcome State Fault Refusal :=
  answer (s.bySelf by_ b (R.BAYn_CTRL.SELF_RST b).addr (fun t => t.registerReset b 2))

/-- RST (R154). -/
def execBayRst (by_ : Init) (b : Nat) (s : State) : Host.Outcome State Fault Refusal :=
  answer (s.byBoss by_ b (R.BAYn_CTRL.RST b).addr (fun t => t.registerReset b 1))

/-- Engines held with their local memory kept (R905). -/
def State.holdEngines (s : State) (b : Nat) : State :=
  s.forEach (s.enginesOf b) (fun e t =>
    let st := t.get (R.REELn_STATE.STATE e)
    if st = 3 ∨ st = 4 ∨ st = 5 ∨ st = 6 then ((t.put (R.REELn_STATE.STATE e) 2).clrB R.REEL_RUN_SUM.RUNNING e) else t)

/-- Entry into STOPPED (R905): outputs parked as at t0, cores and engines held, owned peripherals in block reset,
watchdog stopped; memory, mailboxes, queues and pages keep their contents. -/
def State.stopBay (s : State) (b : Nat) : State :=
  let s := ((s.put (R.BAYn_STATE.STATE b) bayStopped).stopWdt b).parkOutputs b
  let s := s.forEach (s.coresOf b) (fun c t => t.modCore c (fun x => { x with running := false, wfi := false }))
  (s.holdEngines b).resetPeriphs b

/-- STOP: at once in RUNNING and HELD; in RESET after the reset completes (R153, R163). -/
def State.stop (s : State) (b : Nat) : State :=
  if s.bayState b = bayRunning ∨ s.bayState b = bayHeld then s.stopBay b
  else if s.bayState b = bayReset then { s with bay := { s.bay with stopAfter := setBit s.bay.stopAfter b } }
  else s

def execBayStop (by_ : Init) (b : Nat) (s : State) : Host.Outcome State Fault Refusal :=
  answer (s.byBoss by_ b (R.BAYn_CTRL.STOP b).addr (fun t => t.stop b))

/-- START: a STOPPED bay goes through a bay reset with cause 8 (R153). -/
def execBayStart (by_ : Init) (b : Nat) (s : State) : Host.Outcome State Fault Refusal :=
  answer (s.byBoss by_ b (R.BAYn_CTRL.START b).addr (fun t =>
    if t.bayState b = bayStopped then t.enterReset b 8 else t))

/-- BAY_RESET: t1 and t2 of a reset in progress, once (R155, R156). -/
def execBayReset (b : Nat) (s : State) : Host.Outcome State Fault Refusal :=
  answer (if s.bayState b == bayReset && !(s.bay.resetDone.testBit b) then s.resetBay b else s)

/-- t3 (R155): banks zeroed, HELD; a STOP registered meanwhile takes effect (R163); images load in order (R91). -/
def State.zeroingEnd (s : State) (b : Nat) : State :=
  let s := (s.zeroBanks b).put (R.BAYn_STATE.STATE b) bayHeld
  let s := { s with bay := { s.bay with resetDone := clrBit s.bay.resetDone b } }
  if s.bay.stopAfter.testBit b then
    State.stopBay { s with bay := { s.bay with stopAfter := clrBit s.bay.stopAfter b } } b
  else s.loadKick

/-- BANK_ZEROING_END. -/
def execBankZeroingEnd (b : Nat) (s : State) : Host.Outcome State Fault Refusal :=
  answer (if s.bayState b == bayReset && s.bay.resetDone.testBit b then s.zeroingEnd b else s)

/-- BAY_RELEASE (R91, R155 t4). -/
def execBayRelease (b : Nat) (s : State) : Host.Outcome State Fault Refusal :=
  answer (if s.mayRelease b then s.release b else s)

/-! ### Watchdog (R157, R158) -/

/-- A watchdog reset: cause 0x0C05 or 0x0C06, and the bay reset (R158, R904). -/
def State.wdtReset (s : State) (b cause code detail : Nat) : State :=
  (s.report b code b detail).registerReset b cause

/-- A write to WDT_KICK (R157, R158): ignored without WDT_EN; the key restarts a running watchdog; any other value, or
any by BAY0 on another bay's page, resets the bay. -/
def State.wdtKick (s : State) (i : Init) (b v : Nat) : State :=
  if s.on (R.BAYn_STATE.WDT_EN b) = false ∨ s.bayState b = bayStopped ∨ s.bayState b = bayNone then s
  else if i.bay = b ∧ v = 0xC35A then (if s.bay.wdt.getD b 0 = 0 then s else s.startWdt b)
  else s.wdtReset b 4 0x0C06 v

def execWdtKick (by_ : Init) (b : Nat) (key : Word) (s : State) : Host.Outcome State Fault Refusal :=
  answer (s.byBayPage by_ b (R.BAYn_WDT_KICK.KEY b).addr (fun t => t.wdtKick by_ b key.toNat))

/-- Whether the watchdog of a bay counts: started, in RUN or DOZE, no core of the bay halted (R157). -/
def State.wdtCounts (s : State) (b : Nat) : Bool :=
  s.bay.wdt.getD b 0 != 0 && (s.coresRun || s.sys.phase == .doze) && (s.coresOf b).all (fun c => !((s.coreAt c).halted))

/-- WDT_WARNING: one quarter of the period is left (R148 bit 5). -/
def execWdtWarning (b : Nat) (s : State) : Host.Outcome State Fault Refusal :=
  answer (if s.wdtCounts b then s.flag (R.BAYn_LOC_PEND.WDT_WARN b) true else s)

/-- WDT_EXPIRY (R158). -/
def execWdtExpiry (b : Nat) (s : State) : Host.Outcome State Fault Refusal :=
  answer (if s.wdtCounts b then s.wdtReset b 3 0x0C05 0 else s)

/-- What a stretch of `d` ns of steady time takes from the watchdogs; the last ns waits for WDT_EXPIRY. -/
def State.wdtTick (s : State) (d : Nat) : State :=
  { s with bay := { s.bay with wdt := (List.range 8).map (fun b =>
      let w := s.bay.wdt.getD b 0
      if s.wdtCounts b then max 1 (w - d) else w) } }

end Sys2Proof.Machine
end

