-- ==== Sys2Proof/Machine/Trs.lean ====
section
/-! DEFINITION.
Lane training of both links, and Trestle: routes, requests, claims, stack time and formation (chapters 15 and 16). -/

namespace Sys2Proof.Machine

def State.trsBay (s : State) : Nat := ownerOr0 (s.ownPeriph 43)
def State.stackOn (s : State) : Bool := C.LINK2.STACK_EN (s.rec1 .link 2) == 1
def State.trsX (s : State) : TrsPart := s.link.trs
def State.irqTrs (s : State) (f : Fld) : State := s.flag f true

/-! ### Completion at the source (R610) -/

/-- A core's access to another member ends: the loaded value in its register, and the pc past the instruction. -/
def State.coreDone (s : State) (c : Nat) (w : CoreWait) (d : List Byte) : State :=
  let v := leAt d 0 w.bytes
  let x := if (w.reg.getD 0) ≥ 32 ∧ w.bytes < 8 then v + (2 ^ 64 - 2 ^ (8 * w.bytes))
    else if w.sext then wrapInt 64 (signed (8 * w.bytes) v) else v
  s.modCore c (fun k =>
    match w.reg with
    | some r =>
      if r = 0 then { k with pc := w.pc, minstret := k.minstret + 1 }
      else if r < 32 then { k with x := SMap.set 0#64 k.x r (BitVec.ofNat 64 x), pc := w.pc, minstret := k.minstret + 1 }
      else { k with f := SMap.set 0#64 k.f (r - 32) (BitVec.ofNat 64 x), pc := w.pc, minstret := k.minstret + 1 }
    | none => { k with pc := w.pc, minstret := k.minstret + 1 })

/-- A request leaves the outstanding ones, and one that waited takes its place. -/
def State.trsClose (s : State) (r : TrsReq) : State :=
  (s.modTrs (fun t => { t with open_ := t.open_.filter (fun x => x != r) })).trsNext r.dst

/-- The use of a request whose destination is lost or gives no response: TRS_UNKNOWN (R610). -/
def State.useUnknown (s : State) (u : TrsUse) : State :=
  match u with
  | .access i wr a _ => (s.inc R.TRS_FAILS.UNKNOWN).busError i wr a
  | .message m => s.trsLost m
  | .bell _ => s.inc R.TRS_FAILS.UNKNOWN
  | u => (s.inc R.TRS_FAILS.UNKNOWN).qmgrAnswer u (.inr (0x0814, 0))

def State.trsUnknown (s : State) (r : TrsReq) : State := (s.trsClose r).useUnknown r.use

/-- The end of a queue that a request of QMGR serves. -/
def TrsUse.end_ : TrsUse → Option (Nat × Nat)
  | .ring q e _ => some (q, e)
  | .pull q e _ _ => some (q, e)
  | .push q e _ => some (q, e)
  | .entry q e => some (q, e)
  | _ => none

/-- A request of QMGR that another member refused: cause 0x0C04 against a bay of this member; that of a claim is raised on
its home (R612). -/
def State.qmgrBlocked (s : State) (u : TrsUse) : State :=
  match u.end_ with
  | some (q, e) => if (s.claimOf q e).isSome then s else s.barred (s.qInit q e) 0x0C04 0 (match u with | .push _ _ _ => true | .entry _ _ => true | _ => false)
  | none => s

/-- Requests that wait are issued where there is room; one whose destination is lost fails at once (R610, R611). -/
def State.trsKick (s : State) : State :=
  s.forEach (List.range s.link.trs.queue.length) (fun _ t =>
    match t.link.trs.queue.find? (fun x => t.reach x.1 == false || decide ((t.link.trs.open_.filter (fun r => r.dst == x.1)).length < 64)) with
    | some x =>
      if t.reach x.1 then t.trsNext x.1
      else
        let q := t.link.trs.queue
        State.useUnknown (t.modTrs (fun y => { y with queue := (q.takeWhile (fun z => z != x)) ++ (q.dropWhile (fun z => z != x)).drop 1 })) x.2.2
    | none => t)

/-- The response to a request, with its STATUS and data (R610). -/
def State.trsDone (s : State) (r : TrsReq) (st : Nat) (d : List Byte) : State :=
  let s := s.trsClose r
  let s := if st = 4 ∨ st = 5 then s.inc R.TRS_FAILS.NOT_EXEC else s
  match r.use with
  | .access i wr a c =>
    if st = 0 then
      let s := if wr then s else s.reply ((List.range ((d.length + 3) / 4)).map (fun k => BitVec.ofNat 32 (leAt d (4 * k) 4)))
      (match c with | some w => s.coreDone (s.hartOf i.inst) w d | none => s)
    else if st = 1 then s.blocked i 0x0C04 a wr
    else s.busError i wr a
  | .message m =>
    if st = 0 then
      (let q := s.mbxQ m 0
       if q.sending && !q.msgs.isEmpty then s.mbxTaken m 0 q else s)
    else s.mbxRefused m 0x0812 (if st = 2 ∨ st = 3 then st - 1 else 0)
  | .bell _ => s
  | u =>
    if st = 0 then s.qmgrAnswer u (.inl d)
    else if st = 1 then (s.qmgrBlocked u).qmgrAnswer u (.inr (0x0801, 0))
    else s.qmgrAnswer u (.inr (0x0805, 0x3802))

/-- A response for this member: the outstanding request that it answers (R603). -/
def State.trsResponse (s : State) (src eseq st : Nat) (d : List Byte) : State :=
  match s.trsX.open_.find? (fun r => r.dst == src && r.eseq == eseq) with
  | some r => ((s.trsDone r st d).trsKick).trsBound
  | none => s

/-! ### Receiving frames (R602, R604) -/

/-- A sequenced frame taken from Trestle lane `l`; a member that was refused takes no part (R600). -/
def State.trsTake (s : State) (l q : Nat) (f : State → State) : State :=
  if l < 4 ∨ 5 < l ∨ s.on R.TRS_STATUS.JOIN_REFUSED = true then s
  else
    match s.hopTake l q with
    | (s, false) => s
    | (s, true) => f s

/-- A frame to one position: acted on here, or relayed along the routes (R604). -/
def State.trsTo (s : State) (l q src dst ft : Nat) (data : List Byte) (f : State → State) : State :=
  s.trsTake l q (fun t => if dst = t.pos then f t else t.trsSend dst ⟨ft, 0, trsB7 src dst, data, 6⟩)

/-- RDR (R610). -/
def execTrsRdr (l q src dst eseq home st : Nat) (d : List Byte) (s : State) : Host.Outcome State Fault Refusal :=
  let data := toBE 2 eseq ++ toBE 1 home ++ toBE 1 st ++ List.replicate 4 0 ++ d
  answer (s.trsTo l q src dst 0x21 data (fun t => t.trsResponse src eseq st d))

/-- RSP (R610). -/
def execTrsRsp (l q src dst eseq home st : Nat) (s : State) : Host.Outcome State Fault Refusal :=
  let data := toBE 2 eseq ++ toBE 1 home ++ toBE 1 st ++ List.replicate 4 0
  answer (s.trsTo l q src dst 0x23 data (fun t => t.trsResponse src eseq st []))

/-- TRS_REQUEST_TIMEOUT: no response within 100 µs (R610). -/
def execTrsRequestTimeout (d eseq : Nat) (s : State) : Host.Outcome State Fault Refusal :=
  answer (match s.trsX.open_.find? (fun r => r.dst == d && r.eseq == eseq) with
  | some r => s.trsUnknown r
  | none => s)

/-- Whether a request of position `src` is newer than the last one executed (R609). -/
def State.eseqNew (s : State) (src eseq : Nat) : Bool :=
  decide ((eseq + 65536 - SMap.get 0 s.trsX.eseqRx src) % 65536 < 32768)

def State.eseqDone (s : State) (src eseq : Nat) : State :=
  s.modTrs (fun t => { t with eseqRx := SMap.set 0 t.eseqRx src ((eseq + 1) % 65536) })

/-- TRS_MSG: a message for mailbox `m` from mailbox `from_` of member `src` (R361 to R363, R617). -/
def execTrsMsg (l q src dst eseq home m from_ : Nat) (ws : List Word) (s : State) : Host.Outcome State Fault Refusal :=
  let data := toBE 2 eseq ++ toBE 1 home ++ [0] ++ toBE 1 m ++ toBE 1 from_ ++ toBE 1 ws.length ++ [0] ++ wordBlocks ws
  answer (s.trsTo l q src dst 0x24 data (fun t =>
    if t.eseqNew src eseq = false then t.trsAnswer src eseq home 4
    else
      let t := t.eseqDone src eseq
      match t.binding m with
      | some r =>
        if C.LINK4.LINKSEL r = 1 ∧ C.LINK4.MEMBER r = src ∧ C.LINK4.REMOTE_MBX r = from_ then
          if t.live (C.LINK4.BAY r) then
            (t.modVdt (fun v => { v with held := v.held ++ [⟨m, from_, ws, src, eseq, home⟩] })).trsHeld
          else t.trsAnswer src eseq home 3
        else t.trsAnswer src eseq home 2
      | none => t.trsAnswer src eseq home 2))

/-- TRS_DB: a doorbell behind its message, dropped while its bay does not run (R363, R617). -/
def execTrsDb (l q src dst eseq home m : Nat) (s : State) : Host.Outcome State Fault Refusal :=
  let data := toBE 2 eseq ++ toBE 1 home ++ [0] ++ toBE 1 m ++ [0, 0, 0]
  answer (s.trsTo l q src dst 0x25 data (fun t =>
    if t.eseqNew src eseq = false then t.trsAnswer src eseq home 4
    else
      let t := t.eseqDone src eseq
      match t.binding m with
      | some r =>
        if C.LINK4.LINKSEL r = 1 ∧ C.LINK4.MEMBER r = src then
          if t.live (C.LINK4.BAY r) then
            let t := if t.link.vdt.held.any (fun x => x.mbx == m) then t.modVdt (fun v => { v with bells := v.bells ++ [m] })
              else t.flag (R.MBX_IRQ.DB m 0) true
            t.trsAnswer src eseq home 0
          else t.trsAnswer src eseq home 3
        else t.trsAnswer src eseq home 2
      | none => t.trsAnswer src eseq home 2))

/-! ### Members, master and routes (R601, R606, R608) -/

/-- The master: the lowest present and reachable position; the UID of another master comes with TOPO (R601). -/
def State.setMaster (s : State) : State :=
  match (List.range 8).find? (fun p => (s.get R.TRS_MEMBERS.PRESENT).testBit p && s.reach p) with
  | none => s
  | some m =>
    let me := m == s.pos && !s.trsX.unplaced
    if s.get R.TRS_STATUS.MASTER = m ∧ s.on R.TRS_STATUS.IS_MASTER = me then s
    else
      let s := ((s.put R.TRS_STATUS.MASTER m).flag R.TRS_STATUS.IS_MASTER me).irqTrs R.TRS_IRQ_PEND.TOPO_CHG
      if me then (s.put R.TRS_MASTER_UID_LO.UID s.sec.otp.uid).put R.TRS_MASTER_UID_HI.UID (s.sec.otp.uid / 4294967296) else s

/-- The level of a claim's interrupt: its resource's line, or a completion interrupt of its queues (R615). -/
def State.claimLevel (s : State) (c : TrsClaim) : Bool :=
  s.line (c.res + 2) || (List.range 256).any (fun q => s.claimHasQueue c q && (List.range 2).any (fun e =>
    s.on (R.QMGR_STAT.CPL_IRQ q e) && (s.claimOf q e).isSome))

/-- Claims that a lost home leaves: resources in block reset, pins parked; the claims stay (R616). -/
def State.dropHome (s : State) (p : Nat) : State :=
  s.forEach (s.trsX.claims.filter (fun c => c.home == p)) (fun c t =>
    (t.forEach (List.range c.pinCount) (fun k u => u.parkPin (c.pinFirst + k))).resetPeriph c.res)

/-- A position is lost: 0x3803, its requests unknown, its claims held without it (R606, R610, R616). -/
def State.memberLost (s : State) (p : Nat) : State :=
  let s := (s.clrB R.TRS_MEMBERS.PRESENT p).setB R.TRS_MEMBERS.LOST p
  let s := (s.irqTrs R.TRS_IRQ_PEND.MEMBER_LOST).irqTrs R.TRS_IRQ_PEND.TOPO_CHG
  let s := s.report s.trsBay 0x3803 p (s.get R.TRS_MEMBERS.PRESENT)
  let waiting := s.trsX.queue.filter (fun x => x.1 == p)
  let s := s.modTrs (fun t => { t with queue := t.queue.filter (fun x => x.1 != p) })
  let s := s.forEach (s.trsX.open_.filter (fun r => r.dst == p)) (fun r t => t.trsUnknown r)
  let s := s.forEach waiting (fun x t => t.useUnknown x.2.2)
  s.dropHome p

/-- Routes after a break: unreachable positions are lost; each end of a ring break heals it (R606). -/
def State.applyRoutes (s : State) (isEnd : Option Nat) : State :=
  let lost := (List.range 8).filter (fun p => (s.get R.TRS_MEMBERS.PRESENT).testBit p && !(s.reach p))
  let s := s.forEach lost (fun p t => t.memberLost p)
  let s := s.flag R.TRS_STATUS.RING_BROKEN (s.ring && s.trsX.lostHops != 0)
  let s := s.setMaster
  match isEnd with
  | some l =>
    let h := s.hopId l
    if s.ring && s.trsX.lostHops == 2 ^ h then
      ((s.irqTrs R.TRS_IRQ_PEND.HEALED).report s.trsBay 0x3804 h 0).trsAll l
        ⟨0x2B, 0, trsBcast s.pos, toBE 1 2 ++ toBE 1 h ++ [0, 0] ++ toBE 4 0, 4⟩
    else s
  | none => s

/-- Whether a frame type is a request or a response (R603). -/
def isRequest (t : Nat) : Bool := t == 0x20 || t == 0x22 || t == 0x24 || t == 0x25
def isResponse (t : Nat) : Bool := t == 0x21 || t == 0x23

/-- The destination of a frame, none for a broadcast (R602). -/
def frameDst (f : LFrame) : Option Nat := if f.b7 / 64 % 2 = 1 then none else some (f.b7 / 8 % 8)

/-- The hop of lane `l` is lost, with its lane state then: cause 0x3802, ROUTE BREAK on the other lane, waiting
frames on their new route (R606). -/
def State.hopLost (s : State) (l st : Nat) : State :=
  let h := s.hopId l
  if s.stackOn = false ∨ s.trsX.lostHops.testBit h then s
  else
    let s := s.report s.trsBay 0x3802 l (st + 256 * (s.trsX.near.getD (l - 4) 0xFF % 8))
    let s := s.modTrs (fun t => { t with lostHops := setBit t.lostHops h, awaiting := setBit t.awaiting (l - 4) })
    let moved := (s.hopAt (l - 3)).waiting
    let s := s.modHop (l - 3) (fun x => { x with waiting := [] })
    let s := s.trsAll l ⟨0x2B, 0, trsBcast s.pos, toBE 1 1 ++ toBE 1 h ++ [0, 0] ++ toBE 4 (s.hopAt (l - 3)).rxSeq, 4⟩
    let s := s.applyRoutes (some l)
    s.forEach moved (fun f t => match frameDst f with | some d => t.trsSend d f | none => t)

/-- What a far end's EXP_SEQ leaves of the replay buffer: requests answered NOT_DELIVERED, responses gone (R608).  Where
the lane stayed UP, its sequence goes on from EXP_SEQ. -/
def State.hopSettle (s : State) (l exp : Nat) : State :=
  let left := (s.hopAt (l - 3)).unacked.filter (fun f => !(seqLt f.seq exp))
  let s := s.modHop (l - 3) (fun x => { x with unacked := [], txSeq := exp })
  let s := s.modLane l (fun x => { x with copies := [] })
  let s := s.modTrs (fun t => { t with awaiting := clrBit t.awaiting (l - 4) })
  s.forEach (left.filter (fun f => isRequest f.ftype)) (fun f t =>
    let src := f.b7 % 8
    let eseq := beAt f.data 0 2
    if src = t.pos then t.trsResponse (f.b7 / 8 % 8) eseq 5 []
    else t.trsSend src ⟨if f.ftype = 0x20 then 0x21 else 0x23, 0, trsB7 (f.b7 / 8 % 8) src,
      toBE 2 eseq ++ toBE 1 (beAt f.data 2 1) ++ toBE 1 5 ++ List.replicate 4 0, 5⟩)

/-- ROUTE received: relayed; a BREAK switches routes, and at the near end settles the buffer (R606, R608). -/
def execTrsRoute (l q src kind hop exp : Nat) (s : State) : Host.Outcome State Fault Refusal :=
  answer (s.trsTake l q (fun t =>
    if src = t.pos then t
    else
      let t := t.trsAll l ⟨0x2B, 0, trsBcast src, toBE 1 kind ++ toBE 1 hop ++ [0, 0] ++ toBE 4 exp, 4⟩
      if kind ≠ 1 then t
      else if hop = t.hopId (9 - l) then (t.hopLost (9 - l) (t.get (laneFld (9 - l)))).hopSettle (9 - l) exp
      else (t.modTrs (fun x => { x with lostHops := setBit x.lostHops hop })).applyRoutes none))

/-- HOP_LOST: 30 µs without a valid heartbeat, which are three missed ones (R606). -/
def execHopLost (l : Nat) (s : State) : Host.Outcome State Fault Refusal :=
  answer (if 4 ≤ l ∧ l < 6 ∧ s.laneUp l then (s.addSat R.TRS_HB_MISS.COUNT 3).hopLost l 4 else s)

/-- ROUTE_BREAK_TIMEOUT: no ROUTE BREAK within 10 µs (R608). -/
def execRouteBreakTimeout (l : Nat) (s : State) : Host.Outcome State Fault Refusal :=
  answer (if s.trsX.awaiting.testBit (l - 4) then
    ((s.modHop (l - 3) (fun x => { x with unacked := [] })).modLane l (fun x => { x with copies := [] })).modTrs (fun t => { t with awaiting := clrBit t.awaiting (l - 4) })
  else s)

/-! ### Formation, positions and heartbeats (R599, R600, R607, R623) -/

/-- TOPO as this member knows the stack (R603). -/
def State.topoFrame (s : State) : LFrame :=
  ⟨0x2C, 0, trsBcast s.pos, toBE 1 (s.get R.TRS_STATUS.MASTER) ++ toBE 1 (s.get R.TRS_MEMBERS.PRESENT) ++
    toBE 1 (s.get R.TRS_STATUS.ELECTED + 2 * b2n (s.ring && s.trsX.lostHops == 0)) ++ List.replicate 5 0 ++
    toBE 4 (s.get R.TRS_MASTER_UID_HI.UID) ++ toBE 4 (s.get R.TRS_MASTER_UID_LO.UID), 4⟩

/-- Claims sent to a member: one per LINK table 3 record that names it (R613). -/
def State.sendClaims (s : State) (d : Nat) : State :=
  let rs := s.recs .link 3
  s.forEach (List.range rs.length) (fun c t =>
    match rs[c]? with
    | some r =>
      if C.LINK3.MEMBER r = d then
        t.trsSend d ⟨0x29, 0, trsB7 t.pos d, toBE 1 (C.LINK3.BAY r) ++ toBE 1 (C.LINK3.RES r) ++ toBE 1 (C.LINK3.PIN_FIRST r) ++
          toBE 1 (C.LINK3.PIN_COUNT r) ++ toBE 1 c ++ [0, 0, 0], 4⟩
      else t
    | none => t)

/-- A position joins: after formation it is sent its claims (R623). -/
def State.memberJoins (s : State) (p : Nat) : State :=
  if (s.get R.TRS_MEMBERS.PRESENT).testBit p then s
  else
    let s := (s.setB R.TRS_MEMBERS.PRESENT p).irqTrs R.TRS_IRQ_PEND.TOPO_CHG
    let s := s.setMaster
    if s.on R.TRS_STATUS.FORMED && p != s.pos then s.sendClaims p else s

/-- Whether the members elect: the own strap and every neighbour's known strap are 0 (R599). -/
def State.electing (s : State) : Bool :=
  s.get R.SYS_STRAPS.STACK_POS == 0 && s.trsX.straps.all (fun p => p == 0 || p == 0xFF) &&
  s.trsX.straps.any (fun p => p == 0)

/-- The UID of the best master known. -/
def State.bestUid (s : State) : Nat := s.get R.TRS_MASTER_UID_LO.UID + 4294967296 * s.get R.TRS_MASTER_UID_HI.UID

/-- A lower UID learned under election: this member is not the master, and has no position yet (R599, R623). -/
def State.learnUid (s : State) (u : Nat) : State :=
  if s.electing && decide (u < s.bestUid) then
    let s := (s.put R.TRS_MASTER_UID_LO.UID u).put R.TRS_MASTER_UID_HI.UID (u / 4294967296)
    let s := (s.flag R.TRS_STATUS.ELECTED true).flag R.TRS_STATUS.IS_MASTER false
    (s.put R.TRS_MEMBERS.PRESENT 0).modTrs (fun t => { t with unplaced := true })
  else s.flag R.TRS_STATUS.ELECTED s.electing

/-- A position taken from a placed neighbour: the next one along UP lanes, the lowest free one along the master's
DOWN lane (R599). -/
def State.takePos (s : State) (l near : Nat) : State :=
  if s.trsX.unplaced = false ∨ near = 0xFF then s
  else
    let free := ((List.range 8).find? (fun p => p != 0 && !((s.get R.TRS_MEMBERS.PRESENT).testBit p))).getD 7
    let p := if l = 5 then near + 1 else if near = 0 then free else near + 1
    ((s.put R.TRS_STATUS.POS (p % 8)).modTrs (fun t => { t with unplaced := false })).memberJoins (p % 8)

/-- The inbound delay of a lane: the mean of d over its last 64 heartbeats, plus half of ASYM (R620). -/
def State.inbound (s : State) (l : Nat) : Int :=
  let ds := (s.laneAt l).delays
  let d := if ds = [] then 0 else rdiv (ds.foldl (fun a b => a + b) 0) ds.length
  d + s.getI (if l = 4 then R.TRS_ASYM.UP else R.TRS_ASYM.DOWN) / 2

/-- The spread of the last 64 values of d. -/
def spread (l : List Int) : Int := l.foldl max (l.headD 0) - l.foldl min (l.headD 0)

/-- Whether a lane's calibration is off: delay outside 30 to 300 ns, or 64 values over more than 8 ns (R621). -/
def State.calibBad (s : State) (l : Nat) : Bool :=
  let ds := (s.laneAt l).delays
  !ds.isEmpty && (decide (s.inbound l < 30 ∨ 300 < s.inbound l) || (ds.length == 64 && decide (8 < spread ds)))

/-- The delays of a lane with one more value; cause 0x3806 as they leave their bounds (R620, R621). -/
def State.noteDelay (s : State) (l : Nat) (d : Int) : State :=
  let was := s.calibBad l
  let s := s.modLane l (fun x => { x with delays := d :: x.delays.take 63 })
  let s := s.put (if l = 4 then R.TRS_DELAY.UP else R.TRS_DELAY.DOWN) (wrapInt 16 (s.inbound l))
  if s.calibBad l && !was then
    (s.irqTrs R.TRS_IRQ_PEND.CALIB).report s.trsBay 0x3806 l
      (wrapInt 16 (s.inbound l) + 65536 * wrapInt 16 (spread (s.laneAt l).delays))
  else s

/-- TRS_HB on lane `l`, received at steady ns `t4`, with its 48 data bytes (R600, R607, R620). -/
def State.trsHbTaken (s : State) (l t4 : Nat) (d : List Byte) : State :=
  let near := beAt d 0 1
  let uid := beAt d 8 8
  let t3 := beAt d 16 8
  let s := s.noteDelay l (hbDelay (beAt d 24 8) (beAt d 32 8) t3 t4)
  let s := s.modLane l (fun x => { x with hbTx := t3, hbRx := t4 })
  let s := s.modTrs (fun t => { t with near := updAt t.near (l - 4) (fun _ => near) })
  let s := (s.learnUid uid).takePos l near
  let s := if !s.electing && near == s.pos && decide (uid < s.sec.otp.uid) then s.flag R.TRS_STATUS.JOIN_REFUSED true else s
  if (beAt d 2 1).testBit 1 || near == 0xFF || s.trsX.unplaced || s.on R.TRS_STATUS.JOIN_REFUSED then s
  else
    let back := s.trsX.lostHops.testBit (s.hopId l)
    let s := if back then s.modTrs (fun t => { t with lostHops := clrBit t.lostHops (s.hopId l) }) else s
    let s := s.flag R.TRS_STATUS.RING_BROKEN (s.ring && s.trsX.lostHops != 0)
    let fresh := !((s.get R.TRS_MEMBERS.PRESENT).testBit near)
    let s := s.memberJoins near
    if back || fresh then s.trsAll 0 s.topoFrame else s

def execTrsHb (l t4 : Nat) (d : List Byte) (s : State) : Host.Outcome State Fault Refusal :=
  answer (if 4 ≤ l ∧ l < 6 ∧ s.laneUp l then s.trsHbTaken l t4 d else s)

/-- TOPO received: present members, master's UID, and a ring that is closed again; relayed where it brought
anything new (R603, R623). -/
def execTrsTopo (l q src master present flags uid : Nat) (s : State) : Host.Outcome State Fault Refusal :=
  answer (s.trsTake l q (fun t =>
    if src = t.pos ∧ t.trsX.unplaced = false then t
    else
      let old := (t.get R.TRS_MEMBERS.PRESENT, t.bestUid, t.trsX.lostHops)
      let t := t.learnUid uid
      let t := if flags.testBit 1 then (t.modTrs (fun x => { x with lostHops := 0 })).flag R.TRS_STATUS.RING_BROKEN false else t
      let t := t.forEach (List.range 8) (fun p u => if present.testBit p && (u.hopTo p).isSome then u.memberJoins p else u)
      let t := if t.get R.TRS_STATUS.MASTER = master ∧ t.on R.TRS_STATUS.IS_MASTER = false then
        (t.put R.TRS_MASTER_UID_LO.UID uid).put R.TRS_MASTER_UID_HI.UID (uid / 4294967296) else t
      if (t.get R.TRS_MEMBERS.PRESENT, t.bestUid, t.trsX.lostHops) = old then t else t.trsAll l t.topoFrame))

/-- The lanes may train: content checks passed with STACK_EN 1 (R623). -/
def State.trsBegin (s : State) : State :=
  if s.stackOn = false then s
  else
    let p := s.get R.SYS_STRAPS.STACK_POS
    let s := (s.put R.TRS_STATUS.POS p).setB R.TRS_MEMBERS.PRESENT p
    let s := (s.put R.TRS_MASTER_UID_LO.UID s.sec.otp.uid).put R.TRS_MASTER_UID_HI.UID (s.sec.otp.uid / 4294967296)
    (s.put R.TRS_STATUS.MASTER p).flag R.TRS_STATUS.IS_MASTER true

/-- STACK_FORMED: members still missing are lost, ESEQ starts, claims go out (R603, R613, R623). -/
def State.formed (s : State) : State :=
  let s := (s.flag R.TRS_STATUS.FORMED true).modTrs (fun t => { t with eseqTx := [], eseqRx := [] })
  let s := s.forEach (indices s.members (fun p => !((s.get R.TRS_MEMBERS.PRESENT).testBit p))) (fun p t => t.memberLost p)
  let s := s.forEach (indices 8 (fun p => p != s.pos && (s.get R.TRS_MEMBERS.PRESENT).testBit p)) (fun p t => t.sendClaims p)
  s.trsBound

def execStackFormed (s : State) : Host.Outcome State Fault Refusal :=
  answer (if s.stackOn && !(s.on R.TRS_STATUS.FORMED) then s.formed else s)

/-! ### Stack-wide interrupt (R618) and forwarded interrupts (R615) -/

/-- SIRQ latched: CODE and SRC, and the bays that TRS_SIRQ_BAYS names. -/
def State.sirqLatch (s : State) (src code : Nat) : State :=
  let s := ((s.put R.TRS_SIRQ_LAST.CODE code).put R.TRS_SIRQ_LAST.SRC src).irqTrs R.TRS_IRQ_PEND.SIRQ
  s.forEach (indices 8 (fun b => (s.get R.TRS_SIRQ_BAYS.BAYS).testBit b)) (fun b t => t.flag (R.TRSn_SIRQ.PEND b) true)

def sirqFrame (src code : Nat) : LFrame := ⟨0x27, 0, trsBcast src, toBE 2 code ++ List.replicate 6 0, 5⟩

/-- SIRQ received: latched and relayed. -/
def execSirq (l q src code : Nat) (s : State) : Host.Outcome State Fault Refusal :=
  answer (s.trsTake l q (fun t => if src = t.pos then t else (t.sirqLatch src code).trsAll l (sirqFrame src code)))

/-- TRS_SIRQ_SEND; one that still waits to be sent gives way. -/
def State.sirqSend (t : State) (code : Nat) : State :=
  let t := t.forEach [1, 2] (fun h u => u.modHop h (fun x =>
    { x with waiting := x.waiting.filter (fun f => !(f.ftype == 0x27 && f.b7 == trsBcast t.pos)) }))
  (t.sirqLatch t.pos (code % 65536)).trsAll 0 (sirqFrame t.pos (code % 65536))

def execTrsSirqSend (by_ : Init) (code : Nat) (s : State) : Host.Outcome State Fault Refusal :=
  answer (s.byOwner by_ 43 R.TRS_SIRQ_SEND.CODE.addr (fun t => t.sirqSend code))

/-- IRQ: the level of own claim `c` (R615, R626). -/
def execTrsIrq (l q src dst c : Nat) (level : Bool) (s : State) : Host.Outcome State Fault Refusal :=
  answer (s.trsTo l q src dst 0x26 (toBE 1 c ++ toBE 1 (b2n level) ++ List.replicate 6 0) (fun t =>
    match (t.recs .link 3)[c]? with
    | some r => if C.LINK3.MEMBER r = src then t.putB (R.TRSn_REMOTE_PEND.CLAIM (C.LINK3.BAY r)) c level else t
    | none => t))

/-- Every change of a held claim's interrupt level sent to its home as an IRQ frame (R615). -/
def State.forwardClaims (s : State) : State :=
  s.forEach s.trsX.claims (fun c t =>
    let v := t.claimLevel c
    if v = c.level then t
    else
      (t.modTrs (fun x => { x with claims := x.claims.map (fun y => if y = c then { y with level := v } else y) })).trsSend c.home
        ⟨0x26, 0, trsB7 t.pos c.home, toBE 1 c.num ++ toBE 1 (b2n v) ++ List.replicate 6 0, 4⟩)

/-! ### Claims (R613, R614, R616) -/

/-- The port queues that a claim of an ETH port covers (R470, R613). -/
def claimQueues (res : Nat) : List Nat :=
  if 10 ≤ res ∧ res < 14 then (List.range 24).map (fun k => 24 * (res - 10) + k) else []

/-- The answer to a claim (R614). -/
def State.claimResult (s : State) (home bay res pf pc : Nat) : Nat :=
  let held := s.trsX.claims
  let mine := held.any (fun c => c.home == home && c.bay == bay && c.res == res)
  if (s.ownPeriph res).isSome || (List.range pc).any (fun k => (s.ownPin (pf + k)).isSome) ||
      (claimQueues res).any (fun q => (s.ownQueue q).isSome || (s.grant 1 q).isSome) ||
      (s.recs .imgs 0).any (fun r => decide (10 ≤ res) && (C.IMGS0.PORTS r).testBit (res - 10)) then 2
  else if held.any (fun c => c.res == res) && !mine then 3
  else if 10 ≤ res ∧ res < 14 ∧ s.ethMode (res - 10) = 0 then 4
  else if 32 ≤ held.length ∧ mine = false then 5
  else if s.on R.TRS_STATUS.ELECTED then 6
  else 1

/-- TRS_CLAIM (R614, R616). -/
def execTrsClaim (l q src dst bay res pf pc num : Nat) (s : State) : Host.Outcome State Fault Refusal :=
  answer (s.trsTo l q src dst 0x29 (toBE 1 bay ++ toBE 1 res ++ toBE 1 pf ++ toBE 1 pc ++ toBE 1 num ++ [0, 0, 0]) (fun t =>
    let r := t.claimResult src bay res pf pc
    let t := if r = 1 then t.modTrs (fun x =>
      { x with claims := x.claims.filter (fun c => c.res != res) ++ [⟨src, bay, res, pf, pc, num, false⟩] }) else t
    let t := t.put R.TRS_CLAIM_IN.COUNT t.trsX.claims.length
    t.trsSend src ⟨0x2A, 0, trsB7 t.pos src, toBE 1 bay ++ toBE 1 res ++ toBE 1 r ++ toBE 1 num ++ List.replicate 4 0, 4⟩))

/-- CLAIM_RSP (R614, R628). -/
def execClaimRsp (l q src dst bay res result num : Nat) (s : State) : Host.Outcome State Fault Refusal :=
  answer (s.trsTo l q src dst 0x2A (toBE 1 bay ++ toBE 1 res ++ toBE 1 result ++ toBE 1 num ++ List.replicate 4 0) (fun t =>
    let t := t.putB R.TRS_CLAIM_OUT.ACCEPTED num (result == 1)
    if result = 1 then t
    else (t.irqTrs R.TRS_IRQ_PEND.CLAIM_REFUSED).report bay 0x3805 bay (num + 256 * result)))

/-! ### Stack time (R619, R620, R622) -/

/-- The number of hops between this member and the master, along the present route. -/
def State.masterHops (s : State) : Nat :=
  let m := s.get R.TRS_STATUS.MASTER
  let k := max s.pos m - min s.pos m
  if s.runGood (min s.pos m) k then k else s.members - k

/-- TIME_FRAME_SEND (R619); MASTER_STEADY and the traceable time are set as the START block leaves. -/
def execTimeFrameSend (s : State) : Host.Outcome State Fault Refusal :=
  answer (if s.on R.TRS_STATUS.IS_MASTER && s.stackOn then
    s.trsAll 0 ⟨0x28, 0, trsBcast s.pos, toBE 8 s.now ++ toBE 8 0 ++ s.traceBytes ++ toBE 2 (s.get R.TIME_STATUS.EPOCH) ++
      List.replicate 4 0, 3⟩
  else s)

/-- A TIME frame of master `src` taken: M, e, ALIGNED and the samples (R620). -/
def State.timeTaken (s : State) (l ms corr t4 : Nat) (tr : Option Int) : State :=
  let m : Int := (ms : Int) + corr + s.inbound l
  let e := m - (t4 : Int)
  let h : Int := s.masterHops
  let good := if -2 * h ≤ e ∧ e ≤ 2 * h then s.trsX.good + 1 else 0
  let s := s.putI R.TRS_TIME_ERR.E e
  let s := s.modTrs (fun t => { t with
    samples := (m, s.rawAt t4) :: t.samples.take 63, good := good
    lastTrace := tr.map (fun i => (i + (m - ms), (t4 : Int))) })
  if 8 ≤ good then s.setAligned true
  else if e < -4 * h ∨ 4 * h < e then s.setAligned false else s

/-- TIME_FRAME: the first one with its MASTER_STEADY is relayed, with the inbound delay and the residence in CORR; of
two masters the lower position counts (R619, R620, R627). -/
def State.timeFrame (s : State) (l q src ms corr epoch t4 : Nat) (tr : Option Int) : State :=
  s.trsTake l q (fun t =>
    if t.get R.TRS_STATUS.MASTER < src ∨ (t.on R.TRS_STATUS.IS_MASTER = true ∧ src = t.pos) ∨ t.trsX.lastTime = some ms then t
    else
      let t := t.modTrs (fun x => { x with lastTime := some ms })
      let tb : List Byte := match tr with
        | some i => toBE 6 (wrapInt 48 (i / 1000000000)) ++ toBE 4 (wrapInt 32 (i % 1000000000))
        | none => List.replicate 6 0xFF ++ toBE 4 0
      let t := t.trsAll l ⟨0x28, 0, trsBcast src, toBE 8 ms ++ toBE 8 (wrapInt 64 ((corr : Int) + t.inbound l - t4)) ++ tb ++
        toBE 2 epoch ++ List.replicate 4 0, 3⟩
      if t.get R.TIME_CFG2.SOURCE = 2 then t.timeTaken l ms corr t4 tr else t)

/-- The phase term of R620: e over 1 ms, at most 50 ppm, in units of ADJ. -/
def phaseTerm (e : Int) : Int := rdiv (clampInt (-50) 50 e * 17179869184) 1000000

/-- Following the master: each 1 ms the rate, each 125 ms (`corr`) a correction (R620, R622). -/
def State.stackFollow (s : State) (corr : Bool) : State :=
  if s.get R.TIME_CFG2.SOURCE ≠ 2 ∨ s.on R.TRS_STATUS.IS_MASTER ∨ s.trsX.samples.length < 2 then s
  else if corr = false then s.setAdj (s.matchRate s.trsX.samples + phaseTerm (s.getI R.TRS_TIME_ERR.E))
  else
    match s.trsX.lastTrace with
    | some (p, t4) =>
      let since := (s.now : Int) - t4
      let own : Int := (s.traceQ.getD 0) / qns - since
      s.submitCorr (if s.time.state = .invalid then p + since else p - own)
    | none => s

/-- STACK_TIME_FOLLOW. -/
def execStackTimeFollow (corr : Bool) (s : State) : Host.Outcome State Fault Refusal :=
  answer (s.tevTriggers (s.stackFollow corr))

/-! ### Lane training of both links (R553 to R555, R598) -/

/-- The flag that shows a lane held in TS1. -/
def holdFld (l : Nat) : Fld := if l < 4 then R.VDT_STATUS.ID_CLASH else R.TRS_STATUS.MISWIRED
/-- The other lane of the same link. -/
def lanePair (l : Nat) : Nat := if l < 4 then 5 - l else 9 - l

/-- A lane leaves the hold of ID_CLASH or MISWIRED. -/
def State.unclash (s : State) (l : Nat) : State :=
  let s := s.modLane l (fun x => { x with clash := false })
  s.flag (holdFld l) (s.laneAt (lanePair l)).clash

/-- What the loss of the last Viaduct lane empties (R561, R563, R587): buffers, mirror queues, bulk passes; a bound
message in transit is sent again. -/
def State.vdtDark (s : State) : State :=
  let s := (s.modHop 0 (fun x => { Hop.cold with replays := x.replays })).showSeq
  let s := s.modVdt (fun v => { v with mq := List.replicate 8 [], bulk := List.replicate 8 none })
  let s := s.forEach (List.range 8) (fun b t => t.put (R.VDTn_MQ.FILL b) 0)
  s.forEach ((s.recs .link 4).filter (fun r => C.LINK4.LINKSEL r == 0)) (fun r t =>
    let m := C.LINK4.MBX r
    t.putMbx m 0 { t.mbxQ m 0 with sending := false })

/-- A lane goes to DOWN from any state; leaving UP is reported (R553, R594, R606). -/
def State.laneDown (s : State) (l : Nat) : State :=
  let st := s.get (laneFld l)
  let s := (s.put (laneFld l) 0).modLane l (fun x => { x with cur := none, ctl := [], copies := [], higher := false })
  let s := if (s.laneAt l).clash then s.unclash l else s
  if st ≠ 4 then s
  else if l < 4 then
    let s := (s.clrB R.VDT_STATUS.LANE_UP (l - 2)).flag R.VDT_IRQ_PEND.LINK_CHG true
    let s := s.report (ownerOr0 (s.ownPeriph 42)) 0x3402 l st
    if s.get R.VDT_STATUS.LANE_UP = 0 then s.vdtDark else s
  else s.hopLost l st

/-- A lane reaches UP: sequences start with the first lane of a link (R553, R559, R561). -/
def State.laneRise (s : State) (l : Nat) : State :=
  let first := if l < 4 then s.get R.VDT_STATUS.LANE_UP == 0 else true
  let s := s.put (laneFld l) 4
  let s := if first then (s.modHop (hopOf l) (fun x => { Hop.cold with replays := x.replays, waiting := x.waiting })).showSeq else s
  if l < 4 then
    let s := (s.setB R.VDT_STATUS.LANE_UP (l - 2)).flag R.VDT_IRQ_PEND.LINK_CHG true
    let s := s.modVdt (fun v => { v with quiet := false })
    let s := if first then s.forEach (List.range 8) (fun b t => if t.roleOf b = 3 then t.resyncReq b else t) else s
    (s.hopKick 0).vdtBound
  else
    let s := s.modTrs (fun t => { t with awaiting := clrBit t.awaiting (l - 4) })
    s.laneKick l

/-- Whether received TS blocks hold a lane in TS1: byte 3 carries the own PAIR_ID, or the own end of the wire. -/
def State.tsHolds (s : State) (l ts : Nat) : Bool :=
  if l < 4 then ts % 2 == s.get R.SYS_STRAPS.PAIR_ID else ts.testBit 3 == (l == 4)

/-- VDT_LANE_TRAINING on lanes 2 to 5: `ev` 0 PLL lock, 1 block lock, 2 eight TS blocks of either kind with byte 3 at
`ts`, 3 eight kind-2 blocks with sixteen sent. -/
def State.laneTrain (s : State) (l ev ts : Nat) : State :=
  let st := s.get (laneFld l)
  if s.laneUsed l = false ∨ s.clocked = false ∨ s.sys.lanesIdle ∨ s.laneTest l then s
  else if ev = 0 ∧ st = 0 then (s.setB R.SYS_CLK_STATUS.LANE_LOCK l).put (laneFld l) 1
  else if ev = 1 ∧ st = 1 then (s.put (laneFld l) 2).modLane l (fun x => { x with downs := 0 })
  else if ev = 2 ∧ st = 2 then
    let s := if l < 4 then s else s.modTrs (fun t => { t with straps := updAt t.straps (l - 4) (fun _ => ts % 8) })
    if s.tsHolds l ts then
      let s := (s.modLane l (fun x => { x with clash := true })).flag (holdFld l) true
      if l < 4 then s.flag R.VDT_IRQ_PEND.ID_CLASH true else s
    else (if (s.laneAt l).clash then s.unclash l else s).put (laneFld l) 3
  else if ev = 3 ∧ st = 3 then s.laneRise l
  else s

def execVdtLaneTraining (l ev ts : Nat) (s : State) : Host.Outcome State Fault Refusal :=
  answer (if 2 ≤ l ∧ l < 6 then s.laneTrain l ev ts else s)

/-- Whether a lane is at its lower rate for good (R256, R555). -/
def State.laneDowngraded (s : State) (l : Nat) : Bool :=
  if l < 4 then s.bit R.VDT_STATUS.DOWNGRADED (l - 2) else s.bit R.TRS_STATUS.DOWNGRADED (l - 4)

/-- VDT_LANE_TIMEOUT: 2 ms in LOCK, TS1 or TS2; each fourth return from LOCK switches the rate (R553, R555). -/
def execVdtLaneTimeout (l : Nat) (s : State) : Host.Outcome State Fault Refusal :=
  let st := s.get (laneFld l)
  answer (if l < 2 ∨ 5 < l ∨ st = 0 ∨ st = 4 ∨ (s.laneAt l).clash then s
  else
    let t := s.laneDown l
    if st ≠ 1 then t
    else t.modLane l (fun x =>
      let k := x.downs + 1
      { x with downs := k, rate := if k % 4 = 0 ∧ s.laneDowngraded l = false then 1 - x.rate else x.rate }))

/-- VDT_LANE_DOWN: block lock lost by a lane that is UP or held in TS1 (R553). -/
def execVdtLaneDown (l : Nat) (s : State) : Host.Outcome State Fault Refusal :=
  answer (if 2 ≤ l ∧ l < 6 ∧ (s.laneUp l ∨ (s.laneAt l).clash) then s.laneDown l else s)

/-- LINK_RESTART of Viaduct, or of Trestle (R590, R625). -/
def execLinkRestart (by_ : Init) (trestle : Bool) (s : State) : Host.Outcome State Fault Refusal :=
  answer (if trestle then s.byOwner by_ 43 R.TRS_CTRL.LINK_RESTART.addr (fun t => (t.laneDown 4).laneDown 5)
  else s.byOwner by_ 42 R.VDT_CTRL.LINK_RESTART.addr (fun t => (t.laneDown 2).laneDown 3))

/-- LANE_NOT_UP_TIMEOUT: 1 ms after the apply edge (R594). -/
def execLaneNotUpTimeout (l : Nat) (s : State) : Host.Outcome State Fault Refusal :=
  answer (if 2 ≤ l ∧ l < 4 ∧ s.laneUsed l ∧ s.laneUp l = false then
    s.report (ownerOr0 (s.ownPeriph 42)) 0x3402 l (s.get (laneFld l))
  else s)

end Sys2Proof.Machine
end

