-- ==== Sys2Proof/Machine/Apply.lean ====
section
/-! DEFINITION.
The apply edge: what a configuration sets in every block, whole or for the target bay of a delta (R88, R92, R108, R142,
R166, R852, and the "What the bitstream sets" tables of the block chapters). -/

namespace Sys2Proof.Machine

/-- Whether a configuration is in force; under R412 the one that waits is not. -/
def State.applied (s : State) : Bool := s.on R.BAY_CONFIGURED.MASK

/-! ### Bays -/

/-- `k` positions for a bay among the free ones of a wheel, spread evenly (R142). -/
def placeBay (w : List Nat) (b k : Nat) : List Nat :=
  let free := indices 64 (fun i => w.getD i 8 == 8)
  let sel := (List.range k).map (fun j => free.getD (j * free.length / k) 64)
  (List.range 64).map (fun i => if sel.contains i then b else w.getD i 8)

/-- The positions of a bay laid anew, those of the others kept (R142). -/
def State.layWheel (s : State) (b : Nat) : State :=
  let w := placeBay (s.bay.wheel.map (fun x => if x = b then 8 else x)) b (s.bayFld b C.BAYS0.SHARE)
  ({ s with bay := { s.bay with wheel := w } }).put R.BAY_WHEEL.FREE (w.filter (fun x => x == 8)).length

/-- The fields of a bay's page, of its descriptor quota and of its pairing that the configuration sets. -/
def State.applyBay (s : State) (b : Nat) : State :=
  let has := (s.bayRec b).isSome
  let s := (s.layWheel b).putB R.BAY_CONFIGURED.MASK b has
  let s := s.flag (R.BAYn_STATE.ENGINE_ONLY b) (has && s.bayFld b C.BAYS0.CORES == 0)
  let s := (s.put (R.BAYn_STATE.WDT_EN b) (s.bayFld b C.BAYS0.FLAGS)).put (R.BAYn_SHARE.SHARE b) (s.bayFld b C.BAYS0.SHARE)
  (s.put (R.BAYn_IRQ_CORE.CORES b) (s.bayFld b C.BAYS0.CORES)).put (R.QMGR_BAYn.QUOTA b) (s.bayFld b C.BAYS0.DESC_QUOTA)

/-! ### Mailboxes, queues, memory -/

/-- Granted and bound mailboxes (R58, R74). -/
def State.applyMbx (s : State) : State :=
  let g := (s.recs .bays 1).foldl (fun n r => if C.BAYS1.KIND r = 0 then setBit n (C.BAYS1.NUMBER r) else n) 0
  let b := (s.recs .link 4).foldl (fun n r => setBit n (C.LINK4.MBX r - 48)) 0
  ((s.put R.MBX_GRANT_LO.GRANTED g).put R.MBX_GRANT_HI.GRANTED (g / 4294967296)).put R.MBX_BOUND.BOUND b

/-- MTEST, MTEST_INT and ZERO of a bank; an unowned bank is tested every 100 µs (R232, R234). -/
def State.applyBank (s : State) (n : Nat) : State :=
  match (s.recs .memb 0).find? (fun r => C.MEMB0.BANK r == n) with
  | some r => ((s.put (R.MEMnn_CFG.MTEST n) (C.MEMB0.MTEST r)).put (R.MEMnn_CFG.ZERO n) (C.MEMB0.ZERO r)).put
      (R.MEMnn_CFG.MTEST_INT n) (C.MEMB0.MTEST_INT r)
  | none => ((s.put (R.MEMnn_CFG.MTEST n) 1).put (R.MEMnn_CFG.ZERO n) 0).put (R.MEMnn_CFG.MTEST_INT n) 100

/-! ### Engines -/

/-- The SER channel that a record puts in bit-level mode, 15 for none (R539). -/
def bitSer (r : List Byte) : Nat :=
  if C.IMGS0.IMAGE_ID r = 1 then ((List.range 6).find? (fun n => (C.IMGS0.PORTS r).testBit (8 + n))).getD 15 else 15

/-- The fields of an engine's page that its IMGS record gives. -/
def State.applyEngine (s : State) (e : Nat) : State :=
  let r := ((s.recs .imgs 0).find? (fun r => C.IMGS0.REEL r == e)).getD []
  let s := ((s.put (R.REELn_CFG.PORTS e) (C.IMGS0.PORTS r)).put (R.REELn_CFG.CMD_MBX e) (C.IMGS0.CMD_MBX r)).put
    (R.REELn_CFG.SOURCE e) (C.IMGS0.SOURCE r)
  ((s.put (R.REELn_QUEUES.QBASE e) (C.IMGS0.QBASE r)).put (R.REELn_QUEUES.QCOUNT e) (C.IMGS0.QCOUNT r)).put
    (R.REELn_BITIO.SER e) (bitSer r)

/-- Channels in bit-level mode (R539). -/
def State.applyBitLevel (s : State) : State :=
  s.forEach (List.range 6) (fun n t => t.flag (R.SERn_STATUS.BITLEVEL n)
    ((t.recs .imgs 0).any (fun r => bitSer r == n)))

/-! ### Pins (R88, R92, R845, R852) -/

/-- The PARK code that a pin's boot function amounts to (R827): none for a pin without one under this boot source. -/
def bootPark (src : Nat) (recovery : Bool) (p : Nat) : Option Nat :=
  if src = 1 ∧ p < 6 then some (if p = 0 ∨ p = 2 then 0 else if p = 3 then 10 else 1)
  else if (src = 2 ∨ recovery) ∧ 16 ≤ p ∧ p < 23 then some (if p = 17 then 6 else if p = 22 then 2 else 10)
  else if src = 3 ∧ p = 23 then some 10
  else none

/-- GPIO_INIT of a pin (R845). -/
def State.applyGpio (s : State) (p : Nat) : State :=
  let g := match s.pinRec p with | some r => C.PINS0.GPIO_INIT r | none => 0
  ((s.putB (R.GPIO_DIRk.DIR (p / 32)) (p % 32) (g.testBit 0)).putB (R.GPIO_OUTk.OUT (p / 32)) (p % 32) (g.testBit 1)).driveGpio p

/-- A pin on the apply edge: a record that differs from the boot state commits on that edge; the park state in force
stays until t1 (R852). -/
def State.applyPin (s : State) (p : Nat) : State :=
  let boot := bootPark (s.get R.SYS_STRAPS.BOOT_SRC) (s.on R.SEC_BOOT_STATUS.RECOVERY) p
  let s := ((s.setActive p freePinCfg).flag (R.PINp_ACTIVE.PARKED p) false).applyGpio p
  match s.pinRec p with
  | none => (s.put (R.PINp_ACTIVE.OWNER p) 0).setShadow p freePinCfg
  | some r =>
    let c := recPinCfg r
    let s := s.put (R.PINp_ACTIVE.OWNER p) (C.PINS0.BAY r)
    if c = freePinCfg ∧ boot.isNone then s.setShadow p c
    else ((s.put (R.PINp_ACTIVE.PARK p) (boot.getD 10)).movePin c p).setShadow p c

/-! ### SYS, FLT, HIF, VDT -/

def State.applySys (s : State) : State :=
  let r := s.rec1 .sys 0
  let s := (s.put R.PIN_PARK.TIME (C.SYS0.PARK_TIME r)).put R.SYS_CLK_STATUS.LANE_ON (C.SYS0.LANE_EN r)
  let s := s.put R.REEL_SPARE.ENGINE (C.SYS0.SPARE_REEL r)
  { s with sys := { s.sys with parked := false, lanesIdle := false, xtalOff := C.SYS0.CLK_SRC r == 1 } }

/-- The policy registers; a file without FLTP has N 3 and T 1,000 ms and permits nothing (R245, R251, R270). -/
def State.applyFlt (s : State) : State :=
  let r := s.rec1 .fltp 0
  let h := s.has .fltp
  let s := (s.put R.FLT_POLICY.N (if h then C.FLTP0.REC_N r else 3)).put R.FLT_POLICY_T.T (if h then C.FLTP0.REC_T r else 1000)
  ((s.put R.FLT_POLICY.REPAIR (C.FLTP0.REPAIR r)).put R.FLT_POLICY.INJECT (C.FLTP0.INJECT r)).put R.FLT_POLICY.LOG (C.FLTP0.LOG r)

/-- The first bank of BAY0 and the length of its run, at most four (R840). -/
def State.stageRun (s : State) : Nat × Nat :=
  match (s.banksOf 0) with
  | [] => (0, 0)
  | n :: _ => (n, ((List.range 4).takeWhile (fun k => s.ownBank (n + k) == some 0 && decide (n + k < 32))).length)

/-- HIF: what HOST enables, the staging buffer, the flash mode (R840, R844, R848, R852). -/
def State.applyHif (s : State) : State :=
  let r := s.rec1 .sys 0
  let h := C.SYS0.HOST r
  let (b, k) := s.stageRun
  let s := ((s.flag R.HIF_SPI_CTRL.EN (h.testBit 0)).put R.HIF_STAGE.BANK b).put R.HIF_STAGE.BANKS k
  let s := s.flag R.HIF_PCIE_CTRL.EN (h.testBit 1)
  let s := if h.testBit 1 then s
    else ((s.flag R.HIF_PCIE_STAT.LINK_UP false).put R.HIF_PCIE_STAT.RATE 0).put R.HIF_PCIE_STAT.WIDTH 0
  let f := C.SYS0.FLASH r = 1
  let s := ((s.put R.HIF_QSPI_CFG.MODE (if f then 3 else 1)).put R.HIF_QSPI_CFG.DIV 0).put R.HIF_QSPI_CFG.DUMMY (if f then 16 else 6)
  s.put R.HIF_QSPI_CFG.READ_OP (if f then 0xEE else 0xEC)

/-- The pair: PAIRED and PREF of its bays, which start UNDECIDED; PAIR_ALIVE_OUT rises (R569, R570, R575, R588, R595). -/
def State.applyVdt (s : State) : State :=
  let r := s.rec1 .link 0
  if C.LINK0.PAIR_EN r = 0 then s
  else
    let s := (s.flag R.VDT_STATUS.PAIR_EN true).flag R.VDT_STATUS.ALIVE_OUT true
    let s := s.flag R.VDT_STATUS.TIME_REF s.timeRef
    s.forEach ((List.range 8).filter (fun b => (s.recs .link 1).any (fun x => C.LINK1.BAY x == b))) (fun b t =>
      ((t.flag (R.VDTn_ROLE.PAIRED b) true).put (R.VDTn_ROLE.ROLE b) 1).put (R.VDTn_ROLE.PREF b) (C.LINK0.PREF_ACTIVE r / 2 ^ b % 2))

/-! ### The whole configuration -/

/-- The apply edge of a full bitstream: every block takes its sections, every configured bay enters HELD, engines of the
bays are HELD and the spare is SPARE (R88, R91, R166). -/
def State.applyAll (s : State) : State :=
  let s := (((s.applySys).applyFlt).applyHif).applyMbx
  let s := s.forEach (List.range 8) (fun b t => t.applyBay b)
  let s := (s.forEach (List.range 32) (fun n t => t.applyBank n))
  let s := s.forEach (List.range 12) (fun e t =>
    (t.applyEngine e).put (R.REELn_STATE.STATE e) (if (t.ownReel e).isSome then 2 else if t.get R.REEL_SPARE.ENGINE = e then 1 else 0))
  let s := s.applyBitLevel.applyTime
  let s := ((s.applyQdr.applySup).applyCap).applyTag
  let s := s.applyVdt
  let s := s.forEach (List.range 128) (fun p t => t.applyPin p)
  let s := s.forEach (s.recs .drvp 0) (fun r t => t.drvInit (C.DRVP0.DRV r) none)
  (s.forEach s.bays (fun b t => t.put (R.BAYn_STATE.STATE b) bayHeld))

/-- Bays that own no engine are released on the apply edge (R91); image loads begin. -/
def State.startBays (s : State) : State :=
  (s.forEach (s.bays.filter (fun b => (s.enginesOf b).isEmpty)) (fun b t => if t.mayRelease b then t.release b else t)).loadKick

/-- The bay against which a held cause stands: the owner of the bank or engine that it names (R221). -/
def State.heldBay (s : State) (r : Report) : Nat :=
  if r.cause = 0x0405 ∨ r.cause = 0x1804 then ownerOr0 (s.ownBank (r.res % 256))
  else if r.cause = 0x1806 then ownerOr0 (s.ownReel (r.res % 256)) else 0

/-- Causes that the always-on domain holds are entered in the log (R204, R273). -/
def State.enterHeld (s : State) : State :=
  let l := s.sys.aoCauses
  ({ s with sys := { s.sys with aoCauses := [] } }).forEach l (fun r t =>
    t.reportN 4 { r with stamp := t.now, bay := t.heldBay r })

/-! ### The target bay of a delta -/

/-- A pin of the target bay on the swap or restore edge: lost pins go to high-Z with a pull-down; new ones, and kept ones
whose record changed, pass through the commit sequence, at once where the bay has no reset to wait for (R81, R108). -/
def State.swapPin (s : State) (b : Nat) (old : List Sect) (wait : Bool) (p : Nat) : State :=
  let was := match (cfgRecs old .pins 0).find? (fun r => C.PINS0.PIN r == p) with | some r => C.PINS0.BAY r == b | none => false
  match s.pinRec p with
  | none => if was then (((s.dropMoves p).setActive p freePinCfg).setShadow p freePinCfg).applyGpio p |>.flag (R.PINp_ACTIVE.PARKED p) false else s
  | some r =>
    if C.PINS0.BAY r ≠ b then s
    else
      let c := recPinCfg r
      let s := (s.put (R.PINp_ACTIVE.OWNER p) b).applyGpio p
      if wait then ((s.setActive p c).setShadow p c).parkPin p
      else (s.movePin c p).setShadow p c

/-- Engines on the swap or restore edge: those that leave the bay stop; those of the bay take their records; those that
the delta prepared start running (R81, R108). -/
def State.swapEngine (s : State) (b : Nat) (old : List Sect) (keep e : Nat) : State :=
  let own : List Sect → Bool := fun c => cfgOwner c (fun r => (C.BAYS0.REELS r).testBit e) == some b
  if own s.cfg then
    let s := s.applyEngine e
    if keep.testBit e then
      let x := s.engineAt e
      s.engineRun e (s.get (R.REELn_STATE.IMAGE_ID e)) (s.get (R.REELn_STATE.VERSION e)) |>.modEngine e (fun y =>
        { y with loadLen := x.loadLen, work := x.work, bodyCrc := x.bodyCrc })
    else if own old then s else s.put (R.REELn_STATE.STATE e) 2
  else if own old then ((s.imageStop e).applyEngine e).put (R.REELn_STATE.STATE e) 0
  else s

/-- The target bay under another configuration: each section of the bay takes effect, nothing of another bay changes
(R81, R108, R113, R232, R456).  `keep` names the engines that start with the images loaded for them. -/
def State.install (s : State) (b : Nat) (new : List Sect) (keep : Nat) : State :=
  let old := s.cfg
  let none_ := s.bayState b == bayNone
  let lost := s.periphsOf b
  let s := ((s.resetQueues b).resetMbxs b).forEach lost (fun i t => t.resetPeriph i)
  let s := ({ s with cfg := new }).applyBay b
  let s := s.applyMbx
  let s := s.forEach ((List.range 32).filter (fun n =>
      cfgOwner old (fun r => (C.BAYS0.BANKS r).testBit n) == some b || s.ownBank n == some b)) (fun n t => t.applyBank n)
  let s := s.swapQdr old b
  let s := s.forEach (List.range 128) (fun p t => t.swapPin b old (!none_) p)
  let s := s.forEach (List.range 12) (fun e t => t.swapEngine b old keep e)
  let s := s.applyBitLevel
  s.forEach (s.drvsOf b) (fun n t => t.drvInit n (t.tagHeld n))

end Sys2Proof.Machine
end

