-- ==== Sys2Proof/Machine/Boot.lean ====
section
/-! DEFINITION.
Halvik's boot: what NVM and OTP reload, the choice of a bitstream, recovery and the configuration hold (R86 to R103,
R197, R221, R261, R412). -/

namespace Sys2Proof.Machine

/-! ### Logical page 0 (R99, R223) -/

def SlotRec.bytes (r : SlotRec) : List Byte :=
  toLE 1 r.state ++ toLE 1 (b2n r.tried + 2 * b2n r.preferred) ++ toLE 2 0 ++ toLE 4 r.configId ++ toLE 4 r.totalLen ++
  toLE 4 r.confirmMs ++ toLE 16 0

/-- The remap table of a bank: eight entries, the row in [10:0] and a valid bit in [15]. -/
def State.remapBytes (s : State) (bank : Nat) : List Byte :=
  (List.range 8).flatMap (fun k => toLE 2 (match s.remapRow bank k with | some r => 0x8000 + r | none => 0))

def State.lp0Bytes (s : State) : List Byte :=
  s.sec.slotA.bytes ++ s.sec.slotB.bytes ++ toLE 0x7C0 0 ++ (List.range 32).flatMap (fun b => s.remapBytes b) ++ toLE 0x600 0

/-- Halvik writes logical page 0 (R219, R223). -/
def State.writeLp0 (s : State) : State :=
  ({ s with memx := { s.memx with lp0Due := [] } }).writePage 0 s.lp0Bytes

/-- Moves of rows that wait for LP0 are written once the configuration is applied (R219, R221). -/
def State.flushLp0 (s : State) : State := if s.applied && !s.memx.lp0Due.isEmpty then s.writeLp0 else s

/-- The remap registers of a bank reloaded (R197, R239). -/
def State.loadRemap (s : State) (bank : Nat) : State :=
  let e := fun k => leAt (nvmBytes s.nvm (lpBase 0 + 0x800 + 16 * bank + 2 * k) 2) 0 2
  let s := s.forEach (List.range 8) (fun k t => if (e k).testBit 15 then t.setRemap bank k (e k % 2048) else t)
  s.put (R.MEMnn_STAT.SPARES_USED bank) ((List.range 8).filter (fun k => (e k).testBit 15)).length

/-! ### SEC registers (R126) -/

def State.showSlots (s : State) : State :=
  let a := s.sec.slotA
  let b := s.sec.slotB
  ((s.put R.SEC_SLOT_STATE.STATE_A a.state).put R.SEC_SLOT_STATE.STATE_B b.state).flag R.SEC_SLOT_STATE.PREFERRED
    (b.preferred && !a.preferred)

/-- No key-hash slot has been programmed (R94). -/
def Otp.provisioning (o : Otp) : Bool := o.hash.all (fun h => h.isNone)

def State.showOtp (s : State) : State :=
  let o := s.sec.otp
  let mask : List (Option (List Byte)) → Nat := fun l => (List.range 4).foldl (fun n k => if (l.getD k none).isSome then setBit n k else n) 0
  let s := ((s.put R.SEC_KEY_STATE.PROGRAMMED (mask o.hash)).put R.SEC_KEY_STATE.REVOKED o.revoked).put R.SEC_KEY_STATE.AES_KEYS (mask o.aes)
  let s := (s.put R.SEC_SECVER.FLOOR o.floor).put R.SEC_SECVER.USED o.floors.length
  ((s.put R.SEC_UID_LO.UID o.uid).put R.SEC_UID_HI.UID (o.uid / 4294967296)).flag R.SEC_BOOT_STATUS.PROVISIONING o.provisioning

def State.slotRec (s : State) (k : Nat) : SlotRec := if k = 0 then s.sec.slotA else s.sec.slotB

/-- A slot record changed in the part of it that Halvik holds. -/
def State.modSlot (s : State) (k : Nat) (f : SlotRec → SlotRec) : State :=
  State.showSlots (if k = 0 then { s with sec := { s.sec with slotA := f s.sec.slotA } }
  else { s with sec := { s.sec with slotB := f s.sec.slotB } })

/-- A slot record changed and written (R99). -/
def State.setSlot (s : State) (k : Nat) (f : SlotRec → SlotRec) : State := (s.modSlot k f).writeLp0

/-! ### The FLT log ring (R261) -/

/-- The entry at a ring index, its SEQ where its CRC matches. -/
def logSeqAt (m : List Host.Cell) (i : Nat) : Option Nat :=
  let d := nvmBytes m (0x180000 + 32 * i) 32
  if leAt d 28 4 = crc32c (d.take 28) then some (leAt d 0 4) else none

/-- SEQ of the next entry: after the valid entry whose SEQ no other exceeds in serial-number order, or 0. -/
def State.scanLog (s : State) : State :=
  let l := (List.range 1024).filterMap (logSeqAt s.nvm)
  let top := l.find? (fun q => l.all (fun r => r == q || decide (2147483648 < wrapInt 32 ((r : Int) - q))))
  (s.put R.FLT_LOG_SEQ.NEXT (match top with | some q => q + 1 | none => 0)).flag R.FLT_STATUS.LOG_READY true

/-! ### Bitstream files (R87, R44) -/

/-- Bytes of a slot as its record delivers them; the file of a QSPI copy, by the TOTAL_LEN of its header. -/
def State.slotFile (s : State) (k : Nat) : List Byte := nvmBytes s.nvm (0xC0000 * k) (min (s.slotRec k).totalLen 786432)
def State.qspiFile (s : State) (copy : Nat) : List Byte :=
  let o := 0x800000 * copy
  s.flashBytes o (min (beAt (s.flashBytes o 16) 0x0C 4) 786432)

/-! ### Applying (R88, R91, R101, R412) -/

/-- The apply edge: configuration, CONFIG_ID, key and floor of the running file; confirm timer of a trial; releases and
held causes.  `slot`: 0 A, 1 B, 2 QSPI copy B, 3 another source (R126). -/
def State.applyEdge (s : State) (f : List Byte) (slot : Nat) : State :=
  let s := { s with sec := { s.sec with
    hostWait := false, waiting := none, runSlot := if slot < 2 then slot else 2, secVer := hdrSecVer f
    keySlot := beAt f (signOff f) 1, confirming := s.on R.SEC_BOOT_STATUS.TRIAL } }
  let s := (s.put R.SEC_BOOT_STATUS.SLOT slot).put R.SEC_CONFIG_ID.CONFIG_ID (hdrConfig f)
  let s := State.applyAll { s with memx := { s.memx with passStart := s.now } }
  let s := if s.on R.SEC_BOOT_STATUS.FALLBACK && slot != 3 then s.report 0 0x5802 0 0 else s
  (s.enterHeld.flushLp0).startBays

/-- Whether the apply edge waits for the stack master's time: SOURCE 2 on a member whose strap is not the lowest (R412). -/
def State.holdsApply (s : State) : Bool :=
  s.stackOn && C.TIME0.SOURCE (s.rec1 .time 0) == 2 && s.get R.SYS_STRAPS.STACK_POS != 0

/-- The content checks have passed: the stack begins to form, and the configuration is applied or held (R412, R598). -/
def State.contentPass (s : State) (c : List Sect) (f : List Byte) (slot : Nat) (trial : Bool) : State :=
  let s := (State.trsBegin { s with cfg := c }).flag R.SEC_BOOT_STATUS.TRIAL trial
  if s.holdsApply then { s with sec := { s.sec with hostWait := false, waiting := some (f, slot) } }
  else s.applyEdge f slot

/-- The apply edge with the steady counter loaded with the master's time, in ns (R412). -/
def State.applyAt (s : State) (m : Nat) : State :=
  match s.sec.waiting with
  | none => s
  | some (f, slot) =>
    let q := m * 4294967296
    let s := { s with time := { s.time with q := q, dup := q } }
    (s.applyEdge f slot).setAligned true

/-- CONFIGURATION_HOLD_TIMEOUT (R412): applied without the load. -/
def execConfigurationHoldTimeout (s : State) : Host.Outcome State Fault Refusal :=
  answer (match s.sec.waiting with
  | none => s
  | some (f, slot) =>
    let t := s.applyEdge f slot
    if t.on R.TRS_STATUS.IS_MASTER then t else t.setAligned false)

/-- TIME_FRAME (R412, R620). -/
def execTimeFrame (l q src ms corr epoch t4 : Nat) (tr : Option Int) (s : State) : Host.Outcome State Fault Refusal :=
  answer (
    let u := s.tevTriggers (s.timeFrame l q src ms corr epoch t4 tr)
    match u.sec.waiting, u.trsX.samples with
    | some _, (m, r) :: _ => if u.trsX.lastTime = s.trsX.lastTime then u else u.applyAt (m + (4 * (u.time.edges : Int) - r)).toNat
    | _, _ => u)

/-! ### Rejections (R84, R131) -/

/-- A file refused at boot: the first failure is kept; the re-read that follows finds the same bytes, so the verdict is
LASTING (R126, R131).  `src`: 0 slot A, 1 slot B, 2 copy A, 3 copy B, 4 pushed by the host. -/
def State.rejected (s : State) (src : Nat) (e : BsErr) : State :=
  let s := if s.on R.SEC_BOOT_STATUS.FIRST_RESULT then s
    else (s.put R.SEC_BOOT_STATUS.FIRST_RESULT e.1).put R.SEC_FAIL_OFFSET.OFFSET e.2
  s.reportLasting 0 0x5801 src e.1

/-! ### Choice of a file (R87, R100, R107, R123) -/

/-- One slot: TRIED is written before the one attempt of a trial; a slot that fails becomes FAILED.  `named`: BOOT_ONCE
names it, which changes no VALID slot (R123). -/
def State.trySlot (s : State) (k : Nat) (named : Bool) : State × Option (List Sect × List Byte) :=
  let r := s.slotRec k
  if r.state = 2 ∧ r.tried then (s.setSlot k (fun x => { x with state := 4 }), none)
  else
    let s := if r.state = 2 then s.setSlot k (fun x => { x with tried := true }) else s
    let f := s.slotFile k
    match s.bsCheck f 1 with
    | .inr c => (s, some (c, f))
    | .inl e =>
      let s := s.rejected k e
      (if named ∧ r.state = 3 then s else s.setSlot k (fun x => { x with state := 4 }), none)

/-- The slots to try, in order: the one of BOOT_ONCE, a trial slot, the preferred VALID slot, the other VALID slot. -/
def State.slotOrder (s : State) (once : Option Nat) (all : Bool) : List (Nat × Bool) :=
  let st := fun k => (s.slotRec k).state
  let first := match once with | some k => if st k = 2 ∨ st k = 3 then [(k, true)] else [] | none => []
  if all = false then first
  else
    let pref := if s.sec.slotB.preferred && !s.sec.slotA.preferred then 1 else 0
    let trial := ([0, 1].filter (fun k => st k == 2 && !(first.any (fun x => x.1 == k)))).take 1
    first ++ trial.map (fun k => (k, false)) ++ ([pref, 1 - pref].filter (fun k => st k == 3)).map (fun k => (k, false))

/-- No device has a file to run: recovery (R103). -/
def State.recovery (s : State) : State := s.flag R.SEC_BOOT_STATUS.RECOVERY true

/-- What follows a check: `good` the configuration that it produced, `bad` its error. -/
def afterCheck (r : BsErr ⊕ List Sect) (good : List Sect → State) (bad : BsErr → State) : State :=
  match r with
  | .inr c => good c
  | .inl e => bad e

/-- The second QSPI copy, or recovery. -/
def State.bootCopy1 (s : State) : State :=
  afterCheck (s.bsCheck (s.qspiFile 1) 1) (fun c => s.contentPass c (s.qspiFile 1) 2 false) (fun e => (s.rejected 3 e).recovery)

/-- The first QSPI copy, or the second. -/
def State.bootCopy0 (s : State) : State :=
  afterCheck (s.bsCheck (s.qspiFile 0) 1) (fun c => s.contentPass c (s.qspiFile 0) 3 false)
    (fun e => ((s.rejected 2 e).flag R.SEC_BOOT_STATUS.FALLBACK true).bootCopy1)

/-- What the strapped source gives once the slots are exhausted (R87): QSPI copies, the host, or recovery. -/
def State.bootSource (s : State) : State :=
  let src := s.get R.SYS_STRAPS.BOOT_SRC
  if src = 0 then s.recovery
  else if src = 1 then s.bootCopy0
  else { s with sec := { s.sec with hostWait := true } }

/-- The slots of an order tried one after the other; a later choice sets FALLBACK (R126). -/
def State.trySlots : List (Nat × Bool) → State → State
  | [], s => s.bootSource
  | (k, named) :: t, s =>
    let trial := (s.slotRec k).state = 2
    match s.trySlot k named with
    | (u, some (c, f)) => u.contentPass c f k (decide trial)
    | (u, none) => State.trySlots t (u.flag R.SEC_BOOT_STATUS.FALLBACK true)

/-- Halvik's boot after zeroization; a fourth FLT device reset within 60 s leads to recovery (R248). -/
def State.boot (s : State) : State :=
  let once := s.sec.bootOnce
  let s := { s with sec := { s.sec with bootOnce := none } }
  if 4 ≤ s.sys.fltResets then s.recovery
  else State.trySlots (s.slotOrder once (s.get R.SYS_STRAPS.BOOT_SRC == 0)) s

/-! ### Zeroization (R89, R197, R221, R226) -/

/-- A row or line that failed verification (R221): a bank row that the tables already remap is discarded. -/
def State.zeroFound (s : State) (z : ZeroFind) : State :=
  let res := z.unit + 256 * z.row
  if z.kind = 0 then
    if (List.range 8).any (fun k => s.remapRow z.unit k == some z.row) then s
    else
      match s.remap z.unit z.row z.bad with
      | some t => t.holdCause 0x0405 res 0
      | none => (((s.put (R.MEMnn_STAT.SPARES_USED z.unit) 8).flag (R.MEMnn_STAT.NO_SPARE z.unit) true).holdCause 0x0405 res 0).holdCause 0x1804 res 0
  else if z.kind = 1 then s.holdCause 0x1806 res (0x80000000 + z.row)
  else s.holdCause 0x1808 res (0x80000000 + z.row)

/-- Two correct copies of a logical page with the same SEQ (R226). -/
def State.seqTwice (s : State) : Bool :=
  (List.range 56).any (fun lp => match s.pageOf lp with
    | some p => (List.range 119).any (fun q => q != p && (s.nvmPage q).lpage == some lp && (s.nvmPage q).seq == (s.nvmPage p).seq)
    | none => false)

/-- ZEROIZATION_END: memories hold zeros, NVM and OTP are reloaded, the boot ROM starts. -/
def execZeroizationEnd (finds : List ZeroFind) (s : State) : Host.Outcome State Fault Refusal :=
  answer (if s.sys.phase ≠ .zeroize then s
  else
    let s := { s with mem := [], memx := { s.memx with poison := [], writeback := [], dirty := [] } }
    let s := (s.forEach (List.range 32) (fun b t => t.loadRemap b)).showNvm
    let s := (s.forEach finds (fun z t => t.zeroFound z)).flag R.NVM_STATUS.MAP_OK true
    let s := if s.seqTwice then s.holdCause 0x6406 0 0 else s
    let s := (s.setPhase .run).scanLog
    let s := (s.put R.SEC_BOOT_STATUS.BOOT_SRC (s.get R.SYS_STRAPS.BOOT_SRC)).put R.TRS_STATUS.POS (s.get R.SYS_STRAPS.STACK_POS)
    let s := s.put R.VDT_STATUS.PAIR_ID (s.get R.SYS_STRAPS.PAIR_ID)
    s.showSlots.showOtp.boot)

end Sys2Proof.Machine
end

