-- ==== Sys2Proof/Machine/Sec.lean ====
section
/-! DEFINITION.
Halvik's command interface: channels, replay, buffers and the commands but deltas and image loads (R94 to R107,
R115 to R125, R381 to R386). -/

namespace Sys2Proof.Machine

/-! ### Channels and completion rings (R116 to R118) -/

/-- A host channel: 8 HIF-SPI, 9 PCIe. -/
def State.hostChan (s : State) (ch : Nat) : HostChan := if ch = 8 then s.hif.spi else s.hif.pcie
def State.modHost (s : State) (ch : Nat) (f : HostChan → HostChan) : State :=
  if ch = 8 then { s with hif := { s.hif with spi := f s.hif.spi } } else { s with hif := { s.hif with pcie := f s.hif.pcie } }

def State.cplHead (s : State) (ch : Nat) : Nat := if ch < 8 then s.get (R.SECn_CPL_HEAD.HEAD ch) else (s.hostChan ch).head
def State.cplTail (s : State) (ch : Nat) : Nat := if ch < 8 then s.get (R.SECn_CPL_TAIL.TAIL ch) else (s.hostChan ch).tail

/-- MSI towards the PCIe host (R842). -/
def State.raiseMsi (s : State) (v : Nat) : State := { s with hif := { s.hif with msi := some (if s.hif.oneMsi then 0 else v) } }

/-- A completion written at HEAD, which advances (R118). -/
def State.ringWrite (s : State) (ch : Nat) (ws : List Word) : State :=
  let h := s.cplHead ch
  if ch < 8 then
    let s := s.forEach (List.range 4) (fun k t => t.putWord (R.SECn_CPL_RING.WORD ch (4 * h + k)) (ws.getD k 0))
    s.put (R.SECn_CPL_HEAD.HEAD ch) (h + 1)
  else
    let s := s.modHost ch (fun x => { x with ring := updAt x.ring h (fun _ => ws.take 4), head := (h + 1) % 8 })
    if ch = 9 ∧ (s.hostChan ch).irqEn then s.raiseMsi 0 else s

/-- Whether the ring of a channel has no free slot: one slot stays free between HEAD and TAIL. -/
def State.ringFull (s : State) (ch : Nat) : Bool := (s.cplHead ch + 1) % 8 == s.cplTail ch

/-- Held completions of a channel written while slots are free (R118). -/
def State.flushRing : Nat → State → Nat → State
  | 0, s, _ => s
  | n + 1, s, ch =>
    if s.ringFull ch then s
    else
      match s.sec.held.find? (fun x => x.1 == ch) with
      | none => s
      | some x => State.flushRing n (State.ringWrite { s with sec := { s.sec with held := s.sec.held.erase x } } ch x.2) ch

/-- A completion for a channel (R118). -/
def State.pushCpl (s : State) (ch : Nat) (ws : List Word) : State :=
  let s := { s with sec := { s.sec with held := s.sec.held ++ [(ch, ws)] } }
  s.flushRing s.sec.held.length ch

/-- CPL_TAIL as a channel's software or host sets it. -/
def State.setTail (s : State) (ch tail : Nat) : State :=
  let s := if ch < 8 then s.put (R.SECn_CPL_TAIL.TAIL ch) tail else s.modHost ch (fun x => { x with tail := tail % 8 })
  s.flushRing s.sec.held.length ch

/-- CPL_TAIL. -/
def execCplTail (by_ : Init) (b tail : Nat) (s : State) : Host.Outcome State Fault Refusal :=
  answer (s.act by_ (isBay by_ b) 0x0C02 (R.SECn_CPL_TAIL.TAIL b).addr true (fun t => t.setTail b tail))

/-- The four words of a completion (R120). -/
def cplWords (st res origin tag detail value : Nat) : List Word :=
  [BitVec.ofNat 32 (st + 65536 * res), BitVec.ofNat 32 (origin + 65536 * tag), BitVec.ofNat 32 detail, BitVec.ofNat 32 value]

/-- A command completes: stored for repeats, written, and once more for each repeat that waited (R383, R384). -/
def State.halvikDone (s : State) (ch origin tag st res detail value : Nat) : State :=
  let ws := cplWords st res origin tag detail value
  let reps := repeatsOf s.sec.replay origin tag
  let s := { s with sec := { s.sec with
    replay := modEntry s.sec.replay origin tag (fun e => { e with done := some ws, repeats := [] }) } }
  (s.pushCpl ch ws).forEach reps (fun c t => t.pushCpl c (asDuplicate ws))

/-- A command in Halvik's hand: its channel, its header and its payload. -/
structure HCmd where
  ch : Nat
  op : Nat
  origin : Nat
  tag : Nat
  pay : List Word
  deriving DecidableEq, Repr

def HCmd.p (c : HCmd) (i : Nat) : Nat := (c.pay.getD i 0).toNat
/-- A 40-bit address in two payload words. -/
def HCmd.addr (c : HCmd) (i : Nat) : Nat := c.p i + 4294967296 * (c.p (i + 1) % 256)
/-- The bay whose identity the channel carries (R122, R136). -/
def HCmd.bay (c : HCmd) : Nat := if c.ch < 8 then c.ch else 0

def State.done (s : State) (c : HCmd) (detail value : Nat) : State := s.halvikDone c.ch c.origin c.tag 1 0 detail value
def State.fail (s : State) (c : HCmd) (res : Nat) (detail : Nat := 0) (value : Nat := 0) : State :=
  s.halvikDone c.ch c.origin c.tag 3 res detail value

/-! ### Buffers (R122, R840) -/

/-- The staging buffer: first address and length. -/
def State.stage (s : State) : Nat × Nat :=
  if s.applied then (bankBase (s.get R.HIF_STAGE.BANK), 0x40000 * s.get R.HIF_STAGE.BANKS) else (bankBase 0, 0x100000)

/-- The bytes of a command's buffer, read with its channel's bay identity. -/
def State.cmdBuf (s : State) (c : HCmd) (a n : Nat) : Option (List Byte) :=
  if n = 0 then some []
  else if 8 ≤ c.ch then
    let (b, len) := s.stage
    if len < a + n ∨ s.poisoned (b + a) n then none else some (s.readMem (b + a) n)
  else
    let inRam := match regionOf a with | .bank _ => true | .rlm _ => true | _ => false
    if inRam && s.bufOk c.bay false a n && !(s.poisoned a n) then some (s.readMem a n) else none

/-- A refused buffer is a blocked access of the channel's bay (R138, R139), or a read of a poisoned word (R212). -/
def State.bufBlocked (s : State) (c : HCmd) (a n : Nat) : State :=
  if 8 ≤ c.ch then (if a + n ≤ s.stage.2 then s.poisonHit (s.stage.1 + a) n else s)
  else if s.bufOk c.bay false a n then s.poisonHit a n
  else s.blocked ⟨c.bay, 3, 0⟩ (blockCause (s.bufFault c.bay false a n)) (s.bufFault c.bay false a n) false

/-! ### NVM writes (R106, R229, R238) -/

/-- A write of Halvik's and its verify: 0 good, 1 good after the rewrite, 2 failed twice, with nothing changed. -/
def State.nvmWrite (s : State) (nvm off : Nat) (f : State → State) : State × Bool :=
  if nvm = 0 then (f s, true)
  else if nvm = 1 then ((f s).report 0 0x5805 0 off, true)
  else (s.reportLasting 0 0x5805 0 off, false)

/-- The end of a command that writes NVM. -/
def State.nvmEnd (s : State) (c : HCmd) (nvm off value : Nat) (f : State → State) : State :=
  match s.nvmWrite nvm off f with
  | (t, true) => t.done c 0 value
  | (t, false) => t.fail c 0x0304

/-! ### Slots (R104 to R106, R123) -/

/-- The slot that SLOT_WRITE and SLOT_CLOSE act on. -/
def State.openSlot (s : State) : Option Nat :=
  match s.sec.openSlot with
  | some k => if (s.slotRec k).state = 1 then some k else none
  | none => none

def State.runs (s : State) (k : Nat) : Bool := s.applied && s.sec.runSlot == k

def State.slotOpen (s : State) (c : HCmd) (nvm : Nat) : State :=
  let k := c.p 0
  if 1 < k then s.fail c 0x0202
  else if s.runs k then s.fail c 0x0302
  else if 786432 < c.p 1 then s.fail c 0x0303
  else s.nvmEnd c nvm (lpBase 0) 0 (fun t =>
    State.setSlot { t with sec := { t.sec with openSlot := some k } } k
      (fun x => { x with state := 1, totalLen := c.p 1, tried := false, configId := 0 }))

def State.slotWrite (s : State) (c : HCmd) (nvm : Nat) : State :=
  match s.openSlot with
  | none => s.fail c 0x0301
  | some k =>
    let n := c.p 3
    if (s.slotRec k).totalLen < c.p 0 + n then s.fail c 0x0303
    else
      match s.cmdBuf c (c.addr 1) n with
      | none => (s.bufBlocked c (c.addr 1) n).fail c 0x0206
      | some d => s.nvmEnd c nvm (0xC0000 * k + c.p 0) 0 (fun t => t.putNvm (0xC0000 * k + c.p 0) d)

def State.slotClose (s : State) (c : HCmd) (nvm : Nat) : State :=
  match s.openSlot with
  | none => s.fail c 0x0301
  | some k =>
    let ms := if c.p 0 = 0 then 60000 else c.p 0
    if ms < 1000 ∨ 600000 < ms then s.fail c 0x0202
    else
      let f := s.slotFile k
      let close : State → State := fun t => { t with sec := { t.sec with openSlot := none } }
      match s.bsCheck f 1 with
      | .inr _ => s.nvmEnd c nvm (lpBase 0) (hdrConfig f) (fun t =>
          (close t).setSlot k (fun x => { x with state := 2, tried := false, confirmMs := ms, configId := hdrConfig f }))
      | .inl e =>
        match s.nvmWrite nvm (lpBase 0) (fun t => (close t).setSlot k (fun x => { x with state := 4 })) with
        | (t, true) => t.fail c e.1 e.2
        | (t, false) => t.fail c 0x0304

def State.slotCommit (s : State) (c : HCmd) (nvm : Nat) : State :=
  let k := c.p 0
  if s.runs k && s.sec.confirming then
    s.nvmEnd c nvm (lpBase 0) 0 (fun t =>
      let t := State.flag { t with sec := { t.sec with confirming := false } } R.SEC_BOOT_STATUS.TRIAL false
      ((t.modSlot k (fun x => { x with state := 3, preferred := true })).modSlot (1 - k) (fun x => { x with preferred := false })).writeLp0)
  else s.fail c 0x0301

def State.slotErase (s : State) (c : HCmd) (nvm : Nat) : State :=
  let k := c.p 0
  if 1 < k then s.fail c 0x0202
  else if s.runs k then s.fail c 0x0302
  else s.nvmEnd c nvm (lpBase 0) 0 (fun t =>
    let t := if t.sec.openSlot = some k then { t with sec := { t.sec with openSlot := none } } else t
    t.setSlot k (fun x => { SlotRec.blank with preferred := x.preferred }))

/-- CONFIRM_TIMER_EXPIRY (R101). -/
def execConfirmTimerExpiry (s : State) : Host.Outcome State Fault Refusal :=
  answer (if s.sec.confirming then s.deviceReset R.SYS_RESET_CAUSE.HALVIK else s)

def State.bootOnceCmd (s : State) (c : HCmd) : State :=
  let k := c.p 0
  if k < 2 ∧ ((s.slotRec k).state = 2 ∨ (s.slotRec k).state = 3) then
    State.deviceReset { s.done c 0 0 with sec := { (s.done c 0 0).sec with bootOnce := some k } } R.SYS_RESET_CAUSE.HALVIK
  else s.fail c 0x0301

/-! ### Signed commands (R94 to R97) -/

def payBytes (l : List Word) : List Byte := l.flatMap (fun w => toLE 4 w.toNat)

/-- Whether a signed command's key, signature and nonce stand; `n` payload words come before the key. -/
def State.signedOk (s : State) (c : HCmd) (n : Nat) : Bool :=
  let b := payBytes c.pay
  let x := slice b (4 * n) 32
  let y := slice b (4 * n + 32) 32
  let o := s.sec.otp
  match s.sec.nonce with
  | none => false
  | some (nonce, at_) =>
    decide (s.now < at_ + 10000000000) &&
    (List.range 4).any (fun k => o.hash.getD k none == some (Config.sha256 (x ++ y)) && !(o.revoked.testBit k)) &&
    Config.p256OnCurve x y &&
    sigOk x y (toLE 1 c.op ++ b.take (4 * n) ++ nonce ++ toLE 8 o.uid) (slice b (4 * n + 64) 32) (slice b (4 * n + 96) 32)

/-- A signed command: the nonce is used up, and the action runs only if every condition holds (R96). -/
def State.signed (s : State) (c : HCmd) (n : Nat) (f : State → State) : State :=
  let ok := s.signedOk c n
  let s := { s with sec := { s.sec with nonce := none } }
  if ok then f s else (s.report 0 0x5806 0 c.op).fail c 0x0502

def State.modOtp (s : State) (f : Otp → Otp) : State := State.showOtp { s with sec := { s.sec with otp := f s.sec.otp } }

/-- KEY_PROVISION: word 0 holds the slot in [1:0], an AES key's presence in [8] and its selector in [9]; the hash and the
AES key follow.  A programmed slot or key stays as it is (R97). -/
def State.keyWrite (s : State) (c : HCmd) : State :=
  let b := payBytes c.pay
  let k := c.p 0 % 4
  let aes := (c.p 0).testBit 8
  let sel := b2n ((c.p 0).testBit 9)
  let o := s.sec.otp
  if (o.hash.getD k none).isSome ∨ (aes ∧ (o.aes.getD sel none).isSome) then s.fail c 0x0301
  else (s.modOtp (fun x => { x with
    hash := updAt x.hash k (fun _ => some (slice b 4 32))
    aes := if aes then updAt x.aes sel (fun _ => some (slice b 36 32)) else x.aes })).done c 0 0

/-- Payload words of KEY_PROVISION before the key. -/
def provWords (w0 : Nat) : Nat := if w0.testBit 8 then 17 else 9

def State.keyProvision (s : State) (c : HCmd) : State :=
  let n := provWords (c.p 0)
  if s.sec.otp.provisioning ∧ (c.ch = 8 ∨ c.pay.length = n) then
    if c.ch = 8 then s.keyWrite c else s.fail c 0x0202
  else if c.pay.length = n then s.fail c 0x0204
  else s.signed c n (fun t => t.keyWrite c)

/-- Whether a programmed, unrevoked slot other than `k` exists. -/
def Otp.usable (o : Otp) (k : Nat) : Bool := (List.range 4).any (fun j => j != k && (o.hash.getD j none).isSome && !(o.revoked.testBit j))

def State.keyRevoke (s : State) (c : HCmd) : State :=
  s.signed c 1 (fun t =>
    let k := c.p 0
    if 3 < k ∨ (t.sec.otp.hash.getD k none).isNone then t.fail c 0x0301
    else if t.sec.otp.usable k = false then t.fail c 0x0501
    else (t.modOtp (fun x => { x with revoked := setBit x.revoked k })).done c 0 0)

def State.secverRaise (s : State) (c : HCmd) : State :=
  s.signed c 1 (fun t =>
    let v := c.p 0
    if t.sec.secVer < v then t.fail c 0x0504
    else if 8 ≤ t.sec.otp.floors.length then t.fail c 0x0503
    else (t.modOtp (fun x => { x with floors := x.floors ++ [v] })).done c 0 0)

/-- NONCE: its 16 bytes lie in words 2 and 3 of two completions (R121). -/
def State.nonceCmd (s : State) (c : HCmd) : State :=
  let n := slice (Config.nonceBytes s.free) 0 16
  let s := State.took { s with sec := { s.sec with nonce := some (n, s.now) } } 1
  (s.done c (leAt n 0 4) (leAt n 4 4)).pushCpl c.ch (cplWords 1 0 c.origin c.tag (leAt n 8 4) (leAt n 12 4))

/-! ### BS_LOAD (R103, R131) -/

def State.bsLoad (s : State) (c : HCmd) : State :=
  if s.sec.hostWait = false ∧ s.on R.SEC_BOOT_STATUS.RECOVERY = false then s.fail c 0x0202
  else if s.applied ∨ s.sec.waiting.isSome then s.fail c 0x0202
  else
    match s.cmdBuf c (c.p 0) (c.p 1) with
    | none => (s.bufBlocked c (c.p 0) (c.p 1)).fail c 0x0206
    | some f =>
      match s.bsCheck f 1 with
      | .inr cfg => (s.done c 0 0).contentPass cfg f 3 false
      | .inl e => (s.rejected 4 e).fail c e.1 e.2

end Sys2Proof.Machine
end

