-- ==== Sys2Proof/Machine/Delta.lean ====
section
/-! DEFINITION.
Live bay deltas and image loads (R91, R93, R108 to R113, R124, R127 to R129, R295 to R298), and the dispatch of Halvik's
commands. -/

namespace Sys2Proof.Machine

/-! ### Image loads (R91, R93, R295, R298) -/

/-- The state as the image checks see it: the IMGS records of a delta that is being prepared stand already (R108). -/
def State.imgView (s : State) : State :=
  match s.sec.delta with
  | some d => if d.phase = .prepare then { s with cfg := d.newCfg } else s
  | none => s

def State.preparing (s : State) (e : Nat) : Bool :=
  match s.sec.delta with
  | some d => decide (d.phase = .prepare) && d.prepLeft.testBit e
  | none => false

/-- The next engine of a prepare phase: a host-sourced image waits, one from flash loads when no other does (R93, R108). -/
def State.prepKick (s : State) : State :=
  s.forEach (List.range 12) (fun e t =>
    if t.preparing e && t.get (R.REELn_STATE.STATE e) == 2 then
      if t.on (R.REELn_CFG.SOURCE e) then t.put (R.REELn_STATE.STATE e) 4
      else if (List.range 12).any (fun f => t.get (R.REELn_STATE.STATE f) == 3 && !(t.on (R.REELn_CFG.SOURCE f))) then t
      else (t.put (R.REELn_STATE.STATE e) 3).modEngine e (fun x => { x with before := 2 })
    else t)

def State.kickLoads (s : State) : State := s.loadKick.prepKick

/-- The IMAGE_LOAD command in progress for an engine. -/
def State.imgCmd (s : State) (e : Nat) : Option ImgCmd := s.sec.imgCmds.find? (fun c => c.engine == e)

def State.dropImgCmd (s : State) (e : Nat) : State :=
  { s with sec := { s.sec with imgCmds := s.sec.imgCmds.filter (fun c => c.engine != e) } }

/-- The command's completion, where a command asked for the load. -/
def State.imgCmdEnd (s : State) (e st res value : Nat) : State :=
  match s.imgCmd e with
  | some c => (s.dropImgCmd e).halvikDone c.ch c.origin c.tag st res 0 value
  | none => s

def State.modDelta (s : State) (f : Delta → Delta) : State :=
  { s with sec := { s.sec with delta := s.sec.delta.map f } }

/-- Repairs that waited for the end of a delta (R127). -/
def State.runLater (s : State) : State :=
  let l := s.flt.later
  let s := { s with flt := { s.flt with later := [] } }
  s.forEach l (fun x t =>
    let (u, code) := t.repair (fun v c res d => v.report 0 c res d) x.1 x.2 0
    if code = 6 then u.fltReset else u)

/-- Engines that a delta loaded and that never ran: zeroed, owned by no bay (R17, R295). -/
def State.dropPrepared (s : State) (d : Delta) : State :=
  s.forEach (indices 12 (fun e => d.prepEngines.testBit e)) (fun e t =>
    (((t.imgCmdEnd e 2 0 0).imageStop e).applyEngine e).put (R.REELn_STATE.STATE e) 0)

/-- A delta ends before its swap edge: nothing swapped. -/
def State.deltaStop (s : State) (d : Delta) (st res detail value : Nat) : State :=
  let s := { s with sec := { s.sec with delta := none } }
  (((s.dropPrepared d).halvikDone d.ch d.origin d.tag st res detail value).runLater).kickLoads

/-- A passed image: running, or for a delta's prepare phase verified and held (R108, R295). -/
def State.imgPassed (s : State) (e : Nat) (f : List Byte) : State :=
  if s.preparing e then
    let s := (s.zeroMem (rlmBase e) (rlmBase e + 0x10000)).putBytes (rlmBase e) (enkBody f)
    let s := s.modEngine e (fun x => { x with
      loadLen := enkLoadLen f, work := enkWork f, bodyCrc := crc32c (enkBody f), incoming := [] })
    let s := ((s.put (R.REELn_STATE.STATE e) 2).put (R.REELn_STATE.IMAGE_ID e) (beAt f 4 1)).put (R.REELn_STATE.VERSION e) (beAt f 6 2)
    s.modDelta (fun d => { d with prepLeft := clrBit d.prepLeft e })
  else s.engineLoaded e f

/-- A failed image: local memory zeroed, the engine in the state before the load; the bytes stay for the re-read (R131, R295). -/
def State.imgFailed (s : State) (e code : Nat) : State :=
  let inc := (s.engineAt e).incoming
  let s := (s.engineBack e).modEngine e (fun x => { x with incoming := inc })
  match s.sec.delta with
  | some d => if s.preparing e then s.deltaStop d 3 0x0403 e code else s.report (s.engBay e) 0x5803 e code
  | none => s.report (s.engBay e) 0x5803 e code

/-- IMAGE_LOAD_DONE: the checks of R295 on the file that the engine loads. -/
def execImageLoadDone (e : Nat) (s : State) : Host.Outcome State Fault Refusal :=
  answer (if s.get (R.REELn_STATE.STATE e) ≠ 3 then s
  else
    let v := s.imgView
    let f := v.imgFile e
    let code := v.imgCheck e f
    if code = 0 then ((s.imgPassed e f).imgCmdEnd e 1 0 (beAt f 6 2)).kickLoads
    else ((s.imgCmdEnd e 3 code 0).imgFailed e code).kickLoads)

/-- IMAGE_LOAD (R298): for a host-sourced image that an engine waits for. -/
def State.imageLoad (s : State) (c : HCmd) : State :=
  let e := c.p 0
  let st := s.get (R.REELn_STATE.STATE e)
  if 11 < e ∨ s.on (R.REELn_CFG.SOURCE e) = false ∨ (st ≠ 4 ∧ st ≠ 8) then s.fail c 0x0202
  else
    match s.cmdBuf c (c.addr 1) (c.p 3) with
    | none => (s.bufBlocked c (c.addr 1) (c.p 3)).fail c 0x0206
    | some f =>
      let s := (s.put (R.REELn_STATE.STATE e) 3).modEngine e (fun x => { x with before := st, incoming := f })
      { s with sec := { s.sec with imgCmds := s.sec.imgCmds ++ [⟨c.ch, c.origin, c.tag, e, []⟩] } }

/-! ### DELTA_APPLY (R108, R129) -/

/-- Whether the delta must wait for the partner: the bay is active in a pair and the partner's standby does not run the
delta's CONFIG_ID (R129). -/
def State.deltaPair (s : State) (b id : Nat) : Bool :=
  s.paired b && s.roleOf b == 2 && s.get R.VDT_PARTNER_CFG.CONFIG_ID != id

/-- Engines that a configuration gives to a bay and that had no owner before (R108). -/
def newEngines (old new : List Sect) (b : Nat) : Nat :=
  (indices 12 (fun e => cfgOwner new (fun r => (C.BAYS0.REELS r).testBit e) == some b &&
    (cfgOwner old (fun r => (C.BAYS0.REELS r).testBit e)).isNone &&
    (cfgRecs new .imgs 0).any (fun r => C.IMGS0.REEL r == e))).foldl setBit 0

/-- The page fields of an engine as another configuration gives them. -/
def State.presetEngine (s : State) (new : List Sect) (e : Nat) : State :=
  let t := State.applyEngine { s with cfg := new } e
  State.put { t with cfg := s.cfg } (R.REELn_STATE.STATE e) 2

def State.deltaApply (s : State) (c : HCmd) : State :=
  if s.sec.delta.isSome then s.fail c 0x0205
  else if 60000 < c.p 3 then s.fail c 0x0202
  else
    match s.cmdBuf c (c.addr 0) (c.p 2) with
    | none => (s.bufBlocked c (c.addr 0) (c.p 2)).fail c 0x0206
    | some f =>
      match s.bsCheck f 2 with
      | .inl e => s.fail c e.1 e.2
      | .inr new =>
        let b := hdrBay f
        if s.deltaPair b (hdrConfig f) then s.fail c 0x0402
        else
          let p := newEngines s.cfg new b
          let d : Delta := { ch := c.ch, origin := c.origin, tag := c.tag, bay := b, configId := hdrConfig f, newCfg := new
                             oldCfg := s.cfg, readyMs := if c.p 3 = 0 then 1000 else c.p 3, phase := .prepare
                             prepEngines := p, prepLeft := p, abortLate := false }
          let s := { s with sec := { s.sec with delta := some d } }
          (s.forEach (indices 12 (fun e => p.testBit e)) (fun e t => t.presetEngine new e)).kickLoads

/-! ### Swap, commit, rollback (R109 to R112, R127, R128) -/

/-- The swap waits for SUP: the bay owns a drive or a shedding pin while SUP is not NORMAL (R128). -/
def State.swapDeferred (s : State) (b : Nat) : Bool :=
  s.get R.SUP_STATE.STATE != 0 &&
  (!(s.drvsOf b).isEmpty || (s.recs .supp 1).any (fun r => s.ownPin (C.SUPP1.PIN r) == some b))

/-- Grants that a configuration adds (R112). -/
def addedGrants (old new : List Sect) : List (Nat × Nat) :=
  ((cfgRecs new .bays 1).filter (fun r => !((cfgRecs old .bays 1).contains r))).map (fun r => (C.BAYS1.KIND r, C.BAYS1.NUMBER r))

/-- The target bay on an edge that changes its configuration: reset where it runs or is held, then the other configuration;
a bay without a record before enters HELD (R91, R108, R153, R905). -/
def State.retarget (s : State) (b cause : Nat) (new : List Sect) (keep : Nat) : State :=
  let st := s.bayState b
  let s := if st = bayRunning ∨ st = bayHeld then s.enterReset b cause else s
  let s := s.install b new keep
  if st = bayNone ∧ (s.bayRec b).isSome then s.put (R.BAYn_STATE.STATE b) bayHeld else s

/-- DELTA_SWAP (R108, R109): the commit point. -/
def execDeltaSwap (s : State) : Host.Outcome State Fault Refusal :=
  answer (match s.sec.delta with
  | none => s
  | some d =>
    if d.phase ≠ .prepare ∨ d.prepLeft ≠ 0 ∨ s.swapDeferred d.bay ∨ s.coresRun = false ∧ s.sys.phase ≠ .doze then s
    else
      let s := (s.modDelta (fun x => { x with phase := .swapped })).flag (R.VDTn_ROLE.ELIGIBLE d.bay) false
      let s := { s with bay := { s.bay with closedGrants := addedGrants d.oldCfg d.newCfg } }
      (s.retarget d.bay 6 d.newCfg d.prepEngines).kickLoads)

/-- DELTA_DEFER_TIMEOUT (R128). -/
def execDeltaDeferTimeout (s : State) : Host.Outcome State Fault Refusal :=
  answer (match s.sec.delta with
  | none => s
  | some d =>
    if d.phase = .prepare ∧ d.prepLeft = 0 ∧ s.swapDeferred d.bay then s.deltaStop d 3 0x0401 0 0 else s)

/-- A standby bay is eligible again once no delta holds it (R129). -/
def State.eligible (s : State) (b : Nat) : State := if s.roleOf b = 4 then s.flag (R.VDTn_ROLE.ELIGIBLE b) true else s

/-- The commit: CONFIG_ID, the added grants, the completion (R110, R127). -/
def State.deltaCommit (s : State) (d : Delta) : State :=
  let s := { s with sec := { s.sec with delta := none }, bay := { s.bay with closedGrants := [] } }
  let s := (s.put R.SEC_CONFIG_ID.CONFIG_ID d.configId).halvikDone d.ch d.origin d.tag (if d.abortLate then 5 else 1) 0 0 d.configId
  (s.eligible d.bay).runLater

/-- An engine-only bay that is ready: every engine runs (R110); a STOPPED bay waits for BAY_READY of BAY0 (R905). -/
def State.enginesReady (s : State) (b : Nat) : Bool :=
  (s.coresOf b).isEmpty && s.bayState b != bayStopped && s.bayState b != bayReset &&
  (s.enginesOf b).all (fun e => s.get (R.REELn_STATE.STATE e) == 5)

/-- DELTA_COMMIT: an engine-only bay reports its images running. -/
def execDeltaCommit (s : State) : Host.Outcome State Fault Refusal :=
  answer (match s.sec.delta with
  | none => s
  | some d => if d.phase = .swapped ∧ s.enginesReady d.bay then s.deltaCommit d else s)

/-- DELTA_ROLLBACK (R111): the bay under its configuration from before; a bay that the delta created is NONE again. -/
def execDeltaRollback (s : State) : Host.Outcome State Fault Refusal :=
  answer (match s.sec.delta with
  | none => s
  | some d =>
    if d.phase ≠ .swapped then s
    else
      let b := d.bay
      let made := (cfgBay d.oldCfg b).isNone
      let s := if made then (s.enterReset b 7).resetBay b else s
      let s := { s with sec := { s.sec with delta := none }, bay := { s.bay with closedGrants := [] } }
      let s := s.retarget b 7 d.oldCfg 0
      let s := if made then s.put (R.BAYn_STATE.STATE b) bayNone else s
      let s := (s.report 0 0x5804 b 0).halvikDone d.ch d.origin d.tag 3 0x0401 0 0
      (s.eligible b).runLater.kickLoads)

/-- BAY_READY: the bay itself or BAY0 on its behalf (R110, R905). -/
def State.bayReady (s : State) (c : HCmd) : State :=
  let b := c.p 0
  if 7 < b ∨ (c.ch ≠ 0 ∧ b ≠ c.ch) then s.fail c 0x0202
  else
    match s.sec.delta with
    | none => s.done c 0 0
    | some d =>
      let core := !((s.coresOf b).isEmpty)
      if d.phase = .swapped ∧ d.bay = b ∧ (core ∨ s.bayState b = bayStopped) then (s.done c 0 0).deltaCommit d else s.done c 0 0

/-! ### ABORT (R121, R124, R127) -/

/-- The first origin of a channel's range (R116). -/
def originBase (ch : Nat) : Nat := if ch < 8 then 256 * ch else if ch = 8 then 0x1000 else 0x1100

def State.replayEntry (s : State) (o t : Nat) : Option ReplayEntry :=
  match s.sec.replay.find? (fun x => x.origin == o) with
  | some x => x.entries.find? (fun e => e.tag == t)
  | none => none

def State.abortCmd (s : State) (c : HCmd) : State :=
  let o := c.p 0 % 65536
  let t := c.p 0 / 65536
  if o / 256 ≠ originBase c.ch / 256 then s.fail c 0x0202
  else
    match s.replayEntry o t with
    | none => s.done c 0 0
    | some e =>
      if e.op ≠ 0x20 ∧ e.op ≠ 0x30 then s.fail c 0x0207
      else
        match s.sec.delta, s.sec.imgCmds.find? (fun x => x.origin == o && x.tag == t) with
        | _, some i => ((s.imgCmdEnd i.engine 2 0 0).engineBack i.engine).done c 0 0
        | some d, none =>
          if d.origin ≠ o ∨ d.tag ≠ t then s.done c 0 0
          else if d.phase = .prepare then (s.deltaStop d 2 0 0 0).done c 0 0
          else (s.modDelta (fun x => { x with abortLate := true })).done c 0 0
        | none, none => s.done c 0 0

/-! ### The path of every command (R116 to R125, R383) -/

/-- Payload lengths of an opcode; none for an unknown opcode. -/
def opLens (op w0 : Nat) : Option (List Nat) :=
  if op = 0x01 ∨ op = 0x03 then some [0] else if op = 0x02 ∨ op = 0x12 ∨ op = 0x13 ∨ op = 0x14 ∨ op = 0x21 ∨ op = 0x48 then some [1]
  else if op = 0x08 ∨ op = 0x10 then some [2] else if op = 0x11 ∨ op = 0x20 ∨ op = 0x30 then some [4]
  else if op = 0x40 then some [provWords w0, provWords w0 + 32] else if op = 0x41 ∨ op = 0x42 then some [33] else none

/-- Whether a channel may issue an opcode in the present state (R103, R121). -/
def State.chanOk (s : State) (ch op : Nat) : Bool :=
  (if op = 0x01 ∨ op = 0x02 then true else if op = 0x08 then decide (8 ≤ ch) else if op = 0x21 then decide (ch < 8)
   else ch == 0 || decide (8 ≤ ch)) &&
  (!(s.on R.SEC_BOOT_STATUS.RECOVERY && !s.applied) ||
    (ch == 8 && (op == 0x01 || op == 0x08 || op == 0x10 || op == 0x11 || op == 0x12 || (op == 0x40 && s.sec.otp.provisioning))))

/-- An accepted command executed.  `nvm` is the verify of the NVM words that it writes. -/
def State.runCmd (s : State) (c : HCmd) (nvm : Nat) : State :=
  if c.op = 0x01 then s.done c (s.get R.SEC_CONFIG_ID.CONFIG_ID) (s.word R.SEC_SLOT_STATE.STATE_A).toNat
  else if c.op = 0x02 then s.abortCmd c
  else if c.op = 0x03 then s.nonceCmd c
  else if c.op = 0x08 then s.bsLoad c
  else if c.op = 0x10 then s.slotOpen c nvm
  else if c.op = 0x11 then s.slotWrite c nvm
  else if c.op = 0x12 then s.slotClose c nvm
  else if c.op = 0x13 then s.slotCommit c nvm
  else if c.op = 0x14 then s.slotErase c nvm
  else if c.op = 0x20 then s.deltaApply c
  else if c.op = 0x21 then s.bayReady c
  else if c.op = 0x30 then s.imageLoad c
  else if c.op = 0x40 then s.keyProvision c
  else if c.op = 0x41 then s.keyRevoke c
  else if c.op = 0x42 then s.secverRaise c
  else s.bootOnceCmd c

/-- Opcode, LEN and channel, then the command (R125). -/
def State.checkCmd (s : State) (c : HCmd) (len nvm : Nat) : State :=
  match opLens c.op (c.p 0) with
  | none => s.fail c 0x0203
  | some l =>
    if !(l.contains len) || c.pay.length != len then s.fail c 0x0204
    else if s.chanOk c.ch c.op = false then s.fail c 0x0202
    else s.runCmd c nvm

/-- Whether Halvik serves commands: after zeroization, while cores may run. -/
def State.halvikOn (s : State) : Bool := s.coresRun || s.sys.phase == .doze

/-- The words of a command on a channel: origin range, replay window, then the command itself (R116, R383). -/
def State.halvik (s : State) (ch : Nat) (ws : List Word) (nvm : Nat) : State :=
  if s.halvikOn = false then s
  else
    let w0 := (ws.getD 0 0).toNat
    let w1 := (ws.getD 1 0).toNat
    let len := w0 / 256 % 256
    let c : HCmd := ⟨ch, w0 % 256, w1 % 65536, w1 / 65536, (ws.drop 2).take len⟩
    let fp := fingerprint (ws.take (len + 2))
    let refuse := fun (t : State) res => t.pushCpl ch (cplWords 3 res c.origin c.tag 0 0)
    if c.origin / 256 ≠ originBase ch / 256 then refuse s 0x0201
    else
      match lookup s.sec.replay c.origin c.tag fp with
      | .reuse => refuse s 0x0208
      | .stored k => s.pushCpl ch (asDuplicate k)
      | .pending => { s with sec := { s.sec with
          replay := modEntry s.sec.replay c.origin c.tag (fun e => { e with repeats := e.repeats ++ [ch] }) } }
      | .fresh =>
        State.checkCmd { s with sec := { s.sec with
          accepts := s.sec.accepts + 1, replay := acceptTag s.sec.replay (s.sec.accepts + 1) c.origin c.tag c.op fp } } c len nvm

/-- Whether HIF-SPI frames are served: after apply with HIF_CSn on a pin (R87, R103, R848). -/
def State.hifOn (s : State) : Bool :=
  s.halvikOn && (if s.applied then s.on R.HIF_SPI_CTRL.EN && (s.signalPin 17).isSome
    else s.get R.SYS_STRAPS.BOOT_SRC == 2 || s.on R.SEC_BOOT_STATUS.RECOVERY)

/-- Whether the PCIe endpoint is enabled (R87, R848). -/
def State.pcieOn (s : State) : Bool :=
  s.halvikOn && (if s.applied then s.on R.HIF_PCIE_CTRL.EN else s.get R.SYS_STRAPS.BOOT_SRC == 3)

/-- Whether a channel can submit commands now. -/
def State.chanOpen (s : State) (ch : Nat) : Bool :=
  if ch < 8 then s.live ch else if ch = 8 then s.hifOn else ch == 9 && s.pcieOn && s.on R.HIF_PCIE_STAT.LINK_UP

/-- A command of a table row as its words (R119). -/
def hreqWords (r : HReq) (op : Nat) : List Word :=
  [BitVec.ofNat 32 (op + 256 * r.payload.length), BitVec.ofNat 32 (r.origin + 65536 * r.tag)] ++ r.payload

def State.request (s : State) (r : HReq) (op nvm : Nat) : State :=
  if s.chanOpen r.ch then s.halvik r.ch (hreqWords r op) nvm else s

def execQuery (r : HReq) (s : State) : Host.Outcome State Fault Refusal := answer (s.request r 0x01 0)
def execHalvikAbort (r : HReq) (s : State) : Host.Outcome State Fault Refusal := answer (s.request r 0x02 0)
def execNonce (r : HReq) (s : State) : Host.Outcome State Fault Refusal := answer (s.request r 0x03 0)
def execBsLoad (r : HReq) (s : State) : Host.Outcome State Fault Refusal := answer (s.request r 0x08 0)
def execSlotOpen (r : HReq) (nvm : Nat) (s : State) : Host.Outcome State Fault Refusal := answer (s.request r 0x10 nvm)
def execSlotWrite (r : HReq) (nvm : Nat) (s : State) : Host.Outcome State Fault Refusal := answer (s.request r 0x11 nvm)
def execSlotClose (r : HReq) (nvm : Nat) (s : State) : Host.Outcome State Fault Refusal := answer (s.request r 0x12 nvm)
def execSlotCommit (r : HReq) (nvm : Nat) (s : State) : Host.Outcome State Fault Refusal := answer (s.request r 0x13 nvm)
def execSlotErase (r : HReq) (nvm : Nat) (s : State) : Host.Outcome State Fault Refusal := answer (s.request r 0x14 nvm)
def execDeltaApply (r : HReq) (s : State) : Host.Outcome State Fault Refusal := answer (s.request r 0x20 0)
def execBayReady (r : HReq) (s : State) : Host.Outcome State Fault Refusal := answer (s.request r 0x21 0)
def execImageLoad (r : HReq) (s : State) : Host.Outcome State Fault Refusal := answer (s.request r 0x30 0)
def execKeyProvision (r : HReq) (s : State) : Host.Outcome State Fault Refusal := answer (s.request r 0x40 0)
def execKeyRevoke (r : HReq) (s : State) : Host.Outcome State Fault Refusal := answer (s.request r 0x41 0)
def execSecverRaise (r : HReq) (s : State) : Host.Outcome State Fault Refusal := answer (s.request r 0x42 0)
def execBootOnce (r : HReq) (s : State) : Host.Outcome State Fault Refusal := answer (s.request r 0x48 0)

end Sys2Proof.Machine
end

