-- ==== Sys2Proof/Machine/Hif.lean ====
section
/-! DEFINITION.
HIF: HIF-SPI frames, the PCIe endpoint, doorbells and the QSPI controller (R835 to R844, R848 to R852). -/

namespace Sys2Proof.Machine

/-! ### HIF-SPI frames (R836 to R839) -/

/-- The frames of R837: base opcode, least and greatest LEN, whether ADDR is a staging offset. -/
def frameInfo (op : Nat) : Option (Nat × Nat × Bool) :=
  if op = 0x02 ∨ op = 0x03 then some (4, 4096, true)
  else if op = 0x05 ∨ op = 0x14 ∨ op = 0x22 ∨ op = 0x23 then some (4, 4, false)
  else if op = 0x12 then some (8, 256, false) else if op = 0x13 then some (16, 16, false) else none

/-- The opcode without its quad bit. -/
def baseOp (op : Nat) : Nat := if 0x40 ≤ op ∧ (frameInfo (op - 0x40)).isSome then op - 0x40 else op

/-- LAST_ERR of a frame, 0 where it is in order (R838, R839, R849). -/
def State.frameErr (s : State) (f : HFrame) : Nat :=
  let b := baseOp f.op
  let wr := b != 0x03 && b != 0x05 && b != 0x13 && b != 0x23
  if f.whole = false ∨ (wr ∧ (frameInfo b).isSome ∧ f.data.length ≠ f.len) then 5
  else if f.crcOk = false ∨ (wr ∧ s.flt.corrupt.contains (0x5C01, 0)) then 1
  else match frameInfo b with
  | none => 2
  | some (lo, hi, stage) =>
    if f.len < lo ∨ hi < f.len ∨ f.len % 4 ≠ 0 then 3
    else if (if stage then f.addr % 4 ≠ 0 ∨ s.stage.2 < f.addr + f.len else f.addr ≠ 0) then 4
    else if b = 0x14 ∧ (s.hif.spi.head + 8 - s.hif.spi.tail) % 8 < (leAt f.data 0 1 % 8 + 8 - s.hif.spi.tail) % 8 then 7
    else 0

def State.modHif (s : State) (f : HifPart → HifPart) : State := { s with hif := f s.hif }

/-- A frame that failed: no effect, LAST_ERR, cause 0x5C01 (R838). -/
def State.frameBad (s : State) (f : HFrame) (e : Nat) (wr : Bool) : State :=
  let s := s.modHif (fun h => { h with lastErr := e, lastOk := if wr then false else h.lastOk })
  ((s.inc R.HIF_SPI_CNT.BAD).flag R.HIF_IRQ_PEND.SPI_ERR true).report 0 0x5C01 0 (f.op % 256 + 256 * e)

/-- A frame that took effect. -/
def State.frameGood (s : State) (wr : Bool) : State :=
  let s := s.modHif (fun h => { h with
    lastErr := 0, lastOk := wr || h.lastOk, wseq := if wr then (h.wseq + 1) % 256 else h.wseq })
  s.inc R.HIF_SPI_CNT.GOOD

/-- A frame of the row with base opcode `op`, or one whose opcode is none of R837. -/
def State.frame (s : State) (op : Nat) (wr : Bool) (f : HFrame) (g : State → State) : State :=
  if s.hifOn = false ∨ (baseOp f.op ≠ op ∧ (frameInfo (baseOp f.op)).isSome) then s
  else
    let e := s.frameErr f
    if e ≠ 0 then
      let t := s.frameBad f e wr
      if wr then t else t.reply (List.replicate (f.len / 4 + 1) 0xFFFFFFFF#32)
    else (g s).frameGood wr

/-- A reader's DATA with the CRC that the device sends after it. -/
def State.frameData (s : State) (d : List Byte) : State :=
  s.reply ((List.range (d.length / 4)).map (fun k => BitVec.ofNat 32 (leAt d (4 * k) 4)) ++ [BitVec.ofNat 32 (crc32c d)])

/-- A write into the staging buffer with BAY0's identity (R840). -/
def State.stageWrite (s : State) (off : Nat) (d : List Byte) : State :=
  let a := s.stage.1 + off
  if s.applied && s.mirrorShut 0 a then s.blocked ⟨0, 6, 5⟩ 0x0C01 a true else s.writeBuf a d

def State.statusWord (s : State) : Nat :=
  let h := s.hif
  b2n s.hifOn + 2 * b2n h.lastOk + 16 * h.lastErr + 256 * h.spi.head + 4096 * h.spi.tail + 32768 * b2n h.spiDdb.isSome +
  65536 * ((s.word R.SEC_BOOT_STATUS.BOOT_SRC).toNat % 256) + 16777216 * h.wseq

def execStageWr (f : HFrame) (s : State) : Host.Outcome State Fault Refusal :=
  answer (s.frame 0x02 true f (fun t => t.stageWrite f.addr f.data))

/-- STAGE_RD; a read that meets a poisoned word returns zeros (R138, R212). -/
def execStageRd (f : HFrame) (s : State) : Host.Outcome State Fault Refusal :=
  answer (s.frame 0x03 false f (fun t =>
    if t.poisoned (t.stage.1 + f.addr) f.len then (t.poisonHit (t.stage.1 + f.addr) f.len).frameData (List.replicate f.len 0)
    else t.frameData (t.readMem (t.stage.1 + f.addr) f.len)))

/-- STATUS_RD; with the interface off the word reads with READY 0 (R848). -/
def execStatusRd (f : HFrame) (s : State) : Host.Outcome State Fault Refusal :=
  answer (if s.hifOn then s.frame 0x05 false f (fun t => t.frameData (toLE 4 t.statusWord))
    else s.frameData (toLE 4 s.statusWord))

/-- CMD_WR: CMD_BUF plus GO on the HIF-SPI channel (R837). -/
def execCmdWr (f : HFrame) (nvm : Nat) (s : State) : Host.Outcome State Fault Refusal :=
  answer (s.frame 0x12 true f (fun t =>
    t.halvik 8 ((List.range (f.data.length / 4)).map (fun k => BitVec.ofNat 32 (leAt f.data (4 * k) 4))) nvm))

def execCplRd (f : HFrame) (s : State) : Host.Outcome State Fault Refusal :=
  answer (s.frame 0x13 false f (fun t =>
    t.frameData ((t.hif.spi.ring.getD t.hif.spi.tail []).flatMap (fun w => toLE 4 w.toNat))))

def execCplAck (f : HFrame) (s : State) : Host.Outcome State Fault Refusal :=
  answer (s.frame 0x14 true f (fun t => t.setTail 8 (leAt f.data 0 1 % 8)))

def execHdbWr (f : HFrame) (s : State) : Host.Outcome State Fault Refusal :=
  answer (s.frame 0x22 true f (fun t => (t.put R.HIF_SPI_HDB.WORD (leAt f.data 0 4)).flag R.HIF_IRQ_PEND.SPI_HDB true))

def execDdbRd (f : HFrame) (s : State) : Host.Outcome State Fault Refusal :=
  answer (s.frame 0x23 false f (fun t =>
    (t.modHif (fun h => { h with spiDdb := none })).frameData (toLE 4 (t.hif.spiDdb.getD 0))))

/-- HIF_IRQn driven low: an unread completion or a device doorbell (R835). -/
def State.hifIrqLow (s : State) : Bool :=
  s.on R.HIF_SPI_CTRL.IRQ_EN && (s.hif.spi.head != s.hif.spi.tail || s.hif.spiDdb.isSome)

/-- HIF_SPI_DDB. -/
def execHifSpiDdb (by_ : Init) (w : Word) (s : State) : Host.Outcome State Fault Refusal :=
  answer (s.byOwner by_ 5 R.HIF_SPI_DDB.WORD.addr (fun t => t.modHif (fun h => { h with spiDdb := some w.toNat })))

/-! ### PCIe (R841 to R843) -/

/-- Whether the host reaches the endpoint. -/
def State.pcieUp (s : State) : Bool := s.pcieOn && s.on R.HIF_PCIE_STAT.LINK_UP

def execBar0Hdb (w : Word) (s : State) : Host.Outcome State Fault Refusal :=
  answer (if s.pcieUp then (s.put R.HIF_PCIE_HDB.WORD w.toNat).flag R.HIF_IRQ_PEND.PCIE_HDB true else s)

def execBar0Ddb (s : State) : Host.Outcome State Fault Refusal :=
  answer (if s.pcieUp then (s.modHif (fun h => { h with pcieDdb := none })).reply1 (s.hif.pcieDdb.getD 0) else s)

/-- HIF_PCIE_DDB: a word for the host and MSI vector 1 (R842, R848). -/
def State.pcieDdb (s : State) (w : Nat) : State := (s.modHif (fun h => { h with pcieDdb := some w })).raiseMsi 1

/-- BAR2_ACCESS: within the staging buffer and the BAR; beyond it a completer abort, which changes nothing (R840, R842). -/
def execBar2Access (write : Bool) (off len : Nat) (data : List Byte) (s : State) : Host.Outcome State Fault Refusal :=
  answer (
    let n := if write then data.length else len
    if s.pcieUp = false ∨ min s.stage.2 0x100000 < off + n then s
    else if write then s.stageWrite off data else s.frameData (s.readMem (s.stage.1 + off) len))

/-- LINK_UP as it changes (R848). -/
def State.pcieLink (s : State) (up : Bool) (rate width : Nat) : State :=
  let was := s.on R.HIF_PCIE_STAT.LINK_UP
  let s := ((s.flag R.HIF_PCIE_STAT.LINK_UP up).put R.HIF_PCIE_STAT.RATE (if up then rate else 0)).put
    R.HIF_PCIE_STAT.WIDTH (if up then width else 0)
  if was = up then s else s.flag R.HIF_IRQ_PEND.PCIE_LINK true

/-- PCIE_PERST: the endpoint and its configuration space, nothing else (R841, R849). -/
def execPciePerst (s : State) : Host.Outcome State Fault Refusal :=
  answer (((s.pcieLink false 0 0).flag R.HIF_PCIE_STAT.D3 false).modHif (fun h => { h with msi := none, oneMsi := true }))

/-- PCIE_LINK_CHANGE: the link with its rate and width, or its loss with the LTSSM state; and what the host has set in the
configuration space: D3hot, and a single MSI vector. -/
def execPcieLinkChange (up : Bool) (rate width ltssm : Nat) (d3 oneMsi : Bool) (s : State) : Host.Outcome State Fault Refusal :=
  answer (if s.pcieOn = false then s
  else
    let lost := s.on R.HIF_PCIE_STAT.LINK_UP && !up
    let t := ((s.pcieLink up rate width).flag R.HIF_PCIE_STAT.D3 d3).modHif (fun h => { h with oneMsi := oneMsi })
    if lost then t.report 0 0x5C02 0 (ltssm % 8) else t)

/-- PCIE_OUTBOUND_TIMEOUT: the access ends with its initiator's error (R138, R843). -/
def execPcieOutboundTimeout (by_ : Init) (wr : Bool) (addr : Nat) (s : State) : Host.Outcome State Fault Refusal :=
  answer (if s.live by_.bay && isBay by_ 0 && decide (0x8000000000 ≤ addr) && decide (addr < 0x8100000000) then
    s.busError by_ wr addr else s)

/-! ### QSPI controller (R844) -/

/-- HIF_QSPI_CMD. -/
def State.qspiCmd (t : State) (w : Word) : State :=
  let v := w.toNat
  let t := ((t.put R.HIF_QSPI_CMD.OP v).put R.HIF_QSPI_CMD.LEN (v / 256)).put R.HIF_QSPI_CMD.WRITE (v / 131072)
  let t := t.put R.HIF_QSPI_CMD.ADDR_EN (v / 262144)
  if v.testBit 31 && !(t.on R.HIF_QSPI_STAT.BUSY) then (t.flag R.HIF_QSPI_STAT.BUSY true).put R.HIF_QSPI_STAT.STATUS 0 else t

def execHifQspiCmd (by_ : Init) (w : Word) (s : State) : Host.Outcome State Fault Refusal :=
  answer (s.byOwner by_ 5 R.HIF_QSPI_CMD.GO.addr (fun t => t.qspiCmd w))

/-- Bytes of the flash changed. -/
def putFlash (m : List Host.Cell) (a : Nat) : List Byte → List Host.Cell
  | [] => m
  | b :: t => putFlash (SMap.set 0xFF#8 m a b) (a + 1) t

/-- QSPI_COMMAND_DONE: the words that the flash sent, and what the command changed in it. -/
def execQspiCommandDone (data : List Word) (off : Nat) (bytes : List Byte) (s : State) : Host.Outcome State Fault Refusal :=
  answer (if s.on R.HIF_QSPI_STAT.BUSY = false then s
  else
    let s := ((s.flag R.HIF_QSPI_STAT.BUSY false).put R.HIF_QSPI_STAT.STATUS 1).flag R.HIF_IRQ_PEND.QSPI_DONE true
    if s.on R.HIF_QSPI_CMD.WRITE then { s with flash := putFlash s.flash off bytes }
    else s.forEach (List.range (min 64 ((s.get R.HIF_QSPI_CMD.LEN + 3) / 4))) (fun k t =>
      t.putWord (R.HIF_QSPI_DATA.WORD k) (data.getD k 0)))

end Sys2Proof.Machine
end

