-- ==== Sys2Proof/Machine/Mem.lean ====
section
/-! DEFINITION.
MEM: the write-back of a corrected word and the background row test (R211, R216 to R218). -/

namespace Sys2Proof.Machine

/-- ECC_WRITEBACK: the corrected word is back in the array (R211). -/
def execEccWriteback (a : Nat) (s : State) : Host.Outcome State Fault Refusal :=
  answer { s with memx := { s.memx with writeback := s.memx.writeback.filter (fun w => w != a) } }

/-- ROW_TEST_START: the next row of the walk, with the words in which its reads find errors (R216, R218). -/
def execRowTestStart (found : List (Nat × Nat)) (s : State) : Host.Outcome State Fault Refusal :=
  answer (if s.applied = false ∨ s.memx.test.isSome ∨ s.on R.MEM_CTRL.PAUSE ∨ (s.coresRun = false ∧ s.sys.phase ≠ .doze) then s
  else
    let p := s.get R.MEM_TEST_POS.BANK
    let b := match s.testBank p with | some n => some n | none => s.testBank 0
    match b with
    | none => s
    | some n =>
      let row := if n = p then s.get R.MEM_TEST_POS.ROW else 0
      let s := ((s.put R.MEM_TEST_POS.BANK n).put R.MEM_TEST_POS.ROW row).setTest (some ⟨n, row, false, false⟩)
      s.forEach (found.filter (fun x => decide (x.1 < 16))) (fun x t => t.eccFound (bankBase n + 128 * row + 8 * x.1) x.2))

/-- ROW_TEST_SWITCHOVER: t1. -/
def execRowTestSwitchover (s : State) : Host.Outcome State Fault Refusal :=
  answer (match s.memx.test with
  | some t => if t.switched then s else s.setTest (some { t with switched := true })
  | none => s)

/-- ROW_TEST_END: t3 of a test of the walk with both verdicts.  A row that fails stays served from the shadow for its
targeted retest (R218). -/
def execRowTestEnd (march back : Bool) (s : State) : Host.Outcome State Fault Refusal :=
  answer (match s.memx.test with
  | some t =>
    if t.targeted ∨ t.switched = false then s
    else if march && back then (s.setTest none).walkOn t.bank t.row
    else
      let s := (s.setTest (some { t with targeted := true })).lastErr t.bank (128 * t.row) 3
      let res := t.bank + 256 * t.row
      let s := s.report (ownerOr0 (s.ownBank t.bank)) (if march then 0x1805 else 0x1803) res (128 * t.row)
      let s := if (s.flt.running ++ s.flt.waiting).any (onResource 0x1803 res) then s else s.setTest none
      s.walkOn t.bank t.row
  | none => s)

end Sys2Proof.Machine
end

