-- ==== Sys2Proof/Machine/Sys.lean ====
section
/-! DEFINITION.
SYS: resets, clocks, supplies and the power states (chapter 05; the rails of chapter 25). -/

namespace Sys2Proof.Machine

/-! ### Resets (R86, R181, R182, R183, R205) -/

/-- The straps as latched on a rising edge of PORn or RESETn (R86), and the kind of reference found (R168). -/
def State.latch (s : State) (x : Straps) (osc : Bool) : State :=
  (((s.put R.SYS_STRAPS.BOOT_SRC x.bootSrc).put R.SYS_STRAPS.STACK_POS x.stackPos).put R.SYS_STRAPS.PAIR_ID x.pairId).flag
    R.SYS_CLK_STATUS.REF_KIND osc

/-- A power-on reset: a device reset that clears the always-on domain too (R181, R183, R199). -/
def State.powerOn (s : State) (p : Phase) (pwr : Bool) : State :=
  let t := State.coldParts { s with regs := [], sec := { s.sec with bootOnce := none } }
  { t with sys := { SysPart.afterPor with phase := p, pwrEn := pwr, railLow := s.sys.railLow } }

/-- POWER_ON_RESET: PORn low and high again; the PLL starts on the rising edge (R171). -/
def execPowerOnReset (straps : Straps) (osc : Bool) (s : State) : Host.Outcome State Fault Refusal :=
  answer (((s.powerOn .pllWait true).latch straps osc).put R.SYS_CLK_STATUS.REF_OK 1)

/-- ALWAYS_ON_SUPPLY_VALID: VDD_AO becomes valid, or, `v18`, VDD_1V8 too (R205). -/
def execAlwaysOnSupplyValid (v18 : Bool) (s : State) : Host.Outcome State Fault Refusal :=
  answer (if v18 then (if s.sys.phase = .por then { s with sys := { s.sys with pwrEn := true } } else s)
  else s.powerOn .por false)

/-- RESETn: no pin of the device but PORn and WAKEn is sampled in OFF (R194); a device that a clock loss, a supply or the
wake from OFF holds stays held. -/
def State.resetPin (s : State) (x : Straps) (osc : Bool) : State :=
  match s.sys.phase with
  | .por => s
  | .off => s
  | .held => ((s.resetInto R.SYS_RESET_CAUSE.RESETN .held).latch x osc).put R.SYS_CLK_STATUS.REF_OK (s.get R.SYS_CLK_STATUS.REF_OK)
  | .offWait => (s.resetInto R.SYS_RESET_CAUSE.RESETN .offWait).latch x osc
  | .offSettle => (s.resetInto R.SYS_RESET_CAUSE.RESETN .offSettle).latch x osc
  | _ => (s.deviceReset R.SYS_RESET_CAUSE.RESETN).latch x osc

/-- RESETN_LOW for `ns` ns: ignored under 100 ns, acted on from 1 µs (R182); between, the spec leaves it open. -/
def execResetnLow (ns : Nat) (straps : Straps) (osc : Bool) (s : State) : Host.Outcome State Fault Refusal :=
  answer (if ns < 100 then s
  else if ns < 1000 then (if s.freeB then (s.took 1).resetPin straps osc else s.took 1)
  else s.resetPin straps osc)

/-- A write to SYS_DEV_RST (R181). -/
def State.devRst (s : State) (key : Nat) : State :=
  if key = 0xA5C3 then s.deviceReset R.SYS_RESET_CAUSE.SOFT else s

def execSysDevRst (by_ : Init) (key : Word) (s : State) : Host.Outcome State Fault Refusal :=
  answer (s.byBay0 by_ R.SYS_DEV_RST.KEY.addr (fun t => t.devRst key.toNat))

/-! ### Clocks (R171, R177 to R179) -/

/-- SYSTEM_PLL_LOCK after a reset: zeroization starts. -/
def execSystemPllLock (s : State) : Host.Outcome State Fault Refusal :=
  answer (if s.sys.phase = .pllWait then (s.setPhase .zeroize).flag R.SYS_CLK_STATUS.SYS_LOCK true else s)

/-- The device held in reset by the always-on domain, reason bit `k` (R179). -/
def State.hold (s : State) (k : Nat) (bit : Fld) (cause : Nat) : State :=
  let s := (s.holdReset bit).holdCause cause 0 0
  { s with sys := { s.sys with holds := setBit s.sys.holds k } }

/-- One reason to hold is gone; after the last the PLL starts (R179, R180). -/
def State.unhold (s : State) (k : Nat) : State :=
  let h := clrBit s.sys.holds k
  { s with sys := { s.sys with holds := h, phase := if h = 0 then .pllWait else .held } }

/-- Phases without a power-on core domain, in which no monitor of a core supply or of the clocks acts. -/
def Phase.dead : Phase → Bool
  | .por => true
  | .off => true
  | .offWait => true
  | _ => false

/-- REFERENCE_LOSS: the reference edges counted in a window of 20 LPO cycles (R178). -/
def execReferenceLoss (edges : Nat) (s : State) : Host.Outcome State Fault Refusal :=
  answer (if (400 ≤ edges ∧ edges ≤ 600) ∨ s.sys.phase.dead ∨ s.sys.holds.testBit 0 then s
  else (s.hold 0 R.SYS_RESET_CAUSE.REF_LOSS 0x0401).put R.SYS_CLK_STATUS.REF_OK 0)

/-- PLL_UNLOCK in RUN or DOZE (R178). -/
def execPllUnlock (s : State) : Host.Outcome State Fault Refusal :=
  answer (if s.coresRun ∨ s.sys.phase = .doze then s.hold 0 R.SYS_RESET_CAUSE.PLL_LOSS 0x0402 else s)

/-- REFERENCE_GOOD_RESTART: 50 good windows (R179). -/
def execReferenceGoodRestart (s : State) : Host.Outcome State Fault Refusal :=
  answer (if s.sys.phase = .held ∧ s.sys.holds.testBit 0 then (s.unhold 0).put R.SYS_CLK_STATUS.REF_OK 1 else s)

/-- LPO_CALIBRATION: the reference cycles over 65,536 LPO cycles (R177). -/
def execLpoCalibration (count : Nat) (s : State) : Host.Outcome State Fault Refusal :=
  answer (if s.coresRun = false ∧ s.sys.phase ≠ .doze then s
  else
    let s := (s.put R.SYS_LPO_CAL.REF_CYCLES count).flag R.SYS_LPO_CAL.VALID true
    if 1050000 * count < 1638400000000 ∨ 1638400000000 < 950000 * count then
      ((s.flag R.SYS_CLK_STATUS.LPO_OK false).flag R.SYS_IRQ_PEND.LPO_DRIFT true).report 0 0x0407 0 count
    else s)

/-- The bay that owns a lane's function (R173). -/
def State.laneBay (s : State) (l : Nat) : Nat :=
  if l < 2 then ownerOr0 (s.ownPeriph (10 + l)) else if l < 4 then ownerOr0 (s.ownPeriph 42)
  else if l < 6 then ownerOr0 (s.ownPeriph 43) else 0

/-- A lane PLL that the configuration powers locks; a Viaduct or Trestle lane goes on to LOCK (R173, R174, R553). -/
def State.lanePll (s : State) (l : Nat) : State :=
  if s.clocked = false ∨ s.sys.lanesIdle ∨ (s.get R.SYS_CLK_STATUS.LANE_ON).testBit l = false then s
  else
    let s := s.setB R.SYS_CLK_STATUS.LANE_LOCK l
    if 2 ≤ l ∧ l < 6 then s.laneTrain l 0 0 else s

def execLanePllLock (l : Nat) (s : State) : Host.Outcome State Fault Refusal :=
  answer (if l < 8 then s.lanePll l else s)

/-- The link of a lane's function goes down. -/
def State.laneLost (s : State) (l : Nat) : State :=
  if l < 2 then s.ethLink l false 0 else if l < 6 then s.laneDown l else s.pcieLink false 0 0

/-- LANE_PLL_UNLOCK (R179, R203). -/
def execLanePllUnlock (l : Nat) (s : State) : Host.Outcome State Fault Refusal :=
  answer (if 8 ≤ l ∨ s.bit R.SYS_CLK_STATUS.LANE_LOCK l = false then s
  else
    let s := (s.clrB R.SYS_CLK_STATUS.LANE_LOCK l).flag R.SYS_IRQ_PEND.LANE_UNLOCK true
    (s.laneLost l).report (s.laneBay l) 0x0403 l 0)

/-! ### Supplies (R180, R857, R861) -/

/-- CORE_UNDER_VOLTAGE. -/
def execCoreUnderVoltage (s : State) : Host.Outcome State Fault Refusal :=
  answer (if s.sys.phase.dead ∨ s.sys.holds.testBit 1 then s else s.hold 1 R.SYS_RESET_CAUSE.CORE_UV 0x0404)

/-- RAIL_UNDER_VOLTAGE of VDD_SER, 0, or VDD_1V8, 1 (R861). -/
def execRailUnderVoltage (rail : Nat) (s : State) : Host.Outcome State Fault Refusal :=
  answer (if 2 ≤ rail ∨ s.sys.phase.dead ∨ s.sys.holds.testBit (2 + rail) then s
  else s.hold (2 + rail) R.SYS_RESET_CAUSE.CORE_UV 0x0404)

/-- SUPPLY_GOOD_RESTART of VDD_CORE, 0, VDD_SER, 1, or VDD_1V8, 2. -/
def execSupplyGoodRestart (rail : Nat) (s : State) : Host.Outcome State Fault Refusal :=
  answer (if s.sys.phase = .held ∧ rail < 3 ∧ s.sys.holds.testBit (1 + rail) then s.unhold (1 + rail) else s)

/-- The level at which the input of a pin without a supply rests (R857). -/
def State.deadLevel (s : State) (p : Nat) : Bool :=
  match pinSignal p (s.get (R.PINp_ACTIVE.FUNC p)) with
  | some g => inactiveLevel g
  | none => false

/-- IO_RAIL_LOW: 0 to 3 VDDIO_G0 to G3, 4 VDD_3V3, 5 VDDA_3V3 (R857). -/
def execIoRailLow (rail : Nat) (s : State) : Host.Outcome State Fault Refusal :=
  answer (if 6 ≤ rail ∨ s.railIsLow rail then s
  else
    let s := { s with sys := { s.sys with railLow := setBit s.sys.railLow rail } }
    if rail < 4 then s.forEach (List.range 32) (fun i t => t.pinLevel (32 * rail + i) (t.deadLevel (32 * rail + i)))
    else if rail = 4 then (s.drvRail 0).drvRail 1
    else
      let s := if s.on R.TAG_INV_STAT.RUNNING then s.tagEnd 3 5 else s
      s.cloPark.capEdge)

/-- IO_RAIL_RESTORED, with the levels then at the pads of a group (R857). -/
def execIoRailRestored (rail levels : Nat) (s : State) : Host.Outcome State Fault Refusal :=
  answer (if 6 ≤ rail ∨ s.railIsLow rail = false then s
  else
    let s := { s with sys := { s.sys with railLow := clrBit s.sys.railLow rail } }
    if rail < 4 then s.forEach (List.range 32) (fun i t => t.pinLevel (32 * rail + i) (levels.testBit i)) else s)

/-! ### DOZE (R187) -/

/-- Whether every owned core waits in WFI without a pending interrupt. -/
def State.allWait (s : State) : Bool :=
  (List.range 4).all (fun c => (s.ownCore c).isNone || ((s.coreAt (s.hartOf c)).wfi && !(s.coreIrq (s.hartOf c))))

def execDozeEnter (s : State) : Host.Outcome State Fault Refusal :=
  answer (if s.sys.phase = .run ∧ s.applied ∧ s.allWait then s.setPhase .doze else s)

def execDozeExit (s : State) : Host.Outcome State Fault Refusal :=
  answer (if s.sys.phase = .doze ∧ (List.range 4).any (fun c => (s.ownCore c).isSome && s.coreIrq (s.hartOf c)) then
    s.setPhase .run else s)

/-- One FAB_CLK edge in DOZE: SYS_DOZE_TIME counts whole microseconds (R198). -/
def State.dozeTick (s : State) : State :=
  if s.sys.phase = .doze then
    let n := s.sys.dozeNs + 4
    if 1000 ≤ n then State.inc { s with sys := { s.sys with dozeNs := n - 1000 } } R.SYS_DOZE_TIME.US
    else { s with sys := { s.sys with dozeNs := n } }
  else s

/-! ### Entry to SLEEP and OFF (R188, R189, R193) -/

/-- Whether a wake source that can wake the requested state, 1 SLEEP or 2 OFF, is enabled (R188, R191, R200, R201). -/
def State.canWake (s : State) (req : Nat) : Bool :=
  let en := s.get R.SYS_WAKE_EN.EN
  (en.testBit 1 && s.get R.SYS_WAKE_TIMER.UNITS != 0) || en.testBit 2 ||
  (req == 1 && ((en.testBit 0 && s.on R.CAP_CTRL.EN) || (en.testBit 3 && (List.range 128).any (fun p => s.isWakePin p))))

/-- The refusal code of a request, 0 for none (R188). -/
def State.pwrRefuse (s : State) (req : Nat) : Nat :=
  if [0, 1].any (fun n => decide (2 ≤ s.drvSt n ∧ s.drvSt n ≤ 7)) then 1
  else if s.get R.SUP_STATE.STATE ≠ 0 then 2
  else if s.sec.delta.isSome ∨ s.sec.imgCmds ≠ [] then 3
  else if s.on R.VDT_STATUS.PARTNER ∧ (List.range 8).any (fun b => s.paired b && s.roleOf b == 2) then 4
  else if s.canWake req = false then 5
  else if (List.range 8).any (fun b => s.bayState b == bayReset) then 7
  else 0

/-- Every pin but the wake pins that `keep` spares, the gate outputs and the TEV outputs into park; lanes idle; the pair
sees the device go (R189 t2, R193, R575). -/
def State.sleepPark (s : State) (keep : Bool) : State :=
  let s := s.forEach (indices 128 (fun p => (s.ownPin p).isSome && !(keep && s.isWakePin p))) (fun p t => t.parkPin p)
  let s := (s.parkDrv 0).parkDrv 1
  let s := s.forEach (List.range 8) (fun n t => t.modTev n (fun x => { x with pulse := false }))
  let s := (((s.laneDown 2).laneDown 3).laneDown 4).laneDown 5
  let s := (s.flag R.VDT_STATUS.ALIVE_OUT false).flag R.VDT_STATUS.OWN_ACTIVE false
  let s := s.cloPark
  { s with sys := { s.sys with parked := true, lanesIdle := true } }

/-- A write of REQ: 1 SLEEP, 2 OFF; ignored while BUSY (R188, R189, R193, R198). -/
def State.pwrReq (s : State) (req : Nat) : State :=
  if s.on R.SYS_PWR_STAT.BUSY ∨ (req ≠ 1 ∧ req ≠ 2) then s
  else
    let r := s.pwrRefuse req
    if r ≠ 0 then (s.put R.SYS_PWR_STAT.REFUSE r).flag R.SYS_IRQ_PEND.PWR_REFUSED true
    else
      let s := (s.put R.SYS_PWR_STAT.REFUSE 0).flag R.SYS_PWR_STAT.BUSY true
      if req = 1 then s.setPhase .sleepDrain
      else
        let s := s.setPhase .offParked
        if s.memx.pgWrites = [] then s.sleepPark false else s

def execSleepRequest (by_ : Init) (s : State) : Host.Outcome State Fault Refusal :=
  answer (s.byBay0 by_ R.SYS_PWR_CTRL.REQ.addr (fun t => t.pwrReq 1))

def execOffRequest (by_ : Init) (s : State) : Host.Outcome State Fault Refusal :=
  answer (s.byBay0 by_ R.SYS_PWR_CTRL.REQ.addr (fun t => t.pwrReq 2))

/-- SLEEP_DRAINED: t2. -/
def execSleepDrained (s : State) : Host.Outcome State Fault Refusal :=
  answer (if s.sys.phase = .sleepDrain then (s.sleepPark true).setPhase .sleepParked else s)

/-- What the commit edge of an entry leaves: the wake timer reloaded (R201), the PLLs off. -/
def State.commitEntry (s : State) : State :=
  { s with sys := { s.sys with
      wakeLeft := if (s.get R.SYS_WAKE_EN.EN).testBit 1 then s.get R.SYS_WAKE_TIMER.UNITS else 0, wake := none } }

/-- SLEEP_COMMIT: t3; watchdogs stop (R157). -/
def execSleepCommit (s : State) : Host.Outcome State Fault Refusal :=
  answer (if s.sys.phase = .sleepParked then
    let s := (s.commitEntry.put R.SYS_CLK_STATUS.LANE_LOCK 0).flag R.SYS_CLK_STATUS.SYS_LOCK false
    (s.forEach (List.range 8) (fun b t => t.stopWdt b)).setPhase .sleepStopped
  else s)

/-- SLEEP_RETENTION: t4. -/
def execSleepRetention (s : State) : Host.Outcome State Fault Refusal :=
  answer (if s.sys.phase = .sleepStopped then (s.setPhase .sleep).flag R.SYS_PWR_STAT.BUSY false else s)

/-- OFF_COMMIT: PWR_EN falls; the core domain loses its state (R193, R194). -/
def execOffCommit (s : State) : Host.Outcome State Fault Refusal :=
  answer (if s.sys.phase = .offParked ∧ s.memx.pgWrites = [] then
    let t := (State.coldParts { s.commitEntry with mem := [] }).put R.SYS_CLK_STATUS.REF_KIND (s.get R.SYS_CLK_STATUS.REF_KIND)
    { t with sys := { t.sys with phase := .off, pwrEn := false, parked := true, lanesIdle := true, dozeNs := 0 } }
  else s)

/-! ### Wake events (R191, R200, R201) -/

def execWakenFall (s : State) : Host.Outcome State Fault Refusal :=
  answer (if (s.get R.SYS_WAKE_EN.EN).testBit 2 then s.wakeEvent 3 else s)

/-- WAKE_PIN_EDGE on an MPIO pin. -/
def execWakePinEdge (p : Nat) (rising : Bool) (s : State) : Host.Outcome State Fault Refusal :=
  let hit := (s.on R.SYS_WAKE_PIN.EN0 && s.get R.SYS_WAKE_PIN.PIN0 == p && s.on R.SYS_WAKE_PIN.EDGE0 == rising) ||
    (s.on R.SYS_WAKE_PIN.EN1 && s.get R.SYS_WAKE_PIN.PIN1 == p && s.on R.SYS_WAKE_PIN.EDGE1 == rising)
  answer (if (s.get R.SYS_WAKE_EN.EN).testBit 3 && hit && s.isWakePin p then s.wakeEvent 4 else s)

/-- WAKE_TIMER_EXPIRY: it counts in SLEEP and OFF only (R201). -/
def execWakeTimerExpiry (s : State) : Host.Outcome State Fault Refusal :=
  answer (if s.sys.wakeLeft ≠ 0 ∧ (s.sys.phase = .sleepStopped ∨ s.sys.phase = .sleep ∨ s.sys.phase = .off) then
    s.wakeEvent 2 else s)

/-! ### Wake from SLEEP (R192) -/

/-- WAKE_FROM_SLEEP: t1, after `lpo` LPO cycles (R190). -/
def execWakeFromSleep (lpo : Nat) (s : State) : Host.Outcome State Fault Refusal :=
  answer (if s.sys.phase = .sleep ∧ s.sys.wake.isSome then
    (s.put R.SYS_SLEEP_TIME.LPO (min lpo 4294967295)).setPhase .wakePll else s)

/-- WAKE_PLL_LOCK: t2 and t3; steady time goes on from its value, traceable time is adjusted (R190, R413). -/
def execWakePllLock (s : State) : Host.Outcome State Fault Refusal :=
  answer (if s.sys.phase = .wakePll then
    let s := (s.flag R.SYS_CLK_STATUS.SYS_LOCK true).resume
    let s := { s with sys := { s.sys with wake := none } }
    let t := s.sleepAdjust
    let s := s.tevTriggers t
    let s := s.forEach (indices 8 (fun b => s.live b)) (fun b t => t.startWdt b)
    s.capWake.flag R.SYS_IRQ_PEND.WAKE true
  else s)

/-- WAKE_PLL_TIMEOUT: 200 µs after t1. -/
def execWakePllTimeout (s : State) : Host.Outcome State Fault Refusal :=
  answer (if s.sys.phase = .wakePll then (s.deviceReset R.SYS_RESET_CAUSE.PLL_LOSS).holdCause 0x0406 0 0 else s)

/-! ### Wake from OFF (R196) -/

/-- WAKE_FROM_OFF: t1, after `lpo` LPO cycles. -/
def execWakeFromOff (lpo : Nat) (s : State) : Host.Outcome State Fault Refusal :=
  answer (if s.sys.phase = .off ∧ s.sys.wake.isSome then
    let s := s.put R.SYS_SLEEP_TIME.LPO (min lpo 4294967295)
    { s with sys := { s.sys with phase := .offWait, pwrEn := true, wake := none } }
  else s)

/-- CORE_SUPPLY_GOOD: t2. -/
def execCoreSupplyGood (s : State) : Host.Outcome State Fault Refusal :=
  answer (if s.sys.phase = .offWait then s.setPhase .offSettle else s)

/-- SETTLE_EXPIRY: t3, the device reset of a wake from OFF with the PLL started. -/
def execSettleExpiry (s : State) : Host.Outcome State Fault Refusal :=
  answer (if s.sys.phase = .offSettle then s.resetInto R.SYS_RESET_CAUSE.WAKE_OFF .pllWait else s)

/-- CORE_SUPPLY_TIMEOUT: 100 ms after t1; back to OFF. -/
def execCoreSupplyTimeout (s : State) : Host.Outcome State Fault Refusal :=
  answer (if s.sys.phase = .offWait then
    let s := s.holdCause 0x0408 0 0
    { s with sys := { s.sys with phase := .off, pwrEn := false } }
  else s)

end Sys2Proof.Machine
end

