-- ==== Sys2Proof/Machine/FltCmds.lean ====
section
/-! DEFINITION.
The commands of FLT: retests, notifications and fault injection (chapter 07), with what each chapter lists for its
causes. -/

namespace Sys2Proof.Machine

/-! ### Start of a retest (R244, R253, R272) -/

/-- Causes of shared SRAM rows: their retest is the row test through the shadow (R237, R238). -/
def bankRow (c : Nat) : Bool := c == 0x0405 || (decide (0x1801 ≤ c) && decide (c ≤ 0x1805))

/-- Whether a waiting retest may start: fewer than 16 run, none on its resource, its bay is not in RESET (R39), no power
entry is under way; a row waits for the row test in progress. -/
def State.mayRetest (s : State) (x : Retest) : Bool :=
  decide (s.flt.running.length < 16) && !(s.flt.running.any (onResource x.cause x.res)) && !s.entering &&
  (classOf x.cause == 7 || x.reports.all (fun r => s.bayState r.bay != bayReset)) &&
  (!(bankRow x.cause) || (match s.memx.test with
    | some t => t.targeted && t.bank == x.res % 256 && t.row == x.res / 256
    | none => true))

/-- The resource during its retest. -/
def State.retestBegin (s : State) (x : Retest) : State :=
  let i := x.res % 256
  let c := classOf x.cause
  if bankRow x.cause then s.setTest (some ⟨i, x.res / 256, true, true⟩)
  else if x.cause = 0x1C05 then { s with time := { s.time with dup := s.time.q } }
  else if c = 5 then (match x.reports with | r :: _ => s.laneLost (laneOf r) | [] => s)
  else if c = 6 ∧ x.cause ≠ 0x5803 ∧ s.get (R.REELn_STATE.STATE i) = 5 then
    (s.put (R.REELn_STATE.STATE i) 6).clrB R.REEL_RUN_SUM.RUNNING i
  else s

/-- RETEST_START of the `k`-th waiting retest. -/
def execRetestStart (k : Nat) (s : State) : Host.Outcome State Fault Refusal :=
  answer (match s.flt.waiting[k]? with
  | none => s
  | some x =>
    if s.mayRetest x = false then s
    else
      let s := { s with flt := { s.flt with waiting := s.flt.waiting.eraseIdx k, running := s.flt.running ++ [x] } }
      (s.retestBegin x).showRetests)

/-! ### End of a retest (R249, R256, and each cause's chapter) -/

/-- The NVM word of cause 0x6402 made unavailable: its logical page, or its slot (R238). -/
def State.nvmLost (s : State) (word : Nat) : State :=
  let o := 8 * word
  if o < 0xC0000 then s.setSlot 0 (fun x => { x with state := 4 })
  else if o < 0x180000 then s.setSlot 1 (fun x => { x with state := 4 })
  else if o < lpBase 0 ∨ lpBase 56 ≤ o then s
  else
    let lp := (o - lpBase 0) / 0x1000
    State.showNvm (s.forEach (indices 119 (fun p => (s.nvmPage p).lpage == some lp)) (fun p t =>
      t.setPage p { t.nvmPage p with lpage := none }))

/-- Whether the image of an engine, read once more, passes its checks (R131). -/
def State.reload (s : State) (e : Nat) : Bool :=
  let v := s.imgView
  v.imgCheck e (v.imgFile e) == 0

/-- A retest whose cause its verdict follows up: the engine runs on, the image loaded, the lane relocked, the record read
again, the controller recovering. -/
def State.retestAfter (s : State) (x : Retest) (pass : Bool) : State :=
  let i := x.res % 256
  let c := x.cause
  let s := if x.reports.any (fun r => r.cause == 0x4C04) then s.calLoad true (i % 64) else s
  let s := if c = 0x4C01 ∨ c = 0x4C02 then s.capOos else s
  let s := if 2 ≤ i ∧ i < 6 ∧ classOf c = 5 ∧ s.laneDowngraded i then s.modLane i (fun l => { l with rate := 1 }) else s
  if bankRow c then s.setTest none
  else if c = 0x5803 then
    let v := s.imgView
    let st := s.get (R.REELn_STATE.STATE i)
    if pass ∧ (st = 2 ∨ st = 3 ∨ st = 4) then s.imgPassed i (v.imgFile i) else s
  else if classOf c = 6 then
    if pass ∧ s.get (R.REELn_STATE.STATE i) = 6 then
      ((s.put (R.REELn_STATE.STATE i) 5).setB R.REEL_RUN_SUM.RUNNING i).modEngine i (fun y =>
        { y with healthAt := s.now, missed := false, deaf := false })
    else s
  else if c = 0x0403 then (if pass then s.lanePll i else s)
  else if c = 0x0407 then (if pass then s.flag R.SYS_CLK_STATUS.LPO_OK true else s)
  else if c = 0x2802 then s.canVerdict i (!pass)
  else if c = 0x6402 then (if pass then s else s.nvmLost x.res)
  else s

/-- The checker entry of a blocked access differs from the configuration copy: the verdict stands under 0x0C07 with the
entry's index (R165). -/
def asParity (entry : Nat) (x : Retest) : Retest :=
  { x with reports := x.reports.map (fun r => { r with cause := 0x0C07, res := entry, detail := 0 }) }

/-- RETEST_END of the `k`-th running retest.  `aux`: spare rows that failed their read-back, or the checker entry; `nvm`:
the verify of the log entry.  Whether an image load passes follows from the file. -/
def execRetestEnd (k : Nat) (pass : Bool) (aux nvm : Nat) (s : State) : Host.Outcome State Fault Refusal :=
  answer (match s.flt.running[k]? with
  | none => s
  | some x =>
    let s := { s with flt := { s.flt with running := s.flt.running.eraseIdx k } }
    let s := if x.again then
        (if pass then s else (match x.reports with | r :: _ => (s.repairLane r).1 | [] => s))
      else
        let pass := if x.cause = 0x5803 then s.reload (x.res % 256) else pass
        let y := if pass = false ∧ 0x0C01 ≤ x.cause ∧ x.cause ≤ 0x0C04 then asParity aux x else x
        (s.finishRetest y ⟨pass, aux, nvm⟩ false).retestAfter x pass
    (s.showRetests.settleRetired).kickLoads)

/-- RETEST_INTERVAL_TIMEOUT of the `k`-th waiting retest, which needs a port or lane of a Quadrille context (R255). -/
def execRetestIntervalTimeout (k : Nat) (s : State) : Host.Outcome State Fault Refusal :=
  answer (match s.flt.waiting[k]? with
  | none => s
  | some x =>
    if classOf x.cause ≠ 4 ∧ classOf x.cause ≠ 5 then s
    else
      let s := { s with flt := { s.flt with waiting := s.flt.waiting.eraseIdx k } }
      let s := if x.again then s else s.finishRetest x ⟨true, 0, 0⟩ true
      (if x.cause = 0x2802 then s.canVerdict (x.res % 256) false else s).showRetests)

/-! ### Log and notifications (R262, R271) -/

/-- LOG_BUCKET_REFILL by one entry. -/
def execLogBucketRefill (s : State) : Host.Outcome State Fault Refusal :=
  answer { s with flt := { s.flt with bucket := min 64 (s.flt.bucket + 1) } }

/-- The oldest notification of a bay removed. -/
def State.popNote (s : State) (b : Nat) : State :=
  State.showNote { s with flt := { s.flt with notes := updAt s.flt.notes b (fun l => l.drop 1) } } b

def execFltnNtfPop (by_ : Init) (b : Nat) (s : State) : Host.Outcome State Fault Refusal :=
  answer (s.act by_ (isBay by_ b || isBay by_ 0) 0x0C02 (R.FLTn_NTF_POP.POP b).addr true (fun t => t.popNote b))

/-! ### Injection (R265, R266, R288) -/

/-- Whether the RESOURCE of a cause names something that exists. -/
def resExists (c r : Nat) : Bool :=
  let b := c / 1024
  let i := r % 256
  let u := r / 256
  if bankRow c then decide (i < 32) && decide (u < 2048)
  else if c = 0x0403 then decide (r < 8)
  else if b = 2 ∨ b = 27 ∨ c = 0x4406 then decide (r < 128)
  else if b = 3 then c == 0x0C07 || decide (i < 8)
  else if b = 4 then decide (r < 64)
  else if b = 5 then decide (r < (if c = 0x1402 then 8 else 256))
  else if c = 0x1806 ∨ c = 0x1807 then decide (i < 12) && decide (u < 512)
  else if c = 0x1808 ∨ c = 0x1809 then i == 0
  else if c = 0x180A ∨ c = 0x1C04 ∨ c = 0x1C06 then decide (i < 8)
  else if b = 8 ∨ b = 16 then decide (i < 4) && (b == 8 || decide (u < 9))
  else if b = 9 then decide (r < (if c = 0x2402 then 2 else 4))
  else if b = 10 ∨ b = 24 then decide (r < 4)
  else if b = 11 then decide (r < 6)
  else if b = 12 ∨ c = 0x5803 then decide (r < 12)
  else if c = 0x3401 ∨ c = 0x3402 then r == 2 || r == 3
  else if c = 0x3801 ∨ c = 0x3802 ∨ c = 0x3806 then r == 4 || r == 5
  else if c = 0x3404 ∨ c = 0x3406 ∨ c = 0x3803 ∨ c = 0x3804 ∨ c = 0x3805 ∨ b = 26 then decide (r < 8)
  else if b = 15 then decide (r < 2)
  else if b = 18 then decide (i < 2) && u == (if c = 0x4802 ∨ c = 0x4803 then 1 else 0)
  else if b = 19 then decide (r < 72)
  else if b = 20 then decide (r < 8) || r == 0xFF
  else if c = 0x5C04 then r == 6 || r == 7
  else if c = 0x5801 then decide (r < 5)
  else if b = 25 then decide (r < 262144)
  else r == 0

/-- The bay that owns the RESOURCE of a cause (R242). -/
def State.resOwner (s : State) (c r : Nat) : Option Nat :=
  let b := c / 1024
  let i := r % 256
  if bankRow c then s.ownBank i
  else if c = 0x0403 then
    (if i < 2 then s.ownPeriph (10 + i) else if i < 4 then s.ownPeriph 42 else if i < 6 then s.ownPeriph 43 else none)
  else if b = 2 ∨ b = 27 then s.ownPin i
  else if (b = 3 ∧ c ≠ 0x0C07) ∨ c = 0x1402 ∨ c = 0x180A ∨ c = 0x3404 ∨ c = 0x3406 ∨ c = 0x3805 then some (i % 8)
  else if b = 4 then s.mbxSide i 0
  else if b = 5 then s.queueEnd i 0
  else if c = 0x1806 ∨ c = 0x1807 ∨ b = 12 ∨ c = 0x5803 then s.ownReel i
  else if c = 0x1C04 then s.ownPeriph (44 + i)
  else if c = 0x1C06 then s.ownPeriph (52 + i)
  else if b = 8 then s.ownPeriph (38 + i)
  else if b = 9 then s.ownPeriph (10 + i)
  else if b = 10 then s.ownPeriph (14 + i)
  else if b = 11 then s.ownPeriph (18 + i)
  else if b = 13 then s.ownPeriph 42
  else if b = 14 then s.ownPeriph 43
  else if b = 15 then s.ownPeriph (24 + i)
  else if b = 16 then s.ownPeriph (26 + i)
  else if b = 26 then s.ownPeriph (30 + i)
  else if b = 17 then s.ownPeriph 6
  else if b = 18 then s.ownPeriph 7
  else if b = 19 then s.ownPeriph 8
  else if b = 20 then s.ownPeriph 9
  else if b = 24 then s.ownCore i
  else none

/-- The state that a command answers. -/
def stateOf (s : State) (o : Host.Outcome State Fault Refusal) : State :=
  match o with
  | .next t => t
  | _ => s

/-- Storage whose inverted check or parity bit the block finds and corrects at the next read, taken here at once. -/
def storeBits : List Nat := [0x0802, 0x1003, 0x1404, 0x1405, 0x2005, 0x2404, 0x2803, 0x6002, 0x6803]

/-- Corruptions of MODE 2 that leave no trace in the state of this device: the other end of a link finds them. -/
def farBits : List Nat := [0x3401, 0x3801, 0x5C01, 0x5C04, 0x0803]

/-- The corruption that a chapter lists for a cause of a drive unit, of the analog blocks, of the supply (R668, R691, R721,
R755). -/
def State.corruptAna (s : State) (c i u : Nat) : Option State :=
  if c = 0x3C01 then some (stateOf s (execOvercurrentTrip i 0 false false (stateOf s (execOvercurrentTrip i 0 true true s))))
  else if c = 0x3C02 then some (stateOf s (execGateDriverFault i false (stateOf s (execGateDriverFault i true s))))
  else if c = 0x3C03 then some (stateOf s (execDesaturation i 0 false (stateOf s (execDesaturation i 0 true s))))
  else if c = 0x3C04 then some (s.modDrv i (fun x => { x with injRot := true }))
  else if c = 0x3C05 ∨ c = 0x3C06 then
    some (s.modDrv i (fun x => { x with injVdc := (max 1 (setN x.set 0x226 2), c == 0x3C05) }))
  else if c = 0x3C07 then some (stateOf s (execGateReadbackMismatch i 0 ((s.drvAt i).legs.headD Leg.cold).hi s))
  else if c = 0x3C09 then some (s.modDrv i (fun x => { x with injSet := true }))
  else if c = 0x4001 then some (s.modAdc i (fun x => { x with forceSat := some u }))
  else if c = 0x4003 then some (s.modAdc i (fun x => { x with refOfs := true }))
  else if c = 0x6801 then some (stateOf s (execSdmSaturation i true true s))
  else if c = 0x6802 then some (stateOf s (execSdmStuck i false s))
  else if c = 0x4401 then some (s.modSup (fun x => { x with forceGap := s.gapN }))
  else if c = 0x4402 then some (s.modSup (fun x => { x with forceSlow := 1 }))
  else if c = 0x4403 then some (s.modSup (fun x => { x with forceSlow := 2 }))
  else if c = 0x4405 then some (s.modSup (fun x => { x with forceStuck := s.now + 1000000 }))
  else none

/-- The corruption listed for a loop, a key, a film channel or the tag reader (R772, R796, R820). -/
def State.corruptFront (s : State) (c r : Nat) : Option State :=
  let i := r % 256
  let key : Nat → State := fun v =>
    let f : CapElem → CapElem := fun x => { x with inj := 4, injV := v }
    s.modCap (fun x => if i < 64 then { x with keys := updAt x.keys i f } else { x with sns := updAt x.sns (i - 64) f })
  if c = 0x4801 then some (s.modClo i (fun x => { x with injH := 4 }))
  else if c = 0x4802 ∨ c = 0x4803 then
    some (s.modCli i (fun x => { x with inj := 100 * max 1 (s.get (R.CLIm_CTRL.LIM_MS i)) + 1, injV := if c = 0x4802 then 0 else 22000 }))
  else if c = 0x4804 then some (s.modClo i (fun x => { x with injS := 100 }))
  else if c = 0x4C01 then some (key 0)
  else if c = 0x4C02 then some (key 0xFFFF)
  else if c = 0x4C03 then some (s.modCap (fun x => { x with injNoise := s.get R.CAP_CFG.HOP_HYST }))
  else if c = 0x4C04 then some (s.modCap (fun x => { x with injBit := true }))
  else if c = 0x4C05 then some (s.modFilm (i % 64) (fun x => { x with inj := true }))
  else if c = 0x5001 then some (s.modTag (fun x => { x with injLoad := true }))
  else if c = 0x5002 then some (s.modTag (fun x => { x with injRx := true }))
  else none

/-- The corruption listed for an engine, a core, the time base, a port, a lane or a pin (R305, R430, R497, R546, R593,
R628, R850). -/
def State.corruptCore (s : State) (c r : Nat) : Option State :=
  let b := (s.resOwner c r).getD 0
  let fill : Nat → State := fun e => s.modEngine e (fun x =>
    { x with bitIn := x.bitIn ++ List.replicate (64 - x.bitIn.length) (0, s.stamp, false) })
  if c = 0x3001 then some (s.modEngine r (fun x => { x with deaf := true }))
  else if c = 0x3002 then some (stateOf s (execEngineTrap r s.freeW (s.took 1)))
  else if c = 0x3003 then some (s.putByte (rlmBase r) (s.byte (rlmBase r) ^^^ 1#8))
  else if c = 0x3004 then some (fill r)
  else if c = 0x2C04 then some (match s.bitEngine r with | some e => fill e | none => s)
  else if c = 0x6001 then some (s.report b c r 2)
  else if c = 0x1C05 then some (stateOf s (execSteadyCounterMismatch 1 s))
  else if c = 0x2402 then some (stateOf s (execBlockLockLoss r s))
  else if c = 0x2802 then some ((s.put (R.CANn_STATUS.TEC r) 248).modCan r (fun x => { x with forceErr := true }))
  else if c = 0x3402 ∨ c = 0x3802 then some (s.laneDown r)
  else if c = 0x0801 ∨ c = 0x6C01 ∨ c = 0x4406 then some (stateOf s (execPinReadbackMismatch r (s.gpioLevel r) s))
  else none

/-- MODE 2 on a resource; none where the chapter lists no corruption for the cause. -/
def State.corrupt (s : State) (c r : Nat) : Option State :=
  let s := { s with flt := { s.flt with corrupt := s.flt.corrupt ++ [(c, r)] } }
  if storeBits.contains c then some (s.report ((s.resOwner c r).getD 0) c r 0)
  else if farBits.contains c then some s
  else
    match s.corruptAna c (r % 256) (r / 256) with
    | some t => some t
    | none =>
      match s.corruptFront c r with
      | some t => some t
      | none => s.corruptCore c r

/-- An injection by a path, with the RESULT under which it is refused; `own` limits the resources of a core. -/
def State.inject (s : State) (path c r mode : Nat) (own : Option Nat) : State × Nat :=
  if s.on R.FLT_POLICY.INJECT = false then (s, 1)
  else if causeClass c = none then (s, 2)
  else if resExists c r = false then (s, 3)
  else if mode = 3 ∨ (mode = 2 ∧ (s.corrupt c r).isNone) then (s, 4)
  else if (s.flt.running ++ s.flt.waiting).any (onResource c r) then (s, 5)
  else if (match own with | some b => s.resOwner c r != some b | none => false) then (s, 6)
  else if mode = 2 then ((s.corrupt c r).getD s, 0)
  else
    let s := { s with flt := { s.flt with injecting := s.flt.injecting.filter (fun (x : Nat × Nat × Nat) => x.1 != path) ++ [(path, c, r)] } }
    (s.reportN 4 { cause := c, res := r, detail := 0, stamp := s.now, bay := (s.resOwner c r).getD 0, injected := true,
                   forced := mode == 1 }, 0)

/-- FLT_INJ_GO (R265, R270). -/
def State.injGo (s : State) : State :=
  let s := (s.put R.FLT_INJ_STAT.STATUS 0).put R.FLT_INJ_STAT.RESULT 0
  let mode := s.get R.FLT_INJ_CAUSE.MODE
  let (t, res) := s.inject 4 (s.get R.FLT_INJ_CAUSE.CAUSE) (s.get R.FLT_INJ_RES.RESOURCE) mode none
  if res ≠ 0 then ((t.put R.FLT_INJ_STAT.STATUS 3).put R.FLT_INJ_STAT.RESULT res).flag R.FLT_IRQ_PEND.INJ_DONE true
  else if mode = 2 then (t.put R.FLT_INJ_STAT.STATUS 1).flag R.FLT_IRQ_PEND.INJ_DONE true
  else t

def execFltInjGo (by_ : Init) (s : State) : Host.Outcome State Fault Refusal :=
  answer (s.byBay0 by_ R.FLT_INJ_GO.GO.addr (fun t => t.injGo))

end Sys2Proof.Machine
end

