-- ==== Sys2Proof/Machine/RegMap.lean ====
section
/-! DEFINITION.
The peripheral space by sub-range, and who may read and write each (R9, R132 to R134, R423, R612, R753, R846). -/

namespace Sys2Proof.Machine

/-- The sub-ranges of the peripheral space, each with one rule of access. -/
inductive Sub where
  /-- Registers of PERIPH resource `p`, for its owner. -/
  | periph (p : Nat)
  /-- Registers common to the instances of a block: 0 MBX, 1 QMGR, 2 MEM, 3 REEL, 4 QDR, 5 SDM (R133). -/
  | common (k : Nat)
  /-- PIN_PARK, for every bay to read. -/
  | pinPark
  | pin (p : Nat)
  /-- Page `b` of PIN or GPIO. -/
  | pinPage (b : Nat)
  | gpioBank (k : Nat)
  | gpioPin (p : Nat)
  | baySelf
  | bayGlobal
  | bayPage (n : Nat)
  | mbx (m d : Nat)
  | queue (q e : Nat)
  | bank (n : Nat)
  | reel (e : Nat)
  /-- Time and status registers; servo hooks; journal (R423). -/
  | time
  | hooks
  | journal
  | vdtPage (n : Nat)
  | trsPage (n : Nat)
  | supPage (n : Nat)
  | fltPage (n : Nat)
  | secPage (n : Nat)
  deriving DecidableEq, Repr

/-- A page `n` below `count` of a block with a stride of `st` bytes from `lo` on: its number, where the offset lies in the
first `len` bytes. -/
def pageAt (o lo st count len : Nat) : Option Nat :=
  if lo ≤ o ∧ (o - lo) / st < count ∧ (o - lo) % st < len then some ((o - lo) / st) else none

/-- The sub-range of offset `o` where it lies in the first `len` bytes. -/
def inFirst (o len : Nat) (x : Sub) : Option Sub := if o < len then some x else none

def subPin (o : Nat) : Option Sub :=
  if o < 0x4 then some .pinPark
  else match pageAt o 0x100 8 128 8 with
  | some p => some (.pin p)
  | none => (pageAt o 0x1000 0x1000 8 0xC).map .pinPage

def subGpio (o : Nat) : Option Sub :=
  match pageAt o 0 0x20 4 0x1C with
  | some k => some (.gpioBank k)
  | none =>
    match pageAt o 0x100 4 128 4 with
    | some p => some (.gpioPin p)
    | none => (pageAt o 0x1000 0x1000 8 4).map .pinPage

def subBay (o : Nat) : Option Sub :=
  if o < 4 then some .baySelf
  else if o < 0x10 then some .bayGlobal
  else (pageAt o 0x1000 0x1000 8 0x50).map .bayPage

def subMbx (o : Nat) : Option Sub :=
  if o < 0xC then some (.common 0) else (pageAt o 0x1000 0x100 128 0x20).map (fun k => .mbx (k / 2) (k % 2))

def subQmgr (o : Nat) : Option Sub :=
  if o < 0x40 then some (.common 1) else (pageAt o 0x1000 0x20 512 0x20).map (fun k => .queue (k / 2) (k % 2))

def subTime (o : Nat) : Option Sub :=
  if o < 0x100 then some .time
  else if o < 0x140 then some .hooks
  else if o < 0x200 then some (.periph 4)
  else if 0x400 ≤ o ∧ o < 0x600 then some .journal
  else match pageAt o 0x1000 0x100 8 0x1C with
  | some n => some (.periph (44 + n))
  | none => (pageAt o 0x2000 0x100 8 0xC).map (fun n => .periph (52 + n))

/-- An ETH port: its registers, then its filter rules. -/
def subEth (o p : Nat) : Option Sub := if o < 0x23C ∨ (0x1000 ≤ o ∧ o < 0x1400) then some (.periph p) else none

/-- A block with global registers of `len` bytes under one rule and pages of `plen` bytes under another. -/
def subPages (o len : Nat) (g : Sub) (count plen : Nat) (f : Nat → Sub) : Option Sub :=
  if o < len then some g else (pageAt o 0x1000 0x1000 count plen).map f

/-- The sub-range of a peripheral address; none where every block leaves it unassigned (R208).  A table reaches from its
first register to its last, and the offsets between them are reserved (R7). -/
def subOf (a : Nat) : Option Sub :=
  let o := a % 0x10000
  match (a - 0x40000000) / 0x10000 with
  | 0x00 => inFirst o 0x50 (.periph 0)
  | 0x01 => subPin o
  | 0x02 => subBay o
  | 0x03 => subMbx o
  | 0x04 => subQmgr o
  | 0x05 => if o < 0x1C then some (.common 2) else (pageAt o 0x100 0x40 32 0x24).map .bank
  | 0x06 => subTime o
  | 0x07 => subPages o 4 (.common 4) 4 0x48 (fun n => .periph (38 + n))
  | 0x08 => subEth o 10
  | 0x09 => subEth o 11
  | 0x0A => subEth o 12
  | 0x0B => subEth o 13
  | 0x0C => (pageAt o 0 0x4000 4 0x2800).map (fun n => .periph (14 + n))
  | 0x0D => (pageAt o 0 0x1000 6 0x58).map (fun n => .periph (18 + n))
  | 0x0E => subPages o 8 (.common 3) 12 0x20 .reel
  | 0x0F => subPages o 0x34 (.periph 42) 8 0x18 .vdtPage
  | 0x10 => subPages o 0x4C (.periph 43) 8 0xC .trsPage
  | 0x11 => inFirst o 0x434 (.periph 24)
  | 0x12 => inFirst o 0x434 (.periph 25)
  | 0x13 => (pageAt o 0x1000 0x1000 4 0xA0).map (fun n => .periph (26 + n))
  | 0x14 => subPages o 4 (.common 5) 8 0x38 (fun n => .periph (30 + n))
  | 0x15 => subPages o 0x80 (.periph 6) 8 8 .supPage
  | 0x16 => inFirst o 0x408 (.periph 7)
  | 0x17 => inFirst o 0x800 (.periph 8)
  | 0x18 => if o < 0x44 ∨ (0x1000 ≤ o ∧ o < 0xD000) then some (.periph 9) else none
  | 0x19 => subPages o 0x3C (.periph 1) 8 0x1C .fltPage
  | 0x1A => subPages o 0x20 (.periph 2) 8 0x280 .secPage
  | 0x1B => inFirst o 0x200 (.periph 5)
  | 0x1C => inFirst o 0x2C (.periph 3)
  | 0x1D => subGpio o
  | _ => none

/-- What an access meets: it acts; a write of it is ignored; it is blocked under a cause; nothing is there. -/
inductive Right where
  | may
  | mute
  | shut (cause : Nat)
  | nothing
  deriving DecidableEq, Repr

/-- `may` where `b` holds, blocked with cause 0x0C02 elsewhere. -/
def mayIf (b : Bool) : Right := if b then .may else .shut 0x0C02

/-- Whether a bay owns an instance of the block of a common register (R133). -/
def State.ownsInstance (s : State) (b k : Nat) : Bool :=
  if k = 0 then (List.range 64).any (fun m => s.mbxSide m 0 == some b || s.mbxSide m 1 == some b)
  else if k = 1 then (List.range 256).any (fun q => s.queueEnd q 0 == some b || s.queueEnd q 1 == some b)
  else if k = 2 then !(s.banksOf b).isEmpty
  else if k = 3 then !(s.enginesOf b).isEmpty
  else if k = 4 then (List.range 4).any (fun n => s.ownPeriph (38 + n) == some b)
  else (List.range 8).any (fun n => s.ownPeriph (30 + n) == some b)

/-- Whether a bay reaches the page of an engine: the engine's bay, or the bay whose configuration names an engine that is
retired (R256, R303). -/
def State.reelPage (s : State) (b e : Nat) : Bool :=
  s.ownReel e == some b || (s.get (R.REELn_STATE.STATE e) == 7 && cfgOwner s.cfg (fun r => (C.BAYS0.REELS r).testBit e) == some b)

/-- The engines that run and have a port index attached, lowest first (R67, R293). -/
def State.portEngines (s : State) (k : Nat) : List Nat :=
  indices 12 (fun e => s.get (R.REELn_STATE.STATE e) == 5 && (s.get (R.REELn_CFG.PORTS e)).testBit k)

/-- Whether a write of engine `e` to an ETH offset is one that its allocation names, or a port-wide one (R328, R495). -/
def State.ethAlloc (s : State) (e : Nat) (lowest : Bool) (o : Nat) : Bool :=
  if 0x100 ≤ o ∧ o < 0x180 then (s.imgParam e 0x10 0xFF).testBit ((o - 0x100) / 0x10)
  else if 0x1000 ≤ o then
    let p := s.imgParam e 0x12 0x4000
    let r := (o - 0x1000) / 0x10
    decide (p % 256 ≤ r) && decide (r < p % 256 + p / 256 % 256)
  else lowest

/-- Whether a write to a port's registers acts: an attached engine that runs shuts out every other initiator (R293). -/
def State.portOpen (s : State) (i : Init) (p a : Nat) : Bool :=
  if 10 ≤ p ∧ p < 24 then
    let es := s.portEngines (p - 10)
    if es.isEmpty then true
    else i.kind == 1 && es.contains i.inst &&
      (decide (14 ≤ p) || s.ethAlloc i.inst (es.head? == some i.inst) (a % 0x10000))
  else true

/-- The right of a bay of another member: the sub-ranges of its claims (R612). -/
def State.claimRight (s : State) (i : Init) (x : Sub) : Right :=
  let ok := match x with
    | .periph p => s.holds i p
    | .pin p => s.holdsPin i p
    | .gpioPin p => s.holdsPin i p
    | .queue q e => s.queueMay i q e
    | _ => false
  if ok then .may else .shut 0x0C04

/-- The right of an initiator of this member. -/
def State.localRight (s : State) (i : Init) (wr : Bool) (a : Nat) (x : Sub) : Right :=
  let b := i.bay
  match x with
  | .periph p => if s.ownPeriph p == some b then (if !wr || s.portOpen i p a then .may else .mute) else .shut 0x0C02
  | .common k => if wr && b == 0 then .may
      else if s.ownsInstance b k then (if wr then .mute else .may) else .shut 0x0C02
  | .pinPark => if wr then .mute else .may
  | .pin p => mayIf (s.ownPin p == some b)
  | .pinPage n => mayIf (b == n || (b == 0 && !wr))
  | .gpioBank _ => .may
  | .gpioPin p => mayIf (s.ownPin p == some b)
  | .baySelf => if wr then .mute else .may
  | .bayGlobal => mayIf (b == 0)
  | .bayPage n => mayIf (b == n || b == 0)
  | .mbx m d =>
    if d = 1 ∧ (s.binding m).isSome then (if s.mbxSide m 0 == some b then .mute else .shut 0x0C03)
    else if s.mbxMay b m d then .may else .shut 0x0C03
  | .queue q e =>
    if s.queueMay i q e then (if !wr || s.endOpen i q e then .may else .mute) else .shut 0x0C03
  | .bank n => mayIf (ownerOr0 (s.ownBank n) == b)
  | .reel e => mayIf (s.reelPage b e)
  | .time => .may
  | .hooks =>
    if wr then (if s.hookWriter i then .may else .mute)
    else mayIf (b == 0 || s.ownReel (s.get R.TIME_CFG2.SOURCE_REEL) == some b)
  | .journal => if wr then .mute else .may
  | .vdtPage n => mayIf (b == n || b == 0)
  | .trsPage n => mayIf (b == n)
  | .supPage n => mayIf (s.ownPeriph 6 == some b || (b == n && (s.get R.SUP_CFG.NOTIFY_BAYS).testBit n))
  | .fltPage n => mayIf (b == n || b == 0)
  | .secPage n => mayIf (b == n)

/-- What an access to a peripheral address meets (R9, R208, R612). -/
def State.regRight (s : State) (i : Init) (wr : Bool) (a : Nat) : Right :=
  match subOf a with
  | none => if fromAfar i then .shut 0x0C04 else .nothing
  | some x => if fromAfar i then s.claimRight i x else s.localRight i wr a x

end Sys2Proof.Machine
end

