-- ==== Sys2Proof/Machine/RegView.lean ====
section
/-! DEFINITION.
What a register read returns: the stored fields, and the fields that follow other state at the read (R5, R7). -/

namespace Sys2Proof.Machine

/-- The stored word at a register address: WO fields, reserved bits and reserved offsets read 0 (R5, R7). -/
def State.wordAt (s : State) (a : Nat) : Word :=
  match regAt a with
  | some r => (SMap.get 0#32 s.regs a ^^^ BitVec.ofNat 32 r.rst) &&& r.maskOf (fun f => decide (f.acc ≠ Acc.wo))
  | none => 0#32

/-- PEND of the 32 lines from `lo` on: those that the bay owns and whose source is pending (R146, R161). -/
def State.pendLines (s : State) (b lo : Nat) : Nat :=
  (indices 32 (fun i => decide (lo + i < 62) && s.ownLine (lo + i) == some b && s.line (lo + i))).foldl setBit 0

/-- BAYn_LOC_PEND: the three latched bits as stored, the others as their sources stand (R148). -/
def State.locPend (s : State) (b : Nat) : Nat :=
  ([0, 1, 2, 3, 4, 6, 7, 8, 10].filter (fun i => s.localBit b i)).foldl setBit ((s.wordAt (R.BAYn_LOC_PEND.SRC b).addr).toNat &&& 0xA20)

/-- A read of offset `o` of the BAY block. -/
def State.viewBay (s : State) (i : Init) (o : Nat) (w : Word) : Nat :=
  let n := (o - 0x1000) / 0x1000
  if o = 0 then i.bay
  else if o < 0x1000 then w.toNat
  else if o % 0x1000 = 0x0C then min 0x7FFFFF (s.bay.wdt.getD n 0 / 1000)
  else if o % 0x1000 = 0x20 then s.pendLines n 0
  else if o % 0x1000 = 0x24 then s.pendLines n 32
  else if o % 0x1000 = 0x30 then s.locPend n
  else w.toNat

/-- A read of offset `o` of TIME: the view latched for the reader, and steady bit 31 (R424, R425). -/
def State.viewTime (s : State) (i : Init) (o : Nat) (w : Word) : Nat :=
  if 4 ≤ o ∧ o < 0x18 then (s.latchOf i).words.getD (o / 4 - 1) 0
  else if o = 0x24 then w.toNat % 256 + 2147483648 * (s.now / 2147483648 % 2)
  else w.toNat

/-- A read of offset `o` of port ETHn: PAUSED and CREDIT as they stand (R467, R475). -/
def State.viewEth (s : State) (n o : Nat) (w : Word) : Nat :=
  if o = 4 then (w.toNat &&& 0xFFFFFFDF) + 32 * b2n (decide (s.now < (s.ethAt n).pauseTo))
  else if 0x100 ≤ o ∧ o < 0x180 ∧ o % 16 = 12 then ((s.ethCredits n).wordAt (0x40080000 + 0x10000 * n + o)).toNat
  else w.toNat

/-- A read of offset `o` of NVM: the logical page that NVM_LP_SEL selects (R235). -/
def State.viewNvm (s : State) (o : Nat) (w : Word) : Nat :=
  let p := s.pageOf (s.get R.NVM_LP_SEL.LPAGE)
  if o = 0x18 then (match p with | some k => k + 128 * ((s.nvmPage k).writes % 16777216) + 2147483648 | none => 0)
  else if o = 0x1C then (match p with | some k => (s.nvmPage k).seq | none => 0)
  else w.toNat

/-- A read of offset `o` of GPIO: a bank shows the bits of the reader's pins (R847). -/
def State.viewGpio (s : State) (i : Init) (o : Nat) (w : Word) : Nat :=
  if o < 0x80 then w.toNat &&& s.bankMask i.bay (o / 0x20) else w.toNat

/-- The word that a read of a register returns, before what the read itself does. -/
def State.regView (s : State) (i : Init) (a : Nat) : Word :=
  let w := s.wordAt a
  let o := a % 0x10000
  let v : Nat := match (a - 0x40000000) / 0x10000 with
    | 0x02 => s.viewBay i o w
    | 0x03 => if 0x1000 ≤ o ∧ o / 0x100 % 2 = 1 ∧ (s.binding ((o - 0x1000) / 0x200)).isSome then 0 else w.toNat
    | 0x04 => if 0x1000 ≤ o ∧ o % 0x20 = 0x1C then w.toNat + s.agent ((o - 0x1000) / 0x40) (o / 0x20 % 2) else w.toNat
    | 0x06 => s.viewTime i o w
    | 0x08 => s.viewEth 0 o w
    | 0x09 => s.viewEth 1 o w
    | 0x0A => s.viewEth 2 o w
    | 0x0B => s.viewEth 3 o w
    | 0x0C => if o % 0x4000 = 0x18 then s.canTsc (o / 0x4000) else w.toNat
    | 0x0E => if 0x1000 ≤ o ∧ o % 0x1000 = 0x14 then w.toNat + s.healthAge (o / 0x1000 - 1) else w.toNat
    | 0x1C => s.viewNvm o w
    | 0x1D => s.viewGpio i o w
    | _ => w.toNat
  BitVec.ofNat 32 v

/-- The RC fields at an address cleared by its read (R5). -/
def State.readClears (s : State) (a : Nat) : State :=
  match regAt a with
  | none => s
  | some r =>
    let w := SMap.get 0#32 s.regs a ^^^ BitVec.ofNat 32 r.rst
    { s with regs := SMap.set 0#32 s.regs a ((w &&& ~~~ (r.maskOf (fun f => decide (f.acc = Acc.rc)))) ^^^ BitVec.ofNat 32 r.rst) }

/-- Registers whose read takes something: MBX RX_DATA, SERn_RXDATA, TCAPn_STAMP, ETHn_PTPF_INFO, TIME_STEADY_LO (R355, R424,
R428, R483, R536); none elsewhere. -/
def State.readTakes (s : State) (i : Init) (a : Nat) : Option State :=
  let o := a % 0x10000
  let k := (a - 0x40000000) / 0x10000
  if k = 3 ∧ 0x1000 ≤ o ∧ o % 0x100 = 0x14 then
    let m := (o - 0x1000) / 0x200
    let d := o / 0x100 % 2
    if d = 1 ∧ (s.binding m).isSome then none
    else some (s.mbxRead m (1 - d))
  else if k = 6 ∧ o = 0 then some (s.latchTime i)
  else if k = 6 ∧ 0x2000 ≤ o ∧ o % 0x100 = 8 then
    let n := (o - 0x2000) / 0x100
    let l := s.time.tcap.getD n []
    some ((s.reply1 (l.headD (0, false)).1).setTcap n (l.drop 1))
  else if 8 ≤ k ∧ k < 12 ∧ o = 0x34 then
    some (State.showPtp ((s.reply [s.wordAt a]).modEth (k - 8) (fun x => { x with ptp := x.ptp.drop 1 })) (k - 8))
  else if k = 13 ∧ o % 0x1000 = 0x18 then
    some (State.showSer ((s.reply [s.wordAt a]).modSer (o / 0x1000) (fun x => { x with rxf := x.rxf.drop 1 })) (o / 0x1000))
  else none

/-- A permitted read: its word answered, then what the read clears or takes. -/
def State.regRead (s : State) (i : Init) (a : Nat) : State :=
  (s.readTakes i a).getD ((s.reply [s.regView i a]).readClears a)

end Sys2Proof.Machine
end

