-- ==== Sys2Proof/Machine/RegWrite.lean ====
section
/-! DEFINITION.
What a permitted register write does: the fields that it changes, and what each block does on it (R5, R8, R900, and the
register tables of the block chapters). -/

namespace Sys2Proof.Machine

/-! ### Fields -/

/-- Whether the WL fields at an address are unlocked: the instance disabled, the ring idle, the unit in OFF or READY, SUP in
NORMAL, no inventory running (R8, R388, R660, R751, and the notes above the register tables). -/
def State.unlocked (s : State) (a : Nat) : Bool :=
  let o := a % 0x10000
  let n := o / 0x1000 - 1
  match (a - 0x40000000) / 0x10000 with
  | 0x04 => let q := (o - 0x1000) / 0x40
            let e := o / 0x20 % 2
            !(s.on (R.QMGR_CTRL.EN q e)) && s.get (R.QMGR_FETCH.INFLIGHT q e) == 0
  | 0x08 => !(s.on (R.ETHn_CTRL.EN 0))
  | 0x09 => !(s.on (R.ETHn_CTRL.EN 1))
  | 0x0A => !(s.on (R.ETHn_CTRL.EN 2))
  | 0x0B => !(s.on (R.ETHn_CTRL.EN 3))
  | 0x0C => !(s.on (R.CANn_CTRL.EN (s.canCfg (o / 0x4000))))
  | 0x0D => !(s.on (R.SERn_CTRL.EN (o / 0x1000)))
  | 0x11 => decide (s.drvSt 0 ≤ 1)
  | 0x12 => decide (s.drvSt 1 ≤ 1)
  | 0x13 => !(s.on (R.ADCn_CTRL.EN n))
  | 0x14 => !(s.on (R.SDMn_CTRL.EN n))
  | 0x15 => s.supSt == 0
  | 0x16 => if o < 0x200 then !(s.on (R.CLOn_CTRL.EN (o / 0x100))) else !(s.on (R.CLIm_CTRL.EN ((o - 0x200) / 0x100)))
  | 0x17 => !(s.on R.CAP_CTRL.EN)
  | 0x18 => !(s.on R.TAG_INV_STAT.RUNNING)
  | 0x1B => !(s.on R.HIF_PCIE_CTRL.EN)
  | _ => true

/-- The fields that a write changes by their access codes: RW replaced, WL replaced while unlocked, W1C cleared by a 1; the
bits of `keep` stay for the block to decide (R5, R8). -/
def State.writeRaw (s : State) (a : Nat) (w keep : Word) : State :=
  match regAt a with
  | none => s
  | some r =>
    let old := SMap.get 0#32 s.regs a ^^^ BitVec.ofNat 32 r.rst
    let open_ := s.unlocked a
    let rw := r.maskOf (fun f => decide (f.acc = Acc.rw) || (open_ && decide (f.acc = Acc.wl))) &&& ~~~ keep
    let w1c := r.maskOf (fun f => decide (f.acc = Acc.w1c)) &&& w &&& ~~~ keep
    { s with regs := SMap.set 0#32 s.regs a (((old &&& ~~~ (rw ||| w1c)) ||| (w &&& rw)) ^^^ BitVec.ofNat 32 r.rst) }

/-- A write by access codes alone. -/
def State.rawN (s : State) (a v : Nat) (keep : Nat := 0) : State := s.writeRaw a (BitVec.ofNat 32 v) (BitVec.ofNat 32 keep)

/-- A CIO field as a write leaves it: EN stays 0 where the writer's bay does not own the context that CTX names, and under a
claim (R444, R615). -/
def State.cio (s : State) (i : Init) (v : Nat) : Nat :=
  if v.testBit 7 ∧ (fromAfar i ∨ s.ownPeriph (38 + v % 4) ≠ some i.bay) then v &&& 0x3F else v &&& 0xBF

/-- Whether QBIND may bind a queue: owned by the bay and not granted; under a claim, unowned and not granted (R530, R613). -/
def State.mayBind (s : State) (i : Init) (q : Nat) : Bool :=
  (s.grant 1 q).isNone && (if fromAfar i then (s.ownQueue q).isNone else s.ownQueue q == some i.bay)

/-- A QBIND word with the enable bits of queues that may not be bound cleared: one queue, or two. -/
def State.qbind (s : State) (i : Init) (two : Bool) (v : Nat) : Nat :=
  let v := if s.mayBind i (v % 256) then v else clrBit v 8
  if two && s.mayBind i (v / 65536 % 256) then v else clrBit v 24

/-! ### Blocks -/

def State.writeSys (s : State) (a v : Nat) : State :=
  match a % 0x10000 with
  | 0x10 => s.devRst v
  | 0x14 => s.pwrReq (v % 4)
  | 0x1C => s.rawN a (v &&& C.SYS0.WAKE_SRC (s.rec1 .sys 0))
  | _ => s.rawN a v

/-- A shadow under a claim commits its pin alone; the reasons of R832 refuse it (R833). -/
def State.claimPin (s : State) (i : Init) (p : Nat) : State :=
  let sig := pinSignal p (s.pinShadow p % 16)
  let held := match sig with | some g => s.holds i (signalPeriph g) | none => true
  let twice : Bool := match sig with
    | some g => (List.range 128).any (fun q => q != p && pinSignal q (s.pinActive q % 16) == some g)
    | none => false
  if (s.pinShadow p % 16 ≠ 0 ∧ sig.isNone) ∨ held = false ∨ twice ∨ parkOk (field (s.pinShadow p) 4 4) = false then s
  else s.commitPin p

def State.writePin (s : State) (i : Init) (a v : Nat) : State :=
  let o := a % 0x10000
  if o < 0x1000 then
    let p := (o - 0x100) / 8
    if o % 8 ≠ 4 ∨ s.on (R.PINp_ACTIVE.FAULT p) then s
    else
      let t := s.setShadow p (v % 65536)
      if fromAfar i then t.claimPin i p else t
  else
    let b := o / 0x1000 - 1
    if o % 0x1000 = 0 then
      let t := if v.testBit 1 then s.put (R.PINb_COMMIT.ARMED b) 1 else s
      if v.testBit 0 then t.commitBay b else t
    else if o % 0x1000 = 8 then s.rawN a (s.cio i v)
    else s

/-- The violation page cleared with VALID (R161). -/
def State.clearViol (s : State) (b : Nat) : State :=
  ((s.putWord (R.BAYn_VIOL.VALID b) 0).putWord (R.BAYn_VIOL_ADDR_LO.ADDR b) 0).putWord (R.BAYn_VIOL_ADDR_HI.ADDR b) 0

/-- Bits of IRQ_CORE: owned cores; the odd core of a lockstep pair follows the even one (R162, R286). -/
def State.irqCores (s : State) (b v : Nat) : Nat :=
  (indices 4 (fun c => s.ownCore c == some b && v.testBit (s.hartOf c))).foldl setBit 0

/-- The lines of 32 from `lo` on that a bay owns. -/
def State.lineMask (s : State) (b lo : Nat) : Nat :=
  (indices 32 (fun k => decide (lo + k < 62) && s.ownLine (lo + k) == some b)).foldl setBit 0

/-- The bits of BAYn_CTRL, each for its own writer (R153, R154, R162). -/
def State.bayCtrl (s : State) (i : Init) (b v : Nat) : State :=
  let boss := i.bay == 0
  let s := if v.testBit 3 && boss && s.bayState b == bayStopped then s.enterReset b 8 else s
  let s := if v.testBit 1 && boss then s.registerReset b 1 else s
  let s := if v.testBit 0 && i.bay == b then s.registerReset b 2 else s
  if v.testBit 2 && boss then s.stop b else s

def State.writeBay (s : State) (i : Init) (a v : Nat) : State :=
  let o := a % 0x10000
  let b := o / 0x1000 - 1
  if o < 0x1000 then s.rawN a v
  else match o % 0x1000 with
  | 0x04 => s.bayCtrl i b v
  | 0x08 => s.wdtKick i b v
  | 0x10 => if v.testBit 31 then s.clearViol b else s
  | 0x28 => s.rawN a (v &&& s.lineMask b 0)
  | 0x2C => s.rawN a (v &&& s.lineMask b 32)
  | 0x38 => s.rawN a (s.irqCores b v)
  | _ => s.rawN a v

def State.writeMbx (s : State) (a v : Nat) : State :=
  let o := a % 0x10000
  let m := (o - 0x1000) / 0x200
  let d := o / 0x100 % 2
  if o < 0x1000 then s
  else match o % 0x100 with
  | 0x00 => s.mbxPut m d (BitVec.ofNat 32 v) false
  | 0x04 => (s.mbxPut m d (BitVec.ofNat 32 v) true).linksBound
  | 0x08 =>
    let s := if v.testBit 0 then (s.mbxBell m d).linksBound else s
    if v.testBit 1 then s.mbxRecall m d else s
  | _ => s.rawN a v

def State.writeQmgr (s : State) (a v : Nat) : State :=
  let o := a % 0x10000
  let q := (o - 0x1000) / 0x40
  let e := o / 0x20 % 2
  if o < 0x1000 then s
  else match o % 0x20 with
  | 0x08 => (s.rawN a v 1).endEn q e (v.testBit 0)
  | 0x0C => s.postTo q e (v % 65536)
  | 0x18 => if v.testBit 31 then s.abortIdx q e (v % 65536) else s
  | _ => s.rawN a v

def State.writeTime (s : State) (i : Init) (a v : Nat) : State :=
  let o := a % 0x10000
  if o < 0x1000 then
    match o with
    | 0x24 => s.rawN a (v &&& 2 ^ i.bay)
    | 0x100 => s.setAdj (Sys2Proof.signed 32 v)
    | 0x108 =>
      let t := s.rawN a v
      State.tevTriggers t (t.submitCorr (Sys2Proof.signed 64 (t.get R.TIME_SRV_CORR_LO.CORR + 4294967296 * v)))
    | 0x14C => if v.testBit 31 then State.tevTriggers s (s.timeCmd (v % 4)) else s
    | _ => s.rawN a v
  else if o < 0x2000 then
    let n := (o - 0x1000) / 0x100
    match o % 0x100 with
    | 0x00 =>
      let t := s.rawN a v 1
      if v.testBit 0 = t.on (R.TEVn_CTRL.EN n) then t else t.tevEn n (v.testBit 0)
    | 0x08 => s.tevArm n v
    | _ => s.rawN a v
  else s.rawN a v

/-- Registers of a context that its aligning engine, where it has one, writes alone (R448). -/
def State.writeQdr (s : State) (i : Init) (a v : Nat) : State :=
  let o := a % 0x10000
  let n := o / 0x1000 - 1
  let mine := match s.alignEngine n with | some e => i.kind == 1 && i.inst == e | none => true
  match o % 0x1000 with
  | 0x14 => if mine then s.rawN a v else s
  | 0x18 => if mine then s.trimReq n v else s
  | 0x28 => if mine then s.rawN a v else s
  | _ => s.rawN a v

/-- PRP_EN as a write leaves it: on an even port whose pair allows it (R484). -/
def State.prpBit (s : State) (n v : Nat) : Nat := if v.testBit 0 && !(s.prpAllowed n) then clrBit v 0 else v

def State.writeEth (s : State) (n a v : Nat) : State :=
  let o := a % 0x10000
  if o = 0 then
    let t := s.rawN a v 1
    if v.testBit 0 = t.on (R.ETHn_CTRL.EN n) then t else t.ethEn n (v.testBit 0)
  else if o = 0x20 then
    if v.testBit 15 then s.mdioGo n (v % 32) (v / 32 % 32) (v / 1024 % 8) (v / 65536) else s.rawN a v
  else if o = 0x28 then
    let t := s.rawN a v
    if 2 ≤ n ∧ t.get (R.ETHn_PHY_POLL.POLL_MS n) = 0 then t.ethLink n false (t.get (R.ETHn_STATUS.SPEED n)) else t
  else if o = 0x38 then s.rawN a (s.prpBit n v)
  else if 0x100 ≤ o ∧ o < 0x180 then (s.ethCredits n).rawN a v
  else s.rawN a v

/-- TWIN_EN as a write leaves it: on an even controller, both disabled and of one bay (R525). -/
def State.twinBit (s : State) (i : Init) (n v : Nat) : Nat :=
  if v.testBit 8 && !(n % 2 == 0 && !(s.on (R.CANn_CTRL.EN n)) && !(s.on (R.CANn_CTRL.EN (n + 1))) && s.holds i (14 + n) &&
      s.holds i (15 + n)) then clrBit v 8 else v

def State.writeCan (s : State) (i : Init) (a v : Nat) : State :=
  let o := a % 0x10000
  let n := o / 0x4000
  let r := o % 0x4000
  let odd := s.canTwin n && n % 2 == 1
  if r = 0 then
    let t := s.rawN a (s.twinBit i n v) (if odd then 0x1F else 1)
    let t := if odd ∨ v.testBit 0 = t.on (R.CANn_CTRL.EN n) then t else t.canEn n (v.testBit 0)
    if v.testBit 6 then t.canRecoverReq n else t
  else if odd ∧ (r < 0x10 ∨ (0x400 ≤ r ∧ r < 0x700)) then s
  else if 0x800 ≤ r ∧ r < 0x1200 then (if s.bufPending n ((r - 0x800) / 0x50) then s else s.rawN a v)
  else match r with
  | 0x1C => if v.testBit 0 then s.canTscLatch n else s
  | 0x3C => if v.testBit 0 then s.canRxfPop n else s
  | 0x48 => s.canTxreq n v
  | 0x4C => s.canTxabort n v
  | 0x58 => (s.rawN a (s.qbind i true v)).canFeed n
  | _ => s.rawN a v

def State.writeSer (s : State) (i : Init) (a v : Nat) : State :=
  let o := a % 0x10000
  let n := o / 0x1000
  match o % 0x1000 with
  | 0x00 => ((s.rawN a v).showSer n).serKick n
  | 0x14 => s.serTx n v
  | 0x28 => (s.rawN a (s.qbind i true v)).serKick n
  | _ => s.rawN a v

def State.writeReel (s : State) (a v : Nat) : State :=
  let o := a % 0x10000
  if 0x1000 ≤ o ∧ o % 0x1000 = 0x10 then (if v.testBit 0 then s.reelRestart (o / 0x1000 - 1) else s) else s.rawN a v

def State.writeVdt (s : State) (a v : Nat) : State :=
  let o := a % 0x10000
  let b := o / 0x1000 - 1
  if o < 0x1000 then
    match o with
    | 0x0C =>
      let s := if v.testBit 0 then s.selfFault else s
      if v.testBit 1 then (s.laneDown 2).laneDown 3 else s
    | 0x10 => (s.rawN a v).showOwn
    | _ => s.rawN a v
  else match o % 0x1000 with
  | 0x08 =>
    let s := s.rawN a v
    let s := if v.testBit 0 then s.handover b else s
    if v.testBit 1 then s.takeOver b else s
  | 0x10 =>
    let left := s.get (R.VDTn_SYNC.LINES_LEFT b)
    if (s.link.vdt.bulk.getD b none).isSome || (s.roleOf b == 3 && decide (0 < left) &&
        decide (left < min 65535 (s.mirrorLines b).length)) then s
    else s.rawN a v
  | _ => s.rawN a v

/-- The bits of REMOTE_EN that stand for claims of a bay. -/
def State.claimMask (s : State) (b : Nat) : Nat :=
  (indices 32 (fun c => match (s.recs .link 3)[c]? with | some r => C.LINK3.BAY r == b | none => false)).foldl setBit 0

def State.writeTrs (s : State) (a v : Nat) : State :=
  let o := a % 0x10000
  if o < 0x1000 then
    match o with
    | 0x34 => if v.testBit 31 then s.sirqSend (v % 65536) else s
    | 0x40 => if v.testBit 0 then (s.laneDown 4).laneDown 5 else s
    | _ => s.rawN a v
  else if o % 0x1000 = 4 then s.rawN a (v &&& s.claimMask (o / 0x1000 - 1))
  else s.rawN a v

/-- A drive command by OP (R661). -/
def State.drvCmd (s : State) (n v : Nat) : State :=
  match v % 8 with
  | 1 => s.drvStart n (v.testBit 4)
  | 2 => s.drvStop n
  | 3 => s.drvCoast n
  | 4 => s.psetLoad n (v / 256 % 16)
  | _ => s

/-- ALIGN_EN as a write leaves it: the bay owns the context that ALIGN_CTX names (R636). -/
def State.alignBit (s : State) (i : Init) (v : Nat) : Nat :=
  if v.testBit 1 ∧ (fromAfar i ∨ s.ownPeriph (38 + v / 4 % 4) ≠ some i.bay) then clrBit v 1 else v

def State.writeDrv (s : State) (i : Init) (n a v : Nat) : State :=
  match a % 0x10000 with
  | 0x00 => s.rawN a (s.alignBit i v)
  | 0x04 => s.rawN a (s.cio i (v % 256) + 256 * s.cio i (v / 256 % 256))
  | 0x0C => if v.testBit 31 then s.drvCmd n v else s
  | 0x400 =>
    let s := s.rawN a v
    if v.testBit 0 then s.tripClear n else s
  | _ => (s.rawN a v).drvReady n

def State.writeAdc (s : State) (i : Init) (a v : Nat) : State :=
  let o := a % 0x10000
  let n := o / 0x1000 - 1
  let r := o % 0x1000
  if r = 0 then
    let was := s.on (R.ADCn_CTRL.EN n)
    let t := (s.rawN a v).showAdc n
    let t := if was && !(v.testBit 0) then t.adcOff n else t
    t.forEach [0, 1] (fun k u => u.drvReady k)
  else if r = 8 then s.rawN a (s.qbind i false v)
  else if r = 0x0C then (if v.testBit 0 then s.adcFlush n else s)
  else if 0x10 ≤ r ∧ r < 0x50 ∧ r % 16 = 8 then
    let t := s.rawN a (s.cio i (v % 256))
    if v.testBit 8 then t.seqGo n ((r - 0x10) / 16) else t
  else s.rawN a v

def State.writeSdm (s : State) (i : Init) (a v : Nat) : State :=
  let o := a % 0x10000
  let n := o / 0x1000 - 1
  if o < 0x1000 then
    if (List.range 8).any (fun k => s.on (R.SDMn_CTRL.EN k)) then s else s.rawN a v
  else match o % 0x1000 with
  | 0x00 =>
    let was := s.on (R.SDMn_CTRL.EN n)
    let t := s.rawN a v
    let t := if !was && v.testBit 0 then t.modSdm n (fun x => { x with suspect := 2 })
      else if was && !(v.testBit 0) then t.sdmFlush n else t
    t.showSdmClk.forEach [0, 1] (fun k u => u.drvReady k)
  | 0x04 => s.rawN a (s.cio i v)
  | 0x28 => s.rawN a (s.qbind i false v)
  | 0x2C => if v.testBit 0 then s.sdmFlush n else s
  | _ => s.rawN a v

def State.writeSup (s : State) (a v : Nat) : State :=
  match a % 0x10000 with
  | 0x00 =>
    let t := s.rawN a v 1
    let t := if v.testBit 2 then t.learnReset else t
    (t.supEn (v.testBit 0)).supInhibit
  | 0x18 => s.supDetect (BitVec.ofNat 32 v)
  | _ => s.rawN a v

def State.writeClp (s : State) (i : Init) (a v : Nat) : State :=
  let o := a % 0x10000
  let n := o / 0x100
  if o < 0x200 then
    match o % 0x100 with
    | 0x00 =>
      let t := s.rawN a v
      if v.testBit 0 then t else (t.flag (R.CLOn_STAT.COMPLIANCE n) false).flag (R.CLOn_STAT.RECOVERING n) false
    | 0x28 => s.rawN a (s.cio i v)
    | _ => s.rawN a v
  else if o < 0x400 ∧ o % 0x100 = 0x10 then s.rawN a (s.cio i v)
  else s.rawN a v

def State.writeCap (s : State) (a v : Nat) : State :=
  match a % 0x10000 with
  | 0x00 =>
    let t := s.capEn (v.testBit 0) (v.testBit 1)
    let t := if v.testBit 2 then t.recal else t
    if v.testBit 3 then t.calReload else t
  | 0x20 => s.capTempSw v
  | _ => s.rawN a v

/-- POWER_MW as a write leaves it: at most the POWER of the configuration (R800). -/
def State.tagPower (s : State) (v : Nat) : Nat :=
  v % 256 + 256 * min (v / 256 % 256) (if s.has .tags then C.TAGS0.POWER (s.rec1 .tags 0) else 0)

def State.writeTag (s : State) (i : Init) (a v : Nat) : State :=
  match a % 0x10000 with
  | 0x00 => s.rawN a (s.tagPower v)
  | 0x0C => if v.testBit 31 then s.tagCmd (v % 256) (v / 256 % 4) (v.testBit 10) else s
  | 0x10 => if v.testBit 0 then s.tagAbort else s
  | 0x30 => s.rawN a (s.qbind i false v)
  | _ => s.rawN a v

def State.writeFlt (s : State) (a v : Nat) : State :=
  let o := a % 0x10000
  if o = 0x1C then (if v.testBit 0 then s.injGo else s)
  else if 0x1000 ≤ o ∧ o % 0x1000 = 0x18 then (if v.testBit 0 then s.popNote (o / 0x1000 - 1) else s)
  else s.rawN a v

/-- A write to a command page: CMD_BUF, GO and the completion tail (R115, R119). -/
def State.writeSec (s : State) (a v : Nat) : State :=
  let o := a % 0x10000
  let n := o / 0x1000 - 1
  if o < 0x1000 then s
  else match o % 0x1000 with
  | 0x100 =>
    if v.testBit 0 then s.halvik n ((List.range 64).map (fun k => s.word (R.SECn_CMD_BUF.WORD n k))) 0 else s
  | 0x10C => s.setTail n (v % 8)
  | _ => s.rawN a v

/-- Whether HIF_STAGE may take a word: at most four banks, all of them BAY0's (R840, R848). -/
def State.stageOk (s : State) (v : Nat) : Bool :=
  decide (v / 256 % 8 ≤ 4) && (List.range (v / 256 % 8)).all (fun k => s.ownBank (v % 32 + k) == some 0)

def State.writeHif (s : State) (a v : Nat) : State :=
  match a % 0x10000 with
  | 0x08 => if s.stageOk v then s.rawN a v else s
  | 0x10 => s.modHif (fun h => { h with spiDdb := some v })
  | 0x18 => s.pcieDdb v
  | 0x20 =>
    let t := s.rawN a v
    if v.testBit 0 then t else t.pcieLink false 0 0
  | 0x40 => s.rawN a v (if s.on R.HIF_QSPI_CFG.XIP_EN then 0xFFFFFF else 0)
  | 0x44 => s.qspiCmd (BitVec.ofNat 32 v)
  | _ => s.rawN a v

/-- Whether a pin's interrupt is a level that holds (R834). -/
def State.levelHolds (s : State) (p : Nat) : Bool :=
  let m := s.get (R.GPIOp_CFG.IRQ_MODE p)
  let v := s.on (R.PINp_ACTIVE.LEVEL p)
  s.get (R.PINp_ACTIVE.FUNC p) == 0 && ((m == 4 && v) || (m == 5 && !v))

/-- A write to GPIO: bank bits act for the pins that the writer's bay owns; a level interrupt stays pending while its level
holds (R834, R847). -/
def State.writeGpio (s : State) (i : Init) (a v : Nat) : State :=
  let o := a % 0x10000
  let k := o / 0x20
  let own := s.bankMask i.bay k
  if o < 0x80 then
    match o % 0x20 with
    | 0x04 => s.gpioOut k own v
    | 0x08 => s.gpioOut k (v &&& own) 0xFFFFFFFF
    | 0x0C => s.gpioOut k (v &&& own) 0
    | 0x10 => (s.rawN a v (0xFFFFFFFF - own)).forEach (indices 32 (fun j => own.testBit j)) (fun j t =>
      if t.on (R.GPIOp_CFG.BIND_OUT (32 * k + j)) then t else t.driveGpio (32 * k + j))
    | 0x14 => s.rawN a (v &&& own &&& (indices 32 (fun j => !(s.levelHolds (32 * k + j)))).foldl setBit 0)
    | _ => s
  else if o < 0x1000 then
    let p := (o - 0x100) / 4
    let t := s.rawN a v
    if t.levelHolds p then t.setB (R.GPIO_PENDk.PEND (p / 32)) (p % 32) else t
  else s.rawN a (s.cio i v)
/-- A permitted register write (R900). -/
def State.regWrite (s : State) (i : Init) (a : Nat) (w : Word) : State :=
  let v := w.toNat
  match (a - 0x40000000) / 0x10000 with
  | 0x00 => s.writeSys a v
  | 0x01 => s.writePin i a v
  | 0x02 => s.writeBay i a v
  | 0x03 => s.writeMbx a v
  | 0x04 => s.writeQmgr a v
  | 0x06 => s.writeTime i a v
  | 0x07 => s.writeQdr i a v
  | 0x08 => s.writeEth 0 a v
  | 0x09 => s.writeEth 1 a v
  | 0x0A => s.writeEth 2 a v
  | 0x0B => s.writeEth 3 a v
  | 0x0C => s.writeCan i a v
  | 0x0D => s.writeSer i a v
  | 0x0E => s.writeReel a v
  | 0x0F => s.writeVdt a v
  | 0x10 => s.writeTrs a v
  | 0x11 => s.writeDrv i 0 a v
  | 0x12 => s.writeDrv i 1 a v
  | 0x13 => s.writeAdc i a v
  | 0x14 => s.writeSdm i a v
  | 0x15 => s.writeSup a v
  | 0x16 => s.writeClp i a v
  | 0x17 => s.writeCap a v
  | 0x18 => s.writeTag i a v
  | 0x19 => s.writeFlt a v
  | 0x1A => s.writeSec a v
  | 0x1B => s.writeHif a v
  | 0x1C => if a % 0x10000 = 0x0C then s.pgCmd (v % 64) (v.testBit 31) else s.rawN a v
  | 0x1D => s.writeGpio i a v
  | _ => s.rawN a v

end Sys2Proof.Machine
end

