-- ==== Sys2Proof/Machine/Instant.lean ====
section
/-! DEFINITION.
Common I/O instants (R444 to R447). -/

namespace Sys2Proof.Machine

/-- Whether a latch of `owner` whose CIO field holds `v` takes part in instant `k` of context `n` (R434, R444, R615). -/
def State.bound (s : State) (n k : Nat) (owner : Option Nat) (v : Nat) : Bool :=
  v.testBit 7 && v % 4 == n && v.testBit (2 + k) && owner == some (s.ctxBay n)

/-- Converters, filters, loop inputs and drive snapshots latch (R445, R659, R702, R711, R766). -/
def State.instantIn (s : State) (n k : Nat) : State :=
  let s := s.forEach (List.range 4) (fun a t => t.forEach (List.range 4) (fun q u =>
    if u.get (R.ADCn_SEQk_CFG.TRIG a q) = 2 ∧ u.bound n k (u.ownPeriph (26 + a)) (u.get (R.ADCn_SEQk_CTRL.CIO a q)) then
      u.seqTrigger a q else u))
  let s := s.forEach (List.range 8) (fun m t =>
    if t.bound n k (t.ownPeriph (30 + m)) (t.get (R.SDMn_CIO.CIO m)) then t.sdmLatch m else t)
  let s := s.forEach (List.range 2) (fun m t =>
    if t.bound n k (t.ownPeriph 7) (t.get (R.CLIm_CIO.CIO m)) then t.cliInstant m else t)
  s.forEach (List.range 2) (fun d t =>
    if t.bound n k (t.ownPeriph (24 + d)) (t.get (R.DRVn_CIO.CIO_SNAP d)) then t.drvSnap d else t)

/-- Drive shadows, loop setpoints, GPIO outputs and inputs, and armed pin commits (R445, R662, R760, R831, R834). -/
def State.instantOut (s : State) (n k : Nat) : State :=
  let s := s.forEach (List.range 2) (fun d t =>
    if t.bound n k (t.ownPeriph (24 + d)) (t.get (R.DRVn_CIO.CIO_REF d)) then t.takeRefs d else t)
  let s := s.forEach (List.range 2) (fun m t =>
    if t.bound n k (t.ownPeriph 7) (t.get (R.CLOn_CIO.CIO m)) then t.cloInstant m else t)
  let b := s.ctxBay n
  let s := if s.bound n k (some b) (s.get (R.GPIOb_CIO.CIO b)) then s.gpioInstant b else s
  if s.on (R.PINb_COMMIT.ARMED b) && s.bound n k (some b) (s.get (R.PINb_CIO.CIO b)) then s.commitBay b else s

/-- Instant `k` of the current cycle of context `n`, where that cycle defines it and the bay runs (R444, R447, R457,
R460). -/
def State.instant (s : State) (n k : Nat) : State :=
  match s.ctx n with
  | none => s
  | some x =>
    let c := s.get (R.QDRn_POS.CYCLE n)
    if s.on (R.QDRn_POS.RUNNING n) = false ∨
        x.mat.insts.any (fun r => C.QDRS2.CYCLE r == c && C.QDRS2.INST r == k) = false then s
    else
      let s := ((s.put (R.QDRn_INST_STAMP.STAMP n) s.stamp).put (R.QDRn_INST_ID.INST n) k).put (R.QDRn_INST_ID.CYCLE n) c
      if s.live (s.ctxBay n) then (s.instantIn n k).instantOut n k else s

/-- COMMON_IO_INSTANT. -/
def execCommonIoInstant (n k : Nat) (s : State) : Host.Outcome State Fault Refusal := answer (s.instant n k)

end Sys2Proof.Machine
end

