-- ==== Sys2Proof/Machine/Bus.lean ====
section
/-! DEFINITION.
The fabric: what an access of any initiator to any address does and how it ends, the bandwidth wheel, and requests that
arrive from other members (R6, R9, R134, R138, R142 to R145, R207 to R213, R222, R611, R612, R843, R844). -/

namespace Sys2Proof.Machine

/-- How an access ends: with its data, with the error of R138, as a request to another member, or held. -/
inductive BusEnd where
  | ok (d : List Byte)
  | err
  | sent
  | held
  deriving DecidableEq, Repr

/-- An access: its initiator and address, the bytes it reads, or writes; the ECC errors that its reads find, the answer of
PCIe host memory, and the core that waits for it. -/
structure Access where
  by_ : Init
  addr : Nat
  len : Nat
  data : Option (List Byte)
  ecc : List (Nat × Nat)
  host : Option (List Byte)
  core : Option CoreWait

def Access.wr (x : Access) : Bool := x.data.isSome

/-- The sizes that the fabric accepts, naturally aligned (R210). -/
def sizeOk (a n : Nat) : Bool := ([1, 2, 4, 8, 16, 32, 64] : List Nat).contains n && a % n == 0

/-- A refused access: recorded against the bay of this member that issued it, under 0x0C04 where its request came back from
another member; a request of another member's bay is recorded there (R139, R612). -/
def State.shutOut (s : State) (x : Access) (cause : Nat) : State × BusEnd :=
  (if fromAfar x.by_ then s else s.barred x.by_ (if x.by_.kind = 5 then 0x0C04 else cause) x.addr x.wr, .err)

/-- A write acknowledged, or data read. -/
def Access.ends (x : Access) (d : List Byte) : BusEnd := if x.wr then .ok [] else .ok d

/-! ### Targets -/

/-- A register (R6, R9, R208). -/
def State.accReg (s : State) (x : Access) (a : Nat) : State × BusEnd :=
  if x.len ≠ 4 ∨ a % 4 ≠ 0 then (s, .err)
  else
    match s.regRight x.by_ x.wr a with
    | .may =>
      match x.data with
      | some d => (s.regWrite x.by_ a (BitVec.ofNat 32 (leAt d 0 4)), .ok [])
      | none =>
        let t := s.regRead x.by_ a
        (t, .ok (toLE 4 (t.answer.headD 0).toNat))
    | .mute => (s, x.ends (List.replicate 4 0))
    | .shut c => s.shutOut x c
    | .nothing => s.shutOut x 0x180A

/-- The ECC errors that a read of memory finds, in order (R211, R212). -/
def State.eccAll (s : State) (a : Nat) (l : List (Nat × Nat)) : State :=
  s.forEach l (fun e t => t.eccFound (a + 8 * e.1) e.2)

/-- Shared SRAM and Reel local memory (R209 to R213): a read, and a write narrower than a word, ends in error where a word
is poisoned.  An engine reaches its own local memory whole. -/
def State.accRam (s : State) (x : Access) (a : Nat) : State × BusEnd :=
  let mine : Bool := match regionOf a with | .rlm n => x.by_.kind == 1 && x.by_.inst == n && s.ownReel n == some x.by_.bay | _ => false
  if fromAfar x.by_ ∨ (mine = false ∧ s.bufOk x.by_.bay x.wr a x.len = false) then s.shutOut x 0x0C01
  else
    let reads := !x.wr || decide (x.len < 8)
    let old := reads && s.poisoned a x.len
    let s := if reads then s.eccAll a x.ecc else s
    if old then (s.eccFound a 2, .err)
    else if reads && s.poisoned a x.len then (s, .err)
    else
      match x.data with
      | some d => (s.writeBuf a (d.take x.len), .ok [])
      | none => (s, .ok (s.readMem a x.len))

/-- The NVM read window (R134, R222, R238). -/
def State.accNvm (s : State) (x : Access) (a : Nat) : State × BusEnd :=
  if isBay x.by_ 0 = false then s.shutOut x 0x0C01
  else if x.wr then (s, .err)
  else
    let o := a - 0x18000000
    let s := s.forEach x.ecc (fun e t =>
      t.report 0 (if e.2 = 1 then 0x6401 else 0x6402) ((o / 8 + e.1) * 256) (o / 8 * 8 + 8 * e.1))
    if x.ecc.any (fun e => e.2 != 1) then (s, .err) else (s, .ok (s.readMem a x.len))

/-- The XIP window (R134, R844): a running QSPI command holds its reads. -/
def State.accXip (s : State) (x : Access) (a : Nat) : State × BusEnd :=
  if x.wr ∨ fromAfar x.by_ ∨ s.coresOf x.by_.bay = [] then s.shutOut x 0x0C01
  else if s.on R.HIF_QSPI_CFG.XIP_EN = false then (s, .err)
  else if s.on R.HIF_QSPI_STAT.BUSY then (s, .held)
  else (s, .ok (s.readMem a x.len))

/-- The PCIe outbound window (R843). -/
def State.accPcie (s : State) (x : Access) : State × BusEnd :=
  if isBay x.by_ 0 = false then s.shutOut x 0x0C02
  else if s.on R.HIF_PCIE_STAT.LINK_UP = false then (s, .err)
  else match x.host with
  | some d => (s, x.ends (d.take x.len))
  | none => (s, .err)

/-- An address of this member other than a member window. -/
def State.accHere (s : State) (x : Access) (a : Nat) : State × BusEnd :=
  if sizeOk a x.len = false then (s, .err)
  else
    match regionOf a with
    | .bootRom => s.shutOut x 0x0C01
    | .bank _ => s.accRam x a
    | .rlm _ => s.accRam x a
    | .nvm => s.accNvm x a
    | .xip => s.accXip x a
    | .periph => s.accReg x a
    | .pcie => s.accPcie x
    | .member _ => s.shutOut x 0x180A
    | .unmapped => s.shutOut x 0x180A

/-- A member window: the own one reaches the local address, another one becomes a request (R603, R610, R611). -/
def State.accMember (s : State) (x : Access) (m : Nat) : State × BusEnd :=
  let o := x.addr % 0x8000000
  if fromAfar x.by_ then (s, .err)
  else if m = s.pos then
    match windowAddr o with
    | some a => s.accHere x a
    | none => s.shutOut x 0x180A
  else if sizeOk o x.len = false then (s, .err)
  else if s.reach m = false then (s.inc R.TRS_FAILS.UNKNOWN, .err)
  else
    let rest := toBE 1 (Nat.log2 x.len) ++ toBE 4 o
    match x.data with
    | some d => (s.trsRequest m (.access x.by_ true x.addr x.core) 0x22 (x.by_.bay + 8 * s.pos) (rest ++ padBlocks (d.take x.len)), .sent)
    | none => (s.trsRequest m (.access x.by_ false x.addr x.core) 0x20 (x.by_.bay + 8 * s.pos) rest, .sent)

/-- An access and how it ends; the initiator's error is the caller's to deliver. -/
def State.access (s : State) (x : Access) : State × BusEnd :=
  match regionOf x.addr with
  | .member m => s.accMember x m
  | _ => s.accHere x x.addr

/-- An access with the error of R138 delivered to its initiator, and data that it reads answered. -/
def State.accessBy (s : State) (x : Access) : State :=
  match s.access x with
  | (t, .ok d) => if x.wr then t else t.reply ((List.range ((d.length + 3) / 4)).map (fun k => BitVec.ofNat 32 (leAt d (4 * k) 4)))
  | (t, .err) => t.busError x.by_ x.wr x.addr
  | (t, _) => t

/-! ### The bandwidth wheel (R142 to R145) -/

/-- The bay number under which a transfer competes; transfers of other members, 8, have share 0 (R612). -/
def slotLane (x : Xfer) : Nat := if x.by_.kind = 5 then 8 else x.by_.bay % 8

/-- Which transfer a slot at a position serves, and whether on the bay's own position (R144). -/
def State.slotPick (s : State) (pos : Nat) (pend : List Xfer) : Option (Xfer × Bool) :=
  let own := s.bay.wheel.getD (pos % 64) 8
  match pend.find? (fun x => own < 8 && slotLane x == own) with
  | some x => some (x, true)
  | none =>
    match ((List.range 9).map (fun k => (s.bay.rr + 1 + k) % 9)).findSome? (fun b => pend.find? (fun x => slotLane x == b)) with
    | some x => some (x, false)
    | none => none

/-- The slot counters of a bay (R161). -/
def State.slotCount (s : State) (x : Xfer) (own : Bool) : State :=
  let b := slotLane x
  if 8 ≤ b then s
  else
    let s := if own then s.inc (R.BAYn_SLOT_USED.COUNT b) else s.inc (R.BAYn_SLOT_SLACK.COUNT b)
    s.put (R.BAYn_SLOT_WAIT.MAX b) (max (s.get (R.BAYn_SLOT_WAIT.MAX b)) (min 0xFFFF x.waited))

/-- What the transfer does. -/
def State.transfer (s : State) (x : Xfer) : State :=
  match x.op with
  | .read n => s.accessBy ⟨x.by_, x.addr, n, none, x.ecc, x.host, none⟩
  | .write d => s.accessBy ⟨x.by_, x.addr, d.length, some d, x.ecc, x.host, none⟩
  | .copy q e idx => s.commitCopy q e idx
  | .writeBack =>
    { s with memx := { s.memx with dirty := s.memx.dirty.filter (fun l => !(l.bay == x.by_.bay && l.addr == x.addr / 64 * 64)) } }
  | .counted => s

/-- FABRIC_TRANSFER: the slot at wheel position `pos` serves one of the transfers that are pending.  A bay that does not run
issues none (R155). -/
def State.fabricSlot (s : State) (pos : Nat) (pend : List Xfer) : State :=
  match s.slotPick pos (pend.filter (fun x => x.by_.kind == 5 || s.live x.by_.bay)) with
  | none => s
  | some (x, own) =>
    let s := if own then s else { s with bay := { s.bay with rr := slotLane x } }
    (s.slotCount x own).transfer x

def execFabricTransfer (pos : Nat) (pend : List Xfer) (s : State) : Host.Outcome State Fault Refusal :=
  answer (if s.clocked then s.fabricSlot pos pend else s)

/-! ### Register writes (R900) -/

/-- A write of the PCIe host to its command page in BAR0: CMD_BUF, GO, CPL_IRQ_EN, CPL_TAIL (R117, R842). -/
def State.hostWrite (s : State) (o : Nat) (w : Word) : State :=
  let x := s.hif.pcie
  if o < 0x100 then (if o % 4 = 0 then s.modHost 9 (fun c => { c with buf := SMap.set 0#32 c.buf (o / 4) w }) else s)
  else match o with
  | 0x100 => if w.toNat.testBit 0 then s.halvik 9 ((List.range 64).map (fun k => SMap.get 0#32 x.buf k)) 0 else s
  | 0x104 => s.modHost 9 (fun c => { c with irqEn := w.toNat.testBit 2 })
  | 0x10C => s.setTail 9 (w.toNat % 8)
  | 0x1008 => (s.put R.HIF_PCIE_HDB.WORD w.toNat).flag R.HIF_IRQ_PEND.PCIE_HDB true
  | _ => s

/-- REGISTER_WRITE: a 32-bit write to a register.  INIT 7 is the PCIe host, with an offset in BAR0 (R842). -/
def execRegisterWrite (by_ : Init) (a : Nat) (w : Word) (s : State) : Host.Outcome State Fault Refusal :=
  answer (if by_.kind = 7 then
    (if s.pcieUp then s.hostWrite a w else s)
  else if fromAfar by_ || s.live by_.bay then s.accessBy ⟨by_, a, 4, some (toLE 4 w.toNat), [], none, none⟩ else s)

/-! ### Requests from other members (R603, R609, R612) -/

/-- The initiator that a HOME byte names: a bay of this member, or of the member one less than INST. -/
def State.homeInit (s : State) (home : Nat) : Init := ⟨home % 8, 5, if home / 8 % 8 = s.pos then 0 else home / 8 % 8 + 1⟩

/-- A request executed once, if it is newer than the last one of its source: STATUS and data. -/
def State.remote (s : State) (src eseq home size off : Nat) (wr : Option (List Byte)) (ecc : List (Nat × Nat)) :
    State × Nat × List Byte :=
  if s.eseqNew src eseq = false then (s, 4, [])
  else
    let s := s.eseqDone src eseq
    let i := s.homeInit home
    let x : Access := ⟨i, (windowAddr off).getD 0xFFFFFFFF, 2 ^ size, wr, ecc, none, none⟩
    match s.accHere x x.addr with
    | (t, .ok d) => (t, 0, d)
    | (t, _) => (t, 1, [])

/-- TRS_RD. -/
def execTrsRd (l q src dst eseq home size off : Nat) (ecc : List (Nat × Nat)) (s : State) : Host.Outcome State Fault Refusal :=
  let data := toBE 2 eseq ++ toBE 1 home ++ toBE 1 size ++ toBE 4 off
  answer (s.trsTo l q src dst 0x20 data (fun t =>
    match t.remote src eseq home size off none ecc with
    | (u, st, d) => u.trsSend src ⟨0x21, 0, trsB7 u.pos src,
        toBE 2 eseq ++ toBE 1 home ++ toBE 1 st ++ List.replicate 4 0 ++ padBlocks d, 5⟩))

/-- TRS_WR. -/
def execTrsWr (l q src dst eseq home size off : Nat) (d : List Byte) (s : State) : Host.Outcome State Fault Refusal :=
  let data := toBE 2 eseq ++ toBE 1 home ++ toBE 1 size ++ toBE 4 off ++ padBlocks d
  answer (s.trsTo l q src dst 0x22 data (fun t =>
    match t.remote src eseq home size off (some (d.take (2 ^ size))) [] with
    | (u, st, _) => u.trsAnswer src eseq home st))

end Sys2Proof.Machine
end

