-- ==== Sys2Proof/Machine/Csr.lean ====
section
/-! DEFINITION.
Control and status registers of a hart: those of the privileged specification that R276 names, with the values R276 gives,
and the device-specific ones of R287. -/

namespace Sys2Proof.Machine

/-- Replace the bits of `mask` in `old` by those of `v`. -/
def mixBits (old mask v : Nat) : Nat := andNot old mask ||| (v &&& mask)

/-! ### What a CSR reads -/

/-- MBAYID of a core: owning bay, core number, lockstep (R287). -/
def State.mbayid (s : State) (c : Nat) : Nat := (s.ownCore c).getD 0 + 16 * (c % 4) + 256 * b2n (s.lockstep c)

/-- The MSIP bits of the cores of a hart's bay (R283, R287). -/
def State.msipBits (s : State) (c : Nat) : Nat :=
  (indices 4 (fun d => s.ownCore d == s.ownCore c && (s.coreAt (s.hartOf d)).msip)).foldl setBit 0

/-- Whether the bay external interrupt reaches a core (R281). -/
def State.extAt (s : State) (c : Nat) : Bool :=
  match s.ownCore c with
  | some b => s.bayIrq b && (s.get (R.BAYn_IRQ_CORE.CORES b)).testBit c
  | none => false

/-- mip: the pending bits of the four sources, and the bits of S-mode that software sets (R281). -/
def State.mip (s : State) (c : Nat) : Nat :=
  let x := s.coreAt c
  (x.csrGet 0x344 &&& 0x222) ||| 8 * b2n x.msip ||| 128 * b2n (decide (x.mtimecmp ≤ s.now)) |||
  (if s.extAt c then (if x.extToS then 512 else 2048) else 0)

def csrStatusMask : Nat := 0x7E79AA
def csrSstatusMask : Nat := 0xC6122

/-- mstatus with its fixed fields: 64-bit S- and U-mode, and SD. -/
def Core.mstatus (x : Core) : Nat :=
  (x.csrGet csrMstatus &&& csrStatusMask) + 0xA00000000 + (if x.csrGet csrMstatus / 8192 % 4 = 3 then 2 ^ 63 else 0)

/-- Bits 3 to 0 of a PMP address at granularity 64 bytes: 0 with OFF and TOR, ones below the lowest with NAPOT (R276). -/
def Core.pmpaddr (x : Core) (n : Nat) : Nat :=
  let cfg := x.csrGet (0x3A0 + n / 8 * 2) / 256 ^ (n % 8) % 256
  let v := x.csrGet (0x3B0 + n)
  if 2 ≤ cfg / 8 % 4 then v ||| 7 else v / 16 * 16

/-- The value that a CSR reads on hart `c` (R276, R278, R287). -/
def State.csrRead (s : State) (c a : Nat) : Nat :=
  let x := s.coreAt c
  match a with
  | 0x001 => x.csrGet 0x003 % 32
  | 0x002 => x.csrGet 0x003 / 32 % 8
  | 0x003 => x.csrGet 0x003 % 256
  | 0x100 => x.mstatus &&& (csrSstatusMask + 0x200000000 + 2 ^ 63)
  | 0x104 => x.csrGet 0x304 &&& x.csrGet csrMideleg
  | 0x144 => s.mip c &&& x.csrGet csrMideleg
  | 0x300 => x.mstatus
  | 0x301 => 0x800000000014112D
  | 0x344 => s.mip c
  | 0x7C0 => x.mtimecmp
  | 0x7C1 => 0
  | 0x7C2 => x.mfinj
  | 0x7C3 => b2n x.extToS
  | 0x7C4 => s.msipBits c
  | 0xB00 => x.mcycle
  | 0xB02 => x.minstret
  | 0xC00 => x.mcycle
  | 0xC01 => s.now % 2 ^ 64
  | 0xC02 => x.minstret
  | 0xC03 => x.csrGet 0xB03
  | 0xC04 => x.csrGet 0xB04
  | 0xC05 => x.csrGet 0xB05
  | 0xC06 => x.csrGet 0xB06
  | 0xDC0 => s.mbayid c
  | 0xF11 => 0
  | 0xF12 => 0
  | 0xF13 => 0x0000000092600B01
  | 0xF14 => c
  | 0xF15 => 0
  | 0xFC0 => s.mbayid c
  | 0xFC1 => x.stlCyc
  | 0xFC2 => x.stlTime
  | 0xFC3 => x.mfinjst
  | _ => if 0x3B0 ≤ a ∧ a < 0x3C0 then x.pmpaddr (a - 0x3B0) else x.csrGet a

/-- Whether a CSR exists on these cores (R276, R287). -/
def csrKnown (a : Nat) : Bool :=
  ([0x001, 0x002, 0x003, 0x100, 0x104, 0x105, 0x106, 0x10A, 0x140, 0x141, 0x142, 0x143, 0x144, 0x180,
    0x300, 0x301, 0x302, 0x303, 0x304, 0x305, 0x306, 0x30A, 0x320, 0x340, 0x341, 0x342, 0x343, 0x344, 0x3A0, 0x3A2,
    0x7A0, 0x7A1, 0x7A2, 0x7C0, 0x7C1, 0x7C2, 0x7C3, 0x7C4, 0xB00, 0xB02, 0xC00, 0xC01, 0xC02, 0xDC0,
    0xF11, 0xF12, 0xF13, 0xF14, 0xF15, 0xFC0, 0xFC1, 0xFC2, 0xFC3] : List Nat).contains a ||
  (decide (0x323 ≤ a) && decide (a < 0x340)) || (decide (0x3B0 ≤ a) && decide (a < 0x3C0)) ||
  (decide (0xB03 ≤ a) && decide (a < 0xB20)) || (decide (0xC03 ≤ a) && decide (a < 0xC20))

/-- Whether the hart's mode may access a CSR, to write it or to read it (R278, R287; the address gives the mode and, at
0xC00 and above, that it is read-only). -/
def Core.csrMay (x : Core) (a : Nat) (wr : Bool) : Bool :=
  csrKnown a && decide (a / 256 % 4 ≤ x.mode) && !(wr && a / 1024 == 3) &&
  (if 0xC00 ≤ a ∧ a < 0xC20 then
     (x.mode == 3 || (x.csrGet 0x306).testBit (a - 0xC00)) && (x.mode != 0 || (x.csrGet 0x106).testBit (a - 0xC00))
   else true) &&
  !(a == 0x180 && x.mode == 1 && (x.csrGet csrMstatus).testBit 20)

/-! ### What a CSR write does -/

/-- A write of mstatus through a mask; MPP takes no reserved mode. -/
def Core.putStatus (x : Core) (mask v : Nat) : Core :=
  let old := x.csrGet csrMstatus
  let n := mixBits old mask v
  x.csrPut csrMstatus (if n / 2048 % 4 = 2 then putBits n 11 2 (old / 2048) else n)

/-- A PMP configuration byte: locked ones stay, NA4 is not selectable (R276). -/
def pmpByte (old v : Nat) : Nat :=
  if old.testBit 7 then old
  else
    let v := v &&& 0x9F
    if v / 8 % 4 = 2 then putBits v 3 2 (old / 8) else v

def pmpBytes (old v : Nat) : Nat :=
  ((List.range 8).map (fun k => pmpByte (old / 256 ^ k % 256) (v / 256 ^ k % 256) * 256 ^ k)).foldl (· + ·) 0

/-- The next-higher entry with TOR, or the entry itself, locks a PMP address. -/
def Core.pmpLocked (x : Core) (n : Nat) : Bool :=
  let cfg := fun k => x.csrGet (0x3A0 + k / 8 * 2) / 256 ^ (k % 8) % 256
  (cfg n).testBit 7 || (n < 15 && (cfg (n + 1)).testBit 7 && cfg (n + 1) / 8 % 4 == 1)

/-- MIPI: MSIP of each core that the writer's bay owns (R283, R287). -/
def State.mipi (s : State) (c v : Nat) : State :=
  s.forEach (indices 4 (fun d => s.ownCore d == s.ownCore c && s.hartOf d == d)) (fun d t =>
    t.modCore d (fun x => { x with msip := v.testBit d }))

/-- MSTLATCH: mcycle and steady time of one FAB_CLK edge (R287). -/
def State.mstlatch (s : State) (c v : Nat) : State :=
  if v.testBit 0 then s.modCore c (fun x => { x with stlCyc := x.mcycle, stlTime := s.now % 2 ^ 64 }) else s

/-- MFINJ: CAUSE, MODE and RESOURCE are kept; GO starts the injection, limited to the bay's own resources (R287, R288). -/
def State.mfinj (s : State) (c v : Nat) : State :=
  let s := s.modCore c (fun x => { x with mfinj := v &&& 0xFFFFFFFF0003FFFF })
  if v.testBit 31 then
    let s := s.modCore c (fun x => { x with mfinjst := 0 })
    match s.ownCore c with
    | none => s
    | some b =>
      let mode := v / 65536 % 4
      let (t, res) := s.inject c (v % 65536) (v / 4294967296 % 4294967296) mode (some b)
      if res ≠ 0 then t.modCore c (fun x => { x with mfinjst := 3 + 256 * res })
      else if mode = 2 then t.modCore c (fun x => { x with mfinjst := 1 }) else t
  else s

/-- A write to a CSR of a hart that may make it. -/
def State.csrWrite (s : State) (c a w : Nat) : State :=
  let v := w % 2 ^ 64
  let set : (Core → Core) → State := s.modCore c
  match a with
  | 0x001 => set (fun x => x.csrPut 0x003 (mixBits (x.csrGet 0x003) 0x1F v))
  | 0x002 => set (fun x => x.csrPut 0x003 (mixBits (x.csrGet 0x003) 0xE0 (32 * v)))
  | 0x003 => set (fun x => x.csrPut 0x003 (v % 256))
  | 0x100 => set (fun x => x.putStatus csrSstatusMask v)
  | 0x104 => set (fun x => x.csrPut 0x304 (mixBits (x.csrGet 0x304) (x.csrGet csrMideleg) v))
  | 0x105 => set (fun x => x.csrPut a (andNot v 2))
  | 0x141 => set (fun x => x.csrPut a (andNot v 1))
  | 0x144 => set (fun x => x.csrPut 0x344 (mixBits (x.csrGet 0x344) (x.csrGet csrMideleg &&& 2) v))
  | 0x180 => if v / 2 ^ 60 = 0 ∨ v / 2 ^ 60 = 8 then set (fun x => x.csrPut a v) else s
  | 0x300 => set (fun x => x.putStatus csrStatusMask v)
  | 0x301 => s
  | 0x302 => set (fun x => x.csrPut a (v &&& 0xB3FF))
  | 0x303 => set (fun x => x.csrPut a (v &&& 0x222))
  | 0x304 => set (fun x => x.csrPut a (v &&& 0xAAA))
  | 0x305 => set (fun x => x.csrPut a (andNot v 2))
  | 0x320 => set (fun x => x.csrPut a (v &&& 0x7D))
  | 0x341 => set (fun x => x.csrPut a (andNot v 1))
  | 0x344 => set (fun x => x.csrPut a (v &&& 0x222))
  | 0x3A0 => set (fun x => x.csrPut a (pmpBytes (x.csrGet a) v))
  | 0x3A2 => set (fun x => x.csrPut a (pmpBytes (x.csrGet a) v))
  | 0x7C0 => set (fun x => { x with mtimecmp := v })
  | 0x7C1 => s.mstlatch c v
  | 0x7C2 => s.mfinj c v
  | 0x7C3 => set (fun x => { x with extToS := v.testBit 0 })
  | 0x7C4 => s.mipi c v
  | 0xB00 => set (fun x => { x with mcycle := v })
  | 0xB02 => set (fun x => { x with minstret := v })
  | _ =>
    if 0x3B0 ≤ a ∧ a < 0x3C0 then
      set (fun x => if x.pmpLocked (a - 0x3B0) then x else x.csrPut a (v % 2 ^ 54))
    else if 0x323 ≤ a ∧ a < 0x340 then (if a < 0x327 ∧ v ≤ 4 then set (fun x => x.csrPut a v) else s)
    else if 0xB03 ≤ a ∧ a < 0xB20 then (if a < 0xB07 then set (fun x => x.csrPut a v) else s)
    else if 0xC00 ≤ a then s
    else set (fun x => x.csrPut a v)

/-! ### The rows of single CSRs -/

/-- A device-specific CSR is written in M-mode alone; elsewhere the write is an illegal instruction (R287). -/
def State.byMmode (s : State) (c : Nat) (f : State → State) : State :=
  if s.hartRuns c = false then s
  else if (s.coreAt c).mode = 3 then f s
  else s.coreFault c 2 0

/-- MIPI. -/
def execMipi (c v : Nat) (s : State) : Host.Outcome State Fault Refusal := answer (s.byMmode c (fun t => t.mipi c v))

/-- MSTLATCH. -/
def execMstlatch (c v : Nat) (s : State) : Host.Outcome State Fault Refusal := answer (s.byMmode c (fun t => t.mstlatch c v))

/-- MFINJ. -/
def execMfinj (c v : Nat) (s : State) : Host.Outcome State Fault Refusal := answer (s.byMmode c (fun t => t.mfinj c v))

/-- MTIMECMP_REACHED: MTIP is a level of steady time, so it pends by itself; it ends the wait of WFI (R281). -/
def execMtimecmpReached (c : Nat) (s : State) : Host.Outcome State Fault Refusal :=
  answer (if (s.coreAt (s.hartOf c)).mtimecmp ≤ s.now ∧ (s.ownCore c).isSome then
    s.modCore (s.hartOf c) (fun x => { x with wfi := false }) else s)

end Sys2Proof.Machine
end

