-- ==== Sys2Proof/Machine/Cores.lean ====
section
/-! DEFINITION.
An application core retires an instruction: its fetch, its register results, its access, its CSR, its trap (R276 to R288,
R306).  Decoding, arithmetic, Sv39 and PMP are the RISC-V standard's: what they give is the operand. -/

namespace Sys2Proof.Machine

/-- A register of a core: 0 to 31 x, 32 to 63 f. -/
def Core.reg (x : Core) (r : Nat) : Nat := if r < 32 then (SMap.get 0#64 x.x r).toNat else (SMap.get 0#64 x.f (r - 32)).toNat

/-- A register written; x0 stays 0. -/
def Core.setReg (x : Core) (r v : Nat) : Core :=
  if r = 0 then x
  else if r < 32 then { x with x := SMap.set 0#64 x.x r (BitVec.ofNat 64 v) }
  else { x with f := SMap.set 0#64 x.f (r - 32) (BitVec.ofNat 64 v) }

/-- The value of `n` loaded bytes in a register; a narrower f value is boxed in ones. -/
def loaded (dst n : Nat) (sext : Bool) (v : Nat) : Nat :=
  if 32 ≤ dst then (if n < 8 then v + (2 ^ 64 - 2 ^ (8 * n)) else v)
  else if sext then wrapInt 64 (Sys2Proof.signed (8 * n) v) else v

/-- What an instruction runs as: the hart, the identity of its accesses, and whether it runs from the program buffer. -/
structure Ctxt where
  hart : Nat
  by_ : Init
  debug : Bool

/-- How an instruction ends: it retires, it raises an exception, or it waits. -/
inductive Ends where
  | retire
  | fault (cause tval : Nat)
  | wait
  deriving DecidableEq, Repr

/-! ### Fetch (R134, R277, R280) -/

/-- Whether an instruction may be fetched from a physical address: none where it may, otherwise the state with what is
recorded. -/
def State.fetchBad (s : State) (x : Ctxt) (a : Nat) : Option State :=
  let barred := fun c => some (s.barred x.by_ c a false)
  match regionOf a with
  | .bank _ => if s.mayTouch x.by_.bay false a = false then barred 0x0C01
      else if s.poisoned a 2 then some (s.eccFound a 2) else none
  | .xip => if s.mayTouch x.by_.bay false a then (if s.on R.HIF_QSPI_CFG.XIP_EN then none else some s) else barred 0x0C01
  | .bootRom => barred 0x0C01
  | .unmapped => barred 0x180A
  | .pcie => some s
  | .rlm _ => some s
  | .nvm => some s
  | .periph => some s
  | .member _ => some s

/-! ### Accesses (R279, R280) -/

/-- Whether LR, SC and AMO are allowed at a physical address: in banks (R280). -/
def atomicOk (a : Nat) : Bool := match regionOf a with | .bank _ => true | _ => false

def Ctxt.access (x : Ctxt) (i : CoreStep) (a n : Nat) (d : Option (List Byte)) (w : Option CoreWait) : Access :=
  ⟨x.by_, a, n, d, i.ecc, i.host, w⟩

/-- The line of a cached store becomes dirty in L2, with what the bank held before; a mirror region writes through (R214,
R280). -/
def State.dirtied (s old : State) (b a : Nat) : State :=
  let line := a / 64 * 64
  if atomicOk a = false ∨ (old.mirrorAt b a).isSome then s
  else
    let was := match old.memx.dirty.find? (fun d => d.addr == line) with
      | some d => d.old
      | none => old.bytes line 64
    { s with memx := { s.memx with dirty := s.memx.dirty ++ [⟨b, line, was⟩] } }

/-- A load of `n` bytes into a register. -/
def State.coreLoad (s : State) (x : Ctxt) (i : CoreStep) (dst n : Nat) (sext : Bool) (va pa : Nat) : State × Ends :=
  if va % n ≠ 0 then (s, .fault 4 va)
  else
    let next := if x.debug then (s.coreAt x.hart).pc else i.next
    match s.access (x.access i pa n none (some ⟨some dst, n, sext, next⟩)) with
    | (t, .ok d) => (t.modCore x.hart (fun c => c.setReg dst (loaded dst n sext (leAt d 0 n))), .retire)
    | (t, .err) => (t, .fault 5 va)
    | (t, _) => (t, .wait)

/-- A store of `n` bytes. -/
def State.coreStore (s : State) (x : Ctxt) (i : CoreStep) (n v va pa : Nat) : State × Ends :=
  if va % n ≠ 0 then (s, .fault 6 va)
  else
    let next := if x.debug then (s.coreAt x.hart).pc else i.next
    match s.access (x.access i pa n (some (toLE n v)) (some ⟨none, n, false, next⟩)) with
    | (t, .ok _) => (t.dirtied s x.by_.bay pa, .retire)
    | (t, .err) => (t, .fault 7 va)
    | (t, _) => (t, .wait)

/-- The result of an AMO on values of `n` bytes. -/
def amoOf (op n old v : Nat) : Nat :=
  let w := 8 * n
  let so := Sys2Proof.signed w old
  let sv := Sys2Proof.signed w v
  let v := v % 2 ^ w
  match op with
  | 0 => v
  | 1 => (old + v) % 2 ^ w
  | 2 => old ^^^ v
  | 3 => old &&& v
  | 4 => old ||| v
  | 5 => if so ≤ sv then old else v
  | 6 => if so ≤ sv then v else old
  | 7 => min old v
  | _ => max old v

def State.coreLr (s : State) (x : Ctxt) (i : CoreStep) (dst n va pa : Nat) : State × Ends :=
  if va % n ≠ 0 then (s, .fault 4 va)
  else if atomicOk pa = false then (s, .fault 5 va)
  else
    match s.coreLoad x i dst n true va pa with
    | (t, .retire) => (t.modCore x.hart (fun c => { c with resv := some (pa / 64 * 64) }), .retire)
    | r => r

/-- SC succeeds while the reservation of its line stands, and ends it. -/
def State.coreSc (s : State) (x : Ctxt) (i : CoreStep) (dst n v va pa : Nat) : State × Ends :=
  if va % n ≠ 0 then (s, .fault 6 va)
  else if atomicOk pa = false then (s, .fault 7 va)
  else
    let ok := (s.coreAt x.hart).resv == some (pa / 64 * 64)
    let s := s.modCore x.hart (fun c => { c with resv := none })
    if ok then
      match s.coreStore x i n v va pa with
      | (t, .retire) => (t.modCore x.hart (fun c => c.setReg dst 0), .retire)
      | r => r
    else (s.modCore x.hart (fun c => c.setReg dst 1), .retire)

def State.coreAmo (s : State) (x : Ctxt) (i : CoreStep) (op dst n v va pa : Nat) : State × Ends :=
  if va % n ≠ 0 then (s, .fault 6 va)
  else if atomicOk pa = false then (s, .fault 7 va)
  else
    match s.access (x.access i pa n none none) with
    | (t, .ok d) =>
      let old := leAt d 0 n
      match t.coreStore x { i with ecc := [] } n (amoOf op n old v) va pa with
      | (u, .retire) => (u.modCore x.hart (fun c => c.setReg dst (loaded dst n true old)), .retire)
      | r => r
    | (t, _) => (t, .fault 7 va)

/-! ### The other instructions -/

/-- A CSR instruction; one that the mode may not make is illegal. -/
def State.coreCsr (s : State) (x : Ctxt) (op a dst v : Nat) : State × Ends :=
  let k := s.coreAt x.hart
  if k.csrMay a (op != 0) = false then (s, .fault 2 0)
  else
    let old := s.csrRead x.hart a
    let s := if op = 0 then s
      else s.csrWrite x.hart a (if op = 1 then v else if op = 2 then old ||| v else andNot old v)
    (s.modCore x.hart (fun c => c.setReg dst old), .retire)

/-- Whether an interrupt is pending, enabled and not masked by the hart's mode. -/
def State.intReady (s : State) (c code : Nat) : Bool :=
  let x := s.coreAt c
  (s.mip c).testBit code && (x.csrGet 0x304).testBit code &&
  (if (x.csrGet csrMideleg).testBit code then x.mode == 0 || (x.mode == 1 && (x.csrGet csrMstatus).testBit 1)
   else x.mode != 3 || (x.csrGet csrMstatus).testBit 3)

/-- The effect of an instruction on everything but the pc and the counters. -/
def State.coreAct (s : State) (x : Ctxt) (i : CoreStep) : State × Ends :=
  match i.act with
  | .compute dst v fl =>
    (s.modCore x.hart (fun c =>
      let c := c.setReg dst v
      let c := if fl % 32 = 0 then c else c.csrPut 0x003 (c.csrGet 0x003 ||| fl % 32)
      if fl % 32 ≠ 0 ∨ 32 ≤ dst then c.csrPut csrMstatus (c.csrGet csrMstatus ||| 0x6000) else c), .retire)
  | .load dst n sext va pa => s.coreLoad x i dst n sext va pa
  | .store n v va pa => s.coreStore x i n v va pa
  | .lr dst n va pa => s.coreLr x i dst n va pa
  | .sc dst n v va pa => s.coreSc x i dst n v va pa
  | .amo op dst n v va pa => s.coreAmo x i op dst n v va pa
  | .csr op a dst v => s.coreCsr x op a dst v
  | .trap cause tval => (s, .fault cause tval)
  | .interrupt _ => (s, .wait)
  | .mret => if (s.coreAt x.hart).mode = 3 ∧ x.debug = false then (s.modCore x.hart Core.mret, .retire) else (s, .fault 2 0)
  | .sret =>
    let c := s.coreAt x.hart
    if 1 ≤ c.mode ∧ x.debug = false ∧ !(c.mode == 1 && (c.csrGet csrMstatus).testBit 22) then (s.modCore x.hart Core.sret, .retire)
    else (s, .fault 2 0)
  | .wfi =>
    let c := s.coreAt x.hart
    if c.mode ≠ 3 ∧ (c.csrGet csrMstatus).testBit 21 then (s, .fault 2 0)
    else if s.coreIrq x.hart ∨ x.debug then (s, .retire)
    else (s.modCore x.hart (fun k => { k with wfi := true }), .retire)
  | .fence => (s, .retire)

/-! ### Debug mode (R289) -/

/-- A trigger that matches, armed for this hart: it halts, or raises a breakpoint exception. -/
def State.triggerHit (s : State) (c k : Nat) : State :=
  let t := SMap.get 0 s.core.triggers (8 * c + 2 * (k % 4))
  if t % 8 = 0 then s
  else if t.testBit 3 then s.haltHart c 2
  else s.coreFault c 3 (s.coreAt c).pc

/-! ### Retirement -/

/-- The counters of the standard and the events of R276; mcountinhibit stops them. -/
def Core.counted (x : Core) (counts : List Nat) (retired : Bool) : Core :=
  let hold := x.csrGet 0x320
  let x := if retired && !(hold.testBit 2) then { x with minstret := (x.minstret + 1) % 2 ^ 64 } else x
  [3, 4, 5, 6].foldl (fun (y : Core) k =>
    let e := y.csrGet (0x320 + k)
    if e = 0 ∨ hold.testBit k then y else y.csrPut (0xB00 + k) (y.csrGet (0xB00 + k) + counts.getD (e - 1) 0)) x

/-- What the parity of L1 and the ECC of L2 report; whether the access is lost with a dirty line (R215, R306). -/
def State.coreErr (s : State) (c : Nat) (e : CoreErr) : State × Bool :=
  let b := ownerOr0 (s.ownCore c)
  match e with
  | .parity data line => (s.report b 0x6002 c (b2n data + 256 * line), false)
  | .l2 kind res detail => (s.report b (if kind = 1 then 0x1808 else 0x1809) res detail, kind == 3)
  | _ => (s, false)

/-- An instruction executed by hart `c`: its fetch, its effect, then the pc, or the exception. -/
def State.coreExec (s : State) (c : Nat) (i : CoreStep) : State :=
  let x : Ctxt := ⟨c, ⟨ownerOr0 (s.ownCore c), 0, c⟩, false⟩
  let (s, lost) := s.coreErr c i.err
  match s.fetchBad x i.fetch with
  | some t => t.coreFault c 1 (s.coreAt c).pc
  | none =>
    if lost then s.coreFault c 5 (s.coreAt c).pc
    else
      match s.coreAct x i with
      | (t, .retire) =>
        let jumps := match i.act with | .mret => true | .sret => true | _ => false
        let t := t.modCore c (fun k => { k.counted i.counts true with pc := if jumps then k.pc else i.next })
        if ((t.coreAt c).csrGet 0x7B0).testBit 2 then t.haltHart c 4 else t
      | (t, .fault cause tval) =>
        let t := (t.modCore c (fun k => k.counted i.counts false)).coreFault c cause tval
        if ((t.coreAt c).csrGet 0x7B0).testBit 2 then t.haltHart c 4 else t
      | (t, .wait) => t

/-- A hart's next instruction, its interrupt, its trigger, or a mismatch of its lockstep pair, whose requests never leave
(R281, R285, R289). -/
def State.coreStep (s : State) (c : Nat) (i : CoreStep) : State :=
  if s.hartRuns c = false then s
  else
    match i.err with
    | .mismatch item => if s.lockstep c then s.report (ownerOr0 (s.ownCore c)) 0x6001 c item else s
    | .trigger k => s.triggerHit c k
    | _ =>
      match i.act with
      | .interrupt code => if s.intReady c code then s.modCore c (fun x => x.trap true code 0) else s
      | _ => (s.modCore c (fun x => { x with wfi := false })).coreExec c i

/-- CORE_INSTRUCTION. -/
def execCoreInstruction (c : Nat) (i : CoreStep) (s : State) : Host.Outcome State Fault Refusal := answer (s.coreStep c i)

end Sys2Proof.Machine
end

