-- ==== Sys2Proof/Machine/Debug.lean ====
section
/-! DEFINITION.
External debug: the debug module, its authentication, and the debug transport (R185, R289 to R291). -/

namespace Sys2Proof.Machine

def State.modDbg (s : State) (f : CorePart → CorePart) : State := { s with core := f s.core }

/-- SYS DEBUG 1: only dmstatus and IDCODE answer (R291). -/
def State.debugShut (s : State) : Bool := C.SYS0.DEBUG (s.rec1 .sys 0) == 1

/-- Authentication ends for every hart, and the challenge with it (R291). -/
def State.endAuth (s : State) : State :=
  (s.forEach (List.range 4) (fun c t => t.modCore c (fun x => { x with auth := false }))).modDbg (fun d => { d with dbgNonce := none })

/-- JTAG_TRST: the debug transport alone (R185, R291). -/
def execJtagTrst (s : State) : Host.Outcome State Fault Refusal := answer s.endAuth

/-! ### Authentication (R290) -/

/-- The challenge: the nonce, then the unique ID. -/
def State.challenge (s : State) (nonce : List Byte) : List Byte := nonce ++ toLE 8 s.sec.otp.uid

/-- Whether the 34 words of a response stand under the nonce: bay mask, key slot, PUB_X, PUB_Y, SIG_R, SIG_S. -/
def State.authOk (s : State) (nonce : List Byte) (r : List Word) : Bool :=
  let b := r.flatMap (fun w => toLE 4 w.toNat)
  let x := slice b 8 32
  let y := slice b 40 32
  let k := leAt b 4 4
  let o := s.sec.otp
  decide (k < 4) && o.hash.getD k none == some (Config.sha256 (x ++ y)) && !(o.revoked.testBit k) &&
  Config.p256OnCurve x y && sigOk x y (s.challenge nonce ++ toBE 4 (leAt b 0 4)) (slice b 72 32) (slice b 104 32)

/-- A failed attempt: cause 0x6003, and after each third one 60 s of refusal. -/
def State.authFail (s : State) : State :=
  let n := s.core.dbgFails + 1
  (s.modDbg (fun d => { d with dbgFails := n, dbgRefuse := if n % 3 = 0 then s.now + 60000000000 else d.dbgRefuse })).report
    0 0x6003 0 n

/-- A response written to authdata. -/
def State.authTry (s : State) (r : List Word) : State :=
  if s.debugShut ∨ s.core.dbgActive = false ∨ r.length ≠ 34 ∨ s.now < s.core.dbgRefuse then s
  else
    match s.core.dbgNonce with
    | none => s.authFail
    | some (nonce, at_) =>
      let s := s.modDbg (fun d => { d with dbgNonce := none })
      if s.now < at_ + 10000000000 ∧ s.authOk nonce r then
        let mask := (r.headD 0).toNat
        (s.forEach (List.range 4) (fun c t =>
          match t.ownCore c with
          | some b => t.modCore c (fun x => { x with auth := x.auth || mask.testBit b })
          | none => t)).modDbg (fun d => { d with dbgFails := 0 })
      else s.authFail

/-- DEBUG_AUTHDATA. -/
def execDebugAuthdata (resp : List Word) (s : State) : Host.Outcome State Fault Refusal := answer (s.authTry resp)

/-! ### The debug module (R289) -/

/-- Whether the debugger reaches a hart: an existing one of an authenticated bay (R286, R290). -/
def State.dbgMay (s : State) (h : Nat) : Bool :=
  decide (h < 4) && s.hartOf h == h && (s.ownCore h).isSome && (s.coreAt h).auth

/-- An abstract command error, kept until it is cleared. -/
def State.cmdErr (s : State) (e : Nat) : State := s.modDbg (fun d => { d with cmderr := if d.cmderr = 0 then e else d.cmderr })

/-- An abstract command: cmderr 3 on a hart that is not authenticated, 4 on one that is not halted; none runs while an
error stands (R290). -/
def State.abstract_ (s : State) (h : Nat) (f : State → State) : State :=
  if s.core.cmderr ≠ 0 then s
  else if s.dbgMay h = false then s.cmdErr 3
  else if (s.coreAt h).halted = false then s.cmdErr 4
  else f s

/-- Whether a register number of the debug specification names a register: a CSR, dcsr and its kin, x or f. -/
def dbgReg (r : Nat) (wr : Bool) : Bool :=
  if r < 0x1000 then (decide (0x7B0 ≤ r) && decide (r < 0x7B4)) || (csrKnown r && !(wr && r / 1024 == 3)) else decide (r < 0x1040)

def State.dbgRead (s : State) (h r : Nat) : State :=
  if dbgReg r false = false then s.cmdErr 3
  else
    let v := if r < 0x1000 then s.csrRead h r else (s.coreAt h).reg (r - 0x1000)
    (s.modDbg (fun d => { d with dbgData := v })).reply [BitVec.ofNat 32 v, BitVec.ofNat 32 (v / 4294967296)]

def State.dbgWrite (s : State) (h r v : Nat) : State :=
  if dbgReg r true = false then s.cmdErr 3
  else if 0x1000 ≤ r then s.modCore h (fun x => x.setReg (r - 0x1000) v)
  else if 0x7B0 ≤ r ∧ r < 0x7B4 then s.modCore h (fun x => x.csrPut r v)
  else s.csrWrite h r v

/-- The program buffer runs on a halted hart, under the identity of its owner; an exception is an abstract command error
(R136, R138). -/
def State.dbgRun (s : State) (h : Nat) : List CoreStep → State
  | [] => s
  | i :: l =>
    let x : Ctxt := ⟨h, ⟨ownerOr0 (s.ownCore h), 4, h⟩, true⟩
    match s.coreAct x i with
    | (t, .retire) => t.dbgRun h l
    | (t, .fault _ _) => t.cmdErr 3
    | (t, .wait) => t

/-- The hart resumes at dpc in the mode that dcsr holds, for one instruction with `step`. -/
def State.dbgResume (s : State) (h : Nat) (step : Bool) : State :=
  s.modCore h (fun x =>
    let d := putBits (x.csrGet 0x7B0) 2 1 (b2n step)
    { x.csrPut 0x7B0 d with halted := false, pc := x.csrGet 0x7B1, mode := d % 4 })

/-- dmactive 0 resets the debug module and ends authentication (R291). -/
def State.dmReset (s : State) : State :=
  let s := s.forEach (List.range 4) (fun c t => t.modCore c (fun x => { x with haltOnReset := false }))
  s.endAuth.modDbg (fun d => { d with dbgActive := false, cmderr := 0, dbgData := 0, progbuf := List.replicate 8 0 })

/-- dmstatus of the selected hart: version 1.0, halt-on-reset, authenticated, then halted, running, unavailable while its
bay does not run, or nonexistent; the odd hart of a lockstep pair does not exist (R286, R290). -/
def State.dmstatus (s : State) (h : Nat) : Nat :=
  let runs := match s.ownCore h with | some b => s.live b | none => false
  let x := s.coreAt h
  0x23 + 128 * b2n x.auth +
  (if 4 ≤ h ∨ s.hartOf h ≠ h then 0xC000
   else if x.auth = false then 0
   else if runs = false then 0x3000
   else if x.halted then 0x300 else 0xC00)

def State.debugAct (s : State) (a : DebugAct) : State :=
  match a with
  | .idcode => s.reply1 0x29260001
  | .status h => s.reply1 (s.dmstatus h)
  | .dmactive on => if s.debugShut then s else if on then s.modDbg (fun d => { d with dbgActive := true }) else s.dmReset
  | a =>
    if s.debugShut ∨ s.core.dbgActive = false then s
    else
      match a with
      | .halt h =>
        if s.dbgMay h && (match s.ownCore h with | some b => s.live b | none => false) && !((s.coreAt h).halted) then s.haltHart h 3 else s
      | .resume h step => if s.dbgMay h && (s.coreAt h).halted then s.dbgResume h step else s
      | .haltOnReset h on => if s.dbgMay h then s.modCore h (fun x => { x with haltOnReset := on }) else s
      | .readReg h r => s.abstract_ h (fun t => t.dbgRead h r)
      | .writeReg h r v => s.abstract_ h (fun t => t.dbgWrite h r v)
      | .progbuf k w => s.modDbg (fun d => { d with progbuf := updAt d.progbuf k (fun _ => w) })
      | .run h l => s.abstract_ h (fun t => t.dbgRun h l)
      | .trigger h k kinds halts v =>
        s.abstract_ h (fun t => t.modDbg (fun d => { d with
          triggers := SMap.set 0 (SMap.set 0 d.triggers (8 * h + 2 * (k % 4)) (kinds % 8 + 8 * b2n halts)) (8 * h + 2 * (k % 4) + 1) v }))
      | .clearErr => s.modDbg (fun d => { d with cmderr := 0 })
      | .readData => s.reply [BitVec.ofNat 32 s.core.dbgData, BitVec.ofNat 32 (s.core.dbgData / 4294967296)]
      | .challenge nonce =>
        let n := (nonce ++ List.replicate 16 0).take 16
        (s.modDbg (fun d => { d with dbgNonce := some (n, s.now) })).reply
          ((List.range 6).map (fun k => BitVec.ofNat 32 (leAt (s.challenge n) (4 * k) 4)))
      | _ => s

/-- DEBUG_MODULE_ACCESS. -/
def execDebugModuleAccess (a : DebugAct) (s : State) : Host.Outcome State Fault Refusal := answer (s.debugAct a)

end Sys2Proof.Machine
end

