-- ==== Sys2Proof/Machine/Dispatch.lean ====
section
/-! DEFINITION.
The meaning of every command, one arm each. -/

namespace Sys2Proof.Machine

def exec (i : Instr) (s : State) : Host.Outcome State Fault Refusal :=
  match i with
  | .powerOnReset straps osc => Sys2Proof.Machine.execPowerOnReset straps osc s
  | .resetnLow ns straps osc => Sys2Proof.Machine.execResetnLow ns straps osc s
  | .sysDevRst by_ key => Sys2Proof.Machine.execSysDevRst by_ key s
  | .systemPllLock => Sys2Proof.Machine.execSystemPllLock s
  | .zeroizationEnd finds => Sys2Proof.Machine.execZeroizationEnd finds s
  | .imageLoadDone e => Sys2Proof.Machine.execImageLoadDone e s
  | .bayRelease b => Sys2Proof.Machine.execBayRelease b s
  | .referenceLoss edges => Sys2Proof.Machine.execReferenceLoss edges s
  | .pllUnlock => Sys2Proof.Machine.execPllUnlock s
  | .referenceGoodRestart => Sys2Proof.Machine.execReferenceGoodRestart s
  | .coreUnderVoltage => Sys2Proof.Machine.execCoreUnderVoltage s
  | .railUnderVoltage rail => Sys2Proof.Machine.execRailUnderVoltage rail s
  | .supplyGoodRestart rail => Sys2Proof.Machine.execSupplyGoodRestart rail s
  | .ioRailLow rail => Sys2Proof.Machine.execIoRailLow rail s
  | .ioRailRestored rail levels => Sys2Proof.Machine.execIoRailRestored rail levels s
  | .lpoCalibration count => Sys2Proof.Machine.execLpoCalibration count s
  | .lanePllLock l => Sys2Proof.Machine.execLanePllLock l s
  | .lanePllUnlock l => Sys2Proof.Machine.execLanePllUnlock l s
  | .dozeEnter => Sys2Proof.Machine.execDozeEnter s
  | .dozeExit => Sys2Proof.Machine.execDozeExit s
  | .sleepRequest by_ => Sys2Proof.Machine.execSleepRequest by_ s
  | .sleepDrained => Sys2Proof.Machine.execSleepDrained s
  | .sleepCommit => Sys2Proof.Machine.execSleepCommit s
  | .sleepRetention => Sys2Proof.Machine.execSleepRetention s
  | .offRequest by_ => Sys2Proof.Machine.execOffRequest by_ s
  | .offCommit => Sys2Proof.Machine.execOffCommit s
  | .wakenFall => Sys2Proof.Machine.execWakenFall s
  | .wakePinEdge p rising => Sys2Proof.Machine.execWakePinEdge p rising s
  | .wakeTimerExpiry => Sys2Proof.Machine.execWakeTimerExpiry s
  | .wakeFromSleep lpo => Sys2Proof.Machine.execWakeFromSleep lpo s
  | .wakePllLock => Sys2Proof.Machine.execWakePllLock s
  | .wakePllTimeout => Sys2Proof.Machine.execWakePllTimeout s
  | .wakeFromOff lpo => Sys2Proof.Machine.execWakeFromOff lpo s
  | .coreSupplyGood => Sys2Proof.Machine.execCoreSupplyGood s
  | .settleExpiry => Sys2Proof.Machine.execSettleExpiry s
  | .coreSupplyTimeout => Sys2Proof.Machine.execCoreSupplyTimeout s
  | .query r => Sys2Proof.Machine.execQuery r s
  | .halvikAbort r => Sys2Proof.Machine.execHalvikAbort r s
  | .nonce r => Sys2Proof.Machine.execNonce r s
  | .bsLoad r => Sys2Proof.Machine.execBsLoad r s
  | .slotOpen r nvm => Sys2Proof.Machine.execSlotOpen r nvm s
  | .slotWrite r nvm => Sys2Proof.Machine.execSlotWrite r nvm s
  | .slotClose r nvm => Sys2Proof.Machine.execSlotClose r nvm s
  | .slotCommit r nvm => Sys2Proof.Machine.execSlotCommit r nvm s
  | .slotErase r nvm => Sys2Proof.Machine.execSlotErase r nvm s
  | .confirmTimerExpiry => Sys2Proof.Machine.execConfirmTimerExpiry s
  | .deltaApply r => Sys2Proof.Machine.execDeltaApply r s
  | .deltaSwap => Sys2Proof.Machine.execDeltaSwap s
  | .deltaCommit => Sys2Proof.Machine.execDeltaCommit s
  | .deltaRollback => Sys2Proof.Machine.execDeltaRollback s
  | .deltaDeferTimeout => Sys2Proof.Machine.execDeltaDeferTimeout s
  | .bayReady r => Sys2Proof.Machine.execBayReady r s
  | .imageLoad r => Sys2Proof.Machine.execImageLoad r s
  | .keyProvision r => Sys2Proof.Machine.execKeyProvision r s
  | .keyRevoke r => Sys2Proof.Machine.execKeyRevoke r s
  | .secverRaise r => Sys2Proof.Machine.execSecverRaise r s
  | .bootOnce r => Sys2Proof.Machine.execBootOnce r s
  | .cplTail by_ b tail => Sys2Proof.Machine.execCplTail by_ b tail s
  | .selfRst by_ b => Sys2Proof.Machine.execSelfRst by_ b s
  | .bayRst by_ b => Sys2Proof.Machine.execBayRst by_ b s
  | .bayStop by_ b => Sys2Proof.Machine.execBayStop by_ b s
  | .bayStart by_ b => Sys2Proof.Machine.execBayStart by_ b s
  | .bayReset b => Sys2Proof.Machine.execBayReset b s
  | .bankZeroingEnd b => Sys2Proof.Machine.execBankZeroingEnd b s
  | .wdtKick by_ b key => Sys2Proof.Machine.execWdtKick by_ b key s
  | .wdtWarning b => Sys2Proof.Machine.execWdtWarning b s
  | .wdtExpiry b => Sys2Proof.Machine.execWdtExpiry b s
  | .coreInstruction c x => Sys2Proof.Machine.execCoreInstruction c x s
  | .fabricTransfer pos pend => Sys2Proof.Machine.execFabricTransfer pos pend s
  | .eccWriteback a => Sys2Proof.Machine.execEccWriteback a s
  | .mtimecmpReached c => Sys2Proof.Machine.execMtimecmpReached c s
  | .mipi c v => Sys2Proof.Machine.execMipi c v s
  | .mstlatch c v => Sys2Proof.Machine.execMstlatch c v s
  | .mfinj c v => Sys2Proof.Machine.execMfinj c v s
  | .debugAuthdata resp => Sys2Proof.Machine.execDebugAuthdata resp s
  | .jtagTrst => Sys2Proof.Machine.execJtagTrst s
  | .restart by_ e => Sys2Proof.Machine.execRestart by_ e s
  | .engineHealthMissed e => Sys2Proof.Machine.execEngineHealthMissed e s
  | .engineBodyCheck e block => Sys2Proof.Machine.execEngineBodyCheck e block s
  | .engineTrap e why => Sys2Proof.Machine.execEngineTrap e why s
  | .retestStart k => Sys2Proof.Machine.execRetestStart k s
  | .retestEnd k pass aux nvm => Sys2Proof.Machine.execRetestEnd k pass aux nvm s
  | .retestIntervalTimeout k => Sys2Proof.Machine.execRetestIntervalTimeout k s
  | .logBucketRefill => Sys2Proof.Machine.execLogBucketRefill s
  | .fltnNtfPop by_ b => Sys2Proof.Machine.execFltnNtfPop by_ b s
  | .fltInjGo by_ => Sys2Proof.Machine.execFltInjGo by_ s
  | .rowTestStart found => Sys2Proof.Machine.execRowTestStart found s
  | .rowTestSwitchover => Sys2Proof.Machine.execRowTestSwitchover s
  | .rowTestEnd march back => Sys2Proof.Machine.execRowTestEnd march back s
  | .nvmPgCmd by_ lp go => Sys2Proof.Machine.execNvmPgCmd by_ lp go s
  | .nvmPageCommit lp verify off => Sys2Proof.Machine.execNvmPageCommit lp verify off s
  | .txData by_ m d w => Sys2Proof.Machine.execTxData by_ m d w s
  | .txLast by_ m d w => Sys2Proof.Machine.execTxLast by_ m d w s
  | .mbxDb by_ m d => Sys2Proof.Machine.execMbxDb by_ m d s
  | .recall by_ m d => Sys2Proof.Machine.execRecall by_ m d s
  | .rxData by_ m d => Sys2Proof.Machine.execRxData by_ m d s
  | .boundMessageAccept m => Sys2Proof.Machine.execBoundMessageAccept m s
  | .boundMessageRefused m why => Sys2Proof.Machine.execBoundMessageRefused m why s
  | .queuePost by_ q e v => Sys2Proof.Machine.execQueuePost by_ q e v s
  | .descriptorFetch q e => Sys2Proof.Machine.execDescriptorFetch q e s
  | .descriptorCompletion q e => Sys2Proof.Machine.execDescriptorCompletion q e s
  | .completionRingWait q e => Sys2Proof.Machine.execCompletionRingWait q e s
  | .queueEn by_ q e en => Sys2Proof.Machine.execQueueEn by_ q e en s
  | .queueAbort by_ q e idx => Sys2Proof.Machine.execQueueAbort by_ q e idx s
  | .steadyHalfwrap => Sys2Proof.Machine.execSteadyHalfwrap s
  | .timeSteadyLo by_ => Sys2Proof.Machine.execTimeSteadyLo by_ s
  | .timeSrvRate by_ w => Sys2Proof.Machine.execTimeSrvRate by_ w s
  | .timeSrvCorr by_ w => Sys2Proof.Machine.execTimeSrvCorr by_ w s
  | .slewEnd => Sys2Proof.Machine.execSlewEnd s
  | .timeSrcTimeout => Sys2Proof.Machine.execTimeSrcTimeout s
  | .timeStep by_ => Sys2Proof.Machine.execTimeStep by_ s
  | .timeSlew by_ => Sys2Proof.Machine.execTimeSlew by_ s
  | .timeSet by_ => Sys2Proof.Machine.execTimeSet by_ s
  | .journalPeriodic => Sys2Proof.Machine.execJournalPeriodic s
  | .steadyCounterMismatch x => Sys2Proof.Machine.execSteadyCounterMismatch x s
  | .tevArm by_ n hi => Sys2Proof.Machine.execTevArm by_ n hi s
  | .tevFire n => Sys2Proof.Machine.execTevFire n s
  | .tevPulseEnd n => Sys2Proof.Machine.execTevPulseEnd n s
  | .tevDisarm by_ n => Sys2Proof.Machine.execTevDisarm by_ n s
  | .tcapEdge n rise stamp => Sys2Proof.Machine.execTcapEdge n rise stamp s
  | .tcapStamp by_ n => Sys2Proof.Machine.execTcapStamp by_ n s
  | .cycleStart n => Sys2Proof.Machine.execCycleStart n s
  | .windowStart n w busy => Sys2Proof.Machine.execWindowStart n w busy s
  | .windowEnd n w overA overB => Sys2Proof.Machine.execWindowEnd n w overA overB s
  | .commonIoInstant n k => Sys2Proof.Machine.execCommonIoInstant n k s
  | .trimReq by_ n v => Sys2Proof.Machine.execTrimReq by_ n v s
  | .trimDone n => Sys2Proof.Machine.execTrimDone n s
  | .ethEn by_ n en => Sys2Proof.Machine.execEthEn by_ n en s
  | .ethLinkChange n up inband => Sys2Proof.Machine.execEthLinkChange n up inband s
  | .phyPoll n reg => Sys2Proof.Machine.execPhyPoll n reg s
  | .mdioGo by_ n phy reg op wdata => Sys2Proof.Machine.execMdioGo by_ n phy reg op wdata s
  | .mdioDone n data => Sys2Proof.Machine.execMdioDone n data s
  | .ethFrameReady n k ecc => Sys2Proof.Machine.execEthFrameReady n k ecc s
  | .ethTxFrameStart n => Sys2Proof.Machine.execEthTxFrameStart n s
  | .ethTxFrameDone n ecc => Sys2Proof.Machine.execEthTxFrameDone n ecc s
  | .ethRxFrame n d at_ good pcs full ecc => Sys2Proof.Machine.execEthRxFrame n d at_ good pcs full ecc s
  | .ethnPtpfInfo by_ n => Sys2Proof.Machine.execEthnPtpfInfo by_ n s
  | .prpEntryExpiry n sa seq => Sys2Proof.Machine.execPrpEntryExpiry n sa seq s
  | .prpMissInterval n => Sys2Proof.Machine.execPrpMissInterval n s
  | .prpSupervisionSend n => Sys2Proof.Machine.execPrpSupervisionSend n s
  | .fcsErrorInterval n => Sys2Proof.Machine.execFcsErrorInterval n s
  | .blockLockLoss n => Sys2Proof.Machine.execBlockLockLoss n s
  | .canEn by_ n en => Sys2Proof.Machine.execCanEn by_ n en s
  | .canIntegrationDone n => Sys2Proof.Machine.execCanIntegrationDone n s
  | .txreq by_ n mask => Sys2Proof.Machine.execTxreq by_ n mask s
  | .txabort by_ n mask => Sys2Proof.Machine.execTxabort by_ n mask s
  | .canFrameStart n ecc => Sys2Proof.Machine.execCanFrameStart n ecc s
  | .canTxAttemptEnd n r lec dataPhase sof => Sys2Proof.Machine.execCanTxAttemptEnd n r lec dataPhase sof s
  | .canRxFrameValid n w0 w1 crc sof data errs lec => Sys2Proof.Machine.execCanRxFrameValid n w0 w1 crc sof data errs lec s
  | .recover by_ n => Sys2Proof.Machine.execRecover by_ n s
  | .busOffRecoveryEnd n => Sys2Proof.Machine.execBusOffRecoveryEnd n s
  | .cannTscLatch by_ n => Sys2Proof.Machine.execCannTscLatch by_ n s
  | .cannRxfPop by_ n => Sys2Proof.Machine.execCannRxfPop by_ n s
  | .twinEntryExpiry n key => Sys2Proof.Machine.execTwinEntryExpiry n key s
  | .twinMissInterval n => Sys2Proof.Machine.execTwinMissInterval n s
  | .sernTxdata by_ n ch => Sys2Proof.Machine.execSernTxdata by_ n ch s
  | .sernRxdata by_ n => Sys2Proof.Machine.execSernRxdata by_ n s
  | .serCharReceived n v t0 t1 => Sys2Proof.Machine.execSerCharReceived n v t0 t1 s
  | .serCharSent n => Sys2Proof.Machine.execSerCharSent n s
  | .serIdleTimeout n => Sys2Proof.Machine.execSerIdleTimeout n s
  | .deRelease n => Sys2Proof.Machine.execDeRelease n s
  | .serErrorInterval n => Sys2Proof.Machine.execSerErrorInterval n s
  | .bitioOutputEdge n => Sys2Proof.Machine.execBitioOutputEdge n s
  | .bitioInputEdge n p t0 v => Sys2Proof.Machine.execBitioInputEdge n p t0 v s
  | .vdtLaneTraining l ev ts => Sys2Proof.Machine.execVdtLaneTraining l ev ts s
  | .vdtLaneTimeout l => Sys2Proof.Machine.execVdtLaneTimeout l s
  | .vdtLaneDown l => Sys2Proof.Machine.execVdtLaneDown l s
  | .hbSend => Sys2Proof.Machine.execHbSend s
  | .vdtHb l t4 pref d => Sys2Proof.Machine.execVdtHb l t4 pref d s
  | .vdtAck l q => Sys2Proof.Machine.execVdtAck l q s
  | .vdtNak l q => Sys2Proof.Machine.execVdtNak l q s
  | .ackTimer h => Sys2Proof.Machine.execAckTimer h s
  | .replayTimeout h => Sys2Proof.Machine.execReplayTimeout h s
  | .mrec l q b g a region poison line => Sys2Proof.Machine.execMrec l q b g a region poison line s
  | .brec l q b g a region poison line => Sys2Proof.Machine.execBrec l q b g a region poison line s
  | .mirrorRecordSend b => Sys2Proof.Machine.execMirrorRecordSend b s
  | .mirrorQueueFullTimeout b => Sys2Proof.Machine.execMirrorQueueFullTimeout b s
  | .vdtClaim l q b g => Sys2Proof.Machine.execVdtClaim l q b g s
  | .yield l q b g => Sys2Proof.Machine.execYield l q b g s
  | .synced l q b g => Sys2Proof.Machine.execSynced l q b g s
  | .resyncReq l q b g crc => Sys2Proof.Machine.execResyncReq l q b g crc s
  | .refuse l q b g => Sys2Proof.Machine.execRefuse l q b g s
  | .vdtMsg l q b g m src ws => Sys2Proof.Machine.execVdtMsg l q b g m src ws s
  | .mrsp l q b g m res => Sys2Proof.Machine.execMrsp l q b g m res s
  | .vdtDb l q b g m => Sys2Proof.Machine.execVdtDb l q b g m s
  | .heartbeatMiss => Sys2Proof.Machine.execHeartbeatMiss s
  | .witnessChange v => Sys2Proof.Machine.execWitnessChange v s
  | .witnessDisagree => Sys2Proof.Machine.execWitnessDisagree s
  | .takeoverEdge b => Sys2Proof.Machine.execTakeoverEdge b s
  | .undecidedTimeout b => Sys2Proof.Machine.execUndecidedTimeout b s
  | .handover by_ b => Sys2Proof.Machine.execHandover by_ b s
  | .vdtTake by_ b => Sys2Proof.Machine.execVdtTake by_ b s
  | .selfFault by_ => Sys2Proof.Machine.execSelfFault by_ s
  | .linkRestart by_ trestle => Sys2Proof.Machine.execLinkRestart by_ trestle s
  | .pairTimeFollow corr => Sys2Proof.Machine.execPairTimeFollow corr s
  | .trsRd l q src dst eseq home size off ecc => Sys2Proof.Machine.execTrsRd l q src dst eseq home size off ecc s
  | .trsWr l q src dst eseq home size off d => Sys2Proof.Machine.execTrsWr l q src dst eseq home size off d s
  | .trsRdr l q src dst eseq home st d => Sys2Proof.Machine.execTrsRdr l q src dst eseq home st d s
  | .trsRsp l q src dst eseq home st => Sys2Proof.Machine.execTrsRsp l q src dst eseq home st s
  | .trsMsg l q src dst eseq home m from_ ws => Sys2Proof.Machine.execTrsMsg l q src dst eseq home m from_ ws s
  | .trsDb l q src dst eseq home m => Sys2Proof.Machine.execTrsDb l q src dst eseq home m s
  | .trsIrq l q src dst c level => Sys2Proof.Machine.execTrsIrq l q src dst c level s
  | .sirq l q src code => Sys2Proof.Machine.execSirq l q src code s
  | .trsSirqSend by_ code => Sys2Proof.Machine.execTrsSirqSend by_ code s
  | .timeFrame l q src ms corr epoch t4 tr => Sys2Proof.Machine.execTimeFrame l q src ms corr epoch t4 tr s
  | .timeFrameSend => Sys2Proof.Machine.execTimeFrameSend s
  | .stackTimeFollow corr => Sys2Proof.Machine.execStackTimeFollow corr s
  | .trsClaim l q src dst bay res pf pc num => Sys2Proof.Machine.execTrsClaim l q src dst bay res pf pc num s
  | .claimRsp l q src dst bay res result num => Sys2Proof.Machine.execClaimRsp l q src dst bay res result num s
  | .trsRoute l q src kind hop exp => Sys2Proof.Machine.execTrsRoute l q src kind hop exp s
  | .trsTopo l q src master present flags uid => Sys2Proof.Machine.execTrsTopo l q src master present flags uid s
  | .trsHb l t4 d => Sys2Proof.Machine.execTrsHb l t4 d s
  | .hopLost l => Sys2Proof.Machine.execHopLost l s
  | .routeBreakTimeout l => Sys2Proof.Machine.execRouteBreakTimeout l s
  | .trsRequestTimeout d eseq => Sys2Proof.Machine.execTrsRequestTimeout d eseq s
  | .stackFormed => Sys2Proof.Machine.execStackFormed s
  | .drvStart by_ n spin => Sys2Proof.Machine.execDrvStart by_ n spin s
  | .drvStop by_ n => Sys2Proof.Machine.execDrvStop by_ n s
  | .coast by_ n => Sys2Proof.Machine.execCoast by_ n s
  | .psetLoad by_ n k => Sys2Proof.Machine.execPsetLoad by_ n k s
  | .decisionTick n => Sys2Proof.Machine.execDecisionTick n s
  | .decisionApply n => Sys2Proof.Machine.execDecisionApply n s
  | .deadTimeEnd n leg => Sys2Proof.Machine.execDeadTimeEnd n leg s
  | .legChangeDeferred n leg => Sys2Proof.Machine.execLegChangeDeferred n leg s
  | .bandWindowEnd n => Sys2Proof.Machine.execBandWindowEnd n s
  | .positionTestPulse n rise limit => Sys2Proof.Machine.execPositionTestPulse n rise limit s
  | .magTimeExpiry n => Sys2Proof.Machine.execMagTimeExpiry n s
  | .catchSpinStep n a b => Sys2Proof.Machine.execCatchSpinStep n a b s
  | .losClearExpiry n => Sys2Proof.Machine.execLosClearExpiry n s
  | .kineticHoldExit n => Sys2Proof.Machine.execKineticHoldExit n s
  | .overcurrentTrip n leg active above => Sys2Proof.Machine.execOvercurrentTrip n leg active above s
  | .gateDriverFault n low => Sys2Proof.Machine.execGateDriverFault n low s
  | .desaturation n leg active => Sys2Proof.Machine.execDesaturation n leg active s
  | .gateReadbackMismatch n out level => Sys2Proof.Machine.execGateReadbackMismatch n out level s
  | .tripClear by_ n => Sys2Proof.Machine.execTripClear by_ n s
  | .chopperDutyInterval n => Sys2Proof.Machine.execChopperDutyInterval n s
  | .seqGo by_ n k => Sys2Proof.Machine.execSeqGo by_ n k s
  | .adcConversionEnd n v => Sys2Proof.Machine.execAdcConversionEnd n v s
  | .adcInternalCheck n => Sys2Proof.Machine.execAdcInternalCheck n s
  | .adcnQflush by_ n => Sys2Proof.Machine.execAdcnQflush by_ n s
  | .sdmDataOutput n v => Sys2Proof.Machine.execSdmDataOutput n v s
  | .sdmComparatorOutput n v => Sys2Proof.Machine.execSdmComparatorOutput n v s
  | .sdmSaturation n begins level => Sys2Proof.Machine.execSdmSaturation n begins level s
  | .sdmStuck n clock => Sys2Proof.Machine.execSdmStuck n clock s
  | .sdmnQflush by_ n => Sys2Proof.Machine.execSdmnQflush by_ n s
  | .supAinRequest => Sys2Proof.Machine.execSupAinRequest s
  | .supMillisecond => Sys2Proof.Machine.execSupMillisecond s
  | .shedTrigger => Sys2Proof.Machine.execShedTrigger s
  | .holdExpiry => Sys2Proof.Machine.execHoldExpiry s
  | .restoreStep => Sys2Proof.Machine.execRestoreStep s
  | .shedPowerMeasurement => Sys2Proof.Machine.execShedPowerMeasurement s
  | .supLp10Write => Sys2Proof.Machine.execSupLp10Write s
  | .supEn by_ en => Sys2Proof.Machine.execSupEn by_ en s
  | .supDetect by_ w => Sys2Proof.Machine.execSupDetect by_ w s
  | .learnReset by_ => Sys2Proof.Machine.execLearnReset by_ s
  | .dewClear => Sys2Proof.Machine.execDewClear s
  | .cloRegulatorStep n vs vl => Sys2Proof.Machine.execCloRegulatorStep n vs vl s
  | .cliMeasurement m v => Sys2Proof.Machine.execCliMeasurement m v s
  | .capEn by_ en glove => Sys2Proof.Machine.execCapEn by_ en glove s
  | .capScan c => Sys2Proof.Machine.execCapScan c s
  | .recal by_ => Sys2Proof.Machine.execRecal by_ s
  | .calReload by_ => Sys2Proof.Machine.execCalReload by_ s
  | .sleepSlowScan raw => Sys2Proof.Machine.execSleepSlowScan raw s
  | .filmReferenceCheck n raw => Sys2Proof.Machine.execFilmReferenceCheck n raw s
  | .tagInvCmd by_ ants protos slots1 => Sys2Proof.Machine.execTagInvCmd by_ ants protos slots1 s
  | .tagAutoInventory => Sys2Proof.Machine.execTagAutoInventory s
  | .tagInvAbort by_ => Sys2Proof.Machine.execTagInvAbort by_ s
  | .receiverCheckEnd result => Sys2Proof.Machine.execReceiverCheckEnd result s
  | .fieldSettleEnd => Sys2Proof.Machine.execFieldSettleEnd s
  | .tagSlot o => Sys2Proof.Machine.execTagSlot o s
  | .tagInventoryDone => Sys2Proof.Machine.execTagInventoryDone s
  | .pinCommitGo by_ b => Sys2Proof.Machine.execPinCommitGo by_ b s
  | .pinCommitArm by_ b => Sys2Proof.Machine.execPinCommitArm by_ b s
  | .pinCommitSwitch p level => Sys2Proof.Machine.execPinCommitSwitch p level s
  | .gpioSet by_ k w => Sys2Proof.Machine.execGpioSet by_ k w s
  | .gpioClr by_ k w => Sys2Proof.Machine.execGpioClr by_ k w s
  | .gpioInputEdge p level => Sys2Proof.Machine.execGpioInputEdge p level s
  | .pinReadbackMismatch p driven => Sys2Proof.Machine.execPinReadbackMismatch p driven s
  | .stageWr f => Sys2Proof.Machine.execStageWr f s
  | .stageRd f => Sys2Proof.Machine.execStageRd f s
  | .statusRd f => Sys2Proof.Machine.execStatusRd f s
  | .cmdWr f nvm => Sys2Proof.Machine.execCmdWr f nvm s
  | .cplRd f => Sys2Proof.Machine.execCplRd f s
  | .cplAck f => Sys2Proof.Machine.execCplAck f s
  | .hdbWr f => Sys2Proof.Machine.execHdbWr f s
  | .ddbRd f => Sys2Proof.Machine.execDdbRd f s
  | .hifSpiDdb by_ w => Sys2Proof.Machine.execHifSpiDdb by_ w s
  | .bar0Hdb w => Sys2Proof.Machine.execBar0Hdb w s
  | .bar0Ddb => Sys2Proof.Machine.execBar0Ddb s
  | .pciePerst => Sys2Proof.Machine.execPciePerst s
  | .pcieLinkChange up rate width ltssm d3 oneMsi => Sys2Proof.Machine.execPcieLinkChange up rate width ltssm d3 oneMsi s
  | .pcieOutboundTimeout by_ wr addr => Sys2Proof.Machine.execPcieOutboundTimeout by_ wr addr s
  | .hifQspiCmd by_ w => Sys2Proof.Machine.execHifQspiCmd by_ w s
  | .qspiCommandDone data off bytes => Sys2Proof.Machine.execQspiCommandDone data off bytes s
  | .registerWrite by_ a w => Sys2Proof.Machine.execRegisterWrite by_ a w s
  | .engineInstruction e a => Sys2Proof.Machine.execEngineInstruction e a s
  | .debugModuleAccess a => Sys2Proof.Machine.execDebugModuleAccess a s
  | .laneFrameEnd l => Sys2Proof.Machine.execLaneFrameEnd l s
  | .laneFrameDiscard l => Sys2Proof.Machine.execLaneFrameDiscard l s
  | .replayRateInterval h => Sys2Proof.Machine.execReplayRateInterval h s
  | .laneNotUpTimeout l => Sys2Proof.Machine.execLaneNotUpTimeout l s
  | .configurationHoldTimeout => Sys2Proof.Machine.execConfigurationHoldTimeout s
  | .supConfirmExpiry surge => Sys2Proof.Machine.execSupConfirmExpiry surge s
  | .capTempSwTimeout => Sys2Proof.Machine.execCapTempSwTimeout s
  | .antSettleEnd => Sys2Proof.Machine.execAntSettleEnd s
  | .antennaLoadFault load => Sys2Proof.Machine.execAntennaLoadFault load s
  | .poleVoltageTrigger n => Sys2Proof.Machine.execPoleVoltageTrigger n s
  | .bar2Access write off len data => Sys2Proof.Machine.execBar2Access write off len data s
  | .alwaysOnSupplyValid v18 => Sys2Proof.Machine.execAlwaysOnSupplyValid v18 s

end Sys2Proof.Machine
end

