-- ==== Sys2Proof/Machine/Tick.lean ====
section
/-! DEFINITION.
One FAB_CLK edge with no command: what time alone moves.  Everything else that time brings about is a command. -/

namespace Sys2Proof.Machine

/-- mcycle of the harts that run: four CORE_CLK cycles in a FAB_CLK cycle (R276); mcountinhibit stops it. -/
def State.coreTick (s : State) : State :=
  if s.coresRun = false then s
  else s.forEach (indices 4 (fun c => s.hartOf c == c && (match s.ownCore c with | some b => s.live b | none => false) &&
    !((s.coreAt c).halted) && !(((s.coreAt c).csrGet 0x320).testBit 0))) (fun c t =>
      t.modCore c (fun x => { x with mcycle := (x.mcycle + 4) % 2 ^ 64 }))

/-- IMAGE_LOAD commands whose engine no longer loads end as ABORTED (R17, R295). -/
def State.sweepLoads (s : State) : State :=
  s.forEach (s.sec.imgCmds.filter (fun c => s.get (R.REELn_STATE.STATE c.engine) != 3)) (fun c t => t.imgCmdEnd c.engine 2 0 0)

/-- Steady time, the trims of the contexts, the watchdogs, DOZE time and the core cycle counters gain one cycle; requests of
QMGR to other members leave; position tests go on (R664); levels that blocks follow on every edge are followed. -/
def State.tick (s : State) : State :=
  let inc : Int := 4 * qns + s.adj
  let t := s.timeTick
  if s.clocked = false then t
  else
    let t := t.forEach (List.range 4) (fun n u => u.trimTick inc n)
    let t := ((t.wdtTick (t.now - s.now)).dozeTick).coreTick
    if t.applied = false then t
    else
      let t := ((t.supEdge).capEdge).forEach [0, 1] (fun n u => (u.drvRail n).testTick n)
      ((((t.forwardClaims).trsKick).flushLp0).sweepLoads).settleRetired

end Sys2Proof.Machine
end

