-- ==== Sys2Proof/Safety.lean ====
section
/-! DEFINITION.
What claims call a well-kept state, a safe step, an access that acts, and a command that Halvik accepts. -/

namespace Sys2Proof.Machine

/-- The register file, memory, the non-volatile store, the flash, and the mailbox and queue-end stores are in canonical form:
keys strictly rising, no entry that an unlisted key reads as. -/
def State.canon (s : State) : Bool :=
  SMap.wf 0#32 s.regs && SMap.wf 0#8 s.mem && SMap.wf 0#8 s.nvm && SMap.wf 0xFF#8 s.flash &&
  SMap.wf MbxQ.empty s.msg.mbx && SMap.wf QEnd.empty s.msg.ends

/-- Memory in canonical form. -/
def Memory.wf (m : List Host.Cell) : Bool := SMap.wf 0#8 m

/-- A step that ends in neither a fault nor a refusal. -/
def Safe (s : State) : Prop := ∃ t, step s = .next t

/-- Commands run one after the other, none of them from the queue. -/
def runs : List Instr → State → Host.Outcome State Fault Refusal
  | [], s => .next s
  | c :: l, s => match exec c s with | .next t => runs l t | o => o

/-- A command completes, no byte of memory, of the non-volatile store or of the flash changes, and every register outside
`addrs` reads as before. -/
def Frames (s : State) (o : Host.Outcome State Fault Refusal) (addrs : List Nat) : Prop :=
  ∃ t : State, o = .next t ∧ (∀ a, t.byte a = s.byte a) ∧ t.nvm = s.nvm ∧ t.flash = s.flash ∧
    ∀ g : Fld, g.addr ∉ addrs → t.word g = s.word g

/-- An access acts: the initiator may make it, and its bay runs; a request of another member acts by its claim (R155, R612). -/
def State.grants (s : State) (i : Init) (ok : Bool) : Bool := ok && (fromAfar i || s.live i.bay)

/-- Phases in which RESETn is not sampled, or the always-on domain holds the device besides (R179, R194, R205). -/
def Phase.pinless : Phase → Bool
  | .por => true
  | .off => true
  | .held => true
  | .offWait => true
  | .offSettle => true
  | _ => false

/-- A command of a table row as Halvik takes it (R119). -/
def halvikCmd (r : HReq) (op : Nat) : HCmd := ⟨r.ch, op, r.origin, r.tag, r.payload⟩

/-- The state once Halvik has accepted a command: it is entered in the replay window (R18, R383). -/
def State.accepted (s : State) (r : HReq) (op : Nat) : State :=
  { s with sec := { s.sec with
    accepts := s.sec.accepts + 1
    replay := acceptTag s.sec.replay (s.sec.accepts + 1) r.origin r.tag op (fingerprint (hreqWords r op)) } }

/-- Halvik accepts a command: its channel is open, its origin lies in the channel's range, it repeats none, its opcode has
this LEN and may come by this channel in this state (R103, R116, R121, R125, R383). -/
def State.accepts (s : State) (r : HReq) (op : Nat) : Prop :=
  s.chanOpen r.ch = true ∧ s.halvikOn = true ∧ r.origin < 65536 ∧ r.tag < 65536 ∧ r.payload.length ≤ 62 ∧
  r.origin / 256 = originBase r.ch / 256 ∧
  lookup s.sec.replay r.origin r.tag (fingerprint (hreqWords r op)) = .fresh ∧
  (match opLens op ((r.payload.getD 0 0).toNat) with | some l => l.contains r.payload.length | none => false) = true ∧
  (s.accepted r op).chanOk r.ch op = true

end Sys2Proof.Machine
end

