-- ==== Sys2Proof/Certificates/Slice0/Obligations.lean ====
section
/-! DEFINITION.
The statements about the block. -/

open Sys2Proof Sys2Proof.Machine

/-- A step runs the command at the front of the queue on the state with the rest of the queue.  The queue is the model's
own (log entry 1). -/
def Obligations.StepRunsFrontCommand : Prop :=
  ∀ (c : Instr) (s : State), step { s with pending := c :: s.pending } = exec c s

/-- Resets of the device and the way to the boot ROM. -/
def Obligations.ResetsOfTheDevice : Prop :=
  (∀ (s : State) (x : Straps) (osc : Bool), ∃ t, exec (.powerOnReset x osc) s = .next t ∧
    t.sys.phase = .pllWait ∧ t.cfg = [] ∧ t.nvm = s.nvm ∧ t.flash = s.flash ∧ t.sec.otp = s.sec.otp ∧ t.pending = s.pending ∧
    t.get R.SYS_STRAPS.BOOT_SRC = x.bootSrc % 4 ∧ t.get R.SYS_STRAPS.STACK_POS = x.stackPos % 8 ∧
    t.get R.SYS_STRAPS.PAIR_ID = x.pairId % 2 ∧ t.get R.SYS_CLK_STATUS.REF_KIND = b2n osc ∧ t.get R.SYS_CLK_STATUS.REF_OK = 1) ∧
  (∀ (s : State) (ns : Nat) (x : Straps) (osc : Bool), 1000 ≤ ns → s.sys.phase.pinless = false → ∃ t,
    exec (.resetnLow ns x osc) s = .next t ∧ t = (s.deviceReset R.SYS_RESET_CAUSE.RESETN).latch x osc ∧ t.cfg = [] ∧
    t.sys.phase = (if pllOn s.sys.phase then .zeroize else .pllWait)) ∧
  (∀ (s : State) (i : Init), s.grants i (isBay i 0) = true →
    exec (.sysDevRst i 0xA5C3#32) s = .next (s.deviceReset R.SYS_RESET_CAUSE.SOFT)) ∧
  (∀ s : State, s.sys.phase = .pllWait →
    exec .systemPllLock s = .next ((s.setPhase .zeroize).flag R.SYS_CLK_STATUS.SYS_LOCK true)) ∧
  (∀ (s : State) (finds : List ZeroFind), s.sys.phase = .zeroize → ∃ t : State, exec (.zeroizationEnd finds) s = .next t.boot ∧
    t.mem = [] ∧ t.memx.poison = [] ∧ t.memx.dirty = [] ∧ t.sys.phase = .run ∧ t.cfg = s.cfg) ∧
  (∀ s : State, exec (.alwaysOnSupplyValid false) s = .next (s.powerOn .por false)) ∧
  (∀ s : State, s.sys.phase = .por →
    exec (.alwaysOnSupplyValid true) s = .next { s with sys := { s.sys with pwrEn := true } })

/-- Clocks, supplies and lane PLLs. -/
def Obligations.ClocksAndSupplies : Prop :=
  (∀ (s : State) (n : Nat), n < 400 ∨ 600 < n → s.sys.phase.dead = false → s.sys.holds.testBit 0 = false →
    exec (.referenceLoss n) s = .next ((s.hold 0 R.SYS_RESET_CAUSE.REF_LOSS 0x0401).put R.SYS_CLK_STATUS.REF_OK 0)) ∧
  (∀ s : State, s.sys.phase = .run ∨ s.sys.phase = .doze →
    exec .pllUnlock s = .next (s.hold 0 R.SYS_RESET_CAUSE.PLL_LOSS 0x0402)) ∧
  (∀ s : State, s.sys.phase = .held → s.sys.holds = 1 → exec .referenceGoodRestart s =
    .next (({ s with sys := { s.sys with holds := 0, phase := .pllWait } } : State).put R.SYS_CLK_STATUS.REF_OK 1)) ∧
  (∀ s : State, s.sys.phase.dead = false → s.sys.holds.testBit 1 = false →
    exec .coreUnderVoltage s = .next (s.hold 1 R.SYS_RESET_CAUSE.CORE_UV 0x0404)) ∧
  (∀ (s : State) (r : Nat), r < 2 → s.sys.phase.dead = false → s.sys.holds.testBit (2 + r) = false →
    exec (.railUnderVoltage r) s = .next (s.hold (2 + r) R.SYS_RESET_CAUSE.CORE_UV 0x0404)) ∧
  (∀ (s : State) (r : Nat), r < 3 → s.sys.phase = .held → s.sys.holds = 2 ^ (1 + r) → exec (.supplyGoodRestart r) s =
    .next { s with sys := { s.sys with holds := 0, phase := .pllWait } }) ∧
  (∀ (s : State) (r : Nat), r < 4 → s.sys.railLow.testBit r = false → ∃ t, exec (.ioRailLow r) s = .next t ∧
    t.sys = { s.sys with railLow := setBit s.sys.railLow r } ∧ t.mem = s.mem ∧ t.pin = s.pin) ∧
  (∀ s u : State, s.sys.railLow.testBit 4 = false → u = { s with sys := { s.sys with railLow := setBit s.sys.railLow 4 } } →
    exec (.ioRailLow 4) s = .next ((u.drvRail 0).drvRail 1)) ∧
  (∀ s u : State, s.sys.railLow.testBit 5 = false → u = { s with sys := { s.sys with railLow := setBit s.sys.railLow 5 } } →
    exec (.ioRailLow 5) s = .next ((if u.on R.TAG_INV_STAT.RUNNING then u.tagEnd 3 5 else u).cloPark.capEdge)) ∧
  (∀ (s : State) (r l : Nat), r < 6 → s.sys.railLow.testBit r = true → ∃ t, exec (.ioRailRestored r l) s = .next t ∧
    t.sys = { s.sys with railLow := clrBit s.sys.railLow r } ∧ t.mem = s.mem ∧ t.pin = s.pin) ∧
  (∀ (s : State) (n : Nat), s.sys.phase = .run → 1638400000000 ≤ 1050000 * n → 950000 * n ≤ 1638400000000 →
    exec (.lpoCalibration n) s = .next ((s.put R.SYS_LPO_CAL.REF_CYCLES n).flag R.SYS_LPO_CAL.VALID true)) ∧
  (∀ (s : State) (n : Nat), s.sys.phase = .run → 1050000 * n < 1638400000000 ∨ 1638400000000 < 950000 * n →
    exec (.lpoCalibration n) s = .next (((((s.put R.SYS_LPO_CAL.REF_CYCLES n).flag R.SYS_LPO_CAL.VALID true).flag
      R.SYS_CLK_STATUS.LPO_OK false).flag R.SYS_IRQ_PEND.LPO_DRIFT true).report 0 0x0407 0 n)) ∧
  (∀ (s : State) (l : Nat), l < 2 ∨ 6 ≤ l ∧ l < 8 → s.clocked = true → s.sys.lanesIdle = false →
    (s.get R.SYS_CLK_STATUS.LANE_ON).testBit l = true →
    exec (.lanePllLock l) s = .next (s.setB R.SYS_CLK_STATUS.LANE_LOCK l)) ∧
  (∀ (s : State) (l : Nat), 2 ≤ l ∧ l < 6 → s.clocked = true → s.sys.lanesIdle = false →
    (s.get R.SYS_CLK_STATUS.LANE_ON).testBit l = true →
    exec (.lanePllLock l) s = .next ((s.setB R.SYS_CLK_STATUS.LANE_LOCK l).laneTrain l 0 0)) ∧
  (∀ (s : State) (l : Nat), l < 8 → s.bit R.SYS_CLK_STATUS.LANE_LOCK l = true → exec (.lanePllUnlock l) s =
    .next ((((s.clrB R.SYS_CLK_STATUS.LANE_LOCK l).flag R.SYS_IRQ_PEND.LANE_UNLOCK true).laneLost l).report
      (s.laneBay l) 0x0403 l 0))

/-- DOZE, and the entries to SLEEP and OFF. -/
def Obligations.PowerStates : Prop :=
  (∀ s : State, s.sys.phase = .run → s.applied = true → s.allWait = true → exec .dozeEnter s = .next (s.setPhase .doze)) ∧
  (∀ (s : State) (c : Nat), c < 4 → s.sys.phase = .doze → (s.ownCore c).isSome = true → s.coreIrq (s.hartOf c) = true →
    exec .dozeExit s = .next (s.setPhase .run)) ∧
  (∀ (s : State) (i : Init), s.grants i (isBay i 0) = true → s.on R.SYS_PWR_STAT.BUSY = false → s.pwrRefuse 1 = 0 →
    exec (.sleepRequest i) s = .next (((s.put R.SYS_PWR_STAT.REFUSE 0).flag R.SYS_PWR_STAT.BUSY true).setPhase .sleepDrain)) ∧
  (∀ (s : State) (i : Init), s.grants i (isBay i 0) = true → s.on R.SYS_PWR_STAT.BUSY = false → s.pwrRefuse 1 ≠ 0 →
    exec (.sleepRequest i) s =
      .next ((s.put R.SYS_PWR_STAT.REFUSE (s.pwrRefuse 1)).flag R.SYS_IRQ_PEND.PWR_REFUSED true)) ∧
  (∀ (s : State) (i : Init), s.grants i (isBay i 0) = true → s.on R.SYS_PWR_STAT.BUSY = false → s.pwrRefuse 2 = 0 →
    s.memx.pgWrites = [] → exec (.offRequest i) s =
      .next ((((s.put R.SYS_PWR_STAT.REFUSE 0).flag R.SYS_PWR_STAT.BUSY true).setPhase .offParked).sleepPark false)) ∧
  (∀ s : State, s.sys.phase = .sleepDrain → exec .sleepDrained s = .next ((s.sleepPark true).setPhase .sleepParked)) ∧
  (∀ s : State, s.sys.phase = .sleepParked → ∃ t, exec .sleepCommit s = .next t ∧ t.sys.phase = .sleepStopped ∧
    t.sys.wakeLeft = (if (s.get R.SYS_WAKE_EN.EN).testBit 1 then s.get R.SYS_WAKE_TIMER.UNITS else 0) ∧
    t.mem = s.mem ∧ t.cfg = s.cfg ∧ ∀ b, b < 8 → t.bay.wdt.getD b 0 = 0) ∧
  (∀ s : State, s.sys.phase = .sleepStopped →
    exec .sleepRetention s = .next ((s.setPhase .sleep).flag R.SYS_PWR_STAT.BUSY false)) ∧
  (∀ s : State, s.sys.phase = .offParked → s.memx.pgWrites = [] → ∃ t, exec .offCommit s = .next t ∧ t.sys.phase = .off ∧
    t.sys.pwrEn = false ∧ t.sys.parked = true ∧ t.mem = [] ∧ t.cfg = [] ∧ t.nvm = s.nvm ∧ t.flash = s.flash ∧
    t.sec.otp = s.sec.otp)

/-- Wake events and the ways back. -/
def Obligations.WakesFromSleepAndOff : Prop :=
  (∀ s : State, (s.get R.SYS_WAKE_EN.EN).testBit 2 = true → exec .wakenFall s = .next (s.wakeEvent 3)) ∧
  (∀ (s : State) (p : Nat) (r : Bool), (s.get R.SYS_WAKE_EN.EN).testBit 3 = true → s.isWakePin p = true →
    s.on R.SYS_WAKE_PIN.EN0 = true → s.get R.SYS_WAKE_PIN.PIN0 = p → s.on R.SYS_WAKE_PIN.EDGE0 = r →
    exec (.wakePinEdge p r) s = .next (s.wakeEvent 4)) ∧
  (∀ s : State, s.sys.wakeLeft ≠ 0 → s.sys.phase = .sleep ∨ s.sys.phase = .off →
    exec .wakeTimerExpiry s = .next (s.wakeEvent 2)) ∧
  (∀ (s : State) (k : Nat), s.sys.phase = .sleep → ∃ t, s.wakeEvent k = t ∧ t.sys.phase = .sleep ∧ t.sys.wakeLeft = 0 ∧
    t.sys.wake = some (match s.sys.wake with | some c => min c k | none => k)) ∧
  (∀ (s : State) (k : Nat), s.sys.phase = .sleepDrain → s.wakeEvent k = (((s.put R.SYS_PWR_STAT.REFUSE 6).flag
    R.SYS_PWR_STAT.BUSY false).flag R.SYS_IRQ_PEND.PWR_REFUSED true).setPhase .run) ∧
  (∀ (s : State) (n : Nat), s.sys.phase = .sleep → s.sys.wake.isSome = true → exec (.wakeFromSleep n) s =
    .next ((s.put R.SYS_SLEEP_TIME.LPO (min n 4294967295)).setPhase .wakePll)) ∧
  (∀ s u v : State, s.sys.phase = .wakePll → u = (s.flag R.SYS_CLK_STATUS.SYS_LOCK true).resume →
    v = State.tevTriggers { u with sys := { u.sys with wake := none } }
      (State.sleepAdjust { u with sys := { u.sys with wake := none } }) →
    exec .wakePllLock s = .next ((v.forEach (indices 8 (fun b => v.live b)) (fun b t => t.startWdt b)).capWake.flag
      R.SYS_IRQ_PEND.WAKE true)) ∧
  (∀ s : State, s.sys.phase = .wakePll →
    exec .wakePllTimeout s = .next ((s.deviceReset R.SYS_RESET_CAUSE.PLL_LOSS).holdCause 0x0406 0 0)) ∧
  (∀ (s : State) (n : Nat), s.sys.phase = .off → s.sys.wake.isSome = true → exec (.wakeFromOff n) s =
    .next { s.put R.SYS_SLEEP_TIME.LPO (min n 4294967295) with sys := { s.sys with phase := .offWait, pwrEn := true, wake := none } }) ∧
  (∀ s : State, s.sys.phase = .offWait → exec .coreSupplyGood s = .next (s.setPhase .offSettle)) ∧
  (∀ s : State, s.sys.phase = .offSettle →
    exec .settleExpiry s = .next (s.resetInto R.SYS_RESET_CAUSE.WAKE_OFF .pllWait)) ∧
  (∀ s : State, s.sys.phase = .offWait → ∃ t, exec .coreSupplyTimeout s = .next t ∧ t.sys.phase = .off ∧ t.sys.pwrEn = false)

/-- Halvik's commands that move no data of a slot or a key. -/
def Obligations.HalvikQueriesAndAborts : Prop :=
  (∀ (s : State) (r : HReq), s.accepts r 0x01 → exec (.query r) s = .next ((s.accepted r 0x01).done (halvikCmd r 0x01)
    (s.get R.SEC_CONFIG_ID.CONFIG_ID) (s.word R.SEC_SLOT_STATE.STATE_A).toNat)) ∧
  (∀ (s u : State) (r : HReq) (n : List Byte), s.accepts r 0x03 → n = slice (Config.nonceBytes s.free) 0 16 →
    u = State.took { s.accepted r 0x03 with sec := { (s.accepted r 0x03).sec with nonce := some (n, s.now) } } 1 →
    exec (.nonce r) s = .next ((u.done (halvikCmd r 0x03) (leAt n 0 4) (leAt n 4 4)).pushCpl r.ch
      (cplWords 1 0 r.origin r.tag (leAt n 8 4) (leAt n 12 4)))) ∧
  (∀ (s u : State) (r : HReq) (e : ReplayEntry) (i : ImgCmd), s.accepts r 0x02 → u = s.accepted r 0x02 →
    ((halvikCmd r 0x02).p 0 % 65536) / 256 = originBase r.ch / 256 →
    u.replayEntry ((halvikCmd r 0x02).p 0 % 65536) ((halvikCmd r 0x02).p 0 / 65536) = some e → e.op = 0x30 →
    u.sec.imgCmds.find? (fun x => x.origin == (halvikCmd r 0x02).p 0 % 65536 && x.tag == (halvikCmd r 0x02).p 0 / 65536) = some i →
    exec (.halvikAbort r) s = .next (((u.imgCmdEnd i.engine 2 0 0).engineBack i.engine).done (halvikCmd r 0x02) 0 0)) ∧
  (∀ (s u : State) (r : HReq) (e : ReplayEntry) (d : Delta), s.accepts r 0x02 → u = s.accepted r 0x02 →
    ((halvikCmd r 0x02).p 0 % 65536) / 256 = originBase r.ch / 256 →
    u.replayEntry ((halvikCmd r 0x02).p 0 % 65536) ((halvikCmd r 0x02).p 0 / 65536) = some e → e.op = 0x20 →
    u.sec.imgCmds.find? (fun x => x.origin == (halvikCmd r 0x02).p 0 % 65536 && x.tag == (halvikCmd r 0x02).p 0 / 65536) = none →
    u.sec.delta = some d → d.origin = (halvikCmd r 0x02).p 0 % 65536 → d.tag = (halvikCmd r 0x02).p 0 / 65536 →
    d.phase = .prepare →
    exec (.halvikAbort r) s = .next ((u.deltaStop d 2 0 0 0).done (halvikCmd r 0x02) 0 0)) ∧
  (∀ (s u : State) (r : HReq) (f : List Byte) (c : List Sect), s.accepts r 0x08 → u = s.accepted r 0x08 →
    s.sec.hostWait = true → s.applied = false → s.sec.waiting = none →
    u.cmdBuf (halvikCmd r 0x08) ((halvikCmd r 0x08).p 0) ((halvikCmd r 0x08).p 1) = some f → u.bsCheck f 1 = .inr c →
    exec (.bsLoad r) s = .next ((u.done (halvikCmd r 0x08) 0 0).contentPass c f 3 false)) ∧
  (∀ (s u : State) (r : HReq), s.accepts r 0x21 → u = s.accepted r 0x21 → (halvikCmd r 0x21).p 0 < 8 →
    r.ch = 0 ∨ (halvikCmd r 0x21).p 0 = r.ch → s.sec.delta = none →
    exec (.bayReady r) s = .next (u.done (halvikCmd r 0x21) 0 0)) ∧
  (∀ (s u : State) (r : HReq) (d : Delta), s.accepts r 0x21 → u = s.accepted r 0x21 → (halvikCmd r 0x21).p 0 < 8 →
    r.ch = 0 ∨ (halvikCmd r 0x21).p 0 = r.ch → s.sec.delta = some d → d.phase = .swapped → d.bay = (halvikCmd r 0x21).p 0 →
    s.coresOf d.bay ≠ [] → exec (.bayReady r) s = .next ((u.done (halvikCmd r 0x21) 0 0).deltaCommit d)) ∧
  (∀ (s u v : State) (r : HReq) (k : Nat), s.accepts r 0x48 → u = s.accepted r 0x48 → k = (halvikCmd r 0x48).p 0 → k < 2 →
    (s.slotRec k).state = 2 ∨ (s.slotRec k).state = 3 → v = u.done (halvikCmd r 0x48) 0 0 →
    exec (.bootOnce r) s =
      .next (State.deviceReset { v with sec := { v.sec with bootOnce := some k } } R.SYS_RESET_CAUSE.HALVIK))

/-- Bitstream slots. -/
def Obligations.BitstreamSlots : Prop :=
  (∀ (s u : State) (r : HReq) (k : Nat), s.accepts r 0x10 → u = s.accepted r 0x10 → k = (halvikCmd r 0x10).p 0 → k < 2 →
    s.runs k = false → (halvikCmd r 0x10).p 1 ≤ 786432 → exec (.slotOpen r 0) s =
      .next ((State.setSlot { u with sec := { u.sec with openSlot := some k } } k
        (fun x => { x with state := 1, totalLen := (halvikCmd r 0x10).p 1, tried := false, configId := 0 })).done
        (halvikCmd r 0x10) 0 0)) ∧
  (∀ (s u : State) (r : HReq) (k : Nat) (d : List Byte), s.accepts r 0x11 → u = s.accepted r 0x11 → s.openSlot = some k →
    (halvikCmd r 0x11).p 0 + (halvikCmd r 0x11).p 3 ≤ (s.slotRec k).totalLen →
    u.cmdBuf (halvikCmd r 0x11) ((halvikCmd r 0x11).addr 1) ((halvikCmd r 0x11).p 3) = some d →
    exec (.slotWrite r 0) s = .next ((u.putNvm (0xC0000 * k + (halvikCmd r 0x11).p 0) d).done (halvikCmd r 0x11) 0 0)) ∧
  (∀ (s u : State) (r : HReq) (k ms : Nat) (c : List Sect), s.accepts r 0x12 → u = s.accepted r 0x12 → s.openSlot = some k →
    ms = (if (halvikCmd r 0x12).p 0 = 0 then 60000 else (halvikCmd r 0x12).p 0) → 1000 ≤ ms → ms ≤ 600000 →
    u.bsCheck (u.slotFile k) 1 = .inr c → exec (.slotClose r 0) s =
      .next ((State.setSlot { u with sec := { u.sec with openSlot := none } } k
        (fun x => { x with state := 2, tried := false, confirmMs := ms, configId := hdrConfig (u.slotFile k) })).done
        (halvikCmd r 0x12) 0 (hdrConfig (u.slotFile k)))) ∧
  (∀ (s u : State) (r : HReq) (k : Nat), s.accepts r 0x13 → u = s.accepted r 0x13 → k = (halvikCmd r 0x13).p 0 →
    s.runs k = true → s.sec.confirming = true → exec (.slotCommit r 0) s =
      .next (((((State.flag { u with sec := { u.sec with confirming := false } } R.SEC_BOOT_STATUS.TRIAL false).modSlot k
        (fun x => { x with state := 3, preferred := true })).modSlot (1 - k) (fun x => { x with preferred := false })).writeLp0).done
        (halvikCmd r 0x13) 0 0)) ∧
  (∀ (s u : State) (r : HReq) (k : Nat), s.accepts r 0x14 → u = s.accepted r 0x14 → k = (halvikCmd r 0x14).p 0 → k < 2 →
    s.runs k = false → s.sec.openSlot ≠ some k → exec (.slotErase r 0) s =
      .next ((u.setSlot k (fun x => { SlotRec.blank with preferred := x.preferred })).done (halvikCmd r 0x14) 0 0)) ∧
  (∀ s : State, s.sec.confirming = true →
    exec .confirmTimerExpiry s = .next (s.deviceReset R.SYS_RESET_CAUSE.HALVIK)) ∧
  (∀ (s : State) (f : List Byte) (k : Nat), s.sec.waiting = some (f, k) → (s.applyEdge f k).on R.TRS_STATUS.IS_MASTER = true →
    exec .configurationHoldTimeout s = .next (s.applyEdge f k)) ∧
  (∀ (s : State) (f : List Byte) (k : Nat), s.sec.waiting = some (f, k) → (s.applyEdge f k).on R.TRS_STATUS.IS_MASTER = false →
    exec .configurationHoldTimeout s = .next ((s.applyEdge f k).setAligned false))

/-- Live bay deltas and image loads. -/
def Obligations.DeltasAndImageLoads : Prop :=
  (∀ (s u v : State) (r : HReq) (f : List Byte) (new : List Sect) (d : Delta), s.accepts r 0x20 → u = s.accepted r 0x20 →
    s.sec.delta = none → (halvikCmd r 0x20).p 3 ≤ 60000 →
    u.cmdBuf (halvikCmd r 0x20) ((halvikCmd r 0x20).addr 0) ((halvikCmd r 0x20).p 2) = some f → u.bsCheck f 2 = .inr new →
    u.deltaPair (hdrBay f) (hdrConfig f) = false → newEngines s.cfg new (hdrBay f) = 0 →
    d = { ch := r.ch, origin := r.origin, tag := r.tag, bay := hdrBay f, configId := hdrConfig f, newCfg := new
          oldCfg := s.cfg, readyMs := if (halvikCmd r 0x20).p 3 = 0 then 1000 else (halvikCmd r 0x20).p 3
          phase := .prepare, prepEngines := 0, prepLeft := 0, abortLate := false } →
    v = { u with sec := { u.sec with delta := some d } } → exec (.deltaApply r) s = .next v.kickLoads) ∧
  (∀ (s u : State) (d : Delta), s.sec.delta = some d → d.phase = .prepare → d.prepLeft = 0 → s.swapDeferred d.bay = false →
    s.sys.phase = .run → u = (s.modDelta (fun x => { x with phase := .swapped })).flag (R.VDTn_ROLE.ELIGIBLE d.bay) false →
    exec .deltaSwap s = .next ((State.retarget
      { u with bay := { u.bay with closedGrants := addedGrants d.oldCfg d.newCfg } } d.bay 6 d.newCfg d.prepEngines).kickLoads)) ∧
  (∀ (s : State) (d : Delta), s.sec.delta = some d → d.phase = .swapped → s.enginesReady d.bay = true →
    exec .deltaCommit s = .next (s.deltaCommit d)) ∧
  (∀ (s u v : State) (d : Delta), s.sec.delta = some d → d.phase = .swapped → (cfgBay d.oldCfg d.bay).isSome = true →
    u = { s with sec := { s.sec with delta := none }, bay := { s.bay with closedGrants := [] } } →
    v = ((u.retarget d.bay 7 d.oldCfg 0).report 0 0x5804 d.bay 0).halvikDone d.ch d.origin d.tag 3 0x0401 0 0 →
    exec .deltaRollback s = .next ((v.eligible d.bay).runLater.kickLoads)) ∧
  (∀ (s : State) (d : Delta), s.sec.delta = some d → d.phase = .prepare → d.prepLeft = 0 → s.swapDeferred d.bay = true →
    exec .deltaDeferTimeout s = .next (s.deltaStop d 3 0x0401 0 0)) ∧
  (∀ (s u v : State) (r : HReq) (e : Nat) (f : List Byte), s.accepts r 0x30 → u = s.accepted r 0x30 →
    e = (halvikCmd r 0x30).p 0 → e < 12 → s.on (R.REELn_CFG.SOURCE e) = true → s.get (R.REELn_STATE.STATE e) = 4 →
    u.cmdBuf (halvikCmd r 0x30) ((halvikCmd r 0x30).addr 1) ((halvikCmd r 0x30).p 3) = some f →
    v = (u.put (R.REELn_STATE.STATE e) 3).modEngine e (fun x => { x with before := 4, incoming := f }) →
    exec (.imageLoad r) s =
      .next { v with sec := { v.sec with imgCmds := v.sec.imgCmds ++ [⟨r.ch, r.origin, r.tag, e, []⟩] } }) ∧
  (∀ (s : State) (e : Nat) (f : List Byte), s.get (R.REELn_STATE.STATE e) = 3 → f = s.imgView.imgFile e →
    s.imgView.imgCheck e f = 0 →
    exec (.imageLoadDone e) s = .next (((s.imgPassed e f).imgCmdEnd e 1 0 (beAt f 6 2)).kickLoads)) ∧
  (∀ (s : State) (e k : Nat), s.get (R.REELn_STATE.STATE e) = 3 → k = s.imgView.imgCheck e (s.imgView.imgFile e) → k ≠ 0 →
    exec (.imageLoadDone e) s = .next (((s.imgCmdEnd e 3 k 0).imgFailed e k).kickLoads))

/-- Keys, the security version and completion rings. -/
def Obligations.KeysAndCompletions : Prop :=
  (∀ (s u : State) (r : HReq) (k : Nat) (b : List Byte), s.accepts r 0x40 → u = s.accepted r 0x40 → r.ch = 8 →
    s.sec.otp.provisioning = true → k = (halvikCmd r 0x40).p 0 % 4 → b = payBytes r.payload →
    ((halvikCmd r 0x40).p 0).testBit 8 = false → s.sec.otp.hash.getD k none = none → exec (.keyProvision r) s =
      .next ((u.modOtp (fun x => { x with hash := updAt x.hash k (fun _ => some (slice b 4 32)) })).done (halvikCmd r 0x40) 0 0)) ∧
  (∀ (s u : State) (r : HReq) (k : Nat), s.accepts r 0x41 → u = s.accepted r 0x41 → u.signedOk (halvikCmd r 0x41) 1 = true →
    k = (halvikCmd r 0x41).p 0 → k ≤ 3 → (s.sec.otp.hash.getD k none).isSome = true → s.sec.otp.usable k = true →
    exec (.keyRevoke r) s = .next ((State.modOtp { u with sec := { u.sec with nonce := none } }
      (fun x => { x with revoked := setBit x.revoked k })).done (halvikCmd r 0x41) 0 0)) ∧
  (∀ (s u : State) (r : HReq) (v : Nat), s.accepts r 0x42 → u = s.accepted r 0x42 → u.signedOk (halvikCmd r 0x42) 1 = true →
    v = (halvikCmd r 0x42).p 0 → v ≤ s.sec.secVer → s.sec.otp.floors.length < 8 →
    exec (.secverRaise r) s = .next ((State.modOtp { u with sec := { u.sec with nonce := none } }
      (fun x => { x with floors := x.floors ++ [v] })).done (halvikCmd r 0x42) 0 0)) ∧
  (∀ (s : State) (i : Init) (b tail : Nat), s.grants i (isBay i b) = true → b < 8 → ∃ t : State,
    exec (.cplTail i b tail) s = .next t ∧ t = (s.put (R.SECn_CPL_TAIL.TAIL b) tail).flushRing s.sec.held.length b)

/-- Bay commands. -/
def Obligations.BayCommands : Prop :=
  (∀ (s : State) (i : Init) (b : Nat), s.grants i (isBay i b || isBay i 0) = true → i.bay = b →
    exec (.selfRst i b) s = .next (s.registerReset b 2)) ∧
  (∀ (s : State) (i : Init) (b : Nat), s.grants i (isBay i b || isBay i 0) = true → i.bay ≠ b →
    exec (.selfRst i b) s = .next s) ∧
  (∀ (s : State) (i : Init) (b : Nat), s.grants i (isBay i b || isBay i 0) = true → i.bay = 0 →
    exec (.bayRst i b) s = .next (s.registerReset b 1)) ∧
  (∀ (s : State) (i : Init) (b : Nat), s.grants i (isBay i b || isBay i 0) = true → i.bay ≠ 0 →
    exec (.bayRst i b) s = .next s ∧ exec (.bayStop i b) s = .next s ∧ exec (.bayStart i b) s = .next s) ∧
  (∀ (s : State) (i : Init) (b : Nat), s.grants i (isBay i b || isBay i 0) = true → i.bay = 0 →
    s.bayState b = bayRunning ∨ s.bayState b = bayHeld → exec (.bayStop i b) s = .next (s.stopBay b)) ∧
  (∀ (s : State) (i : Init) (b : Nat), s.grants i (isBay i b || isBay i 0) = true → i.bay = 0 → s.bayState b = bayReset →
    exec (.bayStop i b) s = .next { s with bay := { s.bay with stopAfter := setBit s.bay.stopAfter b } }) ∧
  (∀ (s : State) (i : Init) (b : Nat), s.grants i (isBay i b || isBay i 0) = true → i.bay = 0 → s.bayState b = bayStopped →
    exec (.bayStart i b) s = .next (s.enterReset b 8)) ∧
  (∀ (s : State) (b : Nat), s.bayState b = bayReset → s.bay.resetDone.testBit b = false →
    exec (.bayReset b) s = .next (s.resetBay b)) ∧
  (∀ (s u : State) (b : Nat), s.bayState b = bayReset → s.bay.resetDone.testBit b = true →
    u = (s.zeroBanks b).put (R.BAYn_STATE.STATE b) bayHeld → u.bay.stopAfter.testBit b = false →
    exec (.bankZeroingEnd b) s =
      .next (State.loadKick { u with bay := { u.bay with resetDone := clrBit u.bay.resetDone b } })) ∧
  (∀ (s : State) (b : Nat), s.mayRelease b = true → exec (.bayRelease b) s = .next (s.release b))

/-- The watchdog. -/
def Obligations.Watchdog : Prop :=
  (∀ (s : State) (i : Init) (b : Nat) (v : Word), s.grants i (isBay i b || isBay i 0) = true → i.bay = b → v.toNat = 0xC35A →
    s.on (R.BAYn_STATE.WDT_EN b) = true → s.bayState b = bayRunning → s.bay.wdt.getD b 0 ≠ 0 →
    exec (.wdtKick i b v) s = .next (s.startWdt b)) ∧
  (∀ (s : State) (i : Init) (b : Nat) (v : Word), s.grants i (isBay i b || isBay i 0) = true → i.bay ≠ b ∨ v.toNat ≠ 0xC35A →
    s.on (R.BAYn_STATE.WDT_EN b) = true → s.bayState b = bayRunning →
    exec (.wdtKick i b v) s = .next ((s.report b 0x0C06 b v.toNat).registerReset b 4)) ∧
  (∀ (s : State) (i : Init) (b : Nat) (v : Word), s.grants i (isBay i b || isBay i 0) = true →
    s.on (R.BAYn_STATE.WDT_EN b) = false → exec (.wdtKick i b v) s = .next s) ∧
  (∀ (s : State) (b : Nat), s.wdtCounts b = true → exec (.wdtWarning b) s = .next (s.flag (R.BAYn_LOC_PEND.WDT_WARN b) true)) ∧
  (∀ (s : State) (b : Nat), s.wdtCounts b = true →
    exec (.wdtExpiry b) s = .next ((s.report b 0x0C05 b 0).registerReset b 3))

/-- Row tests and pages of the non-volatile store. -/
def Obligations.RowTestsAndNvmPages : Prop :=
  (∀ (s : State) (a : Nat), ∃ t, exec (.eccWriteback a) s = .next t ∧ t.mem = s.mem ∧ t.regs = s.regs ∧
    t.memx = { s.memx with writeback := s.memx.writeback.filter (fun w => w != a) }) ∧
  (∀ (s : State) (n : Nat), s.applied = true → s.memx.test = none → s.on R.MEM_CTRL.PAUSE = false → s.coresRun = true →
    n = s.get R.MEM_TEST_POS.BANK → s.testBank n = some n → exec (.rowTestStart []) s =
      .next (((s.put R.MEM_TEST_POS.BANK n).put R.MEM_TEST_POS.ROW (s.get R.MEM_TEST_POS.ROW)).setTest
        (some ⟨n, s.get R.MEM_TEST_POS.ROW, false, false⟩))) ∧
  (∀ (s : State) (x : RowTest), s.memx.test = some x → x.switched = false →
    exec .rowTestSwitchover s = .next (s.setTest (some { x with switched := true }))) ∧
  (∀ (s : State) (x : RowTest), s.memx.test = some x → x.switched = true → x.targeted = false →
    exec (.rowTestEnd true true) s = .next ((s.setTest none).walkOn x.bank x.row)) ∧
  (∀ (s u v : State) (x : RowTest) (march : Bool) (res : Nat), s.memx.test = some x → x.switched = true → x.targeted = false →
    res = x.bank + 256 * x.row → v = (s.setTest (some { x with targeted := true })).lastErr x.bank (128 * x.row) 3 →
    u = v.report (ownerOr0 (v.ownBank x.bank)) (if march then 0x1805 else 0x1803) res (128 * x.row) →
    (u.flt.running ++ u.flt.waiting).any (onResource 0x1803 res) = true →
    exec (.rowTestEnd march false) s = .next (u.walkOn x.bank x.row)) ∧
  (∀ (s t u : State) (i : Init) (lp a : Nat), s.grants i (isBay i 0) = true → s.on R.NVM_STATUS.BUSY = false → lp < 64 →
    lp ≠ 0 → lp ≠ 10 → lp < 56 → a = (s.get R.NVM_PG_SRC_LO.ADDR + 4294967296 * s.get R.NVM_PG_SRC_HI.ADDR) / 64 * 64 →
    t = ((s.put R.NVM_PG_STAT.LPAGE lp).put R.NVM_PG_STAT.STATUS 0).put R.NVM_PG_STAT.RESULT 0 →
    t.bufOk 0 false a 4096 = true → t.poisoned a 4096 = false → t.startPage lp (t.readMem a 4096) true false = some u →
    exec (.nvmPgCmd i lp true) s = .next u) ∧
  (∀ (s : State) (i : Init) (lp : Nat), s.grants i (isBay i 0) = true → s.on R.NVM_STATUS.BUSY = false → lp < 64 →
    lp = 0 ∨ lp = 10 ∨ 56 ≤ lp → exec (.nvmPgCmd i lp true) s =
      .next ((((s.put R.NVM_PG_STAT.LPAGE lp).put R.NVM_PG_STAT.STATUS 0).put R.NVM_PG_STAT.RESULT 0).pgStat 3 1)) ∧
  (∀ (s : State) (w : PageWrite) (lp off : Nat), s.memx.pgWrites.find? (fun w => w.lpage == lp) = some w → w.block = true →
    exec (.nvmPageCommit lp 0 off) s = .next ((s.commitPage w).pgStat 1 0))

/-- Core instructions and device CSRs. -/
def Obligations.CoreInstructionsAndCsrs : Prop :=
  (∀ (s u t : State) (c dst v f n : Nat) (l : List Nat), s.hartRuns c = true → u = s.modCore c (fun x => { x with wfi := false }) →
    u.fetchBad ⟨c, ⟨ownerOr0 (u.ownCore c), 0, c⟩, false⟩ f = none → dst < 32 →
    t = (u.modCore c (fun x => x.setReg dst v)).modCore c (fun k => { k.counted l true with pc := n }) →
    ((t.coreAt c).csrGet 0x7B0).testBit 2 = false →
    exec (.coreInstruction c ⟨f, n, l, .fine, [], none, .compute dst v 0⟩) s = .next t) ∧
  (∀ (s u t : State) (c f n cause tval : Nat) (l : List Nat), s.hartRuns c = true →
    u = s.modCore c (fun x => { x with wfi := false }) →
    u.fetchBad ⟨c, ⟨ownerOr0 (u.ownCore c), 0, c⟩, false⟩ f = none →
    t = (u.modCore c (fun k => k.counted l false)).coreFault c cause tval → ((t.coreAt c).csrGet 0x7B0).testBit 2 = false →
    exec (.coreInstruction c ⟨f, n, l, .fine, [], none, .trap cause tval⟩) s = .next t) ∧
  (∀ (s u v t : State) (c f n dst a : Nat) (l : List Nat) (d : List Byte), s.hartRuns c = true → u = s.modCore c (fun x => { x with wfi := false }) →
    u.fetchBad ⟨c, ⟨ownerOr0 (u.ownCore c), 0, c⟩, false⟩ f = none → a % 4 = 0 → dst < 32 →
    u.access ⟨⟨ownerOr0 (u.ownCore c), 0, c⟩, a, 4, none, [], none, some ⟨some dst, 4, true, n⟩⟩ = (v, .ok d) →
    t = (v.modCore c (fun k => k.setReg dst (wrapInt 64 (signed 32 (leAt d 0 4))))).modCore c
      (fun k => { k.counted l true with pc := n }) → ((t.coreAt c).csrGet 0x7B0).testBit 2 = false →
    exec (.coreInstruction c ⟨f, n, l, .fine, [], none, .load dst 4 true a a⟩) s = .next t) ∧
  (∀ (s : State) (c : Nat), (s.coreAt (s.hartOf c)).mtimecmp ≤ s.now → (s.ownCore c).isSome = true →
    exec (.mtimecmpReached c) s = .next (s.modCore (s.hartOf c) (fun x => { x with wfi := false }))) ∧
  (∀ (s : State) (c v : Nat), s.hartRuns c = true → (s.coreAt c).mode = 3 → exec (.mipi c v) s =
    .next (s.forEach (indices 4 (fun d => s.ownCore d == s.ownCore c && s.hartOf d == d)) (fun d t =>
      t.modCore d (fun x => { x with msip := v.testBit d })))) ∧
  (∀ (s : State) (c v : Nat), s.hartRuns c = true → (s.coreAt c).mode = 3 → v.testBit 0 = true → exec (.mstlatch c v) s =
    .next (s.modCore c (fun x => { x with stlCyc := x.mcycle, stlTime := s.now % 2 ^ 64 }))) ∧
  (∀ (s : State) (c v : Nat), s.hartRuns c = true → (s.coreAt c).mode = 3 → v.testBit 31 = false → exec (.mfinj c v) s =
    .next (s.modCore c (fun x => { x with mfinj := v &&& 0xFFFFFFFF0003FFFF }))) ∧
  (∀ (s : State) (c v : Nat), s.hartRuns c = true → (s.coreAt c).mode ≠ 3 →
    exec (.mipi c v) s = .next (s.coreFault c 2 0) ∧ exec (.mstlatch c v) s = .next (s.coreFault c 2 0) ∧
    exec (.mfinj c v) s = .next (s.coreFault c 2 0))

/-- External debug. -/
def Obligations.ExternalDebug : Prop :=
  (∀ s : State, ∃ t, exec .jtagTrst s = .next t ∧ t = s.endAuth ∧ t.core.dbgNonce = none ∧ t.mem = s.mem ∧ t.regs = s.regs) ∧
  (∀ (s : State) (r : List Word) (n : List Byte) (a : Nat), s.debugShut = false → s.core.dbgActive = true → r.length = 34 →
    s.core.dbgRefuse ≤ s.now → s.core.dbgNonce = some (n, a) → s.now < a + 10000000000 → s.authOk n r = true →
    exec (.debugAuthdata r) s = .next (((s.modDbg (fun d => { d with dbgNonce := none })).forEach (List.range 4) (fun c t =>
      match t.ownCore c with
      | some b => t.modCore c (fun x => { x with auth := x.auth || (r.headD 0).toNat.testBit b })
      | none => t)).modDbg (fun d => { d with dbgFails := 0 }))) ∧
  (∀ (s : State) (r : List Word), s.debugShut = false → s.core.dbgActive = true → r.length = 34 →
    s.core.dbgRefuse ≤ s.now → s.core.dbgNonce = none → exec (.debugAuthdata r) s = .next s.authFail) ∧
  (∀ s : State, exec (.debugModuleAccess .idcode) s = .next (s.reply1 0x29260001)) ∧
  (∀ (s : State) (h b : Nat), s.debugShut = false → s.core.dbgActive = true → s.dbgMay h = true → s.ownCore h = some b →
    s.live b = true → (s.coreAt h).halted = false → exec (.debugModuleAccess (.halt h)) s = .next (s.haltHart h 3)) ∧
  (∀ (s : State) (h r v : Nat), s.debugShut = false → s.core.dbgActive = true → s.core.cmderr = 0 → s.dbgMay h = true →
    (s.coreAt h).halted = true → 0x1000 ≤ r → r < 0x1040 → exec (.debugModuleAccess (.writeReg h r v)) s =
      .next (s.modCore h (fun x => x.setReg (r - 0x1000) v))) ∧
  (∀ (s : State) (h r v : Nat), s.debugShut = false → s.core.dbgActive = true → s.core.cmderr = 0 → s.dbgMay h = false →
    exec (.debugModuleAccess (.writeReg h r v)) s = .next (s.modDbg (fun d => { d with cmderr := 3 })))

/-- Fabric slots, register writes and lane frames. -/
def Obligations.FabricRegistersAndLanes : Prop :=
  (∀ (s : State) (pos : Nat) (x : Xfer), s.clocked = true → x.by_.kind ≠ 5 → x.by_.bay < 8 → s.live x.by_.bay = true →
    s.bay.wheel.getD (pos % 64) 8 = x.by_.bay →
    exec (.fabricTransfer pos [x]) s = .next ((s.slotCount x true).transfer x)) ∧
  (∀ (s : State) (pos : Nat) (x : Xfer), s.clocked = true → x.by_.kind ≠ 5 → x.by_.bay < 8 → s.live x.by_.bay = true →
    s.bay.wheel.getD (pos % 64) 8 = 8 → exec (.fabricTransfer pos [x]) s =
      .next ((State.slotCount { s with bay := { s.bay with rr := x.by_.bay } } x false).transfer x)) ∧
  (∀ (s : State) (i : Init) (a : Nat) (w : Word), i.kind ≠ 7 → fromAfar i = false → s.live i.bay = true →
    regionOf a = .periph → a % 4 = 0 → s.regRight i true a = .may → exec (.registerWrite i a w) s = .next (s.regWrite i a w)) ∧
  (∀ (s : State) (i : Init) (a c : Nat) (w : Word), i.kind < 5 → s.live i.bay = true →
    regionOf a = .periph → a % 4 = 0 → s.regRight i true a = .shut c →
    exec (.registerWrite i a w) s = .next (s.blocked i c a true)) ∧
  (∀ (s : State) (a : Nat) (w : Word), s.pcieUp = true →
    exec (.registerWrite ⟨0, 7, 0⟩ a w) s = .next (s.hostWrite a w)) ∧
  (∀ (s : State) (l : Nat), exec (.laneFrameEnd l) s = .next ((s.modLane l (fun x => { x with cur := none })).laneKick l)) ∧
  (∀ s : State, (s.laneUp 2 = true → exec (.laneFrameDiscard 2) s = .next (s.inc R.VDT_CRC_ERR.A)) ∧
    (s.laneUp 3 = true → exec (.laneFrameDiscard 3) s = .next (s.inc R.VDT_CRC_ERR.B)) ∧
    (s.laneUp 4 = true → exec (.laneFrameDiscard 4) s = .next (s.inc R.TRS_CRC_ERR.UP)) ∧
    (s.laneUp 5 = true → exec (.laneFrameDiscard 5) s = .next (s.inc R.TRS_CRC_ERR.DOWN))) ∧
  (∀ (s : State) (l : Nat), 2 ≤ l → l < 4 → s.laneUsed l = true → s.laneUp l = false → exec (.laneNotUpTimeout l) s =
    .next (s.report (ownerOr0 (s.ownPeriph 42)) 0x3402 l (s.get (laneFld l)))) ∧
  (∀ (s : State) (h : Nat), (s.hopAt h).replays ≤ 64 →
    exec (.replayRateInterval h) s = .next (s.modHop h (fun x => { x with replays := 0 }))) ∧
  (∀ (s t : State) (h : Nat), 64 < (s.hopAt h).replays → 0 < h → t = s.modHop h (fun x => { x with replays := 0 }) →
    exec (.replayRateInterval h) s =
      .next (t.report (ownerOr0 (t.ownPeriph 43)) 0x3801 (h + 3) (s.hopAt h).replays))

/-- Engines and bit I/O. -/
def Obligations.ReelEngines : Prop :=
  (∀ (s : State) (i : Init) (e : Nat), fromAfar i = false → s.live i.bay = true → s.ownReel e = some i.bay →
    s.get (R.REELn_STATE.STATE e) = 5 →
    exec (.restart i e) s = .next (((s.imageStop e).put (R.REELn_STATE.STATE e) 2).loadKick)) ∧
  (∀ (s : State) (e : Nat), s.engRunning e = true → (s.engineAt e).missed = false → exec (.engineHealthMissed e) s =
    .next ((((s.modEngine e (fun x => { x with missed := true })).report (s.engBay e) 0x3001 e (s.healthAge e)).settleRetired).loadKick)) ∧
  (∀ (s : State) (e k : Nat), s.engRunning e = true →
    crc32c (s.bytes (rlmBase e) (s.engineAt e).loadLen) ≠ (s.engineAt e).bodyCrc →
    exec (.engineBodyCheck e k) s = .next (((s.report (s.engBay e) 0x3003 e k).settleRetired).loadKick)) ∧
  (∀ (s : State) (e k : Nat), s.engRunning e = true →
    crc32c (s.bytes (rlmBase e) (s.engineAt e).loadLen) = (s.engineAt e).bodyCrc → exec (.engineBodyCheck e k) s = .next s) ∧
  (∀ (s : State) (e k : Nat), s.engRunning e = true →
    exec (.engineTrap e k) s = .next (((s.report (s.engBay e) 0x3002 e k).settleRetired).loadKick)) ∧
  (∀ (s : State) (e i n : Nat), s.engRunning e = true →
    exec (.engineInstruction e (.count i n)) s = .next ((s.imgOwed e).imgCount e i n)) ∧
  (∀ (s : State) (e : Nat), s.engRunning e = true → ((s.imgOwed e).engineAt e).deaf = false →
    exec (.engineInstruction e .health) s = .next ((s.imgOwed e).modEngine e (fun x =>
      { x with healthAt := (s.imgOwed e).now, missed := false }))) ∧
  (∀ (s u : State) (n e t : Nat) (v : Bool) (r : List (Nat × Nat × Bool)), s.bitEngine n = some e →
    (s.engineAt e).bitOut = (0, t, v) :: r → u = (s.modEngine e (fun x => { x with
      bitOut := r, bitLevel := if v then setBit x.bitLevel 0 else clrBit x.bitLevel 0 })).showBits n e → u.now ≤ t →
    exec (.bitioOutputEdge n) s = .next u) ∧
  (∀ (s : State) (n e p t0 a : Nat) (v : Bool), s.bitEngine n = some e → a = t0 - (8 + s.pinFilter (serRxd n + 2 * p)) →
    (s.engineAt e).bitLast.getD p none = none → (s.engineAt e).bitIn.length < 64 → exec (.bitioInputEdge n p t0 v) s =
      .next (((s.modEngine e (fun y => { y with bitLast := updAt y.bitLast p (fun _ => some a) })).modEngine e (fun y =>
        { y with bitIn := y.bitIn ++ [(p, a, v)] })).showBits n e)) ∧
  (∀ (s : State) (n e p t0 a : Nat) (v : Bool), s.bitEngine n = some e → a = t0 - (8 + s.pinFilter (serRxd n + 2 * p)) →
    (s.engineAt e).bitLast.getD p none = none → 64 ≤ (s.engineAt e).bitIn.length → exec (.bitioInputEdge n p t0 v) s =
      .next ((s.modEngine e (fun y => { y with bitLast := updAt y.bitLast p (fun _ => some a) })).bitErr n 2 (R.SERn_BITIO.OVERRUN n)))

/-- Retests, log, notifications, injection. -/
def Obligations.RetestsAndInjection : Prop :=
  (∀ (s : State) (k : Nat) (x : Retest), s.flt.waiting[k]? = some x → s.mayRetest x = true → exec (.retestStart k) s =
    .next ((State.retestBegin { s with flt := { s.flt with waiting := s.flt.waiting.eraseIdx k, running := s.flt.running ++ [x] } } x).showRetests)) ∧
  (∀ (s : State) (k : Nat) (x : Retest), s.flt.waiting[k]? = some x → s.mayRetest x = false → exec (.retestStart k) s = .next s) ∧
  (∀ (s : State) (k aux nvm : Nat) (x : Retest), s.flt.running[k]? = some x → x.again = false → x.cause ≠ 0x5803 →
    exec (.retestEnd k true aux nvm) s =
      .next ((((State.finishRetest { s with flt := { s.flt with running := s.flt.running.eraseIdx k } } x ⟨true, aux, nvm⟩ false).retestAfter
        x true).showRetests.settleRetired).kickLoads)) ∧
  (∀ (s : State) (k : Nat) (x : Retest), s.flt.waiting[k]? = some x → classOf x.cause = 5 → x.again = false →
    x.cause ≠ 0x2802 → exec (.retestIntervalTimeout k) s =
      .next ((State.finishRetest { s with flt := { s.flt with waiting := s.flt.waiting.eraseIdx k } } x ⟨true, 0, 0⟩ true).showRetests)) ∧
  (∀ s : State, exec .logBucketRefill s = .next { s with flt := { s.flt with bucket := min 64 (s.flt.bucket + 1) } }) ∧
  (∀ (s : State) (i : Init) (b : Nat), s.grants i (isBay i b || isBay i 0) = true → exec (.fltnNtfPop i b) s =
    .next (State.showNote { s with flt := { s.flt with notes := updAt s.flt.notes b (fun l => l.drop 1) } } b)) ∧
  (∀ (s t : State) (i : Init), s.grants i (isBay i 0) = true → t = (s.put R.FLT_INJ_STAT.STATUS 0).put R.FLT_INJ_STAT.RESULT 0 →
    t.on R.FLT_POLICY.INJECT = false → exec (.fltInjGo i) s =
      .next (((t.put R.FLT_INJ_STAT.STATUS 3).put R.FLT_INJ_STAT.RESULT 1).flag R.FLT_IRQ_PEND.INJ_DONE true)) ∧
  (∀ (s t u : State) (i : Init) (c r : Nat), s.grants i (isBay i 0) = true → t = (s.put R.FLT_INJ_STAT.STATUS 0).put R.FLT_INJ_STAT.RESULT 0 →
    t.on R.FLT_POLICY.INJECT = true → c = t.get R.FLT_INJ_CAUSE.CAUSE → r = t.get R.FLT_INJ_RES.RESOURCE →
    causeClass c ≠ none → resExists c r = true → t.get R.FLT_INJ_CAUSE.MODE = 0 →
    (t.flt.running ++ t.flt.waiting).any (onResource c r) = false →
    u = { t with flt := { t.flt with injecting := t.flt.injecting.filter (fun (x : Nat × Nat × Nat) => x.1 != 4) ++ [(4, c, r)] } } →
    exec (.fltInjGo i) s = .next (u.reportN 4 { cause := c, res := r, detail := 0, stamp := u.now, bay := (u.resOwner c r).getD 0, injected := true, forced := false }))

/-- Mailbox commands. -/
def Obligations.Mailboxes : Prop :=
  (∀ (s u : State) (i : Init) (m d : Nat) (w : Word), s.grants i (!(fromAfar i) && s.mbxMay i.bay m d) = true →
    (s.mbxQ m d).discard = false → (s.mbxQ m d).isOpen = false → (s.mbxQ m d).words < 16 → u = s.newMsg m d →
    exec (.txData i m d w) s = .next (u.setMbx m d { s.mbxQ m d with late := false, opn := (s.mbxQ m d).opn ++ [w], isOpen := true })) ∧
  (∀ (s : State) (i : Init) (m d : Nat) (w : Word), s.grants i (!(fromAfar i) && s.mbxMay i.bay m d) = true →
    (s.mbxQ m d).discard = false → (s.mbxQ m d).isOpen = true → (s.mbxQ m d).words < 16 →
    exec (.txData i m d w) s = .next (s.setMbx m d { s.mbxQ m d with opn := (s.mbxQ m d).opn ++ [w], isOpen := true })) ∧
  (∀ (s : State) (i : Init) (m d : Nat) (w : Word), s.grants i (!(fromAfar i) && s.mbxMay i.bay m d) = true →
    (s.mbxQ m d).discard = false → (s.mbxQ m d).isOpen = true → (s.mbxQ m d).words < 16 →
    exec (.txLast i m d w) s = .next ((s.setMbx m d { s.mbxQ m d with
      msgs := (s.mbxQ m d).msgs ++ [(s.mbxQ m d).opn ++ [w]], opn := [], isOpen := false, credit := true }).linksBound)) ∧
  (∀ (s t : State) (i : Init) (m d : Nat) (w : Word), s.grants i (!(fromAfar i) && s.mbxMay i.bay m d) = true →
    (s.mbxQ m d).discard = false → (s.mbxQ m d).isOpen = true → 16 ≤ (s.mbxQ m d).words →
    t = (s.setMbx m d { s.mbxQ m d with opn := [], isOpen := false, discard := true }).mbxStatus m d 3 0x0811 →
    exec (.txData i m d w) s = .next ((t.flag (R.MBX_TX_STAT.OVF m d) true).report (ownerOr0 (t.mbxSide m d)) 0x1001 m d)) ∧
  (∀ (s : State) (i : Init) (m d : Nat), s.grants i (!(fromAfar i) && s.mbxMay i.bay m d) = true →
    (s.mbxQ m d).credit = true → s.binding m = none → exec (.mbxDb i m d) s =
      .next (((s.setMbx m d { s.mbxQ m d with credit := false }).flag (R.MBX_IRQ.DB m (1 - d)) true).linksBound)) ∧
  (∀ (s : State) (i : Init) (m d : Nat), s.grants i (!(fromAfar i) && s.mbxMay i.bay m d) = true →
    (s.mbxQ m d).credit = false → exec (.mbxDb i m d) s = .next ((s.report (ownerOr0 (s.mbxSide m d)) 0x1002 m d).linksBound)) ∧
  (∀ (s : State) (i : Init) (m d : Nat) (x : List Word) (y : List (List Word)),
    s.grants i (!(fromAfar i) && s.mbxMay i.bay m d) = true → s.on (R.MBX_TX_MSG.VALID m d) = true →
    s.get (R.MBX_TX_MSG.STATUS m d) = 0 → (s.mbxQ m d).isOpen = false → (s.mbxQ m d).msgs = x :: y →
    y ≠ [] ∨ ((s.mbxQ m d).pos = 0 ∧ (s.mbxQ m d).sending = false) → exec (.recall i m d) s =
      .next ((s.setMbx m d { s.mbxQ m d with msgs := (x :: y).dropLast }).mbxStatus m d 2 0)) ∧
  (∀ (s u : State) (i : Init) (m d : Nat) (w v : Word) (x : List Word) (y : List (List Word)), u = s.reply1 0 →
    u.grants i (!(fromAfar i) && s.mbxMay i.bay m d) = true → (u.mbxQ m (1 - d)).msgs = (w :: v :: x) :: y →
    exec (.rxData i m d) s = .next (((u.setMbx m (1 - d) { u.mbxQ m (1 - d) with
      msgs := (v :: x) :: y, pos := (u.mbxQ m (1 - d)).pos + 1 }).linksHeld).reply [w])) ∧
  (∀ (s u : State) (i : Init) (m d : Nat) (w : Word) (y : List (List Word)), u = s.reply1 0 →
    u.grants i (!(fromAfar i) && s.mbxMay i.bay m d) = true → (u.mbxQ m (1 - d)).msgs = [w] :: y →
    exec (.rxData i m d) s = .next (((u.mbxTaken m (1 - d) (u.mbxQ m (1 - d))).linksHeld).reply [w])) ∧
  (∀ (s : State) (m : Nat), (s.binding m).isSome = true → (s.mbxQ m 0).sending = true → (s.mbxQ m 0).msgs ≠ [] →
    exec (.boundMessageAccept m) s = .next (s.mbxTaken m 0 (s.mbxQ m 0))) ∧
  (∀ (s t : State) (m why : Nat) (x : List Word), (s.binding m).isSome = true → (s.mbxQ m 0).sending = true →
    (s.mbxQ m 0).msgs = [x] → (s.mbxQ m 0).isOpen = false → s.get (R.MBX_TX_MSG.STATUS m 0) = 0 → why ≠ 0 →
    t = ((s.setMbx m 0 { s.mbxQ m 0 with msgs := [], pos := 0, sending := false }).bellsDown m).mbxStatus m 0 3 0x0812 →
    exec (.boundMessageRefused m why) s = .next (t.report (ownerOr0 (t.mbxSide m 0)) 0x1004 m why))

/-- Queue commands. -/
def Obligations.QueueEnds : Prop :=
  (∀ (s : State) (i : Init) (q e v : Nat), s.grants i (s.queueMay i q e) = true → s.endOpen i q e = true →
    (v % 65536 + 65536 - s.get (R.QMGR_FETCH.FETCH q e)) % 65536 ≤ s.ringSize q e →
    exec (.queuePost i q e v) s = .next (s.put (R.QMGR_POST.POST q e) v)) ∧
  (∀ (s : State) (i : Init) (q e v : Nat), s.grants i (s.queueMay i q e) = true → s.endOpen i q e = true →
    s.ringSize q e < (v % 65536 + 65536 - s.get (R.QMGR_FETCH.FETCH q e)) % 65536 → exec (.queuePost i q e v) s =
      .next (s.report (ownerOr0 (s.queueEnd q e)) 0x1401 q (e + 4 + 65536 * (v % 65536)))) ∧
  (∀ (s : State) (i : Init) (q e v : Nat), s.grants i (s.queueMay i q e) = true → s.endOpen i q e = false →
    exec (.queuePost i q e v) s = .next s ∧ exec (.queueAbort i q e v) s = .next s ∧ exec (.queueEn i q e true) s = .next s) ∧
  (∀ (s : State) (i : Init) (q e : Nat), s.grants i (s.queueMay i q e) = true → s.endOpen i q e = true →
    s.on (R.QMGR_CTRL.EN q e) = false → exec (.queueEn i q e true) s =
      .next ((((((s.put (R.QMGR_POST.POST q e) 0).put (R.QMGR_FETCH.FETCH q e) 0).put (R.QMGR_CPL.HEAD q e) 0).put
        (R.QMGR_CPL.TAIL q e) 0).put (R.QMGR_CTRL.EN q e) 1).showEnd q e)) ∧
  (∀ (s u : State) (i : Init) (q e : Nat), s.grants i (s.queueMay i q e) = true → s.endOpen i q e = true →
    s.on (R.QMGR_CTRL.EN q e) = true → u = s.put (R.QMGR_CTRL.EN q e) 0 → (u.qEnd q e).inflight = [] →
    exec (.queueEn i q e false) s = .next ((u.putEnd q e { u.qEnd q e with aborts := [] }).showEnd q e)) ∧
  (∀ (s : State) (i : Init) (q e x h : Nat), s.grants i (s.queueMay i q e) = true → s.endOpen i q e = true → x < 65536 →
    h = s.get (R.QMGR_CPL.HEAD q e) → (x + 65536 - h) % 65536 < (s.get (R.QMGR_POST.POST q e) + 65536 - h) % 65536 →
    (s.qEnd q e).inflight.find? (fun d => d.idx == x) = none → exec (.queueAbort i q e x) s =
      .next (s.putEnd q e { s.qEnd q e with aborts := (s.qEnd q e).aborts ++ [x] })) ∧
  (∀ (s u : State) (q e f a b : Nat), s.mayFetch q e = true → f = s.get (R.QMGR_FETCH.FETCH q e) →
    (f + 65536 - s.get (R.QMGR_CPL.TAIL q e)) % 65536 ≠ s.ringSize q e → s.endFull q e = false →
    u = (s.flag (R.QMGR_STAT.CPL_WAIT q e) false).flag (R.QMGR_STAT.QUOTA_WAIT q e) false →
    a = u.ringBase q e + 32 * (f % u.ringSize q e) → u.place q e a = .here b →
    u.bufOk (u.qInit q e).bay false b 32 = true → exec (.descriptorFetch q e) s =
      .next (((u.poisonHit b 32).fetched q e f (u.readMem b 32) (u.poisoned b 32)).agentsKick q e)) ∧
  (∀ (s : State) (q e j : Nat) (d p : Desc) (l : List Desc), (s.qEnd q e).inflight = d :: l → d.final = none → d.peer = some j →
    (s.qEnd q (1 - e)).inflight.find? (fun x => x.idx == j) = some p → s.isSource q e d = true →
    exec (.descriptorCompletion q e) s = .next ((s.finishCopy q e d p).pairAll q)) ∧
  (∀ (s : State) (q e : Nat), s.mayFetch q e = true → (s.get (R.QMGR_FETCH.FETCH q e) + 65536 - s.get (R.QMGR_CPL.TAIL q e)) % 65536 =
    s.ringSize q e → (s.qEnd q e).waitRaised = false → exec (.completionRingWait q e) s =
      .next (State.report (s.putEnd q e { s.qEnd q e with waitRaised := true }) (ownerOr0 (s.queueEnd q e)) 0x1403 q e))

/-- The time base. -/
def Obligations.TimeBase : Prop :=
  (∀ s : State, exec .steadyHalfwrap s = .next (s.put R.TIME_HALFWRAP.PEND (s.bays.foldl setBit (s.get R.TIME_HALFWRAP.PEND)))) ∧
  (∀ (s : State) (i : Init), fromAfar i = false → s.live i.bay = true → ∃ t : State, exec (.timeSteadyLo i) s = .next t ∧
    t.answer = [BitVec.ofNat 32 (s.now % 4294967296)] ∧ t.latchOf i = ⟨i.bay, i.kind, i.inst, s.time.q, s.traceQ⟩ ∧ t.mem = s.mem) ∧
  (∀ (s : State) (i : Init) (w : Word), s.live i.bay = true → s.hookWriter i = true →
    exec (.timeSrvRate i w) s = .next (s.setAdj w.toInt)) ∧
  (∀ (s : State) (i : Init) (w : Word), s.hookWriter i = false →
    exec (.timeSrvRate i w) s = .next s ∧ exec (.timeSrvCorr i w) s = .next s) ∧
  (∀ (s u : State) (i : Init) (w : Word), s.live i.bay = true → s.hookWriter i = true → u = s.put R.TIME_SRV_CORR_HI.CORR w.toNat →
    exec (.timeSrvCorr i w) s = .next (State.tevTriggers u (u.submitCorr
      (signed 64 (u.get R.TIME_SRV_CORR_LO.CORR + 4294967296 * w.toNat))))) ∧
  (∀ s u : State, s.on R.TIME_STATUS.SLEWING = true →
    u = State.showTime { s with time := { s.time with ofs := s.time.ofs + s.time.slew, slew := 0 } } →
    exec .slewEnd s = .next ((u.flag R.TIME_IRQ_PEND.SLEW_DONE true).journal 1)) ∧
  (∀ s u : State, s.cfg ≠ [] → s.clocked = true → s.time.state = .tracking → u = (((s.flag R.TIME_STATUS.SRC_OK false).flag
    R.TIME_IRQ_PEND.SRC_LOST true).report 0 0x1C03 0 (s.get R.TIME_CFG2.SOURCE)) →
    exec .timeSrcTimeout s = .next (State.showTime { u with time := { u.time with state := .freerun } })) ∧
  (∀ (s : State) (i : Init), s.grants i (isBay i 0) = true → s.get R.TIME_CFG2.SOURCE < 2 → s.time.state ≠ .invalid →
    0 ≤ (s.time.q : Int) + s.time.ofs + s.cmdAmt * qns →
    exec (.timeStep i) s = .next (State.tevTriggers s ((s.stepOfs (s.cmdAmt * qns) s.afterCmd 4).cmdStat 0))) ∧
  (∀ (s : State) (i : Init), s.grants i (isBay i 0) = true → s.get R.TIME_CFG2.SOURCE < 2 → s.time.state ≠ .invalid →
    -2147483647 ≤ s.cmdAmt → s.cmdAmt ≤ 2147483647 →
    exec (.timeSlew i) s = .next ((s.slewOfs s.cmdAmt s.afterCmd).cmdStat 0)) ∧
  (∀ (s : State) (i : Init), s.grants i (isBay i 0) = true → s.get R.TIME_CFG2.SOURCE < 2 → s.time.state = .invalid →
    0 ≤ s.cmdAmt → exec (.timeSet i) s =
      .next (State.tevTriggers s ((s.stepOfs (s.cmdAmt * qns - (s.time.q : Int) - s.time.ofs) s.afterCmd 5).cmdStat 0))) ∧
  (∀ (s : State) (i : Init), s.grants i (isBay i 0) = true → s.get R.TIME_CFG2.SOURCE < 2 → s.time.state = .invalid →
    exec (.timeSlew i) s = .next (s.cmdStat 1)) ∧
  (∀ s : State, s.clocked = true → exec .journalPeriodic s = .next (s.journal 0)) ∧
  (∀ (s u : State) (x d : Nat), s.clocked = true →
    d = (s.time.dup / 4294967296 ^^^ x) * 4294967296 + s.time.dup % 4294967296 → d ≠ s.time.q →
    u = { s with time := { s.time with dup := d } } → exec (.steadyCounterMismatch x) s =
      .next (u.report 0 0x1C05 0 ((s.time.q / 4294967296 ^^^ d / 4294967296) % 4294967296)))

/-- Time-event outputs and capture inputs. -/
def Obligations.TimeEventsAndCaptures : Prop :=
  (∀ (s u v : State) (i : Init) (n : Nat) (w : Word), s.grants i (s.holds i (44 + n)) = true →
    u = s.put (R.TEVn_TGT_HI.TGT n) w.toNat → u.on (R.TEVn_CTRL.EN n) = true → v = u.flag (R.TEVn_STAT.ARMED n) false →
    v.tevOk n = true → ∃ t : State, exec (.tevArm i n w) s = .next t ∧ t = (v.flag (R.TEVn_STAT.ARMED n) true).modTev n (fun x =>
      { x with next := v.tevTarget n, first := none, late := decide (v.tevTarget n < v.tevNow n + 64) })) ∧
  (∀ (s u : State) (i : Init) (n : Nat) (w : Word), s.grants i (s.holds i (44 + n)) = true →
    u = s.put (R.TEVn_TGT_HI.TGT n) w.toNat → u.on (R.TEVn_CTRL.EN n) = false → exec (.tevArm i n w) s = .next u) ∧
  (∀ (s : State) (n : Nat), s.clocked = true → s.on (R.TEVn_STAT.ARMED n) = true → (s.tevAt n).next ≤ s.tevNow n →
    s.live (ownerOr0 (s.ownPeriph (44 + n))) = true →
    exec (.tevFire n) s = .next ((s.tevFire n (s.tevAt n).late).adcTev n)) ∧
  (∀ (s : State) (n : Nat), s.on (R.TEVn_STAT.ARMED n) = false → exec (.tevFire n) s = .next s) ∧
  (∀ (s : State) (n : Nat), exec (.tevPulseEnd n) s = .next (s.modTev n (fun x => { x with pulse := false }))) ∧
  (∀ (s : State) (i : Init) (n : Nat), s.grants i (s.holds i (44 + n)) = true →
    exec (.tevDisarm i n) s = .next ((s.flag (R.TEVn_CTRL.EN n) false).flag (R.TEVn_STAT.ARMED n) false)) ∧
  (∀ (s : State) (n x b : Nat) (r : Bool), s.clocked = true → s.ownPeriph (52 + n) = some b → s.live b = true → x < 4294967296 →
    (s.get (R.TCAPn_CTRL.EDGE n)).testBit (if r then 0 else 1) = true → s.time.tcapLast.getD n none = none →
    (s.time.tcap.getD n []).length < 8 → exec (.tcapEdge n r x) s =
      .next (State.setTcap { s with time := { s.time with tcapLast := updAt s.time.tcapLast n (fun _ => some x) } } n
        (s.time.tcap.getD n [] ++ [(x, r)]))) ∧
  (∀ (s : State) (n x b l : Nat) (r : Bool), s.clocked = true → s.ownPeriph (52 + n) = some b → s.live b = true → x < 4294967296 →
    (s.get (R.TCAPn_CTRL.EDGE n)).testBit (if r then 0 else 1) = true → s.time.tcapLast.getD n none = some l →
    (x + 4294967296 - l) % 4294967296 < 8 → exec (.tcapEdge n r x) s = .next (s.flag (R.TCAPn_STAT.GLITCH n) true)) ∧
  (∀ (s : State) (i : Init) (n : Nat), s.grants i (s.holds i (52 + n)) = true → exec (.tcapStamp i n) s =
    .next ((s.reply1 ((s.time.tcap.getD n []).headD (0, false)).1).setTcap n ((s.time.tcap.getD n []).drop 1)))

/-- Schedule contexts. -/
def Obligations.ScheduleContexts : Prop :=
  (∀ (s : State) (n : Nat) (x : Ctx), s.ctx n = some x → x.mode ≠ 2 → exec (.cycleStart n) s = .next (s.cycleStart n)) ∧
  (∀ (s t : State) (n : Nat) (x : Ctx), s.ctx n = some x → x.mode = 2 → t = s.cycleStart n →
    exec (.cycleStart n) s = .next (t.canCycle (t.get (R.QDRn_ALIGN.REF_PORT n)))) ∧
  (∀ (s : State) (n w busy : Nat) (r : List Byte), s.winRec n w = some r → C.QDRS1.PORT r < 4 → exec (.windowStart n w busy) s =
    .next (s.forEach (winPorts r) (fun pc t => t.winOpenOn n r (busy.testBit pc.2) pc))) ∧
  (∀ (s : State) (n w x y : Nat), s.winRec n w = none → exec (.windowStart n w x) s = .next s ∧ exec (.windowEnd n w x y) s = .next s) ∧
  (∀ (s u : State) (n w a b : Nat) (r : List Byte) (x y : Ctx), s.winRec n w = some r → s.ctx n = some x → x.mode ≠ 2 →
    C.QDRS1.CHAN r ≠ 2 → u = s.forEach (winPorts r) (fun pc t => t.winEndOn n r (if pc.2 = 0 then a else b) pc.1) →
    u.ctx n = some y → exec (.windowEnd n w a b) s = .next u) ∧
  (∀ (s u : State) (n k c : Nat) (x : Ctx), s.ctx n = some x → s.on (R.QDRn_POS.RUNNING n) = true → c = s.get (R.QDRn_POS.CYCLE n) →
    x.mat.insts.any (fun r => C.QDRS2.CYCLE r == c && C.QDRS2.INST r == k) = true →
    u = ((s.put (R.QDRn_INST_STAMP.STAMP n) s.stamp).put (R.QDRn_INST_ID.INST n) k).put (R.QDRn_INST_ID.CYCLE n) c →
    u.live (u.ctxBay n) = true → exec (.commonIoInstant n k) s = .next ((u.instantIn n k).instantOut n k)) ∧
  (∀ (s : State) (i : Init) (n v : Nat) (x : Ctx), s.grants i (s.holds i (38 + n)) = true → s.alignEngine n = none →
    s.ctx n = some x → x.mode = 1 → exec (.trimReq i n v) s = .next (((s.setCtx n { x with
      trim := signed 32 v * qns, trimming := true, trimRem := 0 }).putI
      (R.QDRn_ALIGN_ERR.NS n) (signed 32 v)).alignErr n (signed 32 v))) ∧
  (∀ (s : State) (i : Init) (n v : Nat) (x : Ctx), s.grants i (s.holds i (38 + n)) = true → s.alignEngine n = none →
    s.ctx n = some x → x.mode = 0 → exec (.trimReq i n v) s = .next s) ∧
  (∀ (s : State) (n : Nat) (x : Ctx), s.ctx n = some x → x.trimming = true → exec (.trimDone n) s =
    .next ((s.setCtx n { x with ofs := x.ofs + x.trim, trim := 0, trimming := false }).flag (R.QDRn_IRQ_PEND.TRIM_DONE n) true))

/-- Ethernet links. -/
def Obligations.EthernetLinks : Prop :=
  (∀ (s : State) (i : Init) (n : Nat), s.grants i (s.holds i (10 + n)) = true → s.portEngine n = none → s.ethMode n ≠ 0 →
    exec (.ethEn i n true) s = .next (s.flag (R.ETHn_CTRL.EN n) true)) ∧
  (∀ (s : State) (i : Init) (n : Nat) (v : Bool), s.grants i (s.holds i (10 + n)) = true → s.portEngine n = none →
    exec (.ethEn i n v) s = .next (s.ethEn n v)) ∧
  (∀ (s : State) (i : Init) (n e : Nat) (v : Bool), s.grants i (s.holds i (10 + n)) = true → s.portEngine n = some e →
    i.kind ≠ 1 ∨ i.inst ≠ e → exec (.ethEn i n v) s = .next s) ∧
  (∀ (s u : State) (n k : Nat), 2 ≤ n → s.on (R.ETHn_CTRL.EN n) = true → s.on (R.ETHn_STATUS.LINK n) = false →
    s.ethMode n = 2 → s.get (R.ETHn_CTRL.SPEED_SEL n) = 1 → u = s.ethCredits n → exec (.ethLinkChange n true k) s =
      .next ((((u.flag (R.ETHn_STATUS.LINK n) true).flag (R.ETHn_IRQ_PEND.LINK_CHG n) true).put (R.ETHn_STATUS.SPEED n) 1).ethHeads n)) ∧
  (∀ (s : State) (n k : Nat), s.on (R.ETHn_STATUS.LINK n) = false → exec (.ethLinkChange n false k) s = .next s) ∧
  (∀ (s u : State) (n r : Nat), 2 ≤ n → s.on (R.ETHn_CTRL.EN n) = true → s.get (R.ETHn_PHY_POLL.POLL_MS n) ≠ 0 →
    s.on (R.ETHn_STATUS.LINK n) = true → r.testBit 2 = false → u = s.ethLink n false (s.get (R.ETHn_STATUS.SPEED n)) →
    exec (.phyPoll n r) s = .next (u.report (u.ethBay n) 0x2403 n (r % 65536))) ∧
  (∀ (s u : State) (i : Init) (n p r o w : Nat), s.grants i (s.holds i (10 + n)) = true → s.portEngine n = none → 2 ≤ n →
    u = (((s.put (R.ETHn_MDIO_CMD.PHY n) p).put (R.ETHn_MDIO_CMD.REG n) r).put (R.ETHn_MDIO_CMD.OP n) o).put (R.ETHn_MDIO_CMD.WDATA n) w →
    u.on (R.ETHn_MDIO_STAT.BUSY n) = false → exec (.mdioGo i n p r o w) s =
      .next ((u.modEth n (fun x => { x with mdio := true })).flag (R.ETHn_MDIO_STAT.BUSY n) true)) ∧
  (∀ (s : State) (n d : Nat), (s.ethAt n).mdio = true → s.get (R.ETHn_MDIO_CMD.OP n) = 0 → exec (.mdioDone n d) s =
    .next (((s.modEth n (fun x => { x with mdio := false })).flag (R.ETHn_MDIO_STAT.BUSY n) false).put (R.ETHn_MDIO_STAT.RDATA n) d)) ∧
  (∀ (s u : State) (i : Init) (n : Nat), s.grants i (s.holds i (10 + n)) = true → u = s.reply [s.word (R.ETHn_PTPF_INFO.SEQ_ID n)] →
    exec (.ethnPtpfInfo i n) s = .next ((u.modEth n (fun x => { x with ptp := x.ptp.drop 1 })).showPtp n)) ∧
  (∀ (s u : State) (n : Nat), n < 2 → s.on (R.ETHn_STATUS.LINK n) = true → u = s.ethLink n false 0 →
    exec (.blockLockLoss n) s = .next (u.report (s.ethBay n) 0x2402 n n))

/-- Ethernet frames. -/
def Obligations.EthernetFrames : Prop :=
  (∀ (s u v w : State) (n k q : Nat) (d : Desc) (l : List Byte), q = 24 * n + k → u = s.ethPrune n → u.on (R.ETHn_CTRL.EN n) = true →
    u.get (R.ETHn_TXQk_CTRL.STAGED n k) < 2 → k < 8 → u.agentNext q 0 = some d → leAt d.aux 0 1 = 0 → 14 ≤ d.len →
    d.len ≤ u.ethMax n - 4 → u.agentRead q 0 d = (v, some l) → w = v.agentTake q 0 d.idx →
    w.on (R.ETHn_PRP_CTRL.PRP_EN n) = false → w.chan2Sender n k = false → exec (.ethFrameReady n k none) s =
      .next (w.ethStage n ⟨k, n, d.idx, 0, false, l ++ List.replicate (60 - l.length) 0, false, false, none, none⟩)) ∧
  (∀ (s u : State) (n : Nat) (f : EthFrame), u = (s.ethPrune n).ethCredits n → u.on (R.ETHn_CTRL.EN n) = true →
    u.on (R.ETHn_STATUS.LINK n) = true → u.on (R.ETHn_STATUS.OUT_OF_SERVICE n) = false → u.portTest 0x2401 n = false →
    u.portQuiet n = false → (u.ethAt n).pauseTo ≤ u.now → (u.ethAt n).staged.any (fun f => f.start.isSome) = false →
    u.ethPick n = some f → f.src < 4 → exec (.ethTxFrameStart n) s =
      .next ((u.modEth n (fun x => { x with staged := x.staged.map (fun g => if g = f then
        { g with start := some u.now, traced := if u.time.state = .invalid then none else some u.time.ofs } else g) })).modDesc
        (24 * f.src + f.k) 0 f.idx (fun d => { d with committed := true }))) ∧
  (∀ (s u : State) (n : Nat) (f : EthFrame), u = s.ethCredits n → (u.ethAt n).staged.find? (fun f => f.start.isSome) = some f →
    4 ≤ f.src → ptpAt f.data = none → u.get (R.ETHn_CTRL.LOOP n) = 0 →
    exec (.ethTxFrameDone n none) s = .next ((u.ethEnd n f true u.stamp 0).ethHeads n)) ∧
  (∀ (s : State) (n t : Nat) (d : List Byte) (x : Bool) (e : Option Nat), s.ethRxOn n = true → s.get (R.ETHn_CTRL.LOOP n) = 0 →
    exec (.ethRxFrame n d t false false x e) s =
      .next ((s.modEth n (fun x => { x with rxErrs := x.rxErrs + 1 })).inc (R.ETHn_RX_FCS_ERR.COUNT n))) ∧
  (∀ (s : State) (n t : Nat) (d : List Byte) (x : Bool) (e : Option Nat), s.ethRxOn n = true → s.get (R.ETHn_CTRL.LOOP n) = 0 →
    d.length < 64 → exec (.ethRxFrame n d t true false x e) s = .next (s.inc (R.ETHn_RX_RUNT.COUNT n))) ∧
  (∀ (s : State) (n t : Nat) (d : List Byte), s.ethRxOn n = true → s.get (R.ETHn_CTRL.LOOP n) = 0 → s.prpPair n = none →
    64 ≤ d.length → d.length ≤ s.ethMax n → exec (.ethRxFrame n d t true false true none) s = .next (s.noBuf n) ∧
      exec (.ethRxFrame n d t true false false none) s = .next (s.ethGood n d t)) ∧
  (∀ (s : State) (n t : Nat) (d : List Byte) (g p x : Bool) (e : Option Nat), s.ethRxOn n = false →
    exec (.ethRxFrame n d t g p x e) s = .next s)

/-- PRP tables and intervals. -/
def Obligations.EthernetIntervals : Prop :=
  (∀ (s u : State) (n a q : Nat) (x : PrpEntry), (s.ethAt n).prp.find? (fun x => x.sa == a && x.seq == q) = some x →
    u = s.modEth n (fun y => { y with prp := y.prp.filter (fun z => !(z.sa == a && z.seq == q)) }) →
    exec (.prpEntryExpiry n a q) s = .next (
      if x.lans = 1 then (u.modEth n (fun y => { y with missB := y.missB + 1 })).inc (R.ETHn_PRP_MISS_B.COUNT n)
      else if x.lans = 2 then (u.modEth n (fun y => { y with missA := y.missA + 1 })).inc (R.ETHn_PRP_MISS_A.COUNT n) else u)) ∧
  (∀ (s : State) (n : Nat), s.on (R.ETHn_PRP_CTRL.PRP_EN n) = true → exec (.prpMissInterval n) s =
    .next (((s.modEth n (fun y => { y with missA := 0, missB := 0 })).prpMiss n 0 (s.ethAt n).missA).prpMiss n 1 (s.ethAt n).missB)) ∧
  (∀ (s u : State) (n q : Nat) (l : List Byte), s.on (R.ETHn_PRP_CTRL.PRP_EN n) = true → s.on (R.ETHn_PRP_CTRL.SUP_EN n) = true →
    s.on (R.ETHn_CTRL.EN n) = true → q = (s.ethAt n).prpSeq → l = s.supFrame n q →
    u = s.modEth n (fun x => { x with prpSeq := (q + 1) % 65536 }) → exec (.prpSupervisionSend n) s =
      .next ((u.ethStage n ⟨0, 4, q, 0, true, l ++ prpTrailer q 0 l, false, false, none, none⟩).ethStage (n + 1)
        ⟨0, 4, q, 0, true, l ++ prpTrailer q 1 l, false, false, none, none⟩)) ∧
  (∀ (s u : State) (n : Nat), u = s.modEth n (fun y => { y with rxFrames := 0, rxErrs := 0 }) →
    exec (.fcsErrorInterval n) s = .next (if (s.ethAt n).rxFrames < 1000000 * (s.ethAt n).rxErrs then
      (u.flag (R.ETHn_IRQ_PEND.FCS_HIGH n) true).report (u.ethBay n) 0x2401 n (s.ethAt n).rxErrs else u))

/-- CAN controllers. -/
def Obligations.CanControllers : Prop :=
  (∀ (s : State) (i : Init) (n : Nat), s.grants i (s.holds i (14 + n)) = true → s.portEngine (4 + n) = none → s.canTwin n = false →
    s.timingBad n = true → exec (.canEn i n true) s =
      .next ((s.flag (R.CANn_CTRL.EN n) false).flag (R.CANn_STATUS.TIMING_ERR n) true)) ∧
  (∀ (s : State) (i : Init) (n : Nat), s.grants i (s.holds i (14 + n)) = true → s.portEngine (4 + n) = none → s.canTwin n = false →
    s.timingBad n = false → s.on (R.CANn_CTRL.EN n) = false → exec (.canEn i n true) s =
      .next (((s.flag (R.CANn_CTRL.EN n) true).flag (R.CANn_STATUS.TIMING_ERR n) false).modCan n (fun x => { x with joining := true }))) ∧
  (∀ (s u : State) (n : Nat), (s.canAt n).joining = true → u = s.modCan n (fun x => { x with joining := false }) →
    exec (.canIntegrationDone n) s = .next (u.canFresh n)) ∧
  (∀ (s : State) (i : Init) (n b : Nat), s.grants i (s.holds i (14 + n)) = true → s.portEngine (4 + n) = none → b < 32 →
    s.on (R.CANn_QBIND.TXQ_EN n) = false → exec (.txreq i n (2 ^ b)) s = .next (s.canRequest n b) ∧
      exec (.txabort i n (2 ^ b)) s = .next (s.canAbort n b)) ∧
  (∀ (s : State) (n b : Nat), s.bufPending n b = true → (s.canAt n).committed.testBit b = false →
    s.canAbort n b = s.canFinal n b 2 0 0 s.stamp) ∧
  (∀ (s : State) (i : Init) (n : Nat), s.grants i (s.holds i (14 + n)) = true → s.portEngine (4 + n) = none →
    s.get (R.CANn_STATUS.STATE n) = 2 → (s.canAt n).verdict = false → exec (.recover i n) s =
      .next ((s.modCan n (fun x => { x with recover := true })).flag (R.CANn_CTRL.RECOVER n) true)) ∧
  (∀ (s : State) (i : Init) (n : Nat), s.grants i (s.holds i (14 + n)) = true → s.portEngine (4 + n) = none →
    s.get (R.CANn_STATUS.STATE n) = 2 → (s.canAt n).verdict = true → exec (.recover i n) s =
      .next ((s.flag (R.CANn_STATUS.RECOVERING n) true).flag (R.CANn_CTRL.RECOVER n) false)) ∧
  (∀ (s : State) (n : Nat), s.on (R.CANn_STATUS.RECOVERING n) = true →
    exec (.busOffRecoveryEnd n) s = .next ((s.flag (R.CANn_STATUS.RECOVERING n) false).canFresh n)) ∧
  (∀ (s : State) (i : Init) (n : Nat), s.grants i (s.holds i (14 + n)) = true → s.portEngine (4 + n) = none →
    exec (.cannTscLatch i n) s = .next (((s.put (R.CANn_LATCH_TSC.COUNT n) (s.canTsc n)).put (R.CANn_LATCH_ST_LO.NS n) s.now).put
      (R.CANn_LATCH_ST_HI.NS n) (s.now / 4294967296))) ∧
  (∀ (s : State) (i : Init) (n z f : Nat), s.grants i (s.holds i (14 + n)) = true → s.portEngine (4 + n) = none →
    z = max 1 (min 64 (s.get (R.CANn_RXF_CFG.SIZE n))) → f = s.get (R.CANn_RXF_STAT.FILL n) → f ≠ 0 → exec (.cannRxfPop i n) s =
      .next ((s.put (R.CANn_RXF_STAT.FILL n) (f - 1)).put (R.CANn_RXF_STAT.GET n) ((s.get (R.CANn_RXF_STAT.GET n) + 1) % z)))

/-- CAN frames. -/
def Obligations.CanFrames : Prop :=
  (∀ (s u : State) (n c b : Nat), u = (s.canFeed (s.canCfg n)).canFeed n → u.canActive n = true → (u.canAt n).tx = none →
    u.inForce (4 + n) = none → u.on (R.CANn_STATUS.OUT_OF_SERVICE n) = false → u.portTest 0x2802 n = false → u.canMode n ≠ 1 →
    u.canPick n = some (c, b) → exec (.canFrameStart n none) s = .next (u.canDrive n c b 0)) ∧
  (∀ (s u : State) (n : Nat), u = (s.canFeed (s.canCfg n)).canFeed n → u.canActive n = false →
    exec (.canFrameStart n none) s = .next u) ∧
  (∀ (s u v w : State) (n c b x l sof k : Nat) (d : Bool), u = s.canPrune n → (u.canAt n).tx = some ⟨c, b, x, 0⟩ → (u.canAt n).forceErr = false →
    v = (u.modCan n (fun x => { x with tx := none, forceErr := false })).inc (R.CANn_ARB_LOST.COUNT n) →
    v.bit (R.CANn_TXABORT.ABORT c) b = false → v.on (R.CANn_CTRL.ARB_EXCL (v.canCfg n)) = false →
    v.canFails n ⟨c, b, x, 0⟩ = (w, k) → exec (.canTxAttemptEnd n 1 l d sof) s =
      .next (if w.get (R.CANn_CTRL.RETRY (w.canCfg n)) < k then w.canFail n ⟨c, b, x, 0⟩ 2 else w)) ∧
  (∀ (s u v w : State) (n c b x l sof k : Nat) (d : Bool), u = s.canPrune n → (u.canAt n).tx = some ⟨c, b, x, 0⟩ → (u.canAt n).forceErr = false →
    l ≠ 3 → v = (((u.modCan n (fun x => { x with tx := none, forceErr := false })).canLec n l d).inc (R.CANn_ERR_FRAMES.COUNT n)).canState n
      ((u.modCan n (fun x => { x with tx := none, forceErr := false })).get (R.CANn_STATUS.TEC n) + 8)
      ((u.modCan n (fun x => { x with tx := none, forceErr := false })).get (R.CANn_STATUS.REC n)) →
    v.get (R.CANn_STATUS.STATE n) ≠ 2 → v.canFails n ⟨c, b, x, 0⟩ = (w, k) → exec (.canTxAttemptEnd n 2 l d sof) s =
      .next (if w.get (R.CANn_CTRL.RETRY (w.canCfg n)) < k then w.canFail n ⟨c, b, x, 0⟩ 1 else w)) ∧
  (∀ (s : State) (n a b c t l : Nat) (d : List Byte), s.canActive n = true → s.canMode n ≠ 2 →
    w1Fdf b = false → s.get (R.CANn_STATUS.REC n) = 0 → exec (.canRxFrameValid n a b c t d 0 l) s =
      .next ((s.canState n (s.get (R.CANn_STATUS.TEC n)) 0).canValid n a b c t d)) ∧
  (∀ (s u : State) (n k : Nat) (x : TwinEntry), (s.canAt n).twin.find? (fun x => x.key == k) = some x →
    u = s.modCan n (fun y => { y with twin := y.twin.filter (fun z => z.key != k) }) → exec (.twinEntryExpiry n k) s = .next (
      if x.buses = 1 then (u.modCan n (fun y => { y with missB := y.missB + 1 })).inc (R.CANn_TWIN_MISS.B n)
      else if x.buses = 2 then (u.modCan n (fun y => { y with missA := y.missA + 1 })).inc (R.CANn_TWIN_MISS.A n) else u)) ∧
  (∀ (s : State) (n : Nat), s.on (R.CANn_CTRL.TWIN_EN n) = true → exec (.twinMissInterval n) s =
    .next (((s.modCan n (fun y => { y with missA := 0, missB := 0 })).twinMiss n 0 (s.canAt n).missA).twinMiss n 1 (s.canAt n).missB))

/-- Serial channels. -/
def Obligations.SerialChannels : Prop :=
  (∀ (s : State) (i : Init) (n c : Nat), s.grants i (s.holds i (18 + n)) = true → s.portEngine (8 + n) = none →
    s.on (R.SERn_QBIND.TXQ_EN n) = false → (s.serAt n).txf.length < 32 → exec (.sernTxdata i n c) s =
      .next (((s.modSer n (fun x => { x with txf := x.txf ++ [c % 512] })).showSer n).serKick n)) ∧
  (∀ (s : State) (i : Init) (n c : Nat), s.grants i (s.holds i (18 + n)) = true → s.portEngine (8 + n) = none →
    32 ≤ (s.serAt n).txf.length → exec (.sernTxdata i n c) s = .next s) ∧
  (∀ (s u : State) (i : Init) (n : Nat), s.grants i (s.holds i (18 + n)) = true → u = s.reply [s.word (R.SERn_RXDATA.CHAR n)] →
    exec (.sernRxdata i n) s = .next ((u.modSer n (fun x => { x with rxf := x.rxf.drop 1 })).showSer n)) ∧
  (∀ (s : State) (n v t0 t1 c : Nat), s.serOn n = true → s.on (R.SERn_CTRL.LOOP n) = false → s.on (R.SERn_CTRL.RS485 n) = false →
    c = 8 + s.pinFilter (serRxd n) → exec (.serCharReceived n v t0 t1) s =
      .next (s.serReceive n (v % 4096) ((t0 - c) % 4294967296) ((t1 - c) % 4294967296))) ∧
  (∀ (s u v w : State) (n t c : Nat), u = s.serKick n → (u.serAt n).sending = some t → u.serSent n = (v, c) →
    w = ((v.modSer n (fun y => { y with sending := none })).inc (R.SERn_TX_CHARS.COUNT n)).showSer n →
    w.on (R.SERn_CTRL.LOOP n) = false → exec (.serCharSent n) s = .next (w.serKick n)) ∧
  (∀ (s u : State) (n : Nat), s.serOn n = true → s.get (R.SERn_IDLE.IDLE_TO n) ≠ 0 →
    u = (s.flag (R.SERn_IRQ_PEND.IDLE n) true).serDrain n → u.on (R.SERn_QBIND.RXQ_EN n) = false →
    exec (.serIdleTimeout n) s = .next u) ∧
  (∀ (s : State) (n : Nat), (s.serAt n).sending = none → exec (.deRelease n) s = .next (s.flag (R.SERn_STATUS.DE n) false)) ∧
  (∀ (s : State) (n t : Nat), (s.serAt n).sending = some t → exec (.deRelease n) s = .next s) ∧
  (∀ (s u : State) (n : Nat), u = s.modSer n (fun y => { y with chars := 0, errs := 0 }) → exec (.serErrorInterval n) s =
    .next (if (s.serAt n).chars < 10000 * (s.serAt n).errs then u.report (u.serBay n) 0x2C01 n (s.serAt n).errs else u))

/-- Viaduct lanes. -/
def Obligations.ViaductLinks : Prop :=
  (∀ (s : State) (l x : Nat), 2 ≤ l → l < 6 → s.laneUsed l = true → s.clocked = true → s.sys.lanesIdle = false →
    s.laneTest l = false → s.get (laneFld l) = 0 →
    exec (.vdtLaneTraining l 0 x) s = .next ((s.setB R.SYS_CLK_STATUS.LANE_LOCK l).put (laneFld l) 1)) ∧
  (∀ (s : State) (l x : Nat), 2 ≤ l → l < 6 → s.laneUsed l = true → s.clocked = true → s.sys.lanesIdle = false →
    s.laneTest l = false → s.get (laneFld l) = 1 →
    exec (.vdtLaneTraining l 1 x) s = .next ((s.put (laneFld l) 2).modLane l (fun x => { x with downs := 0 }))) ∧
  (∀ (s : State) (l x : Nat), 2 ≤ l → l < 4 → s.laneUsed l = true → s.clocked = true → s.sys.lanesIdle = false →
    s.laneTest l = false → s.get (laneFld l) = 2 → x % 2 ≠ s.get R.SYS_STRAPS.PAIR_ID → (s.laneAt l).clash = false →
    exec (.vdtLaneTraining l 2 x) s = .next (s.put (laneFld l) 3)) ∧
  (∀ (s : State) (l x : Nat), 2 ≤ l → l < 4 → s.laneUsed l = true → s.clocked = true → s.sys.lanesIdle = false →
    s.laneTest l = false → s.get (laneFld l) = 2 → x % 2 = s.get R.SYS_STRAPS.PAIR_ID →
    exec (.vdtLaneTraining l 2 x) s = .next (((s.modLane l (fun x => { x with clash := true })).flag R.VDT_STATUS.ID_CLASH true).flag
      R.VDT_IRQ_PEND.ID_CLASH true)) ∧
  (∀ (s : State) (l x : Nat), 2 ≤ l → l < 6 → s.laneUsed l = true → s.clocked = true → s.sys.lanesIdle = false →
    s.laneTest l = false → s.get (laneFld l) = 3 → exec (.vdtLaneTraining l 3 x) s = .next (s.laneRise l)) ∧
  (∀ (s : State) (l : Nat), 2 ≤ l → l < 6 → s.get (laneFld l) = 2 ∨ s.get (laneFld l) = 3 → (s.laneAt l).clash = false →
    exec (.vdtLaneTimeout l) s = .next (s.laneDown l)) ∧
  (∀ (s : State) (l : Nat), 2 ≤ l → l < 6 → s.laneUp l = true → exec (.vdtLaneDown l) s = .next (s.laneDown l)) ∧
  (∀ (s : State) (l q : Nat), s.laneUp l = true → exec (.vdtAck l q) s = .next ((s.modHop (hopOf l) (fun x =>
      { x with unacked := x.unacked.filter (fun f => seqLt q f.seq) })).hopKick (hopOf l)) ∧
    exec (.vdtNak l q) s = .next (s.replayFrom (hopOf l) q)) ∧
  (∀ (s : State) (l q : Nat), s.laneUp l = false → exec (.vdtAck l q) s = .next s ∧ exec (.vdtNak l q) s = .next s) ∧
  (∀ (s : State) (h : Nat), 0 < (s.hopAt h).unsent → exec (.ackTimer h) s = .next (s.sendAck h)) ∧
  (∀ (s : State) (h : Nat) (f : LFrame) (l : List LFrame), (s.hopAt h).unacked = f :: l →
    exec (.replayTimeout h) s = .next (s.replayFrom h f.seq)) ∧
  (∀ s : State, exec .hbSend s = .next (s.forEach (([2, 3, 4, 5] : List Nat).filter s.laneUp) (fun l t =>
    (t.modLane l (fun x => { x with ctl := x.ctl.filter (fun g => g.ftype != 1) ++
      [if l < 4 then t.vdtHbFrame l else t.trsHbFrame l] })).laneKick l))) ∧
  (∀ (s : State) (l t p : Nat) (d : List Byte), l < 4 → s.laneUp l = true → exec (.vdtHb l t p d) s = .next (s.hbTaken l t p d)) ∧
  (∀ (s : State) (l t p : Nat) (d : List Byte), s.laneUp l = false → exec (.vdtHb l t p d) s = .next s)

/-- Viaduct records. -/
def Obligations.ViaductRecords : Prop :=
  (∀ (s u : State) (l q b g a r p : Nat) (x : List Byte), l < 4 → s.hopTake l q = (u, true) → u.get (R.VDTn_BAY_GEN.GEN b) ≤ g →
    exec (.mrec l q b g a r p x) s = .next ((u.adoptGen g).applyMirror b a r p 0x10 q x)) ∧
  (∀ (s u : State) (l q b g a r p : Nat) (x : List Byte), l < 4 → s.hopTake l q = (u, true) → g < u.get (R.VDTn_BAY_GEN.GEN b) →
    exec (.mrec l q b g a r p x) s = .next (u.stale b 1 0x10 q) ∧ exec (.brec l q b g a r p x) s = .next (u.stale b 1 0x11 q)) ∧
  (∀ (s u : State) (l q b g a r p : Nat) (x : List Byte), l < 4 → s.hopTake l q = (u, false) →
    exec (.mrec l q b g a r p x) s = .next u) ∧
  (∀ (s u v : State) (l q b g a r p : Nat) (x : List Byte), l < 4 → s.hopTake l q = (u, true) → u.get (R.VDTn_BAY_GEN.GEN b) ≤ g →
    v = (u.adoptGen g).applyMirror b a r p 0x11 q x → v.roleOf b = 3 → exec (.brec l q b g a r p x) s =
      .next (v.put (R.VDTn_SYNC.LINES_LEFT b) (v.get (R.VDTn_SYNC.LINES_LEFT b) - 1))) ∧
  (∀ (s u : State) (b : Nat) (x : Nat × Nat × Nat) (t : List (Nat × Nat × Nat)), s.link.vdt.mq.getD b [] = x :: t →
    u = (s.modVdt (fun v => { v with mq := updAt v.mq b (fun _ => t) })).put (R.VDTn_MQ.FILL b) (min 32 t.length) →
    u.get R.VDT_STATUS.LANE_UP ≠ 0 → exec (.mirrorRecordSend b) s = .next (u.sendOn 0 (u.mirrorFrame false b x.1 x.2.1 x.2.2))) ∧
  (∀ (s : State) (b : Nat), s.get (R.VDTn_MQ.FILL b) = 32 → exec (.mirrorQueueFullTimeout b) s =
    .next ((s.flag R.VDT_IRQ_PEND.BACKLOG true).report (ownerOr0 (s.ownPeriph 42)) 0x3406 b 10)) ∧
  (∀ (s u v : State) (l q b g m f : Nat) (r : List Byte) (w : List Word), l < 4 → s.hopTake l q = (u, true) →
    u.get (R.VDTn_BAY_GEN.GEN b) ≤ g → v = u.adoptGen g → v.binding m = some r → C.LINK4.LINKSEL r = 0 → C.LINK4.REMOTE_MBX r = f →
    v.live (C.LINK4.BAY r) = true → exec (.vdtMsg l q b g m f w) s =
      .next ((v.modVdt (fun x => { x with held := x.held ++ [⟨m, f, w, 8, b, g⟩] })).vdtHeld)) ∧
  (∀ (s u v : State) (l q b g m f : Nat) (w : List Word), l < 4 → s.hopTake l q = (u, true) → u.get (R.VDTn_BAY_GEN.GEN b) ≤ g →
    v = u.adoptGen g → v.binding m = none → exec (.vdtMsg l q b g m f w) s = .next (v.sendMrsp b f 2)) ∧
  (∀ (s u v : State) (l q b g m : Nat), l < 4 → s.hopTake l q = (u, true) → u.get (R.VDTn_BAY_GEN.GEN b) ≤ g →
    v = u.adoptGen g → (v.mbxQ m 0).sending = true → (v.mbxQ m 0).msgs ≠ [] →
    exec (.mrsp l q b g m 1) s = .next ((v.mbxTaken m 0 (v.mbxQ m 0)).vdtBound)) ∧
  (∀ (s u v : State) (l q b g m : Nat) (r : List Byte), l < 4 → s.hopTake l q = (u, true) → u.get (R.VDTn_BAY_GEN.GEN b) ≤ g →
    v = u.adoptGen g → v.binding m = some r → v.live (C.LINK4.BAY r) = true → v.link.vdt.held.any (fun x => x.mbx == m) = false →
    exec (.vdtDb l q b g m) s = .next (v.flag (R.MBX_IRQ.DB m 0) true))

/-- Viaduct roles. -/
def Obligations.ViaductRoles : Prop :=
  (∀ (s u v : State) (l q b g : Nat), l < 4 → s.hopTake l q = (u, true) → u.get (R.VDTn_BAY_GEN.GEN b) ≤ g →
    v = (u.adoptGen g).put (R.VDTn_BAY_GEN.GEN b) g → v.paired b = true → v.roleOf b = 1 →
    exec (.vdtClaim l q b g) s = .next ((v.enterSync b).hopKick 0)) ∧
  (∀ (s u v : State) (l q b g : Nat), l < 4 → s.hopTake l q = (u, true) → u.get (R.VDTn_BAY_GEN.GEN b) ≤ g →
    v = u.adoptGen g → v.paired b = true → exec (.yield l q b g) s = .next (v.declareBay b)) ∧
  (∀ (s u v : State) (l q b g : Nat), l < 4 → s.hopTake l q = (u, true) → u.get (R.VDTn_BAY_GEN.GEN b) ≤ g →
    v = u.adoptGen g → v.roleOf b = 3 → v.on (R.VDTn_BULKQ.EN b) = true →
    exec (.synced l q b g) s = .next ((v.put (R.VDTn_SYNC.LINES_LEFT b) 0).setRole b 4)) ∧
  (∀ (s u v : State) (l q b g : Nat), l < 4 → s.hopTake l q = (u, true) → u.get (R.VDTn_BAY_GEN.GEN b) ≤ g →
    v = u.adoptGen g → v.roleOf b = 2 → exec (.resyncReq l q b g (v.regCrc b)) s =
      .next (((v.modVdt (fun x => { x with bulk := updAt x.bulk b (fun _ => some 0) })).put (R.VDTn_SYNC.LINES_LEFT b)
        (min 65535 (v.mirrorLines b).length)).hopKick 0)) ∧
  (∀ (s u v : State) (l q b g c : Nat), l < 4 → s.hopTake l q = (u, true) → u.get (R.VDTn_BAY_GEN.GEN b) ≤ g →
    v = u.adoptGen g → v.roleOf b = 2 → c ≠ v.regCrc b → exec (.resyncReq l q b g c) s = .next ((v.sendRole b 5).hopKick 0)) ∧
  (∀ (s u v : State) (l q b g : Nat), l < 4 → s.hopTake l q = (u, true) → u.get (R.VDTn_BAY_GEN.GEN b) ≤ g → v = u.adoptGen g →
    exec (.refuse l q b g) s = .next ((v.modVdt (fun x => { x with
      refused := x.refused ++ [(b, v.get R.SEC_CONFIG_ID.CONFIG_ID, v.get R.VDT_PARTNER_CFG.CONFIG_ID)] })).stale b 2 0x12 q)) ∧
  (∀ (s u : State), s.on R.VDT_STATUS.PAIR_EN = true → 2 ≤ s.link.vdt.misses → s.link.vdt.lost = false → s.link.vdt.hbSeen = true →
    u = ((s.modVdt (fun v => { v with misses := s.link.vdt.misses + 1 })).inc R.VDT_HB_MISS.COUNT).flag R.VDT_STATUS.PARTNER false →
    u.on R.VDT_STATUS.WITNESS = false →
    exec .heartbeatMiss s = .next (u.declareLost 0)) ∧
  (∀ (s : State) (v : Bool), s.on R.VDT_STATUS.WITNESS = v → exec (.witnessChange v) s = .next s) ∧
  (∀ (s : State), s.on R.VDT_STATUS.WITNESS = false → exec (.witnessChange true) s =
    .next ((s.flag R.VDT_STATUS.WITNESS true).modVdt (fun x => { x with disagree := false }))) ∧
  (∀ (s u : State), s.on R.VDT_STATUS.PAIR_EN = true → s.link.vdt.disagree = false → s.on R.VDT_STATUS.WITNESS = false →
    s.link.vdt.misses < 3 → u = ((s.modVdt (fun v => { v with disagree := true })).flag R.VDT_IRQ_PEND.DISAGREE true).hopKick 0 →
    exec .witnessDisagree s = .next (u.report (ownerOr0 (u.ownPeriph 42)) 0x3405 0 1)) ∧
  (∀ (s : State) (b : Nat), s.roleOf b = 1 → s.link.vdt.hbSeen = false → s.on R.VDT_STATUS.WITNESS = false →
    exec (.undecidedTimeout b) s = .next (s.claimBay b)) ∧
  (∀ (s : State) (i : Init) (b : Nat), s.grants i (isBay i b || isBay i 0) = true → s.roleOf b = 2 → s.partnerReady b = true →
    exec (.handover i b) s = .next ((s.yieldBay b).hopKick 0)) ∧
  (∀ (s : State) (i : Init) (b : Nat), s.grants i (isBay i b || isBay i 0) = true → s.roleOf b ≠ 2 →
    exec (.handover i b) s = .next (s.flag (R.VDTn_CMD.REFUSED b) true)) ∧
  (∀ (s : State) (b : Nat), s.link.vdt.taking.testBit b = true → exec (.takeoverEdge b) s =
    .next (((s.modVdt (fun v => { v with taking := clrBit v.taking b })).setRole b 2).takeDrvs b)) ∧
  (∀ (s : State) (i : Init) (b : Nat), s.grants i (isBay i b || isBay i 0) = true → s.roleOf b = 5 →
    s.on R.VDT_STATUS.PARTNER = false → exec (.vdtTake i b) s = .next ((s.claimBay b).takeDrvs b)) ∧
  (∀ (s : State) (i : Init) (b : Nat), s.grants i (isBay i b || isBay i 0) = true → s.roleOf b ≠ 5 →
    exec (.vdtTake i b) s = .next (s.flag (R.VDTn_CMD.REFUSED b) true)) ∧
  (∀ (s : State) (i : Init), s.grants i (s.holds i 42) = true → exec (.selfFault i) s =
    .next ((s.flag R.VDT_CTRL.SELF_FAULT true).flag R.VDT_STATUS.ALIVE_OUT false)) ∧
  (∀ (s : State) (i : Init), s.grants i (s.holds i 42) = true → exec (.linkRestart i false) s =
    .next ((s.laneDown 2).laneDown 3)) ∧
  (∀ (s : State) (c : Bool), exec (.pairTimeFollow c) s = .next (State.tevTriggers s (s.pairFollow c)))

/-- Trestle requests. -/
def Obligations.TrestleRequests : Prop :=
  (∀ (s u : State) (l q x d eseq home size off : Nat) (e : List (Nat × Nat)), 4 ≤ l → l ≤ 5 → s.on R.TRS_STATUS.JOIN_REFUSED = false →
    s.hopTake l q = (u, true) → d ≠ u.pos → exec (.trsRd l q x d eseq home size off e) s = .next (u.trsSend d ⟨0x20, 0, trsB7 x d,
      toBE 2 eseq ++ toBE 1 home ++ toBE 1 size ++ toBE 4 off, 6⟩)) ∧
  (∀ (s u v : State) (l q x eseq home size off st : Nat) (d : List Byte) (e : List (Nat × Nat)), 4 ≤ l → l ≤ 5 →
    s.on R.TRS_STATUS.JOIN_REFUSED = false → s.hopTake l q = (u, true) → u.remote x eseq home size off none e = (v, st, d) →
    exec (.trsRd l q x u.pos eseq home size off e) s = .next (v.trsSend x ⟨0x21, 0, trsB7 v.pos x,
      toBE 2 eseq ++ toBE 1 home ++ toBE 1 st ++ List.replicate 4 0 ++ padBlocks d, 5⟩)) ∧
  (∀ (s u v : State) (l q x eseq home size off st : Nat) (d w : List Byte), 4 ≤ l → l ≤ 5 →
    s.on R.TRS_STATUS.JOIN_REFUSED = false → s.hopTake l q = (u, true) →
    u.remote x eseq home size off (some (w.take (2 ^ size))) [] = (v, st, d) →
    exec (.trsWr l q x u.pos eseq home size off w) s = .next (v.trsAnswer x eseq home st)) ∧
  (∀ (s : State) (x eseq home size off : Nat) (w : Option (List Byte)) (e : List (Nat × Nat)), s.eseqNew x eseq = false →
    s.remote x eseq home size off w e = (s, 4, [])) ∧
  (∀ (s u : State) (l q x eseq home st : Nat) (d : List Byte), 4 ≤ l → l ≤ 5 → s.on R.TRS_STATUS.JOIN_REFUSED = false →
    s.hopTake l q = (u, true) → exec (.trsRdr l q x u.pos eseq home st d) s = .next (u.trsResponse x eseq st d) ∧
    exec (.trsRsp l q x u.pos eseq home st) s = .next (u.trsResponse x eseq st [])) ∧
  (∀ (s : State) (d eseq : Nat) (r : TrsReq), s.trsX.open_.find? (fun r => r.dst == d && r.eseq == eseq) = some r →
    exec (.trsRequestTimeout d eseq) s = .next (s.trsUnknown r)) ∧
  (∀ (s u v : State) (l q x eseq home m f : Nat) (w : List Word), 4 ≤ l → l ≤ 5 → s.on R.TRS_STATUS.JOIN_REFUSED = false →
    s.hopTake l q = (u, true) → u.eseqNew x eseq = true → v = u.eseqDone x eseq → v.binding m = none →
    exec (.trsMsg l q x u.pos eseq home m f w) s = .next (v.trsAnswer x eseq home 2) ∧
    exec (.trsDb l q x u.pos eseq home m) s = .next (v.trsAnswer x eseq home 2)) ∧
  (∀ (s u v : State) (l q x eseq home m f : Nat) (r : List Byte) (w : List Word), 4 ≤ l → l ≤ 5 → s.on R.TRS_STATUS.JOIN_REFUSED = false →
    s.hopTake l q = (u, true) → u.eseqNew x eseq = true → v = u.eseqDone x eseq → v.binding m = some r → C.LINK4.LINKSEL r = 1 →
    C.LINK4.MEMBER r = x → C.LINK4.REMOTE_MBX r = f → v.live (C.LINK4.BAY r) = true → exec (.trsMsg l q x u.pos eseq home m f w) s =
      .next ((v.modVdt (fun y => { y with held := y.held ++ [⟨m, f, w, x, eseq, home⟩] })).trsHeld)) ∧
  (∀ (s u v : State) (l q x eseq home m : Nat) (r : List Byte), 4 ≤ l → l ≤ 5 → s.on R.TRS_STATUS.JOIN_REFUSED = false →
    s.hopTake l q = (u, true) → u.eseqNew x eseq = true → v = u.eseqDone x eseq → v.binding m = some r → C.LINK4.LINKSEL r = 1 →
    C.LINK4.MEMBER r = x → v.live (C.LINK4.BAY r) = true → v.link.vdt.held.any (fun x => x.mbx == m) = false →
    exec (.trsDb l q x u.pos eseq home m) s = .next ((v.flag (R.MBX_IRQ.DB m 0) true).trsAnswer x eseq home 0))

/-- Trestle's stack. -/
def Obligations.TrestleStack : Prop :=
  (∀ (s u v : State) (l q x b r pf pc n k : Nat), 4 ≤ l → l ≤ 5 → s.on R.TRS_STATUS.JOIN_REFUSED = false → s.hopTake l q = (u, true) →
    k = u.claimResult x b r pf pc → k ≠ 1 → v = u.put R.TRS_CLAIM_IN.COUNT u.trsX.claims.length →
    exec (.trsClaim l q x u.pos b r pf pc n) s = .next (v.trsSend x ⟨0x2A, 0, trsB7 v.pos x,
      toBE 1 b ++ toBE 1 r ++ toBE 1 k ++ toBE 1 n ++ List.replicate 4 0, 4⟩)) ∧
  (∀ (s u v w : State) (l q x b r pf pc n : Nat), 4 ≤ l → l ≤ 5 → s.on R.TRS_STATUS.JOIN_REFUSED = false → s.hopTake l q = (u, true) →
    u.claimResult x b r pf pc = 1 →
    v = u.modTrs (fun y => { y with claims := y.claims.filter (fun c => c.res != r) ++ [⟨x, b, r, pf, pc, n, false⟩] }) →
    w = v.put R.TRS_CLAIM_IN.COUNT v.trsX.claims.length →
    exec (.trsClaim l q x u.pos b r pf pc n) s = .next (w.trsSend x ⟨0x2A, 0, trsB7 w.pos x,
      toBE 1 b ++ toBE 1 r ++ toBE 1 1 ++ toBE 1 n ++ List.replicate 4 0, 4⟩)) ∧
  (∀ (s u : State) (l q x b r n : Nat), 4 ≤ l → l ≤ 5 → s.on R.TRS_STATUS.JOIN_REFUSED = false → s.hopTake l q = (u, true) →
    exec (.claimRsp l q x u.pos b r 1 n) s = .next (u.setB R.TRS_CLAIM_OUT.ACCEPTED n)) ∧
  (∀ (s u : State) (l q x b r k n : Nat), 4 ≤ l → l ≤ 5 → s.on R.TRS_STATUS.JOIN_REFUSED = false → s.hopTake l q = (u, true) → k ≠ 1 →
    exec (.claimRsp l q x u.pos b r k n) s = .next (((u.clrB R.TRS_CLAIM_OUT.ACCEPTED n).flag R.TRS_IRQ_PEND.CLAIM_REFUSED true).report
      b 0x3805 b (n + 256 * k))) ∧
  (∀ (s u : State) (l q x c : Nat) (r : List Byte) (v : Bool), 4 ≤ l → l ≤ 5 → s.on R.TRS_STATUS.JOIN_REFUSED = false →
    s.hopTake l q = (u, true) → (u.recs .link 3)[c]? = some r → C.LINK3.MEMBER r = x →
    exec (.trsIrq l q x u.pos c v) s = .next (u.putB (R.TRSn_REMOTE_PEND.CLAIM (C.LINK3.BAY r)) c v)) ∧
  (∀ (s u : State) (l q x c : Nat), 4 ≤ l → l ≤ 5 → s.on R.TRS_STATUS.JOIN_REFUSED = false → s.hopTake l q = (u, true) → x ≠ u.pos →
    exec (.sirq l q x c) s = .next ((u.sirqLatch x c).trsAll l (sirqFrame x c))) ∧
  (∀ (s : State) (i : Init) (c : Nat), s.grants i (s.holds i 43) = true → exec (.trsSirqSend i c) s = .next (s.sirqSend c)) ∧
  (∀ (s u v : State) (l q x h e : Nat), 4 ≤ l → l ≤ 5 → s.on R.TRS_STATUS.JOIN_REFUSED = false → s.hopTake l q = (u, true) → x ≠ u.pos →
    v = u.trsAll l ⟨0x2B, 0, trsBcast x, toBE 1 1 ++ toBE 1 h ++ [0, 0] ++ toBE 4 e, 4⟩ → h ≠ v.hopId (9 - l) →
    exec (.trsRoute l q x 1 h e) s =
      .next ((v.modTrs (fun y => { y with lostHops := setBit y.lostHops h })).applyRoutes none)) ∧
  (∀ (s u : State) (l q m p f k : Nat), 4 ≤ l → l ≤ 5 → s.on R.TRS_STATUS.JOIN_REFUSED = false → s.hopTake l q = (u, true) →
    u.trsX.unplaced = false → exec (.trsTopo l q u.pos m p f k) s = .next u) ∧
  (∀ (s : State) (l t : Nat) (d : List Byte), 4 ≤ l → l < 6 → s.laneUp l = true → exec (.trsHb l t d) s = .next (s.trsHbTaken l t d)) ∧
  (∀ (s : State) (l : Nat), 4 ≤ l → l < 6 → s.laneUp l = true →
    exec (.hopLost l) s = .next ((s.addSat R.TRS_HB_MISS.COUNT 3).hopLost l 4)) ∧
  (∀ (s : State) (l : Nat), s.trsX.awaiting.testBit (l - 4) = true → exec (.routeBreakTimeout l) s =
    .next (((s.modHop (l - 3) (fun x => { x with unacked := [] })).modLane l (fun x => { x with copies := [] })).modTrs (fun t =>
      { t with awaiting := clrBit t.awaiting (l - 4) }))) ∧
  (∀ s : State, s.stackOn = true → s.on R.TRS_STATUS.FORMED = false → exec .stackFormed s = .next s.formed) ∧
  (∀ s : State, s.on R.TRS_STATUS.FORMED = true → exec .stackFormed s = .next s)

/-- Stack time. -/
def Obligations.StackTime : Prop :=
  (∀ s : State, s.on R.TRS_STATUS.IS_MASTER = true → s.stackOn = true → exec .timeFrameSend s =
    .next (s.trsAll 0 ⟨0x28, 0, trsBcast s.pos, toBE 8 s.now ++ toBE 8 0 ++ s.traceBytes ++ toBE 2 (s.get R.TIME_STATUS.EPOCH) ++
      List.replicate 4 0, 3⟩)) ∧
  (∀ s : State, s.on R.TRS_STATUS.IS_MASTER = false → exec .timeFrameSend s = .next s) ∧
  (∀ (s u v w : State) (l q x m c e t : Nat), 4 ≤ l → l ≤ 5 → s.on R.TRS_STATUS.JOIN_REFUSED = false → s.hopTake l q = (u, true) →
    x ≤ u.get R.TRS_STATUS.MASTER → u.on R.TRS_STATUS.IS_MASTER = false → u.trsX.lastTime ≠ some m →
    v = u.modTrs (fun y => { y with lastTime := some m }) →
    w = v.trsAll l ⟨0x28, 0, trsBcast x, toBE 8 m ++ toBE 8 (wrapInt 64 ((c : Int) + v.inbound l - t)) ++
      (List.replicate 6 0xFF ++ toBE 4 0) ++ toBE 2 e ++ List.replicate 4 0, 3⟩ → w.get R.TIME_CFG2.SOURCE = 2 →
    (State.tevTriggers s (w.timeTaken l m c t none)).sec.waiting = none →
    exec (.timeFrame l q x m c e t none) s = .next (State.tevTriggers s (w.timeTaken l m c t none))) ∧
  (∀ (s u : State) (l q x m c e t : Nat) (r : Option Int), 4 ≤ l → l ≤ 5 → s.on R.TRS_STATUS.JOIN_REFUSED = false →
    s.hopTake l q = (u, true) → u.trsX.lastTime = some m → (State.tevTriggers s u).sec.waiting = none →
    exec (.timeFrame l q x m c e t r) s = .next (State.tevTriggers s u)) ∧
  (∀ (s : State) (c : Bool), exec (.stackTimeFollow c) s = .next (State.tevTriggers s (s.stackFollow c)))

/-- Commands of a drive unit. -/
def Obligations.DriveCommands : Prop :=
  (∀ (s u v : State) (i : Init) (n : Nat), s.grants i (s.holds i (24 + n)) = true → s.drvSt n = 1 → s.drvRole n = true →
    (s.drvAt n).bad = 0 → s.on (R.DRVn_STATE.INHIBIT n) = false → s.on (R.DRVn_STATE.PSET_VALID n) = true → s.measOk n = true →
    u = ((((s.modDrv n (fun x => { x.fresh_ with src := (List.range 7).map (s.srcNow n) })).put (R.DRVn_BETA.BETA n) 0x1000).put
      (R.DRVn_TRIP.RESTARTS n) 0).flag (R.DRVn_KH.EXHAUSTED n) false).flag (R.DRVn_STATE.BAND_AT_LIMIT n) false →
    C.DRVP0.MOTOR (u.drvP n) = 0 → v = ((u.drvTo n 2).testPulse n 0).drvStat n 0 → v.railIsLow 4 = false →
    exec (.drvStart i n false) s = .next v) ∧
  (∀ (s u v : State) (i : Init) (n : Nat), s.grants i (s.holds i (24 + n)) = true → s.drvSt n = 1 → s.drvRole n = true →
    (s.drvAt n).bad = 0 → s.on (R.DRVn_STATE.INHIBIT n) = false → s.on (R.DRVn_STATE.PSET_VALID n) = true → s.measOk n = true →
    u = ((((s.modDrv n (fun x => { x.fresh_ with src := (List.range 7).map (s.srcNow n) })).put (R.DRVn_BETA.BETA n) 0x1000).put
      (R.DRVn_TRIP.RESTARTS n) 0).flag (R.DRVn_KH.EXHAUSTED n) false).flag (R.DRVn_STATE.BAND_AT_LIMIT n) false →
    C.DRVP0.MOTOR (u.drvP n) ≠ 0 → v = (u.drvTo n 3).drvStat n 0 → v.railIsLow 4 = false →
    exec (.drvStart i n false) s = .next v) ∧
  (∀ (s u v : State) (i : Init) (n : Nat), s.grants i (s.holds i (24 + n)) = true → s.drvSt n = 1 → s.drvRole n = true →
    (s.drvAt n).bad = 0 → s.on (R.DRVn_STATE.INHIBIT n) = false → s.on (R.DRVn_STATE.PSET_VALID n) = true → s.measOk n = true →
    u = ((((s.modDrv n (fun x => { x.fresh_ with src := (List.range 7).map (s.srcNow n) })).put (R.DRVn_BETA.BETA n) 0x1000).put
      (R.DRVn_TRIP.RESTARTS n) 0).flag (R.DRVn_KH.EXHAUSTED n) false).flag (R.DRVn_STATE.BAND_AT_LIMIT n) false →
    v = (((u.drvTo n 4).modDrv n (fun x => { x with step := 2 })).applyVec n 0).drvStat n 0 → v.railIsLow 4 = false →
    exec (.drvStart i n true) s = .next v) ∧
  (∀ (s : State) (i : Init) (n : Nat) (b : Bool), s.grants i (s.holds i (24 + n)) = true → s.drvSt n ≠ 0 → s.drvSt n ≠ 1 →
    exec (.drvStart i n b) s = .next (s.drvStat n 1)) ∧
  (∀ (s : State) (i : Init) (n : Nat) (b : Bool), s.grants i (s.holds i (24 + n)) = true → s.drvSt n ≤ 1 → s.drvRole n = true →
    (s.drvAt n).bad = 0 → s.on (R.DRVn_STATE.INHIBIT n) = true → exec (.drvStart i n b) s = .next (s.drvStat n 2)) ∧
  (∀ (s : State) (i : Init) (n : Nat) (b : Bool), s.grants i (s.holds i (24 + n)) = true → s.drvSt n ≤ 1 → s.drvRole n = true →
    (s.drvAt n).bad = 0 → s.on (R.DRVn_STATE.INHIBIT n) = false → s.on (R.DRVn_STATE.PSET_VALID n) = false →
    exec (.drvStart i n b) s = .next (s.drvStat n 3)) ∧
  (∀ (s : State) (i : Init) (n : Nat), s.grants i (s.holds i (24 + n)) = true → s.drvRole n = true →
    s.drvSt n = 2 ∨ s.drvSt n = 3 ∨ s.drvSt n = 4 →
    exec (.drvStop i n) s = .next ((s.modDrv n (fun x => { x with stopReq := true })).drvStat n 0)) ∧
  (∀ (s : State) (i : Init) (n : Nat), s.grants i (s.holds i (24 + n)) = true → s.drvRole n = true →
    s.drvSt n = 5 ∨ s.drvSt n = 7 → exec (.drvStop i n) s = .next ((s.toDecel n).drvStat n 0)) ∧
  (∀ (s : State) (i : Init) (n : Nat), s.grants i (s.holds i (24 + n)) = true →
    s.drvRole n = false ∨ s.drvSt n ≤ 1 ∨ 8 ≤ s.drvSt n → exec (.drvStop i n) s = .next (s.drvStat n 1)) ∧
  (∀ (s : State) (i : Init) (n : Nat), s.grants i (s.holds i (24 + n)) = true → s.drvRole n = true → 2 ≤ s.drvSt n →
    s.drvSt n ≤ 7 → s.drvSt n ≠ 6 → exec (.coast i n) s = .next ((s.modDrv n (fun x => { x with coast := true })).drvStat n 0)) ∧
  (∀ (s : State) (i : Init) (n k : Nat), s.grants i (s.holds i (24 + n)) = true → s.drvRole n = true → s.drvSt n ≤ 1 →
    C.DRVP0.PSET_TAG (s.drvP n) ≠ 1 → exec (.psetLoad i n k) s = .next (((s.loadSet n (k % 16) false).drvReady n).drvStat n 0)) ∧
  (∀ (s : State) (i : Init) (n k : Nat), s.grants i (s.holds i (24 + n)) = true → s.drvRole n = true → s.drvSt n ≤ 1 →
    C.DRVP0.PSET_TAG (s.drvP n) = 1 → exec (.psetLoad i n k) s = .next (s.drvStat n 5)) ∧
  (∀ (s : State) (i : Init) (n : Nat), s.grants i (s.holds i (24 + n)) = true → s.drvSt n = 8 →
    s.on (R.DRVn_TRIP.ACTIVE n) = false → exec (.tripClear i n) s =
      .next (((s.modDrv n (fun x => { x with brkHeld := false })).put (R.DRVn_TRIP.SOURCE n) 0).toReady n)) ∧
  (∀ (s : State) (i : Init) (n : Nat), s.grants i (s.holds i (24 + n)) = true →
    s.drvSt n ≠ 8 ∨ s.on (R.DRVn_TRIP.ACTIVE n) = true → exec (.tripClear i n) s = .next s)

/-- Protection of a drive unit. -/
def Obligations.DriveProtection : Prop :=
  (∀ (s : State) (n l : Nat) (a : Bool), l < 3 → s.drvSt n ≠ 0 → s.drvSt n ≠ 9 → exec (.overcurrentTrip n l true a) s =
    .next (((s.putB (R.DRVn_PROT_LIVE.OCP n) l true).tripInput n l true).drvTrip n 1 l 0x3C01 (l + 4 * b2n a))) ∧
  (∀ (s : State) (n l : Nat) (a : Bool), l < 3 → exec (.overcurrentTrip n l false a) s =
    .next ((s.putB (R.DRVn_PROT_LIVE.OCP n) l false).tripInput n l false)) ∧
  (∀ (s u : State) (n : Nat), 2 ≤ s.drvSt n → s.drvSt n ≤ 7 → u = (s.flag (R.DRVn_PROT_LIVE.FLT n) true).tripInput n 3 true →
    exec (.gateDriverFault n true) s =
      .next (((u.brkTo n false).modDrv n (fun x => { x with brkHeld := true })).drvTrip n 2 0 0x3C02 (s.drvSt n))) ∧
  (∀ (s : State) (n : Nat) (b : Bool), b = false ∨ s.drvSt n < 2 ∨ 7 < s.drvSt n → exec (.gateDriverFault n b) s =
    .next ((s.flag (R.DRVn_PROT_LIVE.FLT n) b).tripInput n 3 b)) ∧
  (∀ (s : State) (n l : Nat), l < 3 → exec (.desaturation n l true) s =
    .next (((s.putB (R.DRVn_PROT_LIVE.DSAT n) l true).tripInput n (4 + l) true).drvTrip n 3 l 0x3C03 l)) ∧
  (∀ (s u : State) (n : Nat), u = s.putB (R.DRVn_PROT_LIVE.DSAT n) 3 true →
    exec (.desaturation n 3 true) s = .next (((u.brkTo n false).flag (R.DRVn_BRK_STAT.DISABLED n) true).report (u.drvBay n) 0x3C03 n 3)) ∧
  (∀ (s u : State) (n o : Nat) (b : Bool), (s.drvRec n).isSome = true → o < 8 → s.railIsLow 4 = false →
    u = (s.modDrv n (fun x => { x with bad := setBit x.bad o })).mismatchTrip n →
    exec (.gateReadbackMismatch n o b) s = .next (u.report (u.drvBay n) 0x3C07 n (o + 256 * b2n b))) ∧
  (∀ (s u : State) (n src l c d : Nat), 2 ≤ s.drvSt n → s.drvSt n ≤ 7 → u = (s.drvTo n 8).put (R.DRVn_TRIP.SOURCE n) src →
    s.drvTrip n src l c d =
      ((((u.put (R.DRVn_TRIP.LEG n) l).put (R.DRVn_TRIP_STAMP.STAMP n) u.stamp).drvIrq n 8).report (s.drvBay n) c n d)) ∧
  (∀ (s : State) (n : Nat), s.on (R.DRVn_BRK_STAT.ON n) = true → exec (.chopperDutyInterval n) s =
    .next (((s.put (R.DRVn_BRK_STAT.DUTY n) (min 1000 (((s.drvAt n).brkOn + (s.now - (s.drvAt n).brkAt)) / 1000000))).flag
      (R.DRVn_BRK_STAT.DUTY_LIMIT n) false).modDrv n (fun y => { y with brkOn := 0, brkFrom := s.now, brkAt := s.now }))) ∧
  (∀ (s : State) (n : Nat), s.on (R.DRVn_BRK_STAT.ON n) = false → exec (.chopperDutyInterval n) s =
    .next (((s.put (R.DRVn_BRK_STAT.DUTY n) (min 1000 ((s.drvAt n).brkOn / 1000000))).flag
      (R.DRVn_BRK_STAT.DUTY_LIMIT n) false).modDrv n (fun y => { y with brkOn := 0, brkFrom := s.now }))) ∧
  (∀ (s : State) (n : Nat), s.drvSt n = 5 → exec (.losClearExpiry n) s = .next (s.put (R.DRVn_TRIP.RESTARTS n) 0)) ∧
  (∀ (s u : State) (n : Nat), s.drvSt n = 3 → u = (s.toReady n).drvIrq n 1 →
    exec (.magTimeExpiry n) s = .next (u.report (s.drvBay n) 0x3C08 n 2)) ∧
  (∀ (s : State) (n : Nat), s.drvSt n ≠ 3 → exec (.magTimeExpiry n) s = .next s)

/-- Decisions of a drive unit and its gate logic. -/
def Obligations.DriveDecisions : Prop :=
  (∀ (s u v : State) (n : Nat), s.drvTicks n = true → s.get (R.DRVn_CIO.CIO_REF n) / 128 ≠ 1 →
    u = s.modDrv n (fun x => { x with refs := [s.getI (R.DRVn_TREF.TREF n), s.getI (R.DRVn_SREF.SREF n),
      s.getI (R.DRVn_PSIREF.PSIREF n), s.getI (R.DRVn_TLIM.TLIM n)] }) →
    v = u.modDrv n (fun x => { x with fresh := 0, polesPrev := x.poles, poles := [], chgPrev := x.chg, chg := [0, 0, 0], lastTick := u.now }) →
    exec (.decisionTick n) s = .next (((v.put (R.DRVn_DEC_STAMP.STAMP n) v.stamp).tickState n).drvConvert n 0 [0, 1, 2, 3])) ∧
  (∀ (s v : State) (n : Nat), s.drvTicks n = true → s.get (R.DRVn_CIO.CIO_REF n) / 128 = 1 →
    v = s.modDrv n (fun x => { x with fresh := 0, polesPrev := x.poles, poles := [], chgPrev := x.chg, chg := [0, 0, 0], lastTick := s.now }) →
    exec (.decisionTick n) s = .next (((v.put (R.DRVn_DEC_STAMP.STAMP n) v.stamp).tickState n).drvConvert n 0 [0, 1, 2, 3])) ∧
  (∀ (s : State) (n : Nat), s.drvTicks n = false →
    exec (.decisionTick n) s = .next s ∧ exec (.decisionApply n) s = .next s ∧ exec (.poleVoltageTrigger n) s = .next s) ∧
  (∀ (s : State) (n : Nat), s.drvTicks n = true → (s.drvAt n).coast = true →
    exec (.decisionApply n) s = .next ((s.modDrv n (fun x => { x with coast := false })).toReady n)) ∧
  (∀ (s u v : State) (n k : Nat) (b : Bool), s.drvTicks n = true → (s.drvAt n).coast = false → 5 ≤ s.drvSt n → s.drvSt n ≤ 7 →
    b = s.measBad n → u = ((s.drvRun n b).vdcTests n b).chopper n b → (u.drvAt n).sel = some k → 5 ≤ u.drvSt n → u.drvSt n ≤ 7 →
    v = u.applyVec n k → v.get (R.DRVn_CIO.CIO_SNAP n) / 128 ≠ 1 →
    exec (.decisionApply n) s = .next (v.drvSnap n)) ∧
  (∀ (s u v : State) (n k : Nat) (b : Bool), s.drvTicks n = true → (s.drvAt n).coast = false → s.drvSt n = 3 → b = s.measBad n →
    u = ((s.drvMagnetize n b).vdcTests n b).chopper n b → (u.drvAt n).sel = some k → u.drvSt n = 3 → v = u.applyVec n k →
    v.get (R.DRVn_CIO.CIO_SNAP n) / 128 = 1 → exec (.decisionApply n) s = .next v) ∧
  (∀ (s : State) (n i : Nat) (x : DrvUnit) (l : Leg) (b : Bool), (s.ana.drv)[n]? = some x → (x.legs)[i]? = some l → l.dead = some b →
    ∃ (t : State) (y : DrvUnit), exec (.deadTimeEnd n i) s = .next t ∧ (t.ana.drv)[n]? = some y ∧
      (y.legs)[i]? = some (if b then { l with hi := true, hiAt := s.now, dead := none } else { l with lo := true, loAt := s.now, dead := none }) ∧
      ∀ j : Nat, j ≠ i → (y.legs)[j]? = (x.legs)[j]?) ∧
  (∀ (s : State) (n i : Nat) (v : Bool), ((s.drvAt n).legs.getD i Leg.cold).want = some v →
    legOk (s.drvMp n) (s.drvDead n) s.now ((s.drvAt n).legs.getD i Leg.cold) v = true →
    exec (.legChangeDeferred n i) s = .next (s.legChange n i v)) ∧
  (∀ (s : State) (n i : Nat) (v : Bool), ((s.drvAt n).legs.getD i Leg.cold).want = some v →
    legOk (s.drvMp n) (s.drvDead n) s.now ((s.drvAt n).legs.getD i Leg.cold) v = false → exec (.legChangeDeferred n i) s = .next s) ∧
  (∀ (s u : State) (n : Nat), 256 ≤ (s.drvAt n).win → 0 < C.DRVP0.DEC_PERIOD (s.drvP n) →
    u = (s.put (R.DRVn_FSW.HZ n) (rdiv (((s.drvAt n).ntr * 1000000000 : Nat) : Int)
      ((6144 * C.DRVP0.DEC_PERIOD (s.drvP n) : Nat) : Int)).toNat).modDrv n (fun y => { y with ntr := 0, win := 0 }) →
    u.on (R.DRVn_CTRL.BAND_ADAPT n) = false → exec (.bandWindowEnd n) s = .next u) ∧
  (∀ (s : State) (n : Nat), (s.drvAt n).win < 256 → exec (.bandWindowEnd n) s = .next s) ∧
  (∀ (s : State) (n r m : Nat), (s.drvAt n).pulse = some m → (s.drvAt n).phase = 0 → s.drvSt n ≠ 2 ∨ (s.drvAt n).stopReq = false →
    exec (.positionTestPulse n r true) s = .next (s.startFail n 3) ∧
    exec (.positionTestPulse n r false) s = .next ((s.applyVec n (7 - (s.drvAt n).s1)).modDrv n (fun y =>
      { y with rises := y.rises ++ [r], phase := 1, phaseEnd := s.now + r }))) ∧
  (∀ (s : State) (n : Nat) (a b : Int), s.drvSt n = 4 → (s.drvAt n).pulse = none →
    ((s.drvAt n).step = 1 → exec (.catchSpinStep n a b) s = .next ((s.modDrv n (fun x => { x with step := 2 })).applyVec n 0)) ∧
    ((s.drvAt n).step = 2 → exec (.catchSpinStep n a b) s =
      .next (((s.modDrv n (fun x => { x with i1 := (a, b) })).modDrv n (fun x => { x with step := 3 })).gatesOff n)) ∧
    ((s.drvAt n).step = 3 → exec (.catchSpinStep n a b) s = .next ((s.modDrv n (fun x => { x with step := 4 })).applyVec n 0)) ∧
    ((s.drvAt n).step = 4 → exec (.catchSpinStep n a b) s = .next (s.catchEval n a b))) ∧
  (∀ (s u : State) (n : Nat), s.supSt ≠ 2 → s.supSt ≠ 3 → u = s.modDrv n (fun x => { x with khReq := false }) → u.drvSt n = 7 →
    exec (.kineticHoldExit n) s = .next ((u.modDrv n (fun x => { x with ramp := x.wEst, speed := true, spdI := x.torque, atGen := false })).drvTo n
      (u.drvAt n).khFrom)) ∧
  (∀ (s : State) (n : Nat), s.drvTicks n = true → C.DRVP0.VSENSE (s.drvP n) = 0 →
    exec (.poleVoltageTrigger n) s = .next (s.drvConvert n 8 [4, 5, 6]))

/-- Triggers and conversions of a converter. -/
def Obligations.Converters : Prop :=
  (∀ (s : State) (i : Init) (n k : Nat), s.grants i (s.holds i (26 + n)) = true → s.get (R.ADCn_SEQk_CFG.TRIG n k) = 1 →
    exec (.seqGo i n k) s = .next (s.adcTrigger n (s.seqRun n k))) ∧
  (∀ (s : State) (i : Init) (n k : Nat), s.grants i (s.holds i (26 + n)) = true → s.get (R.ADCn_SEQk_CFG.TRIG n k) ≠ 1 →
    exec (.seqGo i n k) s = .next s) ∧
  (∀ (s : State) (n : Nat) (r : AdcRun), s.on (R.ADCn_CTRL.EN n) = true → r.left ≠ [] → (s.adcAt n).run = none →
    (s.adcAt n).waiting.any (sameRun r) = false → s.adcTrigger n r =
      (s.modAdc n (fun y => { y with waiting := y.waiting ++ [{ r with onTime := true }] })).adcKick n) ∧
  (∀ (s : State) (n : Nat) (r g : AdcRun), s.on (R.ADCn_CTRL.EN n) = true → r.left ≠ [] → (s.adcAt n).run = some g → g.src ≠ 3 →
    sameRun r g = false → (s.adcAt n).waiting.any (sameRun r) = false → (s.adcAt n).start ≠ s.now → s.adcTrigger n r =
      (s.modAdc n (fun y => { y with waiting := y.waiting ++ [{ r with onTime := false }] })).showAdc n) ∧
  (∀ (s : State) (n : Nat) (r : AdcRun), s.on (R.ADCn_CTRL.EN n) = true → r.left ≠ [] → r.src ≠ 3 →
    (s.adcAt n).waiting.any (sameRun r) = true → s.adcTrigger n r = (s.inc (R.ADCn_CNT_TRIG.DROPPED n)).adcLate n r true) ∧
  (∀ (s : State) (n : Nat), exec (.adcInternalCheck n) s = .next (s.adcTrigger n ⟨3, 0, [(6, 0, 0), (7, 1, 0)], true, s.now, [], 0⟩)) ∧
  (∀ (s u t : State) (n j w q slot c : Nat) (v : Int) (r : AdcRun) (rest : List (Nat × Nat × Nat)) (susp : Bool),
    (s.adcAt n).run = some r → r.left = (j, slot, q) :: rest → rest ≠ [] → r.src = 0 → slot ≠ 0 → j < 6 → s.adcDiff n j = false →
    (s.adcAt n).forceSat = none → s.bit (R.ADCn_OVR.ACTIVE n) j = false → 0 ≤ v → v ≤ 65535 → c = v.toNat →
    susp = (s.railIsLow 5 || (s.adcAt n).suspect || decide ((s.adcAt n).start + 12 < SMap.get 0 (s.adcAt n).until_ j) ||
      s.on (R.ADCn_CTRL.DEGRADED n)) →
    w = resWord c (6 * n + j) false susp r.onTime n 0 slot →
    u = (s.modAdc n (fun y => { y with suspect := false, until_ := SMap.set 0 y.until_ j (SMap.get 0 (s.adcAt n).until_ j), refOfs := y.refOfs })).put
      (R.ADCn_RESj.WORD n j) w → u.on (R.ADCn_CTRL.EN n) = true →
    t = (u.modAdc n (fun y => { y with run := some { r with left := rest, words := r.words ++ [w] }, start := u.now })).showAdc n →
    t.ana.supFresh = false → exec (.adcConversionEnd n v) s = .next t) ∧
  (∀ (s u t : State) (n j w q slot : Nat) (v : Int) (r : AdcRun),
    (s.adcAt n).run = some r → r.left = [(j, slot, q)] → r.src = 0 → slot ≠ 0 → j < 6 → s.adcDiff n j = false →
    (s.adcAt n).forceSat = none → 65535 < v →
    w = resWord 65535 (6 * n + j) true (s.railIsLow 5 || (s.adcAt n).suspect || s.bit (R.ADCn_OVR.ACTIVE n) j ||
      decide ((s.adcAt n).start + 12 < SMap.get 0 (s.adcAt n).until_ j) || s.on (R.ADCn_CTRL.DEGRADED n)) r.onTime n 0 slot →
    u = ((((s.modAdc n (fun y => { y with suspect := true, until_ := SMap.set 0 y.until_ j (SMap.get 0 (s.adcAt n).until_ j) })).put
      (R.ADCn_RESj.WORD n j) w).adcOver n j 65535 0 slot).modAdc n (fun y => { y with run := none })).adcRunEnd n
        { r with left := [], words := r.words ++ [w] } →
    u.on (R.ADCn_CTRL.EN n) = true → t = u.adcKick n → t.ana.supFresh = false → exec (.adcConversionEnd n v) s = .next t) ∧
  (∀ (s : State) (n : Nat) (v : Int), (s.adcAt n).run = none → s.ana.supFresh = false → exec (.adcConversionEnd n v) s = .next s) ∧
  (∀ (s : State) (i : Init) (n : Nat), s.grants i (s.holds i (26 + n)) = true → exec (.adcnQflush i n) s =
    .next ((s.rxFlush (s.get (R.ADCn_QBIND.QUEUE n)) (s.adcAt n).rxLen (s.adcAt n).rxStamp).modAdc n
      (fun y => { y with rxLen := 0, rxStamp := 0 })))

/-- Sigma-delta inputs. -/
def Obligations.SigmaDeltaInputs : Prop :=
  (∀ (s u t : State) (n w st : Nat) (v : Int), s.on (R.SDMn_CTRL.EN n) = true → s.on (R.SDMn_OVR.ACTIVE n) = false →
    -32768 ≤ v → v ≤ 32767 → w = resWord (wrapInt 16 v) n false (s.railIsLow 5 || decide (0 < (s.sdmAt n).suspect) ||
      s.on (R.SDMn_OVR.DEGRADED n)) true 0 0 0 →
    st = (s.now + 4294967296 - ((3 * s.sdmDec n * s.sdmDiv + 2) / 4 + 8 + s.get (R.SDMn_LAT.NS n)) % 4294967296) % 4294967296 →
    u = s.modSdm n (fun y => { y with suspect := y.suspect - 1 }) →
    t = ((u.put (R.SDMn_RES.WORD n) w).put (R.SDMn_STAMP.STAMP n) st).sdmRecord n w st → t.isSupSdm n = false →
    exec (.sdmDataOutput n v) s = .next t) ∧
  (∀ (s : State) (n : Nat) (v : Int), s.on (R.SDMn_CTRL.EN n) = false →
    exec (.sdmDataOutput n v) s = .next s ∧ exec (.sdmComparatorOutput n v) s = .next s) ∧
  (∀ (s u t : State) (n : Nat) (v : Int), s.on (R.SDMn_CTRL.EN n) = true → s.on (R.SDMn_CTRL.CMP_EN n) = true →
    s.on (R.SDMn_CMP.ABOVE n) = false → -32768 ≤ v → v ≤ 32767 → signed 16 (s.get (R.SDMn_CMP_LIM.HI n)) < v →
    u = s.flag (R.SDMn_IRQ_PEND.CMP_HI n) true → signed 16 (u.get (R.SDMn_CMP_LIM.LO n)) ≤ v →
    signed 16 (s.get (R.SDMn_CMP_LIM.LO n)) ≤ v →
    t = ((u.put (R.SDMn_CMP.VALUE n) (wrapInt 16 v)).flag (R.SDMn_CMP.ABOVE n) true).flag (R.SDMn_CMP.BELOW n) false →
    t.isSupSdm n = false → exec (.sdmComparatorOutput n v) s = .next t) ∧
  (∀ (s t : State) (n : Nat) (v : Int), s.on (R.SDMn_CTRL.EN n) = true → s.on (R.SDMn_CTRL.CMP_EN n) = true →
    -32768 ≤ v → v ≤ 32767 → v ≤ signed 16 (s.get (R.SDMn_CMP_LIM.HI n)) → signed 16 (s.get (R.SDMn_CMP_LIM.LO n)) ≤ v →
    t = ((s.put (R.SDMn_CMP.VALUE n) (wrapInt 16 v)).flag (R.SDMn_CMP.ABOVE n) false).flag (R.SDMn_CMP.BELOW n) false →
    t.isSupSdm n = false → exec (.sdmComparatorOutput n v) s = .next t) ∧
  (∀ (s u : State) (n : Nat) (l : Bool), s.on (R.SDMn_CTRL.EN n) = true → s.on (R.SDMn_OVR.ACTIVE n) = false →
    u = (((s.modSdm n (fun y => { y with level := l })).flag (R.SDMn_OVR.OVR n) true).flag (R.SDMn_OVR.ACTIVE n) true).flag
      (R.SDMn_IRQ_PEND.OVR n) true →
    exec (.sdmSaturation n true l) s = .next (if u.on (R.SDMn_OVR.FLT_EN n) then u.report (u.sdmBay n) 0x6801 n (b2n l) else u)) ∧
  (∀ (s : State) (n : Nat) (l : Bool), s.on (R.SDMn_CTRL.EN n) = true → s.on (R.SDMn_OVR.ACTIVE n) = true →
    exec (.sdmSaturation n false l) s =
      .next ((s.flag (R.SDMn_OVR.ACTIVE n) false).modSdm n (fun y => { y with suspect := 6, stuck := false }))) ∧
  (∀ (s u : State) (n : Nat) (c : Bool), s.on (R.SDMn_CTRL.EN n) = true →
    u = (s.modSdm n (fun y => { y with stuck := true })).flag (R.SDMn_IRQ_PEND.STUCK n) true →
    exec (.sdmStuck n c) s = .next (u.report (s.sdmBay n) 0x6802 n (if c then 1 else 2))) ∧
  (∀ (s : State) (i : Init) (n : Nat), s.grants i (s.holds i (30 + n)) = true → exec (.sdmnQflush i n) s =
    .next ((s.rxFlush (s.get (R.SDMn_QBIND.QUEUE n)) (s.sdmAt n).rxLen (s.sdmAt n).rxStamp).modSdm n
      (fun y => { y with rxLen := 0, rxStamp := 0 })))

/-- Classification of the supply. -/
def Obligations.SupplyClassification : Prop :=
  (∀ (s u : State) (i : Init) (e : Bool), s.grants i (isBay i 0) = true → s.supEnResult e = 0 →
    u = s.put R.SUP_CTRL.EN_RESULT 0 → u.on R.SUP_CTRL.EN ≠ e →
    exec (.supEn i e) s = .next ((u.flag R.SUP_CTRL.EN e).modSup (fun x => { x with runGap := 0, runClear := 0 })).supEdge) ∧
  (∀ (s : State) (i : Init) (e : Bool), s.grants i (isBay i 0) = true → s.supEnResult e ≠ 0 →
    exec (.supEn i e) s = .next (s.put R.SUP_CTRL.EN_RESULT (s.supEnResult e))) ∧
  (∀ s : State, s.has .supp = true → s.supEnResult false = (if s.supSt = 0 then 0 else 4)) ∧
  (∀ s : State, s.has .supp = true → s.tDet2 s.gapN ≤ 40000 → (s.supAc = false ∨ s.supSigned = true) → s.supSrcEn = true →
    s.supEnResult true = 0) ∧
  (∀ (s : State) (i : Init) (w : Word), s.grants i (isBay i 0) = true → s.supSt = 0 → s.on R.SUP_CTRL.EN = false →
    exec (.supDetect i w) s = .next (s.putWord R.SUP_DETECT.GAP_N (w &&& 0x000FFFFF#32))) ∧
  (∀ (s : State) (i : Init) (w : Word), s.grants i (isBay i 0) = true → s.supSt = 0 → s.on R.SUP_CTRL.EN = true →
    40000 < s.tDet2 (max 1 (w.toNat % 16)) → exec (.supDetect i w) s = .next (s.put R.SUP_CTRL.EN_RESULT 1)) ∧
  (∀ (s : State) (i : Init) (w : Word), s.grants i (isBay i 0) = true → s.supSt ≠ 0 → exec (.supDetect i w) s = .next s) ∧
  (∀ s : State, s.has .supp = true → s.supKind = true → exec .supAinRequest s =
    .next (s.adcTrigger (s.supCh / 6) ⟨2, 0, [(s.supCh % 6, 0, 0)], true, s.now, [], 0⟩)) ∧
  (∀ (s u : State), s.has .supp = true → u = (s.putI R.SUP_ROC.MV_MS (s.slow - s.supX.lastMs)).modSup (fun x => { x with lastMs := s.slow }) →
    (u.get R.SUP_CFG.LEARN).testBit 0 = false → exec .supMillisecond s = .next u) ∧
  (∀ (s u v : State) (lo hi n : Int), s.has .supp = true →
    u = (s.putI R.SUP_ROC.MV_MS (s.slow - s.supX.lastMs)).modSup (fun x => { x with lastMs := s.slow }) → u.on R.SUP_CTRL.EN = true →
    (u.get R.SUP_CFG.LEARN).testBit 0 = true → u.supSt = 0 → u.supClass = 0 → u.on R.SUP_STATE.SRC_BAD = false →
    hi = (u.get R.SUP_NOMINAL.MV : Int) * q32 * (100 + (u.get R.SUP_CFG.LEARN_BOUND : Int)) / 100 →
    lo = (u.get R.SUP_NOMINAL.MV : Int) * q32 * (100 - (u.get R.SUP_CFG.LEARN_BOUND : Int)) / 100 →
    n = (u.supX.vn : Int) + rdiv (u.slow * q32 - (u.supX.vn : Int)) 10000 → lo < n → n < hi →
    v = (u.setVn n.toNat).flag R.SUP_STATE.AT_BOUND false → exec .supMillisecond s = .next v) ∧
  (∀ (s u v : State), s.on R.SUP_CTRL.EN = true → s.on R.SUP_STATE.SRC_BAD = false → s.supClass = 0 → s.slowBelow (s.get R.SUP_PCT.DIP) = true →
    u = (s.put R.SUP_STATE.CLASS 1).modSup (fun x => { x with runGap := 0, runClear := 0 }) →
    v = ((u.inc R.SUP_CNT_EVT.DIP).supIrq R.SUP_IRQ_PEND.DIP) →
    exec (.supConfirmExpiry false) s =
      .next (((v.report 0 0x4402 0 (inVolts u.slow)).supMove 1).modSup (fun x => { x with forceSlow := 0 }))) ∧
  (∀ (s u v : State), s.on R.SUP_CTRL.EN = true → s.on R.SUP_STATE.SRC_BAD = false → s.supClass ≤ 1 →
    s.slowAbove (s.get R.SUP_PCT.SURGE) = true → u = (s.put R.SUP_STATE.CLASS 3).modSup (fun x => { x with runGap := 0, runClear := 0 }) →
    v = ((u.inc R.SUP_CNT_SURGE.SURGE).supIrq R.SUP_IRQ_PEND.SURGE) →
    exec (.supConfirmExpiry true) s =
      .next (((v.report 0 0x4403 0 (inVolts u.slow)).supMove 3).modSup (fun x => { x with forceSlow := 0 }))) ∧
  (∀ (s : State) (b : Bool), s.on R.SUP_CTRL.EN = false ∨ s.on R.SUP_STATE.SRC_BAD = true → exec (.supConfirmExpiry b) s =
    .next (s.modSup (fun x => { x with forceSlow := 0 })))

/-- Ride-through actions and learning. -/
def Obligations.SupplyActions : Prop :=
  (∀ s : State, s.supSt = 0 ∨ s.supSt = 1 ∨ s.supSt = 4 ∨ s.supSt = 5 → s.supMove 2 = s.supTo 2) ∧
  (∀ s : State, s.supSt = 2 ∨ s.supSt = 3 → s.supMove 0 = s.supTo 4 ∧ s.supMove 1 = s.supTo 4 ∧ s.supMove 2 = s) ∧
  (∀ s : State, s.supSt = 2 → exec .shedTrigger s = .next (s.put R.SUP_STATE.STATE 3).shedNext.supNotify) ∧
  (∀ s : State, s.supSt = 3 → exec .shedTrigger s = .next s.shedNext) ∧
  (∀ s : State, s.supSt ≠ 2 → s.supSt ≠ 3 → exec .shedTrigger s = .next s) ∧
  (∀ (s : State) (g : Nat), s.nextShed = some g → s.shedNext = s.shedGroup g) ∧
  (∀ s : State, s.supSt = 4 → s.supClass = 0 →
    100 * q32 * ((s.getI R.SUP_ROC.MV_MS).natAbs : Int) ≤ (s.get R.SUP_RESTORE.RECOV_ROC : Int) * s.supX.vn →
    exec .holdExpiry s = .next (s.supTo 5)) ∧
  (∀ s : State, s.supSt ≠ 4 ∨ s.supClass ≠ 0 → exec .holdExpiry s = .next s) ∧
  (∀ s : State, s.supSt = 5 → s.restoreLast.shedLeft = true → exec .restoreStep s = .next s.restoreLast) ∧
  (∀ s : State, s.supSt = 5 → s.restoreLast.shedLeft = false → exec .restoreStep s = .next s.restoreLast.supNormal.supInhibit.supNotify) ∧
  (∀ (s u : State) (g t n : Nat) (d v : Int), u = s.notePower → u.supX.cand = some (g, t) → u.get R.SUP_STATE.KH_SET ≠ 0 → t + 3000000 ≤ u.now →
    d = rdiv (meanPower (t - 1000000) t u.now u.supX.power - meanPower (t + 2000000) (t + 3000000) u.now u.supX.power) 1000000000 →
    n = u.supX.count.getD g 0 → v = (if n = 0 then d else u.getI (R.SUP_DPg.W g) + rdiv (d - u.getI (R.SUP_DPg.W g)) 4) →
    exec .shedPowerMeasurement s = .next ((u.putI (R.SUP_DPg.W g) v).modSup (fun x =>
      { x with cand := none, count := updAt x.count g (fun k => min 255 (k + 1)), measured := setBit x.measured g }))) ∧
  (∀ s : State, s.has .supp = true → s.supX.lpDue = true → exec .supLp10Write s = .next s.lpWrite) ∧
  (∀ s : State, s.has .supp = true → s.supX.lpVn ≤ 1000 * (s.vnMv - s.supX.lpVn) → exec .supLp10Write s = .next s.lpWrite) ∧
  (∀ s : State, s.supX.lpDue = false → 1000 * (max s.vnMv s.supX.lpVn - min s.vnMv s.supX.lpVn) < s.supX.lpVn →
    exec .supLp10Write s = .next s) ∧
  (∀ (s u v w : State) (i : Init), s.grants i (isBay i 0) = true → s.supSt = 0 → s.has .supp = true →
    u = s.setVn (s.get R.SUP_NOMINAL.MV * 4294967296) →
    v = u.modSup (fun x => { x with delta := List.replicate 8 0, count := List.replicate 8 0, measured := 0, cand := none }) →
    w = v.forEach (List.range 8) (fun g t => t.put (R.SUP_DPg.W g) 0) →
    exec (.learnReset i) s = .next (w.flag R.SUP_STATE.AT_BOUND false).showRank.lpWrite) ∧
  (∀ (s : State) (i : Init), s.grants i (isBay i 0) = true → s.supSt ≠ 0 → exec (.learnReset i) s = .next s) ∧
  (∀ s : State, s.on R.SUP_STATE.DEW = true → s.linked.any (s.dewAt (s.get R.SUP_DEW.DEW_HYST)) = false →
    exec .dewClear s = .next ((s.flag R.SUP_STATE.DEW false).supIrq R.SUP_IRQ_PEND.DEW_CHG).supInhibit) ∧
  (∀ s : State, s.linked.any (s.dewAt (s.get R.SUP_DEW.DEW_HYST)) = true → exec .dewClear s = .next s)

/-- Current-loop outputs and inputs.  The DAC code is the model's free value: the spec gives no gains of the regulator. -/
def Obligations.CurrentLoops : Prop :=
  (∀ (s : State) (n : Nat) (vs vl : Int), s.clocked = true → s.on (R.CLOn_CTRL.EN n) = false ∨ s.on (R.CLOn_STAT.OUT_OF_SERVICE n) = true →
    exec (.cloRegulatorStep n vs vl) s = .next ((((s.put (R.CLOn_DAC.CODE n) 0).flag (R.CLOn_STAT.COMPLIANCE n) false).flag
      (R.CLOn_STAT.RECOVERING n) false).modClo n (fun y => { y with low := 0, err := 0, good := 0, neg := 0, limS := 0, limV := 0, beyond := 0 }))) ∧
  (∀ (s u v w z : State) (n i : Nat) (vs vl loop h : Int), s.clocked = true → s.on (R.CLOn_CTRL.EN n) = true →
    s.on (R.CLOn_STAT.OUT_OF_SERVICE n) = false → s.cloHeld n = false → (s.cloAt n).injS = 0 → (s.cloAt n).injH = 0 →
    i = (vs * 100 / (ohms (s.get (R.CLOn_CFG.RSENSE n)) : Int)).toNat → loop = vl * (s.get (R.CLOn_CFG.LOOPV_DIV n) : Int) / 256000 →
    h = loop - vs / 1000 → (s.get (R.CLOn_CIO.CIO n)).testBit 7 = false →
    u = s.modClo n (fun y => { y with injS := y.injS - 1, injH := y.injH - 1, set := s.get (R.CLOn_SET.CODE n) }) →
    v = ((u.put (R.CLOn_MEAS.UA n) (min i 65535)).put (R.CLOn_HEADROOM.MV n) (min h.toNat 65535)).put (R.CLOn_LOOPV.MV n) (min loop.toNat 65535) →
    v.on (R.CLOn_STAT.COMPLIANCE n) = false → w = (v.cloFollow n).cloCheck n i h → w.on (R.CLOn_STAT.COMPLIANCE n) = false →
    z = w.cloFront n (decide (vs < -5000)) (decide (1250000 ≤ vs)) (decide (2500000 ≤ vl)) (decide ((w.cloAt n).teff + 2000 * 1024 < 1024 * i)) →
    z.railIsLow 5 = false → exec (.cloRegulatorStep n vs vl) s = .next ((z.put (R.CLOn_DAC.CODE n) z.freeW).took 1)) ∧
  (∀ (s : State) (n : Nat), s.on (R.CLOn_STAT.COMPLIANCE n) = true → s.cloTarget n =
    (if s.get (R.CLOn_STAT.MODE n) = 1 then 375 * 0x2666 else if s.get (R.CLOn_STAT.MODE n) = 2 then 375 * s.cloBase n
      else min (375 * s.cloBase n) (s.cloAt n).hold)) ∧
  (∀ (s : State) (n : Nat), s.on (R.CLOn_STAT.COMPLIANCE n) = false → s.on (R.CLOn_STAT.RECOVERING n) = false →
    s.cloTarget n = 375 * s.cloBase n) ∧
  (∀ (s u : State) (m mean : Nat) (v : Int) (l : List Int), s.clocked = true → s.on (R.CLIm_CTRL.EN m) = true → (s.cliAt m).inj = 0 →
    l = ((v * 100 / (ohms (s.get (R.CLIm_CFG.RBURDEN m)) : Int)) :: (s.cliAt m).last).take (2 ^ s.get (R.CLIm_CTRL.AVG m)) →
    mean = min 65535 (l.foldl (fun (a : Int) b => a + b) 0 / (l.length : Int)).toNat →
    u = (s.modCli m (fun y => { y with last := l, inj := y.inj - 1 })).put (R.CLIm_MEAS.UA m) mean →
    exec (.cliMeasurement m v) s = .next (u.cliClass m mean)) ∧
  (∀ (s : State) (m : Nat) (v : Int), s.clocked = false ∨ s.on (R.CLIm_CTRL.EN m) = false → exec (.cliMeasurement m v) s = .next s) ∧
  (∀ s : State, ∀ m : Nat, s.cliInstant m = (s.put (R.CLIm_LATCH.UA m) (s.get (R.CLIm_MEAS.UA m))).put (R.CLIm_LATCH_STAMP.STAMP m) s.stamp)

/-- Capacitive sensing. -/
def Obligations.CapacitiveSensing : Prop :=
  (∀ (s : State) (c : CapScan), s.on R.CAP_CTRL.EN = false ∨ s.clocked = false → exec (.capScan c) s = .next s) ∧
  (∀ (s u v w : State) (c : CapScan), s.on R.CAP_CTRL.EN = true → s.clocked = true → u = s.scanStart.putI R.CAP_TEMP.T c.temp →
    u.capX.load = [] → v = u.scanNoise c → w = v.forEach v.keysIn (fun k t => t.scanKey c false k) →
    exec (.capScan c) s = .next (w.forEach w.snsIn (fun n t => t.scanSns c false n)).showFault.capEdge) ∧
  (∀ (s u v w x y : State) (c : CapScan) (f g : Nat) (l : List Nat), s.on R.CAP_CTRL.EN = true → s.clocked = true →
    u = s.scanStart.putI R.CAP_TEMP.T c.temp → u.capX.load = f :: g :: l →
    v = (u.scanNoise c).modCap (fun x => { x with hopN := 0, hopTo := none }) →
    w = v.forEach v.keysIn (fun k t => t.scanKey c true k) → x = w.forEach w.snsIn (fun n t => t.scanSns c true n) →
    y = x.modCap (fun z => { z with load := g :: l }) → exec (.capScan c) s = .next y.showFault.capEdge) ∧
  (∀ (s : State) (i : Init) (g : Bool), s.grants i (s.holds i 8) = true → s.has .caps = false →
    exec (.capEn i true g) s = .next (s.put R.CAP_CTRL.EN_RESULT 2)) ∧
  (∀ (s : State) (i : Init) (g : Bool), s.grants i (s.holds i 8) = true → s.has .caps = true →
    s.get R.CAP_SCAN.SCAN_US * 1000 < s.scanTime g → exec (.capEn i true g) s = .next (s.put R.CAP_CTRL.EN_RESULT 1)) ∧
  (∀ (s u v : State) (i : Init) (g : Bool), s.grants i (s.holds i 8) = true → s.has .caps = true → s.on R.CAP_CTRL.EN = false →
    s.scanTime g ≤ s.get R.CAP_SCAN.SCAN_US * 1000 → u = ((s.put R.CAP_CTRL.EN_RESULT 0).flag R.CAP_CTRL.EN true).flag R.CAP_CTRL.GLOVE g →
    v = u.forEach u.linked (fun n t => t.flag (R.SNSn_STAT.AT_DEW n) true) →
    exec (.capEn i true g) s =
      .next (v.modCap (fun x => { x with film := x.film.map (fun f => { f with sum := 0, n := 0 }) })).startLoad) ∧
  (∀ (s u : State) (i : Init), s.grants i (s.holds i 8) = true → s.on R.CAP_CTRL.EN = true →
    u = ((s.put R.CAP_CTRL.EN_RESULT 0).flag R.CAP_CTRL.EN false).flag R.CAP_CTRL.GLOVE (s.on R.CAP_CTRL.GLOVE) →
    exec (.capEn i false (s.on R.CAP_CTRL.GLOVE)) s = .next (u.releaseAll.modCap (fun x => { x with load := [] })).capEdge) ∧
  (∀ (s : State) (i : Init), s.grants i (s.holds i 8) = true → s.on R.CAP_CTRL.EN = true → exec (.recal i) s = .next s.startLoad) ∧
  (∀ (s : State) (i : Init), s.grants i (s.holds i 8) = true → s.on R.CAP_CTRL.EN = false → exec (.recal i) s = .next s) ∧
  (∀ (s : State) (i : Init), s.grants i (s.holds i 8) = true → exec (.calReload i) s = .next s.calReload) ∧
  (∀ s : State, exec .capTempSwTimeout s = .next (s.modCap (fun x => { x with tempOk := false })).capEdge) ∧
  (∀ (s : State) (n r : Nat), s.on (R.SNSn_CFG.PRESENT n) = true → s.on (R.SNSn_CFG.ROLE n) = true → s.on R.CAP_CTRL.EN = true →
    r * 320 < 156800 * s.nper n → exec (.filmReferenceCheck n r) s = .next (s.report s.capBay 0x4C01 (0x40 + n) (1 + 65536 * (r % 65536)))) ∧
  (∀ (s : State) (n r : Nat), s.on (R.SNSn_CFG.PRESENT n) = true → s.on (R.SNSn_CFG.ROLE n) = true → s.on R.CAP_CTRL.EN = true →
    163200 * s.nper n < r * 320 → exec (.filmReferenceCheck n r) s = .next (s.report s.capBay 0x4C02 (0x40 + n) (1 + 65536 * (r % 65536)))) ∧
  (∀ (s : State) (n r : Nat), 156800 * s.nper n ≤ r * 320 → r * 320 ≤ 163200 * s.nper n → exec (.filmReferenceCheck n r) s = .next s) ∧
  (∀ (s u : State) (r : Nat), s.sys.phase = .sleep ∨ s.sys.phase = .sleepStopped → (s.get R.SYS_WAKE_EN.EN).testBit 0 = true →
    s.has .caps = true → C.CAPS0.SLEEP_GANG (s.rec1 .caps 0) ≠ 0 → u = s.put R.CAP_SLEEP_RAW.RAW (r % 65536) → u.capX.slow = false →
    exec (.sleepSlowScan r) s =
      .next ((u.put R.CAP_SLEEP_RAW.BASE (r % 65536)).modCap (fun x => { x with slow := true, slowN := 0 }))) ∧
  (∀ (s u v : State) (r : Nat), s.sys.phase = .sleep ∨ s.sys.phase = .sleepStopped → (s.get R.SYS_WAKE_EN.EN).testBit 0 = true →
    s.has .caps = true → C.CAPS0.SLEEP_GANG (s.rec1 .caps 0) ≠ 0 → u = s.put R.CAP_SLEEP_RAW.RAW (r % 65536) → u.capX.slow = true →
    0 < u.get R.CAP_SLEEP.SLEEP_THRESH → r % 65536 + u.get R.CAP_SLEEP.SLEEP_THRESH ≤ u.get R.CAP_SLEEP_RAW.BASE →
    v = u.modCap (fun x => { x with slowN := u.capX.slowN + 1 }) → max 1 (v.get R.CAP_SLEEP.SLEEP_N) ≤ u.capX.slowN + 1 →
    exec (.sleepSlowScan r) s = .next ((v.modCap (fun x => { x with slowN := 0 })).wakeEvent 1))

/-- Inventories of the identity reader. -/
def Obligations.IdentityReader : Prop :=
  (∀ (s : State) (i : Init) (a p : Nat) (o : Bool), s.grants i (s.holds i 9) = true → s.on R.TAG_CTRL.EN = true →
    s.on R.TAG_INV_STAT.RUNNING = false → a < 256 → 0 < a → 0 < p → p < 4 → andNot a (s.get R.TAG_CFG.ANT_MASK) = 0 →
    andNot p (s.get R.TAG_CFG.PROTO) = 0 → s.has .tags = true → exec (.tagInvCmd i a p o) s = .next (s.tagStart a p o false)) ∧
  (∀ (s : State) (i : Init) (a p : Nat) (o : Bool), s.grants i (s.holds i 9) = true → s.on R.TAG_CTRL.EN = true →
    s.on R.TAG_INV_STAT.RUNNING = true → exec (.tagInvCmd i a p o) s = .next (s.inc R.TAG_CNT2.IGNORED)) ∧
  (∀ (s : State) (i : Init) (p : Nat) (o : Bool), s.grants i (s.holds i 9) = true → s.on R.TAG_CTRL.EN = true →
    s.on R.TAG_INV_STAT.RUNNING = false →
    exec (.tagInvCmd i 0 p o) s = .next (((s.flag R.TAG_INV_STAT.BOOT false).put R.TAG_INV_STAT.RECORDS 0).tagEnd 3 4)) ∧
  (∀ (s : State) (i : Init) (a p : Nat) (o : Bool), s.grants i (s.holds i 9) = true → s.on R.TAG_CTRL.EN = false →
    exec (.tagInvCmd i a p o) s = .next s) ∧
  (∀ s : State, s.on R.TAG_CTRL.EN = true → s.get R.TAG_AUTO.PERIOD_S ≠ 0 → s.has .tags = true → s.on R.TAG_INV_STAT.RUNNING = false →
    exec .tagAutoInventory s = .next (s.tagStart (s.get R.TAG_CFG.ANT_MASK) (s.get R.TAG_CFG.PROTO) false false)) ∧
  (∀ (s u : State) (r : TagRun) (k : Nat), s.tagX.run = some r → r.phase = .check → k ≠ 0 →
    u = (s.modTag (fun x => { x with injRx := false })).flag R.TAG_IRQ_PEND.RX_FAULT true → exec (.receiverCheckEnd k) s =
      .next ((u.report (State.tagBay (s.modTag (fun x => { x with injRx := false }))) 0x5002 0xFF (if k = 2 then 1 else 0)).tagEnd 3 5)) ∧
  (∀ (s : State) (r : TagRun) (a : Nat), s.tagX.run = some r → r.phase = .check → s.tagX.injRx = false → s.nextAnt r.ants = some a →
    200 < s.get R.TAG_TIMING.ANT_SETTLE → exec (.receiverCheckEnd 0) s = .next (s.setRun { r with phase := .antenna })) ∧
  (∀ (s : State) (r : TagRun) (a : Nat), s.tagX.run = some r → r.phase = .check → s.tagX.injRx = false → s.nextAnt r.ants = some a →
    s.get R.TAG_TIMING.ANT_SETTLE ≤ 200 → exec (.receiverCheckEnd 0) s = .next (s.tagField r)) ∧
  (∀ (s : State) (r : TagRun), s.tagX.run = some r → r.phase = .antenna → s.on R.TAG_ANT_STAT.READER_OOS = false →
    exec .antSettleEnd s = .next ((s.modTag (fun x => { x with fieldOn := true })).setRun { r with phase := .field })) ∧
  (∀ (s : State) (r : TagRun) (k : Nat), s.tagX.run = some r → r.phase = .field → k < 250 ∨ 1000 < k →
    exec (.antennaLoadFault k) s = .next (s.tagLoad r k)) ∧
  (∀ (s u : State) (r g : TagRun), s.tagX.run = some r → r.phase = .field → s.tagX.injLoad = false →
    g = TagRun.openRound { r with tried := true } (if r.protos.testBit 0 then 0 else 1) → u = s.clrB R.TAG_ANT_STAT.FAULT r.ant →
    exec .fieldSettleEnd s = .next ((u.setRun g).showQ g)) ∧
  (∀ (s u : State) (r g : TagRun), s.tagX.run = some r → r.phase = .slot → r.proto = 0 → isoSlot { r with slots := r.slots + 1 } .empty = (g, false) →
    u = s.showQ g → g.found < u.get R.TAG_CFG.MAX_TAGS → g.slots < 4096 → g.abort = false →
    exec (.tagSlot .empty) s = .next (u.setRun g)) ∧
  (∀ (s u v : State) (r g : TagRun) (b k l : Nat) (d : List Byte), s.tagX.run = some r → r.phase = .slot → r.proto = 1 → 16 ≤ b →
    s.tagStore r b d l = (u, k) → modeSlot (u.get R.TAG_CFG.Q_STEP) { r with found := k, slots := r.slots + 1 } (.reply b d l) = (g, false) →
    v = u.showQ g → g.found < v.get R.TAG_CFG.MAX_TAGS → g.slots < 4096 → g.abort = false →
    exec (.tagSlot (.reply b d l)) s = .next (v.setRun g)) ∧
  (∀ (s u : State) (r g : TagRun), s.tagX.run = some r → r.phase = .slot → r.proto = 1 →
    modeSlot (s.get R.TAG_CFG.Q_STEP) { r with slots := r.slots + 1 } .empty = (g, true) → u = s.showQ g → g.abort = false →
    exec (.tagSlot .empty) s = .next (u.tagNext g)) ∧
  (∀ (s : State) (r : TagRun), s.tagX.run = some r → r.phase = .ended → s.on R.TAG_ANT_STAT.READER_OOS = false → r.tried = true →
    exec .tagInventoryDone s = .next (s.tagEnd (if r.abort then 5 else 1) 0)) ∧
  (∀ (s : State) (i : Init) (r : TagRun), s.grants i (s.holds i 9) = true → s.tagX.run = some r → r.began = false →
    exec (.tagInvAbort i) s = .next (s.tagEnd 2 0)) ∧
  (∀ (s : State) (i : Init) (r : TagRun), s.grants i (s.holds i 9) = true → s.tagX.run = some r → r.began = true → r.phase = .slot →
    exec (.tagInvAbort i) s = .next (s.setRun { r with abort := true }))

/-- Pin commits and GPIO. -/
def Obligations.PinsAndGpio : Prop :=
  (∀ (s u : State) (i : Init) (b p : Nat), s.grants i (isBay i b) = true → u = s.put (R.PINb_COMMIT.ARMED b) 0 →
    (indices 128 (fun p => u.ownPin p == some b)).find? (fun p => u.pinReason b p != 0) = some p →
    exec (.pinCommitGo i b) s = .next (((u.put (R.PINb_COMMIT_STAT.STATUS b) 3).put (R.PINb_COMMIT_STAT.RESULT b) (u.pinReason b p)).put
      (R.PINb_COMMIT_STAT.PIN b) p)) ∧
  (∀ (s u v : State) (i : Init) (b : Nat), s.grants i (isBay i b) = true → u = s.put (R.PINb_COMMIT.ARMED b) 0 →
    (indices 128 (fun p => u.ownPin p == some b)).all (fun p => u.pinReason b p == 0) = true →
    v = ((u.put (R.PINb_COMMIT_STAT.STATUS b) 1).put (R.PINb_COMMIT_STAT.RESULT b) 0).put (R.PINb_COMMIT_STAT.PIN b) 0 →
    exec (.pinCommitGo i b) s =
      .next (v.forEach (indices 128 (fun p => s.ownPin p == some b && s.pinShadow p != s.pinActive p)) (fun p u => u.commitPin p))) ∧
  (∀ (s : State) (i : Init) (b : Nat), s.grants i (isBay i b) = true → exec (.pinCommitArm i b) s = .next (s.put (R.PINb_COMMIT.ARMED b) 1)) ∧
  (∀ (s u v w : State) (p : Nat) (l : Bool) (m : PinMove), s.pin.moves.find? (fun m => m.pin == p) = some m →
    s.flt.corrupt.contains (0x0803, p) = false → s.railIsLow (p / 32) = false → (parkLevel m.oldPark = none ∨ parkLevel m.oldPark = some l) →
    u = ((s.dropMoves p).setActive p m.target).flag (R.PINp_ACTIVE.PARKED p) false → u.railIsLow (p / 32) = false → v = u.pinLevel p l →
    w = (if v.get (R.GPIOp_CFG.BIND_OUT p) = 0 then v.driveGpio p else v) → exec (.pinCommitSwitch p l) s = .next w) ∧
  (∀ (s : State) (p : Nat) (l : Bool), s.pin.moves.find? (fun m => m.pin == p) = none → exec (.pinCommitSwitch p l) s = .next s) ∧
  (∀ (s : State) (i : Init) (k : Nat) (w : Word), fromAfar i = false → s.live i.bay = true →
    exec (.gpioSet i k w) s = .next (s.gpioOut k (w.toNat &&& s.bankMask i.bay k) 0xFFFFFFFF) ∧
    exec (.gpioClr i k w) s = .next (s.gpioOut k (w.toNat &&& s.bankMask i.bay k) 0)) ∧
  (∀ (s : State) (p : Nat) (l : Bool), s.clocked = true → s.pin.moves.any (fun m => m.pin == p) = false →
    s.on (R.PINp_ACTIVE.LEVEL p) ≠ l → s.railIsLow (p / 32) = false → exec (.gpioInputEdge p l) s = .next (s.pinLevel p l)) ∧
  (∀ (s : State) (p : Nat) (l : Bool), s.on (R.PINp_ACTIVE.LEVEL p) = l → exec (.gpioInputEdge p l) s = .next s) ∧
  (∀ (s : State) (p : Nat) (d : Bool), s.clocked = true → s.on (R.PINp_ACTIVE.PARKED p) = false → (s.ownPin p).isSome = true →
    s.railIsLow (p / 32) = false → s.get (R.PINp_ACTIVE.FUNC p) ≠ 0 → deOf (pinSignal p (s.get (R.PINp_ACTIVE.FUNC p))) = none →
    exec (.pinReadbackMismatch p d) s =
      .next (s.report (ownerOr0 (s.ownPin p)) 0x0801 p (b2n d + 256 * s.get (R.PINp_ACTIVE.FUNC p)))) ∧
  (∀ (s : State) (p n : Nat) (d : Bool), s.clocked = true → s.on (R.PINp_ACTIVE.PARKED p) = false → (s.ownPin p).isSome = true →
    s.railIsLow (p / 32) = false → s.get (R.PINp_ACTIVE.FUNC p) ≠ 0 → deOf (pinSignal p (s.get (R.PINp_ACTIVE.FUNC p))) = some n →
    exec (.pinReadbackMismatch p d) s = .next (((s.parkPin p).serDeFault n).report (ownerOr0 (s.ownPin p)) 0x2C03 n p)) ∧
  (∀ (s : State) (p : Nat) (d : Bool), s.clocked = true → s.on (R.PINp_ACTIVE.PARKED p) = false → (s.ownPin p).isSome = true →
    s.railIsLow (p / 32) = false → s.get (R.PINp_ACTIVE.FUNC p) = 0 → s.pin.shed.testBit p = false →
    s.bit (R.GPIO_DIRk.DIR (p / 32)) (p % 32) = true →
    exec (.pinReadbackMismatch p d) s = .next (s.report (ownerOr0 (s.ownPin p)) 0x6C01 p (b2n d)))

/-- Frames of HIF-SPI. -/
def Obligations.HostFrames : Prop :=
  (∀ (s : State) (f : HFrame) (n : Nat), s.hifOn = true → s.frameErr f = 0 →
    (baseOp f.op = 0x02 → exec (.stageWr f) s = .next ((s.stageWrite f.addr f.data).frameGood true)) ∧
    (baseOp f.op = 0x03 → s.poisoned (s.stage.1 + f.addr) f.len = false →
      exec (.stageRd f) s = .next ((s.frameData (s.readMem (s.stage.1 + f.addr) f.len)).frameGood false)) ∧
    (baseOp f.op = 0x05 → exec (.statusRd f) s = .next ((s.frameData (toLE 4 s.statusWord)).frameGood false)) ∧
    (baseOp f.op = 0x12 → exec (.cmdWr f n) s = .next ((s.halvik 8 ((List.range (f.data.length / 4)).map (fun k =>
      BitVec.ofNat 32 (leAt f.data (4 * k) 4))) n).frameGood true)) ∧
    (baseOp f.op = 0x13 → exec (.cplRd f) s =
      .next ((s.frameData ((s.hif.spi.ring.getD s.hif.spi.tail []).flatMap (fun w => toLE 4 w.toNat))).frameGood false)) ∧
    (baseOp f.op = 0x14 → exec (.cplAck f) s = .next ((s.setTail 8 (leAt f.data 0 1 % 8)).frameGood true)) ∧
    (baseOp f.op = 0x22 → exec (.hdbWr f) s =
      .next (((s.put R.HIF_SPI_HDB.WORD (leAt f.data 0 4)).flag R.HIF_IRQ_PEND.SPI_HDB true).frameGood true)) ∧
    (baseOp f.op = 0x23 → exec (.ddbRd f) s =
      .next (((s.modHif (fun h => { h with spiDdb := none })).frameData (toLE 4 (s.hif.spiDdb.getD 0))).frameGood false))) ∧
  (∀ (s : State) (f : HFrame) (n e : Nat), s.hifOn = true → e = s.frameErr f → e ≠ 0 →
    (baseOp f.op = 0x02 → exec (.stageWr f) s = .next (s.frameBad f e true)) ∧
    (baseOp f.op = 0x12 → exec (.cmdWr f n) s = .next (s.frameBad f e true)) ∧
    (baseOp f.op = 0x14 → exec (.cplAck f) s = .next (s.frameBad f e true)) ∧
    (baseOp f.op = 0x22 → exec (.hdbWr f) s = .next (s.frameBad f e true)) ∧
    (baseOp f.op = 0x13 → exec (.cplRd f) s = .next ((s.frameBad f e false).reply (List.replicate (f.len / 4 + 1) 0xFFFFFFFF#32)))) ∧
  (∀ (s u : State) (f : HFrame) (e : Nat), u = s.modHif (fun h => { h with lastErr := e, lastOk := false }) → s.frameBad f e true =
    ((u.inc R.HIF_SPI_CNT.BAD).flag R.HIF_IRQ_PEND.SPI_ERR true).report 0 0x5C01 0 (f.op % 256 + 256 * e)) ∧
  (∀ (s : State) (f : HFrame), s.hifOn = false → exec (.stageWr f) s = .next s ∧ exec (.stageRd f) s = .next s ∧
    exec (.hdbWr f) s = .next s ∧ exec (.ddbRd f) s = .next s ∧ exec (.statusRd f) s = .next (s.frameData (toLE 4 s.statusWord))) ∧
  (∀ (s : State) (i : Init) (w : Word), s.grants i (s.holds i 5) = true →
    exec (.hifSpiDdb i w) s = .next (s.modHif (fun h => { h with spiDdb := some w.toNat })))

/-- The PCIe endpoint and the QSPI controller. -/
def Obligations.PcieAndFlash : Prop :=
  (∀ (s : State) (w : Word), s.pcieUp = true →
    exec (.bar0Hdb w) s = .next ((s.put R.HIF_PCIE_HDB.WORD w.toNat).flag R.HIF_IRQ_PEND.PCIE_HDB true) ∧
    exec .bar0Ddb s = .next ((s.modHif (fun h => { h with pcieDdb := none })).reply1 (s.hif.pcieDdb.getD 0))) ∧
  (∀ (s : State) (o n : Nat) (d : List Byte), s.pcieUp = true → o + d.length ≤ min s.stage.2 0x100000 →
    exec (.bar2Access true o n d) s = .next (s.stageWrite o d)) ∧
  (∀ (s : State) (o n : Nat) (d : List Byte), s.pcieUp = true → o + n ≤ min s.stage.2 0x100000 →
    exec (.bar2Access false o n d) s = .next (s.frameData (s.readMem (s.stage.1 + o) n))) ∧
  (∀ (s : State) (w : Word) (b : Bool) (o n : Nat) (d : List Byte), s.pcieUp = false →
    exec (.bar0Hdb w) s = .next s ∧ exec .bar0Ddb s = .next s ∧ exec (.bar2Access b o n d) s = .next s) ∧
  (∀ s : State, exec .pciePerst s = .next (((s.pcieLink false 0 0).flag R.HIF_PCIE_STAT.D3 false).modHif (fun h =>
    { h with msi := none, oneMsi := true }))) ∧
  (∀ (s u : State) (r w l : Nat) (d o : Bool), s.pcieOn = true → s.on R.HIF_PCIE_STAT.LINK_UP = true →
    u = ((s.pcieLink false r w).flag R.HIF_PCIE_STAT.D3 d).modHif (fun h => { h with oneMsi := o }) →
    exec (.pcieLinkChange false r w l d o) s = .next (u.report 0 0x5C02 0 (l % 8))) ∧
  (∀ (s : State) (r w l : Nat) (d o : Bool), s.pcieOn = true → exec (.pcieLinkChange true r w l d o) s =
    .next (((s.pcieLink true r w).flag R.HIF_PCIE_STAT.D3 d).modHif (fun h => { h with oneMsi := o }))) ∧
  (∀ (s : State) (i : Init) (w : Bool) (a : Nat), s.live i.bay = true → isBay i 0 = true → 0x8000000000 ≤ a → a < 0x8100000000 →
    exec (.pcieOutboundTimeout i w a) s = .next (s.busError i w a)) ∧
  (∀ (s u : State) (i : Init) (w : Word), s.grants i (s.holds i 5) = true → w.toNat.testBit 31 = true →
    u = (((s.put R.HIF_QSPI_CMD.OP w.toNat).put R.HIF_QSPI_CMD.LEN (w.toNat / 256)).put R.HIF_QSPI_CMD.WRITE (w.toNat / 131072)).put
      R.HIF_QSPI_CMD.ADDR_EN (w.toNat / 262144) → u.on R.HIF_QSPI_STAT.BUSY = false →
    exec (.hifQspiCmd i w) s = .next ((u.flag R.HIF_QSPI_STAT.BUSY true).put R.HIF_QSPI_STAT.STATUS 0)) ∧
  (∀ (s u : State) (d : List Word) (o : Nat) (b : List Byte), s.on R.HIF_QSPI_STAT.BUSY = true →
    u = ((s.flag R.HIF_QSPI_STAT.BUSY false).put R.HIF_QSPI_STAT.STATUS 1).flag R.HIF_IRQ_PEND.QSPI_DONE true →
    u.on R.HIF_QSPI_CMD.WRITE = true → exec (.qspiCommandDone d o b) s = .next { u with flash := putFlash u.flash o b }) ∧
  (∀ (s u : State) (d : List Word) (o : Nat) (b : List Byte), s.on R.HIF_QSPI_STAT.BUSY = true →
    u = ((s.flag R.HIF_QSPI_STAT.BUSY false).put R.HIF_QSPI_STAT.STATUS 1).flag R.HIF_IRQ_PEND.QSPI_DONE true →
    u.on R.HIF_QSPI_CMD.WRITE = false → exec (.qspiCommandDone d o b) s = .next (u.forEach
      (List.range (min 64 ((u.get R.HIF_QSPI_CMD.LEN + 3) / 4))) (fun k t => t.putWord (R.HIF_QSPI_DATA.WORD k) (d.getD k 0)))) ∧
  (∀ (s : State) (d : List Word) (o : Nat) (b : List Byte), s.on R.HIF_QSPI_STAT.BUSY = false →
    exec (.qspiCommandDone d o b) s = .next s)

/-- The state after reset is in canonical form. -/
def Obligations.CanonicalAtReset : Prop := State.reset.canon = true ∧ State.reset.pending = []

/-- Every step, of a command or of the idle clock edge, keeps the canonical form. -/
def Obligations.EveryStepKeepsCanon : Prop :=
  ∀ s t : State, s.canon = true → step s = .next t → t.canon = true

/-- No command changes the queue, and only the QSPI controller changes the external flash.  That the queue stands outside what a
command does is the model's own construction (log entry 1). -/
def Obligations.CommandsLeaveTheQueueAndTheFlash : Prop :=
  (∀ (c : Instr) (s t : State), exec c s = .next t → t.pending = s.pending) ∧
  (∀ (c : Instr) (s t : State), (∀ d o b, c ≠ .qspiCommandDone d o b) → exec c s = .next t → t.flash = s.flash) ∧
  (∀ s t : State, s.pending = [] → step s = .next t → t.pending = [] ∧ t.flash = s.flash)

/-- No command ends in a fault or a refusal: the errors of the block are effects on its state. -/
def Obligations.NoCommandStops : Prop := ∀ s : State, Safe s

/-- A blocked access changes only the record of it, FLT's list of retests and what its initiator learns.  The retest is not run
here; 64 waiting reports, where FLT judges without one, are left out of the premise. -/
def Obligations.BlockedAccessesChangeOnlyTheRecord : Prop :=
  ∀ (s t : State) (i : Init) (c a : Nat) (wr : Bool), s.canon = true → c ∈ [0x0C01, 0x0C02, 0x0C03, 0x0C04] → i.bay < 8 →
    s.flt.waiting.foldl (fun k x => k + x.reports.length) 0 < 64 → t = s.blocked i c a wr →
    (t.mem = s.mem ∧ t.nvm = s.nvm ∧ t.flash = s.flash ∧ t.cfg = s.cfg ∧ t.sys = s.sys ∧ t.bay = s.bay ∧ t.sec = s.sec ∧ t.hif = s.hif ∧
      t.memx = s.memx ∧ t.msg = s.msg ∧ t.time = s.time ∧ t.port = s.port ∧ t.link = s.link ∧ t.ana = s.ana ∧ t.pin = s.pin) ∧
    (∀ g : Fld, g.addr ∉ [0x4002000C, 0x40190000, 0x40021010 + 0x1000 * i.bay, 0x40021014 + 0x1000 * i.bay, 0x40021018 + 0x1000 * i.bay] →
      t.word g = s.word g) ∧
    (t.get R.BAY_VIOL_SUM.VIOL).testBit i.bay = true ∧
    (s.on (R.BAYn_VIOL.VALID i.bay) = false → t.get (R.BAYn_VIOL.CAUSE i.bay) = c ∧ t.on (R.BAYn_VIOL.VALID i.bay) = true ∧
      t.get (R.BAYn_VIOL_ADDR_LO.ADDR i.bay) = a % 2 ^ 32 ∧ t.get (R.BAYn_VIOL_ADDR_HI.ADDR i.bay) = a / 2 ^ 32 % 256 ∧
      t.get (R.BAYn_VIOL_ADDR_HI.INIT i.bay) = i.kind % 16 ∧ t.get (R.BAYn_VIOL_ADDR_HI.INST i.bay) = i.inst % 16 ∧
      t.on (R.BAYn_VIOL_ADDR_HI.WRITE i.bay) = wr)

/-- A register write, by its access codes, over every register of the tables: RO and BS fields, and WL fields while locked, keep
every bit, and nothing but the register changes, so that nothing is reported. -/
def Obligations.ReadOnlyFieldsIgnoreWrites : Prop :=
  ∀ (s : State) (a : Nat) (w keep : Word) (r : RegDef) (f : FldDef) (n : Nat), s.canon = true → regAt a = some r → f ∈ r.fields →
    f.acc = .ro ∨ f.acc = .bs ∨ (f.acc = .wl ∧ s.unlocked a = false) → f.lo ≤ n → n < f.lo + f.w →
    ((s.writeRaw a w keep).wordAt a).getLsbD n = (s.wordAt a).getLsbD n ∧
    s.writeRaw a w keep = { s with regs := (s.writeRaw a w keep).regs }

/-- Whom a slot serves.  Transfers of other members count as a ninth number, 8, without positions (R612). -/
def Obligations.SlotsGoToTheirBayOrRoundRobin : Prop :=
  (∀ (s : State) (pos : Nat) (l : List Xfer) (x : Xfer), x ∈ l → slotLane x < 8 → slotLane x = s.bay.wheel.getD (pos % 64) 8 →
    ∃ y ∈ l, slotLane y = slotLane x ∧ s.slotPick pos l = some (y, true)) ∧
  (∀ (s : State) (pos : Nat) (l : List Xfer), s.bay.rr ≤ 8 → l ≠ [] →
    (∀ x ∈ l, 8 ≤ slotLane x ∨ slotLane x ≠ s.bay.wheel.getD (pos % 64) 8) →
    ∃ y ∈ l, s.slotPick pos l = some (y, false) ∧ ∀ z ∈ l, (slotLane y + 17 - s.bay.rr) % 9 ≤ (slotLane z + 17 - s.bay.rr) % 9) ∧
  (∀ (s : State) (pos b : Nat) (l : List Xfer) (y : Xfer) (own : Bool), b < 8 → (∀ p, s.bay.wheel.getD (p % 64) 8 ≠ b) →
    s.slotPick pos l = some (y, own) → slotLane y = b → own = false) ∧
  (∀ (s : State) (pos : Nat) (l : List Xfer) (y : Xfer), s.clocked = true → (∀ x ∈ l, x.by_.kind = 5 ∨ s.live x.by_.bay = true) →
    s.slotPick pos l = some (y, false) → exec (.fabricTransfer pos l) s =
      .next ((State.slotCount { s with bay := { s.bay with rr := slotLane y } } y false).transfer y)) ∧
  (∀ (s : State) (pos : Nat) (l : List Xfer) (y : Xfer), s.clocked = true → (∀ x ∈ l, x.by_.kind = 5 ∨ s.live x.by_.bay = true) →
    s.slotPick pos l = some (y, true) → exec (.fabricTransfer pos l) s = .next ((s.slotCount y true).transfer y))

/-- Wheel positions follow the shares.  How evenly a bay's positions are spread is the model's choice (R142 gives no rule for it) and
not stated here. -/
def Obligations.WheelPositionsFollowTheShares : Prop :=
  ∀ (w : List Nat) (b k : Nat), w.length = 64 → b < 8 → (∀ x ∈ w, x ≠ b) → k ≤ (w.filter (fun x => x == 8)).length →
    (placeBay w b k).length = 64 ∧ ((placeBay w b k).filter (fun x => x == b)).length = k ∧
    (∀ p, p < 64 → w.getD p 8 ≠ 8 → (placeBay w b k).getD p 8 = w.getD p 8) ∧
    (∀ p, p < 64 → (placeBay w b k).getD p 8 = b ∨ (placeBay w b k).getD p 8 = w.getD p 8)

/-- Replay stores: what the lookup gives after a command is accepted. -/
def Obligations.ReplayWindowsRecognizeRepeats : Prop :=
  (∀ (l : List ReplayOrigin) (n o tag op fp : Nat), lookup (acceptTag l n o tag op fp) o tag fp = .pending) ∧
  (∀ (l : List ReplayOrigin) (n o tag op fp g : Nat), g ≠ fp → lookup (acceptTag l n o tag op fp) o tag g = .reuse) ∧
  (∀ (l : List ReplayOrigin) (n o tag op fp p u g : Nat), p ≠ o → l.length < 32 ∨ (∃ x ∈ l, x.origin = o) →
    lookup (acceptTag l n o tag op fp) p u g = lookup l p u g) ∧
  (∀ (l : List ReplayOrigin) (x : ReplayOrigin) (n o tag op fp u g : Nat), l.length = 32 → (∀ y ∈ l, y.origin ≠ o) → x ∈ l →
    (∀ y ∈ l, y = x ∨ (x.last < y.last ∧ y.origin ≠ x.origin)) →
    lookup (acceptTag l n o tag op fp) x.origin u g = .fresh ∧
    (∀ p, p ≠ o → p ≠ x.origin → lookup (acceptTag l n o tag op fp) p u g = lookup l p u g)) ∧
  (∀ (l : List ReplayOrigin) (n o tag op fp : Nat), l.length ≤ 32 → (acceptTag l n o tag op fp).length ≤ 32)

/-- Reads of RX_DATA.  After the pop the links may deliver a message that they hold for room (R587). -/
def Obligations.MailboxReads : Prop :=
  (∀ (s : State) (i : Init) (m d : Nat), d < 2 → s.grants i (!(fromAfar i) && s.mbxMay i.bay m d) = true →
    (s.mbxQ m (1 - d)).msgs = [] → exec (.rxData i m d) s = .next (s.reply [0#32])) ∧
  (∀ (s : State) (i : Init) (m d : Nat) (w : Word) (x : List Word) (y : List (List Word)), s.canon = true → d < 2 →
    s.grants i (!(fromAfar i) && s.mbxMay i.bay m d) = true → (s.mbxQ m (1 - d)).msgs = (w :: x) :: y →
    ∃ t : State, exec (.rxData i m d) s = .next (t.linksHeld.reply [w]) ∧ (t.mbxQ m (1 - d)).msgs = (if x = [] then y else x :: y) ∧
      (t.mbxQ m (1 - d)).opn = (s.mbxQ m (1 - d)).opn)

/-- A message crosses a mailbox word for word: a run of writes, then a run of reads. -/
def Obligations.MailboxesKeepTheOrderOfWords : Prop :=
  ∀ (s : State) (i j : Init) (m d : Nat) (ws : List Word) (w : Word), s.canon = true → m < 64 → d < 2 → fromAfar i = false →
    fromAfar j = false → s.live i.bay = true → s.live j.bay = true → s.mbxMay i.bay m d = true → s.mbxMay j.bay m (1 - d) = true →
    s.recs .link 4 = [] → s.link.vdt.held = [] → s.mbxQ m d = MbxQ.empty → ws.length ≤ 15 →
    ∃ t : State, runs (ws.map (fun x => .txData i m d x) ++ [.txLast i m d w]) s = .next t ∧ (t.mbxQ m d).msgs = [ws ++ [w]] ∧
      (∀ k, k ≤ ws.length → ∃ u v : State, runs (List.replicate k (.rxData j m (1 - d))) t = .next u ∧
        exec (.rxData j m (1 - d)) u = .next v ∧ v.answer = [(ws ++ [w]).getD k 0#32]) ∧
      ∃ v : State, runs (List.replicate (ws.length + 1) (.rxData j m (1 - d))) t = .next v ∧ (v.mbxQ m d).msgs = []

/-- Frames: commands that store nothing, and a write through the fabric, whose bytes are those from its address on. -/
def Obligations.FramesOfSingleCommands : Prop :=
  (∀ (s : State) (i : Init) (k : Nat) (w : Word), s.canon = true → s.grants i (!(fromAfar i)) = true →
    Frames s (exec (.gpioSet i k w) s) [0x401D0004 + 0x20 * k] ∧ Frames s (exec (.gpioClr i k w) s) [0x401D0004 + 0x20 * k]) ∧
  (∀ (s : State) (i : Init) (b : Nat), s.canon = true → s.grants i (isBay i b) = true →
    Frames s (exec (.pinCommitArm i b) s) [0x40011000 + 0x1000 * b]) ∧
  (∀ (s : State) (i : Init) (n : Nat), s.canon = true → s.grants i (s.holds i (52 + n)) = true →
    Frames s (exec (.tcapStamp i n) s) [0x40062004 + 0x100 * n, 0x40062008 + 0x100 * n]) ∧
  (∀ (s : State) (w : Word), s.canon = true → Frames s (exec (.bar0Hdb w) s) [0x401B0014, 0x401B0050]) ∧
  (∀ (s : State) (i : Init) (w : Word), s.grants i (s.holds i 5) = true → Frames s (exec (.hifSpiDdb i w) s) []) ∧
  (∀ (s : State) (n i : Nat), Frames s (exec (.deadTimeEnd n i) s) [] ∧ Frames s (exec (.legChangeDeferred n i) s) []) ∧
  (∀ (s : State) (n : Nat), s.canon = true → Frames s (exec (.losClearExpiry n) s) [0x40110408 + 0x10000 * n] ∧
    Frames s (exec (.chopperDutyInterval n) s) [0x40110424 + 0x10000 * n]) ∧
  (∀ (s : State) (l : Nat), s.canon = true → Frames s (exec (.laneFrameDiscard l) s)
    [R.VDT_CRC_ERR.A.addr, R.VDT_CRC_ERR.B.addr, R.TRS_CRC_ERR.UP.addr, R.TRS_CRC_ERR.DOWN.addr]) ∧
  (∀ (s : State) (pos a n : Nat) (i : Init) (d : List Byte), s.canon = true → s.clocked = true → s.live i.bay = true → i.kind < 5 →
    i.bay < 8 → sizeOk a d.length = true → regionOf a = .bank n → s.bufOk i.bay true a d.length = true → s.memx.poison = [] →
    ∃ t : State, exec (.fabricTransfer pos [⟨i, a, .write d, [], none, 0⟩]) s = .next t ∧ (∀ k, k < d.length → t.byte (a + k) = d.getD k 0#8) ∧
      ∀ b, b < a ∨ a + d.length ≤ b → t.byte b = s.byte b)
end

