-- ==== Sys2Proof/Laws/Map.lean ====
section
/-! SUPPORT.
Sparse maps: what a key reads after an update, and that updates keep the canonical form. -/

namespace Sys2Proof

variable {α : Type} [DecidableEq α] {d : α}

/-- Raising the bound below the first key keeps well-formedness. -/
theorem SMap.wfFrom_mono {lo lo' : Nat} (h : lo' ≤ lo) {m : SMap α} (hm : SMap.wfFrom d lo m = true) :
    SMap.wfFrom d lo' m = true := by
  cases m with
  | nil => rfl
  | cons p t =>
    simp only [SMap.wfFrom, Bool.and_eq_true, decide_eq_true_eq] at hm ⊢
    exact ⟨⟨by omega, hm.1.2⟩, hm.2⟩

/-- A key below the bound of a well-formed map is not listed. -/
theorem SMap.get_below {lo k : Nat} {m : SMap α} (hm : SMap.wfFrom d lo m = true) (h : k < lo) : SMap.get d m k = d := by
  cases m with
  | nil => rfl
  | cons p t =>
    simp only [SMap.wfFrom, Bool.and_eq_true, decide_eq_true_eq] at hm
    simp only [SMap.get]
    rw [if_neg (by omega), if_pos (by omega)]

/-- A key reads what was last set at it. -/
theorem SMap.get_set_same (k : Nat) (v : α) : ∀ {lo : Nat} {m : SMap α}, SMap.wfFrom d lo m = true →
    SMap.get d (SMap.set d m k v) k = v
  | _, [], _ => by
    by_cases hv : v = d <;> simp [SMap.set, SMap.get, hv]
  | _, (a, u) :: t, hm => by
    simp only [SMap.wfFrom, Bool.and_eq_true, decide_eq_true_eq] at hm
    simp only [SMap.set]
    by_cases h1 : a = k
    · rw [if_pos h1]
      by_cases hv : v = d
      · rw [if_pos hv, hv]; exact SMap.get_below hm.2 (by omega)
      · rw [if_neg hv]; simp [SMap.get]
    · rw [if_neg h1]
      by_cases h2 : k < a
      · rw [if_pos h2]
        by_cases hv : v = d
        · rw [if_pos hv]; simp [SMap.get, h1, h2, hv]
        · rw [if_neg hv]; simp [SMap.get]
      · rw [if_neg h2]
        simp only [SMap.get, if_neg h1, if_neg h2]
        exact SMap.get_set_same k v hm.2

/-- Another key reads as before. -/
theorem SMap.get_set_other {k j : Nat} (h : j ≠ k) (v : α) : ∀ {lo : Nat} {m : SMap α}, SMap.wfFrom d lo m = true →
    SMap.get d (SMap.set d m k v) j = SMap.get d m j
  | _, [], _ => by
    by_cases hv : v = d
    · simp [SMap.set, hv]
    · simp only [SMap.set, if_neg hv, SMap.get, if_neg (Ne.symm h), ite_self]
  | _, (a, u) :: t, hm => by
    simp only [SMap.wfFrom, Bool.and_eq_true, decide_eq_true_eq] at hm
    simp only [SMap.set]
    by_cases h1 : a = k
    · rw [if_pos h1]
      by_cases hv : v = d
      · rw [if_pos hv]
        simp only [SMap.get]
        rw [if_neg (by omega)]
        by_cases h3 : j < a
        · rw [if_pos h3]; exact SMap.get_below hm.2 (by omega)
        · rw [if_neg h3]
      · rw [if_neg hv]; subst h1; simp [SMap.get, Ne.symm h]
    · rw [if_neg h1]
      by_cases h2 : k < a
      · rw [if_pos h2]
        by_cases hv : v = d
        · rw [if_pos hv]
        · rw [if_neg hv]
          simp only [SMap.get]
          rw [if_neg (Ne.symm h)]
          by_cases h3 : j < k
          · rw [if_pos h3, if_neg (by omega), if_pos (by omega)]
          · rw [if_neg h3]
      · rw [if_neg h2]
        simp only [SMap.get]
        rw [SMap.get_set_other h v hm.2]

/-- An update keeps the canonical form. -/
theorem SMap.set_wfFrom (k : Nat) (v : α) : ∀ {lo : Nat} {m : SMap α}, SMap.wfFrom d lo m = true → lo ≤ k →
    SMap.wfFrom d lo (SMap.set d m k v) = true
  | _, [], _, hk => by
    by_cases hv : v = d <;> simp [SMap.set, SMap.wfFrom, hv, hk]
  | lo, (a, u) :: t, hm, hk => by
    have hm0 := hm
    simp only [SMap.wfFrom, Bool.and_eq_true, decide_eq_true_eq] at hm
    simp only [SMap.set]
    by_cases h1 : a = k
    · rw [if_pos h1]
      by_cases hv : v = d
      · rw [if_pos hv]; exact SMap.wfFrom_mono (by omega) hm.2
      · rw [if_neg hv]
        simp only [SMap.wfFrom, Bool.and_eq_true, decide_eq_true_eq]
        exact ⟨⟨hk, hv⟩, h1 ▸ hm.2⟩
    · rw [if_neg h1]
      by_cases h2 : k < a
      · rw [if_pos h2]
        by_cases hv : v = d
        · rw [if_pos hv]; exact hm0
        · rw [if_neg hv]
          simp only [SMap.wfFrom, Bool.and_eq_true, decide_eq_true_eq]
          exact ⟨⟨hk, hv⟩, ⟨by omega, hm.1.2⟩, hm.2⟩
      · rw [if_neg h2]
        simp only [SMap.wfFrom, Bool.and_eq_true, decide_eq_true_eq]
        exact ⟨hm.1, SMap.set_wfFrom k v hm.2 (by omega)⟩

theorem SMap.set_wf (m : SMap α) (k : Nat) (v : α) (h : SMap.wf d m = true) : SMap.wf d (SMap.set d m k v) = true :=
  SMap.set_wfFrom k v h (Nat.zero_le k)

/-- Passing every value through a function and dropping defaults keeps the canonical form. -/
theorem SMap.mapDrop_wfFrom (f : Nat → α → α) : ∀ {lo : Nat} {m : SMap α}, SMap.wfFrom d lo m = true →
    SMap.wfFrom d lo (SMap.mapDrop d f m) = true
  | _, [], _ => rfl
  | lo, (a, u) :: t, hm => by
    simp only [SMap.wfFrom, Bool.and_eq_true, decide_eq_true_eq] at hm
    have ih := SMap.mapDrop_wfFrom f hm.2
    simp only [SMap.mapDrop]
    by_cases h : f a u = d
    · rw [if_pos h]; exact SMap.wfFrom_mono (by omega) ih
    · rw [if_neg h]
      simp only [SMap.wfFrom, Bool.and_eq_true, decide_eq_true_eq]
      exact ⟨⟨hm.1.1, h⟩, ih⟩

theorem SMap.mapDrop_wf (f : Nat → α → α) (m : SMap α) (h : SMap.wf d m = true) : SMap.wf d (SMap.mapDrop d f m) = true :=
  SMap.mapDrop_wfFrom f h

/-- A read through `mapDrop` of a function that keeps the default. -/
theorem SMap.get_mapDrop (f : Nat → α → α) (hf : ∀ a, f a d = d) (k : Nat) : ∀ {lo : Nat} {m : SMap α},
    SMap.wfFrom d lo m = true → SMap.get d (SMap.mapDrop d f m) k = f k (SMap.get d m k)
  | _, [], _ => by simp [SMap.mapDrop, SMap.get, hf]
  | lo, (a, u) :: t, hm => by
    simp only [SMap.wfFrom, Bool.and_eq_true, decide_eq_true_eq] at hm
    have ih := SMap.get_mapDrop f hf k hm.2
    have hw := SMap.mapDrop_wfFrom f hm.2
    simp only [SMap.mapDrop]
    by_cases h : f a u = d
    · rw [if_pos h]
      by_cases h1 : a = k
      · subst h1
        simp only [SMap.get, if_true, h]
        exact SMap.get_below hw (by omega)
      · by_cases h2 : k < a
        · simp only [SMap.get, if_neg h1, if_pos h2, hf]
          exact SMap.get_below hw (by omega)
        · simp only [SMap.get, if_neg h1, if_neg h2, ih]
    · rw [if_neg h]
      by_cases h1 : a = k
      · subst h1; simp [SMap.get]
      · by_cases h2 : k < a
        · simp only [SMap.get, if_neg h1, if_pos h2, hf]
        · simp only [SMap.get, if_neg h1, if_neg h2, ih]

end Sys2Proof
end

