-- ==== Sys2Proof/Laws/State.lean ====
section
/-! SUPPORT.
Register fields and state updates: what a field reads after a write, and that a register write leaves every other part of
the state. -/

namespace Sys2Proof.Machine

/-! ### Other parts of the state -/

section frame
variable (s : State) (f : Fld) (v : Word) (n : Nat)

@[simp] theorem State.putWord_mem : (s.putWord f v).mem = s.mem := rfl
@[simp] theorem State.putWord_nvm : (s.putWord f v).nvm = s.nvm := rfl
@[simp] theorem State.putWord_flash : (s.putWord f v).flash = s.flash := rfl
@[simp] theorem State.putWord_cfg : (s.putWord f v).cfg = s.cfg := rfl
@[simp] theorem State.putWord_sys : (s.putWord f v).sys = s.sys := rfl
@[simp] theorem State.putWord_bay : (s.putWord f v).bay = s.bay := rfl
@[simp] theorem State.putWord_sec : (s.putWord f v).sec = s.sec := rfl
@[simp] theorem State.putWord_hif : (s.putWord f v).hif = s.hif := rfl
@[simp] theorem State.putWord_memx : (s.putWord f v).memx = s.memx := rfl
@[simp] theorem State.putWord_flt : (s.putWord f v).flt = s.flt := rfl
@[simp] theorem State.putWord_core : (s.putWord f v).core = s.core := rfl
@[simp] theorem State.putWord_msg : (s.putWord f v).msg = s.msg := rfl
@[simp] theorem State.putWord_time : (s.putWord f v).time = s.time := rfl
@[simp] theorem State.putWord_port : (s.putWord f v).port = s.port := rfl
@[simp] theorem State.putWord_link : (s.putWord f v).link = s.link := rfl
@[simp] theorem State.putWord_ana : (s.putWord f v).ana = s.ana := rfl
@[simp] theorem State.putWord_pin : (s.putWord f v).pin = s.pin := rfl
@[simp] theorem State.putWord_free : (s.putWord f v).free = s.free := rfl
@[simp] theorem State.putWord_answer : (s.putWord f v).answer = s.answer := rfl
@[simp] theorem State.putWord_pending : (s.putWord f v).pending = s.pending := rfl
@[simp] theorem State.put_mem : (s.put f n).mem = s.mem := rfl
@[simp] theorem State.put_nvm : (s.put f n).nvm = s.nvm := rfl
@[simp] theorem State.put_flash : (s.put f n).flash = s.flash := rfl
@[simp] theorem State.put_cfg : (s.put f n).cfg = s.cfg := rfl
@[simp] theorem State.put_sys : (s.put f n).sys = s.sys := rfl
@[simp] theorem State.put_bay : (s.put f n).bay = s.bay := rfl
@[simp] theorem State.put_sec : (s.put f n).sec = s.sec := rfl
@[simp] theorem State.put_hif : (s.put f n).hif = s.hif := rfl
@[simp] theorem State.put_memx : (s.put f n).memx = s.memx := rfl
@[simp] theorem State.put_flt : (s.put f n).flt = s.flt := rfl
@[simp] theorem State.put_core : (s.put f n).core = s.core := rfl
@[simp] theorem State.put_msg : (s.put f n).msg = s.msg := rfl
@[simp] theorem State.put_time : (s.put f n).time = s.time := rfl
@[simp] theorem State.put_port : (s.put f n).port = s.port := rfl
@[simp] theorem State.put_link : (s.put f n).link = s.link := rfl
@[simp] theorem State.put_ana : (s.put f n).ana = s.ana := rfl
@[simp] theorem State.put_pin : (s.put f n).pin = s.pin := rfl
@[simp] theorem State.put_free : (s.put f n).free = s.free := rfl
@[simp] theorem State.put_answer : (s.put f n).answer = s.answer := rfl
@[simp] theorem State.put_pending : (s.put f n).pending = s.pending := rfl
@[simp] theorem State.reply_answer (l : List Word) : (s.reply l).answer = l := rfl
@[simp] theorem State.reply_regs (l : List Word) : (s.reply l).regs = s.regs := rfl
@[simp] theorem State.reply_mem (l : List Word) : (s.reply l).mem = s.mem := rfl
@[simp] theorem State.putByte_regs (a : Nat) (b : Byte) : (s.putByte a b).regs = s.regs := rfl
@[simp] theorem State.took_free : (s.took n).free = s.free + n := rfl
@[simp] theorem State.took_regs : (s.took n).regs = s.regs := rfl

end frame

/-! ### Canonical form -/

/-- The register file in canonical form. -/
def State.regsOk (s : State) : Prop := SMap.wf 0#32 s.regs = true

theorem State.putWord_regsOk {s : State} (h : s.regsOk) (f : Fld) (v : Word) : (s.putWord f v).regsOk :=
  SMap.set_wf s.regs f.addr (v ^^^ BitVec.ofNat 32 f.rst) h

theorem State.put_regsOk {s : State} (h : s.regsOk) (f : Fld) (n : Nat) : (s.put f n).regsOk := State.putWord_regsOk h f _

theorem State.resetRegs_regsOk {s : State} (h : s.regsOk) (lo hi : Nat) : (s.resetRegs lo hi).regsOk :=
  SMap.mapDrop_wf _ s.regs h

theorem State.putByte_memOk {s : State} (h : SMap.wf 0#8 s.mem = true) (a : Nat) (b : Byte) :
    SMap.wf 0#8 (s.putByte a b).mem = true := SMap.set_wf s.mem a b h

theorem State.zeroMem_memOk {s : State} (h : SMap.wf 0#8 s.mem = true) (lo hi : Nat) :
    SMap.wf 0#8 (s.zeroMem lo hi).mem = true := SMap.mapDrop_wf _ s.mem h

theorem State.putBytes_memOk (l : List Byte) : ∀ {s : State} (a : Nat), SMap.wf 0#8 s.mem = true →
    SMap.wf 0#8 (s.putBytes a l).mem = true := by
  induction l with
  | nil => intro s a h; exact h
  | cons b t ih => intro s a h; exact ih (a + 1) (State.putByte_memOk h a b)

theorem putCells_wf (l : List Byte) : ∀ {m : List Host.Cell} (a : Nat), SMap.wf 0#8 m = true →
    SMap.wf 0#8 (putCells m a l) = true := by
  induction l with
  | nil => intro m a h; exact h
  | cons b t ih => intro m a h; exact ih (a + 1) (SMap.set_wf m a b h)

/-! ### Words -/

/-- The register of `f` reads what was last written to it. -/
theorem State.word_putWord_same {s : State} (h : s.regsOk) (f : Fld) (v : Word) (g : Fld) (ha : g.addr = f.addr)
    (hr : g.rst = f.rst) : (s.putWord f v).word g = v := by
  unfold State.word State.putWord
  simp only [ha, hr]
  rw [SMap.get_set_same f.addr (v ^^^ BitVec.ofNat 32 f.rst) h]
  rw [BitVec.xor_assoc, BitVec.xor_self, BitVec.xor_zero]

/-- A register at another address reads as before. -/
theorem State.word_putWord_other {s : State} (h : s.regsOk) (f : Fld) (v : Word) (g : Fld) (ha : g.addr ≠ f.addr) :
    (s.putWord f v).word g = s.word g := by
  unfold State.word State.putWord
  simp only
  rw [SMap.get_set_other ha (v ^^^ BitVec.ofNat 32 f.rst) h]

/-- A field of another register reads as before. -/
theorem State.get_put_addr {s : State} (h : s.regsOk) (f g : Fld) (n : Nat) (ha : g.addr ≠ f.addr) :
    (s.put f n).get g = s.get g := by
  unfold State.get State.put
  rw [State.word_putWord_other h f _ g ha]

/-- Bit `i` of a mask of `w` bits at `lo`. -/
theorem testBit_mask (lo w i : Nat) : ((2 ^ w - 1) <<< lo).testBit i = (decide (lo ≤ i) && decide (i < lo + w)) := by
  rw [Nat.testBit_shiftLeft]
  by_cases h : lo ≤ i
  · have e : (i - lo < w) ↔ (i < lo + w) := by omega
    simp [h, Nat.testBit_two_pow_sub_one, e]
  · simp [h]

/-- Bit `i` of a field's mask. -/
theorem Fld.getLsbD_mask (f : Fld) (i : Nat) :
    f.mask.getLsbD i = (decide (i < 32) && decide (f.lo ≤ i) && decide (i < f.lo + f.w)) := by
  unfold Fld.mask
  rw [BitVec.getLsbD_ofNat, testBit_mask, Bool.and_assoc]

/-- Bit `i` of a field of a word. -/
theorem testBit_field (v : Word) (lo w i : Nat) :
    (field v.toNat lo w).testBit i = (decide (i < w) && v.getLsbD (lo + i)) := by
  unfold field
  rw [Nat.testBit_mod_two_pow, Nat.testBit_shiftRight, BitVec.getLsbD]

/-- A field reads what was last put into it. -/
theorem State.get_put_same {s : State} (h : s.regsOk) (f : Fld) (n : Nat) (hf : f.lo + f.w ≤ 32) :
    (s.put f n).get f = n % 2 ^ f.w := by
  unfold State.get State.put
  rw [State.word_putWord_same h f _ f rfl rfl]
  apply Nat.eq_of_testBit_eq
  intro i
  rw [testBit_field, Nat.testBit_mod_two_pow]
  by_cases hi : i < f.w
  · have h32 : f.lo + i < 32 := by omega
    have hm : f.mask.getLsbD (f.lo + i) = true := by
      rw [Fld.getLsbD_mask]; simp [h32, hi]
    rw [BitVec.getLsbD_or, BitVec.getLsbD_and, BitVec.getLsbD_not, BitVec.getLsbD_and, BitVec.getLsbD_ofNat, hm,
      Nat.testBit_shiftLeft]
    simp [hi, h32]
  · simp [hi]

/-- A disjoint field of the same register reads as before. -/
theorem State.get_put_disjoint {s : State} (h : s.regsOk) (f g : Fld) (n : Nat) (ha : g.addr = f.addr) (hr : g.rst = f.rst)
    (hd : g.lo + g.w ≤ f.lo ∨ f.lo + f.w ≤ g.lo) (hg : g.lo + g.w ≤ 32) : (s.put f n).get g = s.get g := by
  unfold State.get State.put
  rw [State.word_putWord_same h f _ g ha hr]
  have hw : s.word g = s.word f := by unfold State.word; rw [ha, hr]
  rw [hw]
  apply Nat.eq_of_testBit_eq
  intro i
  rw [testBit_field, testBit_field]
  by_cases hi : i < g.w
  · have h32 : g.lo + i < 32 := by omega
    have hn : ¬ (f.lo ≤ g.lo + i ∧ g.lo + i < f.lo + f.w) := by omega
    have hb : (decide (f.lo ≤ g.lo + i) && decide (g.lo + i < f.lo + f.w)) = false := by
      rw [Bool.and_eq_false_iff]
      by_cases h1 : f.lo ≤ g.lo + i
      · right; simpa using Nat.le_of_not_lt (fun h2 => hn ⟨h1, h2⟩)
      · left; simpa using h1
    simp only [hi, decide_true, Bool.true_and, BitVec.getLsbD_or, BitVec.getLsbD_and, BitVec.getLsbD_not,
      Fld.getLsbD_mask, h32]
    rw [show (decide (f.lo ≤ g.lo + i) && decide (g.lo + i < f.lo + f.w)) = false from hb]
    simp
  · simp [hi]

/-- A field is smaller than its width allows. -/
theorem State.get_lt (s : State) (f : Fld) : s.get f < 2 ^ f.w := by
  unfold State.get field
  exact Nat.mod_lt _ (Nat.two_pow_pos _)

/-! ### Memory -/

theorem State.byte_putByte_same {s : State} (h : SMap.wf 0#8 s.mem = true) (a : Nat) (b : Byte) :
    (s.putByte a b).byte a = b := SMap.get_set_same a b h

theorem State.byte_putByte_other {s : State} (h : SMap.wf 0#8 s.mem = true) {a c : Nat} (b : Byte) (hc : c ≠ a) :
    (s.putByte a b).byte c = s.byte c := SMap.get_set_other hc b h

/-- Bytes stored from `a` on leave every byte outside them. -/
theorem State.byte_putBytes_out (l : List Byte) : ∀ {s : State} (a c : Nat), SMap.wf 0#8 s.mem = true →
    (c < a ∨ a + l.length ≤ c) → (s.putBytes a l).byte c = s.byte c := by
  induction l with
  | nil => intro s a c _ _; rfl
  | cons b t ih =>
    intro s a c h hc
    have hc' : c < a ∨ a + t.length + 1 ≤ c := by simpa [Nat.add_assoc] using hc
    have h1 : c ≠ a := by omega
    show ((s.putByte a b).putBytes (a + 1) t).byte c = s.byte c
    rw [ih (a + 1) c (State.putByte_memOk h a b) (by omega), State.byte_putByte_other h b h1]

end Sys2Proof.Machine
end

