-- ==== Sys2Proof/Laws/Access.lean ====
section
/-! SUPPORT.
Accesses that act, and commands that Halvik accepts: what each shared path does, once and for all. -/

namespace Sys2Proof.Machine

/-- An access that the checks let through has its effect and no other. -/
theorem State.act_grants {s : State} {i : Init} {ok : Bool} (h : s.grants i ok = true) (c a : Nat) (w : Bool)
    (f : State → State) : s.act i ok c a w f = f s := by
  unfold State.grants at h
  unfold State.act
  simp only [Bool.and_eq_true, Bool.or_eq_true] at h
  obtain ⟨h1, h2⟩ := h
  by_cases h3 : fromAfar i
  · simp [h1, h3]
  · have h4 : s.live i.bay = true := by
      rcases h2 with h2 | h2
      · exact absurd h2 h3
      · exact h2
    simp [h1, h3, h4]

/-- A command that Halvik accepts is entered in the replay window, and then runs. -/
theorem State.request_accepts {s : State} {r : HReq} {op : Nat} (hop : op < 256) (h : s.accepts r op) (nvm : Nat) :
    s.request r op nvm = (s.accepted r op).runCmd (halvikCmd r op) nvm := by
  obtain ⟨h1, h2, h3, h4, h5, h6, h7, h8, h9⟩ := h
  have w0 : (BitVec.ofNat 32 (op + 256 * r.payload.length)).toNat = op + 256 * r.payload.length := by
    rw [BitVec.toNat_ofNat]; exact Nat.mod_eq_of_lt (by omega)
  have w1 : (BitVec.ofNat 32 (r.origin + 65536 * r.tag)).toNat = r.origin + 65536 * r.tag := by
    rw [BitVec.toNat_ofNat]; exact Nat.mod_eq_of_lt (by omega)
  have a0 : (op + 256 * r.payload.length) / 256 % 256 = r.payload.length := by omega
  have a1 : (op + 256 * r.payload.length) % 256 = op := by omega
  have a2 : (r.origin + 65536 * r.tag) % 65536 = r.origin := by omega
  have a3 : (r.origin + 65536 * r.tag) / 65536 = r.tag := by omega
  have t1 : (hreqWords r op).take (r.payload.length + 2) = hreqWords r op := by
    apply List.take_of_length_le; simp [hreqWords]
  have t2 : ((hreqWords r op).drop 2).take r.payload.length = r.payload := by
    simp [hreqWords]
  have g0 : (hreqWords r op).getD 0 0 = BitVec.ofNat 32 (op + 256 * r.payload.length) := rfl
  have g1 : (hreqWords r op).getD 1 0 = BitVec.ofNat 32 (r.origin + 65536 * r.tag) := rfl
  unfold State.request
  rw [if_pos h1]
  unfold State.halvik
  simp only [h2, g0, g1, w0, w1, a0, a1, a2, a3, t1, t2, h6, h7]
  rw [if_neg (by decide), if_neg (by simp)]
  show State.checkCmd (s.accepted r op) (halvikCmd r op) r.payload.length nvm = _
  unfold State.checkCmd
  change (match opLens op ((r.payload.getD 0 0).toNat) with
    | none => _
    | some l => _) = _
  cases hl : opLens op ((r.payload.getD 0 0).toNat) with
  | none => rw [hl] at h8; simp at h8
  | some l =>
    rw [hl] at h8
    simp only at h8 ⊢
    have hc : (s.accepted r op).chanOk (halvikCmd r op).ch (halvikCmd r op).op = true := h9
    rw [hc]
    have hlen : (halvikCmd r op).pay.length = r.payload.length := rfl
    rw [hlen, h8]
    simp

end Sys2Proof.Machine
end

