-- ==== Sys2Proof/Laws/Kept.lean ====
section
/-! SUPPORT.
What every operation keeps: the canonical form of the registers and stores, and the queue of waiting commands. -/

namespace Sys2Proof.Machine

/-- `t` comes from `s0` with the canonical form kept, and the queue and the flash as they were. -/
structure Kept (s0 t : State) : Prop where
  canon : s0.canon = true → t.canon = true
  pending : t.pending = s0.pending
  flash : t.flash = s0.flash
def KeptP {α : Type} (s0 : State) (p : State × α) : Prop := Kept s0 p.1
def KeptO (s0 : State) (o : Option State) : Prop := ∀ t, o = some t → Kept s0 t
def KeptQ {α : Type} (s0 : State) (o : Option (State × α)) : Prop := ∀ p, o = some p → Kept s0 p.1
def KeptH (s0 : State) (o : Host.Outcome State Fault Refusal) : Prop := ∀ t, o = .next t → Kept s0 t

theorem Kept.refl (s : State) : Kept s s := ⟨id, rfl, rfl⟩

/-- Only some of the parts with a canonical form changed, each from one canonical form to another. -/
theorem Kept.parts {s0 s t : State} (h : Kept s0 s) (h1 : SMap.wf 0#32 s.regs = true → SMap.wf 0#32 t.regs = true)
    (h2 : SMap.wf 0#8 s.mem = true → SMap.wf 0#8 t.mem = true) (h3 : SMap.wf 0#8 s.nvm = true → SMap.wf 0#8 t.nvm = true)
    (h4 : SMap.wf MbxQ.empty s.msg.mbx = true → SMap.wf MbxQ.empty t.msg.mbx = true)
    (h5 : SMap.wf QEnd.empty s.msg.ends = true → SMap.wf QEnd.empty t.msg.ends = true) (h6 : t.flash = s.flash)
    (h7 : t.pending = s.pending) : Kept s0 t :=
  ⟨fun k => by
    have := h.canon k; unfold State.canon at *; rw [h6]
    simp only [Bool.and_eq_true] at this ⊢
    exact ⟨⟨⟨⟨⟨h1 this.1.1.1.1.1, h2 this.1.1.1.1.2⟩, h3 this.1.1.1.2⟩, this.1.1.2⟩, h4 this.1.2⟩, h5 this.2⟩,
   h7.trans h.pending, h6.trans h.flash⟩

theorem Kept.same {s0 s t : State} (h : Kept s0 s)
    (e : (t.regs, t.mem, t.nvm, t.msg.mbx, t.msg.ends, t.flash, t.pending) = (s.regs, s.mem, s.nvm, s.msg.mbx, s.msg.ends,
        s.flash, s.pending)) : Kept s0 t := by
  simp only [Prod.mk.injEq] at e
  exact Kept.parts h (e.1 ▸ id) (e.2.1 ▸ id) (e.2.2.1 ▸ id) (e.2.2.2.1 ▸ id) (e.2.2.2.2.1 ▸ id) e.2.2.2.2.2.1 e.2.2.2.2.2.2

/-- Parts with no canonical form changed. -/
theorem Kept.upd {s0 s : State} (h : Kept s0 s) {cfg sys bay sec hif memx flt core time port link ana pin free answer} :
    Kept s0 { regs := s.regs, mem := s.mem, nvm := s.nvm, flash := s.flash, cfg, sys, bay, sec, hif, memx, flt, core, msg
        := s.msg, time,
              port, link, ana, pin, free, answer, pending := s.pending } := Kept.same h rfl

/-- Of the messaging part only what has no canonical form changed. -/
theorem Kept.updMsg {s0 s : State} (h : Kept s0 s)
    {cfg sys bay sec hif memx flt core time port link ana pin free answer bells quotaHit remote} :
    Kept s0 { regs := s.regs, mem := s.mem, nvm := s.nvm, flash := s.flash, cfg, sys, bay, sec, hif, memx, flt, core,
              msg := { mbx := s.msg.mbx, ends := s.msg.ends, bells, quotaHit, remote }, time,
              port, link, ana, pin, free, answer, pending := s.pending } := Kept.same h rfl

theorem Kept.regs {s0 s t : State} (h : Kept s0 s) (h1 : SMap.wf 0#32 s.regs = true → SMap.wf 0#32 t.regs = true)
    (e : (t.mem, t.nvm, t.msg.mbx, t.msg.ends, t.flash, t.pending) = (s.mem, s.nvm, s.msg.mbx, s.msg.ends, s.flash,
        s.pending)) : Kept s0 t := by
  simp only [Prod.mk.injEq] at e
  exact Kept.parts h h1 (e.1 ▸ id) (e.2.1 ▸ id) (e.2.2.1 ▸ id) (e.2.2.2.1 ▸ id) e.2.2.2.2.1 e.2.2.2.2.2
theorem Kept.mem {s0 s t : State} (h : Kept s0 s) (h1 : SMap.wf 0#8 s.mem = true → SMap.wf 0#8 t.mem = true) (e0 : t.regs =
    s.regs)
    (e : (t.nvm, t.msg.mbx, t.msg.ends, t.flash, t.pending) = (s.nvm, s.msg.mbx, s.msg.ends, s.flash, s.pending)) : Kept s0
        t := by
  simp only [Prod.mk.injEq] at e
  exact Kept.parts h (e0 ▸ id) h1 (e.1 ▸ id) (e.2.1 ▸ id) (e.2.2.1 ▸ id) e.2.2.2.1 e.2.2.2.2
theorem Kept.nvm {s0 s t : State} (h : Kept s0 s) (h1 : SMap.wf 0#8 s.nvm = true → SMap.wf 0#8 t.nvm = true)
    (e0 : (t.regs, t.mem) = (s.regs, s.mem)) (e : (t.msg.mbx, t.msg.ends, t.flash, t.pending) = (s.msg.mbx, s.msg.ends,
        s.flash, s.pending)) : Kept s0 t := by
  simp only [Prod.mk.injEq] at e e0
  exact Kept.parts h (e0.1 ▸ id) (e0.2 ▸ id) h1 (e.1 ▸ id) (e.2.1 ▸ id) e.2.2.1 e.2.2.2
theorem Kept.msg {s0 s t : State} (h : Kept s0 s) (h1 : SMap.wf MbxQ.empty s.msg.mbx = true → SMap.wf MbxQ.empty t.msg.mbx
    = true)
    (h2 : SMap.wf QEnd.empty s.msg.ends = true → SMap.wf QEnd.empty t.msg.ends = true)
    (e : (t.regs, t.mem, t.nvm, t.flash, t.pending) = (s.regs, s.mem, s.nvm, s.flash, s.pending)) : Kept s0 t := by
  simp only [Prod.mk.injEq] at e
  exact Kept.parts h (e.1 ▸ id) (e.2.1 ▸ id) (e.2.2.1 ▸ id) h1 h2 e.2.2.2.1 e.2.2.2.2

theorem Kept.ite {s0 a b : State} {c : Prop} [Decidable c] (ha : Kept s0 a) (hb : Kept s0 b) : Kept s0 (if c then a else b)
    := by
  split <;> assumption
theorem KeptP.ite {α : Type} {s0 : State} {a b : State × α} {c : Prop} [Decidable c] (ha : KeptP s0 a) (hb : KeptP s0 b) :
    KeptP s0 (if c then a else b) := by split <;> assumption
theorem KeptO.ite {s0 : State} {a b : Option State} {c : Prop} [Decidable c] (ha : KeptO s0 a) (hb : KeptO s0 b) :
    KeptO s0 (if c then a else b) := by split <;> assumption
theorem KeptQ.ite {α : Type} {s0 : State} {a b : Option (State × α)} {c : Prop} [Decidable c] (ha : KeptQ s0 a) (hb : KeptQ
    s0 b) :
    KeptQ s0 (if c then a else b) := by split <;> assumption
theorem KeptH.ite {s0 : State} {a b : Host.Outcome State Fault Refusal} {c : Prop} [Decidable c] (ha : KeptH s0 a) (hb :
    KeptH s0 b) :
    KeptH s0 (if c then a else b) := by split <;> assumption
theorem KeptP.of {α : Type} {s0 t : State} {x : α} {p : State × α} (h : KeptP s0 p) (e : p = (t, x)) : Kept s0 t := by
    subst e; exact h
theorem KeptP.mk {α : Type} {s0 s : State} {x : α} (h : Kept s0 s) : KeptP s0 (s, x) := h
theorem KeptP.eq {α : Type} {s0 : State} {p q : State × α} (h : KeptP s0 p) (e : p = q) : KeptP s0 q := e ▸ h
theorem KeptO.of {s0 t : State} {o : Option State} (h : KeptO s0 o) (e : o = some t) : Kept s0 t := h t e
theorem KeptQ.of {α : Type} {s0 t : State} {x : α} {o : Option (State × α)} (h : KeptQ s0 o) (e : o = some (t, x)) : Kept
    s0 t := h _ e
theorem KeptQ.ofP {α : Type} {s0 : State} {p : State × α} {o : Option (State × α)} (h : KeptQ s0 o) (e : o = some p) :
    KeptP s0 p := h _ e
theorem KeptO.none {s0 : State} : KeptO s0 none := fun _ e => by cases e
theorem KeptQ.none {α : Type} {s0 : State} : KeptQ (α := α) s0 none := fun _ e => by cases e
theorem KeptO.some {s0 s : State} (h : Kept s0 s) : KeptO s0 (some s) := fun _ e => Option.some.inj e ▸ h
theorem KeptQ.some {α : Type} {s0 : State} {p : State × α} (h : KeptP s0 p) : KeptQ s0 (some p) := fun _ e =>
    Option.some.inj e ▸ h
theorem KeptH.next {s0 s : State} (h : Kept s0 s) : KeptH s0 (.next s) := fun _ e => Host.Outcome.next.inj e ▸ h
theorem KeptH.answer {s0 s : State} (h : Kept s0 s) : KeptH s0 (answer s) := KeptH.next h
theorem Kept.getD {s0 s : State} {o : Option State} (h : KeptO s0 o) (hs : Kept s0 s) : Kept s0 (o.getD s) := by
  cases o
  · exact hs
  · exact h _ rfl
theorem foldl_kept {β : Type} {s0 s : State} {l : List β} {f : State → β → State} (h : Kept s0 s)
    (hf : ∀ (t : State) (_ : Kept s0 t) (b : β), Kept s0 (f t b)) : Kept s0 (l.foldl f s) := by
  induction l generalizing s with
  | nil => exact h
  | cons b l ih => exact ih (hf s h b)
theorem foldlP_kept {α β : Type} {s0 : State} {p : State × α} {l : List β} {f : State × α → β → State × α} (h : KeptP s0 p)
    (hf : ∀ (t : State × α) (_ : KeptP s0 t) (b : β), KeptP s0 (f t b)) : KeptP s0 (l.foldl f p) := by
  induction l generalizing p with
  | nil => exact h
  | cons b l ih => exact ih (hf p h b)

end Sys2Proof.Machine
end

