-- ==== Sys2Proof/Laws/KeptBase.lean ====
section
/-! SUPPORT.
Every operation keeps the canonical form, the queue and the flash: registers, pins, resets, FLT, harts, memory, messages. -/

namespace Sys2Proof.Machine

theorem State.putWord_kept {s0 a0 : State} {a1 a2} (h0 : Kept s0 a0) : Kept s0 (State.putWord a0 a1 a2) :=
  Kept.regs h0 (fun h => SMap.set_wf _ _ _ h) rfl

theorem State.put_kept {s0 a0 : State} {a1 a2} (h0 : Kept s0 a0) : Kept s0 (State.put a0 a1 a2) := by
  unfold State.put
  exact State.putWord_kept h0

theorem State.putI_kept {s0 a0 : State} {a1 a2} (h0 : Kept s0 a0) : Kept s0 (State.putI a0 a1 a2) := by
  unfold State.putI
  exact State.put_kept h0

theorem State.timeTick_kept {s0 a0 : State} (h0 : Kept s0 a0) : Kept s0 (State.timeTick a0) := by
  unfold State.timeTick
  lift_lets -underBinder
  extract_lets -descend u0 u1 u2 u3 u4 u5 u6
  have k1 : Kept s0 u1 := Kept.upd h0
  clear_value u0 u1 u2 u3 u4 u5 u6
  exact Kept.ite (State.putI_kept (Kept.upd k1)) k1

theorem State.forEach_kept {α : Type} {s0 : State} {a1 : List α} {a2 : α → State → State} {a3 : State}
    (h2 : ∀ (b0 : α) (b1 : State) (_ : Kept s0 b1), Kept s0 (a2 b0 b1)) (h3 : Kept s0 a3) : Kept s0 (State.forEach a1 a2 a3) :=
  foldl_kept h3 (fun _ h _ => h2 _ _ h)

theorem State.showCtx_kept {s0 a0 : State} {a1} (h0 : Kept s0 a0) : Kept s0 (State.showCtx a0 a1) := by
  unfold State.showCtx
  split
  · lift_lets -underBinder
    extract_lets -descend u1
    clear_value u1
    exact State.putI_kept (State.put_kept (State.put_kept h0))
  · exact h0

theorem State.putCtx_kept {s0 a0 : State} {a1 a2} (h0 : Kept s0 a0) : Kept s0 (State.putCtx a0 a1 a2) := by
  unfold State.putCtx
  exact Kept.upd h0

theorem State.setCtx_kept {s0 a0 : State} {a1 a2} (h0 : Kept s0 a0) : Kept s0 (State.setCtx a0 a1 a2) := by
  unfold State.setCtx
  exact State.showCtx_kept (State.putCtx_kept h0)

theorem State.trimTick_kept {s0 : State} {a0 a1} {a2 : State} (h2 : Kept s0 a2) : Kept s0 (State.trimTick a0 a1 a2) := by
  unfold State.trimTick
  split
  · lift_lets -underBinder
    extract_lets -descend u1 u2 u3
    clear_value u1 u2 u3
    exact Kept.ite h2 (State.setCtx_kept h2)
  · exact h2

theorem State.modCore_kept {s0 a0 : State} {a1} {a2 : Core → Core} (h0 : Kept s0 a0) : Kept s0 (State.modCore a0 a1 a2) := by
  unfold State.modCore
  exact Kept.upd h0

theorem State.addSat_kept {s0 a0 : State} {a1 a2} (h0 : Kept s0 a0) : Kept s0 (State.addSat a0 a1 a2) := by
  unfold State.addSat
  exact State.put_kept h0

theorem State.inc_kept {s0 a0 : State} {a1} (h0 : Kept s0 a0) : Kept s0 (State.inc a0 a1) := by
  unfold State.inc
  exact State.addSat_kept h0

theorem State.drvIrq_kept {s0 a0 : State} {a1 a2} (h0 : Kept s0 a0) : Kept s0 (State.drvIrq a0 a1 a2) := by
  unfold State.drvIrq
  exact State.putWord_kept h0

theorem State.modDrv_kept {s0 a0 : State} {a1} {a2 : DrvUnit → DrvUnit} (h0 : Kept s0 a0) : Kept s0 (State.modDrv a0 a1 a2)
    := by
  unfold State.modDrv
  exact Kept.upd h0

theorem State.gatesOff_kept {s0 a0 : State} {a1} (h0 : Kept s0 a0) : Kept s0 (State.gatesOff a0 a1) := by
  unfold State.gatesOff
  exact State.modDrv_kept h0

theorem State.flag_kept {s0 a0 : State} {a1 a2} (h0 : Kept s0 a0) : Kept s0 (State.flag a0 a1 a2) := by
  unfold State.flag
  exact State.put_kept h0

theorem State.brkTo_kept {s0 a0 : State} {a1 a2} (h0 : Kept s0 a0) : Kept s0 (State.brkTo a0 a1 a2) := by
  unfold State.brkTo
  exact Kept.ite h0 (State.modDrv_kept (State.flag_kept h0))

theorem State.stopWdt_kept {s0 a0 : State} {a1} (h0 : Kept s0 a0) : Kept s0 (State.stopWdt a0 a1) := by
  unfold State.stopWdt
  exact Kept.upd h0

theorem State.showMbx_kept {s0 a0 : State} {a1} (h0 : Kept s0 a0) : Kept s0 (State.showMbx a0 a1) := by
  unfold State.showMbx
  exact State.forEach_kept (fun _ _ f0_1 => (by
    lift_lets -underBinder
    extract_lets -descend u1 u2 u3 u4 u5
    have k2 : Kept s0 u2 := State.flag_kept (State.put_kept (State.put_kept f0_1))
    have k4 : Kept s0 u4 := State.put_kept (State.put_kept k2)
    have k5 : Kept s0 u5 := State.put_kept k4
    clear_value u1 u2 u3 u4 u5
    exact State.put_kept k5)) h0

theorem State.putMbx_kept {s0 a0 : State} {a1 a2 a3} (h0 : Kept s0 a0) : Kept s0 (State.putMbx a0 a1 a2 a3) :=
  Kept.msg h0 (fun h => SMap.set_wf _ _ _ h) id rfl

theorem State.setMbx_kept {s0 a0 : State} {a1 a2 a3} (h0 : Kept s0 a0) : Kept s0 (State.setMbx a0 a1 a2 a3) := by
  unfold State.setMbx
  exact State.showMbx_kept (State.putMbx_kept h0)

theorem State.mbxStatus_kept {s0 a0 : State} {a1 a2 a3 a4} (h0 : Kept s0 a0) : Kept s0 (State.mbxStatus a0 a1 a2 a3 a4) := by
  unfold State.mbxStatus
  exact State.put_kept (State.put_kept h0)

theorem State.mbxClear_kept {s0 a0 : State} {a1 a2} (h0 : Kept s0 a0) : Kept s0 (State.mbxClear a0 a1 a2) := by
  unfold State.mbxClear
  lift_lets -underBinder
  extract_lets -descend u0
  have k0 : Kept s0 u0 := State.setMbx_kept h0
  clear_value u0
  exact Kept.ite (State.mbxStatus_kept k0) k0

theorem State.emptyGrantedMbx_kept {s0 a0 : State} {a1} (h0 : Kept s0 a0) : Kept s0 (State.emptyGrantedMbx a0 a1) := by
  unfold State.emptyGrantedMbx
  exact State.forEach_kept (fun _ _ f0_1 => Kept.ite (State.mbxClear_kept (State.mbxClear_kept f0_1)) f0_1) h0

theorem State.setB_kept {s0 a0 : State} {a1 a2} (h0 : Kept s0 a0) : Kept s0 (State.setB a0 a1 a2) := by
  unfold State.setB
  exact State.put_kept h0

theorem State.tellPeers_kept {s0 a0 : State} {a1} {a2 : Nat → Fld} (h0 : Kept s0 a0) : Kept s0 (State.tellPeers a0 a1 a2) := by
  unfold State.tellPeers
  exact State.forEach_kept (fun _ _ f0_1 => State.setB_kept (State.flag_kept f0_1)) h0

theorem State.parkDrv_kept {s0 a0 : State} {a1} (h0 : Kept s0 a0) : Kept s0 (State.parkDrv a0 a1) := by
  unfold State.parkDrv
  lift_lets -underBinder
  extract_lets -descend u0
  have k0 : Kept s0 u0 := State.put_kept (State.brkTo_kept (State.gatesOff_kept h0))
  clear_value u0
  exact Kept.ite h0 (State.drvIrq_kept (State.put_kept (State.flag_kept (State.flag_kept k0))))

theorem State.modTev_kept {s0 a0 : State} {a1} {a2 : Tev → Tev} (h0 : Kept s0 a0) : Kept s0 (State.modTev a0 a1 a2) := by
  unfold State.modTev
  exact Kept.upd h0

theorem State.dropMoves_kept {s0 a0 : State} {a1} (h0 : Kept s0 a0) : Kept s0 (State.dropMoves a0 a1) := by
  unfold State.dropMoves
  exact Kept.upd h0

theorem State.parkPin_kept {s0 a0 : State} {a1} (h0 : Kept s0 a0) : Kept s0 (State.parkPin a0 a1) := by
  unfold State.parkPin
  exact State.flag_kept (State.dropMoves_kept h0)

theorem State.syncPend_kept {s0 a0 : State} {a1} (h0 : Kept s0 a0) : Kept s0 (State.syncPend a0 a1) := by
  unfold State.syncPend
  exact State.flag_kept h0

theorem State.putLow_kept {s0 a0 : State} {a1 a2} (h0 : Kept s0 a0) : Kept s0 (State.putLow a0 a1 a2) := by
  unfold State.putLow
  exact State.putWord_kept h0

theorem State.setShadow_kept {s0 a0 : State} {a1 a2} (h0 : Kept s0 a0) : Kept s0 (State.setShadow a0 a1 a2) := by
  unfold State.setShadow
  exact State.syncPend_kept (State.putLow_kept h0)

theorem State.setActive_kept {s0 a0 : State} {a1 a2} (h0 : Kept s0 a0) : Kept s0 (State.setActive a0 a1 a2) := by
  unfold State.setActive
  exact State.syncPend_kept (State.putLow_kept h0)

theorem State.parkBayPins_kept {s0 a0 : State} {a1} (h0 : Kept s0 a0) : Kept s0 (State.parkBayPins a0 a1) := by
  unfold State.parkBayPins
  exact State.put_kept (State.forEach_kept (fun _ _ f0_1 => State.parkPin_kept (State.setShadow_kept (State.setActive_kept
      f0_1))) h0)

theorem State.parkOutputs_kept {s0 a0 : State} {a1} (h0 : Kept s0 a0) : Kept s0 (State.parkOutputs a0 a1) := by
  unfold State.parkOutputs
  lift_lets -underBinder
  extract_lets -descend u0
  have k0 : Kept s0 u0 := State.forEach_kept (fun _ _ f1_1 => State.parkDrv_kept f1_1) h0
  clear_value u0
  exact State.forEach_kept (fun _ _ f1_1 => State.modTev_kept f1_1) (State.parkBayPins_kept k0)

theorem State.modLink_kept {s0 a0 : State} {a1 : LinkPart → LinkPart} (h0 : Kept s0 a0) : Kept s0 (State.modLink a0 a1) := by
  unfold State.modLink
  exact Kept.upd h0

theorem State.modVdt_kept {s0 a0 : State} {a1 : VdtPart → VdtPart} (h0 : Kept s0 a0) : Kept s0 (State.modVdt a0 a1) := by
  unfold State.modVdt
  exact State.modLink_kept h0

theorem State.showOwn_kept {s0 a0 : State} (h0 : Kept s0 a0) : Kept s0 (State.showOwn a0) := by
  unfold State.showOwn
  exact State.flag_kept h0

theorem State.setRole_kept {s0 a0 : State} {a1 a2} (h0 : Kept s0 a0) : Kept s0 (State.setRole a0 a1 a2) := by
  unfold State.setRole
  lift_lets -underBinder
  extract_lets -descend u0 u1 u2 u3 u4
  have k0 : Kept s0 u0 := State.flag_kept (State.inc_kept (State.put_kept h0))
  have k1 : Kept s0 u1 := State.flag_kept k0
  have k2 : Kept s0 u2 := State.forEach_kept (fun _ _ f3_1 => State.parkDrv_kept f3_1) k1
  have k3 : Kept s0 u3 := State.forEach_kept (fun _ _ f4_1 => State.flag_kept f4_1) k2
  have k4 : Kept s0 u4 := Kept.ite k1 (State.modVdt_kept k3)
  clear_value u0 u1 u2 u3 u4
  exact Kept.ite h0 (State.showOwn_kept k4)

theorem State.modHop_kept {s0 a0 : State} {a1} {a2 : Hop → Hop} (h0 : Kept s0 a0) : Kept s0 (State.modHop a0 a1 a2) := by
  unfold State.modHop
  exact State.modLink_kept h0

theorem State.sendLater_kept {s0 a0 : State} {a1 a2} (h0 : Kept s0 a0) : Kept s0 (State.sendLater a0 a1 a2) := by
  unfold State.sendLater
  exact State.modHop_kept h0

theorem State.rolePri_kept {s0 a0 : State} {a1 a2 a3} (h0 : Kept s0 a0) : Kept s0 (State.rolePri a0 a1 a2 a3) := by
  unfold State.rolePri
  exact Kept.ite h0 (State.sendLater_kept h0)

theorem State.sendRole_kept {s0 a0 : State} {a1 a2} (h0 : Kept s0 a0) : Kept s0 (State.sendRole a0 a1 a2) := by
  unfold State.sendRole
  exact State.rolePri_kept h0

theorem State.flushMirror_kept {s0 a0 : State} {a1} (h0 : Kept s0 a0) : Kept s0 (State.flushMirror a0 a1) := by
  unfold State.flushMirror
  lift_lets -underBinder
  extract_lets -descend u0
  have k0 : Kept s0 u0 := State.forEach_kept (fun _ _ f1_1 => State.sendLater_kept f1_1) h0
  clear_value u0
  exact State.put_kept (State.modVdt_kept k0)

theorem State.resyncAt_kept {s0 a0 : State} {a1 a2} (h0 : Kept s0 a0) : Kept s0 (State.resyncAt a0 a1 a2) := by
  unfold State.resyncAt
  exact Kept.ite h0 (State.rolePri_kept (State.put_kept h0))

theorem State.yieldBay_kept {s0 a0 : State} {a1} (h0 : Kept s0 a0) : Kept s0 (State.yieldBay a0 a1) := by
  unfold State.yieldBay
  lift_lets -underBinder
  extract_lets -descend u0 u1
  have k0 : Kept s0 u0 := State.setRole_kept h0
  have k1 : Kept s0 u1 := State.sendRole_kept (State.flushMirror_kept k0)
  clear_value u0 u1
  exact State.resyncAt_kept k1

theorem State.roleReset_kept {s0 a0 : State} {a1} (h0 : Kept s0 a0) : Kept s0 (State.roleReset a0 a1) := by
  unfold State.roleReset
  exact Kept.ite (State.yieldBay_kept h0) h0

theorem State.enterReset_kept {s0 a0 : State} {a1 a2} (h0 : Kept s0 a0) : Kept s0 (State.enterReset a0 a1 a2) := by
  unfold State.enterReset
  lift_lets -underBinder
  extract_lets -descend u0 u1 u2 u3
  have k0 : Kept s0 u0 := State.put_kept (State.put_kept h0)
  have k1 : Kept s0 u1 := State.stopWdt_kept (State.inc_kept k0)
  have k3 : Kept s0 u3 := Kept.upd k1
  clear_value u0 u1 u2 u3
  exact State.emptyGrantedMbx_kept (State.tellPeers_kept (State.parkOutputs_kept (State.roleReset_kept k3)))

theorem State.registerReset_kept {s0 a0 : State} {a1 a2} (h0 : Kept s0 a0) : Kept s0 (State.registerReset a0 a1 a2) := by
  unfold State.registerReset
  exact Kept.ite (State.enterReset_kept h0) h0

theorem State.count_kept {s0 a0 : State} {a1 a2 a3} (h0 : Kept s0 a0) : KeptP s0 (State.count a0 a1 a2 a3) := by
  unfold State.count
  split
  · lift_lets -underBinder
    extract_lets -descend u1 u2
    clear_value u1 u2
    split
    · lift_lets -underBinder
      extract_lets -descend u4 u5 u6 u7
      clear_value u4 u5 u6 u7
      exact KeptP.ite (KeptP.mk (Kept.upd h0)) (KeptP.mk (Kept.upd h0))
    · lift_lets -underBinder
      extract_lets -descend u4 u5 u6 u7
      clear_value u4 u5 u6 u7
      exact KeptP.ite (KeptP.mk h0) (KeptP.mk (Kept.upd h0))

theorem State.coldParts_kept {s0 a0 : State} (h0 : Kept s0 a0) : Kept s0 (State.coldParts a0) :=
  Kept.parts h0 (fun h => SMap.mapDrop_wf _ _ h) id id (fun _ => rfl) (fun _ => rfl) rfl rfl

theorem State.resetInto_kept {s0 a0 : State} {a1 a2} (h0 : Kept s0 a0) : Kept s0 (State.resetInto a0 a1 a2) := by
  unfold State.resetInto
  lift_lets -underBinder
  extract_lets -descend u0 u1 u2 u3
  have k1 : Kept s0 u1 := State.coldParts_kept (State.inc_kept (State.flag_kept h0))
  have k2 : Kept s0 u2 := State.flag_kept (State.put_kept (State.put_kept k1))
  clear_value u0 u1 u2 u3
  exact Kept.upd k2

theorem State.deviceReset_kept {s0 a0 : State} {a1} (h0 : Kept s0 a0) : Kept s0 (State.deviceReset a0 a1) := by
  unfold State.deviceReset
  exact State.resetInto_kept h0

theorem State.fltReset_kept {s0 a0 : State} (h0 : Kept s0 a0) : Kept s0 (State.fltReset a0) := by
  unfold State.fltReset
  lift_lets -underBinder
  extract_lets -descend u0 u1
  clear_value u0 u1
  exact State.deviceReset_kept (Kept.upd h0)

theorem State.orRestart_kept {s0 a0 : State} {a1 a2 a3} (h0 : Kept s0 a0) : KeptP s0 (State.orRestart a0 a1 a2 a3) := by
  unfold State.orRestart
  exact KeptP.ite (KeptP.mk (State.registerReset_kept h0)) (KeptP.mk h0)

theorem State.modEngine_kept {s0 a0 : State} {a1} {a2 : Engine → Engine} (h0 : Kept s0 a0) : Kept s0 (State.modEngine a0 a1
    a2) := by
  unfold State.modEngine
  exact Kept.upd h0

theorem State.substitute_kept {s0 a0 : State} {a1} (h0 : Kept s0 a0) : Kept s0 (State.substitute a0 a1) := by
  unfold State.substitute
  lift_lets -underBinder
  extract_lets -descend u0 u1 u2 u3 u4 u5 u6 u7
  have k2 : Kept s0 u2 := State.put_kept (State.put_kept h0)
  have k3 : Kept s0 u3 := State.put_kept (State.put_kept k2)
  have k4 : Kept s0 u4 := State.put_kept k3
  have k5 : Kept s0 u5 := State.put_kept (State.put_kept (State.put_kept k4))
  have k6 : Kept s0 u6 := State.put_kept (State.put_kept k5)
  have k7 : Kept s0 u7 := State.modEngine_kept k6
  clear_value u0 u1 u2 u3 u4 u5 u6 u7
  exact State.put_kept (State.modEngine_kept k7)

theorem State.retire_kept {s0 a0 : State} {a1} (h0 : Kept s0 a0) : Kept s0 (State.retire a0 a1) := by
  unfold State.retire
  exact State.put_kept (State.put_kept h0)

theorem State.repairEngine_kept {s0 a0 : State} {a1 a2} (h0 : Kept s0 a0) : KeptP s0 (State.repairEngine a0 a1 a2) := by
  unfold State.repairEngine
  exact KeptP.ite (KeptP.mk (State.substitute_kept h0)) (State.orRestart_kept (State.retire_kept h0))

theorem State.repairLine_kept {s0 a0 : State} {a1} (h0 : Kept s0 a0) : KeptP s0 (State.repairLine a0 a1) := by
  unfold State.repairLine
  lift_lets -underBinder
  extract_lets -descend u0 u1
  have k0 : Kept s0 u0 := State.put_kept h0
  clear_value u0 u1
  exact KeptP.ite (KeptP.mk (Kept.upd k0)) (State.orRestart_kept h0)

theorem State.setRemap_kept {s0 a0 : State} {a1 a2 a3} (h0 : Kept s0 a0) : Kept s0 (State.setRemap a0 a1 a2 a3) := by
  unfold State.setRemap
  exact Kept.ite (State.flag_kept (State.put_kept h0)) (State.flag_kept (State.put_kept h0))

theorem State.remap_kept {s0 a0 : State} {a1 a2 a3} (h0 : Kept s0 a0) : KeptO s0 (State.remap a0 a1 a2 a3) := by
  unfold State.remap
  lift_lets -underBinder
  extract_lets -descend u0 u1 u2
  have k1 : Kept s0 u1 := State.setRemap_kept (State.put_kept h0)
  clear_value u0 u1 u2
  exact KeptO.ite KeptO.none (KeptO.some (Kept.upd k1))

theorem State.repairRow_kept {s0 : State} {a0 : State → Nat → Nat → Nat → State} {a1 : State} {a2 a3} (h0 : ∀ (b0 : State)
    (_ : Kept s0 b0) (b1 : Nat) (b2 : Nat) (b3 : Nat), Kept s0 (a0 b0 b1 b2 b3)) (h1 : Kept s0 a1) : KeptP s0
    (State.repairRow a0 a1 a2 a3) := by
  unfold State.repairRow
  lift_lets -underBinder
  extract_lets -descend u0
  clear_value u0
  refine KeptP.ite ?_ ?_
  · split
    · rename_i v1_0 e1
      have k1_0 := KeptO.of (State.remap_kept h1) e1
      exact KeptP.mk k1_0
    · lift_lets -underBinder
      extract_lets -descend u2
      have k2 : Kept s0 u2 := State.flag_kept (State.put_kept h1)
      clear_value u2
      exact State.orRestart_kept (h0 _ k2 _ _ _)
  · exact State.orRestart_kept h1

theorem State.repairStore_kept {s0 a0 : State} {a1} (h0 : Kept s0 a0) : KeptP s0 (State.repairStore a0 a1) := by
  unfold State.repairStore
  lift_lets -underBinder
  extract_lets -descend u0 u1 u2
  have k1 : Kept s0 u1 := State.registerReset_kept h0
  clear_value u0 u1 u2
  exact KeptP.ite (KeptP.mk (Kept.upd h0)) (KeptP.ite (KeptP.mk (Kept.upd k1)) (KeptP.mk h0))

theorem State.downgrade_kept {s0 a0 : State} {a1} (h0 : Kept s0 a0) : KeptO s0 (State.downgrade a0 a1) := by
  unfold State.downgrade
  lift_lets -underBinder
  extract_lets -descend u0
  clear_value u0
  exact KeptO.ite (KeptO.ite KeptO.none (KeptO.some (State.flag_kept h0))) (KeptO.ite (KeptO.ite KeptO.none (KeptO.some
      (State.setB_kept h0))) (KeptO.ite (KeptO.ite KeptO.none (KeptO.some (State.setB_kept h0))) (KeptO.ite KeptO.none
      (KeptO.some (State.flag_kept (State.put_kept h0))))))

theorem State.repairLane_kept {s0 a0 : State} {a1} (h0 : Kept s0 a0) : KeptP s0 (State.repairLane a0 a1) := by
  unfold State.repairLane
  refine KeptP.ite ?_ ?_
  · split
    · rename_i v0_0 e0
      have k0_0 := KeptO.of (State.downgrade_kept h0) e0
      lift_lets -underBinder
      extract_lets -descend u1
      clear_value u1
      exact KeptP.mk (Kept.upd k0_0)
    · exact State.orRestart_kept h0
  · exact State.orRestart_kept h0

theorem State.clrB_kept {s0 a0 : State} {a1 a2} (h0 : Kept s0 a0) : Kept s0 (State.clrB a0 a1 a2) := by
  unfold State.clrB
  exact State.put_kept h0

theorem State.repairLoad_kept {s0 a0 : State} {a1} (h0 : Kept s0 a0) : KeptP s0 (State.repairLoad a0 a1) := by
  unfold State.repairLoad
  exact KeptP.ite (KeptP.mk (State.substitute_kept h0)) (KeptP.mk (State.clrB_kept (State.put_kept h0)))

theorem State.outOfService_kept {s0 a0 : State} {a1} (h0 : Kept s0 a0) : Kept s0 (State.outOfService a0 a1) := by
  unfold State.outOfService
  lift_lets -underBinder
  extract_lets -descend u0
  clear_value u0
  exact Kept.ite (State.flag_kept h0) (Kept.ite (State.flag_kept h0) (Kept.ite (State.flag_kept h0) (Kept.ite
      (State.flag_kept (State.parkPin_kept (State.flag_kept h0))) (Kept.ite (State.flag_kept h0) (Kept.ite (State.flag_kept
      h0) (Kept.ite (State.flag_kept h0) (Kept.ite (State.setB_kept (State.put_kept (State.flag_kept h0))) (Kept.ite
      (Kept.ite (State.flag_kept h0) (State.flag_kept h0)) (Kept.ite (State.flag_kept h0) (Kept.ite (State.flag_kept
      (State.parkPin_kept (State.flag_kept (State.setB_kept h0)))) (Kept.ite (State.flag_kept (State.parkPin_kept h0))
      h0)))))))))))

theorem State.repair_kept {s0 : State} {a0 : State → Nat → Nat → Nat → State} {a1 : State} {a2 a3 a4} (h0 : ∀ (b0 : State)
    (_ : Kept s0 b0) (b1 : Nat) (b2 : Nat) (b3 : Nat), Kept s0 (a0 b0 b1 b2 b3)) (h1 : Kept s0 a1) : KeptP s0 (State.repair
    a0 a1 a2 a3 a4) := by
  unfold State.repair
  lift_lets -underBinder
  extract_lets -descend u0 u1 u2
  clear_value u0 u1 u2
  exact KeptP.ite (KeptP.mk (State.fltReset_kept h1)) (KeptP.ite (KeptP.mk h1) (KeptP.ite (KeptP.ite (State.orRestart_kept
      h1) (KeptP.mk h1)) (KeptP.ite (KeptP.ite (State.repairEngine_kept h1) (KeptP.ite (State.repairLine_kept h1)
      (State.repairRow_kept h0 h1))) (KeptP.ite (KeptP.ite (KeptP.mk h1) (State.repairStore_kept h1)) (KeptP.ite
      (State.repairLane_kept h1) (KeptP.ite (State.repairLoad_kept h1) (KeptP.ite (State.repairEngine_kept h1) (KeptP.ite
      (KeptP.mk (Kept.upd h1)) (KeptP.ite (KeptP.ite (KeptP.mk (State.outOfService_kept h1)) (KeptP.ite (KeptP.mk
      (State.setB_kept h1)) (KeptP.mk h1))) (KeptP.mk h1))))))))))

theorem State.putNvm_kept {s0 a0 : State} {a1 a2} (h0 : Kept s0 a0) : Kept s0 (State.putNvm a0 a1 a2) :=
  Kept.nvm h0 (fun h => putCells_wf _ _ h) rfl rfl

theorem State.bump_kept {s0 a0 : State} {a1} (h0 : Kept s0 a0) : Kept s0 (State.bump a0 a1) := by
  unfold State.bump
  exact State.put_kept h0

theorem State.logEntry_kept {s0 a0 : State} {a1 a2 a3 a4 a5} (h0 : Kept s0 a0) : KeptP s0 (State.logEntry a0 a1 a2 a3 a4
    a5) := by
  unfold State.logEntry
  lift_lets -underBinder
  extract_lets -descend u0 u1 u2 u3 u4 u5 u6 u7
  have k1 : Kept s0 u1 := Kept.ite (State.inc_kept h0) (State.inc_kept h0)
  have k6 : Kept s0 u6 := Kept.upd h0
  have k7 : Kept s0 u7 := State.putNvm_kept k6
  clear_value u0 u1 u2 u3 u4 u5 u6 u7
  exact KeptP.ite (KeptP.mk h0) (KeptP.ite (KeptP.mk (State.flag_kept k1)) (KeptP.mk (State.bump_kept k7)))

theorem State.showNote_kept {s0 a0 : State} {a1} (h0 : Kept s0 a0) : Kept s0 (State.showNote a0 a1) := by
  unfold State.showNote
  lift_lets -underBinder
  extract_lets -descend u0 u1
  have k1 : Kept s0 u1 := State.put_kept h0
  clear_value u0 u1
  split
  · exact State.put_kept (State.put_kept (State.put_kept (State.put_kept (State.put_kept (State.put_kept (State.put_kept
        k1))))))
  · exact State.put_kept (State.put_kept (State.put_kept (State.put_kept (State.put_kept (State.put_kept (State.put_kept
        k1))))))

theorem State.pushNote_kept {s0 a0 : State} {a1 a2} (h0 : Kept s0 a0) : Kept s0 (State.pushNote a0 a1 a2) := by
  unfold State.pushNote
  lift_lets -underBinder
  extract_lets -descend u0 u1
  clear_value u0 u1
  exact Kept.ite (State.showNote_kept (Kept.upd h0)) (State.inc_kept (State.flag_kept h0))

theorem State.notify_kept {s0 a0 : State} {a1 a2} (h0 : Kept s0 a0) : Kept s0 (State.notify a0 a1 a2) := by
  unfold State.notify
  lift_lets -underBinder
  extract_lets -descend u0
  have k0 : Kept s0 u0 := Kept.ite h0 (State.pushNote_kept h0)
  clear_value u0
  exact State.pushNote_kept k0

theorem State.countVerdict_kept {s0 a0 : State} {a1} (h0 : Kept s0 a0) : Kept s0 (State.countVerdict a0 a1) := by
  unfold State.countVerdict
  exact Kept.ite (State.inc_kept h0) (Kept.ite (State.inc_kept h0) (State.inc_kept h0))

theorem State.injectEnd_kept {s0 a0 : State} {a1 a2} (h0 : Kept s0 a0) : Kept s0 (State.injectEnd a0 a1 a2) := by
  unfold State.injectEnd
  lift_lets -underBinder
  extract_lets -descend u0 u1 u2
  have k2 : Kept s0 u2 := Kept.upd h0
  clear_value u0 u1 u2
  exact State.forEach_kept (fun _ _ f3_1 => Kept.ite (State.flag_kept (State.put_kept f3_1)) (State.modCore_kept f3_1)) k2

theorem State.judge_kept {s0 : State} {a0 : State → Nat → Nat → Nat → State} {a1 : State → Nat → Nat → Nat → State} {a2 :
    State} {a3 a4 a5 a6} (h0 : ∀ (b0 : State) (_ : Kept s0 b0) (b1 : Nat) (b2 : Nat) (b3 : Nat), Kept s0 (a0 b0 b1 b2 b3))
    (h1 : ∀ (b0 : State) (_ : Kept s0 b0) (b1 : Nat) (b2 : Nat) (b3 : Nat), Kept s0 (a1 b0 b1 b2 b3)) (h2 : Kept s0 a2) :
    Kept s0 (State.judge a0 a1 a2 a3 a4 a5 a6) := by
  unfold State.judge
  lift_lets -underBinder
  extract_lets -descend u0
  clear_value u0
  split
  · rename_i v1_0 v1_1 v1_2 v1_3 e1
    have k1_0 := KeptP.of (KeptP.ite (KeptP.mk h2) (State.count_kept h2)) e1
    lift_lets -underBinder
    extract_lets -descend u2 u3 u4 u5
    have k4 : Kept s0 u4 := State.put_kept k1_0
    clear_value u2 u3 u4 u5
    split
    · rename_i v6_0 v6_1 e6
      have k6_0 := KeptP.of (KeptP.ite (KeptP.mk k4) (State.repair_kept h0 k4)) e6
      lift_lets -underBinder
      extract_lets -descend u7 u8 u9 u10
      have k9 : Kept s0 u9 := Kept.ite k4 (Kept.ite (Kept.upd k4) k6_0)
      clear_value u7 u8 u9 u10
      split
      · rename_i v11_0 v11_1 e11
        have k11_0 := KeptP.of (State.logEntry_kept k9) e11
        lift_lets -underBinder
        extract_lets -descend u12 u13 u14 u15 u16 u17 u18 u19
        have k13 : Kept s0 u13 := State.notify_kept (State.countVerdict_kept k11_0)
        have k14 : Kept s0 u14 := State.forEach_kept (fun _ _ f15_1 => State.notify_kept f15_1) k13
        have k15 : Kept s0 u15 := Kept.ite (State.injectEnd_kept k14) k14
        have k16 : Kept s0 u16 := Kept.ite (h0 _ (State.flag_kept k15) _ _ _) k15
        have k18 : Kept s0 u18 := Kept.ite (h0 _ k16 _ _ _) (Kept.ite (h0 _ (h1 _ k16 _ _ _) _ _ _) k16)
        have k19 : Kept s0 u19 := Kept.ite (h0 _ k18 _ _ _) k18
        clear_value u12 u13 u14 u15 u16 u17 u18 u19
        exact Kept.ite (State.fltReset_kept k19) k19

theorem State.showRetests_kept {s0 a0 : State} (h0 : Kept s0 a0) : Kept s0 (State.showRetests a0) := by
  unfold State.showRetests
  exact State.put_kept (State.put_kept h0)

theorem State.reportN_kept {s0 : State} {a0 : Nat} {a1 : State} {a2} (h1 : Kept s0 a1) : Kept s0 (State.reportN a0 a1 a2) := by
  induction a0 generalizing a1 a2 with
  | zero => exact h1
  | succ n ih =>
    have own : ∀ (t : State) (_ : Kept s0 t) (c r d : Nat),
        Kept s0 (t.reportN n { cause := c, res := r, detail := d, stamp := t.now, bay := 0 }) := fun _ h _ _ _ => ih h
    have ownL : ∀ (t : State) (_ : Kept s0 t) (c r d : Nat),
        Kept s0 (t.reportN n { cause := c, res := r, detail := d, stamp := t.now, bay := 0, forced := true }) := fun _ h _ _ _ => ih h
    unfold State.reportN
    lift_lets
    extract_lets -descend f g r p s u p2 t
    have k : Kept s0 s := Kept.same h1 rfl
    have k2 : Kept s0 u := Kept.ite (State.registerReset_kept k) k
    have k3 : Kept s0 t := own _ (State.flag_kept k2) _ _ _
    exact Kept.ite k (Kept.ite k (Kept.ite (State.judge_kept own ownL k2)
      (Kept.ite (State.showRetests_kept (Kept.same k2 rfl)) (Kept.ite (State.judge_kept own ownL k3)
        (State.showRetests_kept (Kept.same k2 rfl))))))

theorem State.report_kept {s0 a0 : State} {a1 a2 a3 a4} (h0 : Kept s0 a0) : Kept s0 (State.report a0 a1 a2 a3 a4) := by
  unfold State.report
  exact State.reportN_kept h0

theorem State.took_kept {s0 a0 : State} {a1} (h0 : Kept s0 a0) : Kept s0 (State.took a0 a1) := by
  unfold State.took
  exact Kept.upd h0

theorem State.showEnd_kept {s0 a0 : State} {a1 a2} (h0 : Kept s0 a0) : Kept s0 (State.showEnd a0 a1 a2) := by
  unfold State.showEnd
  lift_lets -underBinder
  extract_lets -descend u0
  clear_value u0
  exact State.flag_kept (State.put_kept h0)

theorem State.putEnd_kept {s0 a0 : State} {a1 a2 a3} (h0 : Kept s0 a0) : Kept s0 (State.putEnd a0 a1 a2 a3) :=
  Kept.msg h0 id (fun h => SMap.set_wf _ _ _ h) rfl

theorem State.setEnd_kept {s0 a0 : State} {a1 a2 a3} (h0 : Kept s0 a0) : Kept s0 (State.setEnd a0 a1 a2 a3) := by
  unfold State.setEnd
  exact State.showEnd_kept (State.putEnd_kept h0)

theorem State.quotaDown_kept {s0 a0 : State} {a1} (h0 : Kept s0 a0) : Kept s0 (State.quotaDown a0 a1) :=
  Kept.ite (Kept.updMsg (State.put_kept (State.put_kept h0))) (State.put_kept (State.put_kept h0))

theorem State.endDown_kept {s0 a0 : State} {a1 a2} (h0 : Kept s0 a0) : Kept s0 (State.endDown a0 a1 a2) :=
  Kept.ite (State.put_kept (Kept.updMsg h0)) (State.quotaDown_kept h0)

theorem State.entryDone_kept {s0 a0 : State} {a1 a2} (h0 : Kept s0 a0) : Kept s0 (State.entryDone a0 a1 a2) := by
  unfold State.entryDone
  split
  · lift_lets -underBinder
    extract_lets -descend u1 u2 u3
    have k2 : Kept s0 u2 := State.setEnd_kept (State.bump_kept h0)
    have k3 : Kept s0 u3 := State.endDown_kept k2
    clear_value u1 u2 u3
    exact Kept.ite (State.flag_kept k3) k3
  · exact h0

theorem State.mirrorLine_kept {s0 a0 : State} {a1} (h0 : Kept s0 a0) : Kept s0 (State.mirrorLine a0 a1) := by
  unfold State.mirrorLine
  split
  · split
    · exact h0
    · split
      · exact h0
      · lift_lets -underBinder
        extract_lets -descend u3 u4 u5 u6 u7
        have k7 : Kept s0 u7 := Kept.upd h0
        clear_value u3 u4 u5 u6 u7
        exact Kept.ite h0 (State.put_kept k7)
  · exact h0

theorem State.capture_kept {s0 a0 : State} {a1 a2} (h0 : Kept s0 a0) : Kept s0 (State.capture a0 a1 a2) := by
  unfold State.capture
  exact Kept.ite h0 (State.forEach_kept (fun _ _ f0_1 => State.mirrorLine_kept f0_1) h0)

theorem State.putByte_kept {s0 a0 : State} {a1 a2} (h0 : Kept s0 a0) : Kept s0 (State.putByte a0 a1 a2) :=
  Kept.mem h0 (fun h => SMap.set_wf _ _ _ h) rfl rfl

theorem State.writeMem_kept {s0 a0 : State} {a1 : Nat} {a2 : List Byte} (h0 : Kept s0 a0) : Kept s0 (State.writeMem a0 a1 a2) := by
  induction a2 generalizing a0 a1 with
  | nil => exact h0
  | cons b t ih => exact ih (Kept.ite h0 (State.putByte_kept h0))

theorem State.unpoison_kept {s0 a0 : State} {a1 a2} (h0 : Kept s0 a0) : Kept s0 (State.unpoison a0 a1 a2) := by
  unfold State.unpoison
  exact Kept.upd h0

theorem State.snoop_kept {s0 a0 : State} {a1 a2} (h0 : Kept s0 a0) : Kept s0 (State.snoop a0 a1 a2) := by
  unfold State.snoop
  exact Kept.upd h0

theorem State.lastErr_kept {s0 a0 : State} {a1 a2 a3} (h0 : Kept s0 a0) : Kept s0 (State.lastErr a0 a1 a2 a3) := by
  unfold State.lastErr
  exact Kept.ite h0 (State.flag_kept (State.put_kept (State.put_kept h0)))

theorem State.eccFound_kept {s0 a0 : State} {a1 a2} (h0 : Kept s0 a0) : Kept s0 (State.eccFound a0 a1 a2) := by
  unfold State.eccFound
  lift_lets -underBinder
  extract_lets -descend u0 u1 u2
  have k2 : Kept s0 u2 := Kept.ite (Kept.upd h0) (Kept.upd h0)
  clear_value u0 u1 u2
  split
  · lift_lets -underBinder
    extract_lets -descend u4 u5 u6
    have k6 : Kept s0 u6 := State.lastErr_kept (Kept.ite (State.inc_kept k2) (State.setB_kept (State.inc_kept k2)))
    clear_value u4 u5 u6
    exact State.report_kept k6
  · lift_lets -underBinder
    extract_lets -descend u4 u5
    have k5 : Kept s0 u5 := Kept.ite k2 (State.setB_kept k2)
    clear_value u4 u5
    exact State.report_kept k5
  · exact k2

theorem State.partHit_kept {s0 a0 : State} {a1 a2} (h0 : Kept s0 a0) : Kept s0 (State.partHit a0 a1 a2) := by
  unfold State.partHit
  split
  · exact State.eccFound_kept h0
  · exact h0

theorem State.writeBuf_kept {s0 a0 : State} {a1 a2} (h0 : Kept s0 a0) : Kept s0 (State.writeBuf a0 a1 a2) := by
  unfold State.writeBuf
  exact State.capture_kept (State.writeMem_kept (State.unpoison_kept (State.snoop_kept (State.partHit_kept h0))))

theorem State.coreFault_kept {s0 a0 : State} {a1 a2 a3} (h0 : Kept s0 a0) : Kept s0 (State.coreFault a0 a1 a2 a3) := by
  unfold State.coreFault
  exact State.modCore_kept h0

theorem State.busError_kept {s0 a0 : State} {a1 a2 a3} (h0 : Kept s0 a0) : Kept s0 (State.busError a0 a1 a2 a3) := by
  unfold State.busError
  lift_lets -underBinder
  extract_lets -descend u0
  clear_value u0
  exact Kept.ite (Kept.ite (State.coreFault_kept h0) h0) (Kept.ite (Kept.ite (State.modEngine_kept h0) h0) (Kept.ite
      (Kept.upd h0) h0))

theorem State.recordViol_kept {s0 a0 : State} {a1 a2 a3 a4} (h0 : Kept s0 a0) : Kept s0 (State.recordViol a0 a1 a2 a3 a4) := by
  unfold State.recordViol
  lift_lets -underBinder
  extract_lets -descend u0 u1 u2 u3 u4
  have k1 : Kept s0 u1 := State.setB_kept h0
  have k2 : Kept s0 u2 := State.flag_kept (State.put_kept k1)
  have k3 : Kept s0 u3 := State.put_kept (State.put_kept k2)
  have k4 : Kept s0 u4 := Kept.ite k1 (State.flag_kept (State.put_kept (State.put_kept k3)))
  clear_value u0 u1 u2 u3 u4
  exact State.inc_kept k4

theorem State.barred_kept {s0 a0 : State} {a1 a2 a3 a4} (h0 : Kept s0 a0) : Kept s0 (State.barred a0 a1 a2 a3 a4) := by
  unfold State.barred
  exact State.report_kept (State.recordViol_kept h0)

theorem State.blocked_kept {s0 a0 : State} {a1 a2 a3 a4} (h0 : Kept s0 a0) : Kept s0 (State.blocked a0 a1 a2 a3 a4) := by
  unfold State.blocked
  exact State.busError_kept (State.barred_kept h0)

theorem State.ringLost_kept {s0 a0 : State} {a1 a2} (h0 : Kept s0 a0) : Kept s0 (State.ringLost a0 a1 a2) := by
  unfold State.ringLost
  lift_lets -underBinder
  extract_lets -descend u0 u1 u2 u3
  have k1 : Kept s0 u1 := foldl_kept h0 (fun _ f2_0 _ => State.endDown_kept f2_0)
  have k3 : Kept s0 u3 := State.putEnd_kept k1
  clear_value u0 u1 u2 u3
  exact State.setEnd_kept (State.flag_kept (State.put_kept k3))

theorem State.ringFault_kept {s0 a0 : State} {a1 a2 a3 a4} (h0 : Kept s0 a0) : Kept s0 (State.ringFault a0 a1 a2 a3 a4) := by
  unfold State.ringFault
  exact State.blocked_kept (State.ringLost_kept h0)

theorem State.farQueue_kept {s0 a0 : State} {a1 a2 a3 a4 a5} (h0 : Kept s0 a0) : Kept s0 (State.farQueue a0 a1 a2 a3 a4 a5)
    := by
  unfold State.farQueue
  exact Kept.upd h0

theorem State.farWrite_kept {s0 a0 : State} {a1 a2 a3 a4 a5} (h0 : Kept s0 a0) : Kept s0 (State.farWrite a0 a1 a2 a3 a4 a5)
    := by
  unfold State.farWrite
  exact State.forEach_kept (fun _ _ f0_1 => State.farQueue_kept f0_1) h0

theorem State.writeCpl_kept {s0 a0 : State} {a1 a2} (h0 : Kept s0 a0) : Kept s0 (State.writeCpl a0 a1 a2) := by
  unfold State.writeCpl
  lift_lets -underBinder
  extract_lets -descend u0
  clear_value u0
  split
  · split
    · lift_lets -underBinder
      extract_lets -descend u3
      clear_value u3
      refine Kept.ite ?_ ?_
      · exact h0
      · split
        · exact Kept.ite (State.entryDone_kept (State.writeBuf_kept h0)) (State.ringFault_kept h0)
        · exact State.farWrite_kept (State.putEnd_kept h0)
        · exact State.ringLost_kept h0
    · exact h0
  · exact h0

theorem State.drainEnd_kept {s0 a0 : State} {a1 a2} (h0 : Kept s0 a0) : Kept s0 (State.drainEnd a0 a1 a2) := by
  unfold State.drainEnd
  exact foldl_kept h0 (fun _ f0_0 _ => State.writeCpl_kept f0_0)

theorem State.modDesc_kept {s0 a0 : State} {a1 a2 a3} {a4 : Desc → Desc} (h0 : Kept s0 a0) : Kept s0 (State.modDesc a0 a1
    a2 a3 a4) := by
  unfold State.modDesc
  lift_lets -underBinder
  extract_lets -descend u0
  clear_value u0
  exact State.putEnd_kept h0

theorem State.finishDesc_kept {s0 a0 : State} {a1 a2 a3 a4 a5 a6 a7 a8} (h0 : Kept s0 a0) : Kept s0 (State.finishDesc a0 a1
    a2 a3 a4 a5 a6 a7 a8) := by
  unfold State.finishDesc
  exact State.drainEnd_kept (State.modDesc_kept h0)

theorem State.setPage_kept {s0 a0 : State} {a1 a2} (h0 : Kept s0 a0) : Kept s0 (State.setPage a0 a1 a2) := by
  unfold State.setPage
  exact Kept.upd h0

theorem State.showNvm_kept {s0 a0 : State} (h0 : Kept s0 a0) : Kept s0 (State.showNvm a0) := by
  unfold State.showNvm
  lift_lets -underBinder
  extract_lets -descend u0 u1 u2 u3
  have k3 : Kept s0 u3 := State.flag_kept (State.put_kept (State.put_kept h0))
  clear_value u0 u1 u2 u3
  exact State.put_kept (State.put_kept k3)

theorem State.retirePage_kept {s0 a0 : State} {a1} (h0 : Kept s0 a0) : Kept s0 (State.retirePage a0 a1) := by
  unfold State.retirePage
  lift_lets -underBinder
  extract_lets -descend u0 u1 u2
  have k1 : Kept s0 u1 := State.setPage_kept h0
  have k2 : Kept s0 u2 := State.report_kept (State.flag_kept (State.showNvm_kept k1))
  clear_value u0 u1 u2
  exact Kept.ite (State.report_kept (State.flag_kept k2)) k2

theorem State.commitPage_kept {s0 a0 : State} {a1} (h0 : Kept s0 a0) : Kept s0 (State.commitPage a0 a1) := by
  unfold State.commitPage
  lift_lets -underBinder
  extract_lets -descend u0 u1 u2 u3 u4 u5
  have k3 : Kept s0 u3 := Kept.upd h0
  have k4 : Kept s0 u4 := State.putNvm_kept (State.setPage_kept k3)
  have k5 : Kept s0 u5 := State.showNvm_kept k4
  clear_value u0 u1 u2 u3 u4 u5
  split
  · exact Kept.ite (State.retirePage_kept k5) k5
  · exact k5

theorem State.writePage_kept {s0 a0 : State} {a1 a2} (h0 : Kept s0 a0) : Kept s0 (State.writePage a0 a1 a2) := by
  unfold State.writePage
  split
  · exact h0
  · exact State.commitPage_kept h0

theorem State.modTrs_kept {s0 a0 : State} {a1 : TrsPart → TrsPart} (h0 : Kept s0 a0) : Kept s0 (State.modTrs a0 a1) := by
  unfold State.modTrs
  exact State.modLink_kept h0

theorem State.modLane_kept {s0 a0 : State} {a1} {a2 : Lane → Lane} (h0 : Kept s0 a0) : Kept s0 (State.modLane a0 a1 a2) := by
  unfold State.modLane
  exact State.modLink_kept h0

theorem State.bellsDown_kept {s0 a0 : State} {a1} (h0 : Kept s0 a0) : Kept s0 (State.bellsDown a0 a1) :=
  Kept.updMsg h0

theorem State.mbxRefused_kept {s0 a0 : State} {a1 a2 a3} (h0 : Kept s0 a0) : Kept s0 (State.mbxRefused a0 a1 a2 a3) := by
  unfold State.mbxRefused
  lift_lets -underBinder
  extract_lets -descend u0 u1 u2 u3
  have k2 : Kept s0 u2 := State.bellsDown_kept (State.setMbx_kept h0)
  have k3 : Kept s0 u3 := Kept.ite (State.mbxStatus_kept k2) k2
  clear_value u0 u2 u3
  exact Kept.ite (Kept.ite k3 (State.report_kept k3)) h0

theorem State.quotaUp_kept {s0 a0 : State} {a1} (h0 : Kept s0 a0) : Kept s0 (State.quotaUp a0 a1) :=
  Kept.ite (State.report_kept (Kept.updMsg (State.bump_kept (State.bump_kept h0)))) (State.bump_kept (State.bump_kept h0))

theorem State.endUp_kept {s0 a0 : State} {a1 a2} (h0 : Kept s0 a0) : Kept s0 (State.endUp a0 a1 a2) :=
  Kept.ite (State.bump_kept (Kept.updMsg h0)) (State.quotaUp_kept h0)

theorem State.pairOnce_kept {s0 a0 : State} {a1 a2} (h0 : Kept s0 a0) : Kept s0 (State.pairOnce a0 a1 a2) := by
  unfold State.pairOnce
  split
  · exact Kept.ite (State.finishDesc_kept h0) (State.modDesc_kept (State.modDesc_kept h0))
  · exact h0

theorem State.pairAll_kept {s0 a0 : State} {a1} (h0 : Kept s0 a0) : Kept s0 (State.pairAll a0 a1) := by
  unfold State.pairAll
  exact Kept.ite (foldl_kept h0 (fun _ f0_0 _ => State.pairOnce_kept (State.pairOnce_kept f0_0))) h0

theorem State.farRead_kept {s0 a0 : State} {a1 a2 a3 a4} {a5 : Nat → TrsUse} (h0 : Kept s0 a0) : Kept s0 (State.farRead a0
    a1 a2 a3 a4 a5) := by
  unfold State.farRead
  exact State.forEach_kept (fun _ _ f0_1 => State.farQueue_kept f0_1) h0

theorem State.pullIn_kept {s0 a0 : State} {a1 a2 a3} (h0 : Kept s0 a0) : Kept s0 (State.pullIn a0 a1 a2 a3) := by
  unfold State.pullIn
  refine Kept.ite ?_ ?_
  · exact h0
  · split
    · lift_lets -underBinder
      extract_lets -descend u1
      clear_value u1
      exact State.farRead_kept (State.modDesc_kept h0)
    · exact h0

theorem State.fetched_kept {s0 a0 : State} {a1 a2 a3 a4 a5} (h0 : Kept s0 a0) : Kept s0 (State.fetched a0 a1 a2 a3 a4 a5) := by
  unfold State.fetched
  lift_lets -underBinder
  extract_lets -descend u0 u1 u2 u3 u4 u5
  have k4 : Kept s0 u4 := State.setEnd_kept (State.bump_kept h0)
  have k5 : Kept s0 u5 := State.endUp_kept k4
  clear_value u0 u1 u2 u3 u4 u5
  exact Kept.ite (State.finishDesc_kept k5) (Kept.ite (State.finishDesc_kept k5) (Kept.ite (State.report_kept
      (State.finishDesc_kept k5)) (State.pairAll_kept (State.pullIn_kept k5))))

theorem State.pulled_kept {s0 a0 : State} {a1 a2 a3 a4 a5} (h0 : Kept s0 a0) : Kept s0 (State.pulled a0 a1 a2 a3 a4 a5) := by
  unfold State.pulled
  exact State.pairAll_kept (State.modDesc_kept h0)

theorem State.partLost_kept {s0 a0 : State} {a1 a2 a3 a4 a5 a6} (h0 : Kept s0 a0) : Kept s0 (State.partLost a0 a1 a2 a3 a4
    a5 a6) := by
  unfold State.partLost
  refine Kept.ite ?_ ?_
  · exact State.drainEnd_kept (State.modDesc_kept h0)
  · split
    · exact Kept.ite h0 (State.finishDesc_kept (State.modDesc_kept h0))
    · exact h0

theorem State.pushed_kept {s0 a0 : State} {a1 a2 a3} (h0 : Kept s0 a0) : Kept s0 (State.pushed a0 a1 a2 a3) := by
  unfold State.pushed
  exact State.drainEnd_kept (State.modDesc_kept h0)

theorem State.qmgrAnswer_kept {s0 a0 : State} {a1 a2} (h0 : Kept s0 a0) : Kept s0 (State.qmgrAnswer a0 a1 a2) := by
  unfold State.qmgrAnswer
  split
  · exact Kept.ite (State.fetched_kept h0) h0
  · exact Kept.ite (State.ringLost_kept h0) h0
  · exact State.pulled_kept h0
  · exact State.partLost_kept h0
  · exact State.pushed_kept h0
  · exact State.partLost_kept h0
  · exact Kept.ite (State.drainEnd_kept (State.entryDone_kept h0)) h0
  · exact Kept.ite (State.ringLost_kept h0) h0
  · exact h0

theorem answer_kept {s0 a0 : State} (h0 : Kept s0 a0) : KeptH s0 (answer a0) := KeptH.answer h0

theorem State.act_kept {s0 a0 : State} {a1 a2 a3 a4 a5} {a6 : State → State} (h0 : Kept s0 a0) (h6 : ∀ (b0 : State) (_ :
    Kept s0 b0), Kept s0 (a6 b0)) : Kept s0 (State.act a0 a1 a2 a3 a4 a5 a6) := by
  unfold State.act
  exact Kept.ite (Kept.ite (h6 _ h0) h0) (Kept.ite (Kept.ite (h6 _ h0) (State.blocked_kept h0)) h0)

theorem State.byBay0_kept {s0 a0 : State} {a1 a2} {a3 : State → State} (h0 : Kept s0 a0) (h3 : ∀ (b0 : State) (_ : Kept s0
    b0), Kept s0 (a3 b0)) : Kept s0 (State.byBay0 a0 a1 a2 a3) := by
  unfold State.byBay0
  exact State.act_kept h0 h3

theorem State.setPhase_kept {s0 a0 : State} {a1} (h0 : Kept s0 a0) : Kept s0 (State.setPhase a0 a1) := by
  unfold State.setPhase
  exact Kept.upd h0

theorem State.holdCause_kept {s0 a0 : State} {a1 a2 a3} (h0 : Kept s0 a0) : Kept s0 (State.holdCause a0 a1 a2 a3) := by
  unfold State.holdCause
  lift_lets -underBinder
  extract_lets -descend u0
  clear_value u0
  exact Kept.ite (Kept.upd h0) h0

theorem State.putB_kept {s0 a0 : State} {a1 a2 a3} (h0 : Kept s0 a0) : Kept s0 (State.putB a0 a1 a2 a3) := by
  unfold State.putB
  exact Kept.ite (State.setB_kept h0) (State.clrB_kept h0)

theorem State.setAdj_kept {s0 a0 : State} {a1} (h0 : Kept s0 a0) : Kept s0 (State.setAdj a0 a1) := by
  unfold State.setAdj
  lift_lets -underBinder
  extract_lets -descend u0 u1 u2
  have k1 : Kept s0 u1 := State.putI_kept (State.putI_kept h0)
  have k2 : Kept s0 u2 := State.flag_kept k1
  clear_value u0 u1 u2
  exact Kept.ite k2 (State.report_kept (State.flag_kept k2))

theorem State.applyTime_kept {s0 a0 : State} (h0 : Kept s0 a0) : Kept s0 (State.applyTime a0) := by
  unfold State.applyTime
  lift_lets -underBinder
  extract_lets -descend u0 u1 u2 u3 u4 u5 u6 u7 u8 u9 u10
  have k2 : Kept s0 u2 := State.put_kept h0
  have k3 : Kept s0 u3 := State.put_kept k2
  have k4 : Kept s0 u4 := State.put_kept k3
  have k5 : Kept s0 u5 := State.put_kept k4
  have k6 : Kept s0 u6 := State.put_kept k5
  have k9 : Kept s0 u9 := State.setAdj_kept k6
  clear_value u0 u1 u2 u3 u4 u5 u6 u7 u8 u9 u10
  exact Kept.upd k9

theorem State.resetRegs_kept {s0 a0 : State} {a1 a2} (h0 : Kept s0 a0) : Kept s0 (State.resetRegs a0 a1 a2) :=
  Kept.regs h0 (fun h => SMap.mapDrop_wf _ _ h) rfl

theorem State.applyQdr_kept {s0 a0 : State} (h0 : Kept s0 a0) : Kept s0 (State.applyQdr a0) := by
  unfold State.applyQdr
  exact State.forEach_kept (fun _ _ f0_1 => (by
    split
    · exact State.putCtx_kept f0_1
    · lift_lets -underBinder
      extract_lets -descend u2 u3 u4 u5
      have k3 : Kept s0 u3 := State.setCtx_kept f0_1
      have k4 : Kept s0 u4 := State.putB_kept (State.setB_kept k3)
      have k5 : Kept s0 u5 := State.put_kept (State.put_kept k4)
      clear_value u2 u3 u4 u5
      exact State.put_kept (State.put_kept k5))) h0

theorem State.driveGpio_kept {s0 a0 : State} {a1} (h0 : Kept s0 a0) : Kept s0 (State.driveGpio a0 a1) := by
  unfold State.driveGpio
  lift_lets -underBinder
  extract_lets -descend u0 u1
  clear_value u0 u1
  exact Kept.upd h0

theorem State.movePin_kept {s0 a0 : State} {a1 a2} (h0 : Kept s0 a0) : Kept s0 (State.movePin a0 a1 a2) := by
  unfold State.movePin
  lift_lets -underBinder
  extract_lets -descend u0 u1 u2
  have k1 : Kept s0 u1 := State.flag_kept (State.dropMoves_kept h0)
  clear_value u0 u1 u2
  exact Kept.ite h0 (Kept.upd k1)

theorem State.haltHart_kept {s0 a0 : State} {a1 a2} (h0 : Kept s0 a0) : Kept s0 (State.haltHart a0 a1 a2) := by
  unfold State.haltHart
  exact State.modCore_kept h0

theorem State.unparkBayPins_kept {s0 a0 : State} {a1} (h0 : Kept s0 a0) : Kept s0 (State.unparkBayPins a0 a1) := by
  unfold State.unparkBayPins
  exact State.forEach_kept (fun _ _ f0_1 => Kept.ite (State.movePin_kept f0_1) f0_1) h0

theorem State.resyncReq_kept {s0 a0 : State} {a1} (h0 : Kept s0 a0) : Kept s0 (State.resyncReq a0 a1) := by
  unfold State.resyncReq
  exact State.resyncAt_kept h0

theorem State.enterSync_kept {s0 a0 : State} {a1} (h0 : Kept s0 a0) : Kept s0 (State.enterSync a0 a1) := by
  unfold State.enterSync
  exact State.resyncReq_kept (State.setRole_kept h0)

theorem State.reportLasting_kept {s0 a0 : State} {a1 a2 a3 a4} (h0 : Kept s0 a0) : Kept s0 (State.reportLasting a0 a1 a2 a3
    a4) := by
  unfold State.reportLasting
  exact State.reportN_kept h0

theorem State.putBytes_kept {s0 a0 : State} {a1 : Nat} {a2 : List Byte} (h0 : Kept s0 a0) : Kept s0 (State.putBytes a0 a1 a2) := by
  induction a2 generalizing a0 a1 with
  | nil => exact h0
  | cons b t ih => exact ih (State.putByte_kept h0)

theorem State.zeroMem_kept {s0 a0 : State} {a1 a2} (h0 : Kept s0 a0) : Kept s0 (State.zeroMem a0 a1 a2) :=
  Kept.mem h0 (fun h => SMap.mapDrop_wf _ _ h) rfl rfl

theorem State.newMsg_kept {s0 a0 : State} {a1 a2} (h0 : Kept s0 a0) : Kept s0 (State.newMsg a0 a1 a2) := by
  unfold State.newMsg
  exact State.flag_kept (State.mbxStatus_kept h0)

theorem State.mbxPut_kept {s0 a0 : State} {a1 a2 a3 a4} (h0 : Kept s0 a0) : Kept s0 (State.mbxPut a0 a1 a2 a3 a4) := by
  unfold State.mbxPut
  lift_lets -underBinder
  extract_lets -descend u0 u1 u2 u3
  have k1 : Kept s0 u1 := Kept.ite h0 (State.newMsg_kept h0)
  have k3 : Kept s0 u3 := State.mbxStatus_kept (State.setMbx_kept k1)
  clear_value u0 u1 u2 u3
  exact Kept.ite (Kept.ite (State.setMbx_kept h0) h0) (Kept.ite (State.report_kept (State.flag_kept k3)) (Kept.ite
      (State.setMbx_kept k1) (State.setMbx_kept k1)))

theorem State.abortDesc_kept {s0 a0 : State} {a1 a2 a3} (h0 : Kept s0 a0) : Kept s0 (State.abortDesc a0 a1 a2 a3) := by
  unfold State.abortDesc
  lift_lets -underBinder
  extract_lets -descend u0
  have k0 : Kept s0 u0 := (by
    unfold u0
    split
    · exact State.modDesc_kept h0
    · exact h0)
  clear_value u0
  exact Kept.ite h0 (Kept.ite (State.modDesc_kept h0) (State.pairAll_kept (State.finishDesc_kept k0)))

theorem State.holdReset_kept {s0 a0 : State} {a1} (h0 : Kept s0 a0) : Kept s0 (State.holdReset a0 a1) := by
  unfold State.holdReset
  exact State.put_kept (State.resetInto_kept h0)

theorem State.tevFire_kept {s0 a0 : State} {a1 a2} (h0 : Kept s0 a0) : Kept s0 (State.tevFire a0 a1 a2) := by
  unfold State.tevFire
  lift_lets -underBinder
  extract_lets -descend u0 u1 u2 u3 u4 u5 u6 u7 u8
  have k2 : Kept s0 u2 := State.put_kept (State.flag_kept h0)
  have k3 : Kept s0 u3 := State.put_kept k2
  have k7 : Kept s0 u7 := State.modTev_kept k3
  have k8 : Kept s0 u8 := Kept.ite k7 (State.flag_kept k7)
  clear_value u0 u1 u2 u3 u4 u5 u6 u7 u8
  exact Kept.ite (State.report_kept (State.flag_kept k8)) k8

theorem State.tevStep_kept {s0 : State} {a0 a1} {a2 : State} (h2 : Kept s0 a2) : Kept s0 (State.tevStep a0 a1 a2) := by
  unfold State.tevStep
  refine Kept.ite ?_ ?_
  · split
    · lift_lets -underBinder
      extract_lets -descend u1 u2 u3 u4 u5 u6 u7 u8 u9
      have k6 : Kept s0 u6 := State.modTev_kept h2
      clear_value u1 u2 u3 u4 u5 u6 u7 u8 u9
      exact Kept.ite (Kept.ite (State.report_kept (State.put_kept (State.flag_kept k6))) (Kept.ite (State.report_kept
          (State.put_kept (State.flag_kept k6))) k6)) (Kept.ite (State.tevFire_kept h2) h2)
    · exact h2
  · exact h2

theorem State.putWords_kept {s0 a0 : State} {a1 : Nat → Fld} {a2 : Nat} {a3 : List Nat} (h0 : Kept s0 a0) :
    Kept s0 (State.putWords a0 a1 a2 a3) := by
  induction a3 generalizing a0 a2 with
  | nil => exact h0
  | cons w t ih => exact ih (State.put_kept h0)

theorem State.journal_kept {s0 a0 : State} {a1} (h0 : Kept s0 a0) : Kept s0 (State.journal a0 a1) := by
  unfold State.journal
  lift_lets -underBinder
  extract_lets -descend u0 u1 u2 u3 u4 u5 u6
  have k6 : Kept s0 u6 := State.putWords_kept h0
  clear_value u0 u1 u2 u3 u4 u5 u6
  exact Kept.ite h0 (State.flag_kept (State.put_kept (State.put_kept k6)))

theorem State.showTime_kept {s0 a0 : State} (h0 : Kept s0 a0) : Kept s0 (State.showTime a0) := by
  unfold State.showTime
  exact State.putI_kept (State.flag_kept (State.put_kept h0))

theorem State.stepOfs_kept {s0 a0 : State} {a1 a2 a3} (h0 : Kept s0 a0) : Kept s0 (State.stepOfs a0 a1 a2 a3) := by
  unfold State.stepOfs
  lift_lets -underBinder
  extract_lets -descend u0 u1 u2 u3
  have k2 : Kept s0 u2 := Kept.upd h0
  have k3 : Kept s0 u3 := State.flag_kept (State.bump_kept k2)
  clear_value u0 u1 u2 u3
  exact State.forEach_kept (fun _ _ f4_1 => State.tevStep_kept f4_1) (State.journal_kept (State.showTime_kept k3))

theorem State.sleepAdjust_kept {s0 a0 : State} (h0 : Kept s0 a0) : Kept s0 (State.sleepAdjust a0) := by
  unfold State.sleepAdjust
  lift_lets -underBinder
  extract_lets -descend u0 u1
  clear_value u0 u1
  exact Kept.ite h0 (State.stepOfs_kept h0)

theorem State.poisonHit_kept {s0 a0 : State} {a1 a2} (h0 : Kept s0 a0) : Kept s0 (State.poisonHit a0 a1 a2) := by
  unfold State.poisonHit
  split
  · exact State.eccFound_kept h0
  · exact h0

theorem State.swapQdr_kept {s0 a0 : State} {a1 a2} (h0 : Kept s0 a0) : Kept s0 (State.swapQdr a0 a1 a2) := by
  unfold State.swapQdr
  exact State.forEach_kept (fun _ _ f0_1 => (by
    lift_lets -underBinder
    extract_lets -descend u1
    clear_value u1
    split
    · exact Kept.ite (State.clrB_kept (State.putCtx_kept f0_1)) f0_1
    · lift_lets -underBinder
      extract_lets -descend u3 u4 u5
      have k3 : Kept s0 u3 := State.putB_kept (State.setB_kept f0_1)
      have k4 : Kept s0 u4 := State.put_kept (State.put_kept k3)
      have k5 : Kept s0 u5 := State.put_kept (State.put_kept k4)
      clear_value u3 u4 u5
      refine Kept.ite ?_ ?_
      · exact f0_1
      · split
        · exact Kept.ite (State.setCtx_kept k5) (Kept.ite k5 (State.setCtx_kept k5))
        · exact State.setCtx_kept k5)) h0

theorem State.walkOn_kept {s0 a0 : State} {a1 a2} (h0 : Kept s0 a0) : Kept s0 (State.walkOn a0 a1 a2) := by
  unfold State.walkOn
  lift_lets -underBinder
  extract_lets -descend u0
  have k0 : Kept s0 u0 := State.put_kept h0
  clear_value u0
  refine Kept.ite ?_ ?_
  · exact State.put_kept (State.put_kept h0)
  · split
    · exact State.put_kept k0
    · lift_lets -underBinder
      extract_lets -descend u2 u3
      have k2 : Kept s0 u2 := State.put_kept (State.bump_kept k0)
      clear_value u2 u3
      exact State.put_kept (Kept.upd k2)

theorem State.setTest_kept {s0 a0 : State} {a1} (h0 : Kept s0 a0) : Kept s0 (State.setTest a0 a1) := by
  unfold State.setTest
  lift_lets -underBinder
  extract_lets -descend u0 u1 u2
  have k0 : Kept s0 u0 := (by
    unfold u0
    split
    · exact State.flag_kept h0
    · exact h0)
  have k1 : Kept s0 u1 := (by
    unfold u1
    split
    · exact State.flag_kept k0
    · exact k0)
  clear_value u0 u1 u2
  exact State.flag_kept (Kept.upd k1)

theorem State.mbxBell_kept {s0 : State} {a0 : State} {a1 a2} (h0 : Kept s0 a0) : Kept s0 (State.mbxBell a0 a1 a2) :=
  Kept.ite (Kept.ite (Kept.updMsg (State.setMbx_kept h0)) (State.flag_kept (State.setMbx_kept h0))) (State.report_kept h0)

theorem State.mbxRecall_kept {s0 a0 : State} {a1 a2} (h0 : Kept s0 a0) : Kept s0 (State.mbxRecall a0 a1 a2) := by
  unfold State.mbxRecall
  lift_lets -underBinder
  extract_lets -descend u0
  clear_value u0
  exact Kept.ite h0 (Kept.ite (State.mbxStatus_kept (State.setMbx_kept h0)) (Kept.ite h0 (Kept.ite (State.setMbx_kept h0)
      (State.mbxStatus_kept (State.setMbx_kept h0)))))

theorem State.endEn_kept {s0 a0 : State} {a1 a2 a3} (h0 : Kept s0 a0) : Kept s0 (State.endEn a0 a1 a2 a3) := by
  unfold State.endEn
  lift_lets -underBinder
  extract_lets -descend u0 u1 u2 u3
  have k0 : Kept s0 u0 := State.put_kept (State.put_kept (State.put_kept h0))
  have k1 : Kept s0 u1 := State.put_kept h0
  have k2 : Kept s0 u2 := State.forEach_kept (fun _ _ f3_1 => State.abortDesc_kept f3_1) k1
  clear_value u0 u1 u2 u3
  exact Kept.ite (State.showEnd_kept (State.put_kept (State.put_kept k0))) (Kept.ite (State.showEnd_kept (State.putEnd_kept
      k2)) h0)

theorem State.postTo_kept {s0 a0 : State} {a1 a2 a3} (h0 : Kept s0 a0) : Kept s0 (State.postTo a0 a1 a2 a3) := by
  unfold State.postTo
  exact Kept.ite (State.report_kept h0) (State.put_kept h0)

theorem State.abortIdx_kept {s0 a0 : State} {a1 a2 a3} (h0 : Kept s0 a0) : Kept s0 (State.abortIdx a0 a1 a2 a3) := by
  unfold State.abortIdx
  lift_lets -underBinder
  extract_lets -descend u0
  clear_value u0
  refine Kept.ite ?_ ?_
  · exact h0
  · split
    · exact State.abortDesc_kept h0
    · lift_lets -underBinder
      extract_lets -descend u2
      clear_value u2
      exact State.putEnd_kept h0

theorem State.slewOfs_kept {s0 a0 : State} {a1 a2} (h0 : Kept s0 a0) : Kept s0 (State.slewOfs a0 a1 a2) := by
  unfold State.slewOfs
  lift_lets -underBinder
  extract_lets -descend u0 u1 u2 u3
  have k2 : Kept s0 u2 := State.showTime_kept (Kept.upd h0)
  have k3 : Kept s0 u3 := Kept.ite (State.flag_kept k2) k2
  clear_value u0 u1 u2 u3
  exact Kept.ite k3 (State.journal_kept k3)

theorem State.holdCorr_kept {s0 a0 : State} {a1} (h0 : Kept s0 a0) : Kept s0 (State.holdCorr a0 a1) := by
  unfold State.holdCorr
  exact State.put_kept (State.put_kept h0)

theorem State.submitCorr_kept {s0 a0 : State} {a1} (h0 : Kept s0 a0) : Kept s0 (State.submitCorr a0 a1) := by
  unfold State.submitCorr
  lift_lets -underBinder
  extract_lets -descend u0 u1 u2 u3 u4
  have k0 : Kept s0 u0 := State.flag_kept h0
  have k2 : Kept s0 u2 := Kept.upd k0
  clear_value u0 u1 u2 u3 u4
  split
  · lift_lets -underBinder
    extract_lets -descend u6
    clear_value u6
    exact State.stepOfs_kept (State.put_kept k2)
  · exact Kept.ite (State.slewOfs_kept (State.put_kept k2)) (State.holdCorr_kept (State.put_kept k2))
  · lift_lets -underBinder
    extract_lets -descend u6 u7 u8 u9
    have k6 : Kept s0 u6 := State.holdCorr_kept (State.put_kept k2)
    have k8 : Kept s0 u8 := Kept.upd k6
    have k9 : Kept s0 u9 := State.journal_kept (State.flag_kept (State.showTime_kept k8))
    clear_value u6 u7 u8 u9
    exact Kept.ite (State.report_kept k9) (Kept.ite (State.slewOfs_kept (State.put_kept k2)) (State.stepOfs_kept
        (State.put_kept k2)))

theorem State.cmdStat_kept {s0 a0 : State} {a1} (h0 : Kept s0 a0) : Kept s0 (State.cmdStat a0 a1) := by
  unfold State.cmdStat
  exact State.put_kept (State.put_kept h0)

theorem State.timeCmd_kept {s0 a0 : State} {a1} (h0 : Kept s0 a0) : Kept s0 (State.timeCmd a0 a1) := by
  unfold State.timeCmd
  lift_lets -underBinder
  extract_lets -descend u0
  clear_value u0
  exact Kept.ite (State.cmdStat_kept h0) (Kept.ite (State.cmdStat_kept h0) (Kept.ite (State.cmdStat_kept h0) (Kept.ite
      (Kept.ite (State.cmdStat_kept h0) (State.cmdStat_kept (State.stepOfs_kept h0))) (Kept.ite (Kept.ite
      (State.cmdStat_kept h0) (State.cmdStat_kept (State.slewOfs_kept h0))) (Kept.ite (State.cmdStat_kept h0)
      (State.cmdStat_kept (State.stepOfs_kept h0)))))))

theorem State.alignErr_kept {s0 a0 : State} {a1 a2} (h0 : Kept s0 a0) : Kept s0 (State.alignErr a0 a1 a2) := by
  unfold State.alignErr
  exact Kept.ite (State.report_kept (State.flag_kept h0)) h0

theorem State.trimReq_kept {s0 a0 : State} {a1 a2} (h0 : Kept s0 a0) : Kept s0 (State.trimReq a0 a1 a2) := by
  unfold State.trimReq
  split
  · exact h0
  · lift_lets -underBinder
    extract_lets -descend u1 u2 u3
    have k2 : Kept s0 u2 := State.setCtx_kept h0
    have k3 : Kept s0 u3 := Kept.ite (State.putI_kept k2) k2
    clear_value u1 u2 u3
    exact Kept.ite (State.alignErr_kept k3) h0

theorem State.readyIn_kept {s0 a0 : State} {a1 a2} (h0 : Kept s0 a0) : Kept s0 (State.readyIn a0 a1 a2) := by
  unfold State.readyIn
  split
  · exact h0
  · split
    · exact h0
    · lift_lets -underBinder
      extract_lets -descend u2 u3
      have k3 : Kept s0 u3 := State.flag_kept (State.putCtx_kept h0)
      clear_value u2 u3
      exact Kept.ite (State.report_kept (State.inc_kept k3)) h0

theorem State.agentRead_kept {s0 a0 : State} {a1 a2 a3} (h0 : Kept s0 a0) : KeptP s0 (State.agentRead a0 a1 a2 a3) := by
  unfold State.agentRead
  lift_lets -underBinder
  extract_lets -descend u0
  have k0 : ∀ (b0 : Nat), Kept s0 (u0 b0) := fun _ => State.finishDesc_kept h0
  clear_value u0
  split
  · exact KeptP.mk h0
  · exact KeptP.mk (State.blocked_kept (k0 _))
  · exact KeptP.mk (State.poisonHit_kept (k0 _))
  · exact KeptP.mk (k0 _)

theorem State.agentTake_kept {s0 a0 : State} {a1 a2 a3} (h0 : Kept s0 a0) : Kept s0 (State.agentTake a0 a1 a2 a3) := by
  unfold State.agentTake
  exact State.modDesc_kept h0

theorem State.takeGen_kept {s0 a0 : State} {a1} (h0 : Kept s0 a0) : Kept s0 (State.takeGen a0 a1) := by
  unfold State.takeGen
  lift_lets -underBinder
  extract_lets -descend u0
  have k0 : Kept s0 u0 := State.bump_kept h0
  clear_value u0
  exact State.put_kept k0

theorem State.startPage_kept {s0 a0 : State} {a1 a2 a3 a4} (h0 : Kept s0 a0) : KeptO s0 (State.startPage a0 a1 a2 a3 a4) := by
  unfold State.startPage
  split
  · exact KeptO.none
  · lift_lets -underBinder
    extract_lets -descend u1
    clear_value u1
    exact KeptO.some (State.showNvm_kept (Kept.upd h0))

theorem State.pgStat_kept {s0 a0 : State} {a1 a2} (h0 : Kept s0 a0) : Kept s0 (State.pgStat a0 a1 a2) := by
  unfold State.pgStat
  exact State.flag_kept (State.put_kept (State.put_kept h0))

theorem State.pgCmd_kept {s0 a0 : State} {a1 a2} (h0 : Kept s0 a0) : Kept s0 (State.pgCmd a0 a1 a2) := by
  unfold State.pgCmd
  lift_lets -underBinder
  extract_lets -descend u0 u1 u2
  have k2 : Kept s0 u2 := State.put_kept (State.put_kept (State.put_kept h0))
  clear_value u0 u1 u2
  refine Kept.ite ?_ ?_
  · exact h0
  · refine Kept.ite ?_ ?_
    · exact State.pgStat_kept k2
    · refine Kept.ite ?_ ?_
      · exact State.blocked_kept (State.pgStat_kept k2)
      · refine Kept.ite ?_ ?_
        · exact State.poisonHit_kept (State.pgStat_kept k2)
        · split
          · rename_i v3_0 e3
            have k3_0 := KeptO.of (State.startPage_kept k2) e3
            exact k3_0
          · exact State.pgStat_kept k2

theorem State.reply_kept {s0 a0 : State} {a1} (h0 : Kept s0 a0) : Kept s0 (State.reply a0 a1) := by
  unfold State.reply
  exact Kept.upd h0

theorem State.reply1_kept {s0 a0 : State} {a1} (h0 : Kept s0 a0) : Kept s0 (State.reply1 a0 a1) := by
  unfold State.reply1
  exact State.reply_kept h0

theorem State.mbxEmptied_kept {s0 a0 : State} {a1 a2} (h0 : Kept s0 a0) : Kept s0 (State.mbxEmptied a0 a1 a2) := by
  unfold State.mbxEmptied
  exact Kept.ite (State.flag_kept h0) h0

theorem State.mbxTaken_kept {s0 a0 : State} {a1 a2 a3} (h0 : Kept s0 a0) : Kept s0 (State.mbxTaken a0 a1 a2 a3) := by
  unfold State.mbxTaken
  lift_lets -underBinder
  extract_lets -descend u0 u1 u2 u3
  have k2 : Kept s0 u2 := State.bellsDown_kept (State.setMbx_kept h0)
  have k3 : Kept s0 u3 := Kept.ite (State.mbxStatus_kept k2) k2
  clear_value u1 u2 u3
  exact State.mbxEmptied_kept k3

theorem State.mbxPop_kept {s0 a0 : State} {a1 a2} (h0 : Kept s0 a0) : KeptP s0 (State.mbxPop a0 a1 a2) := by
  unfold State.mbxPop
  lift_lets -underBinder
  extract_lets -descend u0
  clear_value u0
  split
  · exact KeptP.mk h0
  · exact KeptP.mk h0
  · exact KeptP.mk (State.mbxTaken_kept h0)
  · exact KeptP.mk (State.setMbx_kept h0)

theorem State.commitCopy_kept {s0 a0 : State} {a1 a2 a3} (h0 : Kept s0 a0) : Kept s0 (State.commitCopy a0 a1 a2 a3) := by
  unfold State.commitCopy
  split
  · split
    · exact State.modDesc_kept (State.modDesc_kept h0)
    · exact h0
  · exact h0

theorem State.finishRetest_kept {s0 a0 : State} {a1 a2 a3} (h0 : Kept s0 a0) : Kept s0 (State.finishRetest a0 a1 a2 a3) := by
  unfold State.finishRetest
  lift_lets -underBinder
  extract_lets -descend u0 u1
  have k0 : ∀ (b0 : State) (_ : Kept s0 b0) (b1 : Nat) (b2 : Nat) (b3 : Nat), Kept s0 (u0 b0 b1 b2 b3) := fun _ f1_0 _ _ _
      => State.report_kept f1_0
  have k1 : ∀ (b0 : State) (_ : Kept s0 b0) (b1 : Nat) (b2 : Nat) (b3 : Nat), Kept s0 (u1 b0 b1 b2 b3) := fun _ f2_0 _ _ _
      => State.reportLasting_kept f2_0
  clear_value u0 u1
  exact State.forEach_kept (fun _ _ f2_1 => State.judge_kept k0 k1 f2_1) h0

theorem execNvmPgCmd_kept {s0 : State} {a0 a1 a2} {a3 : State} (h3 : Kept s0 a3) : KeptH s0 (execNvmPgCmd a0 a1 a2 a3) := by
  unfold execNvmPgCmd
  exact KeptH.answer (State.byBay0_kept h3 (fun _ f0_0 => State.pgCmd_kept f0_0))

theorem execNvmPageCommit_kept {s0 : State} {a0 a1 a2} {a3 : State} (h3 : Kept s0 a3) : KeptH s0 (execNvmPageCommit a0 a1
    a2 a3) := by
  unfold execNvmPageCommit
  exact KeptH.answer (by
    split
    · exact h3
    · lift_lets -underBinder
      extract_lets -descend u1 u2 u3 u4 u5
      have k1 : Kept s0 u1 := State.commitPage_kept h3
      have k2 : Kept s0 u2 := Kept.ite (State.pgStat_kept k1) k1
      have k4 : Kept s0 u4 := Kept.upd h3
      have k5 : Kept s0 u5 := State.retirePage_kept (State.reportLasting_kept k4)
      clear_value u1 u2 u3 u4 u5
      refine Kept.ite ?_ ?_
      · exact Kept.ite (State.report_kept k2) k2
      · refine Kept.ite ?_ ?_
        · exact Kept.ite (State.pgStat_kept k5) k5
        · split
          · rename_i v6_0 e6
            have k6_0 := KeptO.of (State.startPage_kept k5) e6
            exact k6_0
          · exact Kept.ite (State.pgStat_kept k5) k5)

theorem State.byMbx_kept {s0 a0 : State} {a1 a2 a3 a4 a5} {a6 : State → State} (h0 : Kept s0 a0) (h6 : ∀ (b0 : State) (_ :
    Kept s0 b0), Kept s0 (a6 b0)) : Kept s0 (State.byMbx a0 a1 a2 a3 a4 a5 a6) := by
  unfold State.byMbx
  exact State.act_kept h0 h6

theorem execTxData_kept {s0 : State} {a0 a1 a2 a3} {a4 : State} (h4 : Kept s0 a4) : KeptH s0 (execTxData a0 a1 a2 a3 a4) := by
  unfold execTxData
  exact KeptH.answer (State.byMbx_kept h4 (fun _ f0_0 => State.mbxPut_kept f0_0))

theorem execRecall_kept {s0 : State} {a0 a1 a2} {a3 : State} (h3 : Kept s0 a3) : KeptH s0 (execRecall a0 a1 a2 a3) := by
  unfold execRecall
  exact KeptH.answer (State.byMbx_kept h3 (fun _ f0_0 => State.mbxRecall_kept f0_0))

theorem execBoundMessageAccept_kept {s0 : State} {a0} {a1 : State} (h1 : Kept s0 a1) : KeptH s0 (execBoundMessageAccept a0
    a1) := by
  unfold execBoundMessageAccept
  lift_lets -underBinder
  extract_lets -descend u0
  clear_value u0
  exact KeptH.answer (Kept.ite (State.mbxTaken_kept h1) h1)

theorem execBoundMessageRefused_kept {s0 : State} {a0 a1} {a2 : State} (h2 : Kept s0 a2) : KeptH s0
    (execBoundMessageRefused a0 a1 a2) := by
  unfold execBoundMessageRefused
  exact KeptH.answer (State.mbxRefused_kept h2)

theorem State.byEnd_kept {s0 a0 : State} {a1 a2 a3 a4} {a5 : State → State} (h0 : Kept s0 a0) (h5 : ∀ (b0 : State) (_ :
    Kept s0 b0), Kept s0 (a5 b0)) : Kept s0 (State.byEnd a0 a1 a2 a3 a4 a5) := by
  unfold State.byEnd
  exact State.act_kept h0 (fun _ f0_0 => Kept.ite (h5 _ f0_0) f0_0)

theorem execQueuePost_kept {s0 : State} {a0 a1 a2 a3} {a4 : State} (h4 : Kept s0 a4) : KeptH s0 (execQueuePost a0 a1 a2 a3
    a4) := by
  unfold execQueuePost
  exact KeptH.answer (State.byEnd_kept h4 (fun _ f0_0 => State.postTo_kept f0_0))

theorem State.sinkTo_kept {s0 a0 : State} {a1 a2 a3 a4 a5} (h0 : Kept s0 a0) : KeptP s0 (State.sinkTo a0 a1 a2 a3 a4 a5) := by
  unfold State.sinkTo
  lift_lets -underBinder
  extract_lets -descend u0
  clear_value u0
  split
  · exact KeptP.ite (KeptP.mk (State.writeBuf_kept h0)) (KeptP.mk h0)
  · lift_lets -underBinder
    extract_lets -descend u2
    clear_value u2
    exact KeptP.mk (State.farWrite_kept (State.modDesc_kept h0))
  · exact KeptP.mk h0

theorem State.agentWrite_kept {s0 a0 : State} {a1 a2 a3 a4 a5} (h0 : Kept s0 a0) : KeptP s0 (State.agentWrite a0 a1 a2 a3
    a4 a5) := by
  unfold State.agentWrite
  split
  · rename_i v0_0 v0_1 e0
    have k0_0 := KeptP.of (State.sinkTo_kept h0) e0
    exact KeptP.mk k0_0
  · rename_i v0_0 v0_1 e0
    have k0_0 := KeptP.of (State.sinkTo_kept h0) e0
    exact KeptP.mk (State.blocked_kept (State.finishDesc_kept k0_0))
  · rename_i v0_0 v0_1 e0
    have k0_0 := KeptP.of (State.sinkTo_kept h0) e0
    exact KeptP.mk (State.finishDesc_kept k0_0)

theorem State.fetch_kept {s0 a0 : State} {a1 a2} (h0 : Kept s0 a0) : Kept s0 (State.fetch a0 a1 a2) := by
  unfold State.fetch
  lift_lets -underBinder
  extract_lets -descend u0 u1 u2 u3 u4
  have k3 : Kept s0 u3 := State.flag_kept (State.flag_kept h0)
  clear_value u0 u1 u2 u3 u4
  refine Kept.ite ?_ ?_
  · exact h0
  · refine Kept.ite ?_ ?_
    · exact k3
    · split
      · exact Kept.ite (State.ringFault_kept k3) (State.fetched_kept (State.poisonHit_kept k3))
      · lift_lets -underBinder
        extract_lets -descend u6
        clear_value u6
        exact State.farRead_kept (State.putEnd_kept k3)
      · exact State.ringLost_kept k3

theorem State.finishCopy_kept {s0 a0 : State} {a1 a2 a3 a4} (h0 : Kept s0 a0) : Kept s0 (State.finishCopy a0 a1 a2 a3 a4) := by
  unfold State.finishCopy
  lift_lets -underBinder
  extract_lets -descend u0
  have k0 : ∀ (b0 : State) (_ : Kept s0 b0) (b1 : Nat) (b2 : Nat) (b3 : Nat), Kept s0 (u0 b0 b1 b2 b3) := fun _ f1_0 _ _ _
      => State.finishDesc_kept (State.finishDesc_kept f1_0)
  clear_value u0
  split
  · exact State.blocked_kept (k0 _ h0 _ _ _)
  · exact State.poisonHit_kept (k0 _ h0 _ _ _)
  · exact k0 _ h0 _ _ _
  · split
    · rename_i v2_0 v2_1 e2
      have k2_0 := KeptP.of (State.sinkTo_kept h0) e2
      exact k0 _ k2_0 _ _ _
    · rename_i v2_0 v2_1 e2
      have k2_0 := KeptP.of (State.sinkTo_kept h0) e2
      exact State.blocked_kept (k0 _ k2_0 _ _ _)
    · rename_i v2_0 v2_1 e2
      have k2_0 := KeptP.of (State.sinkTo_kept h0) e2
      exact k0 _ k2_0 _ _ _

theorem State.complete_kept {s0 a0 : State} {a1 a2} (h0 : Kept s0 a0) : Kept s0 (State.complete a0 a1 a2) := by
  unfold State.complete
  split
  · split
    · exact State.drainEnd_kept h0
    · split
      · exact State.pairAll_kept (Kept.ite (State.finishCopy_kept h0) (State.finishCopy_kept h0))
      · exact h0
    · exact h0
  · exact h0

theorem execDescriptorCompletion_kept {s0 : State} {a0 a1} {a2 : State} (h2 : Kept s0 a2) : KeptH s0
    (execDescriptorCompletion a0 a1 a2) := by
  unfold execDescriptorCompletion
  exact KeptH.answer (State.complete_kept h2)

theorem execCompletionRingWait_kept {s0 : State} {a0 a1} {a2 : State} (h2 : Kept s0 a2) : KeptH s0 (execCompletionRingWait
    a0 a1 a2) := by
  unfold execCompletionRingWait
  lift_lets -underBinder
  extract_lets -descend u0 u1
  clear_value u0 u1
  exact KeptH.answer (Kept.ite (State.report_kept (State.putEnd_kept h2)) h2)

theorem execQueueEn_kept {s0 : State} {a0 a1 a2 a3} {a4 : State} (h4 : Kept s0 a4) : KeptH s0 (execQueueEn a0 a1 a2 a3 a4) := by
  unfold execQueueEn
  exact KeptH.answer (State.byEnd_kept h4 (fun _ f0_0 => State.endEn_kept f0_0))

theorem execQueueAbort_kept {s0 : State} {a0 a1 a2 a3} {a4 : State} (h4 : Kept s0 a4) : KeptH s0 (execQueueAbort a0 a1 a2
    a3 a4) := by
  unfold execQueueAbort
  exact KeptH.answer (State.byEnd_kept h4 (fun _ f0_0 => State.abortIdx_kept f0_0))

theorem State.byOwner_kept {s0 a0 : State} {a1 a2 a3} {a4 : State → State} (h0 : Kept s0 a0) (h4 : ∀ (b0 : State) (_ : Kept
    s0 b0), Kept s0 (a4 b0)) : Kept s0 (State.byOwner a0 a1 a2 a3 a4) := by
  unfold State.byOwner
  exact State.act_kept h0 h4

theorem State.cycleStart_kept {s0 a0 : State} {a1} (h0 : Kept s0 a0) : Kept s0 (State.cycleStart a0 a1) := by
  unfold State.cycleStart
  split
  · exact h0
  · lift_lets -underBinder
    extract_lets -descend u1 u2 u3 u4 u5 u6 u7 u8
    have k5 : Kept s0 u5 := State.setCtx_kept h0
    have k6 : Kept s0 u6 := State.flag_kept (State.put_kept k5)
    have k7 : Kept s0 u7 := Kept.ite (State.bump_kept k6) k6
    have k8 : Kept s0 u8 := State.flag_kept (State.put_kept k7)
    clear_value u1 u2 u3 u4 u5 u6 u7 u8
    exact Kept.ite (State.flag_kept k8) k8

theorem State.missing_kept {s0 a0 : State} {a1 a2 a3} (h0 : Kept s0 a0) : Kept s0 (State.missing a0 a1 a2 a3) := by
  unfold State.missing
  exact State.forEach_kept (fun _ _ f0_1 => (by
    lift_lets -underBinder
    extract_lets -descend u1
    have k1 : Kept s0 u1 := State.inc_kept (State.flag_kept f0_1)
    clear_value u1
    exact Kept.ite f0_1 (State.report_kept k1))) h0

theorem State.judgeEnded_kept {s0 a0 : State} {a1 a2} (h0 : Kept s0 a0) : Kept s0 (State.judgeEnded a0 a1 a2) := by
  unfold State.judgeEnded
  split
  · exact h0
  · lift_lets -underBinder
    extract_lets -descend u1 u2 u3 u4
    have k4 : Kept s0 u4 := State.putCtx_kept h0
    clear_value u1 u2 u3 u4
    exact State.forEach_kept (fun _ _ f5_1 => State.missing_kept f5_1) k4

theorem State.byAlign_kept {s0 a0 : State} {a1 a2 a3} {a4 : State → State} (h0 : Kept s0 a0) (h4 : ∀ (b0 : State) (_ : Kept
    s0 b0), Kept s0 (a4 b0)) : Kept s0 (State.byAlign a0 a1 a2 a3 a4) := by
  unfold State.byAlign
  exact State.byOwner_kept h0 (fun _ f0_0 => (by
    split
    · exact Kept.ite (h4 _ f0_0) f0_0
    · exact h4 _ f0_0))

theorem execTrimReq_kept {s0 : State} {a0 a1 a2} {a3 : State} (h3 : Kept s0 a3) : KeptH s0 (execTrimReq a0 a1 a2 a3) := by
  unfold execTrimReq
  exact KeptH.answer (State.byAlign_kept h3 (fun _ f0_0 => State.trimReq_kept f0_0))

theorem execTrimDone_kept {s0 : State} {a0} {a1 : State} (h1 : Kept s0 a1) : KeptH s0 (execTrimDone a0 a1) := by
  unfold execTrimDone
  exact KeptH.answer (by
    split
    · exact Kept.ite (State.flag_kept (State.setCtx_kept h1)) h1
    · exact h1)

theorem State.byPort_kept {s0 a0 : State} {a1 a2 a3 a4} {a5 : State → State} (h0 : Kept s0 a0) (h5 : ∀ (b0 : State) (_ :
    Kept s0 b0), Kept s0 (a5 b0)) : Kept s0 (State.byPort a0 a1 a2 a3 a4 a5) := by
  unfold State.byPort
  exact State.byOwner_kept h0 (fun _ f0_0 => (by
    split
    · exact Kept.ite (h5 _ f0_0) f0_0
    · exact h5 _ f0_0))

theorem State.heard_kept {s0 a0 : State} {a1 a2 a3 a4} (h0 : Kept s0 a0) : KeptP s0 (State.heard a0 a1 a2 a3 a4) := by
  unfold State.heard
  split
  · exact KeptP.mk h0
  · split
    · lift_lets -underBinder
      extract_lets -descend u2 u3 u4 u5
      have k4 : Kept s0 u4 := State.putCtx_kept h0
      have k5 : Kept s0 u5 := Kept.ite (State.inc_kept k4) k4
      clear_value u2 u3 u4 u5
      exact KeptP.mk (State.judgeEnded_kept k5)
    · split
      · exact KeptP.mk h0
      · lift_lets -underBinder
        extract_lets -descend u3 u4 u5
        have k5 : Kept s0 u5 := State.putCtx_kept h0
        clear_value u3 u4 u5
        exact KeptP.ite (KeptP.mk (State.inc_kept k5)) (KeptP.mk k5)

theorem State.refMessage_kept {s0 a0 : State} {a1 a2 a3} (h0 : Kept s0 a0) : Kept s0 (State.refMessage a0 a1 a2 a3) := by
  unfold State.refMessage
  exact State.forEach_kept (fun _ _ f0_1 => (by
    split
    · exact f0_1
    · lift_lets -underBinder
      extract_lets -descend u2 u3 u4 u5 u6 u7 u8 u9 u10 u11
      have k8 : Kept s0 u8 := State.setCtx_kept f0_1
      have k9 : Kept s0 u9 := State.alignErr_kept (State.putI_kept k8)
      have k10 : Kept s0 u10 := State.setCtx_kept k9
      have k11 : Kept s0 u11 := State.cycleStart_kept k10
      clear_value u2 u3 u4 u5 u6 u7 u8 u9 u10 u11
      refine Kept.ite ?_ ?_
      · refine Kept.ite ?_ ?_
        · exact State.put_kept k9
        · split
          · exact State.put_kept (State.setCtx_kept k11)
          · exact k11
      · exact f0_1)) h0

theorem State.when_kept {s0 a0 : State} {a1} {a2 : State → State} (h0 : Kept s0 a0) (h2 : ∀ (b0 : State) (_ : Kept s0 b0),
    Kept s0 (a2 b0)) : Kept s0 (State.when a0 a1 a2) := by
  unfold State.when
  exact Kept.ite (h2 _ h0) h0

theorem State.setAligned_kept {s0 a0 : State} {a1} (h0 : Kept s0 a0) : Kept s0 (State.setAligned a0 a1) := by
  unfold State.setAligned
  exact Kept.ite h0 (State.flag_kept (State.flag_kept h0))

end Sys2Proof.Machine
end

