-- ==== Sys2Proof/Laws/KeptLinks.lean ====
section
/-! SUPPORT.
Every operation keeps the canonical form, the queue and the flash: ports, the Quadrille, lanes and links. -/

namespace Sys2Proof.Machine

theorem State.bulkNext_kept {s0 a0 : State} (h0 : Kept s0 a0) : Kept s0 (State.bulkNext a0) := by
  unfold State.bulkNext
  split
  · exact h0
  · lift_lets -underBinder
    extract_lets -descend u1 u2
    clear_value u1 u2
    split
    · lift_lets -underBinder
      extract_lets -descend u4 u5
      have k4 : Kept s0 u4 := State.sendLater_kept h0
      have k5 : Kept s0 u5 := State.modVdt_kept k4
      clear_value u4 u5
      exact State.put_kept k5
    · exact State.sendRole_kept (State.modVdt_kept h0)

theorem State.showSeq_kept {s0 a0 : State} (h0 : Kept s0 a0) : Kept s0 (State.showSeq a0) := by
  unfold State.showSeq
  exact State.put_kept (State.put_kept h0)

theorem State.laneKick_kept {s0 a0 : State} {a1} (h0 : Kept s0 a0) : Kept s0 (State.laneKick a0 a1) := by
  unfold State.laneKick
  lift_lets -underBinder
  extract_lets -descend u0
  clear_value u0
  refine Kept.ite ?_ ?_
  · exact h0
  · split
    · exact State.modLane_kept h0
    · lift_lets -underBinder
      extract_lets -descend u2 u3 u4 u5 u6 u7
      have k3 : Kept s0 u3 := Kept.ite (State.bulkNext_kept h0) h0
      clear_value u2 u3 u4 u5 u6 u7
      refine Kept.ite ?_ ?_
      · exact State.modLane_kept k3
      · split
        · exact k3
        · lift_lets -underBinder
          extract_lets -descend u9 u10 u11
          have k10 : Kept s0 u10 := State.modHop_kept k3
          have k11 : Kept s0 u11 := State.forEach_kept (fun _ _ f12_1 => State.modLane_kept f12_1) k10
          clear_value u9 u10 u11
          exact State.showSeq_kept (State.modLane_kept k11)

theorem State.hopKick_kept {s0 a0 : State} {a1} (h0 : Kept s0 a0) : Kept s0 (State.hopKick a0 a1) := by
  unfold State.hopKick
  exact State.forEach_kept (fun _ _ f0_1 => State.laneKick_kept f0_1) h0

theorem State.trsIssue_kept {s0 a0 : State} {a1 a2 a3 a4 a5} (h0 : Kept s0 a0) : Kept s0 (State.trsIssue a0 a1 a2 a3 a4 a5)
    := by
  unfold State.trsIssue
  lift_lets -underBinder
  extract_lets -descend u0 u1 u2
  have k2 : Kept s0 u2 := State.modTrs_kept h0
  clear_value u0 u1 u2
  split
  · exact State.hopKick_kept (State.modHop_kept k2)
  · exact k2

theorem State.trsNext_kept {s0 a0 : State} {a1} (h0 : Kept s0 a0) : Kept s0 (State.trsNext a0 a1) := by
  unfold State.trsNext
  split
  · exact Kept.ite h0 (State.trsIssue_kept (State.modTrs_kept h0))
  · exact h0

theorem State.trsLost_kept {s0 a0 : State} {a1} (h0 : Kept s0 a0) : Kept s0 (State.trsLost a0 a1) := by
  unfold State.trsLost
  exact State.mbxRefused_kept (State.inc_kept h0)

theorem State.sendOn_kept {s0 a0 : State} {a1 a2} (h0 : Kept s0 a0) : Kept s0 (State.sendOn a0 a1 a2) := by
  unfold State.sendOn
  exact State.hopKick_kept (State.sendLater_kept h0)

theorem State.trsSend_kept {s0 a0 : State} {a1 a2} (h0 : Kept s0 a0) : Kept s0 (State.trsSend a0 a1 a2) := by
  unfold State.trsSend
  split
  · exact State.sendOn_kept h0
  · exact h0

theorem State.trsRequest_kept {s0 a0 : State} {a1 a2 a3 a4 a5} (h0 : Kept s0 a0) : Kept s0 (State.trsRequest a0 a1 a2 a3 a4
    a5) := by
  unfold State.trsRequest
  exact Kept.ite (State.modTrs_kept h0) (State.trsIssue_kept h0)

theorem State.trsBound_kept {s0 a0 : State} (h0 : Kept s0 a0) : Kept s0 (State.trsBound a0) := by
  unfold State.trsBound
  exact State.forEach_kept (fun _ _ f0_1 => (by
    lift_lets -underBinder
    extract_lets -descend u1 u2 u3 u4 u5 u6 u7
    have k6 : Kept s0 u6 := Kept.same f0_1 rfl
    have k7 : Kept s0 u7 := Kept.ite (State.forEach_kept (fun _ _ f8_1 => State.trsRequest_kept f8_1) k6) k6
    clear_value u1 u2 u3 u4 u5 u6 u7
    refine Kept.ite ?_ ?_
    · exact f0_1
    · split
      · lift_lets -underBinder
        extract_lets -descend u9
        have k9 : Kept s0 u9 := State.putMbx_kept k7
        clear_value u9
        exact Kept.ite k7 (Kept.ite (State.trsRequest_kept k9) (State.trsLost_kept k9))
      · exact k7)) h0

theorem State.vdtBound_kept {s0 a0 : State} (h0 : Kept s0 a0) : Kept s0 (State.vdtBound a0) := by
  unfold State.vdtBound
  exact State.forEach_kept (fun _ _ f0_1 => (by
    lift_lets -underBinder
    extract_lets -descend u1 u2 u3 u4 u5 u6
    have k5 : Kept s0 u5 := Kept.same f0_1 rfl
    have k6 : Kept s0 u6 := State.forEach_kept (fun _ _ f7_1 => State.sendOn_kept f7_1) k5
    clear_value u1 u2 u3 u4 u5 u6
    refine Kept.ite ?_ ?_
    · exact f0_1
    · split
      · exact Kept.ite k6 (State.sendOn_kept (State.putMbx_kept k6))
      · exact k6)) h0

theorem State.linksBound_kept {s0 a0 : State} (h0 : Kept s0 a0) : Kept s0 (State.linksBound a0) := by
  unfold State.linksBound
  exact State.trsBound_kept (State.vdtBound_kept h0)

theorem State.modEth_kept {s0 a0 : State} {a1} {a2 : EthPort → EthPort} (h0 : Kept s0 a0) : Kept s0 (State.modEth a0 a1 a2)
    := by
  unfold State.modEth
  exact Kept.upd h0

theorem State.ethCredits_kept {s0 a0 : State} {a1} (h0 : Kept s0 a0) : Kept s0 (State.ethCredits a0 a1) := by
  unfold State.ethCredits
  lift_lets -underBinder
  extract_lets -descend u0 u1 u2 u3
  have k3 : Kept s0 u3 := State.modEth_kept h0
  clear_value u0 u1 u2 u3
  exact State.forEach_kept (fun _ _ f4_1 => State.putI_kept f4_1) k3

theorem State.pairEnd_kept {s0 a0 : State} {a1 a2 a3 a4} (h0 : Kept s0 a0) : Kept s0 (State.pairEnd a0 a1 a2 a3 a4) := by
  unfold State.pairEnd
  split
  · exact h0
  · lift_lets -underBinder
    extract_lets -descend u1 u2 u3 u4 u5 u6 u7 u8 u9 u10 u11 u12
    have k8 : Kept s0 u8 := State.modEth_kept h0
    clear_value u1 u2 u3 u4 u5 u6 u7 u8 u9 u10 u11 u12
    exact Kept.ite (Kept.ite (State.finishDesc_kept k8) (State.finishDesc_kept k8)) k8

theorem State.ethPrune_kept {s0 a0 : State} {a1} (h0 : Kept s0 a0) : Kept s0 (State.ethPrune a0 a1) := by
  unfold State.ethPrune
  lift_lets -underBinder
  extract_lets -descend u0
  have k0 : Kept s0 u0 := State.modEth_kept h0
  clear_value u0
  exact State.forEach_kept (fun _ _ f1_1 => State.put_kept f1_1) k0

theorem State.ethEnd_kept {s0 a0 : State} {a1 a2 a3 a4 a5} (h0 : Kept s0 a0) : Kept s0 (State.ethEnd a0 a1 a2 a3 a4 a5) := by
  unfold State.ethEnd
  lift_lets -underBinder
  extract_lets -descend u0 u1 u2 u3
  have k0 : Kept s0 u0 := State.modEth_kept h0
  have k1 : Kept s0 u1 := Kept.ite (State.addSat_kept (State.inc_kept k0)) (State.inc_kept k0)
  have k3 : Kept s0 u3 := (by
    unfold u3
    refine Kept.ite ?_ ?_
    · exact k1
    · refine Kept.ite ?_ ?_
      · exact State.pairEnd_kept k1
      · split
        · exact k1
        · exact Kept.ite (State.finishDesc_kept k1) (Kept.ite (State.finishDesc_kept k1) (State.finishDesc_kept k1)))
  clear_value u0 u1 u2 u3
  exact State.ethPrune_kept k3

theorem State.ethHeads_kept {s0 a0 : State} {a1} (h0 : Kept s0 a0) : Kept s0 (State.ethHeads a0 a1) := by
  unfold State.ethHeads
  exact State.forEach_kept (fun _ _ f0_1 => (by
    split
    · exact Kept.ite (State.ethEnd_kept f0_1) f0_1
    · exact f0_1)) h0

theorem State.ethLink_kept {s0 a0 : State} {a1 a2 a3} (h0 : Kept s0 a0) : Kept s0 (State.ethLink a0 a1 a2 a3) := by
  unfold State.ethLink
  lift_lets -underBinder
  extract_lets -descend u0 u1 u2 u3 u4
  have k3 : Kept s0 u3 := State.ethCredits_kept h0
  have k4 : Kept s0 u4 := State.flag_kept (State.flag_kept k3)
  clear_value u0 u1 u2 u3 u4
  refine Kept.ite ?_ ?_
  · exact h0
  · refine Kept.ite ?_ ?_
    · exact State.ethHeads_kept (State.put_kept k4)
    · split
      · exact State.ethEnd_kept k4
      · exact k4

theorem State.trsAll_kept {s0 a0 : State} {a1 a2} (h0 : Kept s0 a0) : Kept s0 (State.trsAll a0 a1 a2) := by
  unfold State.trsAll
  exact State.forEach_kept (fun _ _ f0_1 => State.sendOn_kept f0_1) h0

theorem State.resetEth_kept {s0 a0 : State} {a1} (h0 : Kept s0 a0) : Kept s0 (State.resetEth a0 a1) := by
  unfold State.resetEth
  lift_lets -underBinder
  extract_lets -descend u0 u1 u2 u3
  have k2 : Kept s0 u2 := State.forEach_kept (fun _ _ f3_1 => (by
    lift_lets -underBinder
    extract_lets -descend u4
    clear_value u4
    refine Kept.ite ?_ ?_
    · exact f3_1
    · split
      · exact Kept.ite (State.finishDesc_kept f3_1) (State.finishDesc_kept f3_1)
      · exact f3_1)) h0
  have k3 : Kept s0 u3 := State.resetRegs_kept (State.modEth_kept k2)
  clear_value u0 u1 u2 u3
  exact State.flag_kept (State.flag_kept k3)

theorem State.modCan_kept {s0 a0 : State} {a1} {a2 : CanPort → CanPort} (h0 : Kept s0 a0) : Kept s0 (State.modCan a0 a1 a2)
    := by
  unfold State.modCan
  exact Kept.upd h0

theorem State.canFinal_kept {s0 a0 : State} {a1 a2 a3 a4 a5 a6} (h0 : Kept s0 a0) : Kept s0 (State.canFinal a0 a1 a2 a3 a4
    a5 a6) := by
  unfold State.canFinal
  lift_lets -underBinder
  extract_lets -descend u0 u1 u2 u3 u4 u5
  have k0 : Kept s0 u0 := State.clrB_kept (State.clrB_kept h0)
  have k1 : Kept s0 u1 := State.put_kept (State.put_kept k0)
  have k2 : Kept s0 u2 := State.setB_kept k1
  have k3 : Kept s0 u3 := Kept.ite (State.flag_kept k2) k2
  have k4 : Kept s0 u4 := Kept.ite (State.report_kept k3) k3
  have k5 : Kept s0 u5 := State.modCan_kept k4
  clear_value u0 u1 u2 u3 u4 u5
  split
  · exact k5
  · lift_lets -underBinder
    extract_lets -descend u7 u8
    have k8 : Kept s0 u8 := State.flag_kept (State.modCan_kept k5)
    clear_value u7 u8
    split
    · exact k8
    · lift_lets -underBinder
      extract_lets -descend u10 u11
      clear_value u10 u11
      exact Kept.ite (State.finishDesc_kept k8) (Kept.ite (State.finishDesc_kept k8) (State.finishDesc_kept k8))

theorem State.resetCan_kept {s0 a0 : State} {a1} (h0 : Kept s0 a0) : Kept s0 (State.resetCan a0 a1) := by
  unfold State.resetCan
  lift_lets -underBinder
  extract_lets -descend u0 u1 u2
  have k1 : Kept s0 u1 := State.forEach_kept (fun _ _ f2_1 => Kept.ite (State.canFinal_kept f2_1) (State.canFinal_kept f2_1)) h0
  have k2 : Kept s0 u2 := State.resetRegs_kept (State.modCan_kept k1)
  clear_value u0 u1 u2
  exact State.flag_kept k2

theorem State.modSer_kept {s0 a0 : State} {a1} {a2 : SerPort → SerPort} (h0 : Kept s0 a0) : Kept s0 (State.modSer a0 a1 a2)
    := by
  unfold State.modSer
  exact Kept.upd h0

theorem State.resetSer_kept {s0 a0 : State} {a1} (h0 : Kept s0 a0) : Kept s0 (State.resetSer a0 a1) := by
  unfold State.resetSer
  lift_lets -underBinder
  extract_lets -descend u0 u1 u2 u3
  have k2 : Kept s0 u2 := Kept.ite (State.forEach_kept (fun _ _ f3_1 => Kept.ite (State.finishDesc_kept f3_1)
      (State.finishDesc_kept f3_1)) h0) h0
  have k3 : Kept s0 u3 := State.resetRegs_kept (State.modSer_kept k2)
  clear_value u0 u1 u2 u3
  exact State.flag_kept k3

theorem State.resetQdr_kept {s0 a0 : State} {a1} (h0 : Kept s0 a0) : Kept s0 (State.resetQdr a0 a1) := by
  unfold State.resetQdr
  lift_lets -underBinder
  extract_lets -descend u0
  have k0 : Kept s0 u0 := State.putWord_kept (State.putWord_kept h0)
  clear_value u0
  exact State.putWord_kept (State.putWord_kept k0)

theorem State.ethEn_kept {s0 a0 : State} {a1 a2} (h0 : Kept s0 a0) : Kept s0 (State.ethEn a0 a1 a2) := by
  unfold State.ethEn
  lift_lets -underBinder
  extract_lets -descend u0 u1 u2
  have k0 : Kept s0 u0 := State.ethPrune_kept h0
  have k1 : Kept s0 u1 := State.forEach_kept (fun _ _ f2_1 => (by
    lift_lets -underBinder
    extract_lets -descend u3 u4 u5
    have k3 : Kept s0 u3 := State.modEth_kept f2_1
    clear_value u3 u4 u5
    refine Kept.ite ?_ ?_
    · exact k3
    · split
      · exact Kept.ite (State.finishDesc_kept k3) k3
      · exact Kept.ite k3 (State.pairEnd_kept k3))) k0
  have k2 : Kept s0 u2 := State.ethPrune_kept (State.flag_kept k1)
  clear_value u0 u1 u2
  exact Kept.ite h0 (Kept.ite (State.flag_kept h0) (Kept.ite (State.flag_kept (State.flag_kept k2)) k2))

theorem State.mdioGo_kept {s0 a0 : State} {a1 a2 a3 a4 a5} (h0 : Kept s0 a0) : Kept s0 (State.mdioGo a0 a1 a2 a3 a4 a5) := by
  unfold State.mdioGo
  lift_lets -underBinder
  extract_lets -descend u0
  have k0 : Kept s0 u0 := State.put_kept (State.put_kept (State.put_kept (State.put_kept h0)))
  clear_value u0
  exact Kept.ite k0 (State.flag_kept (State.modEth_kept k0))

theorem State.canEn_kept {s0 a0 : State} {a1 a2} (h0 : Kept s0 a0) : Kept s0 (State.canEn a0 a1 a2) := by
  unfold State.canEn
  lift_lets -underBinder
  extract_lets -descend u0 u1 u2
  have k1 : Kept s0 u1 := State.flag_kept (State.flag_kept h0)
  have k2 : Kept s0 u2 := State.flag_kept h0
  clear_value u0 u1 u2
  exact Kept.ite h0 (Kept.ite (Kept.ite (State.flag_kept (State.flag_kept h0)) (Kept.ite h0 (State.forEach_kept (fun _ _
      f3_1 => State.modCan_kept f3_1) k1))) (State.forEach_kept (fun _ _ f3_1 => (by
    lift_lets -underBinder
    extract_lets -descend u4
    have k4 : Kept s0 u4 := State.modCan_kept f3_1
    clear_value u4
    exact Kept.ite k4 (State.flag_kept (State.put_kept k4)))) k2))

theorem State.canRecover_kept {s0 a0 : State} {a1} (h0 : Kept s0 a0) : Kept s0 (State.canRecover a0 a1) := by
  unfold State.canRecover
  exact Kept.ite (State.flag_kept (State.flag_kept h0)) h0

theorem State.canRecoverReq_kept {s0 a0 : State} {a1} (h0 : Kept s0 a0) : Kept s0 (State.canRecoverReq a0 a1) := by
  unfold State.canRecoverReq
  exact Kept.ite h0 (Kept.ite (State.canRecover_kept h0) (State.flag_kept (State.modCan_kept h0)))

theorem State.canTscLatch_kept {s0 a0 : State} {a1} (h0 : Kept s0 a0) : Kept s0 (State.canTscLatch a0 a1) := by
  unfold State.canTscLatch
  exact State.put_kept (State.put_kept (State.put_kept h0))

theorem State.canRxfPop_kept {s0 a0 : State} {a1} (h0 : Kept s0 a0) : Kept s0 (State.canRxfPop a0 a1) := by
  unfold State.canRxfPop
  lift_lets -underBinder
  extract_lets -descend u0
  clear_value u0
  exact Kept.ite h0 (State.put_kept (State.put_kept h0))

theorem State.canRequest_kept {s0 a0 : State} {a1 a2} (h0 : Kept s0 a0) : Kept s0 (State.canRequest a0 a1 a2) := by
  unfold State.canRequest
  lift_lets -underBinder
  extract_lets -descend u0 u1 u2 u3 u4 u5 u6 u7 u8
  have k3 : Kept s0 u3 := State.put_kept (State.put_kept (State.put_kept h0))
  have k5 : Kept s0 u5 := State.setB_kept k3
  have k7 : Kept s0 u7 := State.modCan_kept k5
  have k8 : Kept s0 u8 := (by
    unfold u8
    split
    · lift_lets -underBinder
      extract_lets -descend u10
      clear_value u10
      exact State.putCtx_kept k7
    · exact k7)
  clear_value u0 u1 u2 u3 u4 u5 u6 u7 u8
  exact Kept.ite h0 (Kept.ite (State.canFinal_kept k3) (Kept.ite (State.canFinal_kept k3) (Kept.ite (State.canFinal_kept
      k3) (State.readyIn_kept k8))))

theorem State.canTxreq_kept {s0 a0 : State} {a1 a2} (h0 : Kept s0 a0) : Kept s0 (State.canTxreq a0 a1 a2) := by
  unfold State.canTxreq
  exact State.forEach_kept (fun _ _ f0_1 => State.canRequest_kept f0_1) h0

theorem State.canAbort_kept {s0 a0 : State} {a1 a2} (h0 : Kept s0 a0) : Kept s0 (State.canAbort a0 a1 a2) := by
  unfold State.canAbort
  exact Kept.ite h0 (Kept.ite (State.setB_kept h0) (State.canFinal_kept h0))

theorem State.canTxabort_kept {s0 a0 : State} {a1 a2} (h0 : Kept s0 a0) : Kept s0 (State.canTxabort a0 a1 a2) := by
  unfold State.canTxabort
  exact State.forEach_kept (fun _ _ f0_1 => State.canAbort_kept f0_1) h0

theorem State.canPrune_kept {s0 a0 : State} {a1} (h0 : Kept s0 a0) : Kept s0 (State.canPrune a0 a1) := by
  unfold State.canPrune
  lift_lets -underBinder
  extract_lets -descend u0
  clear_value u0
  exact State.forEach_kept (fun _ _ f1_1 => (by
    split
    · exact Kept.ite (State.canAbort_kept f1_1) (Kept.ite (State.setB_kept f1_1) f1_1)
    · exact State.canAbort_kept f1_1)) h0

theorem State.canFill_kept {s0 a0 : State} {a1 a2 a3} (h0 : Kept s0 a0) : Kept s0 (State.canFill a0 a1 a2 a3) := by
  unfold State.canFill
  lift_lets -underBinder
  extract_lets -descend u0
  have k0 : Kept s0 u0 := State.put_kept (State.put_kept h0)
  clear_value u0
  exact State.forEach_kept (fun _ _ f1_1 => State.put_kept f1_1) k0

theorem State.canFeed_kept {s0 a0 : State} {a1} (h0 : Kept s0 a0) : Kept s0 (State.canFeed a0 a1) := by
  unfold State.canFeed
  lift_lets -underBinder
  extract_lets -descend u0 u1
  have k0 : Kept s0 u0 := State.canPrune_kept h0
  clear_value u0 u1
  exact Kept.ite k0 (foldl_kept k0 (fun _ f2_0 _ => (by
    split
    · refine Kept.ite ?_ ?_
      · exact f2_0
      · split
        · rename_i v4_0 e4
          have k4_0 := KeptP.of (State.agentRead_kept f2_0) e4
          exact k4_0
        · rename_i v4_0 v4_1 e4
          have k4_0 := KeptP.of (State.agentRead_kept f2_0) e4
          lift_lets -underBinder
          extract_lets -descend u5 u6
          have k5 : Kept s0 u5 := State.canFill_kept (State.agentTake_kept k4_0)
          have k6 : Kept s0 u6 := State.modCan_kept k5
          clear_value u5 u6
          exact Kept.ite (State.report_kept (State.finishDesc_kept k4_0)) (State.canRequest_kept (State.flag_kept k6))
    · exact f2_0)))

theorem State.showSer_kept {s0 a0 : State} {a1} (h0 : Kept s0 a0) : Kept s0 (State.showSer a0 a1) := by
  unfold State.showSer
  lift_lets -underBinder
  extract_lets -descend u0 u1 u2
  have k1 : Kept s0 u1 := State.put_kept (State.put_kept h0)
  have k2 : Kept s0 u2 := State.flag_kept k1
  clear_value u0 u1 u2
  split
  · exact State.put_kept (State.putWord_kept k2)
  · exact State.put_kept (State.putWord_kept k2)

theorem State.serKick_kept {s0 a0 : State} {a1} (h0 : Kept s0 a0) : Kept s0 (State.serKick a0 a1) := by
  unfold State.serKick
  lift_lets -underBinder
  extract_lets -descend u0 u1 u2
  have k2 : ∀ (b0 : State) (_ : Kept s0 b0), Kept s0 (u2 b0) := fun _ f3_0 => (by
    unfold u2
    lift_lets -underBinder
    extract_lets -descend u4
    have k4 : Kept s0 u4 := State.modSer_kept f3_0
    clear_value u4
    exact State.showSer_kept (Kept.ite (State.flag_kept k4) k4))
  clear_value u0 u1 u2
  refine Kept.ite ?_ ?_
  · exact h0
  · refine Kept.ite ?_ ?_
    · split
      · exact State.modSer_kept h0
      · lift_lets -underBinder
        extract_lets -descend u4
        have k4 : Kept s0 u4 := State.modDesc_kept (State.agentTake_kept h0)
        clear_value u4
        exact k2 _ (by
          split
          · exact k4
          · exact State.modSer_kept k4)
    · exact Kept.ite h0 (k2 _ h0)

theorem State.serTx_kept {s0 a0 : State} {a1 a2} (h0 : Kept s0 a0) : Kept s0 (State.serTx a0 a1 a2) := by
  unfold State.serTx
  exact Kept.ite h0 (State.serKick_kept (State.showSer_kept (State.modSer_kept h0)))

theorem State.selfFault_kept {s0 a0 : State} (h0 : Kept s0 a0) : Kept s0 (State.selfFault a0) := by
  unfold State.selfFault
  exact State.flag_kept (State.flag_kept h0)

theorem State.handover_kept {s0 a0 : State} {a1} (h0 : Kept s0 a0) : Kept s0 (State.handover a0 a1) := by
  unfold State.handover
  exact Kept.ite (State.hopKick_kept (State.yieldBay_kept h0)) (State.flag_kept h0)

theorem State.claimBay_kept {s0 a0 : State} {a1} (h0 : Kept s0 a0) : Kept s0 (State.claimBay a0 a1) := by
  unfold State.claimBay
  exact State.hopKick_kept (State.sendRole_kept (State.setRole_kept (State.takeGen_kept h0)))

theorem execBlockLockLoss_kept {s0 : State} {a0} {a1 : State} (h1 : Kept s0 a1) : KeptH s0 (execBlockLockLoss a0 a1) := by
  unfold execBlockLockLoss
  exact KeptH.answer (Kept.ite (State.report_kept (State.ethLink_kept h1)) h1)

theorem State.serDeFault_kept {s0 a0 : State} {a1} (h0 : Kept s0 a0) : Kept s0 (State.serDeFault a0 a1) := by
  unfold State.serDeFault
  lift_lets -underBinder
  extract_lets -descend u0 u1
  have k1 : Kept s0 u1 := State.modSer_kept h0
  clear_value u0 u1
  exact Kept.ite h0 (State.forEach_kept (fun _ _ f2_1 => State.finishDesc_kept f2_1) k1)

theorem State.boundDeliver_kept {s0 a0 : State} {a1 a2} (h0 : Kept s0 a0) : KeptO s0 (State.boundDeliver a0 a1 a2) := by
  unfold State.boundDeliver
  lift_lets -underBinder
  extract_lets -descend u0
  clear_value u0
  exact KeptO.ite (KeptO.some (State.setMbx_kept h0)) KeptO.none

theorem State.trsAnswer_kept {s0 a0 : State} {a1 a2 a3 a4} (h0 : Kept s0 a0) : Kept s0 (State.trsAnswer a0 a1 a2 a3 a4) := by
  unfold State.trsAnswer
  exact State.trsSend_kept h0

theorem State.trsHeld_kept {s0 a0 : State} (h0 : Kept s0 a0) : Kept s0 (State.trsHeld a0) := by
  unfold State.trsHeld
  exact State.forEach_kept (fun _ _ f0_1 => (by
    split
    · exact f0_1
    · rename_i v1_0 e1
      have k1_0 := KeptO.of (State.boundDeliver_kept f0_1) e1
      lift_lets -underBinder
      extract_lets -descend u2 u3 u4
      have k2 : Kept s0 u2 := State.modVdt_kept k1_0
      have k4 : Kept s0 u4 := Kept.ite k2 (State.flag_kept (State.modVdt_kept k2))
      clear_value u2 u3 u4
      exact State.trsAnswer_kept k4)) h0

theorem State.sendMrsp_kept {s0 a0 : State} {a1 a2 a3} (h0 : Kept s0 a0) : Kept s0 (State.sendMrsp a0 a1 a2 a3) := by
  unfold State.sendMrsp
  exact State.sendOn_kept h0

theorem State.vdtHeld_kept {s0 a0 : State} (h0 : Kept s0 a0) : Kept s0 (State.vdtHeld a0) := by
  unfold State.vdtHeld
  exact State.forEach_kept (fun _ _ f0_1 => (by
    split
    · exact f0_1
    · rename_i v1_0 e1
      have k1_0 := KeptO.of (State.boundDeliver_kept f0_1) e1
      lift_lets -underBinder
      extract_lets -descend u2 u3 u4
      have k2 : Kept s0 u2 := State.modVdt_kept k1_0
      have k4 : Kept s0 u4 := Kept.ite k2 (State.flag_kept (State.modVdt_kept k2))
      clear_value u2 u3 u4
      exact State.sendMrsp_kept k4)) h0

theorem State.linksHeld_kept {s0 a0 : State} (h0 : Kept s0 a0) : Kept s0 (State.linksHeld a0) := by
  unfold State.linksHeld
  exact State.trsHeld_kept (State.vdtHeld_kept h0)

theorem State.mbxRead_kept {s0 a0 : State} {a1 a2} (h0 : Kept s0 a0) : Kept s0 (State.mbxRead a0 a1 a2) := by
  unfold State.mbxRead
  refine Kept.ite ?_ ?_
  · exact State.reply1_kept h0
  · split
    · rename_i v0_0 v0_1 e0
      have k0_0 := KeptP.of (State.mbxPop_kept h0) e0
      exact State.reply_kept (State.linksHeld_kept k0_0)

theorem State.showPtp_kept {s0 a0 : State} {a1} (h0 : Kept s0 a0) : Kept s0 (State.showPtp a0 a1) := by
  unfold State.showPtp
  lift_lets -underBinder
  extract_lets -descend u0 u1 u2
  have k1 : Kept s0 u1 := State.flag_kept (State.put_kept h0)
  clear_value u0 u1 u2
  exact State.put_kept (State.put_kept (State.put_kept (State.put_kept (State.put_kept k1))))

theorem State.canVerdict_kept {s0 a0 : State} {a1 a2} (h0 : Kept s0 a0) : Kept s0 (State.canVerdict a0 a1 a2) := by
  unfold State.canVerdict
  lift_lets -underBinder
  extract_lets -descend u0
  have k0 : Kept s0 u0 := State.modCan_kept h0
  clear_value u0
  exact Kept.ite h0 (Kept.ite (State.canRecover_kept k0) k0)

theorem execTxLast_kept {s0 : State} {a0 a1 a2 a3} {a4 : State} (h4 : Kept s0 a4) : KeptH s0 (execTxLast a0 a1 a2 a3 a4) := by
  unfold execTxLast
  exact KeptH.answer (State.byMbx_kept h4 (fun _ f0_0 => State.linksBound_kept (State.mbxPut_kept f0_0)))

theorem execMbxDb_kept {s0 : State} {a0 a1 a2} {a3 : State} (h3 : Kept s0 a3) : KeptH s0 (execMbxDb a0 a1 a2 a3) := by
  unfold execMbxDb
  exact KeptH.answer (State.byMbx_kept h3 (fun _ f0_0 => State.linksBound_kept (State.mbxBell_kept f0_0)))

theorem execRxData_kept {s0 : State} {a0 a1 a2} {a3 : State} (h3 : Kept s0 a3) : KeptH s0 (execRxData a0 a1 a2 a3) := by
  unfold execRxData
  exact KeptH.answer (State.byMbx_kept (State.reply1_kept h3) (fun _ f0_0 => State.mbxRead_kept f0_0))

theorem State.serRxEnd_kept {s0 a0 : State} {a1 a2 a3} (h0 : Kept s0 a0) : Kept s0 (State.serRxEnd a0 a1 a2 a3) := by
  unfold State.serRxEnd
  lift_lets -underBinder
  extract_lets -descend u0 u1
  clear_value u0 u1
  exact State.finishDesc_kept (State.modSer_kept h0)

theorem State.serMove_kept {s0 a0 : State} {a1} (h0 : Kept s0 a0) : Kept s0 (State.serMove a0 a1) := by
  unfold State.serMove
  lift_lets -underBinder
  extract_lets -descend u0 u1
  clear_value u0 u1
  split
  · exact h0
  · refine Kept.ite ?_ ?_
    · exact State.serRxEnd_kept (State.modSer_kept h0)
    · split
      · exact h0
      · lift_lets -underBinder
        extract_lets -descend u4 u5 u6
        clear_value u4 u5 u6
        split
        · rename_i v7_0 e7
          have k7_0 := KeptP.of (State.agentWrite_kept h0) e7
          exact State.modSer_kept k7_0
        · rename_i v7_0 e7
          have k7_0 := KeptP.of (State.agentWrite_kept h0) e7
          lift_lets -underBinder
          extract_lets -descend u8 u9
          have k8 : Kept s0 u8 := State.modSer_kept k7_0
          have k9 : Kept s0 u9 := State.serRxEnd_kept k8
          clear_value u8 u9
          exact Kept.ite (Kept.ite (State.modSer_kept k9) k9) (Kept.ite (State.serRxEnd_kept k8) k8)

theorem State.serDrain_kept {s0 a0 : State} {a1} (h0 : Kept s0 a0) : Kept s0 (State.serDrain a0 a1) := by
  unfold State.serDrain
  exact Kept.ite (State.showSer_kept (foldl_kept h0 (fun _ f0_0 _ => State.serMove_kept f0_0))) h0

theorem State.agentsKick_kept {s0 a0 : State} {a1 a2} (h0 : Kept s0 a0) : Kept s0 (State.agentsKick a0 a1 a2) := by
  unfold State.agentsKick
  lift_lets -underBinder
  extract_lets -descend u0 u1
  have k0 : Kept s0 u0 := State.forEach_kept (fun _ _ f1_1 => State.serKick_kept f1_1) h0
  have k1 : Kept s0 u1 := State.forEach_kept (fun _ _ f2_1 => State.serDrain_kept f2_1) k0
  clear_value u0 u1
  exact State.forEach_kept (fun _ _ f2_1 => State.canFeed_kept f2_1) k1

theorem execDescriptorFetch_kept {s0 : State} {a0 a1} {a2 : State} (h2 : Kept s0 a2) : KeptH s0 (execDescriptorFetch a0 a1
    a2) := by
  unfold execDescriptorFetch
  exact KeptH.answer (State.agentsKick_kept (State.fetch_kept h2))

theorem State.canCycle_kept {s0 a0 : State} {a1} (h0 : Kept s0 a0) : Kept s0 (State.canCycle a0 a1) := by
  unfold State.canCycle
  lift_lets -underBinder
  extract_lets -descend u0 u1
  have k0 : Kept s0 u0 := State.inc_kept h0
  clear_value u0 u1
  exact Kept.ite h0 (Kept.ite (State.modCan_kept h0) (Kept.ite (State.report_kept (State.flag_kept k0)) k0))

theorem execCycleStart_kept {s0 : State} {a0} {a1 : State} (h1 : Kept s0 a1) : KeptH s0 (execCycleStart a0 a1) := by
  unfold execCycleStart
  exact KeptH.answer (by
    split
    · exact h1
    · lift_lets -underBinder
      extract_lets -descend u1
      have k1 : Kept s0 u1 := State.cycleStart_kept h1
      clear_value u1
      exact Kept.ite (State.canCycle_kept k1) k1)

theorem State.copyFail_kept {s0 a0 : State} {a1 a2 a3 a4} (h0 : Kept s0 a0) : Kept s0 (State.copyFail a0 a1 a2 a3 a4) := by
  unfold State.copyFail
  lift_lets -underBinder
  extract_lets -descend u0 u1 u2
  have k0 : Kept s0 u0 := State.modCan_kept h0
  clear_value u0 u1 u2
  exact Kept.ite (State.canFinal_kept k0) k0

theorem State.canFail_kept {s0 a0 : State} {a1 a2 a3} (h0 : Kept s0 a0) : Kept s0 (State.canFail a0 a1 a2 a3) := by
  unfold State.canFail
  lift_lets -underBinder
  extract_lets -descend u0
  clear_value u0
  exact Kept.ite (State.copyFail_kept h0) (State.canFinal_kept h0)

theorem State.canDrive_kept {s0 a0 : State} {a1 a2 a3 a4} (h0 : Kept s0 a0) : Kept s0 (State.canDrive a0 a1 a2 a3 a4) := by
  unfold State.canDrive
  lift_lets -underBinder
  extract_lets -descend u0 u1
  have k0 : Kept s0 u0 := State.modCan_kept h0
  have k1 : Kept s0 u1 := State.modCan_kept k0
  clear_value u0 u1
  split
  · exact k1
  · exact State.modDesc_kept k1

theorem State.canExclusive_kept {s0 a0 : State} {a1 a2 a3 a4 a5} (h0 : Kept s0 a0) : Kept s0 (State.canExclusive a0 a1 a2
    a3 a4 a5) := by
  unfold State.canExclusive
  lift_lets -underBinder
  extract_lets -descend u0
  clear_value u0
  exact Kept.ite h0 (Kept.ite (State.canFail_kept h0) (State.canDrive_kept h0))

theorem State.winOpenOn_kept {s0 a0 : State} {a1 a2 a3 a4} (h0 : Kept s0 a0) : Kept s0 (State.winOpenOn a0 a1 a2 a3 a4) := by
  unfold State.winOpenOn
  split
  · exact h0
  · lift_lets -underBinder
    extract_lets -descend u1 u2 u3 u4 u5 u6 u7
    have k5 : Kept s0 u5 := State.putCtx_kept h0
    have k6 : Kept s0 u6 := State.judgeEnded_kept k5
    clear_value u1 u2 u3 u4 u5 u6 u7
    exact Kept.ite (State.ethCredits_kept k6) (Kept.ite (Kept.ite (State.canExclusive_kept k6) k6) (State.serKick_kept k6))

theorem State.windowStart_kept {s0 a0 : State} {a1 a2 a3} (h0 : Kept s0 a0) : Kept s0 (State.windowStart a0 a1 a2 a3) := by
  unfold State.windowStart
  split
  · exact h0
  · lift_lets -underBinder
    extract_lets -descend u1 u2 u3
    have k2 : Kept s0 u2 := Kept.ite (State.canFeed_kept h0) h0
    have k3 : Kept s0 u3 := Kept.ite (State.modCan_kept k2) k2
    clear_value u1 u2 u3
    exact State.forEach_kept (fun _ _ f4_1 => State.winOpenOn_kept f4_1) k3

theorem execWindowStart_kept {s0 : State} {a0 a1 a2} {a3 : State} (h3 : Kept s0 a3) : KeptH s0 (execWindowStart a0 a1 a2
    a3) := by
  unfold execWindowStart
  exact KeptH.answer (State.windowStart_kept h3)

theorem State.winEndOn_kept {s0 a0 : State} {a1 a2 a3 a4} (h0 : Kept s0 a0) : Kept s0 (State.winEndOn a0 a1 a2 a3 a4) := by
  unfold State.winEndOn
  lift_lets -underBinder
  extract_lets -descend u0 u1
  have k0 : Kept s0 u0 := Kept.ite (State.ethCredits_kept h0) h0
  have k1 : Kept s0 u1 := (by
    unfold u1
    split
    · exact State.putCtx_kept k0
    · exact k0)
  clear_value u0 u1
  exact Kept.ite k1 (State.report_kept (State.inc_kept (State.flag_kept k1)))

theorem State.windowEnd_kept {s0 a0 : State} {a1 a2 a3 a4} (h0 : Kept s0 a0) : Kept s0 (State.windowEnd a0 a1 a2 a3 a4) := by
  unfold State.windowEnd
  split
  · lift_lets -underBinder
    extract_lets -descend u1 u2 u3 u4
    have k3 : Kept s0 u3 := State.forEach_kept (fun _ _ f4_1 => State.winEndOn_kept f4_1) h0
    have k4 : Kept s0 u4 := (by
    unfold u4
    split
    · exact Kept.ite (State.judgeEnded_kept (State.putCtx_kept k3)) k3
    · exact k3)
    clear_value u1 u2 u3 u4
    exact Kept.ite (State.flag_kept k4) k4
  · exact h0

theorem execWindowEnd_kept {s0 : State} {a0 a1 a2 a3} {a4 : State} (h4 : Kept s0 a4) : KeptH s0 (execWindowEnd a0 a1 a2 a3
    a4) := by
  unfold execWindowEnd
  exact KeptH.answer (State.windowEnd_kept h4)

theorem execEthEn_kept {s0 : State} {a0 a1 a2} {a3 : State} (h3 : Kept s0 a3) : KeptH s0 (execEthEn a0 a1 a2 a3) := by
  unfold execEthEn
  exact KeptH.answer (State.byPort_kept h3 (fun _ f0_0 => State.ethEn_kept f0_0))

theorem execEthLinkChange_kept {s0 : State} {a0 a1 a2} {a3 : State} (h3 : Kept s0 a3) : KeptH s0 (execEthLinkChange a0 a1
    a2 a3) := by
  unfold execEthLinkChange
  exact KeptH.answer (Kept.ite h3 (State.ethLink_kept h3))

theorem execPhyPoll_kept {s0 : State} {a0 a1} {a2 : State} (h2 : Kept s0 a2) : KeptH s0 (execPhyPoll a0 a1 a2) := by
  unfold execPhyPoll
  lift_lets -underBinder
  extract_lets -descend u0 u1 u2
  have k2 : Kept s0 u2 := State.ethLink_kept h2
  clear_value u0 u1 u2
  exact KeptH.answer (Kept.ite h2 (Kept.ite (State.report_kept k2) k2))

theorem execMdioGo_kept {s0 : State} {a0 a1 a2 a3 a4 a5} {a6 : State} (h6 : Kept s0 a6) : KeptH s0 (execMdioGo a0 a1 a2 a3
    a4 a5 a6) := by
  unfold execMdioGo
  exact KeptH.answer (State.byPort_kept h6 (fun _ f0_0 => State.mdioGo_kept f0_0))

theorem execMdioDone_kept {s0 : State} {a0 a1} {a2 : State} (h2 : Kept s0 a2) : KeptH s0 (execMdioDone a0 a1 a2) := by
  unfold execMdioDone
  lift_lets -underBinder
  extract_lets -descend u0 u1
  have k1 : Kept s0 u1 := State.flag_kept (State.modEth_kept h2)
  clear_value u0 u1
  exact KeptH.answer (Kept.ite h2 (Kept.ite (State.put_kept k1) k1))

theorem State.ethStage_kept {s0 a0 : State} {a1 a2} (h0 : Kept s0 a0) : Kept s0 (State.ethStage a0 a1 a2) := by
  unfold State.ethStage
  lift_lets -underBinder
  extract_lets -descend u0 u1
  have k0 : Kept s0 u0 := State.modEth_kept h0
  have k1 : Kept s0 u1 := (by
    unfold u1
    split
    · lift_lets -underBinder
      extract_lets -descend u3
      clear_value u3
      exact State.putCtx_kept k0
    · exact k0)
  clear_value u0 u1
  exact State.ethHeads_kept (State.ethPrune_kept (State.readyIn_kept k1))

theorem State.ethReady_kept {s0 a0 : State} {a1 a2 a3} (h0 : Kept s0 a0) : Kept s0 (State.ethReady a0 a1 a2 a3) := by
  unfold State.ethReady
  lift_lets -underBinder
  extract_lets -descend u0 u1
  have k1 : Kept s0 u1 := State.ethPrune_kept h0
  clear_value u0 u1
  refine Kept.ite ?_ ?_
  · exact k1
  · split
    · exact k1
    · lift_lets -underBinder
      extract_lets -descend u3 u4 u5
      clear_value u3 u4 u5
      refine Kept.ite ?_ ?_
      · exact State.report_kept (State.finishDesc_kept k1)
      · split
        · rename_i v6_0 e6
          have k6_0 := KeptP.of (State.agentRead_kept k1) e6
          exact k6_0
        · rename_i v6_0 v6_1 e6
          have k6_0 := KeptP.of (State.agentRead_kept k1) e6
          split
          · exact State.report_kept (State.finishDesc_kept k6_0)
          · lift_lets -underBinder
            extract_lets -descend u8 u9 u10 u11 u12 u13 u14
            have k9 : Kept s0 u9 := State.agentTake_kept k6_0
            have k14 : Kept s0 u14 := State.modEth_kept k9
            clear_value u8 u9 u10 u11 u12 u13 u14
            exact Kept.ite (State.ethStage_kept k9) (Kept.ite (State.ethStage_kept (State.ethStage_kept k14))
                (State.ethStage_kept k9))

theorem execEthFrameReady_kept {s0 : State} {a0 a1 a2} {a3 : State} (h3 : Kept s0 a3) : KeptH s0 (execEthFrameReady a0 a1
    a2 a3) := by
  unfold execEthFrameReady
  exact KeptH.answer (State.ethReady_kept h3)

theorem State.ethStart_kept {s0 a0 : State} {a1} (h0 : Kept s0 a0) : Kept s0 (State.ethStart a0 a1) := by
  unfold State.ethStart
  lift_lets -underBinder
  extract_lets -descend u0 u1
  have k0 : Kept s0 u0 := State.ethCredits_kept (State.ethPrune_kept h0)
  clear_value u0 u1
  refine Kept.ite ?_ ?_
  · split
    · exact k0
    · lift_lets -underBinder
      extract_lets -descend u3
      have k3 : Kept s0 u3 := State.modEth_kept k0
      clear_value u3
      exact Kept.ite (State.modDesc_kept k3) k3
  · exact k0

theorem execEthTxFrameStart_kept {s0 : State} {a0} {a1 : State} (h1 : Kept s0 a1) : KeptH s0 (execEthTxFrameStart a0 a1) := by
  unfold execEthTxFrameStart
  exact KeptH.answer (State.ethStart_kept h1)

theorem State.pushPtp_kept {s0 a0 : State} {a1 a2 a3 a4} (h0 : Kept s0 a0) : Kept s0 (State.pushPtp a0 a1 a2 a3 a4) := by
  unfold State.pushPtp
  split
  · exact h0
  · exact Kept.ite (State.report_kept (State.flag_kept h0)) (State.showPtp_kept (State.modEth_kept h0))

theorem State.noBuf_kept {s0 a0 : State} {a1} (h0 : Kept s0 a0) : Kept s0 (State.noBuf a0 a1) := by
  unfold State.noBuf
  exact State.flag_kept (State.inc_kept h0)

theorem State.ethDeliver_kept {s0 a0 : State} {a1 a2 a3 a4 a5} (h0 : Kept s0 a0) : Kept s0 (State.ethDeliver a0 a1 a2 a3 a4
    a5) := by
  unfold State.ethDeliver
  lift_lets -underBinder
  extract_lets -descend u0
  clear_value u0
  split
  · exact State.noBuf_kept h0
  · refine Kept.ite ?_ ?_
    · exact State.noBuf_kept h0
    · split
      · rename_i v2_0 e2
        have k2_0 := KeptP.of (State.agentWrite_kept h0) e2
        exact k2_0
      · rename_i v2_0 e2
        have k2_0 := KeptP.of (State.agentWrite_kept h0) e2
        exact State.finishDesc_kept k2_0

theorem State.ethClassify_kept {s0 a0 : State} {a1 a2 a3 a4 a5 a6} (h0 : Kept s0 a0) : Kept s0 (State.ethClassify a0 a1 a2
    a3 a4 a5 a6) := by
  unfold State.ethClassify
  lift_lets -underBinder
  extract_lets -descend u0 u1 u2 u3 u4 u5
  clear_value u0 u1 u2 u3 u4 u5
  split
  · lift_lets -underBinder
    extract_lets -descend u7
    have k7 : Kept s0 u7 := State.inc_kept h0
    clear_value u7
    exact Kept.ite (State.ethDeliver_kept k7) k7
  · exact Kept.ite (State.ethDeliver_kept h0) (State.inc_kept h0)

theorem State.prpFrame_kept {s0 a0 : State} {a1 a2 a3 a4 a5} (h0 : Kept s0 a0) : Kept s0 (State.prpFrame a0 a1 a2 a3 a4 a5)
    := by
  unfold State.prpFrame
  lift_lets -underBinder
  extract_lets -descend u0 u1 u2
  clear_value u0 u1 u2
  split
  · lift_lets -underBinder
    extract_lets -descend u4
    have k4 : Kept s0 u4 := State.modEth_kept h0
    clear_value u4
    exact Kept.ite (State.ethClassify_kept k4) (State.inc_kept k4)
  · lift_lets -underBinder
    extract_lets -descend u4
    have k4 : Kept s0 u4 := State.modEth_kept h0
    clear_value u4
    exact State.ethClassify_kept k4

theorem State.ethGood_kept {s0 a0 : State} {a1 a2 a3} (h0 : Kept s0 a0) : Kept s0 (State.ethGood a0 a1 a2 a3) := by
  unfold State.ethGood
  lift_lets -underBinder
  extract_lets -descend u0 u1 u2 u3 u4 u5
  have k0 : Kept s0 u0 := State.modEth_kept h0
  have k1 : Kept s0 u1 := State.addSat_kept (State.inc_kept k0)
  have k3 : Kept s0 u3 := State.inc_kept k1
  have k5 : Kept s0 u5 := State.pushPtp_kept k1
  clear_value u0 u1 u2 u3 u4 u5
  refine Kept.ite ?_ ?_
  · exact k1
  · refine Kept.ite ?_ ?_
    · exact Kept.ite (State.flag_kept (State.modEth_kept k3)) k3
    · split
      · split
        · exact State.prpFrame_kept k5
        · exact State.ethClassify_kept k5
      · split
        · rename_i v7_0 e7
          have k7_0 := KeptP.of (State.heard_kept k5) e7
          exact k7_0
        · rename_i v7_0 e7
          have k7_0 := KeptP.of (State.heard_kept k5) e7
          exact State.ethClassify_kept k7_0

theorem State.ethReceive_kept {s0 a0 : State} {a1 a2 a3 a4 a5 a6 a7} (h0 : Kept s0 a0) : Kept s0 (State.ethReceive a0 a1 a2
    a3 a4 a5 a6 a7) := by
  unfold State.ethReceive
  lift_lets -underBinder
  extract_lets -descend u0
  clear_value u0
  refine Kept.ite ?_ ?_
  · exact State.inc_kept h0
  · refine Kept.ite ?_ ?_
    · exact State.inc_kept (State.modEth_kept h0)
    · refine Kept.ite ?_ ?_
      · exact State.inc_kept h0
      · refine Kept.ite ?_ ?_
        · exact State.inc_kept h0
        · refine Kept.ite ?_ ?_
          · exact State.noBuf_kept h0
          · split
            · exact State.report_kept (State.inc_kept h0)
            · exact State.ethGood_kept h0

theorem State.ethOut_kept {s0 a0 : State} {a1 a2 a3} (h0 : Kept s0 a0) : Kept s0 (State.ethOut a0 a1 a2 a3) := by
  unfold State.ethOut
  lift_lets -underBinder
  extract_lets -descend u0 u1 u2 u3 u4 u5 u6 u7 u8 u9 u10
  have k7 : Kept s0 u7 := State.pushPtp_kept h0
  have k8 : Kept s0 u8 := (by
    unfold u8
    split
    · exact State.report_kept (State.ethEnd_kept k7)
    · exact State.ethEnd_kept k7)
  have k10 : Kept s0 u10 := Kept.ite (State.ethReceive_kept k8) k8
  clear_value u0 u1 u2 u3 u4 u5 u6 u7 u8 u9 u10
  exact State.ethHeads_kept k10

theorem State.ethDone_kept {s0 a0 : State} {a1 a2} (h0 : Kept s0 a0) : Kept s0 (State.ethDone a0 a1 a2) := by
  unfold State.ethDone
  lift_lets -underBinder
  extract_lets -descend u0
  have k0 : Kept s0 u0 := State.ethCredits_kept h0
  clear_value u0
  split
  · exact k0
  · exact State.ethOut_kept k0

theorem execEthTxFrameDone_kept {s0 : State} {a0 a1} {a2 : State} (h2 : Kept s0 a2) : KeptH s0 (execEthTxFrameDone a0 a1
    a2) := by
  unfold execEthTxFrameDone
  exact KeptH.answer (State.ethDone_kept h2)

theorem execEthRxFrame_kept {s0 : State} {a0 a1 a2 a3 a4 a5 a6} {a7 : State} (h7 : Kept s0 a7) : KeptH s0 (execEthRxFrame
    a0 a1 a2 a3 a4 a5 a6 a7) := by
  unfold execEthRxFrame
  exact KeptH.answer (Kept.ite (State.ethReceive_kept h7) h7)

theorem execEthnPtpfInfo_kept {s0 : State} {a0 a1} {a2 : State} (h2 : Kept s0 a2) : KeptH s0 (execEthnPtpfInfo a0 a1 a2) := by
  unfold execEthnPtpfInfo
  exact KeptH.answer (State.act_kept (State.reply1_kept h2) (fun _ f0_0 => (by
    lift_lets -underBinder
    extract_lets -descend u1
    have k1 : Kept s0 u1 := State.reply_kept f0_0
    clear_value u1
    exact State.showPtp_kept (State.modEth_kept k1))))

theorem execPrpEntryExpiry_kept {s0 : State} {a0 a1 a2} {a3 : State} (h3 : Kept s0 a3) : KeptH s0 (execPrpEntryExpiry a0 a1
    a2 a3) := by
  unfold execPrpEntryExpiry
  exact KeptH.answer (by
    split
    · exact h3
    · lift_lets -underBinder
      extract_lets -descend u1
      have k1 : Kept s0 u1 := State.modEth_kept h3
      clear_value u1
      exact Kept.ite (State.inc_kept (State.modEth_kept k1)) (Kept.ite (State.inc_kept (State.modEth_kept k1)) k1))

theorem State.prpMiss_kept {s0 a0 : State} {a1 a2 a3} (h0 : Kept s0 a0) : Kept s0 (State.prpMiss a0 a1 a2 a3) := by
  unfold State.prpMiss
  exact Kept.ite (State.report_kept (State.flag_kept h0)) h0

theorem execPrpMissInterval_kept {s0 : State} {a0} {a1 : State} (h1 : Kept s0 a1) : KeptH s0 (execPrpMissInterval a0 a1) := by
  unfold execPrpMissInterval
  lift_lets -underBinder
  extract_lets -descend u0
  clear_value u0
  exact KeptH.answer (Kept.ite (State.prpMiss_kept (State.prpMiss_kept (State.modEth_kept h1))) h1)

theorem execPrpSupervisionSend_kept {s0 : State} {a0} {a1 : State} (h1 : Kept s0 a1) : KeptH s0 (execPrpSupervisionSend a0
    a1) := by
  unfold execPrpSupervisionSend
  lift_lets -underBinder
  extract_lets -descend u0 u1 u2
  have k2 : Kept s0 u2 := State.modEth_kept h1
  clear_value u0 u1 u2
  exact KeptH.answer (Kept.ite (State.ethStage_kept (State.ethStage_kept k2)) h1)

theorem execFcsErrorInterval_kept {s0 : State} {a0} {a1 : State} (h1 : Kept s0 a1) : KeptH s0 (execFcsErrorInterval a0 a1) := by
  unfold execFcsErrorInterval
  lift_lets -underBinder
  extract_lets -descend u0 u1
  have k1 : Kept s0 u1 := State.modEth_kept h1
  clear_value u0 u1
  exact KeptH.answer (Kept.ite (State.report_kept (State.flag_kept k1)) k1)

theorem execCanEn_kept {s0 : State} {a0 a1 a2} {a3 : State} (h3 : Kept s0 a3) : KeptH s0 (execCanEn a0 a1 a2 a3) := by
  unfold execCanEn
  exact KeptH.answer (State.byPort_kept h3 (fun _ f0_0 => State.canEn_kept f0_0))

theorem State.canFresh_kept {s0 a0 : State} {a1} (h0 : Kept s0 a0) : Kept s0 (State.canFresh a0 a1) := by
  unfold State.canFresh
  lift_lets -underBinder
  extract_lets -descend u0
  have k0 : Kept s0 u0 := State.put_kept (State.put_kept (State.put_kept h0))
  clear_value u0
  exact State.flag_kept k0

theorem execCanIntegrationDone_kept {s0 : State} {a0} {a1 : State} (h1 : Kept s0 a1) : KeptH s0 (execCanIntegrationDone a0
    a1) := by
  unfold execCanIntegrationDone
  exact KeptH.answer (Kept.ite (State.canFresh_kept (State.modCan_kept h1)) h1)

theorem execTxreq_kept {s0 : State} {a0 a1 a2} {a3 : State} (h3 : Kept s0 a3) : KeptH s0 (execTxreq a0 a1 a2 a3) := by
  unfold execTxreq
  exact KeptH.answer (State.byPort_kept h3 (fun _ f0_0 => State.canTxreq_kept f0_0))

theorem execTxabort_kept {s0 : State} {a0 a1 a2} {a3 : State} (h3 : Kept s0 a3) : KeptH s0 (execTxabort a0 a1 a2 a3) := by
  unfold execTxabort
  exact KeptH.answer (State.byPort_kept h3 (fun _ f0_0 => State.canTxabort_kept f0_0))

theorem State.canStart_kept {s0 a0 : State} {a1 a2} (h0 : Kept s0 a0) : Kept s0 (State.canStart a0 a1 a2) := by
  unfold State.canStart
  lift_lets -underBinder
  extract_lets -descend u0 u1
  have k0 : Kept s0 u0 := State.canFeed_kept (State.canFeed_kept h0)
  clear_value u0 u1
  refine Kept.ite ?_ ?_
  · split
    · exact k0
    · split
      · exact State.report_kept (State.canFinal_kept k0)
      · exact State.canDrive_kept k0
  · exact k0

theorem execCanFrameStart_kept {s0 : State} {a0 a1} {a2 : State} (h2 : Kept s0 a2) : KeptH s0 (execCanFrameStart a0 a1 a2) := by
  unfold execCanFrameStart
  exact KeptH.answer (State.canStart_kept h2)

theorem State.canState_kept {s0 a0 : State} {a1 a2 a3} (h0 : Kept s0 a0) : Kept s0 (State.canState a0 a1 a2 a3) := by
  unfold State.canState
  lift_lets -underBinder
  extract_lets -descend u0 u1 u2 u3
  have k1 : Kept s0 u1 := State.put_kept (State.put_kept h0)
  have k3 : Kept s0 u3 := State.flag_kept (State.put_kept k1)
  clear_value u0 u1 u2 u3
  exact Kept.ite k1 (Kept.ite (State.report_kept k3) (Kept.ite (State.report_kept (State.modCan_kept k3)) k3))

theorem State.canSent_kept {s0 a0 : State} {a1 a2 a3} (h0 : Kept s0 a0) : Kept s0 (State.canSent a0 a1 a2 a3) := by
  unfold State.canSent
  lift_lets -underBinder
  extract_lets -descend u0 u1 u2 u3 u4 u5 u6 u7
  have k6 : Kept s0 u6 := Kept.ite (State.put_kept (State.put_kept h0)) h0
  have k7 : Kept s0 u7 := Kept.ite (State.modCan_kept k6) k6
  clear_value u0 u1 u2 u3 u4 u5 u6 u7
  exact Kept.ite (State.canFinal_kept k7) k7

theorem State.canRef_kept {s0 a0 : State} {a1 a2 a3 a4} (h0 : Kept s0 a0) : Kept s0 (State.canRef a0 a1 a2 a3 a4) := by
  unfold State.canRef
  lift_lets -underBinder
  extract_lets -descend u0 u1 u2 u3 u4 u5 u6 u7 u8 u9
  have k5 : Kept s0 u5 := State.flag_kept (State.put_kept h0)
  have k6 : Kept s0 u6 := State.put_kept (State.put_kept k5)
  have k7 : Kept s0 u7 := State.put_kept (State.put_kept k6)
  have k8 : Kept s0 u8 := State.modCan_kept (State.flag_kept k7)
  have k9 : Kept s0 u9 := Kept.ite (State.report_kept (State.flag_kept k8)) k8
  clear_value u0 u1 u2 u3 u4 u5 u6 u7 u8 u9
  exact Kept.ite h0 (State.refMessage_kept k9)

theorem State.twinFrame_kept {s0 a0 : State} {a1 a2 a3} (h0 : Kept s0 a0) : KeptP s0 (State.twinFrame a0 a1 a2 a3) := by
  unfold State.twinFrame
  split
  · exact KeptP.mk (State.inc_kept (State.modCan_kept h0))
  · exact KeptP.mk (State.modCan_kept h0)

theorem State.canStore_kept {s0 a0 : State} {a1 a2 a3 a4} (h0 : Kept s0 a0) : Kept s0 (State.canStore a0 a1 a2 a3 a4) := by
  unfold State.canStore
  exact State.forEach_kept (fun _ _ f0_1 => (by
    lift_lets -underBinder
    extract_lets -descend u1
    clear_value u1
    exact State.put_kept f0_1)) h0

theorem State.canFifo_kept {s0 a0 : State} {a1 a2} (h0 : Kept s0 a0) : Kept s0 (State.canFifo a0 a1 a2) := by
  unfold State.canFifo
  lift_lets -underBinder
  extract_lets -descend u0 u1 u2
  clear_value u0 u1 u2
  exact Kept.ite (State.flag_kept (State.put_kept (State.canStore_kept h0))) (Kept.ite (State.flag_kept (State.put_kept
      (State.canStore_kept h0))) (State.flag_kept (State.inc_kept h0)))

theorem State.canDedicated_kept {s0 a0 : State} {a1 a2 a3} (h0 : Kept s0 a0) : Kept s0 (State.canDedicated a0 a1 a2 a3) := by
  unfold State.canDedicated
  lift_lets -underBinder
  extract_lets -descend u0 u1
  clear_value u0 u1
  exact State.flag_kept (State.setB_kept (State.canStore_kept h0))

theorem State.canRxq_kept {s0 a0 : State} {a1 a2 a3} (h0 : Kept s0 a0) : Kept s0 (State.canRxq a0 a1 a2 a3) := by
  unfold State.canRxq
  lift_lets -underBinder
  extract_lets -descend u0 u1 u2
  have k2 : ∀ (b0 : State) (_ : Kept s0 b0), Kept s0 (u2 b0) := fun _ f3_0 => State.flag_kept (State.inc_kept f3_0)
  clear_value u0 u1 u2
  split
  · exact k2 _ h0
  · refine Kept.ite ?_ ?_
    · exact k2 _ h0
    · split
      · rename_i v4_0 e4
        have k4_0 := KeptP.of (State.agentWrite_kept h0) e4
        exact k4_0
      · rename_i v4_0 e4
        have k4_0 := KeptP.of (State.agentWrite_kept h0) e4
        exact State.finishDesc_kept k4_0

theorem State.canAccept_kept {s0 a0 : State} {a1 a2 a3 a4 a5 a6} (h0 : Kept s0 a0) : Kept s0 (State.canAccept a0 a1 a2 a3
    a4 a5 a6) := by
  unfold State.canAccept
  lift_lets -underBinder
  extract_lets -descend u0 u1
  clear_value u0 u1
  split
  · lift_lets -underBinder
    extract_lets -descend u3 u4 u5
    clear_value u3 u4 u5
    exact Kept.ite (State.canFifo_kept h0) (Kept.ite (Kept.ite h0 (State.canDedicated_kept h0)) (Kept.ite (Kept.ite
        (State.canRxq_kept h0) h0) h0))
  · exact Kept.ite (State.canFifo_kept h0) (State.inc_kept h0)

theorem State.canValid_kept {s0 a0 : State} {a1 a2 a3 a4 a5 a6} (h0 : Kept s0 a0) : Kept s0 (State.canValid a0 a1 a2 a3 a4
    a5 a6) := by
  unfold State.canValid
  lift_lets -underBinder
  extract_lets -descend u0 u1 u2 u3 u4 u5 u6
  have k3 : Kept s0 u3 := State.inc_kept h0
  have k4 : Kept s0 u4 := Kept.ite (State.inc_kept k3) k3
  have k5 : Kept s0 u5 := State.canRef_kept k4
  clear_value u0 u1 u2 u3 u4 u5 u6
  refine Kept.ite ?_ ?_
  · split
    · rename_i v7_0 e7
      have k7_0 := KeptP.of (State.twinFrame_kept k5) e7
      exact k7_0
    · rename_i v7_0 e7
      have k7_0 := KeptP.of (State.twinFrame_kept k5) e7
      exact State.canAccept_kept k7_0
  · split
    · rename_i v7_0 e7
      have k7_0 := KeptP.of (State.heard_kept k5) e7
      exact k7_0
    · rename_i v7_0 e7
      have k7_0 := KeptP.of (State.heard_kept k5) e7
      exact State.canAccept_kept k7_0

theorem State.canFails_kept {s0 a0 : State} {a1 a2} (h0 : Kept s0 a0) : KeptP s0 (State.canFails a0 a1 a2) := by
  unfold State.canFails
  lift_lets -underBinder
  extract_lets -descend u0 u1
  have k1 : Kept s0 u1 := State.inc_kept h0
  clear_value u0 u1
  exact KeptP.ite (KeptP.mk (State.modCan_kept h0)) (KeptP.mk k1)

theorem State.canLec_kept {s0 a0 : State} {a1 a2 a3} (h0 : Kept s0 a0) : Kept s0 (State.canLec a0 a1 a2 a3) := by
  unfold State.canLec
  exact Kept.ite (State.put_kept h0) (State.put_kept h0)

theorem State.canBusOff_kept {s0 a0 : State} {a1} (h0 : Kept s0 a0) : Kept s0 (State.canBusOff a0 a1) := by
  unfold State.canBusOff
  exact State.forEach_kept (fun _ _ f0_1 => State.canFinal_kept f0_1) h0

theorem State.canAttempt_kept {s0 a0 : State} {a1 a2 a3 a4 a5} (h0 : Kept s0 a0) : Kept s0 (State.canAttempt a0 a1 a2 a3 a4
    a5) := by
  unfold State.canAttempt
  lift_lets -underBinder
  extract_lets -descend u0
  have k0 : Kept s0 u0 := State.canPrune_kept h0
  clear_value u0
  split
  · exact k0
  · lift_lets -underBinder
    extract_lets -descend u2 u3 u4 u5 u6 u7 u8 u9 u10 u11 u12 u13 u14 u15 u16
    have k5 : Kept s0 u5 := State.modCan_kept k0
    have k10 : Kept s0 u10 := State.canState_kept (State.inc_kept k5)
    have k11 : Kept s0 u11 := State.canSent_kept k10
    have k13 : Kept s0 u13 := State.inc_kept k5
    have k15 : Kept s0 u15 := State.canState_kept (State.inc_kept (State.canLec_kept k5))
    have k16 : Kept s0 u16 := Kept.ite k15 (State.canFail_kept k15)
    clear_value u2 u3 u4 u5 u6 u7 u8 u9 u10 u11 u12 u13 u14 u15 u16
    refine Kept.ite ?_ ?_
    · exact Kept.ite (State.canValid_kept k11) k11
    · refine Kept.ite ?_ ?_
      · refine Kept.ite ?_ ?_
        · exact State.canFinal_kept k13
        · refine Kept.ite ?_ ?_
          · exact State.canFail_kept k13
          · refine Kept.ite ?_ ?_
            · exact k13
            · split
              · rename_i v17_0 v17_1 e17
                have k17_0 := KeptP.of (State.canFails_kept k13) e17
                exact Kept.ite (State.canFail_kept k17_0) k17_0
      · refine Kept.ite ?_ ?_
        · exact State.canBusOff_kept k16
        · refine Kept.ite ?_ ?_
          · exact State.canFail_kept k15
          · split
            · rename_i v17_0 v17_1 e17
              have k17_0 := KeptP.of (State.canFails_kept k15) e17
              exact Kept.ite (State.canFail_kept k17_0) k17_0

theorem execCanTxAttemptEnd_kept {s0 : State} {a0 a1 a2 a3 a4} {a5 : State} (h5 : Kept s0 a5) : KeptH s0
    (execCanTxAttemptEnd a0 a1 a2 a3 a4 a5) := by
  unfold execCanTxAttemptEnd
  exact KeptH.answer (State.canAttempt_kept h5)

theorem execCanRxFrameValid_kept {s0 : State} {a0 a1 a2 a3 a4 a5 a6 a7} {a8 : State} (h8 : Kept s0 a8) : KeptH s0
    (execCanRxFrameValid a0 a1 a2 a3 a4 a5 a6 a7 a8) := by
  unfold execCanRxFrameValid
  lift_lets -underBinder
  extract_lets -descend u0 u1 u2 u3
  have k2 : Kept s0 u2 := Kept.ite (State.canState_kept (State.addSat_kept (State.canLec_kept h8))) h8
  clear_value u0 u1 u2 u3
  exact KeptH.answer (by
    refine Kept.ite ?_ ?_
    · exact h8
    · refine Kept.ite ?_ ?_
      · exact State.canState_kept (State.inc_kept (State.canLec_kept k2))
      · split
        · rename_i v4_0 v4_1 e4
          have k4_0 := KeptP.of (KeptP.ite (KeptP.mk k2) (KeptP.ite (KeptP.mk k2) (KeptP.mk (State.took_kept k2)))) e4
          exact State.canValid_kept (State.canState_kept k4_0))

theorem execRecover_kept {s0 : State} {a0 a1} {a2 : State} (h2 : Kept s0 a2) : KeptH s0 (execRecover a0 a1 a2) := by
  unfold execRecover
  exact KeptH.answer (State.byPort_kept h2 (fun _ f0_0 => State.canRecoverReq_kept f0_0))

theorem execBusOffRecoveryEnd_kept {s0 : State} {a0} {a1 : State} (h1 : Kept s0 a1) : KeptH s0 (execBusOffRecoveryEnd a0
    a1) := by
  unfold execBusOffRecoveryEnd
  exact KeptH.answer (Kept.ite (State.canFresh_kept (State.flag_kept h1)) h1)

theorem execCannTscLatch_kept {s0 : State} {a0 a1} {a2 : State} (h2 : Kept s0 a2) : KeptH s0 (execCannTscLatch a0 a1 a2) := by
  unfold execCannTscLatch
  exact KeptH.answer (State.byPort_kept h2 (fun _ f0_0 => State.canTscLatch_kept f0_0))

theorem execCannRxfPop_kept {s0 : State} {a0 a1} {a2 : State} (h2 : Kept s0 a2) : KeptH s0 (execCannRxfPop a0 a1 a2) := by
  unfold execCannRxfPop
  exact KeptH.answer (State.byPort_kept h2 (fun _ f0_0 => State.canRxfPop_kept f0_0))

theorem execTwinEntryExpiry_kept {s0 : State} {a0 a1} {a2 : State} (h2 : Kept s0 a2) : KeptH s0 (execTwinEntryExpiry a0 a1
    a2) := by
  unfold execTwinEntryExpiry
  exact KeptH.answer (by
    split
    · exact h2
    · lift_lets -underBinder
      extract_lets -descend u1
      have k1 : Kept s0 u1 := State.modCan_kept h2
      clear_value u1
      exact Kept.ite (State.inc_kept (State.modCan_kept k1)) (Kept.ite (State.inc_kept (State.modCan_kept k1)) k1))

theorem State.twinMiss_kept {s0 a0 : State} {a1 a2 a3} (h0 : Kept s0 a0) : Kept s0 (State.twinMiss a0 a1 a2 a3) := by
  unfold State.twinMiss
  exact Kept.ite (State.report_kept (State.flag_kept h0)) h0

theorem execTwinMissInterval_kept {s0 : State} {a0} {a1 : State} (h1 : Kept s0 a1) : KeptH s0 (execTwinMissInterval a0 a1) := by
  unfold execTwinMissInterval
  lift_lets -underBinder
  extract_lets -descend u0
  clear_value u0
  exact KeptH.answer (Kept.ite (State.twinMiss_kept (State.twinMiss_kept (State.modCan_kept h1))) h1)

theorem execSernTxdata_kept {s0 : State} {a0 a1 a2} {a3 : State} (h3 : Kept s0 a3) : KeptH s0 (execSernTxdata a0 a1 a2 a3) := by
  unfold execSernTxdata
  exact KeptH.answer (State.byPort_kept h3 (fun _ f0_0 => State.serTx_kept f0_0))

theorem execSernRxdata_kept {s0 : State} {a0 a1} {a2 : State} (h2 : Kept s0 a2) : KeptH s0 (execSernRxdata a0 a1 a2) := by
  unfold execSernRxdata
  exact KeptH.answer (State.act_kept (State.reply1_kept h2) (fun _ f0_0 => (by
    lift_lets -underBinder
    extract_lets -descend u1
    have k1 : Kept s0 u1 := State.reply_kept f0_0
    clear_value u1
    exact State.showSer_kept (State.modSer_kept k1))))

theorem State.serReceive_kept {s0 a0 : State} {a1 a2 a3 a4} (h0 : Kept s0 a0) : Kept s0 (State.serReceive a0 a1 a2 a3 a4) := by
  unfold State.serReceive
  lift_lets -underBinder
  extract_lets -descend u0 u1 u2 u3 u4 u5 u6 u7
  have k0 : Kept s0 u0 := State.inc_kept h0
  have k2 : Kept s0 u2 := State.modSer_kept k0
  have k3 : Kept s0 u3 := Kept.ite (State.inc_kept k2) k2
  have k4 : Kept s0 u4 := Kept.ite (State.inc_kept k3) k3
  have k5 : Kept s0 u5 := Kept.ite (State.inc_kept k4) k4
  have k6 : Kept s0 u6 := State.when_kept (State.flag_kept k5) (fun _ f7_0 => State.flag_kept f7_0)
  have k7 : Kept s0 u7 := State.serDrain_kept k6
  clear_value u0 u1 u2 u3 u4 u5 u6 u7
  exact Kept.ite (State.report_kept (State.flag_kept (State.inc_kept k7))) (State.serDrain_kept (State.showSer_kept
      (State.modSer_kept k7)))

theorem execSerCharReceived_kept {s0 : State} {a0 a1 a2 a3} {a4 : State} (h4 : Kept s0 a4) : KeptH s0 (execSerCharReceived
    a0 a1 a2 a3 a4) := by
  unfold execSerCharReceived
  lift_lets -underBinder
  extract_lets -descend u0
  clear_value u0
  exact KeptH.answer (Kept.ite h4 (State.serReceive_kept h4))

theorem State.serSent_kept {s0 a0 : State} {a1} (h0 : Kept s0 a0) : KeptP s0 (State.serSent a0 a1) := by
  unfold State.serSent
  lift_lets -underBinder
  extract_lets -descend u0 u1 u2
  have k2 : Kept s0 u2 := State.modSer_kept h0
  clear_value u0 u1 u2
  refine KeptP.ite ?_ ?_
  · split
    · lift_lets -underBinder
      extract_lets -descend u4
      clear_value u4
      split
      · rename_i v5_0 e5
        have k5_0 := KeptP.of (State.agentRead_kept h0) e5
        exact KeptP.mk (State.modSer_kept k5_0)
      · rename_i v5_0 v5_1 e5
        have k5_0 := KeptP.of (State.agentRead_kept h0) e5
        exact KeptP.ite (KeptP.mk (State.finishDesc_kept (State.modSer_kept k5_0))) (KeptP.mk (State.modSer_kept k5_0))
    · exact KeptP.mk (State.modSer_kept h0)
  · exact KeptP.mk (Kept.ite (State.flag_kept k2) k2)

theorem State.serDone_kept {s0 a0 : State} {a1} (h0 : Kept s0 a0) : Kept s0 (State.serDone a0 a1) := by
  unfold State.serDone
  lift_lets -underBinder
  extract_lets -descend u0
  have k0 : Kept s0 u0 := State.serKick_kept h0
  clear_value u0
  split
  · exact k0
  · split
    · rename_i v2_0 v2_1 e2
      have k2_0 := KeptP.of (State.serSent_kept k0) e2
      lift_lets -underBinder
      extract_lets -descend u3 u4 u5
      have k3 : Kept s0 u3 := State.inc_kept (State.modSer_kept k2_0)
      have k4 : Kept s0 u4 := State.showSer_kept k3
      have k5 : Kept s0 u5 := Kept.ite (State.serReceive_kept k4) k4
      clear_value u3 u4 u5
      exact State.serKick_kept k5

theorem execSerCharSent_kept {s0 : State} {a0} {a1 : State} (h1 : Kept s0 a1) : KeptH s0 (execSerCharSent a0 a1) := by
  unfold execSerCharSent
  exact KeptH.answer (State.serDone_kept h1)

theorem execSerIdleTimeout_kept {s0 : State} {a0} {a1 : State} (h1 : Kept s0 a1) : KeptH s0 (execSerIdleTimeout a0 a1) := by
  unfold execSerIdleTimeout
  lift_lets -underBinder
  extract_lets -descend u0
  have k0 : Kept s0 u0 := State.serDrain_kept (State.flag_kept h1)
  clear_value u0
  exact KeptH.answer (by
    refine Kept.ite ?_ ?_
    · exact h1
    · refine Kept.ite ?_ ?_
      · split
        · exact State.serRxEnd_kept k0
        · exact k0
      · exact k0)

theorem execDeRelease_kept {s0 : State} {a0} {a1 : State} (h1 : Kept s0 a1) : KeptH s0 (execDeRelease a0 a1) := by
  unfold execDeRelease
  exact KeptH.answer (Kept.ite h1 (State.flag_kept h1))

theorem execSerErrorInterval_kept {s0 : State} {a0} {a1 : State} (h1 : Kept s0 a1) : KeptH s0 (execSerErrorInterval a0 a1) := by
  unfold execSerErrorInterval
  lift_lets -underBinder
  extract_lets -descend u0 u1
  have k1 : Kept s0 u1 := State.modSer_kept h1
  clear_value u0 u1
  exact KeptH.answer (Kept.ite (State.report_kept k1) k1)

theorem State.showBits_kept {s0 a0 : State} {a1 a2} (h0 : Kept s0 a0) : Kept s0 (State.showBits a0 a1 a2) := by
  unfold State.showBits
  exact State.put_kept (State.put_kept h0)

theorem State.bitErr_kept {s0 a0 : State} {a1 a2 a3} (h0 : Kept s0 a0) : Kept s0 (State.bitErr a0 a1 a2 a3) := by
  unfold State.bitErr
  exact State.report_kept (State.flag_kept (State.flag_kept h0))

theorem execBitioOutputEdge_kept {s0 : State} {a0} {a1 : State} (h1 : Kept s0 a1) : KeptH s0 (execBitioOutputEdge a0 a1) := by
  unfold execBitioOutputEdge
  exact KeptH.answer (by
    split
    · exact h1
    · split
      · exact h1
      · lift_lets -underBinder
        extract_lets -descend u2 u3
        have k2 : Kept s0 u2 := State.showBits_kept (State.modEngine_kept h1)
        have k3 : Kept s0 u3 := Kept.ite (State.flag_kept k2) k2
        clear_value u2 u3
        exact Kept.ite (State.bitErr_kept k3) k3)

theorem execBitioInputEdge_kept {s0 : State} {a0 a1 a2 a3} {a4 : State} (h4 : Kept s0 a4) : KeptH s0 (execBitioInputEdge a0
    a1 a2 a3 a4) := by
  unfold execBitioInputEdge
  exact KeptH.answer (by
    split
    · exact h4
    · lift_lets -underBinder
      extract_lets -descend u1 u2 u3 u4
      have k4 : Kept s0 u4 := State.modEngine_kept h4
      clear_value u1 u2 u3 u4
      exact Kept.ite h4 (Kept.ite (State.bitErr_kept k4) (State.showBits_kept (State.modEngine_kept k4))))

theorem execHbSend_kept {s0 a0 : State} (h0 : Kept s0 a0) : KeptH s0 (execHbSend a0) := by
  unfold execHbSend
  exact KeptH.answer (State.forEach_kept (fun _ _ f0_1 => (by
    lift_lets -underBinder
    extract_lets -descend u1
    clear_value u1
    exact State.laneKick_kept (State.modLane_kept f0_1))) h0)

theorem State.adoptGen_kept {s0 a0 : State} {a1} (h0 : Kept s0 a0) : Kept s0 (State.adoptGen a0 a1) := by
  unfold State.adoptGen
  exact Kept.ite (State.put_kept h0) h0

theorem State.askAgain_kept {s0 a0 : State} (h0 : Kept s0 a0) : Kept s0 (State.askAgain a0) := by
  unfold State.askAgain
  lift_lets -underBinder
  extract_lets -descend u0 u1 u2
  have k2 : Kept s0 u2 := State.modVdt_kept h0
  clear_value u0 u1 u2
  exact State.forEach_kept (fun _ _ f3_1 => Kept.ite (State.hopKick_kept (State.resyncReq_kept f3_1)) f3_1) k2

theorem State.hbBay_kept {s0 a0 : State} {a1 a2 a3 a4 a5 a6 a7} (h0 : Kept s0 a0) : Kept s0 (State.hbBay a0 a1 a2 a3 a4 a5
    a6 a7) := by
  unfold State.hbBay
  lift_lets -underBinder
  extract_lets -descend u0 u1 u2
  have k0 : Kept s0 u0 := State.flag_kept h0
  clear_value u0 u1 u2
  exact Kept.ite k0 (Kept.ite (Kept.ite (State.claimBay_kept k0) (Kept.ite (State.hopKick_kept (State.enterSync_kept k0))
      (Kept.ite (State.claimBay_kept k0) k0))) (Kept.ite (Kept.ite k0 (Kept.ite (State.claimBay_kept k0)
      (State.hopKick_kept (State.enterSync_kept k0)))) (Kept.ite (State.hopKick_kept (State.sendRole_kept k0)) k0)))

theorem State.declareBay_kept {s0 a0 : State} {a1} (h0 : Kept s0 a0) : Kept s0 (State.declareBay a0 a1) := by
  unfold State.declareBay
  lift_lets -underBinder
  extract_lets -descend u0
  clear_value u0
  exact Kept.ite (State.modVdt_kept (State.takeGen_kept h0)) (Kept.ite (State.setRole_kept h0) h0)

theorem State.declareLost_kept {s0 a0 : State} {a1} (h0 : Kept s0 a0) : Kept s0 (State.declareLost a0 a1) := by
  unfold State.declareLost
  lift_lets -underBinder
  extract_lets -descend u0 u1 u2
  have k1 : Kept s0 u1 := State.flag_kept (State.modVdt_kept h0)
  have k2 : Kept s0 u2 := State.forEach_kept (fun _ _ f3_1 => Kept.ite (State.declareBay_kept f3_1) f3_1) k1
  clear_value u0 u1 u2
  exact State.report_kept k2

theorem State.hbTaken_kept {s0 a0 : State} {a1 a2 a3 a4} (h0 : Kept s0 a0) : Kept s0 (State.hbTaken a0 a1 a2 a3 a4) := by
  unfold State.hbTaken
  lift_lets -underBinder
  extract_lets -descend u0 u1 u2 u3 u4 u5 u6 u7 u8 u9 u10 u11 u12 u13
  have k7 : Kept s0 u7 := State.adoptGen_kept h0
  have k8 : Kept s0 u8 := State.modLane_kept k7
  have k9 : Kept s0 u9 := State.modVdt_kept k8
  have k10 : Kept s0 u10 := State.put_kept (State.flag_kept k9)
  have k11 : Kept s0 u11 := State.flag_kept k10
  have k12 : Kept s0 u12 := State.askAgain_kept (State.put_kept k11)
  have k13 : Kept s0 u13 := State.forEach_kept (fun _ _ f14_1 => State.hbBay_kept f14_1) k12
  clear_value u0 u1 u2 u3 u4 u5 u6 u7 u8 u9 u10 u11 u12 u13
  exact Kept.ite (State.declareLost_kept k13) k13

theorem execVdtHb_kept {s0 : State} {a0 a1 a2 a3} {a4 : State} (h4 : Kept s0 a4) : KeptH s0 (execVdtHb a0 a1 a2 a3 a4) := by
  unfold execVdtHb
  exact KeptH.answer (Kept.ite (State.hbTaken_kept h4) h4)

theorem execVdtAck_kept {s0 : State} {a0 a1} {a2 : State} (h2 : Kept s0 a2) : KeptH s0 (execVdtAck a0 a1 a2) := by
  unfold execVdtAck
  lift_lets -underBinder
  extract_lets -descend u0
  clear_value u0
  exact KeptH.answer (Kept.ite (State.hopKick_kept (State.modHop_kept h2)) h2)

theorem State.replayFrom_kept {s0 a0 : State} {a1 a2} (h0 : Kept s0 a0) : Kept s0 (State.replayFrom a0 a1 a2) := by
  unfold State.replayFrom
  lift_lets -underBinder
  extract_lets -descend u0 u1 u2
  have k1 : Kept s0 u1 := State.forEach_kept (fun _ _ f2_1 => State.modLane_kept f2_1) h0
  have k2 : Kept s0 u2 := State.modHop_kept k1
  clear_value u0 u1 u2
  exact State.hopKick_kept (State.inc_kept k2)

theorem execVdtNak_kept {s0 : State} {a0 a1} {a2 : State} (h2 : Kept s0 a2) : KeptH s0 (execVdtNak a0 a1 a2) := by
  unfold execVdtNak
  exact KeptH.answer (Kept.ite (State.replayFrom_kept h2) h2)

theorem State.sendCtl_kept {s0 a0 : State} {a1 a2 a3} (h0 : Kept s0 a0) : Kept s0 (State.sendCtl a0 a1 a2 a3) := by
  unfold State.sendCtl
  exact State.forEach_kept (fun _ _ f0_1 => State.laneKick_kept (State.modLane_kept f0_1)) h0

theorem State.sendAck_kept {s0 a0 : State} {a1} (h0 : Kept s0 a0) : Kept s0 (State.sendAck a0 a1) := by
  unfold State.sendAck
  exact State.sendCtl_kept (State.modHop_kept h0)

theorem execAckTimer_kept {s0 : State} {a0} {a1 : State} (h1 : Kept s0 a1) : KeptH s0 (execAckTimer a0 a1) := by
  unfold execAckTimer
  exact KeptH.answer (Kept.ite (State.sendAck_kept h1) h1)

theorem execReplayTimeout_kept {s0 : State} {a0} {a1 : State} (h1 : Kept s0 a1) : KeptH s0 (execReplayTimeout a0 a1) := by
  unfold execReplayTimeout
  exact KeptH.answer (by
    split
    · exact h1
    · exact State.replayFrom_kept h1)

theorem State.hopTake_kept {s0 a0 : State} {a1 a2} (h0 : Kept s0 a0) : KeptP s0 (State.hopTake a0 a1 a2) := by
  unfold State.hopTake
  lift_lets -underBinder
  extract_lets -descend u0 u1 u2 u3 u4 u5 u6
  have k2 : Kept s0 u2 := State.modHop_kept h0
  have k3 : Kept s0 u3 := State.showSeq_kept (State.forEach_kept (fun _ _ f4_1 => State.modLane_kept f4_1) k2)
  have k4 : Kept s0 u4 := State.modLane_kept h0
  clear_value u0 u1 u2 u3 u4 u5 u6
  exact KeptP.ite (KeptP.mk h0) (KeptP.ite (KeptP.mk (Kept.ite (State.sendAck_kept k3) k3)) (KeptP.ite (KeptP.mk
      (State.sendAck_kept h0)) (KeptP.ite (KeptP.mk (State.sendCtl_kept (State.modHop_kept k4))) (KeptP.mk k4))))

theorem State.stale_kept {s0 a0 : State} {a1 a2 a3 a4} (h0 : Kept s0 a0) : Kept s0 (State.stale a0 a1 a2 a3 a4) := by
  unfold State.stale
  exact State.report_kept (State.flag_kept h0)

theorem State.vdtFrame_kept {s0 a0 : State} {a1 a2 a3 a4 a5} {a6 : State → State} {a7 : State → State} (h0 : Kept s0 a0)
    (h6 : ∀ (b0 : State) (_ : Kept s0 b0), Kept s0 (a6 b0)) (h7 : ∀ (b0 : State) (_ : Kept s0 b0), Kept s0 (a7 b0)) : Kept
    s0 (State.vdtFrame a0 a1 a2 a3 a4 a5 a6 a7) := by
  unfold State.vdtFrame
  refine Kept.ite ?_ ?_
  · exact h0
  · split
    · rename_i v0_0 e0
      have k0_0 := KeptP.of (State.hopTake_kept h0) e0
      exact k0_0
    · rename_i v0_0 e0
      have k0_0 := KeptP.of (State.hopTake_kept h0) e0
      exact Kept.ite (h6 _ (State.stale_kept k0_0)) (h7 _ (State.adoptGen_kept k0_0))

theorem State.applyMirror_kept {s0 a0 : State} {a1 a2 a3 a4 a5 a6 a7} (h0 : Kept s0 a0) : Kept s0 (State.applyMirror a0 a1
    a2 a3 a4 a5 a6 a7) := by
  unfold State.applyMirror
  lift_lets -underBinder
  extract_lets -descend u0 u1
  have k0 : Kept s0 u0 := State.writeMem_kept (State.unpoison_kept (State.snoop_kept h0))
  clear_value u0 u1
  exact Kept.ite (State.stale_kept h0) (Kept.ite (State.stale_kept h0) (Kept.upd k0))

theorem execMrec_kept {s0 : State} {a0 a1 a2 a3 a4 a5 a6 a7} {a8 : State} (h8 : Kept s0 a8) : KeptH s0 (execMrec a0 a1 a2
    a3 a4 a5 a6 a7 a8) := by
  unfold execMrec
  exact KeptH.answer (State.vdtFrame_kept h8 (fun _ f0_0 => f0_0) (fun _ f0_0 => State.applyMirror_kept f0_0))

theorem execBrec_kept {s0 : State} {a0 a1 a2 a3 a4 a5 a6 a7} {a8 : State} (h8 : Kept s0 a8) : KeptH s0 (execBrec a0 a1 a2
    a3 a4 a5 a6 a7 a8) := by
  unfold execBrec
  exact KeptH.answer (State.vdtFrame_kept h8 (fun _ f0_0 => f0_0) (fun _ f0_0 => (by
    lift_lets -underBinder
    extract_lets -descend u1
    have k1 : Kept s0 u1 := State.applyMirror_kept f0_0
    clear_value u1
    exact Kept.ite (State.put_kept k1) k1)))

theorem execMirrorRecordSend_kept {s0 : State} {a0} {a1 : State} (h1 : Kept s0 a1) : KeptH s0 (execMirrorRecordSend a0 a1) := by
  unfold execMirrorRecordSend
  exact KeptH.answer (by
    split
    · exact h1
    · lift_lets -underBinder
      extract_lets -descend u1
      have k1 : Kept s0 u1 := State.put_kept (State.modVdt_kept h1)
      clear_value u1
      exact Kept.ite k1 (State.sendOn_kept k1))

theorem execMirrorQueueFullTimeout_kept {s0 : State} {a0} {a1 : State} (h1 : Kept s0 a1) : KeptH s0
    (execMirrorQueueFullTimeout a0 a1) := by
  unfold execMirrorQueueFullTimeout
  exact KeptH.answer (Kept.ite (State.report_kept (State.flag_kept h1)) h1)

theorem execVdtClaim_kept {s0 : State} {a0 a1 a2 a3} {a4 : State} (h4 : Kept s0 a4) : KeptH s0 (execVdtClaim a0 a1 a2 a3
    a4) := by
  unfold execVdtClaim
  exact KeptH.answer (State.vdtFrame_kept h4 (fun _ f0_0 => f0_0) (fun _ f0_0 => (by
    lift_lets -underBinder
    extract_lets -descend u1
    have k1 : Kept s0 u1 := State.put_kept f0_0
    clear_value u1
    exact Kept.ite k1 (Kept.ite (State.hopKick_kept (State.enterSync_kept k1)) k1))))

theorem execYield_kept {s0 : State} {a0 a1 a2 a3} {a4 : State} (h4 : Kept s0 a4) : KeptH s0 (execYield a0 a1 a2 a3 a4) := by
  unfold execYield
  exact KeptH.answer (State.vdtFrame_kept h4 (fun _ f0_0 => f0_0) (fun _ f0_0 => Kept.ite (State.declareBay_kept f0_0) f0_0))

theorem execSynced_kept {s0 : State} {a0 a1 a2 a3} {a4 : State} (h4 : Kept s0 a4) : KeptH s0 (execSynced a0 a1 a2 a3 a4) := by
  unfold execSynced
  exact KeptH.answer (State.vdtFrame_kept h4 (fun _ f0_0 => f0_0) (fun _ f0_0 => Kept.ite (State.setRole_kept
      (State.put_kept f0_0)) f0_0))

theorem execResyncReq_kept {s0 : State} {a0 a1 a2 a3 a4} {a5 : State} (h5 : Kept s0 a5) : KeptH s0 (execResyncReq a0 a1 a2
    a3 a4 a5) := by
  unfold execResyncReq
  exact KeptH.answer (State.vdtFrame_kept h5 (fun _ f0_0 => f0_0) (fun _ f0_0 => Kept.ite (Kept.ite (State.hopKick_kept
      (State.put_kept (State.modVdt_kept f0_0))) (State.hopKick_kept (State.sendRole_kept f0_0))) f0_0))

theorem execRefuse_kept {s0 : State} {a0 a1 a2 a3} {a4 : State} (h4 : Kept s0 a4) : KeptH s0 (execRefuse a0 a1 a2 a3 a4) := by
  unfold execRefuse
  exact KeptH.answer (State.vdtFrame_kept h4 (fun _ f0_0 => f0_0) (fun _ f0_0 => State.stale_kept (State.modVdt_kept f0_0)))

theorem execVdtMsg_kept {s0 : State} {a0 a1 a2 a3 a4 a5 a6} {a7 : State} (h7 : Kept s0 a7) : KeptH s0 (execVdtMsg a0 a1 a2
    a3 a4 a5 a6 a7) := by
  unfold execVdtMsg
  exact KeptH.answer (State.vdtFrame_kept h7 (fun _ f0_0 => State.sendMrsp_kept f0_0) (fun _ f0_0 => (by
    split
    · exact Kept.ite (Kept.ite (State.vdtHeld_kept (State.modVdt_kept f0_0)) (State.sendMrsp_kept f0_0))
          (State.sendMrsp_kept f0_0)
    · exact State.sendMrsp_kept f0_0)))

theorem execMrsp_kept {s0 : State} {a0 a1 a2 a3 a4 a5} {a6 : State} (h6 : Kept s0 a6) : KeptH s0 (execMrsp a0 a1 a2 a3 a4
    a5 a6) := by
  unfold execMrsp
  exact KeptH.answer (State.vdtFrame_kept h6 (fun _ f0_0 => f0_0) (fun _ f0_0 => (by
    lift_lets -underBinder
    extract_lets -descend u1 u2
    have k2 : Kept s0 u2 := Kept.ite f0_0 (Kept.ite (State.mbxTaken_kept f0_0) (Kept.ite (State.mbxRefused_kept f0_0)
        (State.mbxRefused_kept f0_0)))
    clear_value u1 u2
    exact State.vdtBound_kept k2)))

theorem execVdtDb_kept {s0 : State} {a0 a1 a2 a3 a4} {a5 : State} (h5 : Kept s0 a5) : KeptH s0 (execVdtDb a0 a1 a2 a3 a4
    a5) := by
  unfold execVdtDb
  exact KeptH.answer (State.vdtFrame_kept h5 (fun _ f0_0 => f0_0) (fun _ f0_0 => (by
    split
    · exact Kept.ite f0_0 (Kept.ite (State.modVdt_kept f0_0) (State.flag_kept f0_0))
    · exact f0_0)))

theorem execHeartbeatMiss_kept {s0 a0 : State} (h0 : Kept s0 a0) : KeptH s0 (execHeartbeatMiss a0) := by
  unfold execHeartbeatMiss
  lift_lets -underBinder
  extract_lets -descend u0 u1 u2
  have k1 : Kept s0 u1 := State.inc_kept (State.modVdt_kept h0)
  have k2 : Kept s0 u2 := Kept.ite (State.flag_kept k1) k1
  clear_value u0 u1 u2
  exact KeptH.answer (Kept.ite h0 (Kept.ite (State.declareLost_kept k2) k2))

theorem execWitnessChange_kept {s0 : State} {a0} {a1 : State} (h1 : Kept s0 a1) : KeptH s0 (execWitnessChange a0 a1) := by
  unfold execWitnessChange
  lift_lets -underBinder
  extract_lets -descend u0
  have k0 : Kept s0 u0 := State.modVdt_kept (State.flag_kept h1)
  clear_value u0
  exact KeptH.answer (Kept.ite h1 (Kept.ite (State.declareLost_kept k0) k0))

theorem execWitnessDisagree_kept {s0 a0 : State} (h0 : Kept s0 a0) : KeptH s0 (execWitnessDisagree a0) := by
  unfold execWitnessDisagree
  lift_lets -underBinder
  extract_lets -descend u0 u1 u2 u3 u4
  have k2 : Kept s0 u2 := State.flag_kept (State.modVdt_kept h0)
  have k3 : Kept s0 u3 := Kept.ite (State.forEach_kept (fun _ _ f4_1 => Kept.ite (State.enterSync_kept f4_1) f4_1) k2) k2
  have k4 : Kept s0 u4 := State.hopKick_kept k3
  clear_value u0 u1 u2 u3 u4
  exact KeptH.answer (Kept.ite h0 (State.report_kept k4))

theorem execUndecidedTimeout_kept {s0 : State} {a0} {a1 : State} (h1 : Kept s0 a1) : KeptH s0 (execUndecidedTimeout a0 a1) := by
  unfold execUndecidedTimeout
  exact KeptH.answer (Kept.ite h1 (Kept.ite (State.claimBay_kept h1) (State.report_kept (State.flag_kept
      (State.setRole_kept h1)))))

theorem State.byVdtPage_kept {s0 a0 : State} {a1 a2 a3} {a4 : State → State} (h0 : Kept s0 a0) (h4 : ∀ (b0 : State) (_ :
    Kept s0 b0), Kept s0 (a4 b0)) : Kept s0 (State.byVdtPage a0 a1 a2 a3 a4) := by
  unfold State.byVdtPage
  exact State.act_kept h0 h4

theorem execHandover_kept {s0 : State} {a0 a1} {a2 : State} (h2 : Kept s0 a2) : KeptH s0 (execHandover a0 a1 a2) := by
  unfold execHandover
  exact KeptH.answer (State.byVdtPage_kept h2 (fun _ f0_0 => State.handover_kept f0_0))

theorem execSelfFault_kept {s0 : State} {a0} {a1 : State} (h1 : Kept s0 a1) : KeptH s0 (execSelfFault a0 a1) := by
  unfold execSelfFault
  exact KeptH.answer (State.byOwner_kept h1 (fun _ f0_0 => State.selfFault_kept f0_0))

theorem State.pairFollow_kept {s0 a0 : State} {a1} (h0 : Kept s0 a0) : Kept s0 (State.pairFollow a0 a1) := by
  unfold State.pairFollow
  refine Kept.ite ?_ ?_
  · exact h0
  · refine Kept.ite ?_ ?_
    · exact State.setAdj_kept h0
    · split
      · lift_lets -underBinder
        extract_lets -descend u1 u2 u3
        clear_value u1 u2 u3
        exact State.submitCorr_kept h0
      · exact h0

theorem execLaneFrameEnd_kept {s0 : State} {a0} {a1 : State} (h1 : Kept s0 a1) : KeptH s0 (execLaneFrameEnd a0 a1) := by
  unfold execLaneFrameEnd
  exact KeptH.answer (State.laneKick_kept (State.modLane_kept h1))

theorem execLaneFrameDiscard_kept {s0 : State} {a0} {a1 : State} (h1 : Kept s0 a1) : KeptH s0 (execLaneFrameDiscard a0 a1) := by
  unfold execLaneFrameDiscard
  exact KeptH.answer (Kept.ite h1 (State.inc_kept h1))

theorem execReplayRateInterval_kept {s0 : State} {a0} {a1 : State} (h1 : Kept s0 a1) : KeptH s0 (execReplayRateInterval a0
    a1) := by
  unfold execReplayRateInterval
  lift_lets -underBinder
  extract_lets -descend u0 u1
  have k1 : Kept s0 u1 := State.modHop_kept h1
  clear_value u0 u1
  exact KeptH.answer (Kept.ite (Kept.ite (State.report_kept k1) (State.report_kept k1)) k1)

end Sys2Proof.Machine
end

