-- ==== Sys2Proof/Laws/KeptDrives.lean ====
section
/-! SUPPORT.
Every operation keeps the canonical form, the queue and the flash: engines, converters and drives. -/

namespace Sys2Proof.Machine

theorem State.showDrv_kept {s0 a0 : State} {a1} (h0 : Kept s0 a0) : Kept s0 (State.showDrv a0 a1) := by
  unfold State.showDrv
  lift_lets -underBinder
  extract_lets -descend u0 u1 u2 u3
  have k3 : Kept s0 u3 := State.flag_kept (State.flag_kept h0)
  clear_value u0 u1 u2 u3
  exact Kept.ite k3 (State.put_kept k3)

theorem State.drvTo_kept {s0 a0 : State} {a1 a2} (h0 : Kept s0 a0) : Kept s0 (State.drvTo a0 a1 a2) := by
  unfold State.drvTo
  lift_lets -underBinder
  extract_lets -descend u0 u1 u2 u3 u4 u5
  have k1 : Kept s0 u1 := Kept.ite (State.drvIrq_kept h0) h0
  have k3 : Kept s0 u3 := Kept.ite k1 (State.modDrv_kept k1)
  have k4 : Kept s0 u4 := Kept.ite k3 (State.gatesOff_kept k3)
  have k5 : Kept s0 u5 := Kept.ite (State.brkTo_kept k4) k4
  clear_value u0 u1 u3 u4 u5
  exact State.showDrv_kept (State.put_kept k5)

theorem State.loadSet_kept {s0 a0 : State} {a1 a2 a3} (h0 : Kept s0 a0) : Kept s0 (State.loadSet a0 a1 a2 a3) := by
  unfold State.loadSet
  lift_lets -underBinder
  extract_lets -descend u0 u1 u2 u3 u4 u5
  have k2 : Kept s0 u2 := State.modDrv_kept h0
  have k4 : Kept s0 u4 := State.put_kept (State.modDrv_kept k2)
  have k5 : Kept s0 u5 := State.flag_kept (State.flag_kept (State.flag_kept k4))
  clear_value u0 u1 u2 u3 u4 u5
  exact Kept.ite (State.put_kept (State.put_kept (State.put_kept k5))) (State.report_kept (State.flag_kept k2))

theorem State.toReady_kept {s0 a0 : State} {a1} (h0 : Kept s0 a0) : Kept s0 (State.toReady a0 a1) := by
  unfold State.toReady
  refine Kept.ite ?_ ?_
  · split
    · exact State.drvTo_kept (State.loadSet_kept (State.modDrv_kept h0))
    · exact State.drvTo_kept h0
  · exact State.drvTo_kept h0

theorem State.legChange_kept {s0 a0 : State} {a1 a2 a3} (h0 : Kept s0 a0) : Kept s0 (State.legChange a0 a1 a2 a3) := by
  unfold State.legChange
  exact State.modDrv_kept h0

theorem State.legTo_kept {s0 a0 : State} {a1 a2 a3} (h0 : Kept s0 a0) : Kept s0 (State.legTo a0 a1 a2 a3) := by
  unfold State.legTo
  lift_lets -underBinder
  extract_lets -descend u0
  clear_value u0
  exact Kept.ite (State.modDrv_kept h0) (Kept.ite (State.legChange_kept h0) (State.modDrv_kept (State.inc_kept h0)))

theorem State.applyVec_kept {s0 a0 : State} {a1 a2} (h0 : Kept s0 a0) : Kept s0 (State.applyVec a0 a1 a2) := by
  unfold State.applyVec
  lift_lets -underBinder
  extract_lets -descend u0
  have k0 : Kept s0 u0 := State.legTo_kept (State.legTo_kept (State.legTo_kept h0))
  clear_value u0
  exact State.put_kept (State.modDrv_kept k0)

theorem State.testPulse_kept {s0 a0 : State} {a1 a2} (h0 : Kept s0 a0) : Kept s0 (State.testPulse a0 a1 a2) := by
  unfold State.testPulse
  exact State.modDrv_kept (State.applyVec_kept h0)

theorem State.drvTrip_kept {s0 a0 : State} {a1 a2 a3 a4 a5} (h0 : Kept s0 a0) : Kept s0 (State.drvTrip a0 a1 a2 a3 a4 a5) := by
  unfold State.drvTrip
  lift_lets -underBinder
  extract_lets -descend u0 u1 u2
  have k2 : Kept s0 u2 := State.put_kept (State.drvTo_kept h0)
  clear_value u0 u1 u2
  exact Kept.ite (State.report_kept (State.drvIrq_kept (State.put_kept (State.put_kept k2)))) (Kept.ite (State.report_kept
      (Kept.ite (State.put_kept h0) h0)) h0)

theorem State.startFail_kept {s0 a0 : State} {a1 a2} (h0 : Kept s0 a0) : Kept s0 (State.startFail a0 a1 a2) := by
  unfold State.startFail
  exact Kept.ite (State.drvIrq_kept (State.drvTrip_kept h0)) (State.report_kept (State.drvIrq_kept (State.toReady_kept h0)))

theorem State.setFlux_kept {s0 a0 : State} {a1 a2 a3} (h0 : Kept s0 a0) : Kept s0 (State.setFlux a0 a1 a2 a3) := by
  unfold State.setFlux
  exact State.modDrv_kept h0

theorem State.toRunning_kept {s0 a0 : State} {a1} (h0 : Kept s0 a0) : Kept s0 (State.toRunning a0 a1) := by
  unfold State.toRunning
  exact State.drvIrq_kept (State.drvTo_kept h0)

theorem State.testEval_kept {s0 a0 : State} {a1} (h0 : Kept s0 a0) : Kept s0 (State.testEval a0 a1) := by
  unfold State.testEval
  lift_lets -underBinder
  extract_lets -descend u0
  clear_value u0
  split
  · refine Kept.ite ?_ ?_
    · exact State.startFail_kept h0
    · split
      · rename_i v2_0 v2_1 e2
        have k2_0 := KeptP.of (by
    split
    · exact KeptP.mk h0
    · exact KeptP.mk (State.took_kept h0)) e2
        lift_lets -underBinder
        extract_lets -descend u3
        have k3 : Kept s0 u3 := State.setFlux_kept (State.modDrv_kept k2_0)
        clear_value u3
        exact Kept.ite (State.modDrv_kept (State.gatesOff_kept k3)) (State.toRunning_kept k3)

theorem State.testTick_kept {s0 a0 : State} {a1} (h0 : Kept s0 a0) : Kept s0 (State.testTick a0 a1) := by
  unfold State.testTick
  lift_lets -underBinder
  extract_lets -descend u0
  clear_value u0
  split
  · exact h0
  · exact Kept.ite h0 (Kept.ite (State.toReady_kept h0) (Kept.ite (State.modDrv_kept (State.applyVec_kept h0)) (Kept.ite
        (State.testPulse_kept h0) (State.testEval_kept h0))))

theorem State.mismatchTrip_kept {s0 a0 : State} {a1} (h0 : Kept s0 a0) : Kept s0 (State.mismatchTrip a0 a1) := by
  unfold State.mismatchTrip
  lift_lets -underBinder
  extract_lets -descend u0 u1 u2
  have k0 : Kept s0 u0 := State.brkTo_kept h0
  have k2 : Kept s0 u2 := State.drvTo_kept k0
  clear_value u0 u1 u2
  exact Kept.ite (State.drvIrq_kept (State.put_kept (State.put_kept k2))) k2

theorem State.drvRail_kept {s0 a0 : State} {a1} (h0 : Kept s0 a0) : Kept s0 (State.drvRail a0 a1) := by
  unfold State.drvRail
  exact Kept.ite (State.mismatchTrip_kept h0) h0

theorem State.endImageQueues_kept {s0 a0 : State} {a1} (h0 : Kept s0 a0) : Kept s0 (State.endImageQueues a0 a1) := by
  unfold State.endImageQueues
  lift_lets -underBinder
  extract_lets -descend u0
  clear_value u0
  exact State.forEach_kept (fun _ _ f1_1 => State.forEach_kept (fun _ _ f2_1 => State.forEach_kept (fun _ _ f3_1 =>
      Kept.ite (State.finishDesc_kept f3_1) (State.finishDesc_kept f3_1)) f2_1) f1_1) h0

theorem State.imageEnd_kept {s0 a0 : State} {a1} (h0 : Kept s0 a0) : Kept s0 (State.imageEnd a0 a1) := by
  unfold State.imageEnd
  lift_lets -underBinder
  extract_lets -descend u0 u1 u2 u3
  have k3 : Kept s0 u3 := Kept.ite (State.mbxStatus_kept (State.setMbx_kept h0)) h0
  clear_value u0 u1 u2 u3
  exact State.endImageQueues_kept k3

theorem State.settleRetired_kept {s0 a0 : State} (h0 : Kept s0 a0) : Kept s0 (State.settleRetired a0) := by
  unfold State.settleRetired
  exact State.forEach_kept (fun _ _ f0_1 => State.modEngine_kept (State.imageEnd_kept f0_1)) h0

theorem State.drvReady_kept {s0 a0 : State} {a1} (h0 : Kept s0 a0) : Kept s0 (State.drvReady a0 a1) := by
  unfold State.drvReady
  exact Kept.ite (State.toReady_kept h0) (Kept.ite (State.drvTo_kept h0) h0)

theorem State.tagSet_kept {s0 a0 : State} {a1 a2} (h0 : Kept s0 a0) : Kept s0 (State.tagSet a0 a1 a2) := by
  unfold State.tagSet
  exact Kept.ite h0 (Kept.ite (State.drvReady_kept (State.loadSet_kept h0)) (State.modDrv_kept h0))

theorem State.drvInit_kept {s0 a0 : State} {a1 a2} (h0 : Kept s0 a0) : Kept s0 (State.drvInit a0 a1 a2) := by
  unfold State.drvInit
  lift_lets -underBinder
  extract_lets -descend u0 u1 u2 u3 u4
  have k2 : Kept s0 u2 := State.modDrv_kept h0
  have k3 : Kept s0 u3 := State.flag_kept (State.resetRegs_kept k2)
  have k4 : Kept s0 u4 := State.flag_kept k3
  clear_value u0 u1 u2 u3 u4
  split
  · exact k4
  · lift_lets -underBinder
    extract_lets -descend u6
    have k6 : Kept s0 u6 := (by
    unfold u6
    split
    · exact Kept.ite (State.loadSet_kept k4) (State.loadSet_kept k4)
    · exact State.loadSet_kept k4)
    clear_value u6
    exact State.drvReady_kept k6

theorem State.loadKick_kept {s0 a0 : State} (h0 : Kept s0 a0) : Kept s0 (State.loadKick a0) := by
  unfold State.loadKick
  exact State.forEach_kept (fun _ _ f0_1 => (by
    refine Kept.ite ?_ ?_
    · split
      · exact Kept.ite f0_1 (Kept.ite (State.put_kept f0_1) (Kept.ite f0_1 (Kept.ite f0_1 (State.modEngine_kept
            (State.put_kept f0_1)))))
      · exact f0_1
    · exact f0_1)) h0

theorem State.sendReplies_kept {s0 : State} {a0 : Nat} {a1 : State} {a2} (h1 : Kept s0 a1) : Kept s0 (State.sendReplies a0 a1 a2) := by
  induction a0 generalizing a1 with
  | zero => exact h1
  | succ n ih =>
    unfold State.sendReplies
    split
    · exact h1
    · exact Kept.ite (ih (State.linksBound_kept (State.mbxPut_kept (State.forEach_kept (fun _ _ h => State.mbxPut_kept h)
        (State.modEngine_kept h1))))) h1

theorem State.imgCount_kept {s0 a0 : State} {a1 a2 a3} (h0 : Kept s0 a0) : Kept s0 (State.imgCount a0 a1 a2 a3) := by
  unfold State.imgCount
  exact State.modEngine_kept h0

theorem State.putReply_kept {s0 a0 : State} {a1 a2} (h0 : Kept s0 a0) : Kept s0 (State.putReply a0 a1 a2) := by
  unfold State.putReply
  lift_lets -underBinder
  extract_lets -descend u0
  have k0 : Kept s0 u0 := State.modEngine_kept h0
  clear_value u0
  exact State.sendReplies_kept k0

theorem State.imgEvent_kept {s0 a0 : State} {a1 a2 a3 a4} (h0 : Kept s0 a0) : Kept s0 (State.imgEvent a0 a1 a2 a3 a4) := by
  unfold State.imgEvent
  lift_lets -underBinder
  extract_lets -descend u0 u1 u2
  have k2 : Kept s0 u2 := State.sendReplies_kept h0
  clear_value u0 u1 u2
  exact Kept.ite h0 (Kept.ite (State.imgCount_kept k2) (State.putReply_kept k2))

theorem State.quietDrivers_kept {s0 a0 : State} {a1} (h0 : Kept s0 a0) : Kept s0 (State.quietDrivers a0 a1) := by
  unfold State.quietDrivers
  exact State.forEach_kept (fun _ _ f0_1 => State.flag_kept f0_1) h0

theorem State.abortOut_kept {s0 a0 : State} {a1} (h0 : Kept s0 a0) : Kept s0 (State.abortOut a0 a1) := by
  unfold State.abortOut
  lift_lets -underBinder
  extract_lets -descend u0
  clear_value u0
  exact State.forEach_kept (fun _ _ f1_1 => State.abortDesc_kept f1_1) h0

theorem State.imgEnter_kept {s0 a0 : State} {a1 a2} (h0 : Kept s0 a0) : Kept s0 (State.imgEnter a0 a1 a2) := by
  unfold State.imgEnter
  lift_lets -underBinder
  extract_lets -descend u0 u1 u2
  have k1 : Kept s0 u1 := State.quietDrivers_kept (State.modEngine_kept h0)
  have k2 : Kept s0 u2 := Kept.ite (State.abortOut_kept k1) k1
  clear_value u0 u1 u2
  exact State.imgEvent_kept k2

theorem State.imgFatal_kept {s0 a0 : State} {a1 a2} (h0 : Kept s0 a0) : Kept s0 (State.imgFatal a0 a1 a2) := by
  unfold State.imgFatal
  exact Kept.ite h0 (State.report_kept (State.imgEnter_kept h0))

theorem State.imgStart_kept {s0 a0 : State} {a1} (h0 : Kept s0 a0) : KeptP s0 (State.imgStart a0 a1) := by
  unfold State.imgStart
  lift_lets -underBinder
  extract_lets -descend u0
  clear_value u0
  exact KeptP.ite (KeptP.mk h0) (KeptP.ite (KeptP.mk (State.imgFatal_kept h0)) (KeptP.ite (KeptP.mk h0) (KeptP.mk
      (State.imgEnter_kept h0))))

theorem State.imgConfigured_kept {s0 a0 : State} {a1 a2} (h0 : Kept s0 a0) : Kept s0 (State.imgConfigured a0 a1 a2) := by
  unfold State.imgConfigured
  lift_lets -underBinder
  extract_lets -descend u0
  have k0 : Kept s0 u0 := State.modEngine_kept h0
  clear_value u0
  exact Kept.ite (State.imgFatal_kept h0) (Kept.ite (State.imgStart_kept k0) k0)

theorem State.engineRun_kept {s0 a0 : State} {a1 a2 a3} (h0 : Kept s0 a0) : Kept s0 (State.engineRun a0 a1 a2 a3) := by
  unfold State.engineRun
  lift_lets -underBinder
  extract_lets -descend u0 u1 u2 u3 u4 u5 u6
  have k0 : Kept s0 u0 := State.put_kept (State.put_kept (State.put_kept h0))
  have k1 : Kept s0 u1 := State.bump_kept (State.setB_kept k0)
  have k3 : Kept s0 u3 := State.modEngine_kept k1
  have k4 : Kept s0 u4 := State.imgEvent_kept (State.quietDrivers_kept k3)
  clear_value u0 u1 u2 u3 u4 u5 u6
  exact Kept.ite k4 (Kept.ite (State.imgConfigured_kept k4) (State.imgConfigured_kept k4))

theorem State.engineLoaded_kept {s0 a0 : State} {a1 a2} (h0 : Kept s0 a0) : Kept s0 (State.engineLoaded a0 a1 a2) := by
  unfold State.engineLoaded
  lift_lets -underBinder
  extract_lets -descend u0 u1 u2
  have k0 : Kept s0 u0 := State.zeroMem_kept h0
  have k1 : Kept s0 u1 := State.putBytes_kept k0
  have k2 : Kept s0 u2 := State.modEngine_kept k1
  clear_value u0 u1 u2
  exact State.engineRun_kept k2

theorem State.engineBack_kept {s0 a0 : State} {a1} (h0 : Kept s0 a0) : Kept s0 (State.engineBack a0 a1) := by
  unfold State.engineBack
  lift_lets -underBinder
  extract_lets -descend u0 u1
  have k0 : Kept s0 u0 := State.zeroMem_kept h0
  have k1 : Kept s0 u1 := State.put_kept k0
  clear_value u0 u1
  exact State.modEngine_kept k1

theorem State.imageStop_kept {s0 a0 : State} {a1} (h0 : Kept s0 a0) : Kept s0 (State.imageStop a0 a1) := by
  unfold State.imageStop
  lift_lets -underBinder
  extract_lets -descend u0 u1 u2 u3
  have k1 : Kept s0 u1 := Kept.ite (State.imageEnd_kept h0) h0
  have k2 : Kept s0 u2 := State.zeroMem_kept (State.clrB_kept k1)
  have k3 : Kept s0 u3 := State.put_kept (State.put_kept (State.put_kept k2))
  clear_value u0 u1 u2 u3
  exact State.modEngine_kept k3

theorem State.modAdc_kept {s0 a0 : State} {a1} {a2 : AdcPort → AdcPort} (h0 : Kept s0 a0) : Kept s0 (State.modAdc a0 a1 a2)
    := by
  unfold State.modAdc
  exact Kept.upd h0

theorem State.resetAdc_kept {s0 a0 : State} {a1} (h0 : Kept s0 a0) : Kept s0 (State.resetAdc a0 a1) := by
  unfold State.resetAdc
  lift_lets -underBinder
  extract_lets -descend u0 u1 u2 u3
  have k2 : Kept s0 u2 := (by
    unfold u2
    refine Kept.ite ?_ ?_
    · split
      · exact State.finishDesc_kept h0
      · exact h0
    · exact h0)
  have k3 : Kept s0 u3 := State.resetRegs_kept (State.modAdc_kept k2)
  clear_value u0 u1 u2 u3
  exact State.flag_kept k3

theorem State.modSdm_kept {s0 a0 : State} {a1} {a2 : SdmPort → SdmPort} (h0 : Kept s0 a0) : Kept s0 (State.modSdm a0 a1 a2)
    := by
  unfold State.modSdm
  exact Kept.upd h0

theorem State.showSdmClk_kept {s0 a0 : State} (h0 : Kept s0 a0) : Kept s0 (State.showSdmClk a0) := by
  unfold State.showSdmClk
  exact State.flag_kept h0

theorem State.resetSdm_kept {s0 a0 : State} {a1} (h0 : Kept s0 a0) : Kept s0 (State.resetSdm a0 a1) := by
  unfold State.resetSdm
  lift_lets -underBinder
  extract_lets -descend u0 u1 u2 u3
  have k2 : Kept s0 u2 := (by
    unfold u2
    refine Kept.ite ?_ ?_
    · split
      · exact State.finishDesc_kept h0
      · exact h0
    · exact h0)
  have k3 : Kept s0 u3 := State.resetRegs_kept (State.modSdm_kept k2)
  clear_value u0 u1 u2 u3
  exact State.showSdmClk_kept (State.flag_kept k3)

theorem State.adcLate_kept {s0 a0 : State} {a1 a2 a3} (h0 : Kept s0 a0) : Kept s0 (State.adcLate a0 a1 a2 a3) := by
  unfold State.adcLate
  lift_lets -underBinder
  extract_lets -descend u0
  clear_value u0
  exact State.report_kept (State.flag_kept h0)

theorem State.showAdc_kept {s0 a0 : State} {a1} (h0 : Kept s0 a0) : Kept s0 (State.showAdc a0 a1) := by
  unfold State.showAdc
  lift_lets -underBinder
  extract_lets -descend u0 u1
  clear_value u0 u1
  exact State.put_kept (State.put_kept h0)

theorem State.adcKick_kept {s0 a0 : State} {a1} (h0 : Kept s0 a0) : Kept s0 (State.adcKick a0 a1) := by
  unfold State.adcKick
  lift_lets -underBinder
  extract_lets -descend u0
  clear_value u0
  refine Kept.ite ?_ ?_
  · exact State.showAdc_kept h0
  · split
    · exact State.showAdc_kept h0
    · lift_lets -underBinder
      extract_lets -descend u2
      have k2 : Kept s0 u2 := State.showAdc_kept (State.modAdc_kept h0)
      clear_value u2
      exact Kept.ite k2 (State.adcLate_kept (State.inc_kept k2))

theorem State.adcTrigger_kept {s0 a0 : State} {a1 a2} (h0 : Kept s0 a0) : Kept s0 (State.adcTrigger a0 a1 a2) := by
  unfold State.adcTrigger
  lift_lets -underBinder
  extract_lets -descend u0
  clear_value u0
  refine Kept.ite ?_ ?_
  · exact h0
  · refine Kept.ite ?_ ?_
    · exact Kept.ite h0 (State.adcLate_kept (State.inc_kept h0))
    · split
      · exact State.adcKick_kept (State.modAdc_kept h0)
      · exact Kept.ite (State.adcKick_kept (State.modAdc_kept h0)) (Kept.ite (State.adcKick_kept (State.modAdc_kept h0))
            (State.showAdc_kept (State.modAdc_kept h0)))

theorem State.seqTrigger_kept {s0 a0 : State} {a1 a2} (h0 : Kept s0 a0) : Kept s0 (State.seqTrigger a0 a1 a2) := by
  unfold State.seqTrigger
  exact State.adcTrigger_kept h0

theorem State.adcTev_kept {s0 a0 : State} {a1} (h0 : Kept s0 a0) : Kept s0 (State.adcTev a0 a1) := by
  unfold State.adcTev
  exact State.forEach_kept (fun _ _ f0_1 => State.forEach_kept (fun _ _ f1_1 => Kept.ite (State.seqTrigger_kept f1_1) f1_1)
      f0_1) h0

theorem State.reelRestart_kept {s0 a0 : State} {a1} (h0 : Kept s0 a0) : Kept s0 (State.reelRestart a0 a1) := by
  unfold State.reelRestart
  lift_lets -underBinder
  extract_lets -descend u0
  clear_value u0
  exact Kept.ite (State.loadKick_kept (State.put_kept (State.imageStop_kept h0))) h0

theorem State.catchStep_kept {s0 a0 : State} {a1 a2} (h0 : Kept s0 a0) : Kept s0 (State.catchStep a0 a1 a2) := by
  unfold State.catchStep
  lift_lets -underBinder
  extract_lets -descend u0
  have k0 : Kept s0 u0 := State.modDrv_kept h0
  clear_value u0
  exact Kept.ite (State.applyVec_kept k0) (State.gatesOff_kept k0)

theorem State.takeDrvs_kept {s0 a0 : State} {a1} (h0 : Kept s0 a0) : Kept s0 (State.takeDrvs a0 a1) := by
  unfold State.takeDrvs
  exact State.forEach_kept (fun _ _ f0_1 => Kept.ite (Kept.ite (State.drvRail_kept (State.catchStep_kept (State.drvTo_kept
      (State.modDrv_kept f0_1)))) (State.toReady_kept f0_1)) f0_1) h0

theorem State.takeOver_kept {s0 a0 : State} {a1} (h0 : Kept s0 a0) : Kept s0 (State.takeOver a0 a1) := by
  unfold State.takeOver
  exact Kept.ite (State.takeDrvs_kept (State.claimBay_kept h0)) (State.flag_kept h0)

theorem State.drvStat_kept {s0 a0 : State} {a1 a2} (h0 : Kept s0 a0) : Kept s0 (State.drvStat a0 a1 a2) := by
  unfold State.drvStat
  exact State.put_kept (State.put_kept h0)

theorem State.drvBegin_kept {s0 a0 : State} {a1 a2} (h0 : Kept s0 a0) : Kept s0 (State.drvBegin a0 a1 a2) := by
  unfold State.drvBegin
  lift_lets -underBinder
  extract_lets -descend u0 u1 u2
  have k0 : Kept s0 u0 := State.modDrv_kept h0
  have k1 : Kept s0 u1 := State.put_kept k0
  have k2 : Kept s0 u2 := State.flag_kept (State.flag_kept (State.put_kept k1))
  clear_value u0 u1 u2
  exact Kept.ite (State.catchStep_kept (State.drvTo_kept k2)) (Kept.ite (State.testPulse_kept (State.drvTo_kept k2))
      (State.drvTo_kept k2))

theorem State.drvStart_kept {s0 a0 : State} {a1 a2} (h0 : Kept s0 a0) : Kept s0 (State.drvStart a0 a1 a2) := by
  unfold State.drvStart
  lift_lets -underBinder
  extract_lets -descend u0
  clear_value u0
  exact Kept.ite (State.drvRail_kept (State.drvStat_kept (State.drvBegin_kept h0))) (State.drvStat_kept h0)

theorem State.toDecel_kept {s0 a0 : State} {a1} (h0 : Kept s0 a0) : Kept s0 (State.toDecel a0 a1) := by
  unfold State.toDecel
  lift_lets -underBinder
  extract_lets -descend u0
  clear_value u0
  exact State.drvTo_kept (State.modDrv_kept h0)

theorem State.drvStop_kept {s0 a0 : State} {a1} (h0 : Kept s0 a0) : Kept s0 (State.drvStop a0 a1) := by
  unfold State.drvStop
  lift_lets -underBinder
  extract_lets -descend u0
  clear_value u0
  exact Kept.ite (State.drvStat_kept h0) (Kept.ite (State.drvStat_kept (State.modDrv_kept h0)) (Kept.ite
      (State.drvStat_kept (State.toDecel_kept h0)) (Kept.ite (State.drvStat_kept (State.modDrv_kept h0))
      (State.drvStat_kept h0))))

theorem State.drvCoast_kept {s0 a0 : State} {a1} (h0 : Kept s0 a0) : Kept s0 (State.drvCoast a0 a1) := by
  unfold State.drvCoast
  lift_lets -underBinder
  extract_lets -descend u0
  clear_value u0
  exact Kept.ite (State.drvStat_kept (State.modDrv_kept h0)) (State.drvStat_kept h0)

theorem State.psetLoad_kept {s0 a0 : State} {a1 a2} (h0 : Kept s0 a0) : Kept s0 (State.psetLoad a0 a1 a2) := by
  unfold State.psetLoad
  lift_lets -underBinder
  extract_lets -descend u0
  clear_value u0
  exact Kept.ite (State.drvStat_kept h0) (Kept.ite (State.drvStat_kept h0) (State.drvStat_kept (State.drvReady_kept
      (State.loadSet_kept h0))))

theorem State.tripClear_kept {s0 a0 : State} {a1} (h0 : Kept s0 a0) : Kept s0 (State.tripClear a0 a1) := by
  unfold State.tripClear
  exact Kept.ite (State.toReady_kept (State.put_kept (State.modDrv_kept h0))) h0

theorem State.rxFlush_kept {s0 a0 : State} {a1 a2 a3} (h0 : Kept s0 a0) : Kept s0 (State.rxFlush a0 a1 a2 a3) := by
  unfold State.rxFlush
  refine Kept.ite ?_ ?_
  · exact h0
  · split
    · exact State.finishDesc_kept h0
    · exact h0

theorem State.adcFlush_kept {s0 a0 : State} {a1} (h0 : Kept s0 a0) : Kept s0 (State.adcFlush a0 a1) := by
  unfold State.adcFlush
  lift_lets -underBinder
  extract_lets -descend u0
  clear_value u0
  exact State.modAdc_kept (State.rxFlush_kept h0)

theorem State.adcOff_kept {s0 a0 : State} {a1} (h0 : Kept s0 a0) : Kept s0 (State.adcOff a0 a1) := by
  unfold State.adcOff
  lift_lets -underBinder
  extract_lets -descend u0
  have k0 : Kept s0 u0 := State.modAdc_kept h0
  clear_value u0
  exact Kept.ite (State.showAdc_kept k0) (State.showAdc_kept (State.adcFlush_kept k0))

theorem State.seqGo_kept {s0 a0 : State} {a1 a2} (h0 : Kept s0 a0) : Kept s0 (State.seqGo a0 a1 a2) := by
  unfold State.seqGo
  exact Kept.ite (State.seqTrigger_kept h0) h0

theorem State.sdmFlush_kept {s0 a0 : State} {a1} (h0 : Kept s0 a0) : Kept s0 (State.sdmFlush a0 a1) := by
  unfold State.sdmFlush
  lift_lets -underBinder
  extract_lets -descend u0
  clear_value u0
  exact State.modSdm_kept (State.rxFlush_kept h0)

theorem State.tripInput_kept {s0 a0 : State} {a1 a2 a3} (h0 : Kept s0 a0) : Kept s0 (State.tripInput a0 a1 a2 a3) := by
  unfold State.tripInput
  lift_lets -underBinder
  extract_lets -descend u0
  have k0 : Kept s0 u0 := State.modDrv_kept h0
  clear_value u0
  exact State.flag_kept k0

theorem execOvercurrentTrip_kept {s0 : State} {a0 a1 a2 a3} {a4 : State} (h4 : Kept s0 a4) : KeptH s0 (execOvercurrentTrip
    a0 a1 a2 a3 a4) := by
  unfold execOvercurrentTrip
  lift_lets -underBinder
  extract_lets -descend u0
  have k0 : Kept s0 u0 := State.tripInput_kept (State.putB_kept h4)
  clear_value u0
  exact KeptH.answer (Kept.ite h4 (Kept.ite (State.drvTrip_kept k0) k0))

theorem execGateDriverFault_kept {s0 : State} {a0 a1} {a2 : State} (h2 : Kept s0 a2) : KeptH s0 (execGateDriverFault a0 a1
    a2) := by
  unfold execGateDriverFault
  lift_lets -underBinder
  extract_lets -descend u0 u1
  have k1 : Kept s0 u1 := State.tripInput_kept (State.flag_kept h2)
  clear_value u0 u1
  exact KeptH.answer (Kept.ite (State.drvTrip_kept (State.modDrv_kept (State.brkTo_kept k1))) k1)

theorem execDesaturation_kept {s0 : State} {a0 a1 a2} {a3 : State} (h3 : Kept s0 a3) : KeptH s0 (execDesaturation a0 a1 a2
    a3) := by
  unfold execDesaturation
  lift_lets -underBinder
  extract_lets -descend u0 u1
  have k0 : Kept s0 u0 := State.putB_kept h3
  have k1 : Kept s0 u1 := State.tripInput_kept k0
  clear_value u0 u1
  exact KeptH.answer (Kept.ite h3 (Kept.ite (Kept.ite (State.report_kept (State.flag_kept (State.brkTo_kept k0))) k0)
      (Kept.ite (State.drvTrip_kept k1) k1)))

theorem execGateReadbackMismatch_kept {s0 : State} {a0 a1 a2} {a3 : State} (h3 : Kept s0 a3) : KeptH s0
    (execGateReadbackMismatch a0 a1 a2 a3) := by
  unfold execGateReadbackMismatch
  lift_lets -underBinder
  extract_lets -descend u0
  have k0 : Kept s0 u0 := State.mismatchTrip_kept (State.modDrv_kept h3)
  clear_value u0
  exact KeptH.answer (Kept.ite h3 (State.report_kept k0))

theorem State.sdmSat_kept {s0 a0 : State} {a1 a2} (h0 : Kept s0 a0) : Kept s0 (State.sdmSat a0 a1 a2) := by
  unfold State.sdmSat
  lift_lets -underBinder
  extract_lets -descend u0 u1
  have k0 : Kept s0 u0 := State.flag_kept (State.modSdm_kept h0)
  have k1 : Kept s0 u1 := State.flag_kept (State.flag_kept k0)
  clear_value u0 u1
  exact Kept.ite (State.report_kept k1) k1

theorem execSdmSaturation_kept {s0 : State} {a0 a1 a2} {a3 : State} (h3 : Kept s0 a3) : KeptH s0 (execSdmSaturation a0 a1
    a2 a3) := by
  unfold execSdmSaturation
  exact KeptH.answer (Kept.ite h3 (Kept.ite (Kept.ite h3 (State.sdmSat_kept h3)) (Kept.ite (State.modSdm_kept
      (State.flag_kept h3)) h3)))

theorem execSdmStuck_kept {s0 : State} {a0 a1} {a2 : State} (h2 : Kept s0 a2) : KeptH s0 (execSdmStuck a0 a1 a2) := by
  unfold execSdmStuck
  exact KeptH.answer (Kept.ite h2 (State.report_kept (State.flag_kept (State.modSdm_kept h2))))

theorem execEngineTrap_kept {s0 : State} {a0 a1} {a2 : State} (h2 : Kept s0 a2) : KeptH s0 (execEngineTrap a0 a1 a2) := by
  unfold execEngineTrap
  exact KeptH.answer (Kept.ite (State.loadKick_kept (State.settleRetired_kept (State.report_kept h2))) h2)

theorem execRestart_kept {s0 : State} {a0 a1} {a2 : State} (h2 : Kept s0 a2) : KeptH s0 (execRestart a0 a1 a2) := by
  unfold execRestart
  exact KeptH.answer (State.act_kept h2 (fun _ f0_0 => State.reelRestart_kept f0_0))

theorem execEngineHealthMissed_kept {s0 : State} {a0} {a1 : State} (h1 : Kept s0 a1) : KeptH s0 (execEngineHealthMissed a0
    a1) := by
  unfold execEngineHealthMissed
  exact KeptH.answer (Kept.ite (State.loadKick_kept (State.settleRetired_kept (State.report_kept (State.modEngine_kept
      h1)))) h1)

theorem execEngineBodyCheck_kept {s0 : State} {a0 a1} {a2 : State} (h2 : Kept s0 a2) : KeptH s0 (execEngineBodyCheck a0 a1
    a2) := by
  unfold execEngineBodyCheck
  exact KeptH.answer (Kept.ite (State.loadKick_kept (State.settleRetired_kept (State.report_kept h2))) h2)

theorem State.takeRefs_kept {s0 a0 : State} {a1} (h0 : Kept s0 a0) : Kept s0 (State.takeRefs a0 a1) := by
  unfold State.takeRefs
  exact State.modDrv_kept h0

theorem State.sdmLatch_kept {s0 a0 : State} {a1} (h0 : Kept s0 a0) : Kept s0 (State.sdmLatch a0 a1) := by
  unfold State.sdmLatch
  exact State.flag_kept (State.put_kept (State.put_kept h0))

theorem State.drvSnap_kept {s0 a0 : State} {a1} (h0 : Kept s0 a0) : Kept s0 (State.drvSnap a0 a1) := by
  unfold State.drvSnap
  exact State.put_kept (State.put_kept (State.put_kept (State.put_kept h0)))

theorem execTakeoverEdge_kept {s0 : State} {a0} {a1 : State} (h1 : Kept s0 a1) : KeptH s0 (execTakeoverEdge a0 a1) := by
  unfold execTakeoverEdge
  exact KeptH.answer (Kept.ite (State.takeDrvs_kept (State.setRole_kept (State.modVdt_kept h1))) h1)

theorem execVdtTake_kept {s0 : State} {a0 a1} {a2 : State} (h2 : Kept s0 a2) : KeptH s0 (execVdtTake a0 a1 a2) := by
  unfold execVdtTake
  exact KeptH.answer (State.byVdtPage_kept h2 (fun _ f0_0 => State.takeOver_kept f0_0))

theorem execDrvStart_kept {s0 : State} {a0 a1 a2} {a3 : State} (h3 : Kept s0 a3) : KeptH s0 (execDrvStart a0 a1 a2 a3) := by
  unfold execDrvStart
  exact KeptH.answer (State.byOwner_kept h3 (fun _ f0_0 => State.drvStart_kept f0_0))

theorem execDrvStop_kept {s0 : State} {a0 a1} {a2 : State} (h2 : Kept s0 a2) : KeptH s0 (execDrvStop a0 a1 a2) := by
  unfold execDrvStop
  exact KeptH.answer (State.byOwner_kept h2 (fun _ f0_0 => State.drvStop_kept f0_0))

theorem execCoast_kept {s0 : State} {a0 a1} {a2 : State} (h2 : Kept s0 a2) : KeptH s0 (execCoast a0 a1 a2) := by
  unfold execCoast
  exact KeptH.answer (State.byOwner_kept h2 (fun _ f0_0 => State.drvCoast_kept f0_0))

theorem execPsetLoad_kept {s0 : State} {a0 a1 a2} {a3 : State} (h3 : Kept s0 a3) : KeptH s0 (execPsetLoad a0 a1 a2 a3) := by
  unfold execPsetLoad
  exact KeptH.answer (State.byOwner_kept h3 (fun _ f0_0 => State.psetLoad_kept f0_0))

theorem State.drvResult_kept {s0 a0 : State} {a1 a2 a3} (h0 : Kept s0 a0) : Kept s0 (State.drvResult a0 a1 a2 a3) := by
  unfold State.drvResult
  exact State.modDrv_kept h0

theorem State.drvConvert_kept {s0 a0 : State} {a1 a2 a3} (h0 : Kept s0 a0) : Kept s0 (State.drvConvert a0 a1 a2 a3) := by
  unfold State.drvConvert
  lift_lets -underBinder
  extract_lets -descend u0 u1 u2
  have k2 : Kept s0 u2 := State.forEach_kept (fun _ _ f3_1 => State.drvResult_kept f3_1) h0
  clear_value u0 u1 u2
  exact State.forEach_kept (fun _ _ f3_1 => (by
    lift_lets -underBinder
    extract_lets -descend u4
    clear_value u4
    exact State.adcTrigger_kept f3_1)) k2

theorem State.tickState_kept {s0 a0 : State} {a1} (h0 : Kept s0 a0) : Kept s0 (State.tickState a0 a1) := by
  unfold State.tickState
  lift_lets -underBinder
  extract_lets -descend u0 u1 u2 u3
  have k1 : Kept s0 u1 := State.drvIrq_kept (State.modDrv_kept h0)
  have k2 : Kept s0 u2 := Kept.ite (Kept.ite (State.toDecel_kept (State.modDrv_kept (State.toRunning_kept k1)))
      (State.toRunning_kept k1)) h0
  have k3 : Kept s0 u3 := State.modDrv_kept k2
  clear_value u0 u1 u2 u3
  exact Kept.ite (Kept.ite (State.drvIrq_kept (State.drvTo_kept (State.modDrv_kept k3))) k3) k2

theorem execDecisionTick_kept {s0 : State} {a0} {a1 : State} (h1 : Kept s0 a1) : KeptH s0 (execDecisionTick a0 a1) := by
  unfold execDecisionTick
  lift_lets -underBinder
  extract_lets -descend u0 u1
  have k0 : Kept s0 u0 := Kept.ite h1 (State.takeRefs_kept h1)
  have k1 : Kept s0 u1 := State.modDrv_kept k0
  clear_value u0 u1
  exact KeptH.answer (Kept.ite h1 (State.drvConvert_kept (State.tickState_kept (State.put_kept k1))))

theorem State.applySel_kept {s0 a0 : State} {a1} (h0 : Kept s0 a0) : Kept s0 (State.applySel a0 a1) := by
  unfold State.applySel
  split
  · exact Kept.ite (State.applyVec_kept h0) h0
  · exact h0

theorem State.chopper_kept {s0 a0 : State} {a1 a2} (h0 : Kept s0 a0) : Kept s0 (State.chopper a0 a1 a2) := by
  unfold State.chopper
  lift_lets -underBinder
  extract_lets -descend u0 u1 u2 u3 u4 u5 u6 u7
  have k5 : Kept s0 u5 := Kept.ite (State.drvIrq_kept (State.flag_kept h0)) h0
  have k7 : Kept s0 u7 := State.modDrv_kept k5
  clear_value u0 u1 u2 u3 u4 u5 u6 u7
  exact Kept.ite k7 (State.brkTo_kept k7)

theorem State.vdcTests_kept {s0 a0 : State} {a1 a2} (h0 : Kept s0 a0) : Kept s0 (State.vdcTests a0 a1 a2) := by
  unfold State.vdcTests
  lift_lets -underBinder
  extract_lets -descend u0 u1 u2 u3 u4 u5 u6
  have k5 : Kept s0 u5 := State.modDrv_kept h0
  have k6 : Kept s0 u6 := Kept.ite (State.drvTrip_kept k5) k5
  clear_value u0 u1 u2 u3 u4 u5 u6
  exact Kept.ite h0 (Kept.ite (State.drvTrip_kept k6) k6)

theorem State.unitVec_kept {s0 a0 : State} {a1 a2} (h0 : Kept s0 a0) : KeptP s0 (State.unitVec a0 a1 a2) := by
  unfold State.unitVec
  lift_lets -underBinder
  extract_lets -descend u0
  clear_value u0
  exact KeptP.ite (KeptP.mk (State.took_kept h0)) (KeptP.ite (KeptP.mk h0) (KeptP.mk h0))

theorem State.model_kept {s0 a0 : State} {a1 a2 a3} (h0 : Kept s0 a0) : KeptP s0 (State.model a0 a1 a2 a3) := by
  unfold State.model
  lift_lets -underBinder
  extract_lets -descend u0 u1 u2 u3 u4
  clear_value u0 u1 u2 u3 u4
  split
  · rename_i v5_0 v5_1 v5_2 e5
    have k5_0 := KeptP.of (State.unitVec_kept h0) e5
    lift_lets -underBinder
    extract_lets -descend u6 u7 u8 u9
    clear_value u6 u7 u8 u9
    refine KeptP.ite ?_ ?_
    · exact KeptP.mk k5_0
    · split
      · rename_i v10_0 v10_1 e10
        have k10_0 := KeptP.of (KeptP.ite (KeptP.mk (State.took_kept k5_0)) (KeptP.mk k5_0)) e10
        exact KeptP.mk k10_0

theorem State.observe_kept {s0 a0 : State} {a1 a2} (h0 : Kept s0 a0) : KeptP s0 (State.observe a0 a1 a2) := by
  unfold State.observe
  lift_lets -underBinder
  extract_lets -descend u0 u1 u2 u3
  clear_value u0 u1 u2 u3
  split
  · split
    · rename_i v5_0 v5_1 v5_2 v5_3 e5
      have k5_0 := KeptP.of (State.model_kept h0) e5
      lift_lets -underBinder
      extract_lets -descend u6 u7 u8 u9 u10 u11 u12
      clear_value u6 u7 u8 u9 u10 u11 u12
      exact KeptP.mk (State.modDrv_kept k5_0)

theorem State.takeMeas_kept {s0 a0 : State} {a1 a2} (h0 : Kept s0 a0) : Kept s0 (State.takeMeas a0 a1 a2) := by
  unfold State.takeMeas
  lift_lets -underBinder
  extract_lets -descend u0
  have k0 : Kept s0 u0 := State.flag_kept h0
  clear_value u0
  refine Kept.ite ?_ ?_
  · exact State.drvIrq_kept (State.inc_kept k0)
  · split
    · lift_lets -underBinder
      extract_lets -descend u2 u3
      have k3 : Kept s0 u3 := State.modDrv_kept k0
      clear_value u2 u3
      exact State.putI_kept (State.putI_kept (State.putI_kept k3))

theorem State.fluxAngle_kept {s0 a0 : State} {a1} (h0 : Kept s0 a0) : KeptP s0 (State.fluxAngle a0 a1) := by
  unfold State.fluxAngle
  lift_lets -underBinder
  extract_lets -descend u0
  clear_value u0
  split
  · rename_i v1_0 v1_1 e1
    have k1_0 := KeptP.of (by
    split
    · exact KeptP.mk h0
    · exact KeptP.mk (State.took_kept h0)) e1
    exact KeptP.ite (KeptP.mk (State.modDrv_kept k1_0)) (KeptP.mk k1_0)

theorem State.showFlux_kept {s0 a0 : State} {a1 a2} (h0 : Kept s0 a0) : Kept s0 (State.showFlux a0 a1 a2) := by
  unfold State.showFlux
  lift_lets -underBinder
  extract_lets -descend u0 u1 u2 u3
  have k2 : Kept s0 u2 := State.putI_kept (State.putI_kept (State.putI_kept h0))
  have k3 : Kept s0 u3 := State.put_kept (State.putI_kept k2)
  clear_value u0 u1 u2 u3
  exact State.put_kept k3

theorem State.pll_kept {s0 a0 : State} {a1} (h0 : Kept s0 a0) : Kept s0 (State.pll a0 a1) := by
  unfold State.pll
  lift_lets -underBinder
  extract_lets -descend u0 u1 u2 u3 u4 u5 u6 u7 u8 u9 u10 u11 u12 u13 u14 u15 u16 u17 u18 u19 u20 u21 u22 u23 u24
  have k6 : Kept s0 u6 := Kept.ite (State.took_kept h0) h0
  have k23 : Kept s0 u23 := Kept.ite (State.took_kept k6) k6
  have k24 : Kept s0 u24 := State.modDrv_kept k23
  clear_value u0 u1 u2 u3 u4 u5 u6 u7 u8 u9 u10 u11 u12 u13 u14 u15 u16 u17 u18 u19 u20 u21 u22 u23 u24
  exact State.putI_kept (State.putI_kept k24)

theorem State.decelStep_kept {s0 a0 : State} {a1} (h0 : Kept s0 a0) : Kept s0 (State.decelStep a0 a1) := by
  unfold State.decelStep
  lift_lets -underBinder
  extract_lets -descend u0 u1 u2
  have k2 : Kept s0 u2 := State.modDrv_kept h0
  clear_value u0 u1 u2
  exact k2

theorem State.speedCtl_kept {s0 a0 : State} {a1 a2} (h0 : Kept s0 a0) : KeptP s0 (State.speedCtl a0 a1 a2) := by
  unfold State.speedCtl
  lift_lets -underBinder
  extract_lets -descend u0 u1 u2 u3
  clear_value u0 u1 u2 u3
  split
  · lift_lets -underBinder
    extract_lets -descend u5
    clear_value u5
    exact KeptP.mk (State.modDrv_kept h0)

theorem State.torqueRef_kept {s0 a0 : State} {a1 a2} (h0 : Kept s0 a0) : KeptP s0 (State.torqueRef a0 a1 a2) := by
  unfold State.torqueRef
  lift_lets -underBinder
  extract_lets -descend u0 u1 u2 u3 u4 u5 u6 u7 u8 u9 u10
  have k4 : Kept s0 u4 := Kept.ite (State.flag_kept h0) h0
  clear_value u0 u1 u2 u3 u4 u5 u6 u7 u8 u9 u10
  refine KeptP.ite ?_ ?_
  · exact KeptP.mk (State.modDrv_kept k4)
  · refine KeptP.ite ?_ ?_
    · exact State.speedCtl_kept (State.modDrv_kept h0)
    · split
      · exact KeptP.mk (State.modDrv_kept h0)

theorem State.losTests_kept {s0 a0 : State} {a1 a2 a3 a4 a5 a6} (h0 : Kept s0 a0) : KeptP s0 (State.losTests a0 a1 a2 a3 a4
    a5 a6) := by
  unfold State.losTests
  lift_lets -underBinder
  extract_lets -descend u0 u1 u2 u3 u4 u5
  clear_value u0 u1 u2 u3 u4 u5
  split
  · rename_i v6_0 v6_1 e6
    have k6_0 := KeptP.of (KeptP.ite (KeptP.mk (State.took_kept h0)) (KeptP.mk h0)) e6
    lift_lets -underBinder
    extract_lets -descend u7 u8 u9 u10 u11 u12 u13 u14 u15 u16
    have k7 : Kept s0 u7 := State.putI_kept k6_0
    have k8 : Kept s0 u8 := State.modDrv_kept k7
    have k16 : Kept s0 u16 := State.modDrv_kept k8
    clear_value u7 u8 u9 u10 u11 u12 u13 u14 u15 u16
    exact KeptP.ite (KeptP.mk k8) (KeptP.mk k16)

theorem State.drvSelect_kept {s0 a0 : State} {a1 a2 a3 a4} (h0 : Kept s0 a0) : Kept s0 (State.drvSelect a0 a1 a2 a3 a4) := by
  unfold State.drvSelect
  lift_lets -underBinder
  extract_lets -descend u0 u1 u2 u3 u4 u5 u6 u7
  have k7 : Kept s0 u7 := State.modDrv_kept h0
  clear_value u0 u1 u2 u3 u4 u5 u6 u7
  exact State.flag_kept (State.put_kept k7)

theorem State.decelEnd_kept {s0 a0 : State} {a1} (h0 : Kept s0 a0) : Kept s0 (State.decelEnd a0 a1) := by
  unfold State.decelEnd
  lift_lets -underBinder
  extract_lets -descend u0 u1 u2
  have k1 : Kept s0 u1 := State.putI_kept h0
  have k2 : Kept s0 u2 := State.putI_kept k1
  clear_value u0 u1 u2
  exact Kept.ite k2 (Kept.ite (State.toRunning_kept k2) (Kept.ite (State.drvIrq_kept (State.toReady_kept k2)) k2))

theorem State.drvLos_kept {s0 a0 : State} {a1 a2} (h0 : Kept s0 a0) : Kept s0 (State.drvLos a0 a1 a2) := by
  unfold State.drvLos
  lift_lets -underBinder
  extract_lets -descend u0 u1 u2
  have k0 : Kept s0 u0 := State.drvIrq_kept (State.inc_kept (State.put_kept h0))
  have k2 : Kept s0 u2 := State.report_kept (State.put_kept k0)
  clear_value u0 u1 u2
  exact Kept.ite (State.catchStep_kept (State.drvTo_kept (State.modDrv_kept k2))) (State.drvTrip_kept k0)

theorem State.drvRun_kept {s0 a0 : State} {a1 a2} (h0 : Kept s0 a0) : Kept s0 (State.drvRun a0 a1 a2) := by
  unfold State.drvRun
  lift_lets -underBinder
  extract_lets -descend u0 u1
  clear_value u0 u1
  split
  · rename_i v2_0 v2_1 v2_2 e2
    have k2_0 := KeptP.of (State.observe_kept h0) e2
    lift_lets -underBinder
    extract_lets -descend u3
    have k3 : Kept s0 u3 := State.takeMeas_kept k2_0
    clear_value u3
    split
    · rename_i v4_0 v4_1 e4
      have k4_0 := KeptP.of (State.fluxAngle_kept k3) e4
      lift_lets -underBinder
      extract_lets -descend u5 u6 u7 u8 u9 u10
      have k5 : Kept s0 u5 := State.showFlux_kept (State.pll_kept k4_0)
      have k7 : Kept s0 u7 := State.putI_kept k5
      have k9 : Kept s0 u9 := State.modDrv_kept k7
      have k10 : Kept s0 u10 := Kept.ite (State.decelStep_kept k9) (State.modDrv_kept k9)
      clear_value u5 u6 u7 u8 u9 u10
      split
      · rename_i v11_0 v11_1 e11
        have k11_0 := KeptP.of (KeptP.ite (KeptP.mk k10) (State.torqueRef_kept k10)) e11
        lift_lets -underBinder
        extract_lets -descend u12
        have k12 : Kept s0 u12 := State.flag_kept k11_0
        clear_value u12
        split
        · rename_i v13_0 v13_1 e13
          have k13_0 := KeptP.of (State.losTests_kept k12) e13
          lift_lets -underBinder
          extract_lets -descend u14 u15 u16 u17
          have k14 : Kept s0 u14 := Kept.ite (State.modDrv_kept k13_0) (State.drvSelect_kept k13_0)
          have k15 : Kept s0 u15 := State.modDrv_kept k14
          have k16 : Kept s0 u16 := State.decelEnd_kept k15
          have k17 : Kept s0 u17 := State.showDrv_kept k16
          clear_value u14 u15 u16 u17
          exact Kept.ite (State.drvLos_kept k17) k17

theorem State.drvMagnetize_kept {s0 a0 : State} {a1 a2} (h0 : Kept s0 a0) : Kept s0 (State.drvMagnetize a0 a1 a2) := by
  unfold State.drvMagnetize
  lift_lets -underBinder
  extract_lets -descend u0 u1 u2 u3 u4
  have k0 : Kept s0 u0 := State.takeMeas_kept h0
  clear_value u0 u1 u2 u3 u4
  refine Kept.ite ?_ ?_
  · exact State.toReady_kept k0
  · refine Kept.ite ?_ ?_
    · exact State.modDrv_kept k0
    · split
      · rename_i v5_0 v5_1 e5
        have k5_0 := KeptP.of (KeptP.ite (KeptP.mk (State.took_kept k0)) (KeptP.mk k0)) e5
        lift_lets -underBinder
        extract_lets -descend u6 u7 u8 u9 u10 u11
        have k9 : Kept s0 u9 := State.modDrv_kept k5_0
        clear_value u6 u7 u8 u9 u10 u11
        exact Kept.ite (State.toRunning_kept (State.modDrv_kept k9)) (State.modDrv_kept k9)

theorem State.decision_kept {s0 a0 : State} {a1 a2} (h0 : Kept s0 a0) : Kept s0 (State.decision a0 a1 a2) := by
  unfold State.decision
  lift_lets -underBinder
  extract_lets -descend u0 u1
  have k1 : Kept s0 u1 := State.takeMeas_kept h0
  clear_value u0 u1
  exact Kept.ite (State.drvRun_kept h0) (Kept.ite (State.drvMagnetize_kept h0) (Kept.ite (State.putI_kept k1) k1))

theorem execDecisionApply_kept {s0 : State} {a0} {a1 : State} (h1 : Kept s0 a1) : KeptH s0 (execDecisionApply a0 a1) := by
  unfold execDecisionApply
  lift_lets -underBinder
  extract_lets -descend u0 u1
  have k1 : Kept s0 u1 := State.applySel_kept (State.chopper_kept (State.vdcTests_kept (State.decision_kept h1)))
  clear_value u0 u1
  exact KeptH.answer (Kept.ite h1 (Kept.ite (State.toReady_kept (State.modDrv_kept h1)) (Kept.ite k1 (State.drvSnap_kept k1))))

theorem execDeadTimeEnd_kept {s0 : State} {a0 a1} {a2 : State} (h2 : Kept s0 a2) : KeptH s0 (execDeadTimeEnd a0 a1 a2) := by
  unfold execDeadTimeEnd
  exact KeptH.answer (State.modDrv_kept h2)

theorem execLegChangeDeferred_kept {s0 : State} {a0 a1} {a2 : State} (h2 : Kept s0 a2) : KeptH s0 (execLegChangeDeferred a0
    a1 a2) := by
  unfold execLegChangeDeferred
  lift_lets -underBinder
  extract_lets -descend u0
  clear_value u0
  exact KeptH.answer (by
    split
    · exact Kept.ite (State.legChange_kept h2) h2
    · exact h2)

theorem execBandWindowEnd_kept {s0 : State} {a0} {a1 : State} (h1 : Kept s0 a1) : KeptH s0 (execBandWindowEnd a0 a1) := by
  unfold execBandWindowEnd
  lift_lets -underBinder
  extract_lets -descend u0 u1 u2 u3 u4 u5 u6 u7 u8 u9 u10 u11 u12 u13
  have k4 : Kept s0 u4 := State.put_kept h1
  have k5 : Kept s0 u5 := State.modDrv_kept k4
  have k13 : Kept s0 u13 := Kept.ite (State.drvIrq_kept k5) k5
  clear_value u0 u1 u2 u3 u4 u5 u6 u7 u8 u9 u10 u11 u12 u13
  exact KeptH.answer (Kept.ite h1 (Kept.ite k5 (State.flag_kept (State.put_kept k13))))

theorem execPositionTestPulse_kept {s0 : State} {a0 a1 a2} {a3 : State} (h3 : Kept s0 a3) : KeptH s0 (execPositionTestPulse
    a0 a1 a2 a3) := by
  unfold execPositionTestPulse
  lift_lets -underBinder
  extract_lets -descend u0
  clear_value u0
  exact KeptH.answer (Kept.ite h3 (Kept.ite (State.toReady_kept h3) (Kept.ite (State.startFail_kept h3) (State.modDrv_kept
      (State.applyVec_kept h3)))))

theorem execMagTimeExpiry_kept {s0 : State} {a0} {a1 : State} (h1 : Kept s0 a1) : KeptH s0 (execMagTimeExpiry a0 a1) := by
  unfold execMagTimeExpiry
  exact KeptH.answer (Kept.ite (State.startFail_kept h1) h1)

theorem State.catchEval_kept {s0 a0 : State} {a1 a2 a3} (h0 : Kept s0 a0) : Kept s0 (State.catchEval a0 a1 a2 a3) := by
  unfold State.catchEval
  lift_lets -underBinder
  extract_lets -descend u0 u1 u2 u3
  have k2 : Kept s0 u2 := State.gatesOff_kept h0
  clear_value u0 u1 u2 u3
  split
  · lift_lets -underBinder
    extract_lets -descend u5 u6 u7 u8 u9 u10 u11 u12 u13 u14
    clear_value u5 u6 u7 u8 u9 u10 u11 u12 u13 u14
    refine Kept.ite ?_ ?_
    · split
      · rename_i v15_0 v15_1 e15
        have k15_0 := KeptP.of (KeptP.ite (KeptP.mk k2) (KeptP.ite (KeptP.mk (State.took_kept k2)) (KeptP.mk k2))) e15
        exact State.modDrv_kept (State.setFlux_kept k15_0)
    · exact Kept.ite (State.testPulse_kept k2) (State.startFail_kept k2)
  · exact Kept.ite (State.testPulse_kept k2) (State.startFail_kept k2)

theorem execCatchSpinStep_kept {s0 : State} {a0 a1 a2} {a3 : State} (h3 : Kept s0 a3) : KeptH s0 (execCatchSpinStep a0 a1
    a2 a3) := by
  unfold execCatchSpinStep
  lift_lets -underBinder
  extract_lets -descend u0
  clear_value u0
  exact KeptH.answer (Kept.ite h3 (Kept.ite (State.catchStep_kept h3) (Kept.ite (State.catchStep_kept (State.modDrv_kept
      h3)) (Kept.ite (State.catchStep_kept h3) (Kept.ite (State.catchEval_kept h3) h3)))))

theorem execLosClearExpiry_kept {s0 : State} {a0} {a1 : State} (h1 : Kept s0 a1) : KeptH s0 (execLosClearExpiry a0 a1) := by
  unfold execLosClearExpiry
  exact KeptH.answer (Kept.ite (State.put_kept h1) h1)

theorem State.khExit_kept {s0 a0 : State} {a1} (h0 : Kept s0 a0) : Kept s0 (State.khExit a0 a1) := by
  unfold State.khExit
  lift_lets -underBinder
  extract_lets -descend u0
  have k0 : Kept s0 u0 := State.modDrv_kept h0
  clear_value u0
  exact Kept.ite (State.drvTo_kept (State.modDrv_kept k0)) k0

theorem execTripClear_kept {s0 : State} {a0 a1} {a2 : State} (h2 : Kept s0 a2) : KeptH s0 (execTripClear a0 a1 a2) := by
  unfold execTripClear
  exact KeptH.answer (State.byOwner_kept h2 (fun _ f0_0 => State.tripClear_kept f0_0))

theorem execChopperDutyInterval_kept {s0 : State} {a0} {a1 : State} (h1 : Kept s0 a1) : KeptH s0 (execChopperDutyInterval
    a0 a1) := by
  unfold execChopperDutyInterval
  lift_lets -underBinder
  extract_lets -descend u0 u1 u2
  clear_value u0 u1 u2
  exact KeptH.answer (State.modDrv_kept (State.flag_kept (State.put_kept h1)))

theorem execSeqGo_kept {s0 : State} {a0 a1 a2} {a3 : State} (h3 : Kept s0 a3) : KeptH s0 (execSeqGo a0 a1 a2 a3) := by
  unfold execSeqGo
  exact KeptH.answer (State.byOwner_kept h3 (fun _ f0_0 => State.seqGo_kept f0_0))

theorem State.adcOver_kept {s0 a0 : State} {a1 a2 a3 a4 a5} (h0 : Kept s0 a0) : Kept s0 (State.adcOver a0 a1 a2 a3 a4 a5) := by
  unfold State.adcOver
  lift_lets -underBinder
  extract_lets -descend u0
  have k0 : Kept s0 u0 := State.flag_kept (State.setB_kept (State.setB_kept h0))
  clear_value u0
  exact Kept.ite (State.report_kept k0) k0

theorem State.adcCompare_kept {s0 a0 : State} {a1 a2 a3 a4} (h0 : Kept s0 a0) : Kept s0 (State.adcCompare a0 a1 a2 a3 a4) := by
  unfold State.adcCompare
  exact Kept.ite h0 (Kept.ite (State.report_kept h0) (Kept.ite (State.report_kept h0) h0))

theorem State.adcDeliver_kept {s0 a0 : State} {a1 a2 a3 a4 a5 a6} (h0 : Kept s0 a0) : Kept s0 (State.adcDeliver a0 a1 a2 a3
    a4 a5 a6) := by
  unfold State.adcDeliver
  lift_lets -underBinder
  extract_lets -descend u0
  clear_value u0
  exact Kept.ite (State.drvResult_kept h0) (Kept.ite (Kept.upd h0) (Kept.ite (State.adcCompare_kept h0) h0))

theorem State.rxRecord_kept {s0 a0 : State} {a1 a2 a3 a4 a5 a6 : Nat} {a7 : List Byte} (h0 : Kept s0 a0) :
    KeptP s0 (State.rxRecord a0 a1 a2 a3 a4 a5 a6 a7) := by
  induction a1 generalizing a0 a5 a6 with
  | zero => exact h0
  | succ n ih =>
    unfold State.rxRecord
    split
    · exact h0
    · rename_i d e
      refine KeptP.ite (ih (State.finishDesc_kept h0)) ?_
      lift_lets
      extract_lets -descend v
      split
      · rename_i t e2
        exact KeptP.of (State.agentWrite_kept h0) e2
      · rename_i t e2
        have k := State.modDesc_kept (a1 := a2) (a2 := 1) (a3 := d.idx) (a4 := fun x => { x with committed := true })
          (KeptP.of (State.agentWrite_kept h0) e2)
        exact KeptP.ite (State.finishDesc_kept k) k

theorem State.adcRecord_kept {s0 a0 : State} {a1 a2} (h0 : Kept s0 a0) : Kept s0 (State.adcRecord a0 a1 a2) := by
  unfold State.adcRecord
  lift_lets -underBinder
  extract_lets -descend u0 u1 u2
  clear_value u0 u1 u2
  refine Kept.ite ?_ ?_
  · split
    · rename_i v3_0 v3_1 v3_2 v3_3 e3
      have k3_0 := KeptP.of (State.rxRecord_kept h0) e3
      lift_lets -underBinder
      extract_lets -descend u4
      have k4 : Kept s0 u4 := State.modAdc_kept k3_0
      clear_value u4
      exact Kept.ite k4 (State.flag_kept (State.inc_kept k4))
  · exact h0

theorem State.adcRunEnd_kept {s0 a0 : State} {a1 a2} (h0 : Kept s0 a0) : Kept s0 (State.adcRunEnd a0 a1 a2) := by
  unfold State.adcRunEnd
  lift_lets -underBinder
  extract_lets -descend u0
  have k0 : Kept s0 u0 := Kept.ite (State.setB_kept h0) h0
  clear_value u0
  exact Kept.ite (State.adcRecord_kept k0) h0

theorem State.adcEnd_kept {s0 : State} {a0 a1} {a2 : State} (h2 : Kept s0 a2) : Kept s0 (State.adcEnd a0 a1 a2) := by
  unfold State.adcEnd
  lift_lets -underBinder
  extract_lets -descend u0
  clear_value u0
  split
  · exact h2
  · split
    · exact h2
    · lift_lets -underBinder
      extract_lets -descend u3 u4 u5 u6
      clear_value u3 u4 u5 u6
      split
      · lift_lets -underBinder
        extract_lets -descend u8 u9 u10 u11 u12 u13 u14 u15 u16 u17 u18 u19 u20 u21
        have k13 : Kept s0 u13 := State.modAdc_kept h2
        have k14 : Kept s0 u14 := Kept.ite (State.clrB_kept k13) k13
        have k15 : Kept s0 u15 := State.put_kept k14
        have k16 : Kept s0 u16 := Kept.ite (State.put_kept k15) k15
        have k17 : Kept s0 u17 := Kept.ite (State.adcOver_kept k16) k16
        have k19 : Kept s0 u19 := State.adcDeliver_kept k17
        have k20 : Kept s0 u20 := State.modAdc_kept k19
        have k21 : Kept s0 u21 := Kept.ite (State.adcRunEnd_kept k20) k20
        clear_value u8 u9 u10 u11 u12 u13 u14 u15 u16 u17 u18 u19 u20 u21
        exact Kept.ite (State.showAdc_kept (State.modAdc_kept k19)) (Kept.ite (State.adcKick_kept k21) (State.showAdc_kept
            (State.adcFlush_kept k21)))

theorem State.khEnter_kept {s0 a0 : State} {a1} (h0 : Kept s0 a0) : Kept s0 (State.khEnter a0 a1) := by
  unfold State.khEnter
  exact Kept.ite (State.modDrv_kept h0) h0

theorem execAdcInternalCheck_kept {s0 : State} {a0} {a1 : State} (h1 : Kept s0 a1) : KeptH s0 (execAdcInternalCheck a0 a1) := by
  unfold execAdcInternalCheck
  exact KeptH.answer (State.adcTrigger_kept h1)

theorem execAdcnQflush_kept {s0 : State} {a0 a1} {a2 : State} (h2 : Kept s0 a2) : KeptH s0 (execAdcnQflush a0 a1 a2) := by
  unfold execAdcnQflush
  exact KeptH.answer (State.byOwner_kept h2 (fun _ f0_0 => State.adcFlush_kept f0_0))

theorem State.sdmRecord_kept {s0 a0 : State} {a1 a2 a3} (h0 : Kept s0 a0) : Kept s0 (State.sdmRecord a0 a1 a2 a3) := by
  unfold State.sdmRecord
  lift_lets -underBinder
  extract_lets -descend u0 u1
  clear_value u0 u1
  refine Kept.ite ?_ ?_
  · split
    · rename_i v2_0 v2_1 v2_2 v2_3 e2
      have k2_0 := KeptP.of (State.rxRecord_kept h0) e2
      lift_lets -underBinder
      extract_lets -descend u3
      have k3 : Kept s0 u3 := State.modSdm_kept k2_0
      clear_value u3
      exact Kept.ite k3 (State.flag_kept k3)
  · exact h0

theorem State.sdmData_kept {s0 : State} {a0 a1} {a2 : State} (h2 : Kept s0 a2) : Kept s0 (State.sdmData a0 a1 a2) := by
  unfold State.sdmData
  lift_lets -underBinder
  extract_lets -descend u0 u1 u2 u3 u4 u5 u6 u7
  have k7 : Kept s0 u7 := State.modSdm_kept h2
  clear_value u0 u1 u2 u3 u4 u5 u6 u7
  exact Kept.ite h2 (State.sdmRecord_kept (State.put_kept (State.put_kept k7)))

theorem State.sdmCompare_kept {s0 : State} {a0 a1} {a2 : State} (h2 : Kept s0 a2) : Kept s0 (State.sdmCompare a0 a1 a2) := by
  unfold State.sdmCompare
  lift_lets -underBinder
  extract_lets -descend u0 u1 u2 u3 u4
  have k3 : Kept s0 u3 := Kept.ite (State.flag_kept h2) h2
  have k4 : Kept s0 u4 := Kept.ite (State.flag_kept k3) k3
  clear_value u0 u1 u2 u3 u4
  exact Kept.ite h2 (State.flag_kept (State.flag_kept (State.put_kept k4)))

theorem execSdmnQflush_kept {s0 : State} {a0 a1} {a2 : State} (h2 : Kept s0 a2) : KeptH s0 (execSdmnQflush a0 a1 a2) := by
  unfold execSdmnQflush
  exact KeptH.answer (State.byOwner_kept h2 (fun _ f0_0 => State.sdmFlush_kept f0_0))

theorem State.imgRefuse_kept {s0 a0 : State} {a1 a2 a3} (h0 : Kept s0 a0) : Kept s0 (State.imgRefuse a0 a1 a2 a3) := by
  unfold State.imgRefuse
  exact State.putReply_kept (State.imgCount_kept h0)

theorem State.imgDone_kept {s0 a0 : State} {a1 a2 a3 a4 a5 a6 a7} (h0 : Kept s0 a0) : Kept s0 (State.imgDone a0 a1 a2 a3 a4
    a5 a6 a7) := by
  unfold State.imgDone
  lift_lets -underBinder
  extract_lets -descend u0 u1 u2 u3 u4 u5
  have k3 : Kept s0 u3 := State.modEngine_kept h0
  have k4 : Kept s0 u4 := Kept.ite k3 (State.imgCount_kept k3)
  have k5 : Kept s0 u5 := State.putReply_kept k4
  clear_value u0 u1 u2 u3 u4 u5
  exact State.forEach_kept (fun _ _ f6_1 => State.putReply_kept (State.imgCount_kept f6_1)) k5

theorem State.setParam_kept {s0 a0 : State} {a1 a2 a3} (h0 : Kept s0 a0) : KeptP s0 (State.setParam a0 a1 a2 a3) := by
  unfold State.setParam
  split
  · exact KeptP.mk h0
  · lift_lets -underBinder
    extract_lets -descend u1
    clear_value u1
    exact KeptP.ite (KeptP.mk h0) (KeptP.ite (KeptP.mk h0) (KeptP.ite (KeptP.mk h0) (KeptP.ite (KeptP.mk
        (State.modEngine_kept h0)) (KeptP.mk (State.modEngine_kept h0)))))

theorem State.paramVal_kept {s0 a0 : State} {a1 a2 a3} (h0 : Kept s0 a0) : KeptP s0 (State.paramVal a0 a1 a2 a3) := by
  unfold State.paramVal
  split
  · exact KeptP.mk h0
  · exact KeptP.mk h0
  · exact KeptP.mk (State.took_kept h0)

theorem State.imgExec_kept {s0 a0 : State} {a1 a2 a3 a4 a5} (h0 : Kept s0 a0) : Kept s0 (State.imgExec a0 a1 a2 a3 a4 a5) := by
  unfold State.imgExec
  lift_lets -underBinder
  extract_lets -descend u0 u1 u2
  clear_value u0 u1 u2
  refine Kept.ite ?_ ?_
  · exact State.imgDone_kept h0
  · split
    · exact State.imgDone_kept h0
    · lift_lets -underBinder
      extract_lets -descend u4 u5 u6 u7
      have k7 : Kept s0 u7 := Kept.ite (State.modEngine_kept h0) h0
      clear_value u4 u5 u6 u7
      refine Kept.ite ?_ ?_
      · exact State.imgDone_kept h0
      · refine Kept.ite ?_ ?_
        · exact State.imgDone_kept h0
        · refine Kept.ite ?_ ?_
          · split
            · rename_i v8_0 v8_1 e8
              have k8_0 := KeptP.of (State.imgStart_kept h0) e8
              exact State.imgDone_kept k8_0
          · refine Kept.ite ?_ ?_
            · exact Kept.ite (State.imgDone_kept (State.imgEnter_kept h0)) (State.imgDone_kept h0)
            · refine Kept.ite ?_ ?_
              · exact Kept.ite (State.imgDone_kept h0) (State.imgDone_kept k7)
              · refine Kept.ite ?_ ?_
                · split
                  · rename_i v8_0 v8_1 e8
                    have k8_0 := KeptP.of (State.setParam_kept h0) e8
                    exact State.imgDone_kept k8_0
                · refine Kept.ite ?_ ?_
                  · split
                    · exact State.imgDone_kept h0
                    · split
                      · rename_i v9_0 v9_1 e9
                        have k9_0 := KeptP.of (State.paramVal_kept h0) e9
                        exact State.imgDone_kept k9_0
                  · exact Kept.ite (State.modEngine_kept h0) (State.imgDone_kept h0)

theorem State.imgCommand_kept {s0 a0 : State} {a1 a2} (h0 : Kept s0 a0) : Kept s0 (State.imgCommand a0 a1 a2) := by
  unfold State.imgCommand
  lift_lets -underBinder
  extract_lets -descend u0 u1 u2 u3 u4
  clear_value u0 u1 u2 u3 u4
  refine Kept.ite ?_ ?_
  · exact State.imgRefuse_kept h0
  · split
    · exact State.imgRefuse_kept h0
    · exact State.putReply_kept (State.imgCount_kept h0)
    · exact State.modEngine_kept h0
    · lift_lets -underBinder
      extract_lets -descend u6 u7
      have k6 : Kept s0 u6 := State.modEngine_kept h0
      have k7 : Kept s0 u7 := State.imgCount_kept k6
      clear_value u6 u7
      exact Kept.ite (State.imgDone_kept k7) (State.imgExec_kept k7)

theorem State.imgTake_kept {s0 a0 : State} {a1} (h0 : Kept s0 a0) : Kept s0 (State.imgTake a0 a1) := by
  unfold State.imgTake
  lift_lets -underBinder
  extract_lets -descend u0 u1 u2
  have k0 : Kept s0 u0 := State.sendReplies_kept h0
  clear_value u0 u1 u2
  split
  · exact k0
  · exact Kept.ite k0 (State.imgCommand_kept (State.linksHeld_kept (State.forEach_kept (fun _ _ f4_1 => State.mbxPop_kept
        f4_1) k0)))

theorem State.engineAct_kept {s0 a0 : State} {a1 a2} (h0 : Kept s0 a0) : Kept s0 (State.engineAct a0 a1 a2) := by
  unfold State.engineAct
  split
  · exact Kept.ite h0 (State.modEngine_kept h0)
  · exact State.imgTake_kept h0
  · exact Kept.ite (State.imgDone_kept h0) h0
  · exact State.imgEvent_kept h0
  · exact State.imgCount_kept h0
  · exact State.modEngine_kept h0
  · exact Kept.ite (State.imgConfigured_kept h0) h0
  · exact State.imgFatal_kept h0
  · exact State.sendReplies_kept h0

theorem State.imgBus_kept {s0 a0 : State} {a1 a2} (h0 : Kept s0 a0) : Kept s0 (State.imgBus a0 a1 a2) := by
  unfold State.imgBus
  lift_lets -underBinder
  extract_lets -descend u0 u1 u2
  have k0 : Kept s0 u0 := State.imgCount_kept (State.inc_kept h0)
  have k2 : Kept s0 u2 := State.imgEvent_kept (State.modEngine_kept k0)
  clear_value u0 u1 u2
  exact Kept.ite h0 (Kept.ite (State.imgFatal_kept k2) k2)

theorem State.imgOwed_kept {s0 a0 : State} {a1} (h0 : Kept s0 a0) : Kept s0 (State.imgOwed a0 a1) := by
  unfold State.imgOwed
  lift_lets -underBinder
  extract_lets -descend u0
  clear_value u0
  exact State.forEach_kept (fun _ _ f1_1 => State.imgBus_kept f1_1) (State.modEngine_kept h0)

theorem execEngineInstruction_kept {s0 : State} {a0 a1} {a2 : State} (h2 : Kept s0 a2) : KeptH s0 (execEngineInstruction a0
    a1 a2) := by
  unfold execEngineInstruction
  exact KeptH.answer (Kept.ite (State.engineAct_kept (State.imgOwed_kept h2)) h2)

theorem execPoleVoltageTrigger_kept {s0 : State} {a0} {a1 : State} (h1 : Kept s0 a1) : KeptH s0 (execPoleVoltageTrigger a0
    a1) := by
  unfold execPoleVoltageTrigger
  exact KeptH.answer (Kept.ite (State.drvConvert_kept h1) h1)

end Sys2Proof.Machine
end

