-- ==== Sys2Proof/Laws/KeptAnalog.lean ====
section
/-! SUPPORT.
Every operation keeps the canonical form, the queue and the flash: wake, supply, sensing, tags, pins and time. -/

namespace Sys2Proof.Machine

theorem State.supInhibit_kept {s0 a0 : State} (h0 : Kept s0 a0) : Kept s0 (State.supInhibit a0) := by
  unfold State.supInhibit
  lift_lets -underBinder
  extract_lets -descend u0
  clear_value u0
  exact State.forEach_kept (fun _ _ f1_1 => State.flag_kept f1_1) (State.flag_kept h0)

theorem State.supIrq_kept {s0 a0 : State} {a1} (h0 : Kept s0 a0) : Kept s0 (State.supIrq a0 a1) := by
  unfold State.supIrq
  exact State.flag_kept h0

theorem State.supDew_kept {s0 a0 : State} (h0 : Kept s0 a0) : Kept s0 (State.supDew a0) := by
  unfold State.supDew
  exact Kept.ite (State.supIrq_kept (State.flag_kept h0)) h0

theorem State.atDew_kept {s0 a0 : State} {a1 a2} (h0 : Kept s0 a0) : Kept s0 (State.atDew a0 a1 a2) := by
  unfold State.atDew
  exact State.report_kept (State.flag_kept (State.flag_kept h0))

theorem State.filmCheck_kept {s0 a0 : State} {a1} (h0 : Kept s0 a0) : Kept s0 (State.filmCheck a0 a1) := by
  unfold State.filmCheck
  lift_lets -underBinder
  extract_lets -descend u0
  have k0 : Kept s0 u0 := State.flag_kept h0
  clear_value u0
  exact Kept.ite (Kept.ite (State.atDew_kept k0) k0) h0

theorem State.capEdge_kept {s0 a0 : State} (h0 : Kept s0 a0) : Kept s0 (State.capEdge a0) := by
  unfold State.capEdge
  exact State.supInhibit_kept (State.supDew_kept (State.forEach_kept (fun _ _ f0_1 => State.filmCheck_kept f0_1) h0))

theorem State.modSup_kept {s0 a0 : State} {a1 : SupPart → SupPart} (h0 : Kept s0 a0) : Kept s0 (State.modSup a0 a1) := by
  unfold State.modSup
  exact Kept.upd h0

theorem State.notePower_kept {s0 a0 : State} (h0 : Kept s0 a0) : Kept s0 (State.notePower a0) := by
  unfold State.notePower
  lift_lets -underBinder
  extract_lets -descend u0 u1
  clear_value u0 u1
  exact Kept.ite h0 (Kept.ite h0 (State.modSup_kept h0))

theorem State.shedPin_kept {s0 a0 : State} {a1 a2} (h0 : Kept s0 a0) : Kept s0 (State.shedPin a0 a1 a2) := by
  unfold State.shedPin
  split
  · exact h0
  · lift_lets -underBinder
    extract_lets -descend u1 u2 u3
    clear_value u1 u2 u3
    exact Kept.upd h0

theorem State.supMoved_kept {s0 a0 : State} (h0 : Kept s0 a0) : Kept s0 (State.supMoved a0) := by
  unfold State.supMoved
  exact State.modSup_kept h0

theorem State.shedGroup_kept {s0 a0 : State} {a1} (h0 : Kept s0 a0) : Kept s0 (State.shedGroup a0 a1) := by
  unfold State.shedGroup
  lift_lets -underBinder
  extract_lets -descend u0 u1 u2
  clear_value u0 u1 u2
  exact State.modSup_kept (State.supMoved_kept (State.setB_kept (State.shedPin_kept h0)))

theorem State.shedNext_kept {s0 a0 : State} (h0 : Kept s0 a0) : Kept s0 (State.shedNext a0) := by
  unfold State.shedNext
  split
  · exact State.shedGroup_kept h0
  · exact h0

theorem State.supUnavail_kept {s0 a0 : State} (h0 : Kept s0 a0) : Kept s0 (State.supUnavail a0) := by
  unfold State.supUnavail
  lift_lets -underBinder
  extract_lets -descend u0 u1
  clear_value u0 u1
  exact State.forEach_kept (fun _ _ f2_1 => (by
    lift_lets -underBinder
    extract_lets -descend u3
    have k3 : Kept s0 u3 := State.modSup_kept (State.clrB_kept (State.shedPin_kept f2_1))
    clear_value u3
    exact Kept.ite (Kept.ite (State.shedNext_kept k3) k3) f2_1)) (State.modSup_kept h0)

theorem State.supNotify_kept {s0 a0 : State} (h0 : Kept s0 a0) : Kept s0 (State.supNotify a0) := by
  unfold State.supNotify
  lift_lets -underBinder
  extract_lets -descend u0
  have k0 : Kept s0 u0 := State.supIrq_kept (State.put_kept h0)
  clear_value u0
  exact State.forEach_kept (fun _ _ f1_1 => State.put_kept (State.flag_kept (State.put_kept (State.put_kept (State.put_kept
      f1_1))))) k0

theorem State.shedAll_kept {s0 a0 : State} (h0 : Kept s0 a0) : Kept s0 (State.shedAll a0) := by
  unfold State.shedAll
  exact State.forEach_kept (fun _ _ f0_1 => State.shedNext_kept f0_1) h0

theorem State.supTrigger_kept {s0 a0 : State} (h0 : Kept s0 a0) : Kept s0 (State.supTrigger a0) := by
  unfold State.supTrigger
  exact Kept.ite (State.supNotify_kept (State.shedNext_kept (State.put_kept h0))) (Kept.ite (State.shedNext_kept h0) h0)

theorem State.supDrops_kept {s0 a0 : State} (h0 : Kept s0 a0) : Kept s0 (State.supDrops a0) := by
  unfold State.supDrops
  lift_lets -underBinder
  extract_lets -descend u0 u1 u2
  have k1 : Kept s0 u1 := State.forEach_kept (fun _ _ f2_1 => State.clrB_kept f2_1) h0
  have k2 : Kept s0 u2 := State.modSup_kept k1
  clear_value u0 u1 u2
  exact Kept.ite h0 (Kept.ite (Kept.ite (State.supNotify_kept (State.shedAll_kept (State.put_kept k2))) (Kept.ite
      (State.shedAll_kept k2) k2)) (State.forEach_kept (fun _ _ f3_1 => State.supTrigger_kept f3_1) k1))

theorem State.supSource_kept {s0 a0 : State} (h0 : Kept s0 a0) : Kept s0 (State.supSource a0) := by
  unfold State.supSource
  lift_lets -underBinder
  extract_lets -descend u0 u1 u2 u3 u4
  have k1 : Kept s0 u1 := Kept.ite (State.modSup_kept h0) h0
  have k4 : Kept s0 u4 := State.flag_kept k1
  clear_value u0 u1 u2 u3 u4
  exact Kept.ite (State.report_kept (State.supIrq_kept (State.modSup_kept k4))) k4

theorem State.supEdge_kept {s0 a0 : State} (h0 : Kept s0 a0) : Kept s0 (State.supEdge a0) := by
  unfold State.supEdge
  exact Kept.ite h0 (State.supInhibit_kept (State.notePower_kept (State.supDew_kept (State.supUnavail_kept
      (State.supDrops_kept (State.supSource_kept h0))))))

theorem State.modTag_kept {s0 a0 : State} {a1 : TagPart → TagPart} (h0 : Kept s0 a0) : Kept s0 (State.modTag a0 a1) := by
  unfold State.modTag
  exact Kept.upd h0

theorem State.tagSelect_kept {s0 a0 : State} {a1} (h0 : Kept s0 a0) : Kept s0 (State.tagSelect a0 a1) := by
  unfold State.tagSelect
  split
  · exact h0
  · refine Kept.ite ?_ ?_
    · exact h0
    · split
      · exact h0
      · lift_lets -underBinder
        extract_lets -descend u2 u3
        have k3 : Kept s0 u3 := Kept.ite (State.put_kept (State.put_kept (State.put_kept h0))) (State.put_kept
            (State.put_kept (State.put_kept h0)))
        clear_value u2 u3
        exact State.tagSet_kept (State.flag_kept k3)

theorem State.tagEnd_kept {s0 a0 : State} {a1 a2} (h0 : Kept s0 a0) : Kept s0 (State.tagEnd a0 a1 a2) := by
  unfold State.tagEnd
  lift_lets -underBinder
  extract_lets -descend u0 u1 u2
  have k0 : Kept s0 u0 := State.modTag_kept h0
  have k1 : Kept s0 u1 := State.flag_kept (State.put_kept (State.put_kept k0))
  have k2 : Kept s0 u2 := State.flag_kept (State.put_kept k1)
  clear_value u0 u1 u2
  exact Kept.ite (State.tagSelect_kept (State.tagSelect_kept k2)) k2

theorem State.tagStart_kept {s0 a0 : State} {a1 a2 a3 a4} (h0 : Kept s0 a0) : Kept s0 (State.tagStart a0 a1 a2 a3 a4) := by
  unfold State.tagStart
  lift_lets -underBinder
  extract_lets -descend u0 u1 u2 u3 u4
  have k0 : Kept s0 u0 := State.bump_kept (State.resetRegs_kept h0)
  have k1 : Kept s0 u1 := State.flag_kept (State.put_kept (State.put_kept k0))
  have k2 : Kept s0 u2 := State.put_kept (State.put_kept (State.flag_kept k1))
  clear_value u0 u1 u2 u3 u4
  exact Kept.ite (State.tagEnd_kept k2) (Kept.ite (State.tagEnd_kept k2) (State.modTag_kept k2))

theorem State.tagGo_kept {s0 a0 : State} {a1 a2 a3 a4} (h0 : Kept s0 a0) : Kept s0 (State.tagGo a0 a1 a2 a3 a4) := by
  unfold State.tagGo
  exact Kept.ite (State.inc_kept h0) (State.tagStart_kept h0)

theorem State.tagBoot_kept {s0 a0 : State} (h0 : Kept s0 a0) : Kept s0 (State.tagBoot a0) := by
  unfold State.tagBoot
  exact Kept.ite h0 (State.tagGo_kept h0)

theorem State.applyTag_kept {s0 a0 : State} (h0 : Kept s0 a0) : Kept s0 (State.applyTag a0) := by
  unfold State.applyTag
  lift_lets -underBinder
  extract_lets -descend u0 u1 u2
  have k1 : Kept s0 u1 := State.put_kept (State.put_kept h0)
  have k2 : Kept s0 u2 := State.put_kept (State.put_kept k1)
  clear_value u0 u1 u2
  exact Kept.ite h0 (State.tagBoot_kept (State.put_kept k2))

theorem State.modCap_kept {s0 a0 : State} {a1 : CapPart → CapPart} (h0 : Kept s0 a0) : Kept s0 (State.modCap a0 a1) := by
  unfold State.modCap
  exact Kept.upd h0

theorem State.modFilm_kept {s0 a0 : State} {a1} {a2 : Film → Film} (h0 : Kept s0 a0) : Kept s0 (State.modFilm a0 a1 a2) := by
  unfold State.modFilm
  exact State.modCap_kept h0

theorem State.calLoad_kept {s0 a0 : State} {a1 a2} (h0 : Kept s0 a0) : Kept s0 (State.calLoad a0 a1 a2) := by
  unfold State.calLoad
  lift_lets -underBinder
  extract_lets -descend u0 u1 u2 u3 u4
  have k4 : Kept s0 u4 := State.flag_kept h0
  clear_value u0 u1 u2 u3 u4
  exact Kept.ite (State.modFilm_kept (State.flag_kept h0)) (Kept.ite k4 (State.report_kept (State.flag_kept k4)))

theorem State.calReload_kept {s0 a0 : State} (h0 : Kept s0 a0) : Kept s0 (State.calReload a0) := by
  unfold State.calReload
  lift_lets -underBinder
  extract_lets -descend u0
  have k0 : Kept s0 u0 := State.forEach_kept (fun _ _ f1_1 => Kept.ite (State.calLoad_kept f1_1) f1_1) h0
  clear_value u0
  exact State.capEdge_kept (State.modCap_kept k0)

theorem State.applyCap_kept {s0 a0 : State} (h0 : Kept s0 a0) : Kept s0 (State.applyCap a0) := by
  unfold State.applyCap
  lift_lets -underBinder
  extract_lets -descend u0 u1 u2 u3 u4
  have k1 : Kept s0 u1 := State.put_kept (State.put_kept (State.put_kept h0))
  have k2 : Kept s0 u2 := State.put_kept (State.put_kept k1)
  have k3 : Kept s0 u3 := State.forEach_kept (fun _ _ f4_1 => (by
    lift_lets -underBinder
    extract_lets -descend u5 u6
    have k6 : Kept s0 u6 := State.put_kept (State.put_kept (State.put_kept f4_1))
    clear_value u5 u6
    exact State.flag_kept (State.put_kept k6))) k2
  have k4 : Kept s0 u4 := State.forEach_kept (fun _ _ f5_1 => (by
    lift_lets -underBinder
    extract_lets -descend u6 u7
    have k7 : Kept s0 u7 := State.flag_kept (State.put_kept (State.put_kept f5_1))
    clear_value u6 u7
    exact State.put_kept (State.put_kept k7))) k3
  clear_value u0 u1 u2 u3 u4
  exact Kept.ite h0 (State.calReload_kept k4)

theorem State.showRank_kept {s0 a0 : State} (h0 : Kept s0 a0) : Kept s0 (State.showRank a0) := by
  unfold State.showRank
  lift_lets -underBinder
  extract_lets -descend u0
  have k0 : Kept s0 u0 := State.put_kept h0
  clear_value u0
  exact k0

theorem State.setVn_kept {s0 a0 : State} {a1} (h0 : Kept s0 a0) : Kept s0 (State.setVn a0 a1) := by
  unfold State.setVn
  lift_lets -underBinder
  extract_lets -descend u0
  have k0 : Kept s0 u0 := State.modSup_kept h0
  clear_value u0
  exact State.put_kept k0

theorem State.applySup_kept {s0 a0 : State} (h0 : Kept s0 a0) : Kept s0 (State.applySup a0) := by
  unfold State.applySup
  lift_lets -underBinder
  extract_lets -descend u0 u1 u2 u3 u4 u5 u6 u7 u8 u9 u10 u11 u12
  have k1 : Kept s0 u1 := State.put_kept (State.put_kept (State.put_kept h0))
  have k2 : Kept s0 u2 := State.put_kept (State.put_kept (State.put_kept k1))
  have k3 : Kept s0 u3 := State.put_kept (State.put_kept k2)
  have k4 : Kept s0 u4 := State.put_kept (State.put_kept k3)
  have k5 : Kept s0 u5 := State.put_kept (State.put_kept (State.put_kept k4))
  have k6 : Kept s0 u6 := State.put_kept k5
  have k11 : Kept s0 u11 := State.modSup_kept k6
  have k12 : Kept s0 u12 := State.forEach_kept (fun _ _ f13_1 => State.put_kept f13_1) k11
  clear_value u0 u1 u2 u3 u4 u5 u6 u7 u8 u9 u10 u11 u12
  exact Kept.ite h0 (State.supInhibit_kept (State.supDew_kept (State.showRank_kept (State.setVn_kept k12))))

theorem State.pinLevel_kept {s0 a0 : State} {a1 a2} (h0 : Kept s0 a0) : Kept s0 (State.pinLevel a0 a1 a2) := by
  unfold State.pinLevel
  lift_lets -underBinder
  extract_lets -descend u0 u1 u2 u3 u4
  have k1 : Kept s0 u1 := State.flag_kept h0
  have k2 : Kept s0 u2 := Kept.ite (State.putB_kept k1) k1
  clear_value u0 u1 u2 u3 u4
  exact Kept.ite (State.setB_kept k2) k2

theorem State.cloPark_kept {s0 a0 : State} (h0 : Kept s0 a0) : Kept s0 (State.cloPark a0) := by
  unfold State.cloPark
  exact State.put_kept (State.put_kept h0)

theorem State.resetClp_kept {s0 a0 : State} (h0 : Kept s0 a0) : Kept s0 (State.resetClp a0) := by
  unfold State.resetClp
  lift_lets -underBinder
  extract_lets -descend u0 u1 u2 u3 u4
  have k3 : Kept s0 u3 := Kept.upd h0
  have k4 : Kept s0 u4 := State.resetRegs_kept k3
  clear_value u0 u1 u2 u3 u4
  exact State.flag_kept (State.flag_kept k4)

theorem State.showFault_kept {s0 a0 : State} (h0 : Kept s0 a0) : Kept s0 (State.showFault a0) := by
  unfold State.showFault
  lift_lets -underBinder
  extract_lets -descend u0
  clear_value u0
  exact State.put_kept (State.put_kept h0)

theorem State.resetCap_kept {s0 a0 : State} (h0 : Kept s0 a0) : Kept s0 (State.resetCap a0) := by
  unfold State.resetCap
  lift_lets -underBinder
  extract_lets -descend u0 u1 u2 u3 u4 u5
  have k0 : Kept s0 u0 := State.capEdge_kept (State.flag_kept h0)
  have k3 : Kept s0 u3 := State.resetRegs_kept (State.modCap_kept k0)
  have k4 : Kept s0 u4 := State.forEach_kept (fun _ _ f5_1 => State.flag_kept f5_1) k3
  have k5 : Kept s0 u5 := State.forEach_kept (fun _ _ f6_1 => State.flag_kept f6_1) k4
  clear_value u0 u1 u2 u3 u4 u5
  exact State.calReload_kept (State.showFault_kept (State.put_kept k5))

theorem State.resetTag_kept {s0 a0 : State} (h0 : Kept s0 a0) : Kept s0 (State.resetTag a0) := by
  unfold State.resetTag
  lift_lets -underBinder
  extract_lets -descend u0 u1 u2 u3 u4 u5 u6
  have k4 : Kept s0 u4 := State.resetRegs_kept (State.modTag_kept h0)
  have k5 : Kept s0 u5 := State.putWord_kept (State.flag_kept (State.put_kept k4))
  have k6 : Kept s0 u6 := State.put_kept k5
  clear_value u0 u1 u2 u3 u4 u5 u6
  exact Kept.ite (State.put_kept (State.put_kept k6)) k6

theorem State.resetTev_kept {s0 a0 : State} {a1} (h0 : Kept s0 a0) : Kept s0 (State.resetTev a0 a1) := by
  unfold State.resetTev
  exact State.modTev_kept (State.resetRegs_kept h0)

theorem State.resetTcap_kept {s0 a0 : State} {a1} (h0 : Kept s0 a0) : Kept s0 (State.resetTcap a0 a1) := by
  unfold State.resetTcap
  lift_lets -underBinder
  extract_lets -descend u0 u1
  have k0 : Kept s0 u0 := State.resetRegs_kept h0
  clear_value u0 u1
  exact Kept.upd k0

theorem State.unparkDrvs_kept {s0 a0 : State} (h0 : Kept s0 a0) : Kept s0 (State.unparkDrvs a0) := by
  unfold State.unparkDrvs
  exact State.forEach_kept (fun _ _ f0_1 => Kept.ite (State.toReady_kept f0_1) f0_1) h0

theorem State.resume_kept {s0 a0 : State} (h0 : Kept s0 a0) : Kept s0 (State.resume a0) := by
  unfold State.resume
  lift_lets -underBinder
  extract_lets -descend u0 u1 u2
  have k1 : Kept s0 u1 := Kept.upd h0
  have k2 : Kept s0 u2 := State.showOwn_kept (State.flag_kept k1)
  clear_value u0 u1 u2
  exact State.unparkDrvs_kept (State.forEach_kept (fun _ _ f3_1 => State.unparkBayPins_kept f3_1) k2)

theorem State.cancelEntry_kept {s0 a0 : State} {a1} (h0 : Kept s0 a0) : Kept s0 (State.cancelEntry a0 a1) := by
  unfold State.cancelEntry
  lift_lets -underBinder
  extract_lets -descend u0
  have k0 : Kept s0 u0 := State.flag_kept (State.flag_kept (State.put_kept h0))
  clear_value u0
  exact Kept.ite (State.setPhase_kept k0) (Kept.ite (State.resume_kept k0) k0)

theorem State.wakeEvent_kept {s0 a0 : State} {a1} (h0 : Kept s0 a0) : Kept s0 (State.wakeEvent a0 a1) := by
  unfold State.wakeEvent
  lift_lets -underBinder
  extract_lets -descend u0 u1 u2 u3 u4
  have k2 : Kept s0 u2 := Kept.upd h0
  have k4 : Kept s0 u4 := Kept.upd h0
  clear_value u0 u1 u2 u3 u4
  exact Kept.ite (State.cancelEntry_kept h0) (Kept.ite (State.put_kept (State.flag_kept (State.put_kept k2))) (Kept.ite
      (State.put_kept (State.flag_kept (State.put_kept k4))) h0))

theorem State.tevTriggers_kept {s0 a0 a1 : State} (h0 : Kept s0 a0) (h1 : Kept s0 a1) : Kept s0 (State.tevTriggers a0 a1) := by
  unfold State.tevTriggers
  exact State.forEach_kept (fun _ _ f0_1 => State.adcTev_kept f0_1) h1

theorem State.touchBit_kept {s0 a0 : State} {a1 a2} (h0 : Kept s0 a0) : Kept s0 (State.touchBit a0 a1 a2) := by
  unfold State.touchBit
  lift_lets -underBinder
  extract_lets -descend u0
  have k0 : Kept s0 u0 := State.flag_kept h0
  clear_value u0
  exact Kept.ite (State.putB_kept k0) (State.putB_kept k0)

theorem State.releaseAll_kept {s0 a0 : State} (h0 : Kept s0 a0) : Kept s0 (State.releaseAll a0) := by
  unfold State.releaseAll
  lift_lets -underBinder
  extract_lets -descend u0 u1 u2
  have k0 : Kept s0 u0 := State.forEach_kept (fun _ _ f1_1 => Kept.ite (State.flag_kept (State.touchBit_kept f1_1)) f1_1) h0
  have k1 : Kept s0 u1 := State.forEach_kept (fun _ _ f2_1 => Kept.ite (State.flag_kept (State.flag_kept f2_1)) f2_1) k0
  clear_value u0 u1 u2
  exact State.modCap_kept k1

theorem State.capWake_kept {s0 a0 : State} (h0 : Kept s0 a0) : Kept s0 (State.capWake a0) := by
  unfold State.capWake
  lift_lets -underBinder
  extract_lets -descend u0 u1
  have k0 : Kept s0 u0 := State.releaseAll_kept h0
  have k1 : Kept s0 u1 := State.forEach_kept (fun _ _ f2_1 => (by
    lift_lets -underBinder
    extract_lets -descend u3
    have k3 : Kept s0 u3 := State.flag_kept f2_1
    clear_value u3
    exact Kept.ite (Kept.ite (State.atDew_kept k3) k3) f2_1)) k0
  clear_value u0 u1
  exact State.capEdge_kept (State.modCap_kept k1)

theorem State.commitPin_kept {s0 a0 : State} {a1} (h0 : Kept s0 a0) : Kept s0 (State.commitPin a0 a1) := by
  unfold State.commitPin
  lift_lets -underBinder
  extract_lets -descend u0
  clear_value u0
  exact Kept.ite h0 (Kept.ite (State.setActive_kept h0) (State.movePin_kept h0))

theorem State.commitBay_kept {s0 a0 : State} {a1} (h0 : Kept s0 a0) : Kept s0 (State.commitBay a0 a1) := by
  unfold State.commitBay
  lift_lets -underBinder
  extract_lets -descend u0 u1
  have k1 : Kept s0 u1 := State.put_kept h0
  clear_value u0 u1
  split
  · exact State.put_kept (State.put_kept (State.put_kept k1))
  · lift_lets -underBinder
    extract_lets -descend u3
    have k3 : Kept s0 u3 := State.put_kept (State.put_kept (State.put_kept k1))
    clear_value u3
    exact State.forEach_kept (fun _ _ f4_1 => State.commitPin_kept f4_1) k3

theorem State.tevEn_kept {s0 a0 : State} {a1 a2} (h0 : Kept s0 a0) : Kept s0 (State.tevEn a0 a1 a2) := by
  unfold State.tevEn
  lift_lets -underBinder
  extract_lets -descend u0
  have k0 : Kept s0 u0 := State.flag_kept h0
  clear_value u0
  exact Kept.ite k0 (State.flag_kept k0)

theorem State.tevArm_kept {s0 a0 : State} {a1 a2} (h0 : Kept s0 a0) : Kept s0 (State.tevArm a0 a1 a2) := by
  unfold State.tevArm
  lift_lets -underBinder
  extract_lets -descend u0 u1
  have k0 : Kept s0 u0 := State.put_kept h0
  have k1 : Kept s0 u1 := State.flag_kept k0
  clear_value u0 u1
  exact Kept.ite k0 (Kept.ite k1 (State.modTev_kept (State.flag_kept k1)))

theorem State.lpWrite_kept {s0 a0 : State} (h0 : Kept s0 a0) : Kept s0 (State.lpWrite a0) := by
  unfold State.lpWrite
  lift_lets -underBinder
  extract_lets -descend u0 u1 u2
  have k2 : Kept s0 u2 := State.modSup_kept h0
  clear_value u0 u1 u2
  refine Kept.ite ?_ ?_
  · split
    · rename_i v3_0 e3
      have k3_0 := KeptO.of (State.startPage_kept k2) e3
      exact k3_0
    · exact State.modSup_kept h0
  · exact State.modSup_kept h0

theorem State.learnReset_kept {s0 a0 : State} (h0 : Kept s0 a0) : Kept s0 (State.learnReset a0) := by
  unfold State.learnReset
  lift_lets -underBinder
  extract_lets -descend u0 u1 u2
  have k0 : Kept s0 u0 := State.setVn_kept h0
  have k1 : Kept s0 u1 := State.modSup_kept k0
  have k2 : Kept s0 u2 := State.forEach_kept (fun _ _ f3_1 => State.put_kept f3_1) k1
  clear_value u0 u1 u2
  exact Kept.ite h0 (State.lpWrite_kept (State.showRank_kept (State.flag_kept k2)))

theorem State.supEn_kept {s0 a0 : State} {a1} (h0 : Kept s0 a0) : Kept s0 (State.supEn a0 a1) := by
  unfold State.supEn
  lift_lets -underBinder
  extract_lets -descend u0 u1
  have k1 : Kept s0 u1 := State.put_kept h0
  clear_value u0 u1
  exact Kept.ite k1 (State.supEdge_kept (State.modSup_kept (State.flag_kept k1)))

theorem State.supDetect_kept {s0 a0 : State} {a1} (h0 : Kept s0 a0) : Kept s0 (State.supDetect a0 a1) := by
  unfold State.supDetect
  exact Kept.ite h0 (Kept.ite (State.put_kept h0) (State.putWord_kept h0))

theorem State.startLoad_kept {s0 a0 : State} (h0 : Kept s0 a0) : Kept s0 (State.startLoad a0) := by
  unfold State.startLoad
  exact State.modCap_kept h0

theorem State.capEn_kept {s0 a0 : State} {a1 a2} (h0 : Kept s0 a0) : Kept s0 (State.capEn a0 a1 a2) := by
  unfold State.capEn
  lift_lets -underBinder
  extract_lets -descend u0 u1 u2
  have k1 : Kept s0 u1 := State.flag_kept (State.flag_kept (State.put_kept h0))
  have k2 : Kept s0 u2 := State.forEach_kept (fun _ _ f3_1 => State.flag_kept f3_1) k1
  clear_value u0 u1 u2
  exact Kept.ite (State.put_kept h0) (Kept.ite (State.put_kept h0) (Kept.ite (State.startLoad_kept (State.modCap_kept k2))
      (Kept.ite (State.capEdge_kept (State.modCap_kept (State.releaseAll_kept k1))) k1)))

theorem State.recal_kept {s0 a0 : State} (h0 : Kept s0 a0) : Kept s0 (State.recal a0) := by
  unfold State.recal
  exact Kept.ite (State.startLoad_kept h0) h0

theorem State.capTempSw_kept {s0 a0 : State} {a1} (h0 : Kept s0 a0) : Kept s0 (State.capTempSw a0 a1) := by
  unfold State.capTempSw
  exact State.modCap_kept (State.put_kept h0)

theorem State.tagCmd_kept {s0 a0 : State} {a1 a2 a3} (h0 : Kept s0 a0) : Kept s0 (State.tagCmd a0 a1 a2 a3) := by
  unfold State.tagCmd
  lift_lets -underBinder
  extract_lets -descend u0 u1
  clear_value u0 u1
  exact Kept.ite h0 (Kept.ite (State.inc_kept h0) (Kept.ite (State.tagEnd_kept (State.put_kept (State.flag_kept h0)))
      (State.tagStart_kept h0)))

theorem State.setRun_kept {s0 a0 : State} {a1} (h0 : Kept s0 a0) : Kept s0 (State.setRun a0 a1) := by
  unfold State.setRun
  exact State.modTag_kept h0

theorem State.tagAbort_kept {s0 a0 : State} (h0 : Kept s0 a0) : Kept s0 (State.tagAbort a0) := by
  unfold State.tagAbort
  split
  · exact h0
  · exact Kept.ite (State.tagEnd_kept h0) (Kept.ite (State.setRun_kept h0) (Kept.ite h0 (State.tagEnd_kept h0)))

theorem State.modClo_kept {s0 a0 : State} {a1} {a2 : CloPort → CloPort} (h0 : Kept s0 a0) : Kept s0 (State.modClo a0 a1 a2)
    := by
  unfold State.modClo
  exact Kept.upd h0

theorem State.modCli_kept {s0 a0 : State} {a1} {a2 : CliPort → CliPort} (h0 : Kept s0 a0) : Kept s0 (State.modCli a0 a1 a2)
    := by
  unfold State.modCli
  exact Kept.upd h0

theorem execSteadyCounterMismatch_kept {s0 : State} {a0} {a1 : State} (h1 : Kept s0 a1) : KeptH s0
    (execSteadyCounterMismatch a0 a1) := by
  unfold execSteadyCounterMismatch
  lift_lets -underBinder
  extract_lets -descend u0 u1 u2
  have k2 : Kept s0 u2 := Kept.upd h1
  clear_value u0 u1 u2
  exact KeptH.answer (Kept.ite h1 (Kept.ite k2 (State.report_kept k2)))

theorem execPinReadbackMismatch_kept {s0 : State} {a0 a1} {a2 : State} (h2 : Kept s0 a2) : KeptH s0
    (execPinReadbackMismatch a0 a1 a2) := by
  unfold execPinReadbackMismatch
  lift_lets -underBinder
  extract_lets -descend u0
  clear_value u0
  exact KeptH.answer (by
    refine Kept.ite ?_ ?_
    · exact h2
    · refine Kept.ite ?_ ?_
      · split
        · exact State.report_kept (State.serDeFault_kept (State.parkPin_kept h2))
        · exact State.report_kept h2
      · refine Kept.ite ?_ ?_
        · split
          · exact State.report_kept h2
          · exact h2
        · exact Kept.ite (State.report_kept h2) h2)

theorem State.gpioOut_kept {s0 a0 : State} {a1 a2 a3} (h0 : Kept s0 a0) : Kept s0 (State.gpioOut a0 a1 a2 a3) := by
  unfold State.gpioOut
  lift_lets -underBinder
  extract_lets -descend u0
  have k0 : Kept s0 u0 := State.put_kept h0
  clear_value u0
  exact State.forEach_kept (fun _ _ f1_1 => Kept.ite f1_1 (State.driveGpio_kept f1_1)) k0

theorem State.latchTime_kept {s0 a0 : State} {a1} (h0 : Kept s0 a0) : Kept s0 (State.latchTime a0 a1) := by
  unfold State.latchTime
  lift_lets -underBinder
  extract_lets -descend u0 u1
  clear_value u0 u1
  exact State.reply1_kept (Kept.upd h0)

theorem State.showTcap_kept {s0 a0 : State} {a1} (h0 : Kept s0 a0) : Kept s0 (State.showTcap a0 a1) := by
  unfold State.showTcap
  lift_lets -underBinder
  extract_lets -descend u0 u1
  clear_value u0 u1
  exact State.put_kept (State.flag_kept (State.put_kept h0))

theorem State.setTcap_kept {s0 a0 : State} {a1 a2} (h0 : Kept s0 a0) : Kept s0 (State.setTcap a0 a1 a2) := by
  unfold State.setTcap
  lift_lets -underBinder
  extract_lets -descend u0
  clear_value u0
  exact State.showTcap_kept (Kept.upd h0)

theorem State.capOos_kept {s0 a0 : State} (h0 : Kept s0 a0) : Kept s0 (State.capOos a0) := by
  unfold State.capOos
  lift_lets -underBinder
  extract_lets -descend u0 u1
  have k0 : Kept s0 u0 := State.forEach_kept (fun _ _ f1_1 => State.flag_kept (State.touchBit_kept f1_1)) h0
  have k1 : Kept s0 u1 := State.forEach_kept (fun _ _ f2_1 => State.flag_kept (State.flag_kept f2_1)) k0
  clear_value u0 u1
  exact State.capEdge_kept (State.showFault_kept k1)

theorem execSteadyHalfwrap_kept {s0 a0 : State} (h0 : Kept s0 a0) : KeptH s0 (execSteadyHalfwrap a0) := by
  unfold execSteadyHalfwrap
  exact KeptH.answer (State.put_kept h0)

theorem execTimeSteadyLo_kept {s0 : State} {a0} {a1 : State} (h1 : Kept s0 a1) : KeptH s0 (execTimeSteadyLo a0 a1) := by
  unfold execTimeSteadyLo
  exact KeptH.answer (State.act_kept h1 (fun _ f0_0 => State.latchTime_kept f0_0))

theorem State.byHook_kept {s0 a0 : State} {a1} {a2 : State → State} (h0 : Kept s0 a0) (h2 : ∀ (b0 : State) (_ : Kept s0
    b0), Kept s0 (a2 b0)) : Kept s0 (State.byHook a0 a1 a2) := by
  unfold State.byHook
  exact Kept.ite (h2 _ h0) h0

theorem execTimeSrvRate_kept {s0 : State} {a0 a1} {a2 : State} (h2 : Kept s0 a2) : KeptH s0 (execTimeSrvRate a0 a1 a2) := by
  unfold execTimeSrvRate
  exact KeptH.answer (State.byHook_kept h2 (fun _ f0_0 => State.setAdj_kept f0_0))

theorem execTimeSrvCorr_kept {s0 : State} {a0 a1} {a2 : State} (h2 : Kept s0 a2) : KeptH s0 (execTimeSrvCorr a0 a1 a2) := by
  unfold execTimeSrvCorr
  exact KeptH.answer (State.byHook_kept h2 (fun _ f0_0 => (by
    lift_lets -underBinder
    extract_lets -descend u1
    have k1 : Kept s0 u1 := State.put_kept f0_0
    clear_value u1
    exact State.tevTriggers_kept k1 (State.submitCorr_kept k1))))

theorem execSlewEnd_kept {s0 a0 : State} (h0 : Kept s0 a0) : KeptH s0 (execSlewEnd a0) := by
  unfold execSlewEnd
  lift_lets -underBinder
  extract_lets -descend u0 u1
  have k1 : Kept s0 u1 := State.showTime_kept (Kept.upd h0)
  clear_value u0 u1
  exact KeptH.answer (Kept.ite (State.journal_kept (State.flag_kept k1)) h0)

theorem execTimeSrcTimeout_kept {s0 a0 : State} (h0 : Kept s0 a0) : KeptH s0 (execTimeSrcTimeout a0) := by
  unfold execTimeSrcTimeout
  lift_lets -underBinder
  extract_lets -descend u0 u1 u2
  have k1 : Kept s0 u1 := State.report_kept (State.flag_kept (State.flag_kept h0))
  clear_value u0 u1 u2
  exact KeptH.answer (Kept.ite h0 (State.showTime_kept (Kept.upd k1)))

theorem execTimeStep_kept {s0 : State} {a0} {a1 : State} (h1 : Kept s0 a1) : KeptH s0 (execTimeStep a0 a1) := by
  unfold execTimeStep
  exact KeptH.answer (State.byBay0_kept h1 (fun _ f0_0 => State.tevTriggers_kept f0_0 (State.timeCmd_kept f0_0)))

theorem execTimeSlew_kept {s0 : State} {a0} {a1 : State} (h1 : Kept s0 a1) : KeptH s0 (execTimeSlew a0 a1) := by
  unfold execTimeSlew
  exact KeptH.answer (State.byBay0_kept h1 (fun _ f0_0 => State.timeCmd_kept f0_0))

theorem execTimeSet_kept {s0 : State} {a0} {a1 : State} (h1 : Kept s0 a1) : KeptH s0 (execTimeSet a0 a1) := by
  unfold execTimeSet
  exact KeptH.answer (State.byBay0_kept h1 (fun _ f0_0 => State.tevTriggers_kept f0_0 (State.timeCmd_kept f0_0)))

theorem execJournalPeriodic_kept {s0 a0 : State} (h0 : Kept s0 a0) : KeptH s0 (execJournalPeriodic a0) := by
  unfold execJournalPeriodic
  exact KeptH.answer (Kept.ite (State.journal_kept h0) h0)

theorem execTevArm_kept {s0 : State} {a0 a1 a2} {a3 : State} (h3 : Kept s0 a3) : KeptH s0 (execTevArm a0 a1 a2 a3) := by
  unfold execTevArm
  exact KeptH.answer (State.byOwner_kept h3 (fun _ f0_0 => State.tevArm_kept f0_0))

theorem execTevFire_kept {s0 : State} {a0} {a1 : State} (h1 : Kept s0 a1) : KeptH s0 (execTevFire a0 a1) := by
  unfold execTevFire
  exact KeptH.answer (Kept.ite (State.adcTev_kept (State.tevFire_kept h1)) h1)

theorem execTevPulseEnd_kept {s0 : State} {a0} {a1 : State} (h1 : Kept s0 a1) : KeptH s0 (execTevPulseEnd a0 a1) := by
  unfold execTevPulseEnd
  exact KeptH.answer (State.modTev_kept h1)

theorem execTevDisarm_kept {s0 : State} {a0 a1} {a2 : State} (h2 : Kept s0 a2) : KeptH s0 (execTevDisarm a0 a1 a2) := by
  unfold execTevDisarm
  exact KeptH.answer (State.byOwner_kept h2 (fun _ f0_0 => State.tevEn_kept f0_0))

theorem State.tcapEdge_kept {s0 a0 : State} {a1 a2 a3} (h0 : Kept s0 a0) : Kept s0 (State.tcapEdge a0 a1 a2 a3) := by
  unfold State.tcapEdge
  lift_lets -underBinder
  extract_lets -descend u0 u1 u2 u3
  have k2 : Kept s0 u2 := Kept.upd h0
  clear_value u0 u1 u2 u3
  exact Kept.ite h0 (Kept.ite (State.flag_kept h0) (Kept.ite (State.report_kept (State.flag_kept k2)) (State.setTcap_kept k2)))

theorem execTcapEdge_kept {s0 : State} {a0 a1 a2} {a3 : State} (h3 : Kept s0 a3) : KeptH s0 (execTcapEdge a0 a1 a2 a3) := by
  unfold execTcapEdge
  exact KeptH.answer (Kept.ite (State.tcapEdge_kept h3) h3)

theorem execTcapStamp_kept {s0 : State} {a0 a1} {a2 : State} (h2 : Kept s0 a2) : KeptH s0 (execTcapStamp a0 a1 a2) := by
  unfold execTcapStamp
  exact KeptH.answer (State.act_kept h2 (fun _ f0_0 => (by
    lift_lets -underBinder
    extract_lets -descend u1
    clear_value u1
    exact State.setTcap_kept (State.reply1_kept f0_0))))

theorem State.cloInstant_kept {s0 a0 : State} {a1} (h0 : Kept s0 a0) : Kept s0 (State.cloInstant a0 a1) := by
  unfold State.cloInstant
  exact State.modClo_kept h0

theorem State.gpioInstant_kept {s0 a0 : State} {a1} (h0 : Kept s0 a0) : Kept s0 (State.gpioInstant a0 a1) := by
  unfold State.gpioInstant
  exact State.forEach_kept (fun _ _ f0_1 => (by
    lift_lets -underBinder
    extract_lets -descend u1
    have k1 : Kept s0 u1 := Kept.ite (State.driveGpio_kept f0_1) f0_1
    clear_value u1
    exact Kept.ite (State.putB_kept k1) k1)) h0

theorem State.cliInstant_kept {s0 a0 : State} {a1} (h0 : Kept s0 a0) : Kept s0 (State.cliInstant a0 a1) := by
  unfold State.cliInstant
  exact State.put_kept (State.put_kept h0)

theorem execPairTimeFollow_kept {s0 : State} {a0} {a1 : State} (h1 : Kept s0 a1) : KeptH s0 (execPairTimeFollow a0 a1) := by
  unfold execPairTimeFollow
  exact KeptH.answer (State.tevTriggers_kept h1 (State.pairFollow_kept h1))

theorem execKineticHoldExit_kept {s0 : State} {a0} {a1 : State} (h1 : Kept s0 a1) : KeptH s0 (execKineticHoldExit a0 a1) := by
  unfold execKineticHoldExit
  exact KeptH.answer (Kept.ite h1 (State.khExit_kept h1))

theorem State.supGate_kept {s0 a0 : State} {a1} (h0 : Kept s0 a0) : Kept s0 (State.supGate a0 a1) := by
  unfold State.supGate
  exact State.forEach_kept (fun _ _ f0_1 => (by
    lift_lets -underBinder
    extract_lets -descend u1 u2 u3
    have k3 : Kept s0 u3 := State.flag_kept (State.flag_kept f0_1)
    clear_value u1 u2 u3
    exact Kept.ite k3 (State.forEach_kept (fun _ _ f4_1 => Kept.ite (State.readyIn_kept f4_1) f4_1) (State.pairAll_kept
        k3)))) h0

theorem State.supKhEnter_kept {s0 a0 : State} (h0 : Kept s0 a0) : Kept s0 (State.supKhEnter a0) := by
  unfold State.supKhEnter
  lift_lets -underBinder
  extract_lets -descend u0 u1
  have k1 : Kept s0 u1 := State.put_kept (State.forEach_kept (fun _ _ f2_1 => State.khEnter_kept f2_1) h0)
  clear_value u0 u1
  exact State.notePower_kept (State.modSup_kept k1)

theorem State.supKhExit_kept {s0 a0 : State} (h0 : Kept s0 a0) : Kept s0 (State.supKhExit a0) := by
  unfold State.supKhExit
  exact State.modSup_kept (State.put_kept (State.forEach_kept (fun _ _ f0_1 => State.khExit_kept f0_1) h0))

theorem State.restoreLast_kept {s0 a0 : State} (h0 : Kept s0 a0) : Kept s0 (State.restoreLast a0) := by
  unfold State.restoreLast
  split
  · exact h0
  · exact State.modSup_kept (State.supMoved_kept (State.clrB_kept (State.shedPin_kept h0)))

theorem State.learnRanks_kept {s0 a0 : State} (h0 : Kept s0 a0) : Kept s0 (State.learnRanks a0) := by
  unfold State.learnRanks
  lift_lets -underBinder
  extract_lets -descend u0 u1 u2 u3 u4
  clear_value u0 u1 u2 u3 u4
  exact Kept.ite h0 (State.showRank_kept (State.modSup_kept h0))

theorem State.supNormal_kept {s0 a0 : State} (h0 : Kept s0 a0) : Kept s0 (State.supNormal a0) := by
  unfold State.supNormal
  lift_lets -underBinder
  extract_lets -descend u0 u1
  have k0 : Kept s0 u0 := State.put_kept h0
  have k1 : Kept s0 u1 := Kept.ite (State.learnRanks_kept k0) k0
  clear_value u0 u1
  exact State.lpWrite_kept (State.modSup_kept k1)

theorem State.supTo_kept {s0 a0 : State} {a1} (h0 : Kept s0 a0) : Kept s0 (State.supTo a0 a1) := by
  unfold State.supTo
  lift_lets -underBinder
  extract_lets -descend u0 u1 u2 u3
  have k0 : Kept s0 u0 := Kept.ite (State.cancelEntry_kept h0) h0
  have k1 : Kept s0 u1 := State.put_kept k0
  have k2 : Kept s0 u2 := State.restoreLast_kept (State.supGate_kept k1)
  have k3 : Kept s0 u3 := Kept.ite (State.forEach_kept (fun _ _ f4_1 => State.shedNext_kept f4_1) (State.supGate_kept k1))
      (Kept.ite (State.supKhEnter_kept (State.modSup_kept (State.supGate_kept k1))) (Kept.ite (State.supKhExit_kept
      (State.supGate_kept k1)) (Kept.ite (Kept.ite k2 (State.supNormal_kept k2)) k1)))
  clear_value u0 u1 u2 u3
  exact State.supNotify_kept (State.supInhibit_kept k3)

theorem State.supMove_kept {s0 a0 : State} {a1} (h0 : Kept s0 a0) : Kept s0 (State.supMove a0 a1) := by
  unfold State.supMove
  lift_lets -underBinder
  extract_lets -descend u0
  clear_value u0
  exact Kept.ite (Kept.ite (State.supTo_kept h0) h0) (Kept.ite (Kept.ite (State.supTo_kept h0) h0) (Kept.ite
      (State.supTo_kept h0) (Kept.ite (Kept.ite (State.supTo_kept h0) (Kept.ite (State.supTo_kept h0) h0)) (Kept.ite
      (State.supTo_kept h0) h0))))

theorem State.supClassTo_kept {s0 a0 : State} {a1} (h0 : Kept s0 a0) : Kept s0 (State.supClassTo a0 a1) := by
  unfold State.supClassTo
  lift_lets -underBinder
  extract_lets -descend u0 u1 u2 u3 u4
  have k2 : Kept s0 u2 := State.modSup_kept (State.put_kept h0)
  have k3 : Kept s0 u3 := Kept.ite (State.put_kept k2) k2
  have k4 : Kept s0 u4 := Kept.ite (State.report_kept (State.supIrq_kept (State.inc_kept (State.modSup_kept k3))))
      (Kept.ite (State.report_kept (State.supIrq_kept (State.inc_kept k3))) (Kept.ite (State.report_kept (State.supIrq_kept
      (State.inc_kept k3))) k3))
  clear_value u0 u1 u2 u3 u4
  exact Kept.ite h0 (State.supMove_kept k4)

theorem State.supFast_kept {s0 a0 : State} {a1 a2 a3} (h0 : Kept s0 a0) : Kept s0 (State.supFast a0 a1 a2 a3) := by
  unfold State.supFast
  lift_lets -underBinder
  extract_lets -descend u0 u1 u2 u3 u4 u5
  have k3 : Kept s0 u3 := State.modSup_kept (State.putI_kept h0)
  have k5 : Kept s0 u5 := Kept.ite (State.modSup_kept k3) (Kept.ite (State.modSup_kept k3) k3)
  clear_value u0 u1 u2 u3 u4 u5
  exact Kept.ite k3 (Kept.ite (State.supClassTo_kept k5) (Kept.ite (State.supClassTo_kept k5) k5))

theorem State.linePeriod_kept {s0 a0 : State} (h0 : Kept s0 a0) : Kept s0 (State.linePeriod a0) := by
  unfold State.linePeriod
  lift_lets -underBinder
  extract_lets -descend u0 u1 u2 u3 u4 u5 u6
  have k6 : Kept s0 u6 := State.modSup_kept h0
  clear_value u0 u1 u2 u3 u4 u5 u6
  exact State.put_kept k6

theorem State.supLoop_kept {s0 a0 : State} (h0 : Kept s0 a0) : Kept s0 (State.supLoop a0) := by
  unfold State.supLoop
  lift_lets -underBinder
  extract_lets -descend u0 u1 u2 u3 u4
  have k4 : Kept s0 u4 := State.took_kept (State.modSup_kept h0)
  clear_value u0 u1 u2 u3 u4
  exact Kept.ite h0 (Kept.ite (Kept.ite (State.linePeriod_kept k4) k4) (State.modSup_kept h0))

theorem State.supData_kept {s0 a0 : State} {a1 a2 a3} (h0 : Kept s0 a0) : Kept s0 (State.supData a0 a1 a2 a3) := by
  unfold State.supData
  lift_lets -underBinder
  extract_lets -descend u0 u1 u2 u3 u4
  have k0 : Kept s0 u0 := State.supLoop_kept h0
  have k4 : Kept s0 u4 := State.putI_kept (State.modSup_kept k0)
  clear_value u0 u1 u2 u3 u4
  exact Kept.ite k0 (Kept.ite k4 (Kept.ite (State.supClassTo_kept k4) (Kept.ite (State.supClassTo_kept k4) k4)))

theorem execAdcConversionEnd_kept {s0 : State} {a0 a1} {a2 : State} (h2 : Kept s0 a2) : KeptH s0 (execAdcConversionEnd a0
    a1 a2) := by
  unfold execAdcConversionEnd
  lift_lets -underBinder
  extract_lets -descend u0 u1 u2 u3 u4 u5
  have k0 : Kept s0 u0 := State.adcEnd_kept h2
  have k3 : Kept s0 u3 := Kept.upd k0
  clear_value u0 u1 u2 u3 u4 u5
  exact KeptH.answer (Kept.ite (State.supInhibit_kept (State.supFast_kept (State.supData_kept (State.supSource_kept k3)))) k0)

theorem execSdmDataOutput_kept {s0 : State} {a0 a1} {a2 : State} (h2 : Kept s0 a2) : KeptH s0 (execSdmDataOutput a0 a1 a2) := by
  unfold execSdmDataOutput
  lift_lets -underBinder
  extract_lets -descend u0 u1 u2
  have k0 : Kept s0 u0 := State.sdmData_kept h2
  clear_value u0 u1 u2
  exact KeptH.answer (Kept.ite (State.supInhibit_kept (State.supData_kept (State.supSource_kept k0))) k0)

theorem execSdmComparatorOutput_kept {s0 : State} {a0 a1} {a2 : State} (h2 : Kept s0 a2) : KeptH s0
    (execSdmComparatorOutput a0 a1 a2) := by
  unfold execSdmComparatorOutput
  lift_lets -underBinder
  extract_lets -descend u0 u1
  have k0 : Kept s0 u0 := State.sdmCompare_kept h2
  clear_value u0 u1
  exact KeptH.answer (Kept.ite (State.supInhibit_kept (State.supFast_kept (State.supSource_kept k0))) k0)

theorem execSupAinRequest_kept {s0 a0 : State} (h0 : Kept s0 a0) : KeptH s0 (execSupAinRequest a0) := by
  unfold execSupAinRequest
  exact KeptH.answer (Kept.ite (State.adcTrigger_kept h0) h0)

theorem State.learnVn_kept {s0 a0 : State} (h0 : Kept s0 a0) : Kept s0 (State.learnVn a0) := by
  unfold State.learnVn
  lift_lets -underBinder
  extract_lets -descend u0 u1 u2 u3 u4 u5 u6 u7 u8
  have k8 : Kept s0 u8 := State.flag_kept (State.setVn_kept h0)
  clear_value u0 u1 u2 u3 u4 u5 u6 u7 u8
  exact Kept.ite h0 (Kept.ite (State.report_kept (State.supIrq_kept k8)) k8)

theorem execSupMillisecond_kept {s0 a0 : State} (h0 : Kept s0 a0) : KeptH s0 (execSupMillisecond a0) := by
  unfold execSupMillisecond
  lift_lets -underBinder
  extract_lets -descend u0
  clear_value u0
  exact KeptH.answer (Kept.ite (State.learnVn_kept (State.modSup_kept (State.putI_kept h0))) h0)

theorem execShedTrigger_kept {s0 a0 : State} (h0 : Kept s0 a0) : KeptH s0 (execShedTrigger a0) := by
  unfold execShedTrigger
  exact KeptH.answer (State.supTrigger_kept h0)

theorem execHoldExpiry_kept {s0 a0 : State} (h0 : Kept s0 a0) : KeptH s0 (execHoldExpiry a0) := by
  unfold execHoldExpiry
  lift_lets -underBinder
  extract_lets -descend u0
  clear_value u0
  exact KeptH.answer (Kept.ite (State.supTo_kept h0) h0)

theorem execRestoreStep_kept {s0 a0 : State} (h0 : Kept s0 a0) : KeptH s0 (execRestoreStep a0) := by
  unfold execRestoreStep
  lift_lets -underBinder
  extract_lets -descend u0
  have k0 : Kept s0 u0 := State.restoreLast_kept h0
  clear_value u0
  exact KeptH.answer (Kept.ite (Kept.ite k0 (State.supNotify_kept (State.supInhibit_kept (State.supNormal_kept k0)))) h0)

theorem execShedPowerMeasurement_kept {s0 a0 : State} (h0 : Kept s0 a0) : KeptH s0 (execShedPowerMeasurement a0) := by
  unfold execShedPowerMeasurement
  lift_lets -underBinder
  extract_lets -descend u0
  have k0 : Kept s0 u0 := State.notePower_kept h0
  clear_value u0
  exact KeptH.answer (by
    split
    · exact k0
    · lift_lets -underBinder
      extract_lets -descend u2 u3 u4 u5 u6
      clear_value u2 u3 u4 u5 u6
      exact Kept.ite k0 (State.modSup_kept (State.putI_kept k0)))

theorem execSupLp10Write_kept {s0 a0 : State} (h0 : Kept s0 a0) : KeptH s0 (execSupLp10Write a0) := by
  unfold execSupLp10Write
  lift_lets -underBinder
  extract_lets -descend u0 u1
  clear_value u0 u1
  exact KeptH.answer (Kept.ite (State.lpWrite_kept h0) h0)

theorem execSupEn_kept {s0 : State} {a0 a1} {a2 : State} (h2 : Kept s0 a2) : KeptH s0 (execSupEn a0 a1 a2) := by
  unfold execSupEn
  exact KeptH.answer (State.byBay0_kept h2 (fun _ f0_0 => State.supEn_kept f0_0))

theorem execSupDetect_kept {s0 : State} {a0 a1} {a2 : State} (h2 : Kept s0 a2) : KeptH s0 (execSupDetect a0 a1 a2) := by
  unfold execSupDetect
  exact KeptH.answer (State.byBay0_kept h2 (fun _ f0_0 => State.supDetect_kept f0_0))

theorem execLearnReset_kept {s0 : State} {a0} {a1 : State} (h1 : Kept s0 a1) : KeptH s0 (execLearnReset a0 a1) := by
  unfold execLearnReset
  exact KeptH.answer (State.byBay0_kept h1 (fun _ f0_0 => State.learnReset_kept f0_0))

theorem execDewClear_kept {s0 a0 : State} (h0 : Kept s0 a0) : KeptH s0 (execDewClear a0) := by
  unfold execDewClear
  exact KeptH.answer (Kept.ite (State.supInhibit_kept (State.supIrq_kept (State.flag_kept h0))) h0)

theorem State.cloRestore_kept {s0 a0 : State} {a1 a2 a3} (h0 : Kept s0 a0) : Kept s0 (State.cloRestore a0 a1 a2 a3) := by
  unfold State.cloRestore
  lift_lets -underBinder
  extract_lets -descend u0 u1 u2 u3 u4 u5 u6
  have k5 : Kept s0 u5 := State.modClo_kept h0
  have k6 : Kept s0 u6 := State.setB_kept (State.flag_kept k5)
  clear_value u0 u1 u2 u3 u4 u5 u6
  exact Kept.ite (Kept.ite k6 (State.modClo_kept (State.put_kept (State.flag_kept k6)))) k5

theorem State.cloShort_kept {s0 a0 : State} {a1 a2 a3} (h0 : Kept s0 a0) : Kept s0 (State.cloShort a0 a1 a2 a3) := by
  unfold State.cloShort
  lift_lets -underBinder
  extract_lets -descend u0 u1 u2
  have k1 : Kept s0 u1 := State.put_kept (State.flag_kept (State.flag_kept h0))
  have k2 : Kept s0 u2 := State.setB_kept (State.inc_kept k1)
  clear_value u0 u1 u2
  exact State.report_kept (State.modClo_kept k2)

theorem State.cloCheck_kept {s0 a0 : State} {a1 a2 a3} (h0 : Kept s0 a0) : Kept s0 (State.cloCheck a0 a1 a2 a3) := by
  unfold State.cloCheck
  lift_lets -underBinder
  extract_lets -descend u0 u1 u2 u3 u4
  have k4 : Kept s0 u4 := State.modClo_kept h0
  clear_value u0 u1 u2 u3 u4
  exact Kept.ite (State.cloShort_kept k4) k4

theorem State.cloFollow_kept {s0 a0 : State} {a1} (h0 : Kept s0 a0) : Kept s0 (State.cloFollow a0 a1) := by
  unfold State.cloFollow
  lift_lets -underBinder
  extract_lets -descend u0 u1
  have k1 : Kept s0 u1 := Kept.ite (State.flag_kept h0) h0
  clear_value u0 u1
  exact State.put_kept (State.modClo_kept k1)

theorem State.cloFront_kept {s0 a0 : State} {a1 a2 a3 a4 a5} (h0 : Kept s0 a0) : Kept s0 (State.cloFront a0 a1 a2 a3 a4 a5)
    := by
  unfold State.cloFront
  lift_lets -underBinder
  extract_lets -descend u0 u1 u2 u3 u4
  have k4 : Kept s0 u4 := State.modClo_kept h0
  clear_value u0 u1 u2 u3 u4
  exact Kept.ite (State.report_kept k4) k4

theorem execCloRegulatorStep_kept {s0 : State} {a0 a1 a2} {a3 : State} (h3 : Kept s0 a3) : KeptH s0 (execCloRegulatorStep
    a0 a1 a2 a3) := by
  unfold execCloRegulatorStep
  lift_lets -underBinder
  extract_lets -descend u0 u1 u2 u3 u4 u5 u6 u7 u8 u9
  have k5 : Kept s0 u5 := State.modClo_kept h3
  have k6 : Kept s0 u6 := State.put_kept (State.put_kept (State.put_kept k5))
  have k7 : Kept s0 u7 := Kept.ite (State.cloRestore_kept k6) (State.cloCheck_kept (State.cloFollow_kept k6))
  have k8 : Kept s0 u8 := Kept.ite (State.cloFollow_kept k7) k7
  have k9 : Kept s0 u9 := State.cloFront_kept k8
  clear_value u0 u1 u2 u3 u4 u5 u6 u7 u8 u9
  exact KeptH.answer (Kept.ite h3 (Kept.ite (State.modClo_kept (State.flag_kept (State.flag_kept (State.put_kept h3))))
      (Kept.ite h3 (Kept.ite (State.put_kept k9) (State.took_kept (State.put_kept k9))))))

theorem State.cliClass_kept {s0 a0 : State} {a1 a2} (h0 : Kept s0 a0) : Kept s0 (State.cliClass a0 a1 a2) := by
  unfold State.cliClass
  lift_lets -underBinder
  extract_lets -descend u0 u1 u2 u3 u4
  have k3 : Kept s0 u3 := State.modCli_kept h0
  clear_value u0 u1 u2 u3 u4
  exact Kept.ite (State.report_kept (State.setB_kept (State.flag_kept (State.flag_kept k3)))) (Kept.ite (State.report_kept
      (State.setB_kept (State.flag_kept k3))) (Kept.ite (State.report_kept (State.setB_kept (State.flag_kept k3)))
      (Kept.ite (State.flag_kept (State.flag_kept (State.flag_kept k3))) k3)))

theorem execCliMeasurement_kept {s0 : State} {a0 a1} {a2 : State} (h2 : Kept s0 a2) : KeptH s0 (execCliMeasurement a0 a1
    a2) := by
  unfold execCliMeasurement
  lift_lets -underBinder
  extract_lets -descend u0 u1 u2 u3
  clear_value u0 u1 u2 u3
  exact KeptH.answer (Kept.ite h2 (State.cliClass_kept (State.put_kept (State.modCli_kept h2))))

theorem execCapEn_kept {s0 : State} {a0 a1 a2} {a3 : State} (h3 : Kept s0 a3) : KeptH s0 (execCapEn a0 a1 a2 a3) := by
  unfold execCapEn
  exact KeptH.answer (State.byOwner_kept h3 (fun _ f0_0 => State.capEn_kept f0_0))

theorem State.scanStart_kept {s0 a0 : State} (h0 : Kept s0 a0) : Kept s0 (State.scanStart a0) := by
  unfold State.scanStart
  lift_lets -underBinder
  extract_lets -descend u0 u1
  have k0 : Kept s0 u0 := (by
    unfold u0
    split
    · exact State.flag_kept (State.inc_kept (State.put_kept h0))
    · exact h0)
  have k1 : Kept s0 u1 := State.modCap_kept k0
  clear_value u0 u1
  split
  · exact State.put_kept k1
  · exact k1

theorem State.scanNoise_kept {s0 a0 : State} {a1} (h0 : Kept s0 a0) : Kept s0 (State.scanNoise a0 a1) := by
  unfold State.scanNoise
  lift_lets -underBinder
  extract_lets -descend u0 u1 u2 u3 u4 u5 u6 u7 u8 u9 u10 u11 u12 u13 u14 u15
  have k5 : Kept s0 u5 := State.put_kept (State.put_kept h0)
  have k6 : Kept s0 u6 := State.modCap_kept k5
  have k15 : Kept s0 u15 := State.modCap_kept k6
  clear_value u0 u1 u2 u3 u4 u5 u6 u7 u8 u9 u10 u11 u12 u13 u14 u15
  exact Kept.ite (State.report_kept (State.flag_kept (State.flag_kept k15))) (Kept.ite (State.flag_kept k15) k15)

theorem State.capMark_kept {s0 a0 : State} {a1 a2 a3 a4} (h0 : Kept s0 a0) : Kept s0 (State.capMark a0 a1 a2 a3 a4) := by
  unfold State.capMark
  lift_lets -underBinder
  extract_lets -descend u0 u1
  have k0 : Kept s0 u0 := Kept.ite (State.flag_kept h0) h0
  have k1 : Kept s0 u1 := Kept.ite (State.report_kept k0) k0
  clear_value u0 u1
  exact Kept.ite (State.report_kept k1) k1

theorem State.modKey_kept {s0 a0 : State} {a1} {a2 : CapElem → CapElem} (h0 : Kept s0 a0) : Kept s0 (State.modKey a0 a1 a2)
    := by
  unfold State.modKey
  exact State.modCap_kept h0

theorem State.scanKey_kept {s0 a0 : State} {a1 a2 a3} (h0 : Kept s0 a0) : Kept s0 (State.scanKey a0 a1 a2 a3) := by
  unfold State.scanKey
  lift_lets -underBinder
  extract_lets -descend u0 u1 u2 u3 u4
  clear_value u0 u1 u2 u3 u4
  split
  · lift_lets -underBinder
    extract_lets -descend u6 u7 u8 u9 u10 u11 u12
    have k6 : Kept s0 u6 := State.capMark_kept (State.flag_kept (State.flag_kept h0))
    have k11 : Kept s0 u11 := State.modKey_kept k6
    have k12 : Kept s0 u12 := State.putI_kept (State.put_kept (State.put_kept k11))
    clear_value u6 u7 u8 u9 u10 u11 u12
    exact Kept.ite k12 (State.flag_kept (State.touchBit_kept k12))

theorem State.modSns_kept {s0 a0 : State} {a1} {a2 : CapElem → CapElem} (h0 : Kept s0 a0) : Kept s0 (State.modSns a0 a1 a2)
    := by
  unfold State.modSns
  exact State.modCap_kept h0

theorem State.filmUpdate_kept {s0 a0 : State} {a1 a2 a3} (h0 : Kept s0 a0) : Kept s0 (State.filmUpdate a0 a1 a2 a3) := by
  unfold State.filmUpdate
  lift_lets -underBinder
  extract_lets -descend u0 u1 u2 u3 u4 u5 u6 u7 u8 u9 u10 u11 u12 u13
  have k1 : Kept s0 u1 := State.putI_kept h0
  have k11 : Kept s0 u11 := State.modFilm_kept k1
  have k12 : Kept s0 u12 := State.put_kept (State.put_kept (State.putI_kept k11))
  have k13 : Kept s0 u13 := State.flag_kept (State.flag_kept k12)
  clear_value u0 u1 u2 u3 u4 u5 u6 u7 u8 u9 u10 u11 u12 u13
  exact Kept.ite k1 (Kept.ite k13 (Kept.ite (State.flag_kept k13) (Kept.ite k13 (State.atDew_kept k13))))

theorem State.scanFilm_kept {s0 a0 : State} {a1 a2} (h0 : Kept s0 a0) : Kept s0 (State.scanFilm a0 a1 a2) := by
  unfold State.scanFilm
  split
  · exact State.modFilm_kept h0
  · lift_lets -underBinder
    extract_lets -descend u1 u2 u3
    have k3 : Kept s0 u3 := State.modFilm_kept h0
    clear_value u1 u2 u3
    exact Kept.ite (State.filmUpdate_kept (State.modFilm_kept k3)) k3

theorem State.scanApproach_kept {s0 a0 : State} {a1 a2} (h0 : Kept s0 a0) : Kept s0 (State.scanApproach a0 a1 a2) := by
  unfold State.scanApproach
  lift_lets -underBinder
  extract_lets -descend u0 u1 u2 u3 u4 u5
  have k5 : Kept s0 u5 := State.put_kept (State.modSns_kept h0)
  clear_value u0 u1 u2 u3 u4 u5
  exact Kept.ite k5 (State.flag_kept (State.flag_kept k5))

theorem State.scanSns_kept {s0 a0 : State} {a1 a2 a3} (h0 : Kept s0 a0) : Kept s0 (State.scanSns a0 a1 a2 a3) := by
  unfold State.scanSns
  lift_lets -underBinder
  extract_lets -descend u0 u1 u2 u3 u4
  clear_value u0 u1 u2 u3 u4
  split
  · lift_lets -underBinder
    extract_lets -descend u6 u7
    have k6 : Kept s0 u6 := State.put_kept (State.modSns_kept h0)
    have k7 : Kept s0 u7 := State.capMark_kept (State.flag_kept (State.flag_kept k6))
    clear_value u6 u7
    refine Kept.ite ?_ ?_
    · exact State.scanFilm_kept (State.filmCheck_kept k7)
    · refine Kept.ite ?_ ?_
      · split
        · exact State.put_kept k7
        · exact k7
      · exact State.scanApproach_kept k7

theorem execCapScan_kept {s0 : State} {a0} {a1 : State} (h1 : Kept s0 a1) : KeptH s0 (execCapScan a0 a1) := by
  unfold execCapScan
  lift_lets -underBinder
  extract_lets -descend u0 u1
  have k0 : Kept s0 u0 := State.scanStart_kept h1
  have k1 : Kept s0 u1 := State.putI_kept k0
  clear_value u0 u1
  exact KeptH.answer (by
    refine Kept.ite ?_ ?_
    · exact h1
    · split
      · lift_lets -underBinder
        extract_lets -descend u3 u4 u5 u6 u7
        have k3 : Kept s0 u3 := State.modCap_kept (State.scanNoise_kept k1)
        have k4 : Kept s0 u4 := State.forEach_kept (fun _ _ f5_1 => State.scanKey_kept f5_1) k3
        have k5 : Kept s0 u5 := State.forEach_kept (fun _ _ f6_1 => State.scanSns_kept f6_1) k4
        have k6 : Kept s0 u6 := State.modCap_kept k5
        have k7 : Kept s0 u7 := Kept.ite (State.put_kept (State.releaseAll_kept k6)) k6
        clear_value u3 u4 u5 u6 u7
        exact State.capEdge_kept (State.showFault_kept k7)
      · lift_lets -underBinder
        extract_lets -descend u3 u4
        have k3 : Kept s0 u3 := State.scanNoise_kept k1
        have k4 : Kept s0 u4 := State.forEach_kept (fun _ _ f5_1 => State.scanKey_kept f5_1) k3
        clear_value u3 u4
        exact State.capEdge_kept (State.showFault_kept (State.forEach_kept (fun _ _ f5_1 => State.scanSns_kept f5_1) k4)))

theorem execRecal_kept {s0 : State} {a0} {a1 : State} (h1 : Kept s0 a1) : KeptH s0 (execRecal a0 a1) := by
  unfold execRecal
  exact KeptH.answer (State.byOwner_kept h1 (fun _ f0_0 => State.recal_kept f0_0))

theorem execCalReload_kept {s0 : State} {a0} {a1 : State} (h1 : Kept s0 a1) : KeptH s0 (execCalReload a0 a1) := by
  unfold execCalReload
  exact KeptH.answer (State.byOwner_kept h1 (fun _ f0_0 => State.calReload_kept f0_0))

theorem execSleepSlowScan_kept {s0 : State} {a0} {a1 : State} (h1 : Kept s0 a1) : KeptH s0 (execSleepSlowScan a0 a1) := by
  unfold execSleepSlowScan
  lift_lets -underBinder
  extract_lets -descend u0 u1 u2 u3 u4 u5 u6 u7 u8
  have k2 : Kept s0 u2 := State.put_kept h1
  have k7 : Kept s0 u7 := Kept.ite (State.put_kept k2) k2
  have k8 : Kept s0 u8 := State.modCap_kept k7
  clear_value u0 u1 u2 u3 u4 u5 u6 u7 u8
  exact KeptH.answer (Kept.ite h1 (Kept.ite (State.modCap_kept (State.put_kept k2)) (Kept.ite (State.wakeEvent_kept
      (State.modCap_kept k8)) k8)))

theorem execFilmReferenceCheck_kept {s0 : State} {a0 a1} {a2 : State} (h2 : Kept s0 a2) : KeptH s0 (execFilmReferenceCheck
    a0 a1 a2) := by
  unfold execFilmReferenceCheck
  lift_lets -underBinder
  extract_lets -descend u0 u1
  clear_value u0 u1
  exact KeptH.answer (Kept.ite (Kept.ite (State.report_kept h2) (Kept.ite (State.report_kept h2) h2)) h2)

theorem execTagInvCmd_kept {s0 : State} {a0 a1 a2 a3} {a4 : State} (h4 : Kept s0 a4) : KeptH s0 (execTagInvCmd a0 a1 a2 a3
    a4) := by
  unfold execTagInvCmd
  exact KeptH.answer (State.byOwner_kept h4 (fun _ f0_0 => State.tagCmd_kept f0_0))

theorem execTagAutoInventory_kept {s0 a0 : State} (h0 : Kept s0 a0) : KeptH s0 (execTagAutoInventory a0) := by
  unfold execTagAutoInventory
  exact KeptH.answer (Kept.ite (State.tagGo_kept h0) h0)

theorem execTagInvAbort_kept {s0 : State} {a0} {a1 : State} (h1 : Kept s0 a1) : KeptH s0 (execTagInvAbort a0 a1) := by
  unfold execTagInvAbort
  exact KeptH.answer (State.byOwner_kept h1 (fun _ f0_0 => State.tagAbort_kept f0_0))

theorem State.tagField_kept {s0 a0 : State} {a1} (h0 : Kept s0 a0) : Kept s0 (State.tagField a0 a1) := by
  unfold State.tagField
  exact Kept.ite (State.tagEnd_kept h0) (State.setRun_kept (State.modTag_kept h0))

theorem execReceiverCheckEnd_kept {s0 : State} {a0} {a1 : State} (h1 : Kept s0 a1) : KeptH s0 (execReceiverCheckEnd a0 a1) := by
  unfold execReceiverCheckEnd
  exact KeptH.answer (by
    split
    · exact h1
    · lift_lets -underBinder
      extract_lets -descend u1
      have k1 : Kept s0 u1 := State.modTag_kept h1
      clear_value u1
      exact Kept.ite h1 (Kept.ite (State.tagEnd_kept (State.report_kept (State.flag_kept k1))) (Kept.ite (State.setRun_kept
          h1) (Kept.ite (State.setRun_kept h1) (State.tagField_kept h1)))))

theorem State.tagAntenna_kept {s0 a0 : State} {a1} (h0 : Kept s0 a0) : Kept s0 (State.tagAntenna a0 a1) := by
  unfold State.tagAntenna
  lift_lets -underBinder
  extract_lets -descend u0 u1
  have k1 : Kept s0 u1 := State.modTag_kept h0
  clear_value u0 u1
  split
  · exact State.setRun_kept (State.modTag_kept k1)
  · exact State.setRun_kept k1

theorem State.tagLoad_kept {s0 a0 : State} {a1 a2} (h0 : Kept s0 a0) : Kept s0 (State.tagLoad a0 a1 a2) := by
  unfold State.tagLoad
  lift_lets -underBinder
  extract_lets -descend u0
  have k0 : Kept s0 u0 := State.flag_kept (State.setB_kept h0)
  clear_value u0
  exact State.tagAntenna_kept (State.report_kept (State.modTag_kept k0))

theorem State.showQ_kept {s0 a0 : State} {a1} (h0 : Kept s0 a0) : Kept s0 (State.showQ a0 a1) := by
  unfold State.showQ
  exact State.put_kept (State.put_kept h0)

theorem execFieldSettleEnd_kept {s0 a0 : State} (h0 : Kept s0 a0) : KeptH s0 (execFieldSettleEnd a0) := by
  unfold execFieldSettleEnd
  exact KeptH.answer (by
    split
    · exact h0
    · lift_lets -underBinder
      extract_lets -descend u1 u2
      have k1 : Kept s0 u1 := State.clrB_kept h0
      clear_value u1 u2
      exact Kept.ite h0 (Kept.ite (State.tagLoad_kept h0) (State.showQ_kept (State.setRun_kept k1))))

theorem State.tagCount_kept {s0 a0 : State} {a1 a2} (h0 : Kept s0 a0) : Kept s0 (State.tagCount a0 a1 a2) := by
  unfold State.tagCount
  split
  · exact State.inc_kept h0
  · exact Kept.ite (State.inc_kept (State.inc_kept h0)) (State.inc_kept h0)
  · exact h0

theorem State.tagQueue_kept {s0 a0 : State} {a1 a2 a3 : Nat} {a4 : List Byte} (h0 : Kept s0 a0) :
    Kept s0 (State.tagQueue a0 a1 a2 a3 a4) := by
  induction a1 generalizing a0 with
  | zero => exact State.inc_kept h0
  | succ n ih =>
    unfold State.tagQueue
    split
    · exact State.inc_kept h0
    · refine Kept.ite (ih (State.finishDesc_kept h0)) ?_
      split
      · rename_i t e
        exact State.finishDesc_kept (KeptP.of (State.agentWrite_kept h0) e)
      · rename_i t e
        exact KeptP.of (State.agentWrite_kept h0) e

theorem State.tagStore_kept {s0 a0 : State} {a1 a2 a3 a4} (h0 : Kept s0 a0) : KeptP s0 (State.tagStore a0 a1 a2 a3 a4) := by
  unfold State.tagStore
  lift_lets -underBinder
  extract_lets -descend u0 u1 u2 u3 u4
  have k2 : Kept s0 u2 := State.forEach_kept (fun _ _ f3_1 => State.put_kept f3_1) h0
  have k3 : Kept s0 u3 := State.flag_kept (State.put_kept k2)
  clear_value u0 u1 u2 u3 u4
  exact KeptP.ite (KeptP.mk h0) (KeptP.mk (Kept.ite (State.tagQueue_kept k3) k3))

theorem State.tagNext_kept {s0 a0 : State} {a1} (h0 : Kept s0 a0) : Kept s0 (State.tagNext a0 a1) := by
  unfold State.tagNext
  lift_lets -underBinder
  extract_lets -descend u0
  clear_value u0
  exact Kept.ite (State.showQ_kept (State.setRun_kept h0)) (State.tagAntenna_kept h0)

theorem execTagSlot_kept {s0 : State} {a0} {a1 : State} (h1 : Kept s0 a1) : KeptH s0 (execTagSlot a0 a1) := by
  unfold execTagSlot
  exact KeptH.answer (by
    split
    · exact h1
    · lift_lets -underBinder
      extract_lets -descend u1
      have k1 : Kept s0 u1 := State.tagCount_kept h1
      clear_value u1
      refine Kept.ite ?_ ?_
      · exact h1
      · split
        · rename_i v2_0 v2_1 e2
          have k2_0 := KeptP.of (by
    split
    · exact KeptP.ite (KeptP.mk k1) (State.tagStore_kept k1)
    · exact KeptP.mk k1) e2
          lift_lets -underBinder
          extract_lets -descend u3
          clear_value u3
          split
          · lift_lets -underBinder
            extract_lets -descend u5 u6 u7 u8
            have k5 : Kept s0 u5 := State.showQ_kept k2_0
            have k7 : Kept s0 u7 := Kept.ite (State.report_kept (State.flag_kept (State.setB_kept k5))) k5
            clear_value u5 u6 u7 u8
            exact Kept.ite (State.tagEnd_kept k7) (Kept.ite (State.tagNext_kept k7) (State.setRun_kept k7)))

theorem execTagInventoryDone_kept {s0 a0 : State} (h0 : Kept s0 a0) : KeptH s0 (execTagInventoryDone a0) := by
  unfold execTagInventoryDone
  exact KeptH.answer (by
    split
    · exact h0
    · exact Kept.ite h0 (Kept.ite (State.tagEnd_kept h0) (Kept.ite (State.tagEnd_kept h0) (State.tagEnd_kept h0))))

theorem State.byPage_kept {s0 a0 : State} {a1 a2 a3} {a4 : State → State} (h0 : Kept s0 a0) (h4 : ∀ (b0 : State) (_ : Kept
    s0 b0), Kept s0 (a4 b0)) : Kept s0 (State.byPage a0 a1 a2 a3 a4) := by
  unfold State.byPage
  exact State.act_kept h0 h4

theorem execPinCommitGo_kept {s0 : State} {a0 a1} {a2 : State} (h2 : Kept s0 a2) : KeptH s0 (execPinCommitGo a0 a1 a2) := by
  unfold execPinCommitGo
  exact KeptH.answer (State.byPage_kept h2 (fun _ f0_0 => State.commitBay_kept f0_0))

theorem execPinCommitArm_kept {s0 : State} {a0 a1} {a2 : State} (h2 : Kept s0 a2) : KeptH s0 (execPinCommitArm a0 a1 a2) := by
  unfold execPinCommitArm
  exact KeptH.answer (State.byPage_kept h2 (fun _ f0_0 => State.put_kept f0_0))

theorem execPinCommitSwitch_kept {s0 : State} {a0 a1} {a2 : State} (h2 : Kept s0 a2) : KeptH s0 (execPinCommitSwitch a0 a1
    a2) := by
  unfold execPinCommitSwitch
  exact KeptH.answer (by
    split
    · exact h2
    · lift_lets -underBinder
      extract_lets -descend u1 u2 u3 u4 u5
      have k3 : Kept s0 u3 := State.flag_kept (State.setActive_kept (State.dropMoves_kept h2))
      have k4 : Kept s0 u4 := Kept.ite k3 (State.pinLevel_kept k3)
      have k5 : Kept s0 u5 := Kept.ite (State.driveGpio_kept k4) k4
      clear_value u1 u2 u3 u4 u5
      exact Kept.ite (State.report_kept k5) k5)

theorem execGpioSet_kept {s0 : State} {a0 a1 a2} {a3 : State} (h3 : Kept s0 a3) : KeptH s0 (execGpioSet a0 a1 a2 a3) := by
  unfold execGpioSet
  exact KeptH.answer (State.act_kept h3 (fun _ f0_0 => State.gpioOut_kept f0_0))

theorem execGpioClr_kept {s0 : State} {a0 a1 a2} {a3 : State} (h3 : Kept s0 a3) : KeptH s0 (execGpioClr a0 a1 a2 a3) := by
  unfold execGpioClr
  exact KeptH.answer (State.act_kept h3 (fun _ f0_0 => State.gpioOut_kept f0_0))

theorem execGpioInputEdge_kept {s0 : State} {a0 a1} {a2 : State} (h2 : Kept s0 a2) : KeptH s0 (execGpioInputEdge a0 a1 a2) := by
  unfold execGpioInputEdge
  exact KeptH.answer (Kept.ite h2 (State.pinLevel_kept h2))

theorem execSupConfirmExpiry_kept {s0 : State} {a0} {a1 : State} (h1 : Kept s0 a1) : KeptH s0 (execSupConfirmExpiry a0 a1) := by
  unfold execSupConfirmExpiry
  lift_lets -underBinder
  extract_lets -descend u0 u1
  have k1 : Kept s0 u1 := Kept.ite h1 (Kept.ite (Kept.ite (State.supClassTo_kept h1) h1) (Kept.ite (State.supClassTo_kept
      h1) h1))
  clear_value u0 u1
  exact KeptH.answer (State.modSup_kept k1)

theorem execCapTempSwTimeout_kept {s0 a0 : State} (h0 : Kept s0 a0) : KeptH s0 (execCapTempSwTimeout a0) := by
  unfold execCapTempSwTimeout
  exact KeptH.answer (State.capEdge_kept (State.modCap_kept h0))

theorem execAntSettleEnd_kept {s0 a0 : State} (h0 : Kept s0 a0) : KeptH s0 (execAntSettleEnd a0) := by
  unfold execAntSettleEnd
  exact KeptH.answer (by
    split
    · exact h0
    · exact Kept.ite (State.tagField_kept h0) h0)

theorem execAntennaLoadFault_kept {s0 : State} {a0} {a1 : State} (h1 : Kept s0 a1) : KeptH s0 (execAntennaLoadFault a0 a1) := by
  unfold execAntennaLoadFault
  exact KeptH.answer (by
    split
    · exact h1
    · exact Kept.ite h1 (State.tagLoad_kept h1))

end Sys2Proof.Machine
end

