-- ==== Sys2Proof/Laws/KeptConfig.lean ====
section
/-! SUPPORT.
Every operation keeps the canonical form, the queue and the flash: resets of bays, configurations, boot, Halvik and hosts. -/

namespace Sys2Proof.Machine

theorem State.dozeTick_kept {s0 a0 : State} (h0 : Kept s0 a0) : Kept s0 (State.dozeTick a0) := by
  unfold State.dozeTick
  lift_lets -underBinder
  extract_lets -descend u0 u1
  clear_value u0 u1
  exact Kept.ite (Kept.ite (State.inc_kept (Kept.upd h0)) (Kept.upd h0)) h0

theorem State.wdtTick_kept {s0 a0 : State} {a1} (h0 : Kept s0 a0) : Kept s0 (State.wdtTick a0 a1) := by
  unfold State.wdtTick
  exact Kept.upd h0

theorem State.modHost_kept {s0 a0 : State} {a1} {a2 : HostChan → HostChan} (h0 : Kept s0 a0) : Kept s0 (State.modHost a0 a1
    a2) := by
  unfold State.modHost
  lift_lets -underBinder
  extract_lets -descend u0
  clear_value u0
  exact Kept.ite (Kept.upd h0) (Kept.upd h0)

theorem State.raiseMsi_kept {s0 a0 : State} {a1} (h0 : Kept s0 a0) : Kept s0 (State.raiseMsi a0 a1) := by
  unfold State.raiseMsi
  exact Kept.upd h0

theorem State.ringWrite_kept {s0 a0 : State} {a1 a2} (h0 : Kept s0 a0) : Kept s0 (State.ringWrite a0 a1 a2) := by
  unfold State.ringWrite
  lift_lets -underBinder
  extract_lets -descend u0 u1 u2
  have k1 : Kept s0 u1 := State.forEach_kept (fun _ _ f2_1 => State.putWord_kept f2_1) h0
  have k2 : Kept s0 u2 := State.modHost_kept h0
  clear_value u0 u1 u2
  exact Kept.ite (State.put_kept k1) (Kept.ite (State.raiseMsi_kept k2) k2)

theorem State.flushRing_kept {s0 : State} {a0 : Nat} {a1 : State} {a2} (h1 : Kept s0 a1) : Kept s0 (State.flushRing a0 a1 a2) := by
  induction a0 generalizing a1 with
  | zero => exact h1
  | succ n ih =>
    unfold State.flushRing
    refine Kept.ite h1 ?_
    split
    · exact h1
    · exact ih (State.ringWrite_kept (Kept.same h1 rfl))

theorem State.pushCpl_kept {s0 a0 : State} {a1 a2} (h0 : Kept s0 a0) : Kept s0 (State.pushCpl a0 a1 a2) := by
  unfold State.pushCpl
  lift_lets -underBinder
  extract_lets -descend u0 u1
  have k1 : Kept s0 u1 := Kept.upd h0
  clear_value u0 u1
  exact State.flushRing_kept k1

theorem State.halvikDone_kept {s0 a0 : State} {a1 a2 a3 a4 a5 a6 a7} (h0 : Kept s0 a0) : Kept s0 (State.halvikDone a0 a1 a2
    a3 a4 a5 a6 a7) := by
  unfold State.halvikDone
  lift_lets -underBinder
  extract_lets -descend u0 u1 u2 u3
  have k3 : Kept s0 u3 := Kept.upd h0
  clear_value u0 u1 u2 u3
  exact State.forEach_kept (fun _ _ f4_1 => State.pushCpl_kept f4_1) (State.pushCpl_kept k3)

theorem State.dropImgCmd_kept {s0 a0 : State} {a1} (h0 : Kept s0 a0) : Kept s0 (State.dropImgCmd a0 a1) := by
  unfold State.dropImgCmd
  exact Kept.upd h0

theorem State.imgCmdEnd_kept {s0 a0 : State} {a1 a2 a3 a4} (h0 : Kept s0 a0) : Kept s0 (State.imgCmdEnd a0 a1 a2 a3 a4) := by
  unfold State.imgCmdEnd
  split
  · exact State.halvikDone_kept (State.dropImgCmd_kept h0)
  · exact h0

theorem State.writeLp0_kept {s0 a0 : State} (h0 : Kept s0 a0) : Kept s0 (State.writeLp0 a0) := by
  unfold State.writeLp0
  lift_lets -underBinder
  extract_lets -descend u0
  clear_value u0
  exact State.writePage_kept (Kept.upd h0)

theorem State.flushLp0_kept {s0 a0 : State} (h0 : Kept s0 a0) : Kept s0 (State.flushLp0 a0) := by
  unfold State.flushLp0
  exact Kept.ite (State.writeLp0_kept h0) h0

theorem State.useUnknown_kept {s0 a0 : State} {a1} (h0 : Kept s0 a0) : Kept s0 (State.useUnknown a0 a1) := by
  unfold State.useUnknown
  split
  · exact State.busError_kept (State.inc_kept h0)
  · exact State.trsLost_kept h0
  · exact State.inc_kept h0
  · exact State.qmgrAnswer_kept (State.inc_kept h0)

theorem State.trsKick_kept {s0 a0 : State} (h0 : Kept s0 a0) : Kept s0 (State.trsKick a0) := by
  unfold State.trsKick
  exact State.forEach_kept (fun _ _ f0_1 => (by
    split
    · lift_lets -underBinder
      extract_lets -descend u2
      clear_value u2
      exact Kept.ite (State.trsNext_kept f0_1) (State.useUnknown_kept (State.modTrs_kept f0_1))
    · exact f0_1)) h0

theorem State.forwardClaims_kept {s0 a0 : State} (h0 : Kept s0 a0) : Kept s0 (State.forwardClaims a0) := by
  unfold State.forwardClaims
  exact State.forEach_kept (fun _ _ f0_1 => (by
    lift_lets -underBinder
    extract_lets -descend u1
    clear_value u1
    exact Kept.ite f0_1 (State.trsSend_kept (State.modTrs_kept f0_1)))) h0

theorem State.latch_kept {s0 a0 : State} {a1 a2} (h0 : Kept s0 a0) : Kept s0 (State.latch a0 a1 a2) := by
  unfold State.latch
  exact State.flag_kept (State.put_kept (State.put_kept (State.put_kept h0)))

theorem State.powerOn_kept {s0 a0 : State} {a1 a2} (h0 : Kept s0 a0) : Kept s0 (State.powerOn a0 a1 a2) := by
  exact Kept.same (State.coldParts_kept (Kept.regs (t := { a0 with regs := [], sec := { a0.sec with bootOnce := none } }) h0
    (fun _ => rfl) rfl)) rfl

theorem execPowerOnReset_kept {s0 : State} {a0 a1} {a2 : State} (h2 : Kept s0 a2) : KeptH s0 (execPowerOnReset a0 a1 a2) := by
  unfold execPowerOnReset
  exact KeptH.answer (State.put_kept (State.latch_kept (State.powerOn_kept h2)))

theorem State.resetPin_kept {s0 a0 : State} {a1 a2} (h0 : Kept s0 a0) : Kept s0 (State.resetPin a0 a1 a2) := by
  unfold State.resetPin
  split
  · exact h0
  · exact h0
  · exact State.put_kept (State.latch_kept (State.resetInto_kept h0))
  · exact State.latch_kept (State.resetInto_kept h0)
  · exact State.latch_kept (State.resetInto_kept h0)
  · exact State.latch_kept (State.deviceReset_kept h0)

theorem execResetnLow_kept {s0 : State} {a0 a1 a2} {a3 : State} (h3 : Kept s0 a3) : KeptH s0 (execResetnLow a0 a1 a2 a3) := by
  unfold execResetnLow
  exact KeptH.answer (Kept.ite h3 (Kept.ite (Kept.ite (State.resetPin_kept (State.took_kept h3)) (State.took_kept h3))
      (State.resetPin_kept h3)))

theorem State.devRst_kept {s0 a0 : State} {a1} (h0 : Kept s0 a0) : Kept s0 (State.devRst a0 a1) := by
  unfold State.devRst
  exact Kept.ite (State.deviceReset_kept h0) h0

theorem execSysDevRst_kept {s0 : State} {a0 a1} {a2 : State} (h2 : Kept s0 a2) : KeptH s0 (execSysDevRst a0 a1 a2) := by
  unfold execSysDevRst
  exact KeptH.answer (State.byBay0_kept h2 (fun _ f0_0 => State.devRst_kept f0_0))

theorem execSystemPllLock_kept {s0 a0 : State} (h0 : Kept s0 a0) : KeptH s0 (execSystemPllLock a0) := by
  unfold execSystemPllLock
  exact KeptH.answer (Kept.ite (State.flag_kept (State.setPhase_kept h0)) h0)

theorem State.loadRemap_kept {s0 a0 : State} {a1} (h0 : Kept s0 a0) : Kept s0 (State.loadRemap a0 a1) := by
  unfold State.loadRemap
  lift_lets -underBinder
  extract_lets -descend u0 u1
  have k1 : Kept s0 u1 := State.forEach_kept (fun _ _ f2_1 => Kept.ite (State.setRemap_kept f2_1) f2_1) h0
  clear_value u0 u1
  exact State.put_kept k1

theorem State.zeroFound_kept {s0 a0 : State} {a1} (h0 : Kept s0 a0) : Kept s0 (State.zeroFound a0 a1) := by
  unfold State.zeroFound
  lift_lets -underBinder
  extract_lets -descend u0
  clear_value u0
  refine Kept.ite ?_ ?_
  · refine Kept.ite ?_ ?_
    · exact h0
    · split
      · rename_i v1_0 e1
        have k1_0 := KeptO.of (State.remap_kept h0) e1
        exact State.holdCause_kept k1_0
      · exact State.holdCause_kept (State.holdCause_kept (State.flag_kept (State.put_kept h0)))
  · exact Kept.ite (State.holdCause_kept h0) (State.holdCause_kept h0)

theorem State.scanLog_kept {s0 a0 : State} (h0 : Kept s0 a0) : Kept s0 (State.scanLog a0) := by
  unfold State.scanLog
  lift_lets -underBinder
  extract_lets -descend u0 u1
  clear_value u0 u1
  exact State.flag_kept (State.put_kept h0)

theorem State.recovery_kept {s0 a0 : State} (h0 : Kept s0 a0) : Kept s0 (State.recovery a0) := by
  unfold State.recovery
  exact State.flag_kept h0

theorem afterCheck_kept {s0 : State} {a0} {a1 : List Sect → State} {a2 : BsErr → State} (h1 : ∀ (b0 : List Sect), Kept s0
    (a1 b0)) (h2 : ∀ (b0 : BsErr), Kept s0 (a2 b0)) : Kept s0 (afterCheck a0 a1 a2) := by
  unfold afterCheck
  split
  · exact h1 _
  · exact h2 _

theorem State.trsBegin_kept {s0 a0 : State} (h0 : Kept s0 a0) : Kept s0 (State.trsBegin a0) := by
  unfold State.trsBegin
  lift_lets -underBinder
  extract_lets -descend u0 u1 u2
  have k1 : Kept s0 u1 := State.setB_kept (State.put_kept h0)
  have k2 : Kept s0 u2 := State.put_kept (State.put_kept k1)
  clear_value u0 u1 u2
  exact Kept.ite h0 (State.flag_kept (State.put_kept k2))

theorem State.applyMbx_kept {s0 a0 : State} (h0 : Kept s0 a0) : Kept s0 (State.applyMbx a0) := by
  unfold State.applyMbx
  lift_lets -underBinder
  extract_lets -descend u0 u1
  clear_value u0 u1
  exact State.put_kept (State.put_kept (State.put_kept h0))

theorem State.applyHif_kept {s0 a0 : State} (h0 : Kept s0 a0) : Kept s0 (State.applyHif a0) := by
  unfold State.applyHif
  lift_lets -underBinder
  extract_lets -descend u0 u1
  clear_value u0 u1
  split
  · lift_lets -underBinder
    extract_lets -descend u3 u4 u5 u6 u7
    have k3 : Kept s0 u3 := State.put_kept (State.put_kept (State.flag_kept h0))
    have k4 : Kept s0 u4 := State.flag_kept k3
    have k5 : Kept s0 u5 := Kept.ite k4 (State.put_kept (State.put_kept (State.flag_kept k4)))
    have k7 : Kept s0 u7 := State.put_kept (State.put_kept (State.put_kept k5))
    clear_value u3 u4 u5 u7
    exact State.put_kept k7

theorem State.applyFlt_kept {s0 a0 : State} (h0 : Kept s0 a0) : Kept s0 (State.applyFlt a0) := by
  unfold State.applyFlt
  lift_lets -underBinder
  extract_lets -descend u0 u1 u2
  have k2 : Kept s0 u2 := State.put_kept (State.put_kept h0)
  clear_value u0 u1 u2
  exact State.put_kept (State.put_kept (State.put_kept k2))

theorem State.applySys_kept {s0 a0 : State} (h0 : Kept s0 a0) : Kept s0 (State.applySys a0) := by
  unfold State.applySys
  lift_lets -underBinder
  extract_lets -descend u0 u1 u2 u3
  have k1 : Kept s0 u1 := State.put_kept (State.put_kept h0)
  have k2 : Kept s0 u2 := State.put_kept k1
  clear_value u0 u1 u2 u3
  exact Kept.upd k2

theorem State.layWheel_kept {s0 a0 : State} {a1} (h0 : Kept s0 a0) : Kept s0 (State.layWheel a0 a1) := by
  unfold State.layWheel
  lift_lets -underBinder
  extract_lets -descend u0 u1
  clear_value u0 u1
  exact State.put_kept (Kept.upd h0)

theorem State.applyBay_kept {s0 a0 : State} {a1} (h0 : Kept s0 a0) : Kept s0 (State.applyBay a0 a1) := by
  unfold State.applyBay
  lift_lets -underBinder
  extract_lets -descend u0 u1 u2 u3
  have k1 : Kept s0 u1 := State.putB_kept (State.layWheel_kept h0)
  have k2 : Kept s0 u2 := State.flag_kept k1
  have k3 : Kept s0 u3 := State.put_kept (State.put_kept k2)
  clear_value u0 u1 u2 u3
  exact State.put_kept (State.put_kept k3)

theorem State.applyBank_kept {s0 a0 : State} {a1} (h0 : Kept s0 a0) : Kept s0 (State.applyBank a0 a1) := by
  unfold State.applyBank
  split
  · exact State.put_kept (State.put_kept (State.put_kept h0))
  · exact State.put_kept (State.put_kept (State.put_kept h0))

theorem State.applyEngine_kept {s0 a0 : State} {a1} (h0 : Kept s0 a0) : Kept s0 (State.applyEngine a0 a1) := by
  unfold State.applyEngine
  lift_lets -underBinder
  extract_lets -descend u0 u1
  have k1 : Kept s0 u1 := State.put_kept (State.put_kept (State.put_kept h0))
  clear_value u0 u1
  exact State.put_kept (State.put_kept (State.put_kept k1))

theorem State.applyBitLevel_kept {s0 a0 : State} (h0 : Kept s0 a0) : Kept s0 (State.applyBitLevel a0) := by
  unfold State.applyBitLevel
  exact State.forEach_kept (fun _ _ f0_1 => State.flag_kept f0_1) h0

theorem State.applyVdt_kept {s0 a0 : State} (h0 : Kept s0 a0) : Kept s0 (State.applyVdt a0) := by
  unfold State.applyVdt
  lift_lets -underBinder
  extract_lets -descend u0 u1 u2
  have k1 : Kept s0 u1 := State.flag_kept (State.flag_kept h0)
  have k2 : Kept s0 u2 := State.flag_kept k1
  clear_value u0 u1 u2
  exact Kept.ite h0 (State.forEach_kept (fun _ _ f3_1 => State.put_kept (State.put_kept (State.flag_kept f3_1))) k2)

theorem State.applyGpio_kept {s0 a0 : State} {a1} (h0 : Kept s0 a0) : Kept s0 (State.applyGpio a0 a1) := by
  unfold State.applyGpio
  lift_lets -underBinder
  extract_lets -descend u0
  clear_value u0
  exact State.driveGpio_kept (State.putB_kept (State.putB_kept h0))

theorem State.applyPin_kept {s0 a0 : State} {a1} (h0 : Kept s0 a0) : Kept s0 (State.applyPin a0 a1) := by
  unfold State.applyPin
  lift_lets -underBinder
  extract_lets -descend u0 u1
  have k1 : Kept s0 u1 := State.applyGpio_kept (State.flag_kept (State.setActive_kept h0))
  clear_value u0 u1
  split
  · exact State.setShadow_kept (State.put_kept k1)
  · lift_lets -underBinder
    extract_lets -descend u3 u4
    have k4 : Kept s0 u4 := State.put_kept k1
    clear_value u3 u4
    exact Kept.ite (State.setShadow_kept k4) (State.setShadow_kept (State.movePin_kept (State.put_kept k4)))

theorem State.applyAll_kept {s0 a0 : State} (h0 : Kept s0 a0) : Kept s0 (State.applyAll a0) := by
  unfold State.applyAll
  lift_lets -underBinder
  extract_lets -descend u0 u1 u2 u3 u4 u5 u6 u7 u8
  have k0 : Kept s0 u0 := State.applyMbx_kept (State.applyHif_kept (State.applyFlt_kept (State.applySys_kept h0)))
  have k1 : Kept s0 u1 := State.forEach_kept (fun _ _ f2_1 => State.applyBay_kept f2_1) k0
  have k2 : Kept s0 u2 := State.forEach_kept (fun _ _ f3_1 => State.applyBank_kept f3_1) k1
  have k3 : Kept s0 u3 := State.forEach_kept (fun _ _ f4_1 => State.put_kept (State.applyEngine_kept f4_1)) k2
  have k4 : Kept s0 u4 := State.applyTime_kept (State.applyBitLevel_kept k3)
  have k5 : Kept s0 u5 := State.applyTag_kept (State.applyCap_kept (State.applySup_kept (State.applyQdr_kept k4)))
  have k6 : Kept s0 u6 := State.applyVdt_kept k5
  have k7 : Kept s0 u7 := State.forEach_kept (fun _ _ f8_1 => State.applyPin_kept f8_1) k6
  have k8 : Kept s0 u8 := State.forEach_kept (fun _ _ f9_1 => State.drvInit_kept f9_1) k7
  clear_value u0 u1 u2 u3 u4 u5 u6 u7 u8
  exact State.forEach_kept (fun _ _ f9_1 => State.put_kept f9_1) k8

theorem State.startWdt_kept {s0 a0 : State} {a1} (h0 : Kept s0 a0) : Kept s0 (State.startWdt a0 a1) := by
  unfold State.startWdt
  exact Kept.upd h0

theorem State.release_kept {s0 a0 : State} {a1} (h0 : Kept s0 a0) : Kept s0 (State.release a0 a1) := by
  unfold State.release
  lift_lets -underBinder
  extract_lets -descend u0 u1 u2 u3 u4 u5 u6 u7
  have k0 : Kept s0 u0 := State.put_kept h0
  have k1 : Kept s0 u1 := Kept.ite (State.setPhase_kept k0) k0
  have k3 : Kept s0 u3 := Kept.upd k1
  have k4 : Kept s0 u4 := State.forEach_kept (fun _ _ f5_1 => State.modCore_kept f5_1) k3
  have k5 : Kept s0 u5 := State.forEach_kept (fun _ _ f6_1 => State.haltHart_kept f6_1) k4
  have k6 : Kept s0 u6 := State.tellPeers_kept (State.startWdt_kept (State.unparkBayPins_kept k5))
  have k7 : Kept s0 u7 := State.forEach_kept (fun _ _ f8_1 => Kept.ite (State.drvInit_kept f8_1) f8_1) k6
  clear_value u0 u1 u2 u3 u4 u5 u6 u7
  exact Kept.ite (State.enterSync_kept k7) k7

theorem State.startBays_kept {s0 a0 : State} (h0 : Kept s0 a0) : Kept s0 (State.startBays a0) := by
  unfold State.startBays
  exact State.loadKick_kept (State.forEach_kept (fun _ _ f0_1 => Kept.ite (State.release_kept f0_1) f0_1) h0)

theorem State.enterHeld_kept {s0 a0 : State} (h0 : Kept s0 a0) : Kept s0 (State.enterHeld a0) := by
  unfold State.enterHeld
  lift_lets -underBinder
  extract_lets -descend u0 u1
  clear_value u0 u1
  exact State.forEach_kept (fun _ _ f2_1 => State.reportN_kept f2_1) (Kept.upd h0)

theorem State.applyEdge_kept {s0 a0 : State} {a1 a2} (h0 : Kept s0 a0) : Kept s0 (State.applyEdge a0 a1 a2) := by
  unfold State.applyEdge
  lift_lets -underBinder
  extract_lets -descend u0 u1 u2 u3 u4 u5
  have k1 : Kept s0 u1 := Kept.upd h0
  have k2 : Kept s0 u2 := State.put_kept (State.put_kept k1)
  have k4 : Kept s0 u4 := State.applyAll_kept (Kept.upd k2)
  have k5 : Kept s0 u5 := Kept.ite (State.report_kept k4) k4
  clear_value u0 u1 u2 u3 u4 u5
  exact State.startBays_kept (State.flushLp0_kept (State.enterHeld_kept k5))

theorem State.contentPass_kept {s0 a0 : State} {a1 a2 a3 a4} (h0 : Kept s0 a0) : Kept s0 (State.contentPass a0 a1 a2 a3 a4)
    := by
  unfold State.contentPass
  lift_lets -underBinder
  extract_lets -descend u0 u1
  have k0 : Kept s0 u0 := State.flag_kept (State.trsBegin_kept (Kept.upd h0))
  clear_value u0 u1
  exact Kept.ite (Kept.upd k0) (State.applyEdge_kept k0)

theorem State.rejected_kept {s0 a0 : State} {a1 a2} (h0 : Kept s0 a0) : Kept s0 (State.rejected a0 a1 a2) := by
  unfold State.rejected
  lift_lets -underBinder
  extract_lets -descend u0
  have k0 : Kept s0 u0 := Kept.ite h0 (State.put_kept (State.put_kept h0))
  clear_value u0
  exact State.reportLasting_kept k0

theorem State.bootCopy1_kept {s0 a0 : State} (h0 : Kept s0 a0) : Kept s0 (State.bootCopy1 a0) := by
  unfold State.bootCopy1
  exact afterCheck_kept (fun _ => State.contentPass_kept h0) (fun _ => State.recovery_kept (State.rejected_kept h0))

theorem State.bootCopy0_kept {s0 a0 : State} (h0 : Kept s0 a0) : Kept s0 (State.bootCopy0 a0) := by
  unfold State.bootCopy0
  exact afterCheck_kept (fun _ => State.contentPass_kept h0) (fun _ => State.bootCopy1_kept (State.flag_kept
      (State.rejected_kept h0)))

theorem State.bootSource_kept {s0 a0 : State} (h0 : Kept s0 a0) : Kept s0 (State.bootSource a0) := by
  unfold State.bootSource
  lift_lets -underBinder
  extract_lets -descend u0 u1
  clear_value u0 u1
  exact Kept.ite (State.recovery_kept h0) (Kept.ite (State.bootCopy0_kept h0) (Kept.upd h0))

theorem State.showSlots_kept {s0 a0 : State} (h0 : Kept s0 a0) : Kept s0 (State.showSlots a0) := by
  unfold State.showSlots
  lift_lets -underBinder
  extract_lets -descend u0 u1
  clear_value u0 u1
  exact State.flag_kept (State.put_kept (State.put_kept h0))

theorem State.modSlot_kept {s0 a0 : State} {a1} {a2 : SlotRec → SlotRec} (h0 : Kept s0 a0) : Kept s0 (State.modSlot a0 a1
    a2) := by
  unfold State.modSlot
  lift_lets -underBinder
  extract_lets -descend u0
  clear_value u0
  exact State.showSlots_kept (Kept.ite (Kept.upd h0) (Kept.upd h0))

theorem State.setSlot_kept {s0 a0 : State} {a1} {a2 : SlotRec → SlotRec} (h0 : Kept s0 a0) : Kept s0 (State.setSlot a0 a1
    a2) := by
  unfold State.setSlot
  exact State.writeLp0_kept (State.modSlot_kept h0)

theorem State.trySlot_kept {s0 a0 : State} {a1 a2} (h0 : Kept s0 a0) : KeptP s0 (State.trySlot a0 a1 a2) := by
  unfold State.trySlot
  lift_lets -underBinder
  extract_lets -descend u0 u1 u2
  have k1 : Kept s0 u1 := Kept.ite (State.setSlot_kept h0) h0
  clear_value u0 u1 u2
  refine KeptP.ite ?_ ?_
  · exact KeptP.mk (State.setSlot_kept h0)
  · split
    · exact KeptP.mk k1
    · lift_lets -underBinder
      extract_lets -descend u4
      have k4 : Kept s0 u4 := State.rejected_kept k1
      clear_value u4
      exact KeptP.mk (Kept.ite k4 (State.setSlot_kept k4))

theorem State.trySlots_kept {s0 : State} {a0 : List (Nat × Bool)} {a1 : State} (h1 : Kept s0 a1) : Kept s0 (State.trySlots a0 a1) := by
  induction a0 generalizing a1 with
  | nil => exact State.bootSource_kept h1
  | cons x t ih =>
    unfold State.trySlots
    lift_lets
    extract_lets -descend k
    split
    · rename_i u c f e
      exact State.contentPass_kept (KeptP.of (State.trySlot_kept h1) e)
    · rename_i u e
      exact ih (State.flag_kept (KeptP.of (State.trySlot_kept h1) e))

theorem State.boot_kept {s0 a0 : State} (h0 : Kept s0 a0) : Kept s0 (State.boot a0) := by
  unfold State.boot
  lift_lets -underBinder
  extract_lets -descend u0 u1 u2
  have k2 : Kept s0 u2 := Kept.upd h0
  exact Kept.ite (State.recovery_kept k2) (State.trySlots_kept k2)

theorem State.showOtp_kept {s0 a0 : State} (h0 : Kept s0 a0) : Kept s0 (State.showOtp a0) := by
  unfold State.showOtp
  lift_lets -underBinder
  extract_lets -descend u0 u1 u2 u3
  have k2 : Kept s0 u2 := State.put_kept (State.put_kept (State.put_kept h0))
  have k3 : Kept s0 u3 := State.put_kept (State.put_kept k2)
  clear_value u0 u1 u2 u3
  exact State.flag_kept (State.put_kept (State.put_kept k3))

theorem execZeroizationEnd_kept {s0 : State} {a0} {a1 : State} (h1 : Kept s0 a1) : KeptH s0 (execZeroizationEnd a0 a1) := by
  unfold execZeroizationEnd
  refine KeptH.answer (Kept.ite h1 ?_)
  lift_lets
  extract_lets p t0 b c d e f g
  have kb : Kept s0 b := State.showNvm_kept (State.forEach_kept (fun _ _ h => State.loadRemap_kept h)
    (Kept.mem (t := t0) h1 (fun _ => rfl) rfl rfl))
  have kc : Kept s0 c := State.flag_kept (State.forEach_kept (fun _ _ h => State.zeroFound_kept h) kb)
  have kd : Kept s0 d := Kept.ite (State.holdCause_kept kc) kc
  have ke : Kept s0 e := State.scanLog_kept (State.setPhase_kept kd)
  have kf : Kept s0 f := State.put_kept (State.put_kept ke)
  have kg : Kept s0 g := State.put_kept kf
  exact State.boot_kept (State.showOtp_kept (State.showSlots_kept kg))

theorem State.imgView_kept {s0 a0 : State} (h0 : Kept s0 a0) : Kept s0 (State.imgView a0) := by
  unfold State.imgView
  split
  · exact Kept.ite (Kept.upd h0) h0
  · exact h0

theorem State.prepKick_kept {s0 a0 : State} (h0 : Kept s0 a0) : Kept s0 (State.prepKick a0) := by
  unfold State.prepKick
  exact State.forEach_kept (fun _ _ f0_1 => Kept.ite (Kept.ite (State.put_kept f0_1) (Kept.ite f0_1 (State.modEngine_kept
      (State.put_kept f0_1)))) f0_1) h0

theorem State.kickLoads_kept {s0 a0 : State} (h0 : Kept s0 a0) : Kept s0 (State.kickLoads a0) := by
  unfold State.kickLoads
  exact State.prepKick_kept (State.loadKick_kept h0)

theorem State.modDelta_kept {s0 a0 : State} {a1 : Delta → Delta} (h0 : Kept s0 a0) : Kept s0 (State.modDelta a0 a1) := by
  unfold State.modDelta
  exact Kept.upd h0

theorem State.imgPassed_kept {s0 a0 : State} {a1 a2} (h0 : Kept s0 a0) : Kept s0 (State.imgPassed a0 a1 a2) := by
  unfold State.imgPassed
  lift_lets -underBinder
  extract_lets -descend u0 u1 u2
  have k0 : Kept s0 u0 := State.putBytes_kept (State.zeroMem_kept h0)
  have k1 : Kept s0 u1 := State.modEngine_kept k0
  have k2 : Kept s0 u2 := State.put_kept (State.put_kept (State.put_kept k1))
  clear_value u0 u1 u2
  exact Kept.ite (State.modDelta_kept k2) (State.engineLoaded_kept h0)

theorem State.runLater_kept {s0 a0 : State} (h0 : Kept s0 a0) : Kept s0 (State.runLater a0) := by
  unfold State.runLater
  lift_lets -underBinder
  extract_lets -descend u0 u1 u2
  have k2 : Kept s0 u2 := Kept.upd h0
  clear_value u0 u1 u2
  exact State.forEach_kept (fun _ _ f3_1 => (by
    split
    · rename_i v4_0 v4_1 e4
      have k4_0 := KeptP.of (State.repair_kept (fun _ f4_0 _ _ _ => State.report_kept f4_0) f3_1) e4
      exact Kept.ite (State.fltReset_kept k4_0) k4_0)) k2

theorem State.dropPrepared_kept {s0 a0 : State} {a1} (h0 : Kept s0 a0) : Kept s0 (State.dropPrepared a0 a1) := by
  unfold State.dropPrepared
  exact State.forEach_kept (fun _ _ f0_1 => State.put_kept (State.applyEngine_kept (State.imageStop_kept
      (State.imgCmdEnd_kept f0_1)))) h0

theorem State.deltaStop_kept {s0 a0 : State} {a1 a2 a3 a4 a5} (h0 : Kept s0 a0) : Kept s0 (State.deltaStop a0 a1 a2 a3 a4
    a5) := by
  unfold State.deltaStop
  lift_lets -underBinder
  extract_lets -descend u0 u1
  have k1 : Kept s0 u1 := Kept.upd h0
  clear_value u0 u1
  exact State.kickLoads_kept (State.runLater_kept (State.halvikDone_kept (State.dropPrepared_kept k1)))

theorem State.imgFailed_kept {s0 a0 : State} {a1 a2} (h0 : Kept s0 a0) : Kept s0 (State.imgFailed a0 a1 a2) := by
  unfold State.imgFailed
  lift_lets -underBinder
  extract_lets -descend u0 u1
  have k1 : Kept s0 u1 := State.modEngine_kept (State.engineBack_kept h0)
  clear_value u0 u1
  split
  · exact Kept.ite (State.deltaStop_kept k1) (State.report_kept k1)
  · exact State.report_kept k1

theorem execImageLoadDone_kept {s0 : State} {a0} {a1 : State} (h1 : Kept s0 a1) : KeptH s0 (execImageLoadDone a0 a1) := by
  unfold execImageLoadDone
  lift_lets -underBinder
  extract_lets -descend u0 u1 u2
  have k0 : Kept s0 u0 := State.imgView_kept h1
  clear_value u0 u1 u2
  exact KeptH.answer (Kept.ite h1 (Kept.ite (State.kickLoads_kept (State.imgCmdEnd_kept (State.imgPassed_kept h1)))
      (State.kickLoads_kept (State.imgFailed_kept (State.imgCmdEnd_kept h1)))))

theorem execBayRelease_kept {s0 : State} {a0} {a1 : State} (h1 : Kept s0 a1) : KeptH s0 (execBayRelease a0 a1) := by
  unfold execBayRelease
  exact KeptH.answer (Kept.ite (State.release_kept h1) h1)

theorem State.hold_kept {s0 a0 : State} {a1 a2 a3} (h0 : Kept s0 a0) : Kept s0 (State.hold a0 a1 a2 a3) := by
  unfold State.hold
  lift_lets -underBinder
  extract_lets -descend u0 u1
  have k0 : Kept s0 u0 := State.holdCause_kept (State.holdReset_kept h0)
  clear_value u0 u1
  exact Kept.upd k0

theorem execReferenceLoss_kept {s0 : State} {a0} {a1 : State} (h1 : Kept s0 a1) : KeptH s0 (execReferenceLoss a0 a1) := by
  unfold execReferenceLoss
  exact KeptH.answer (Kept.ite h1 (State.put_kept (State.hold_kept h1)))

theorem execPllUnlock_kept {s0 a0 : State} (h0 : Kept s0 a0) : KeptH s0 (execPllUnlock a0) := by
  unfold execPllUnlock
  exact KeptH.answer (Kept.ite (State.hold_kept h0) h0)

theorem State.unhold_kept {s0 a0 : State} {a1} (h0 : Kept s0 a0) : Kept s0 (State.unhold a0 a1) := by
  unfold State.unhold
  lift_lets -underBinder
  extract_lets -descend u0 u1
  clear_value u0 u1
  exact Kept.upd h0

theorem execReferenceGoodRestart_kept {s0 a0 : State} (h0 : Kept s0 a0) : KeptH s0 (execReferenceGoodRestart a0) := by
  unfold execReferenceGoodRestart
  exact KeptH.answer (Kept.ite (State.put_kept (State.unhold_kept h0)) h0)

theorem execCoreUnderVoltage_kept {s0 a0 : State} (h0 : Kept s0 a0) : KeptH s0 (execCoreUnderVoltage a0) := by
  unfold execCoreUnderVoltage
  exact KeptH.answer (Kept.ite h0 (State.hold_kept h0))

theorem execRailUnderVoltage_kept {s0 : State} {a0} {a1 : State} (h1 : Kept s0 a1) : KeptH s0 (execRailUnderVoltage a0 a1) := by
  unfold execRailUnderVoltage
  exact KeptH.answer (Kept.ite h1 (State.hold_kept h1))

theorem execSupplyGoodRestart_kept {s0 : State} {a0} {a1 : State} (h1 : Kept s0 a1) : KeptH s0 (execSupplyGoodRestart a0
    a1) := by
  unfold execSupplyGoodRestart
  exact KeptH.answer (Kept.ite (State.unhold_kept h1) h1)

theorem execIoRailLow_kept {s0 : State} {a0} {a1 : State} (h1 : Kept s0 a1) : KeptH s0 (execIoRailLow a0 a1) := by
  unfold execIoRailLow
  lift_lets -underBinder
  extract_lets -descend u0 u1 u2
  have k1 : Kept s0 u1 := Kept.upd h1
  have k2 : Kept s0 u2 := Kept.ite (State.tagEnd_kept k1) k1
  clear_value u0 u1 u2
  exact KeptH.answer (Kept.ite h1 (Kept.ite (State.forEach_kept (fun _ _ f3_1 => State.pinLevel_kept f3_1) k1) (Kept.ite
      (State.drvRail_kept (State.drvRail_kept k1)) (State.capEdge_kept (State.cloPark_kept k2)))))

theorem execIoRailRestored_kept {s0 : State} {a0 a1} {a2 : State} (h2 : Kept s0 a2) : KeptH s0 (execIoRailRestored a0 a1
    a2) := by
  unfold execIoRailRestored
  lift_lets -underBinder
  extract_lets -descend u0 u1
  have k1 : Kept s0 u1 := Kept.upd h2
  clear_value u0 u1
  exact KeptH.answer (Kept.ite h2 (Kept.ite (State.forEach_kept (fun _ _ f2_1 => State.pinLevel_kept f2_1) k1) k1))

theorem execLpoCalibration_kept {s0 : State} {a0} {a1 : State} (h1 : Kept s0 a1) : KeptH s0 (execLpoCalibration a0 a1) := by
  unfold execLpoCalibration
  lift_lets -underBinder
  extract_lets -descend u0
  have k0 : Kept s0 u0 := State.flag_kept (State.put_kept h1)
  clear_value u0
  exact KeptH.answer (Kept.ite h1 (Kept.ite (State.report_kept (State.flag_kept (State.flag_kept k0))) k0))

theorem State.unclash_kept {s0 a0 : State} {a1} (h0 : Kept s0 a0) : Kept s0 (State.unclash a0 a1) := by
  unfold State.unclash
  lift_lets -underBinder
  extract_lets -descend u0
  have k0 : Kept s0 u0 := State.modLane_kept h0
  clear_value u0
  exact State.flag_kept k0

theorem State.laneRise_kept {s0 a0 : State} {a1} (h0 : Kept s0 a0) : Kept s0 (State.laneRise a0 a1) := by
  unfold State.laneRise
  lift_lets -underBinder
  extract_lets -descend u0 u1 u2 u3 u4 u5 u6
  have k1 : Kept s0 u1 := State.put_kept h0
  have k2 : Kept s0 u2 := Kept.ite (State.showSeq_kept (State.modHop_kept k1)) k1
  have k3 : Kept s0 u3 := State.flag_kept (State.setB_kept k2)
  have k4 : Kept s0 u4 := State.modVdt_kept k3
  have k5 : Kept s0 u5 := Kept.ite (State.forEach_kept (fun _ _ f6_1 => Kept.ite (State.resyncReq_kept f6_1) f6_1) k4) k4
  have k6 : Kept s0 u6 := State.modTrs_kept k2
  clear_value u0 u1 u2 u3 u4 u5 u6
  exact Kept.ite (State.vdtBound_kept (State.hopKick_kept k5)) (State.laneKick_kept k6)

theorem State.laneTrain_kept {s0 a0 : State} {a1 a2 a3} (h0 : Kept s0 a0) : Kept s0 (State.laneTrain a0 a1 a2 a3) := by
  unfold State.laneTrain
  lift_lets -underBinder
  extract_lets -descend u0 u1 u2
  have k1 : Kept s0 u1 := Kept.ite h0 (State.modTrs_kept h0)
  have k2 : Kept s0 u2 := State.flag_kept (State.modLane_kept k1)
  clear_value u0 u1 u2
  exact Kept.ite h0 (Kept.ite (State.put_kept (State.setB_kept h0)) (Kept.ite (State.modLane_kept (State.put_kept h0))
      (Kept.ite (Kept.ite (Kept.ite (State.flag_kept k2) k2) (State.put_kept (Kept.ite (State.unclash_kept k1) k1)))
      (Kept.ite (State.laneRise_kept h0) h0))))

theorem State.lanePll_kept {s0 a0 : State} {a1} (h0 : Kept s0 a0) : Kept s0 (State.lanePll a0 a1) := by
  unfold State.lanePll
  lift_lets -underBinder
  extract_lets -descend u0
  have k0 : Kept s0 u0 := State.setB_kept h0
  clear_value u0
  exact Kept.ite h0 (Kept.ite (State.laneTrain_kept k0) k0)

theorem execLanePllLock_kept {s0 : State} {a0} {a1 : State} (h1 : Kept s0 a1) : KeptH s0 (execLanePllLock a0 a1) := by
  unfold execLanePllLock
  exact KeptH.answer (Kept.ite (State.lanePll_kept h1) h1)

theorem State.vdtDark_kept {s0 a0 : State} (h0 : Kept s0 a0) : Kept s0 (State.vdtDark a0) := by
  unfold State.vdtDark
  lift_lets -underBinder
  extract_lets -descend u0 u1 u2
  have k0 : Kept s0 u0 := State.showSeq_kept (State.modHop_kept h0)
  have k1 : Kept s0 u1 := State.modVdt_kept k0
  have k2 : Kept s0 u2 := State.forEach_kept (fun _ _ f3_1 => State.put_kept f3_1) k1
  clear_value u0 u1 u2
  exact State.forEach_kept (fun _ _ f3_1 => (by
    lift_lets -underBinder
    extract_lets -descend u4 u5
    clear_value u4 u5
    exact State.putMbx_kept f3_1)) k2

theorem State.irqTrs_kept {s0 a0 : State} {a1} (h0 : Kept s0 a0) : Kept s0 (State.irqTrs a0 a1) := by
  unfold State.irqTrs
  exact State.flag_kept h0

theorem State.trsClose_kept {s0 a0 : State} {a1} (h0 : Kept s0 a0) : Kept s0 (State.trsClose a0 a1) := by
  unfold State.trsClose
  exact State.trsNext_kept (State.modTrs_kept h0)

theorem State.trsUnknown_kept {s0 a0 : State} {a1} (h0 : Kept s0 a0) : Kept s0 (State.trsUnknown a0 a1) := by
  unfold State.trsUnknown
  exact State.useUnknown_kept (State.trsClose_kept h0)

theorem State.resetDrv_kept {s0 a0 : State} {a1} (h0 : Kept s0 a0) : Kept s0 (State.resetDrv a0 a1) := by
  unfold State.resetDrv
  lift_lets -underBinder
  extract_lets -descend u0 u1 u2 u3 u4 u5
  have k3 : Kept s0 u3 := State.modDrv_kept (State.parkDrv_kept h0)
  have k4 : Kept s0 u4 := State.resetRegs_kept k3
  have k5 : Kept s0 u5 := State.flag_kept (State.flag_kept k4)
  clear_value u0 u1 u2 u3 u4 u5
  exact State.put_kept k5

theorem State.resetPeriph_kept {s0 a0 : State} {a1} (h0 : Kept s0 a0) : Kept s0 (State.resetPeriph a0 a1) := by
  unfold State.resetPeriph
  exact Kept.ite h0 (Kept.ite (State.resetClp_kept h0) (Kept.ite (State.resetCap_kept h0) (Kept.ite (State.resetTag_kept
      h0) (Kept.ite (State.resetEth_kept h0) (Kept.ite (State.resetCan_kept h0) (Kept.ite (State.resetSer_kept h0)
      (Kept.ite (State.resetDrv_kept h0) (Kept.ite (State.resetAdc_kept h0) (Kept.ite (State.resetSdm_kept h0) (Kept.ite
      (State.resetQdr_kept h0) (Kept.ite (State.putWord_kept (State.putWord_kept h0)) (Kept.ite (State.putWord_kept
      (State.putWord_kept h0)) (Kept.ite (State.resetTev_kept h0) (Kept.ite (State.resetTcap_kept h0) h0))))))))))))))

theorem State.dropHome_kept {s0 a0 : State} {a1} (h0 : Kept s0 a0) : Kept s0 (State.dropHome a0 a1) := by
  unfold State.dropHome
  exact State.forEach_kept (fun _ _ f0_1 => State.resetPeriph_kept (State.forEach_kept (fun _ _ f1_1 => State.parkPin_kept
      f1_1) f0_1)) h0

theorem State.memberLost_kept {s0 a0 : State} {a1} (h0 : Kept s0 a0) : Kept s0 (State.memberLost a0 a1) := by
  unfold State.memberLost
  lift_lets -underBinder
  extract_lets -descend u0 u1 u2 u3 u4 u5 u6
  have k0 : Kept s0 u0 := State.setB_kept (State.clrB_kept h0)
  have k1 : Kept s0 u1 := State.irqTrs_kept (State.irqTrs_kept k0)
  have k2 : Kept s0 u2 := State.report_kept k1
  have k4 : Kept s0 u4 := State.modTrs_kept k2
  have k5 : Kept s0 u5 := State.forEach_kept (fun _ _ f6_1 => State.trsUnknown_kept f6_1) k4
  have k6 : Kept s0 u6 := State.forEach_kept (fun _ _ f7_1 => State.useUnknown_kept f7_1) k5
  clear_value u0 u1 u2 u3 u4 u5 u6
  exact State.dropHome_kept k6

theorem State.setMaster_kept {s0 a0 : State} (h0 : Kept s0 a0) : Kept s0 (State.setMaster a0) := by
  unfold State.setMaster
  split
  · exact h0
  · lift_lets -underBinder
    extract_lets -descend u1 u2
    have k2 : Kept s0 u2 := State.irqTrs_kept (State.flag_kept (State.put_kept h0))
    clear_value u1 u2
    exact Kept.ite h0 (Kept.ite (State.put_kept (State.put_kept k2)) k2)

theorem State.applyRoutes_kept {s0 a0 : State} {a1} (h0 : Kept s0 a0) : Kept s0 (State.applyRoutes a0 a1) := by
  unfold State.applyRoutes
  lift_lets -underBinder
  extract_lets -descend u0 u1 u2 u3
  have k1 : Kept s0 u1 := State.forEach_kept (fun _ _ f2_1 => State.memberLost_kept f2_1) h0
  have k2 : Kept s0 u2 := State.flag_kept k1
  have k3 : Kept s0 u3 := State.setMaster_kept k2
  clear_value u0 u1 u2 u3
  split
  · lift_lets -underBinder
    extract_lets -descend u5
    clear_value u5
    exact Kept.ite (State.trsAll_kept (State.report_kept (State.irqTrs_kept k3))) k3
  · exact k3

theorem State.hopLost_kept {s0 a0 : State} {a1 a2} (h0 : Kept s0 a0) : Kept s0 (State.hopLost a0 a1 a2) := by
  unfold State.hopLost
  lift_lets -underBinder
  extract_lets -descend u0 u1 u2 u3 u4 u5 u6
  have k1 : Kept s0 u1 := State.report_kept h0
  have k2 : Kept s0 u2 := State.modTrs_kept k1
  have k4 : Kept s0 u4 := State.modHop_kept k2
  have k5 : Kept s0 u5 := State.trsAll_kept k4
  have k6 : Kept s0 u6 := State.applyRoutes_kept k5
  clear_value u0 u1 u2 u3 u4 u5 u6
  exact Kept.ite h0 (State.forEach_kept (fun _ _ f7_1 => (by
    split
    · exact State.trsSend_kept f7_1
    · exact f7_1)) k6)

theorem State.laneDown_kept {s0 a0 : State} {a1} (h0 : Kept s0 a0) : Kept s0 (State.laneDown a0 a1) := by
  unfold State.laneDown
  lift_lets -underBinder
  extract_lets -descend u0 u1 u2 u3 u4
  have k1 : Kept s0 u1 := State.modLane_kept (State.put_kept h0)
  have k2 : Kept s0 u2 := Kept.ite (State.unclash_kept k1) k1
  have k3 : Kept s0 u3 := State.flag_kept (State.clrB_kept k2)
  have k4 : Kept s0 u4 := State.report_kept k3
  clear_value u0 u1 u2 u3 u4
  exact Kept.ite k2 (Kept.ite (Kept.ite (State.vdtDark_kept k4) k4) (State.hopLost_kept k2))

theorem State.pcieLink_kept {s0 a0 : State} {a1 a2 a3} (h0 : Kept s0 a0) : Kept s0 (State.pcieLink a0 a1 a2 a3) := by
  unfold State.pcieLink
  lift_lets -underBinder
  extract_lets -descend u0 u1
  have k1 : Kept s0 u1 := State.put_kept (State.put_kept (State.flag_kept h0))
  clear_value u0 u1
  exact Kept.ite k1 (State.flag_kept k1)

theorem State.laneLost_kept {s0 a0 : State} {a1} (h0 : Kept s0 a0) : Kept s0 (State.laneLost a0 a1) := by
  unfold State.laneLost
  exact Kept.ite (State.ethLink_kept h0) (Kept.ite (State.laneDown_kept h0) (State.pcieLink_kept h0))

theorem execLanePllUnlock_kept {s0 : State} {a0} {a1 : State} (h1 : Kept s0 a1) : KeptH s0 (execLanePllUnlock a0 a1) := by
  unfold execLanePllUnlock
  lift_lets -underBinder
  extract_lets -descend u0
  have k0 : Kept s0 u0 := State.flag_kept (State.clrB_kept h1)
  clear_value u0
  exact KeptH.answer (Kept.ite h1 (State.report_kept (State.laneLost_kept k0)))

theorem execDozeEnter_kept {s0 a0 : State} (h0 : Kept s0 a0) : KeptH s0 (execDozeEnter a0) := by
  unfold execDozeEnter
  exact KeptH.answer (Kept.ite (State.setPhase_kept h0) h0)

theorem execDozeExit_kept {s0 a0 : State} (h0 : Kept s0 a0) : KeptH s0 (execDozeExit a0) := by
  unfold execDozeExit
  exact KeptH.answer (Kept.ite (State.setPhase_kept h0) h0)

theorem State.sleepPark_kept {s0 a0 : State} {a1} (h0 : Kept s0 a0) : Kept s0 (State.sleepPark a0 a1) := by
  unfold State.sleepPark
  lift_lets -underBinder
  extract_lets -descend u0 u1 u2 u3 u4 u5 u6
  have k0 : Kept s0 u0 := State.forEach_kept (fun _ _ f1_1 => State.parkPin_kept f1_1) h0
  have k1 : Kept s0 u1 := State.parkDrv_kept (State.parkDrv_kept k0)
  have k2 : Kept s0 u2 := State.forEach_kept (fun _ _ f3_1 => State.modTev_kept f3_1) k1
  have k3 : Kept s0 u3 := State.laneDown_kept (State.laneDown_kept (State.laneDown_kept (State.laneDown_kept k2)))
  have k4 : Kept s0 u4 := State.flag_kept (State.flag_kept k3)
  have k5 : Kept s0 u5 := State.cloPark_kept k4
  clear_value u0 u1 u2 u3 u4 u5 u6
  exact Kept.upd k5

theorem State.pwrReq_kept {s0 a0 : State} {a1} (h0 : Kept s0 a0) : Kept s0 (State.pwrReq a0 a1) := by
  unfold State.pwrReq
  lift_lets -underBinder
  extract_lets -descend u0 u1 u2
  have k1 : Kept s0 u1 := State.flag_kept (State.put_kept h0)
  have k2 : Kept s0 u2 := State.setPhase_kept k1
  clear_value u0 u1 u2
  exact Kept.ite h0 (Kept.ite (State.flag_kept (State.put_kept h0)) (Kept.ite (State.setPhase_kept k1) (Kept.ite
      (State.sleepPark_kept k2) k2)))

theorem execSleepRequest_kept {s0 : State} {a0} {a1 : State} (h1 : Kept s0 a1) : KeptH s0 (execSleepRequest a0 a1) := by
  unfold execSleepRequest
  exact KeptH.answer (State.byBay0_kept h1 (fun _ f0_0 => State.pwrReq_kept f0_0))

theorem execSleepDrained_kept {s0 a0 : State} (h0 : Kept s0 a0) : KeptH s0 (execSleepDrained a0) := by
  unfold execSleepDrained
  exact KeptH.answer (Kept.ite (State.setPhase_kept (State.sleepPark_kept h0)) h0)

theorem State.commitEntry_kept {s0 a0 : State} (h0 : Kept s0 a0) : Kept s0 (State.commitEntry a0) := by
  unfold State.commitEntry
  exact Kept.upd h0

theorem execSleepCommit_kept {s0 a0 : State} (h0 : Kept s0 a0) : KeptH s0 (execSleepCommit a0) := by
  unfold execSleepCommit
  lift_lets -underBinder
  extract_lets -descend u0
  have k0 : Kept s0 u0 := State.flag_kept (State.put_kept (State.commitEntry_kept h0))
  clear_value u0
  exact KeptH.answer (Kept.ite (State.setPhase_kept (State.forEach_kept (fun _ _ f1_1 => State.stopWdt_kept f1_1) k0)) h0)

theorem execSleepRetention_kept {s0 a0 : State} (h0 : Kept s0 a0) : KeptH s0 (execSleepRetention a0) := by
  unfold execSleepRetention
  exact KeptH.answer (Kept.ite (State.flag_kept (State.setPhase_kept h0)) h0)

theorem execOffRequest_kept {s0 : State} {a0} {a1 : State} (h1 : Kept s0 a1) : KeptH s0 (execOffRequest a0 a1) := by
  unfold execOffRequest
  exact KeptH.answer (State.byBay0_kept h1 (fun _ f0_0 => State.pwrReq_kept f0_0))

theorem execOffCommit_kept {s0 a0 : State} (h0 : Kept s0 a0) : KeptH s0 (execOffCommit a0) := by
  unfold execOffCommit
  refine KeptH.answer (Kept.ite ?_ h0)
  exact Kept.same (State.put_kept (State.coldParts_kept (Kept.mem (t := { a0.commitEntry with mem := [] })
    (State.commitEntry_kept h0) (fun _ => rfl) rfl rfl))) rfl

theorem execWakenFall_kept {s0 a0 : State} (h0 : Kept s0 a0) : KeptH s0 (execWakenFall a0) := by
  unfold execWakenFall
  exact KeptH.answer (Kept.ite (State.wakeEvent_kept h0) h0)

theorem execWakePinEdge_kept {s0 : State} {a0 a1} {a2 : State} (h2 : Kept s0 a2) : KeptH s0 (execWakePinEdge a0 a1 a2) := by
  unfold execWakePinEdge
  lift_lets -underBinder
  extract_lets -descend u0
  clear_value u0
  exact KeptH.answer (Kept.ite (State.wakeEvent_kept h2) h2)

theorem execWakeTimerExpiry_kept {s0 a0 : State} (h0 : Kept s0 a0) : KeptH s0 (execWakeTimerExpiry a0) := by
  unfold execWakeTimerExpiry
  exact KeptH.answer (Kept.ite (State.wakeEvent_kept h0) h0)

theorem execWakeFromSleep_kept {s0 : State} {a0} {a1 : State} (h1 : Kept s0 a1) : KeptH s0 (execWakeFromSleep a0 a1) := by
  unfold execWakeFromSleep
  exact KeptH.answer (Kept.ite (State.setPhase_kept (State.put_kept h1)) h1)

theorem execWakePllLock_kept {s0 a0 : State} (h0 : Kept s0 a0) : KeptH s0 (execWakePllLock a0) := by
  unfold execWakePllLock
  lift_lets -underBinder
  extract_lets -descend u0 u1 u2 u3 u4 u5
  have k0 : Kept s0 u0 := State.resume_kept (State.flag_kept h0)
  have k2 : Kept s0 u2 := Kept.upd k0
  have k3 : Kept s0 u3 := State.sleepAdjust_kept k2
  have k4 : Kept s0 u4 := State.tevTriggers_kept k2 k3
  have k5 : Kept s0 u5 := State.forEach_kept (fun _ _ f6_1 => State.startWdt_kept f6_1) k4
  clear_value u0 u1 u2 u3 u4 u5
  exact KeptH.answer (Kept.ite (State.flag_kept (State.capWake_kept k5)) h0)

theorem execWakePllTimeout_kept {s0 a0 : State} (h0 : Kept s0 a0) : KeptH s0 (execWakePllTimeout a0) := by
  unfold execWakePllTimeout
  exact KeptH.answer (Kept.ite (State.holdCause_kept (State.deviceReset_kept h0)) h0)

theorem execWakeFromOff_kept {s0 : State} {a0} {a1 : State} (h1 : Kept s0 a1) : KeptH s0 (execWakeFromOff a0 a1) := by
  unfold execWakeFromOff
  lift_lets -underBinder
  extract_lets -descend u0 u1
  have k0 : Kept s0 u0 := State.put_kept h1
  clear_value u0 u1
  exact KeptH.answer (Kept.ite (Kept.upd k0) h1)

theorem execCoreSupplyGood_kept {s0 a0 : State} (h0 : Kept s0 a0) : KeptH s0 (execCoreSupplyGood a0) := by
  unfold execCoreSupplyGood
  exact KeptH.answer (Kept.ite (State.setPhase_kept h0) h0)

theorem execSettleExpiry_kept {s0 a0 : State} (h0 : Kept s0 a0) : KeptH s0 (execSettleExpiry a0) := by
  unfold execSettleExpiry
  exact KeptH.answer (Kept.ite (State.resetInto_kept h0) h0)

theorem execCoreSupplyTimeout_kept {s0 a0 : State} (h0 : Kept s0 a0) : KeptH s0 (execCoreSupplyTimeout a0) := by
  unfold execCoreSupplyTimeout
  lift_lets -underBinder
  extract_lets -descend u0 u1
  have k0 : Kept s0 u0 := State.holdCause_kept h0
  clear_value u0 u1
  exact KeptH.answer (Kept.ite (Kept.upd k0) h0)

theorem State.fail_kept {s0 a0 : State} {a1 a2 a3 a4} (h0 : Kept s0 a0) : Kept s0 (State.fail a0 a1 a2 a3 a4) := by
  unfold State.fail
  exact State.halvikDone_kept h0

theorem State.done_kept {s0 a0 : State} {a1 a2 a3} (h0 : Kept s0 a0) : Kept s0 (State.done a0 a1 a2 a3) := by
  unfold State.done
  exact State.halvikDone_kept h0

theorem State.abortCmd_kept {s0 a0 : State} {a1} (h0 : Kept s0 a0) : Kept s0 (State.abortCmd a0 a1) := by
  unfold State.abortCmd
  lift_lets -underBinder
  extract_lets -descend u0 u1
  clear_value u0 u1
  refine Kept.ite ?_ ?_
  · exact State.fail_kept h0
  · split
    · exact State.done_kept h0
    · refine Kept.ite ?_ ?_
      · exact State.fail_kept h0
      · split
        · exact State.done_kept (State.engineBack_kept (State.imgCmdEnd_kept h0))
        · exact Kept.ite (State.done_kept h0) (Kept.ite (State.done_kept (State.deltaStop_kept h0)) (State.done_kept
              (State.modDelta_kept h0)))
        · exact State.done_kept h0

theorem State.nonceCmd_kept {s0 a0 : State} {a1} (h0 : Kept s0 a0) : Kept s0 (State.nonceCmd a0 a1) := by
  unfold State.nonceCmd
  lift_lets -underBinder
  extract_lets -descend u0 u1 u2
  have k2 : Kept s0 u2 := State.took_kept (Kept.upd h0)
  clear_value u0 u1 u2
  exact State.pushCpl_kept (State.done_kept k2)

theorem State.bufBlocked_kept {s0 a0 : State} {a1 a2 a3} (h0 : Kept s0 a0) : Kept s0 (State.bufBlocked a0 a1 a2 a3) := by
  unfold State.bufBlocked
  exact Kept.ite (Kept.ite (State.poisonHit_kept h0) h0) (Kept.ite (State.poisonHit_kept h0) (State.blocked_kept h0))

theorem State.bsLoad_kept {s0 a0 : State} {a1} (h0 : Kept s0 a0) : Kept s0 (State.bsLoad a0 a1) := by
  unfold State.bsLoad
  refine Kept.ite ?_ ?_
  · exact State.fail_kept h0
  · refine Kept.ite ?_ ?_
    · exact State.fail_kept h0
    · split
      · exact State.fail_kept (State.bufBlocked_kept h0)
      · split
        · exact State.contentPass_kept (State.done_kept h0)
        · exact State.fail_kept (State.rejected_kept h0)

theorem State.nvmWrite_kept {s0 a0 : State} {a1 a2} {a3 : State → State} (h0 : Kept s0 a0) (h3 : ∀ (b0 : State) (_ : Kept
    s0 b0), Kept s0 (a3 b0)) : KeptP s0 (State.nvmWrite a0 a1 a2 a3) := by
  unfold State.nvmWrite
  exact KeptP.ite (KeptP.mk (h3 _ h0)) (KeptP.ite (KeptP.mk (State.report_kept (h3 _ h0))) (KeptP.mk
      (State.reportLasting_kept h0)))

theorem State.nvmEnd_kept {s0 a0 : State} {a1 a2 a3 a4} {a5 : State → State} (h0 : Kept s0 a0) (h5 : ∀ (b0 : State) (_ :
    Kept s0 b0), Kept s0 (a5 b0)) : Kept s0 (State.nvmEnd a0 a1 a2 a3 a4 a5) := by
  unfold State.nvmEnd
  split
  · rename_i v0_0 e0
    have k0_0 := KeptP.of (State.nvmWrite_kept h0 h5) e0
    exact State.done_kept k0_0
  · rename_i v0_0 e0
    have k0_0 := KeptP.of (State.nvmWrite_kept h0 h5) e0
    exact State.fail_kept k0_0

theorem State.slotOpen_kept {s0 a0 : State} {a1 a2} (h0 : Kept s0 a0) : Kept s0 (State.slotOpen a0 a1 a2) := by
  unfold State.slotOpen
  lift_lets -underBinder
  extract_lets -descend u0
  clear_value u0
  exact Kept.ite (State.fail_kept h0) (Kept.ite (State.fail_kept h0) (Kept.ite (State.fail_kept h0) (State.nvmEnd_kept h0
      (fun _ f1_0 => (by
    lift_lets -underBinder
    extract_lets -descend u2
    clear_value u2
    exact State.setSlot_kept (Kept.upd f1_0))))))

theorem State.slotWrite_kept {s0 a0 : State} {a1 a2} (h0 : Kept s0 a0) : Kept s0 (State.slotWrite a0 a1 a2) := by
  unfold State.slotWrite
  split
  · exact State.fail_kept h0
  · lift_lets -underBinder
    extract_lets -descend u1
    clear_value u1
    refine Kept.ite ?_ ?_
    · exact State.fail_kept h0
    · split
      · exact State.fail_kept (State.bufBlocked_kept h0)
      · exact State.nvmEnd_kept h0 (fun _ f3_0 => State.putNvm_kept f3_0)

theorem State.slotClose_kept {s0 a0 : State} {a1 a2} (h0 : Kept s0 a0) : Kept s0 (State.slotClose a0 a1 a2) := by
  unfold State.slotClose
  split
  · exact State.fail_kept h0
  · lift_lets -underBinder
    extract_lets -descend u1 u2 u3
    have k3 : ∀ (b0 : State) (_ : Kept s0 b0), Kept s0 (u3 b0) := fun _ f4_0 => Kept.upd f4_0
    clear_value u1 u2 u3
    refine Kept.ite ?_ ?_
    · exact State.fail_kept h0
    · split
      · exact State.nvmEnd_kept h0 (fun _ f5_0 => State.setSlot_kept (k3 _ f5_0))
      · split
        · rename_i v5_0 e5
          have k5_0 := KeptP.of (State.nvmWrite_kept h0 (fun _ f5_0 => State.setSlot_kept (k3 _ f5_0))) e5
          exact State.fail_kept k5_0
        · rename_i v5_0 e5
          have k5_0 := KeptP.of (State.nvmWrite_kept h0 (fun _ f5_0 => State.setSlot_kept (k3 _ f5_0))) e5
          exact State.fail_kept k5_0

theorem State.slotCommit_kept {s0 a0 : State} {a1 a2} (h0 : Kept s0 a0) : Kept s0 (State.slotCommit a0 a1 a2) := by
  unfold State.slotCommit
  lift_lets -underBinder
  extract_lets -descend u0
  clear_value u0
  exact Kept.ite (State.nvmEnd_kept h0 (fun _ f1_0 => (by
    lift_lets -underBinder
    extract_lets -descend u2 u3
    have k3 : Kept s0 u3 := State.flag_kept (Kept.upd f1_0)
    clear_value u2 u3
    exact State.writeLp0_kept (State.modSlot_kept (State.modSlot_kept k3))))) (State.fail_kept h0)

theorem State.slotErase_kept {s0 a0 : State} {a1 a2} (h0 : Kept s0 a0) : Kept s0 (State.slotErase a0 a1 a2) := by
  unfold State.slotErase
  lift_lets -underBinder
  extract_lets -descend u0
  clear_value u0
  exact Kept.ite (State.fail_kept h0) (Kept.ite (State.fail_kept h0) (State.nvmEnd_kept h0 (fun _ f1_0 => (by
    lift_lets -underBinder
    extract_lets -descend u2 u3
    have k3 : Kept s0 u3 := Kept.ite (Kept.upd f1_0) f1_0
    clear_value u2 u3
    exact State.setSlot_kept k3))))

theorem State.presetEngine_kept {s0 a0 : State} {a1 a2} (h0 : Kept s0 a0) : Kept s0 (State.presetEngine a0 a1 a2) := by
  unfold State.presetEngine
  lift_lets -underBinder
  extract_lets -descend u0
  have k0 : Kept s0 u0 := State.applyEngine_kept (Kept.upd h0)
  clear_value u0
  exact State.put_kept (Kept.upd k0)

theorem State.deltaApply_kept {s0 a0 : State} {a1} (h0 : Kept s0 a0) : Kept s0 (State.deltaApply a0 a1) := by
  unfold State.deltaApply
  refine Kept.ite ?_ ?_
  · exact State.fail_kept h0
  · refine Kept.ite ?_ ?_
    · exact State.fail_kept h0
    · split
      · exact State.fail_kept (State.bufBlocked_kept h0)
      · split
        · exact State.fail_kept h0
        · lift_lets -underBinder
          extract_lets -descend u2 u3 u4 u5 u6
          have k6 : Kept s0 u6 := Kept.upd h0
          clear_value u2 u3 u4 u5 u6
          exact Kept.ite (State.fail_kept h0) (State.kickLoads_kept (State.forEach_kept (fun _ _ f7_1 =>
              State.presetEngine_kept f7_1) k6))

theorem State.eligible_kept {s0 a0 : State} {a1} (h0 : Kept s0 a0) : Kept s0 (State.eligible a0 a1) := by
  unfold State.eligible
  exact Kept.ite (State.flag_kept h0) h0

theorem State.deltaCommit_kept {s0 a0 : State} {a1} (h0 : Kept s0 a0) : Kept s0 (State.deltaCommit a0 a1) := by
  unfold State.deltaCommit
  lift_lets -underBinder
  extract_lets -descend u0 u1 u2 u3
  have k2 : Kept s0 u2 := Kept.upd h0
  have k3 : Kept s0 u3 := State.halvikDone_kept (State.put_kept k2)
  clear_value u0 u1 u2 u3
  exact State.runLater_kept (State.eligible_kept k3)

theorem State.bayReady_kept {s0 a0 : State} {a1} (h0 : Kept s0 a0) : Kept s0 (State.bayReady a0 a1) := by
  unfold State.bayReady
  lift_lets -underBinder
  extract_lets -descend u0
  clear_value u0
  refine Kept.ite ?_ ?_
  · exact State.fail_kept h0
  · split
    · exact State.done_kept h0
    · lift_lets -underBinder
      extract_lets -descend u2
      clear_value u2
      exact Kept.ite (State.deltaCommit_kept (State.done_kept h0)) (State.done_kept h0)

theorem State.imageLoad_kept {s0 a0 : State} {a1} (h0 : Kept s0 a0) : Kept s0 (State.imageLoad a0 a1) := by
  unfold State.imageLoad
  lift_lets -underBinder
  extract_lets -descend u0 u1
  clear_value u0 u1
  refine Kept.ite ?_ ?_
  · exact State.fail_kept h0
  · split
    · exact State.fail_kept (State.bufBlocked_kept h0)
    · lift_lets -underBinder
      extract_lets -descend u3 u4
      have k3 : Kept s0 u3 := State.modEngine_kept (State.put_kept h0)
      clear_value u3 u4
      exact Kept.upd k3

theorem State.modOtp_kept {s0 a0 : State} {a1 : Otp → Otp} (h0 : Kept s0 a0) : Kept s0 (State.modOtp a0 a1) := by
  unfold State.modOtp
  lift_lets -underBinder
  extract_lets -descend u0
  clear_value u0
  exact State.showOtp_kept (Kept.upd h0)

theorem State.keyWrite_kept {s0 a0 : State} {a1} (h0 : Kept s0 a0) : Kept s0 (State.keyWrite a0 a1) := by
  unfold State.keyWrite
  lift_lets -underBinder
  extract_lets -descend u0 u1 u2 u3 u4
  clear_value u0 u1 u2 u3 u4
  exact Kept.ite (State.fail_kept h0) (State.done_kept (State.modOtp_kept h0))

theorem State.signed_kept {s0 a0 : State} {a1 a2} {a3 : State → State} (h0 : Kept s0 a0) (h3 : ∀ (b0 : State) (_ : Kept s0
    b0), Kept s0 (a3 b0)) : Kept s0 (State.signed a0 a1 a2 a3) := by
  unfold State.signed
  lift_lets -underBinder
  extract_lets -descend u0 u1 u2
  have k2 : Kept s0 u2 := Kept.upd h0
  clear_value u0 u1 u2
  exact Kept.ite (h3 _ k2) (State.fail_kept (State.report_kept k2))

theorem State.keyProvision_kept {s0 a0 : State} {a1} (h0 : Kept s0 a0) : Kept s0 (State.keyProvision a0 a1) := by
  unfold State.keyProvision
  lift_lets -underBinder
  extract_lets -descend u0
  clear_value u0
  exact Kept.ite (Kept.ite (State.keyWrite_kept h0) (State.fail_kept h0)) (Kept.ite (State.fail_kept h0) (State.signed_kept
      h0 (fun _ f1_0 => State.keyWrite_kept f1_0)))

theorem State.keyRevoke_kept {s0 a0 : State} {a1} (h0 : Kept s0 a0) : Kept s0 (State.keyRevoke a0 a1) := by
  unfold State.keyRevoke
  exact State.signed_kept h0 (fun _ f0_0 => (by
    lift_lets -underBinder
    extract_lets -descend u1
    clear_value u1
    exact Kept.ite (State.fail_kept f0_0) (Kept.ite (State.fail_kept f0_0) (State.done_kept (State.modOtp_kept f0_0)))))

theorem State.secverRaise_kept {s0 a0 : State} {a1} (h0 : Kept s0 a0) : Kept s0 (State.secverRaise a0 a1) := by
  unfold State.secverRaise
  exact State.signed_kept h0 (fun _ f0_0 => (by
    lift_lets -underBinder
    extract_lets -descend u1
    clear_value u1
    exact Kept.ite (State.fail_kept f0_0) (Kept.ite (State.fail_kept f0_0) (State.done_kept (State.modOtp_kept f0_0)))))

theorem State.bootOnceCmd_kept {s0 a0 : State} {a1} (h0 : Kept s0 a0) : Kept s0 (State.bootOnceCmd a0 a1) := by
  unfold State.bootOnceCmd
  lift_lets -underBinder
  extract_lets -descend u0 u1 u2
  have k1 : Kept s0 u1 := State.done_kept h0
  clear_value u0 u1 u2
  exact Kept.ite (State.deviceReset_kept (Kept.upd k1)) (State.fail_kept h0)

theorem State.runCmd_kept {s0 a0 : State} {a1 a2} (h0 : Kept s0 a0) : Kept s0 (State.runCmd a0 a1 a2) := by
  unfold State.runCmd
  exact Kept.ite (State.done_kept h0) (Kept.ite (State.abortCmd_kept h0) (Kept.ite (State.nonceCmd_kept h0) (Kept.ite
      (State.bsLoad_kept h0) (Kept.ite (State.slotOpen_kept h0) (Kept.ite (State.slotWrite_kept h0) (Kept.ite
      (State.slotClose_kept h0) (Kept.ite (State.slotCommit_kept h0) (Kept.ite (State.slotErase_kept h0) (Kept.ite
      (State.deltaApply_kept h0) (Kept.ite (State.bayReady_kept h0) (Kept.ite (State.imageLoad_kept h0) (Kept.ite
      (State.keyProvision_kept h0) (Kept.ite (State.keyRevoke_kept h0) (Kept.ite (State.secverRaise_kept h0)
      (State.bootOnceCmd_kept h0)))))))))))))))

theorem State.checkCmd_kept {s0 a0 : State} {a1 a2 a3} (h0 : Kept s0 a0) : Kept s0 (State.checkCmd a0 a1 a2 a3) := by
  unfold State.checkCmd
  split
  · exact State.fail_kept h0
  · exact Kept.ite (State.fail_kept h0) (Kept.ite (State.fail_kept h0) (State.runCmd_kept h0))

theorem State.halvik_kept {s0 a0 : State} {a1 a2 a3} (h0 : Kept s0 a0) : Kept s0 (State.halvik a0 a1 a2 a3) := by
  unfold State.halvik
  lift_lets -underBinder
  extract_lets -descend u0 u1 u2 u3 u4 u5
  have k5 : ∀ (b0 : State) (_ : Kept s0 b0) (b1 : Nat), Kept s0 (u5 b0 b1) := fun _ f6_0 _ => State.pushCpl_kept f6_0
  clear_value u0 u1 u2 u3 u4 u5
  refine Kept.ite ?_ ?_
  · exact h0
  · refine Kept.ite ?_ ?_
    · exact k5 _ h0 _
    · split
      · exact k5 _ h0 _
      · exact State.pushCpl_kept h0
      · exact Kept.upd h0
      · lift_lets -underBinder
        extract_lets -descend u7
        clear_value u7
        exact State.checkCmd_kept (Kept.upd h0)

theorem State.request_kept {s0 a0 : State} {a1 a2 a3} (h0 : Kept s0 a0) : Kept s0 (State.request a0 a1 a2 a3) := by
  unfold State.request
  exact Kept.ite (State.halvik_kept h0) h0

theorem execQuery_kept {s0 : State} {a0} {a1 : State} (h1 : Kept s0 a1) : KeptH s0 (execQuery a0 a1) := by
  unfold execQuery
  exact KeptH.answer (State.request_kept h1)

theorem execHalvikAbort_kept {s0 : State} {a0} {a1 : State} (h1 : Kept s0 a1) : KeptH s0 (execHalvikAbort a0 a1) := by
  unfold execHalvikAbort
  exact KeptH.answer (State.request_kept h1)

theorem execNonce_kept {s0 : State} {a0} {a1 : State} (h1 : Kept s0 a1) : KeptH s0 (execNonce a0 a1) := by
  unfold execNonce
  exact KeptH.answer (State.request_kept h1)

theorem execBsLoad_kept {s0 : State} {a0} {a1 : State} (h1 : Kept s0 a1) : KeptH s0 (execBsLoad a0 a1) := by
  unfold execBsLoad
  exact KeptH.answer (State.request_kept h1)

theorem execSlotOpen_kept {s0 : State} {a0 a1} {a2 : State} (h2 : Kept s0 a2) : KeptH s0 (execSlotOpen a0 a1 a2) := by
  unfold execSlotOpen
  exact KeptH.answer (State.request_kept h2)

theorem execSlotWrite_kept {s0 : State} {a0 a1} {a2 : State} (h2 : Kept s0 a2) : KeptH s0 (execSlotWrite a0 a1 a2) := by
  unfold execSlotWrite
  exact KeptH.answer (State.request_kept h2)

theorem execSlotClose_kept {s0 : State} {a0 a1} {a2 : State} (h2 : Kept s0 a2) : KeptH s0 (execSlotClose a0 a1 a2) := by
  unfold execSlotClose
  exact KeptH.answer (State.request_kept h2)

theorem execSlotCommit_kept {s0 : State} {a0 a1} {a2 : State} (h2 : Kept s0 a2) : KeptH s0 (execSlotCommit a0 a1 a2) := by
  unfold execSlotCommit
  exact KeptH.answer (State.request_kept h2)

theorem execSlotErase_kept {s0 : State} {a0 a1} {a2 : State} (h2 : Kept s0 a2) : KeptH s0 (execSlotErase a0 a1 a2) := by
  unfold execSlotErase
  exact KeptH.answer (State.request_kept h2)

theorem execConfirmTimerExpiry_kept {s0 a0 : State} (h0 : Kept s0 a0) : KeptH s0 (execConfirmTimerExpiry a0) := by
  unfold execConfirmTimerExpiry
  exact KeptH.answer (Kept.ite (State.deviceReset_kept h0) h0)

theorem execDeltaApply_kept {s0 : State} {a0} {a1 : State} (h1 : Kept s0 a1) : KeptH s0 (execDeltaApply a0 a1) := by
  unfold execDeltaApply
  exact KeptH.answer (State.request_kept h1)

theorem State.resetMbxs_kept {s0 a0 : State} {a1} (h0 : Kept s0 a0) : Kept s0 (State.resetMbxs a0 a1) := by
  unfold State.resetMbxs
  exact State.forEach_kept (fun _ _ f0_1 => (by
    lift_lets -underBinder
    extract_lets -descend u1 u2 u3 u4 u5
    have k2 : Kept s0 u2 := Kept.ite (State.mbxClear_kept (State.mbxClear_kept f0_1)) f0_1
    have k4 : Kept s0 u4 := Kept.ite (Kept.same k2 rfl) k2
    have k5 : Kept s0 u5 := State.forEach_kept (fun _ _ f6_1 => Kept.ite (State.resetRegs_kept f6_1) f6_1) k4
    clear_value u1 u2 u3 u4 u5
    exact Kept.ite (State.showMbx_kept k5) k5)) h0

theorem State.leavePartner_kept {s0 a0 : State} {a1 a2 a3} (h0 : Kept s0 a0) : Kept s0 (State.leavePartner a0 a1 a2 a3) := by
  unfold State.leavePartner
  split
  · split
    · exact Kept.ite (State.finishDesc_kept h0) (State.modDesc_kept h0)
    · exact h0
  · exact h0

theorem State.resetEnd_kept {s0 a0 : State} {a1 a2 a3} (h0 : Kept s0 a0) : Kept s0 (State.resetEnd a0 a1 a2 a3) := by
  unfold State.resetEnd
  lift_lets -underBinder
  extract_lets -descend u0 u1 u2
  have k1 : Kept s0 u1 := foldl_kept h0 (fun _ f2_0 _ => State.quotaDown_kept f2_0)
  have k2 : Kept s0 u2 := State.resetRegs_kept (State.putEnd_kept k1)
  clear_value u0 u1 u2
  exact State.showEnd_kept k2

theorem State.resetQueues_kept {s0 a0 : State} {a1} (h0 : Kept s0 a0) : Kept s0 (State.resetQueues a0 a1) := by
  unfold State.resetQueues
  exact State.forEach_kept (fun _ _ f0_1 => State.forEach_kept (fun _ _ f1_1 => (by
    lift_lets -underBinder
    extract_lets -descend u2
    have k2 : Kept s0 u2 := Kept.ite (State.forEach_kept (fun _ _ f3_1 => State.leavePartner_kept f3_1) f1_1) f1_1
    clear_value u2
    exact Kept.ite (State.pairAll_kept (State.resetEnd_kept k2)) f1_1)) f0_1) h0

theorem State.swapPin_kept {s0 a0 : State} {a1 a2 a3 a4} (h0 : Kept s0 a0) : Kept s0 (State.swapPin a0 a1 a2 a3 a4) := by
  unfold State.swapPin
  lift_lets -underBinder
  extract_lets -descend u0
  clear_value u0
  split
  · exact Kept.ite (State.flag_kept (State.applyGpio_kept (State.setShadow_kept (State.setActive_kept (State.dropMoves_kept
        h0))))) h0
  · lift_lets -underBinder
    extract_lets -descend u2 u3
    have k3 : Kept s0 u3 := State.applyGpio_kept (State.put_kept h0)
    clear_value u2 u3
    exact Kept.ite h0 (Kept.ite (State.parkPin_kept (State.setShadow_kept (State.setActive_kept k3))) (State.setShadow_kept
        (State.movePin_kept k3)))

theorem State.swapEngine_kept {s0 a0 : State} {a1 a2 a3 a4} (h0 : Kept s0 a0) : Kept s0 (State.swapEngine a0 a1 a2 a3 a4) := by
  unfold State.swapEngine
  lift_lets -underBinder
  extract_lets -descend u0 u1 u2
  have k1 : Kept s0 u1 := State.applyEngine_kept h0
  clear_value u0 u1 u2
  exact Kept.ite (Kept.ite (State.modEngine_kept (State.engineRun_kept k1)) (Kept.ite k1 (State.put_kept k1))) (Kept.ite
      (State.put_kept (State.applyEngine_kept (State.imageStop_kept h0))) h0)

theorem State.install_kept {s0 a0 : State} {a1 a2 a3} (h0 : Kept s0 a0) : Kept s0 (State.install a0 a1 a2 a3) := by
  unfold State.install
  lift_lets -underBinder
  extract_lets -descend u0 u1 u2 u3 u4 u5 u6 u7 u8 u9 u10
  have k3 : Kept s0 u3 := State.forEach_kept (fun _ _ f4_1 => State.resetPeriph_kept f4_1) (State.resetMbxs_kept
      (State.resetQueues_kept h0))
  have k4 : Kept s0 u4 := State.applyBay_kept (Kept.upd k3)
  have k5 : Kept s0 u5 := State.applyMbx_kept k4
  have k6 : Kept s0 u6 := State.forEach_kept (fun _ _ f7_1 => State.applyBank_kept f7_1) k5
  have k7 : Kept s0 u7 := State.swapQdr_kept k6
  have k8 : Kept s0 u8 := State.forEach_kept (fun _ _ f9_1 => State.swapPin_kept f9_1) k7
  have k9 : Kept s0 u9 := State.forEach_kept (fun _ _ f10_1 => State.swapEngine_kept f10_1) k8
  have k10 : Kept s0 u10 := State.applyBitLevel_kept k9
  clear_value u0 u1 u2 u3 u4 u5 u6 u7 u8 u9 u10
  exact State.forEach_kept (fun _ _ f11_1 => State.drvInit_kept f11_1) k10

theorem State.retarget_kept {s0 a0 : State} {a1 a2 a3 a4} (h0 : Kept s0 a0) : Kept s0 (State.retarget a0 a1 a2 a3 a4) := by
  unfold State.retarget
  lift_lets -underBinder
  extract_lets -descend u0 u1 u2
  have k1 : Kept s0 u1 := Kept.ite (State.enterReset_kept h0) h0
  have k2 : Kept s0 u2 := State.install_kept k1
  clear_value u0 u1 u2
  exact Kept.ite (State.put_kept k2) k2

theorem execDeltaSwap_kept {s0 a0 : State} (h0 : Kept s0 a0) : KeptH s0 (execDeltaSwap a0) := by
  unfold execDeltaSwap
  exact KeptH.answer (by
    split
    · exact h0
    · lift_lets -underBinder
      extract_lets -descend u1 u2 u3
      have k1 : Kept s0 u1 := State.flag_kept (State.modDelta_kept h0)
      have k3 : Kept s0 u3 := Kept.upd k1
      clear_value u1 u2 u3
      exact Kept.ite h0 (State.kickLoads_kept (State.retarget_kept k3)))

theorem execDeltaCommit_kept {s0 a0 : State} (h0 : Kept s0 a0) : KeptH s0 (execDeltaCommit a0) := by
  unfold execDeltaCommit
  exact KeptH.answer (by
    split
    · exact h0
    · exact Kept.ite (State.deltaCommit_kept h0) h0)

theorem State.dropL2_kept {s0 a0 : State} {a1} (h0 : Kept s0 a0) : Kept s0 (State.dropL2 a0 a1) := by
  unfold State.dropL2
  lift_lets -underBinder
  extract_lets -descend u0 u1
  have k0 : Kept s0 u0 := State.forEach_kept (fun _ _ f1_1 => State.putBytes_kept f1_1) h0
  clear_value u0 u1
  exact Kept.upd k0

theorem State.resetCores_kept {s0 a0 : State} {a1} (h0 : Kept s0 a0) : Kept s0 (State.resetCores a0 a1) := by
  unfold State.resetCores
  exact State.forEach_kept (fun _ _ f0_1 => State.modCore_kept f0_1) h0

theorem State.resetPeriphs_kept {s0 a0 : State} {a1} (h0 : Kept s0 a0) : Kept s0 (State.resetPeriphs a0 a1) := by
  unfold State.resetPeriphs
  exact State.forEach_kept (fun _ _ f0_1 => State.resetPeriph_kept f0_1) h0

theorem State.endRowTest_kept {s0 a0 : State} {a1} (h0 : Kept s0 a0) : Kept s0 (State.endRowTest a0 a1) := by
  unfold State.endRowTest
  split
  · exact Kept.ite (State.walkOn_kept (State.setTest_kept h0)) h0
  · exact h0

theorem State.resetPages_kept {s0 a0 : State} {a1} (h0 : Kept s0 a0) : Kept s0 (State.resetPages a0 a1) := by
  unfold State.resetPages
  lift_lets -underBinder
  extract_lets -descend u0 u1 u2 u3 u4 u5 u6 u7
  have k0 : Kept s0 u0 := State.putWord_kept (State.putWord_kept (State.putWord_kept h0))
  have k1 : Kept s0 u1 := State.putWord_kept (State.putWord_kept k0)
  have k2 : Kept s0 u2 := State.putWord_kept (State.putWord_kept (State.putWord_kept k1))
  have k4 : Kept s0 u4 := State.showNote_kept (Kept.upd k2)
  have k5 : Kept s0 u5 := Kept.ite (State.resetRegs_kept k4) k4
  have k6 : Kept s0 u6 := State.resetRegs_kept k5
  have k7 : Kept s0 u7 := State.resetRegs_kept k6
  clear_value u0 u1 u2 u3 u4 u5 u6 u7
  exact State.clrB_kept k7

theorem State.dropOrigins_kept {s0 a0 : State} {a1} (h0 : Kept s0 a0) : Kept s0 (State.dropOrigins a0 a1) := by
  unfold State.dropOrigins
  lift_lets -underBinder
  extract_lets -descend u0 u1
  have k1 : Kept s0 u1 := Kept.upd h0
  clear_value u0 u1
  exact State.forEach_kept (fun _ _ f2_1 => State.modEngine_kept f2_1) k1

theorem State.resetEngines_kept {s0 a0 : State} {a1} (h0 : Kept s0 a0) : Kept s0 (State.resetEngines a0 a1) := by
  unfold State.resetEngines
  lift_lets -underBinder
  extract_lets -descend u0 u1 u2
  have k1 : Kept s0 u1 := State.forEach_kept (fun _ _ f2_1 => (by
    lift_lets -underBinder
    extract_lets -descend u3
    have k3 : Kept s0 u3 := Kept.ite f2_1 (State.put_kept (State.imageStop_kept f2_1))
    clear_value u3
    exact Kept.ite f2_1 (State.modEngine_kept k3))) h0
  clear_value u0 u1 u2
  exact Kept.upd k1

theorem State.resetBay_kept {s0 a0 : State} {a1} (h0 : Kept s0 a0) : Kept s0 (State.resetBay a0 a1) := by
  unfold State.resetBay
  lift_lets -underBinder
  extract_lets -descend u0 u1 u2
  have k0 : Kept s0 u0 := State.dropL2_kept (State.resetCores_kept (State.resetPeriphs_kept (State.resetMbxs_kept
      (State.resetQueues_kept h0))))
  have k1 : Kept s0 u1 := State.endRowTest_kept (State.resetPages_kept (State.dropOrigins_kept (State.resetEngines_kept k0)))
  clear_value u0 u1 u2
  exact Kept.upd k1

theorem execDeltaRollback_kept {s0 a0 : State} (h0 : Kept s0 a0) : KeptH s0 (execDeltaRollback a0) := by
  unfold execDeltaRollback
  exact KeptH.answer (by
    split
    · exact h0
    · lift_lets -underBinder
      extract_lets -descend u1 u2 u3 u4 u5 u6 u7 u8 u9
      have k3 : Kept s0 u3 := Kept.ite (State.resetBay_kept (State.enterReset_kept h0)) h0
      have k6 : Kept s0 u6 := Kept.upd k3
      have k7 : Kept s0 u7 := State.retarget_kept k6
      have k8 : Kept s0 u8 := Kept.ite (State.put_kept k7) k7
      have k9 : Kept s0 u9 := State.halvikDone_kept (State.report_kept k8)
      clear_value u1 u2 u3 u4 u5 u6 u7 u8 u9
      exact Kept.ite h0 (State.kickLoads_kept (State.runLater_kept (State.eligible_kept k9))))

theorem execDeltaDeferTimeout_kept {s0 a0 : State} (h0 : Kept s0 a0) : KeptH s0 (execDeltaDeferTimeout a0) := by
  unfold execDeltaDeferTimeout
  exact KeptH.answer (by
    split
    · exact h0
    · exact Kept.ite (State.deltaStop_kept h0) h0)

theorem execBayReady_kept {s0 : State} {a0} {a1 : State} (h1 : Kept s0 a1) : KeptH s0 (execBayReady a0 a1) := by
  unfold execBayReady
  exact KeptH.answer (State.request_kept h1)

theorem execImageLoad_kept {s0 : State} {a0} {a1 : State} (h1 : Kept s0 a1) : KeptH s0 (execImageLoad a0 a1) := by
  unfold execImageLoad
  exact KeptH.answer (State.request_kept h1)

theorem execKeyProvision_kept {s0 : State} {a0} {a1 : State} (h1 : Kept s0 a1) : KeptH s0 (execKeyProvision a0 a1) := by
  unfold execKeyProvision
  exact KeptH.answer (State.request_kept h1)

theorem execKeyRevoke_kept {s0 : State} {a0} {a1 : State} (h1 : Kept s0 a1) : KeptH s0 (execKeyRevoke a0 a1) := by
  unfold execKeyRevoke
  exact KeptH.answer (State.request_kept h1)

theorem execSecverRaise_kept {s0 : State} {a0} {a1 : State} (h1 : Kept s0 a1) : KeptH s0 (execSecverRaise a0 a1) := by
  unfold execSecverRaise
  exact KeptH.answer (State.request_kept h1)

theorem execBootOnce_kept {s0 : State} {a0} {a1 : State} (h1 : Kept s0 a1) : KeptH s0 (execBootOnce a0 a1) := by
  unfold execBootOnce
  exact KeptH.answer (State.request_kept h1)

theorem State.setTail_kept {s0 a0 : State} {a1 a2} (h0 : Kept s0 a0) : Kept s0 (State.setTail a0 a1 a2) := by
  unfold State.setTail
  lift_lets -underBinder
  extract_lets -descend u0
  have k0 : Kept s0 u0 := Kept.ite (State.put_kept h0) (State.modHost_kept h0)
  clear_value u0
  exact State.flushRing_kept k0

theorem execCplTail_kept {s0 : State} {a0 a1 a2} {a3 : State} (h3 : Kept s0 a3) : KeptH s0 (execCplTail a0 a1 a2 a3) := by
  unfold execCplTail
  exact KeptH.answer (State.act_kept h3 (fun _ f0_0 => State.setTail_kept f0_0))

theorem State.byBayPage_kept {s0 a0 : State} {a1 a2 a3} {a4 : State → State} (h0 : Kept s0 a0) (h4 : ∀ (b0 : State) (_ :
    Kept s0 b0), Kept s0 (a4 b0)) : Kept s0 (State.byBayPage a0 a1 a2 a3 a4) := by
  unfold State.byBayPage
  exact State.act_kept h0 h4

theorem State.bySelf_kept {s0 a0 : State} {a1 a2 a3} {a4 : State → State} (h0 : Kept s0 a0) (h4 : ∀ (b0 : State) (_ : Kept
    s0 b0), Kept s0 (a4 b0)) : Kept s0 (State.bySelf a0 a1 a2 a3 a4) := by
  unfold State.bySelf
  exact State.byBayPage_kept h0 (fun _ f0_0 => Kept.ite (h4 _ f0_0) f0_0)

theorem execSelfRst_kept {s0 : State} {a0 a1} {a2 : State} (h2 : Kept s0 a2) : KeptH s0 (execSelfRst a0 a1 a2) := by
  unfold execSelfRst
  exact KeptH.answer (State.bySelf_kept h2 (fun _ f0_0 => State.registerReset_kept f0_0))

theorem State.byBoss_kept {s0 a0 : State} {a1 a2 a3} {a4 : State → State} (h0 : Kept s0 a0) (h4 : ∀ (b0 : State) (_ : Kept
    s0 b0), Kept s0 (a4 b0)) : Kept s0 (State.byBoss a0 a1 a2 a3 a4) := by
  unfold State.byBoss
  exact State.byBayPage_kept h0 (fun _ f0_0 => Kept.ite (h4 _ f0_0) f0_0)

theorem execBayRst_kept {s0 : State} {a0 a1} {a2 : State} (h2 : Kept s0 a2) : KeptH s0 (execBayRst a0 a1 a2) := by
  unfold execBayRst
  exact KeptH.answer (State.byBoss_kept h2 (fun _ f0_0 => State.registerReset_kept f0_0))

theorem State.holdEngines_kept {s0 a0 : State} {a1} (h0 : Kept s0 a0) : Kept s0 (State.holdEngines a0 a1) := by
  unfold State.holdEngines
  exact State.forEach_kept (fun _ _ f0_1 => (by
    lift_lets -underBinder
    extract_lets -descend u1
    clear_value u1
    exact Kept.ite (State.clrB_kept (State.put_kept f0_1)) f0_1)) h0

theorem State.stopBay_kept {s0 a0 : State} {a1} (h0 : Kept s0 a0) : Kept s0 (State.stopBay a0 a1) := by
  unfold State.stopBay
  lift_lets -underBinder
  extract_lets -descend u0 u1
  have k0 : Kept s0 u0 := State.parkOutputs_kept (State.stopWdt_kept (State.put_kept h0))
  have k1 : Kept s0 u1 := State.forEach_kept (fun _ _ f2_1 => State.modCore_kept f2_1) k0
  clear_value u0 u1
  exact State.resetPeriphs_kept (State.holdEngines_kept k1)

theorem State.stop_kept {s0 a0 : State} {a1} (h0 : Kept s0 a0) : Kept s0 (State.stop a0 a1) := by
  unfold State.stop
  lift_lets -underBinder
  extract_lets -descend u0
  clear_value u0
  exact Kept.ite (State.stopBay_kept h0) (Kept.ite (Kept.upd h0) h0)

theorem execBayStop_kept {s0 : State} {a0 a1} {a2 : State} (h2 : Kept s0 a2) : KeptH s0 (execBayStop a0 a1 a2) := by
  unfold execBayStop
  exact KeptH.answer (State.byBoss_kept h2 (fun _ f0_0 => State.stop_kept f0_0))

theorem execBayStart_kept {s0 : State} {a0 a1} {a2 : State} (h2 : Kept s0 a2) : KeptH s0 (execBayStart a0 a1 a2) := by
  unfold execBayStart
  exact KeptH.answer (State.byBoss_kept h2 (fun _ f0_0 => Kept.ite (State.enterReset_kept f0_0) f0_0))

theorem execBayReset_kept {s0 : State} {a0} {a1 : State} (h1 : Kept s0 a1) : KeptH s0 (execBayReset a0 a1) := by
  unfold execBayReset
  exact KeptH.answer (Kept.ite (State.resetBay_kept h1) h1)

theorem State.zeroBanks_kept {s0 a0 : State} {a1} (h0 : Kept s0 a0) : Kept s0 (State.zeroBanks a0 a1) := by
  unfold State.zeroBanks
  exact State.forEach_kept (fun _ _ f0_1 => (by
    lift_lets -underBinder
    extract_lets -descend u1 u2
    have k1 : Kept s0 u1 := State.zeroMem_kept f0_1
    clear_value u1 u2
    exact Kept.upd k1)) h0

theorem State.zeroingEnd_kept {s0 a0 : State} {a1} (h0 : Kept s0 a0) : Kept s0 (State.zeroingEnd a0 a1) := by
  unfold State.zeroingEnd
  lift_lets -underBinder
  extract_lets -descend u0 u1 u2 u3
  have k0 : Kept s0 u0 := State.put_kept (State.zeroBanks_kept h0)
  have k2 : Kept s0 u2 := Kept.upd k0
  clear_value u0 u1 u2 u3
  exact Kept.ite (State.stopBay_kept (Kept.upd k2)) (State.loadKick_kept k2)

theorem execBankZeroingEnd_kept {s0 : State} {a0} {a1 : State} (h1 : Kept s0 a1) : KeptH s0 (execBankZeroingEnd a0 a1) := by
  unfold execBankZeroingEnd
  exact KeptH.answer (Kept.ite (State.zeroingEnd_kept h1) h1)

theorem State.wdtReset_kept {s0 a0 : State} {a1 a2 a3 a4} (h0 : Kept s0 a0) : Kept s0 (State.wdtReset a0 a1 a2 a3 a4) := by
  unfold State.wdtReset
  exact State.registerReset_kept (State.report_kept h0)

theorem State.wdtKick_kept {s0 a0 : State} {a1 a2 a3} (h0 : Kept s0 a0) : Kept s0 (State.wdtKick a0 a1 a2 a3) := by
  unfold State.wdtKick
  exact Kept.ite h0 (Kept.ite (Kept.ite h0 (State.startWdt_kept h0)) (State.wdtReset_kept h0))

theorem execWdtKick_kept {s0 : State} {a0 a1 a2} {a3 : State} (h3 : Kept s0 a3) : KeptH s0 (execWdtKick a0 a1 a2 a3) := by
  unfold execWdtKick
  exact KeptH.answer (State.byBayPage_kept h3 (fun _ f0_0 => State.wdtKick_kept f0_0))

theorem execWdtWarning_kept {s0 : State} {a0} {a1 : State} (h1 : Kept s0 a1) : KeptH s0 (execWdtWarning a0 a1) := by
  unfold execWdtWarning
  exact KeptH.answer (Kept.ite (State.flag_kept h1) h1)

theorem execWdtExpiry_kept {s0 : State} {a0} {a1 : State} (h1 : Kept s0 a1) : KeptH s0 (execWdtExpiry a0 a1) := by
  unfold execWdtExpiry
  exact KeptH.answer (Kept.ite (State.wdtReset_kept h1) h1)

theorem State.sirqLatch_kept {s0 a0 : State} {a1 a2} (h0 : Kept s0 a0) : Kept s0 (State.sirqLatch a0 a1 a2) := by
  unfold State.sirqLatch
  lift_lets -underBinder
  extract_lets -descend u0
  have k0 : Kept s0 u0 := State.irqTrs_kept (State.put_kept (State.put_kept h0))
  clear_value u0
  exact State.forEach_kept (fun _ _ f1_1 => State.flag_kept f1_1) k0

theorem State.sirqSend_kept {s0 a0 : State} {a1} (h0 : Kept s0 a0) : Kept s0 (State.sirqSend a0 a1) := by
  unfold State.sirqSend
  lift_lets -underBinder
  extract_lets -descend u0
  have k0 : Kept s0 u0 := State.forEach_kept (fun _ _ f1_1 => State.modHop_kept f1_1) h0
  clear_value u0
  exact State.trsAll_kept (State.sirqLatch_kept k0)

theorem stateOf_kept {s0 a0 : State} {a1} (h0 : Kept s0 a0) (h1 : KeptH s0 a1) : Kept s0 (stateOf a0 a1) := by
  unfold stateOf
  split
  · exact h1 _ rfl
  · exact h0

theorem State.corruptAna_kept {s0 a0 : State} {a1 a2 a3} (h0 : Kept s0 a0) : KeptO s0 (State.corruptAna a0 a1 a2 a3) := by
  unfold State.corruptAna
  exact KeptO.ite (KeptO.some (stateOf_kept h0 (execOvercurrentTrip_kept (stateOf_kept h0 (execOvercurrentTrip_kept h0)))))
      (KeptO.ite (KeptO.some (stateOf_kept h0 (execGateDriverFault_kept (stateOf_kept h0 (execGateDriverFault_kept h0)))))
      (KeptO.ite (KeptO.some (stateOf_kept h0 (execDesaturation_kept (stateOf_kept h0 (execDesaturation_kept h0)))))
      (KeptO.ite (KeptO.some (State.modDrv_kept h0)) (KeptO.ite (KeptO.some (State.modDrv_kept h0)) (KeptO.ite (KeptO.some
      (stateOf_kept h0 (execGateReadbackMismatch_kept h0))) (KeptO.ite (KeptO.some (State.modDrv_kept h0)) (KeptO.ite
      (KeptO.some (State.modAdc_kept h0)) (KeptO.ite (KeptO.some (State.modAdc_kept h0)) (KeptO.ite (KeptO.some
      (stateOf_kept h0 (execSdmSaturation_kept h0))) (KeptO.ite (KeptO.some (stateOf_kept h0 (execSdmStuck_kept h0)))
      (KeptO.ite (KeptO.some (State.modSup_kept h0)) (KeptO.ite (KeptO.some (State.modSup_kept h0)) (KeptO.ite (KeptO.some
      (State.modSup_kept h0)) (KeptO.ite (KeptO.some (State.modSup_kept h0)) KeptO.none))))))))))))))

theorem State.corruptFront_kept {s0 a0 : State} {a1 a2} (h0 : Kept s0 a0) : KeptO s0 (State.corruptFront a0 a1 a2) := by
  unfold State.corruptFront
  lift_lets -underBinder
  extract_lets -descend u0 u1
  have k1 : ∀ (b0 : Nat), Kept s0 (u1 b0) := fun _ => (by
    unfold u1
    lift_lets -underBinder
    extract_lets -descend u3
    clear_value u3
    exact State.modCap_kept h0)
  clear_value u0 u1
  exact KeptO.ite (KeptO.some (State.modClo_kept h0)) (KeptO.ite (KeptO.some (State.modCli_kept h0)) (KeptO.ite (KeptO.some
      (State.modClo_kept h0)) (KeptO.ite (KeptO.some (k1 _)) (KeptO.ite (KeptO.some (k1 _)) (KeptO.ite (KeptO.some
      (State.modCap_kept h0)) (KeptO.ite (KeptO.some (State.modCap_kept h0)) (KeptO.ite (KeptO.some (State.modFilm_kept
      h0)) (KeptO.ite (KeptO.some (State.modTag_kept h0)) (KeptO.ite (KeptO.some (State.modTag_kept h0)) KeptO.none)))))))))

theorem State.corruptCore_kept {s0 a0 : State} {a1 a2} (h0 : Kept s0 a0) : KeptO s0 (State.corruptCore a0 a1 a2) := by
  unfold State.corruptCore
  lift_lets -underBinder
  extract_lets -descend u0 u1
  have k1 : ∀ (b0 : Nat), Kept s0 (u1 b0) := fun _ => State.modEngine_kept h0
  clear_value u0 u1
  exact KeptO.ite (KeptO.some (State.modEngine_kept h0)) (KeptO.ite (KeptO.some (stateOf_kept h0 (execEngineTrap_kept
      (State.took_kept h0)))) (KeptO.ite (KeptO.some (State.putByte_kept h0)) (KeptO.ite (KeptO.some (k1 _)) (KeptO.ite
      (KeptO.some (by
    split
    · exact k1 _
    · exact h0)) (KeptO.ite (KeptO.some (State.report_kept h0)) (KeptO.ite (KeptO.some (stateOf_kept h0
          (execSteadyCounterMismatch_kept h0))) (KeptO.ite (KeptO.some (stateOf_kept h0 (execBlockLockLoss_kept h0)))
          (KeptO.ite (KeptO.some (State.modCan_kept (State.put_kept h0))) (KeptO.ite (KeptO.some (State.laneDown_kept h0))
          (KeptO.ite (KeptO.some (stateOf_kept h0 (execPinReadbackMismatch_kept h0))) KeptO.none))))))))))

theorem State.corrupt_kept {s0 a0 : State} {a1 a2} (h0 : Kept s0 a0) : KeptO s0 (State.corrupt a0 a1 a2) := by
  unfold State.corrupt
  lift_lets -underBinder
  extract_lets -descend u0 u1
  have k1 : Kept s0 u1 := Kept.upd h0
  clear_value u0 u1
  refine KeptO.ite ?_ ?_
  · exact KeptO.some (State.report_kept k1)
  · refine KeptO.ite ?_ ?_
    · exact KeptO.some k1
    · split
      · rename_i v2_0 e2
        have k2_0 := KeptO.of (State.corruptAna_kept k1) e2
        exact KeptO.some k2_0
      · split
        · rename_i v3_0 e3
          have k3_0 := KeptO.of (State.corruptFront_kept k1) e3
          exact KeptO.some k3_0
        · exact State.corruptCore_kept k1

theorem State.inject_kept {s0 a0 : State} {a1 a2 a3 a4 a5} (h0 : Kept s0 a0) : KeptP s0 (State.inject a0 a1 a2 a3 a4 a5) := by
  unfold State.inject
  lift_lets -underBinder
  extract_lets -descend u0 u1
  have k1 : Kept s0 u1 := Kept.upd h0
  clear_value u0 u1
  exact KeptP.ite (KeptP.mk h0) (KeptP.ite (KeptP.mk h0) (KeptP.ite (KeptP.mk h0) (KeptP.ite (KeptP.mk h0) (KeptP.ite
      (KeptP.mk h0) (KeptP.ite (KeptP.mk h0) (KeptP.ite (KeptP.mk (Kept.getD (State.corrupt_kept h0) h0)) (KeptP.mk
      (State.reportN_kept k1))))))))

theorem State.injGo_kept {s0 a0 : State} (h0 : Kept s0 a0) : Kept s0 (State.injGo a0) := by
  unfold State.injGo
  lift_lets -underBinder
  extract_lets -descend u0 u1
  have k0 : Kept s0 u0 := State.put_kept (State.put_kept h0)
  clear_value u0 u1
  split
  · rename_i v2_0 v2_1 e2
    have k2_0 := KeptP.of (State.inject_kept k0) e2
    exact Kept.ite (State.flag_kept (State.put_kept (State.put_kept k2_0))) (Kept.ite (State.flag_kept (State.put_kept
        k2_0)) k2_0)

theorem State.popNote_kept {s0 a0 : State} {a1} (h0 : Kept s0 a0) : Kept s0 (State.popNote a0 a1) := by
  unfold State.popNote
  lift_lets -underBinder
  extract_lets -descend u0
  clear_value u0
  exact State.showNote_kept (Kept.upd h0)

theorem State.modHif_kept {s0 a0 : State} {a1 : HifPart → HifPart} (h0 : Kept s0 a0) : Kept s0 (State.modHif a0 a1) := by
  unfold State.modHif
  exact Kept.upd h0

theorem State.pcieDdb_kept {s0 a0 : State} {a1} (h0 : Kept s0 a0) : Kept s0 (State.pcieDdb a0 a1) := by
  unfold State.pcieDdb
  exact State.raiseMsi_kept (State.modHif_kept h0)

theorem State.qspiCmd_kept {s0 a0 : State} {a1} (h0 : Kept s0 a0) : Kept s0 (State.qspiCmd a0 a1) := by
  unfold State.qspiCmd
  lift_lets -underBinder
  extract_lets -descend u0 u1 u2
  have k1 : Kept s0 u1 := State.put_kept (State.put_kept (State.put_kept h0))
  have k2 : Kept s0 u2 := State.put_kept k1
  clear_value u0 u1 u2
  exact Kept.ite (State.put_kept (State.flag_kept k2)) k2

theorem execEccWriteback_kept {s0 : State} {a0} {a1 : State} (h1 : Kept s0 a1) : KeptH s0 (execEccWriteback a0 a1) := by
  unfold execEccWriteback
  lift_lets -underBinder
  extract_lets -descend u0
  clear_value u0
  exact KeptH.answer (Kept.upd h1)

theorem State.retestBegin_kept {s0 a0 : State} {a1} (h0 : Kept s0 a0) : Kept s0 (State.retestBegin a0 a1) := by
  unfold State.retestBegin
  lift_lets -underBinder
  extract_lets -descend u0 u1 u2
  clear_value u0 u1 u2
  refine Kept.ite ?_ ?_
  · exact State.setTest_kept h0
  · refine Kept.ite ?_ ?_
    · exact Kept.upd h0
    · refine Kept.ite ?_ ?_
      · split
        · exact State.laneLost_kept h0
        · exact h0
      · exact Kept.ite (State.clrB_kept (State.put_kept h0)) h0

theorem execRetestStart_kept {s0 : State} {a0} {a1 : State} (h1 : Kept s0 a1) : KeptH s0 (execRetestStart a0 a1) := by
  unfold execRetestStart
  exact KeptH.answer (by
    split
    · exact h1
    · lift_lets -underBinder
      extract_lets -descend u1 u2
      have k2 : Kept s0 u2 := Kept.upd h1
      clear_value u1 u2
      exact Kept.ite h1 (State.showRetests_kept (State.retestBegin_kept k2)))

theorem State.nvmLost_kept {s0 a0 : State} {a1} (h0 : Kept s0 a0) : Kept s0 (State.nvmLost a0 a1) := by
  unfold State.nvmLost
  lift_lets -underBinder
  extract_lets -descend u0 u1
  clear_value u0 u1
  exact Kept.ite (State.setSlot_kept h0) (Kept.ite (State.setSlot_kept h0) (Kept.ite h0 (State.showNvm_kept
      (State.forEach_kept (fun _ _ f2_1 => (by
    lift_lets -underBinder
    extract_lets -descend u3
    clear_value u3
    exact State.setPage_kept f2_1)) h0))))

theorem State.retestAfter_kept {s0 a0 : State} {a1 a2} (h0 : Kept s0 a0) : Kept s0 (State.retestAfter a0 a1 a2) := by
  unfold State.retestAfter
  lift_lets -underBinder
  extract_lets -descend u0 u1 u2 u3 u4 u5 u6
  have k2 : Kept s0 u2 := Kept.ite (State.calLoad_kept h0) h0
  have k3 : Kept s0 u3 := Kept.ite (State.capOos_kept k2) k2
  have k4 : Kept s0 u4 := Kept.ite (State.modLane_kept k3) k3
  have k5 : Kept s0 u5 := State.imgView_kept k4
  clear_value u0 u1 u2 u3 u4 u5 u6
  exact Kept.ite (State.setTest_kept k4) (Kept.ite (Kept.ite (State.imgPassed_kept k4) k4) (Kept.ite (Kept.ite
      (State.modEngine_kept (State.setB_kept (State.put_kept k4))) k4) (Kept.ite (Kept.ite (State.lanePll_kept k4) k4)
      (Kept.ite (Kept.ite (State.flag_kept k4) k4) (Kept.ite (State.canVerdict_kept k4) (Kept.ite (Kept.ite k4
      (State.nvmLost_kept k4)) k4))))))

theorem execRetestEnd_kept {s0 : State} {a0 a1 a2 a3} {a4 : State} (h4 : Kept s0 a4) : KeptH s0 (execRetestEnd a0 a1 a2 a3
    a4) := by
  unfold execRetestEnd
  exact KeptH.answer (by
    split
    · exact h4
    · lift_lets -underBinder
      extract_lets -descend u1 u2 u3 u4 u5
      have k2 : Kept s0 u2 := Kept.upd h4
      have k5 : Kept s0 u5 := (by
    unfold u5
    refine Kept.ite ?_ ?_
    · refine Kept.ite ?_ ?_
      · exact k2
      · split
        · exact State.repairLane_kept k2
        · exact k2
    · exact State.retestAfter_kept (State.finishRetest_kept k2))
      clear_value u1 u2 u3 u4 u5
      exact State.kickLoads_kept (State.settleRetired_kept (State.showRetests_kept k5)))

theorem execRetestIntervalTimeout_kept {s0 : State} {a0} {a1 : State} (h1 : Kept s0 a1) : KeptH s0
    (execRetestIntervalTimeout a0 a1) := by
  unfold execRetestIntervalTimeout
  exact KeptH.answer (by
    split
    · exact h1
    · lift_lets -underBinder
      extract_lets -descend u1 u2 u3
      have k2 : Kept s0 u2 := Kept.upd h1
      have k3 : Kept s0 u3 := Kept.ite k2 (State.finishRetest_kept k2)
      clear_value u1 u2 u3
      exact Kept.ite h1 (State.showRetests_kept (Kept.ite (State.canVerdict_kept k3) k3)))

theorem execLogBucketRefill_kept {s0 a0 : State} (h0 : Kept s0 a0) : KeptH s0 (execLogBucketRefill a0) := by
  unfold execLogBucketRefill
  lift_lets -underBinder
  extract_lets -descend u0
  clear_value u0
  exact KeptH.answer (Kept.upd h0)

theorem execFltnNtfPop_kept {s0 : State} {a0 a1} {a2 : State} (h2 : Kept s0 a2) : KeptH s0 (execFltnNtfPop a0 a1 a2) := by
  unfold execFltnNtfPop
  exact KeptH.answer (State.act_kept h2 (fun _ f0_0 => State.popNote_kept f0_0))

theorem execFltInjGo_kept {s0 : State} {a0} {a1 : State} (h1 : Kept s0 a1) : KeptH s0 (execFltInjGo a0 a1) := by
  unfold execFltInjGo
  exact KeptH.answer (State.byBay0_kept h1 (fun _ f0_0 => State.injGo_kept f0_0))

theorem execRowTestStart_kept {s0 : State} {a0} {a1 : State} (h1 : Kept s0 a1) : KeptH s0 (execRowTestStart a0 a1) := by
  unfold execRowTestStart
  lift_lets -underBinder
  extract_lets -descend u0 u1
  clear_value u0 u1
  exact KeptH.answer (by
    refine Kept.ite ?_ ?_
    · exact h1
    · split
      · exact h1
      · lift_lets -underBinder
        extract_lets -descend u3 u4
        have k4 : Kept s0 u4 := State.setTest_kept (State.put_kept (State.put_kept h1))
        clear_value u3 u4
        exact State.forEach_kept (fun _ _ f5_1 => State.eccFound_kept f5_1) k4)

theorem execRowTestSwitchover_kept {s0 a0 : State} (h0 : Kept s0 a0) : KeptH s0 (execRowTestSwitchover a0) := by
  unfold execRowTestSwitchover
  exact KeptH.answer (by
    split
    · exact Kept.ite h0 (State.setTest_kept h0)
    · exact h0)

theorem execRowTestEnd_kept {s0 : State} {a0 a1} {a2 : State} (h2 : Kept s0 a2) : KeptH s0 (execRowTestEnd a0 a1 a2) := by
  unfold execRowTestEnd
  exact KeptH.answer (by
    split
    · lift_lets -underBinder
      extract_lets -descend u1 u2 u3 u4
      have k1 : Kept s0 u1 := State.lastErr_kept (State.setTest_kept h2)
      have k3 : Kept s0 u3 := State.report_kept k1
      have k4 : Kept s0 u4 := Kept.ite k3 (State.setTest_kept k3)
      clear_value u1 u2 u3 u4
      exact Kept.ite h2 (Kept.ite (State.walkOn_kept (State.setTest_kept h2)) (State.walkOn_kept k4))
    · exact h2)

theorem execVdtLaneTraining_kept {s0 : State} {a0 a1 a2} {a3 : State} (h3 : Kept s0 a3) : KeptH s0 (execVdtLaneTraining a0
    a1 a2 a3) := by
  unfold execVdtLaneTraining
  exact KeptH.answer (Kept.ite (State.laneTrain_kept h3) h3)

theorem execVdtLaneTimeout_kept {s0 : State} {a0} {a1 : State} (h1 : Kept s0 a1) : KeptH s0 (execVdtLaneTimeout a0 a1) := by
  unfold execVdtLaneTimeout
  lift_lets -underBinder
  extract_lets -descend u0 u1
  have k1 : Kept s0 u1 := State.laneDown_kept h1
  clear_value u0 u1
  exact KeptH.answer (Kept.ite h1 (Kept.ite k1 (State.modLane_kept k1)))

theorem execVdtLaneDown_kept {s0 : State} {a0} {a1 : State} (h1 : Kept s0 a1) : KeptH s0 (execVdtLaneDown a0 a1) := by
  unfold execVdtLaneDown
  exact KeptH.answer (Kept.ite (State.laneDown_kept h1) h1)

theorem execLinkRestart_kept {s0 : State} {a0 a1} {a2 : State} (h2 : Kept s0 a2) : KeptH s0 (execLinkRestart a0 a1 a2) := by
  unfold execLinkRestart
  exact KeptH.answer (Kept.ite (State.byOwner_kept h2 (fun _ f0_0 => State.laneDown_kept (State.laneDown_kept f0_0)))
      (State.byOwner_kept h2 (fun _ f0_0 => State.laneDown_kept (State.laneDown_kept f0_0))))

theorem State.trsTake_kept {s0 a0 : State} {a1 a2} {a3 : State → State} (h0 : Kept s0 a0) (h3 : ∀ (b0 : State) (_ : Kept s0
    b0), Kept s0 (a3 b0)) : Kept s0 (State.trsTake a0 a1 a2 a3) := by
  unfold State.trsTake
  refine Kept.ite ?_ ?_
  · exact h0
  · split
    · rename_i v0_0 e0
      have k0_0 := KeptP.of (State.hopTake_kept h0) e0
      exact k0_0
    · rename_i v0_0 e0
      have k0_0 := KeptP.of (State.hopTake_kept h0) e0
      exact h3 _ k0_0

theorem State.trsTo_kept {s0 a0 : State} {a1 a2 a3 a4 a5 a6} {a7 : State → State} (h0 : Kept s0 a0) (h7 : ∀ (b0 : State) (_
    : Kept s0 b0), Kept s0 (a7 b0)) : Kept s0 (State.trsTo a0 a1 a2 a3 a4 a5 a6 a7) := by
  unfold State.trsTo
  exact State.trsTake_kept h0 (fun _ f0_0 => Kept.ite (h7 _ f0_0) (State.trsSend_kept f0_0))

theorem State.eseqDone_kept {s0 a0 : State} {a1 a2} (h0 : Kept s0 a0) : Kept s0 (State.eseqDone a0 a1 a2) := by
  unfold State.eseqDone
  exact State.modTrs_kept h0

theorem State.coreDone_kept {s0 a0 : State} {a1 a2 a3} (h0 : Kept s0 a0) : Kept s0 (State.coreDone a0 a1 a2 a3) := by
  unfold State.coreDone
  lift_lets -underBinder
  extract_lets -descend u0 u1
  clear_value u0 u1
  exact State.modCore_kept h0

theorem State.qmgrBlocked_kept {s0 a0 : State} {a1} (h0 : Kept s0 a0) : Kept s0 (State.qmgrBlocked a0 a1) := by
  unfold State.qmgrBlocked
  split
  · exact Kept.ite h0 (State.barred_kept h0)
  · exact h0

theorem State.trsDone_kept {s0 a0 : State} {a1 a2 a3} (h0 : Kept s0 a0) : Kept s0 (State.trsDone a0 a1 a2 a3) := by
  unfold State.trsDone
  lift_lets -underBinder
  extract_lets -descend u0 u1
  have k0 : Kept s0 u0 := State.trsClose_kept h0
  have k1 : Kept s0 u1 := Kept.ite (State.inc_kept k0) k0
  clear_value u0 u1
  split
  · lift_lets -underBinder
    extract_lets -descend u3
    have k3 : Kept s0 u3 := Kept.ite k1 (State.reply_kept k1)
    clear_value u3
    refine Kept.ite ?_ ?_
    · split
      · exact State.coreDone_kept k3
      · exact k3
    · exact Kept.ite (State.blocked_kept k1) (State.busError_kept k1)
  · lift_lets -underBinder
    extract_lets -descend u3
    clear_value u3
    exact Kept.ite (Kept.ite (State.mbxTaken_kept k1) k1) (State.mbxRefused_kept k1)
  · exact k1
  · exact Kept.ite (State.qmgrAnswer_kept k1) (Kept.ite (State.qmgrAnswer_kept (State.qmgrBlocked_kept k1))
        (State.qmgrAnswer_kept k1))

theorem State.trsResponse_kept {s0 a0 : State} {a1 a2 a3 a4} (h0 : Kept s0 a0) : Kept s0 (State.trsResponse a0 a1 a2 a3 a4)
    := by
  unfold State.trsResponse
  split
  · exact State.trsBound_kept (State.trsKick_kept (State.trsDone_kept h0))
  · exact h0

theorem execTrsRdr_kept {s0 : State} {a0 a1 a2 a3 a4 a5 a6 a7} {a8 : State} (h8 : Kept s0 a8) : KeptH s0 (execTrsRdr a0 a1
    a2 a3 a4 a5 a6 a7 a8) := by
  unfold execTrsRdr
  lift_lets -underBinder
  extract_lets -descend u0
  clear_value u0
  exact KeptH.answer (State.trsTo_kept h8 (fun _ f1_0 => State.trsResponse_kept f1_0))

theorem execTrsRsp_kept {s0 : State} {a0 a1 a2 a3 a4 a5 a6} {a7 : State} (h7 : Kept s0 a7) : KeptH s0 (execTrsRsp a0 a1 a2
    a3 a4 a5 a6 a7) := by
  unfold execTrsRsp
  lift_lets -underBinder
  extract_lets -descend u0
  clear_value u0
  exact KeptH.answer (State.trsTo_kept h7 (fun _ f1_0 => State.trsResponse_kept f1_0))

theorem execTrsMsg_kept {s0 : State} {a0 a1 a2 a3 a4 a5 a6 a7 a8} {a9 : State} (h9 : Kept s0 a9) : KeptH s0 (execTrsMsg a0
    a1 a2 a3 a4 a5 a6 a7 a8 a9) := by
  unfold execTrsMsg
  lift_lets -underBinder
  extract_lets -descend u0
  clear_value u0
  exact KeptH.answer (State.trsTo_kept h9 (fun _ f1_0 => (by
    lift_lets -underBinder
    extract_lets -descend u2
    have k2 : Kept s0 u2 := State.eseqDone_kept f1_0
    clear_value u2
    refine Kept.ite ?_ ?_
    · exact State.trsAnswer_kept f1_0
    · split
      · exact Kept.ite (Kept.ite (State.trsHeld_kept (State.modVdt_kept k2)) (State.trsAnswer_kept k2))
            (State.trsAnswer_kept k2)
      · exact State.trsAnswer_kept k2)))

theorem execTrsDb_kept {s0 : State} {a0 a1 a2 a3 a4 a5 a6} {a7 : State} (h7 : Kept s0 a7) : KeptH s0 (execTrsDb a0 a1 a2 a3
    a4 a5 a6 a7) := by
  unfold execTrsDb
  lift_lets -underBinder
  extract_lets -descend u0
  clear_value u0
  exact KeptH.answer (State.trsTo_kept h7 (fun _ f1_0 => (by
    lift_lets -underBinder
    extract_lets -descend u2
    have k2 : Kept s0 u2 := State.eseqDone_kept f1_0
    clear_value u2
    refine Kept.ite ?_ ?_
    · exact State.trsAnswer_kept f1_0
    · split
      · lift_lets -underBinder
        extract_lets -descend u4
        have k4 : Kept s0 u4 := Kept.ite (State.modVdt_kept k2) (State.flag_kept k2)
        clear_value u4
        exact Kept.ite (Kept.ite (State.trsAnswer_kept k4) (State.trsAnswer_kept k2)) (State.trsAnswer_kept k2)
      · exact State.trsAnswer_kept k2)))

theorem execTrsIrq_kept {s0 : State} {a0 a1 a2 a3 a4 a5} {a6 : State} (h6 : Kept s0 a6) : KeptH s0 (execTrsIrq a0 a1 a2 a3
    a4 a5 a6) := by
  unfold execTrsIrq
  exact KeptH.answer (State.trsTo_kept h6 (fun _ f0_0 => (by
    split
    · exact Kept.ite (State.putB_kept f0_0) f0_0
    · exact f0_0)))

theorem execSirq_kept {s0 : State} {a0 a1 a2 a3} {a4 : State} (h4 : Kept s0 a4) : KeptH s0 (execSirq a0 a1 a2 a3 a4) := by
  unfold execSirq
  exact KeptH.answer (State.trsTake_kept h4 (fun _ f0_0 => Kept.ite f0_0 (State.trsAll_kept (State.sirqLatch_kept f0_0))))

theorem execTrsSirqSend_kept {s0 : State} {a0 a1} {a2 : State} (h2 : Kept s0 a2) : KeptH s0 (execTrsSirqSend a0 a1 a2) := by
  unfold execTrsSirqSend
  exact KeptH.answer (State.byOwner_kept h2 (fun _ f0_0 => State.sirqSend_kept f0_0))

theorem State.timeTaken_kept {s0 a0 : State} {a1 a2 a3 a4 a5} (h0 : Kept s0 a0) : Kept s0 (State.timeTaken a0 a1 a2 a3 a4
    a5) := by
  unfold State.timeTaken
  lift_lets -underBinder
  extract_lets -descend u0 u1 u2 u3 u4 u5
  have k4 : Kept s0 u4 := State.putI_kept h0
  have k5 : Kept s0 u5 := State.modTrs_kept k4
  clear_value u0 u1 u2 u3 u4 u5
  exact Kept.ite (State.setAligned_kept k5) (Kept.ite (State.setAligned_kept k5) k5)

theorem State.timeFrame_kept {s0 a0 : State} {a1 a2 a3 a4 a5 a6 a7 a8} (h0 : Kept s0 a0) : Kept s0 (State.timeFrame a0 a1
    a2 a3 a4 a5 a6 a7 a8) := by
  unfold State.timeFrame
  exact State.trsTake_kept h0 (fun _ f0_0 => (by
    lift_lets -underBinder
    extract_lets -descend u1 u2 u3
    have k1 : Kept s0 u1 := State.modTrs_kept f0_0
    have k3 : Kept s0 u3 := State.trsAll_kept k1
    clear_value u1 u2 u3
    exact Kept.ite f0_0 (Kept.ite (State.timeTaken_kept k3) k3)))

theorem State.applyAt_kept {s0 a0 : State} {a1} (h0 : Kept s0 a0) : Kept s0 (State.applyAt a0 a1) := by
  unfold State.applyAt
  split
  · exact h0
  · lift_lets -underBinder
    extract_lets -descend u1 u2 u3
    have k3 : Kept s0 u3 := Kept.upd h0
    clear_value u1 u2 u3
    exact State.setAligned_kept (State.applyEdge_kept k3)

theorem execTimeFrame_kept {s0 : State} {a0 a1 a2 a3 a4 a5 a6 a7} {a8 : State} (h8 : Kept s0 a8) : KeptH s0 (execTimeFrame
    a0 a1 a2 a3 a4 a5 a6 a7 a8) := by
  unfold execTimeFrame
  lift_lets -underBinder
  extract_lets -descend u0
  have k0 : Kept s0 u0 := State.tevTriggers_kept h8 (State.timeFrame_kept h8)
  clear_value u0
  exact KeptH.answer (by
    split
    · exact Kept.ite k0 (State.applyAt_kept k0)
    · exact k0)

theorem execTimeFrameSend_kept {s0 a0 : State} (h0 : Kept s0 a0) : KeptH s0 (execTimeFrameSend a0) := by
  unfold execTimeFrameSend
  exact KeptH.answer (Kept.ite (State.trsAll_kept h0) h0)

theorem State.stackFollow_kept {s0 a0 : State} {a1} (h0 : Kept s0 a0) : Kept s0 (State.stackFollow a0 a1) := by
  unfold State.stackFollow
  refine Kept.ite ?_ ?_
  · exact h0
  · refine Kept.ite ?_ ?_
    · exact State.setAdj_kept h0
    · split
      · lift_lets -underBinder
        extract_lets -descend u1 u2
        clear_value u1 u2
        exact State.submitCorr_kept h0
      · exact h0

theorem execStackTimeFollow_kept {s0 : State} {a0} {a1 : State} (h1 : Kept s0 a1) : KeptH s0 (execStackTimeFollow a0 a1) := by
  unfold execStackTimeFollow
  exact KeptH.answer (State.tevTriggers_kept h1 (State.stackFollow_kept h1))

theorem execTrsClaim_kept {s0 : State} {a0 a1 a2 a3 a4 a5 a6 a7 a8} {a9 : State} (h9 : Kept s0 a9) : KeptH s0 (execTrsClaim
    a0 a1 a2 a3 a4 a5 a6 a7 a8 a9) := by
  unfold execTrsClaim
  exact KeptH.answer (State.trsTo_kept h9 (fun _ f0_0 => (by
    lift_lets -underBinder
    extract_lets -descend u1 u2 u3
    have k2 : Kept s0 u2 := Kept.ite (State.modTrs_kept f0_0) f0_0
    have k3 : Kept s0 u3 := State.put_kept k2
    clear_value u1 u2 u3
    exact State.trsSend_kept k3)))

theorem execClaimRsp_kept {s0 : State} {a0 a1 a2 a3 a4 a5 a6 a7} {a8 : State} (h8 : Kept s0 a8) : KeptH s0 (execClaimRsp a0
    a1 a2 a3 a4 a5 a6 a7 a8) := by
  unfold execClaimRsp
  exact KeptH.answer (State.trsTo_kept h8 (fun _ f0_0 => (by
    lift_lets -underBinder
    extract_lets -descend u1
    have k1 : Kept s0 u1 := State.putB_kept f0_0
    clear_value u1
    exact Kept.ite k1 (State.report_kept (State.irqTrs_kept k1)))))

theorem State.hopSettle_kept {s0 a0 : State} {a1 a2} (h0 : Kept s0 a0) : Kept s0 (State.hopSettle a0 a1 a2) := by
  unfold State.hopSettle
  lift_lets -underBinder
  extract_lets -descend u0 u1 u2 u3
  have k1 : Kept s0 u1 := State.modHop_kept h0
  have k2 : Kept s0 u2 := State.modLane_kept k1
  have k3 : Kept s0 u3 := State.modTrs_kept k2
  clear_value u0 u1 u2 u3
  exact State.forEach_kept (fun _ _ f4_1 => (by
    lift_lets -underBinder
    extract_lets -descend u5 u6
    clear_value u5 u6
    exact Kept.ite (State.trsResponse_kept f4_1) (State.trsSend_kept f4_1))) k3

theorem execTrsRoute_kept {s0 : State} {a0 a1 a2 a3 a4 a5} {a6 : State} (h6 : Kept s0 a6) : KeptH s0 (execTrsRoute a0 a1 a2
    a3 a4 a5 a6) := by
  unfold execTrsRoute
  exact KeptH.answer (State.trsTake_kept h6 (fun _ f0_0 => (by
    lift_lets -underBinder
    extract_lets -descend u1
    have k1 : Kept s0 u1 := State.trsAll_kept f0_0
    clear_value u1
    exact Kept.ite f0_0 (Kept.ite k1 (Kept.ite (State.hopSettle_kept (State.hopLost_kept k1)) (State.applyRoutes_kept
        (State.modTrs_kept k1)))))))

theorem State.learnUid_kept {s0 a0 : State} {a1} (h0 : Kept s0 a0) : Kept s0 (State.learnUid a0 a1) := by
  unfold State.learnUid
  lift_lets -underBinder
  extract_lets -descend u0 u1
  have k0 : Kept s0 u0 := State.put_kept (State.put_kept h0)
  have k1 : Kept s0 u1 := State.flag_kept (State.flag_kept k0)
  clear_value u0 u1
  exact Kept.ite (State.modTrs_kept (State.put_kept k1)) (State.flag_kept h0)

theorem State.sendClaims_kept {s0 a0 : State} {a1} (h0 : Kept s0 a0) : Kept s0 (State.sendClaims a0 a1) := by
  unfold State.sendClaims
  lift_lets -underBinder
  extract_lets -descend u0
  clear_value u0
  exact State.forEach_kept (fun _ _ f1_1 => (by
    split
    · exact Kept.ite (State.trsSend_kept f1_1) f1_1
    · exact f1_1)) h0

theorem State.memberJoins_kept {s0 a0 : State} {a1} (h0 : Kept s0 a0) : Kept s0 (State.memberJoins a0 a1) := by
  unfold State.memberJoins
  lift_lets -underBinder
  extract_lets -descend u0 u1
  have k0 : Kept s0 u0 := State.irqTrs_kept (State.setB_kept h0)
  have k1 : Kept s0 u1 := State.setMaster_kept k0
  clear_value u0 u1
  exact Kept.ite h0 (Kept.ite (State.sendClaims_kept k1) k1)

theorem execTrsTopo_kept {s0 : State} {a0 a1 a2 a3 a4 a5 a6} {a7 : State} (h7 : Kept s0 a7) : KeptH s0 (execTrsTopo a0 a1
    a2 a3 a4 a5 a6 a7) := by
  unfold execTrsTopo
  exact KeptH.answer (State.trsTake_kept h7 (fun _ f0_0 => (by
    lift_lets -underBinder
    extract_lets -descend u1 u2 u3 u4 u5
    have k2 : Kept s0 u2 := State.learnUid_kept f0_0
    have k3 : Kept s0 u3 := Kept.ite (State.flag_kept (State.modTrs_kept k2)) k2
    have k4 : Kept s0 u4 := State.forEach_kept (fun _ _ f5_1 => Kept.ite (State.memberJoins_kept f5_1) f5_1) k3
    have k5 : Kept s0 u5 := Kept.ite (State.put_kept (State.put_kept k4)) k4
    clear_value u1 u2 u3 u4 u5
    exact Kept.ite f0_0 (Kept.ite k5 (State.trsAll_kept k5)))))

theorem State.noteDelay_kept {s0 a0 : State} {a1 a2} (h0 : Kept s0 a0) : Kept s0 (State.noteDelay a0 a1 a2) := by
  unfold State.noteDelay
  lift_lets -underBinder
  extract_lets -descend u0 u1 u2
  have k1 : Kept s0 u1 := State.modLane_kept h0
  have k2 : Kept s0 u2 := State.put_kept k1
  clear_value u0 u1 u2
  exact Kept.ite (State.report_kept (State.irqTrs_kept k2)) k2

theorem State.takePos_kept {s0 a0 : State} {a1 a2} (h0 : Kept s0 a0) : Kept s0 (State.takePos a0 a1 a2) := by
  unfold State.takePos
  lift_lets -underBinder
  extract_lets -descend u0 u1
  clear_value u0 u1
  exact Kept.ite h0 (State.memberJoins_kept (State.modTrs_kept (State.put_kept h0)))

theorem State.trsHbTaken_kept {s0 a0 : State} {a1 a2 a3} (h0 : Kept s0 a0) : Kept s0 (State.trsHbTaken a0 a1 a2 a3) := by
  unfold State.trsHbTaken
  lift_lets -underBinder
  extract_lets -descend u0 u1 u2 u3 u4 u5 u6 u7 u8 u9 u10 u11 u12
  have k3 : Kept s0 u3 := State.noteDelay_kept h0
  have k4 : Kept s0 u4 := State.modLane_kept k3
  have k5 : Kept s0 u5 := State.modTrs_kept k4
  have k6 : Kept s0 u6 := State.takePos_kept (State.learnUid_kept k5)
  have k7 : Kept s0 u7 := Kept.ite (State.flag_kept k6) k6
  have k9 : Kept s0 u9 := Kept.ite (State.modTrs_kept k7) k7
  have k10 : Kept s0 u10 := State.flag_kept k9
  have k12 : Kept s0 u12 := State.memberJoins_kept k10
  clear_value u0 u1 u2 u3 u4 u5 u6 u7 u8 u9 u10 u11 u12
  exact Kept.ite k7 (Kept.ite (State.trsAll_kept k12) k12)

theorem execTrsHb_kept {s0 : State} {a0 a1 a2} {a3 : State} (h3 : Kept s0 a3) : KeptH s0 (execTrsHb a0 a1 a2 a3) := by
  unfold execTrsHb
  exact KeptH.answer (Kept.ite (State.trsHbTaken_kept h3) h3)

theorem execHopLost_kept {s0 : State} {a0} {a1 : State} (h1 : Kept s0 a1) : KeptH s0 (execHopLost a0 a1) := by
  unfold execHopLost
  exact KeptH.answer (Kept.ite (State.hopLost_kept (State.addSat_kept h1)) h1)

theorem execRouteBreakTimeout_kept {s0 : State} {a0} {a1 : State} (h1 : Kept s0 a1) : KeptH s0 (execRouteBreakTimeout a0
    a1) := by
  unfold execRouteBreakTimeout
  exact KeptH.answer (Kept.ite (State.modTrs_kept (State.modLane_kept (State.modHop_kept h1))) h1)

theorem execTrsRequestTimeout_kept {s0 : State} {a0 a1} {a2 : State} (h2 : Kept s0 a2) : KeptH s0 (execTrsRequestTimeout a0
    a1 a2) := by
  unfold execTrsRequestTimeout
  exact KeptH.answer (by
    split
    · exact State.trsUnknown_kept h2
    · exact h2)

theorem State.formed_kept {s0 a0 : State} (h0 : Kept s0 a0) : Kept s0 (State.formed a0) := by
  unfold State.formed
  lift_lets -underBinder
  extract_lets -descend u0 u1 u2
  have k0 : Kept s0 u0 := State.modTrs_kept (State.flag_kept h0)
  have k1 : Kept s0 u1 := State.forEach_kept (fun _ _ f2_1 => State.memberLost_kept f2_1) k0
  have k2 : Kept s0 u2 := State.forEach_kept (fun _ _ f3_1 => State.sendClaims_kept f3_1) k1
  clear_value u0 u1 u2
  exact State.trsBound_kept k2

theorem execStackFormed_kept {s0 a0 : State} (h0 : Kept s0 a0) : KeptH s0 (execStackFormed a0) := by
  unfold execStackFormed
  exact KeptH.answer (Kept.ite (State.formed_kept h0) h0)

theorem State.frameBad_kept {s0 a0 : State} {a1 a2 a3} (h0 : Kept s0 a0) : Kept s0 (State.frameBad a0 a1 a2 a3) := by
  unfold State.frameBad
  lift_lets -underBinder
  extract_lets -descend u0
  have k0 : Kept s0 u0 := State.modHif_kept h0
  clear_value u0
  exact State.report_kept (State.flag_kept (State.inc_kept k0))

theorem State.frameGood_kept {s0 a0 : State} {a1} (h0 : Kept s0 a0) : Kept s0 (State.frameGood a0 a1) := by
  unfold State.frameGood
  lift_lets -underBinder
  extract_lets -descend u0
  have k0 : Kept s0 u0 := State.modHif_kept h0
  clear_value u0
  exact State.inc_kept k0

theorem State.frame_kept {s0 a0 : State} {a1 a2 a3} {a4 : State → State} (h0 : Kept s0 a0) (h4 : ∀ (b0 : State) (_ : Kept
    s0 b0), Kept s0 (a4 b0)) : Kept s0 (State.frame a0 a1 a2 a3 a4) := by
  unfold State.frame
  lift_lets -underBinder
  extract_lets -descend u0 u1
  have k1 : Kept s0 u1 := State.frameBad_kept h0
  clear_value u0 u1
  exact Kept.ite h0 (Kept.ite (Kept.ite k1 (State.reply_kept k1)) (State.frameGood_kept (h4 _ h0)))

theorem State.stageWrite_kept {s0 a0 : State} {a1 a2} (h0 : Kept s0 a0) : Kept s0 (State.stageWrite a0 a1 a2) := by
  unfold State.stageWrite
  lift_lets -underBinder
  extract_lets -descend u0
  clear_value u0
  exact Kept.ite (State.blocked_kept h0) (State.writeBuf_kept h0)

theorem execStageWr_kept {s0 : State} {a0} {a1 : State} (h1 : Kept s0 a1) : KeptH s0 (execStageWr a0 a1) := by
  unfold execStageWr
  exact KeptH.answer (State.frame_kept h1 (fun _ f0_0 => State.stageWrite_kept f0_0))

theorem State.frameData_kept {s0 a0 : State} {a1} (h0 : Kept s0 a0) : Kept s0 (State.frameData a0 a1) := by
  unfold State.frameData
  exact State.reply_kept h0

theorem execStageRd_kept {s0 : State} {a0} {a1 : State} (h1 : Kept s0 a1) : KeptH s0 (execStageRd a0 a1) := by
  unfold execStageRd
  exact KeptH.answer (State.frame_kept h1 (fun _ f0_0 => Kept.ite (State.frameData_kept (State.poisonHit_kept f0_0))
      (State.frameData_kept f0_0)))

theorem execStatusRd_kept {s0 : State} {a0} {a1 : State} (h1 : Kept s0 a1) : KeptH s0 (execStatusRd a0 a1) := by
  unfold execStatusRd
  exact KeptH.answer (Kept.ite (State.frame_kept h1 (fun _ f0_0 => State.frameData_kept f0_0)) (State.frameData_kept h1))

theorem execCmdWr_kept {s0 : State} {a0 a1} {a2 : State} (h2 : Kept s0 a2) : KeptH s0 (execCmdWr a0 a1 a2) := by
  unfold execCmdWr
  exact KeptH.answer (State.frame_kept h2 (fun _ f0_0 => State.halvik_kept f0_0))

theorem execCplRd_kept {s0 : State} {a0} {a1 : State} (h1 : Kept s0 a1) : KeptH s0 (execCplRd a0 a1) := by
  unfold execCplRd
  exact KeptH.answer (State.frame_kept h1 (fun _ f0_0 => State.frameData_kept f0_0))

theorem execCplAck_kept {s0 : State} {a0} {a1 : State} (h1 : Kept s0 a1) : KeptH s0 (execCplAck a0 a1) := by
  unfold execCplAck
  exact KeptH.answer (State.frame_kept h1 (fun _ f0_0 => State.setTail_kept f0_0))

theorem execHdbWr_kept {s0 : State} {a0} {a1 : State} (h1 : Kept s0 a1) : KeptH s0 (execHdbWr a0 a1) := by
  unfold execHdbWr
  exact KeptH.answer (State.frame_kept h1 (fun _ f0_0 => State.flag_kept (State.put_kept f0_0)))

theorem execDdbRd_kept {s0 : State} {a0} {a1 : State} (h1 : Kept s0 a1) : KeptH s0 (execDdbRd a0 a1) := by
  unfold execDdbRd
  exact KeptH.answer (State.frame_kept h1 (fun _ f0_0 => State.frameData_kept (State.modHif_kept f0_0)))

theorem execHifSpiDdb_kept {s0 : State} {a0 a1} {a2 : State} (h2 : Kept s0 a2) : KeptH s0 (execHifSpiDdb a0 a1 a2) := by
  unfold execHifSpiDdb
  exact KeptH.answer (State.byOwner_kept h2 (fun _ f0_0 => State.modHif_kept f0_0))

theorem execBar0Hdb_kept {s0 : State} {a0} {a1 : State} (h1 : Kept s0 a1) : KeptH s0 (execBar0Hdb a0 a1) := by
  unfold execBar0Hdb
  exact KeptH.answer (Kept.ite (State.flag_kept (State.put_kept h1)) h1)

theorem execBar0Ddb_kept {s0 a0 : State} (h0 : Kept s0 a0) : KeptH s0 (execBar0Ddb a0) := by
  unfold execBar0Ddb
  exact KeptH.answer (Kept.ite (State.reply1_kept (State.modHif_kept h0)) h0)

theorem execPciePerst_kept {s0 a0 : State} (h0 : Kept s0 a0) : KeptH s0 (execPciePerst a0) := by
  unfold execPciePerst
  exact KeptH.answer (State.modHif_kept (State.flag_kept (State.pcieLink_kept h0)))

theorem execPcieLinkChange_kept {s0 : State} {a0 a1 a2 a3 a4 a5} {a6 : State} (h6 : Kept s0 a6) : KeptH s0
    (execPcieLinkChange a0 a1 a2 a3 a4 a5 a6) := by
  unfold execPcieLinkChange
  lift_lets -underBinder
  extract_lets -descend u0 u1
  have k1 : Kept s0 u1 := State.modHif_kept (State.flag_kept (State.pcieLink_kept h6))
  clear_value u0 u1
  exact KeptH.answer (Kept.ite h6 (Kept.ite (State.report_kept k1) k1))

theorem execPcieOutboundTimeout_kept {s0 : State} {a0 a1 a2} {a3 : State} (h3 : Kept s0 a3) : KeptH s0
    (execPcieOutboundTimeout a0 a1 a2 a3) := by
  unfold execPcieOutboundTimeout
  exact KeptH.answer (Kept.ite (State.busError_kept h3) h3)

theorem execHifQspiCmd_kept {s0 : State} {a0 a1} {a2 : State} (h2 : Kept s0 a2) : KeptH s0 (execHifQspiCmd a0 a1 a2) := by
  unfold execHifQspiCmd
  exact KeptH.answer (State.byOwner_kept h2 (fun _ f0_0 => State.qspiCmd_kept f0_0))

theorem putFlash_wf (l : List Byte) : ∀ {m : List Host.Cell} (a : Nat), SMap.wf 0xFF#8 m = true →
    SMap.wf 0xFF#8 (putFlash m a l) = true := by
  induction l with
  | nil => intro m a h; exact h
  | cons b t ih => intro m a h; exact ih (a + 1) (SMap.set_wf m a b h)

/-- QSPI_COMMAND_DONE alone changes the flash; it keeps the canonical form and the queue. -/
theorem execQspiCommandDone_canon {a0 a1 a2} {s t : State} (h : execQspiCommandDone a0 a1 a2 s = .next t) :
    (s.canon = true → t.canon = true) ∧ t.pending = s.pending := by
  have key : ∀ u : State, Kept s u → ∀ f, (SMap.wf 0xFF#8 u.flash = true → SMap.wf 0xFF#8 f = true) →
      (s.canon = true → ({ u with flash := f } : State).canon = true) ∧ ({ u with flash := f } : State).pending = s.pending := by
    intro u k f hf
    refine ⟨fun c => ?_, k.pending⟩
    have := k.canon c
    unfold State.canon at *
    simp only [Bool.and_eq_true] at this ⊢
    exact ⟨⟨⟨this.1.1.1, hf this.1.1.2⟩, this.1.2⟩, this.2⟩
  have no : ∀ u : State, Kept s u → (s.canon = true → u.canon = true) ∧ u.pending = s.pending := fun u k => ⟨k.canon, k.pending⟩
  have e := Host.Outcome.next.inj h
  subst e
  split
  · exact no _ (Kept.refl s)
  · have k : Kept s (((s.flag R.HIF_QSPI_STAT.BUSY false).put R.HIF_QSPI_STAT.STATUS 1).flag R.HIF_IRQ_PEND.QSPI_DONE true) :=
      State.flag_kept (State.put_kept (State.flag_kept (Kept.refl s)))
    extract_lets u
    split
    · exact key u k _ (fun h => putFlash_wf _ _ h)
    · exact no _ (State.forEach_kept (fun _ _ h => State.putWord_kept h) k)

theorem execLaneNotUpTimeout_kept {s0 : State} {a0} {a1 : State} (h1 : Kept s0 a1) : KeptH s0 (execLaneNotUpTimeout a0 a1) := by
  unfold execLaneNotUpTimeout
  exact KeptH.answer (Kept.ite (State.report_kept h1) h1)

theorem execConfigurationHoldTimeout_kept {s0 a0 : State} (h0 : Kept s0 a0) : KeptH s0 (execConfigurationHoldTimeout a0) := by
  unfold execConfigurationHoldTimeout
  exact KeptH.answer (by
    split
    · exact h0
    · lift_lets -underBinder
      extract_lets -descend u1
      have k1 : Kept s0 u1 := State.applyEdge_kept h0
      clear_value u1
      exact Kept.ite k1 (State.setAligned_kept k1))

theorem execBar2Access_kept {s0 : State} {a0 a1 a2 a3} {a4 : State} (h4 : Kept s0 a4) : KeptH s0 (execBar2Access a0 a1 a2
    a3 a4) := by
  unfold execBar2Access
  lift_lets -underBinder
  extract_lets -descend u0
  clear_value u0
  exact KeptH.answer (Kept.ite h4 (Kept.ite (State.stageWrite_kept h4) (State.frameData_kept h4)))

theorem execAlwaysOnSupplyValid_kept {s0 : State} {a0} {a1 : State} (h1 : Kept s0 a1) : KeptH s0 (execAlwaysOnSupplyValid
    a0 a1) := by
  unfold execAlwaysOnSupplyValid
  lift_lets -underBinder
  extract_lets -descend u0
  clear_value u0
  exact KeptH.answer (Kept.ite (Kept.ite (Kept.upd h1) h1) (State.powerOn_kept h1))

end Sys2Proof.Machine
end

