-- ==== Sys2Proof/Laws/KeptBus.lean ====
section
/-! SUPPORT.
Every operation keeps the canonical form, the queue and the flash: register accesses, the fabric, cores, debug and the clock edge. -/

namespace Sys2Proof.Machine

theorem State.coreTick_kept {s0 a0 : State} (h0 : Kept s0 a0) : Kept s0 (State.coreTick a0) := by
  unfold State.coreTick
  exact Kept.ite h0 (State.forEach_kept (fun _ _ f0_1 => State.modCore_kept f0_1) h0)

theorem State.sweepLoads_kept {s0 a0 : State} (h0 : Kept s0 a0) : Kept s0 (State.sweepLoads a0) := by
  unfold State.sweepLoads
  exact State.forEach_kept (fun _ _ f0_1 => State.imgCmdEnd_kept f0_1) h0

theorem State.tick_kept {s0 a0 : State} (h0 : Kept s0 a0) : Kept s0 (State.tick a0) := by
  unfold State.tick
  lift_lets -underBinder
  extract_lets -descend u0 u1 u2 u3 u4
  have k1 : Kept s0 u1 := State.timeTick_kept h0
  have k2 : Kept s0 u2 := State.forEach_kept (fun _ _ f3_1 => State.trimTick_kept f3_1) k1
  have k3 : Kept s0 u3 := State.coreTick_kept (State.dozeTick_kept (State.wdtTick_kept k2))
  have k4 : Kept s0 u4 := State.forEach_kept (fun _ _ f5_1 => State.testTick_kept (State.drvRail_kept f5_1))
      (State.capEdge_kept (State.supEdge_kept k3))
  clear_value u0 u1 u2 u3 u4
  exact Kept.ite k1 (Kept.ite k3 (State.settleRetired_kept (State.sweepLoads_kept (State.flushLp0_kept (State.trsKick_kept
      (State.forwardClaims_kept k4))))))

theorem State.triggerHit_kept {s0 a0 : State} {a1 a2} (h0 : Kept s0 a0) : Kept s0 (State.triggerHit a0 a1 a2) := by
  unfold State.triggerHit
  lift_lets -underBinder
  extract_lets -descend u0
  clear_value u0
  exact Kept.ite h0 (Kept.ite (State.haltHart_kept h0) (State.coreFault_kept h0))

theorem State.coreErr_kept {s0 a0 : State} {a1 a2} (h0 : Kept s0 a0) : KeptP s0 (State.coreErr a0 a1 a2) := by
  unfold State.coreErr
  lift_lets -underBinder
  extract_lets -descend u0
  clear_value u0
  split
  · exact KeptP.mk (State.report_kept h0)
  · exact KeptP.mk (State.report_kept h0)
  · exact KeptP.mk h0

theorem State.fetchBad_kept {s0 a0 : State} {a1 a2} (h0 : Kept s0 a0) : KeptO s0 (State.fetchBad a0 a1 a2) := by
  unfold State.fetchBad
  lift_lets -underBinder
  extract_lets -descend u0
  have k0 : ∀ (b0 : Nat), KeptO s0 (u0 b0) := fun _ => KeptO.some (State.barred_kept h0)
  clear_value u0
  split
  · exact KeptO.ite (k0 _) (KeptO.ite (KeptO.some (State.eccFound_kept h0)) KeptO.none)
  · exact KeptO.ite (KeptO.ite KeptO.none (KeptO.some h0)) (k0 _)
  · exact k0 _
  · exact k0 _
  · exact KeptO.some h0
  · exact KeptO.some h0
  · exact KeptO.some h0
  · exact KeptO.some h0
  · exact KeptO.some h0

theorem State.shutOut_kept {s0 a0 : State} {a1 a2} (h0 : Kept s0 a0) : KeptP s0 (State.shutOut a0 a1 a2) := by
  unfold State.shutOut
  exact KeptP.mk (Kept.ite h0 (State.barred_kept h0))

theorem State.eccAll_kept {s0 a0 : State} {a1 a2} (h0 : Kept s0 a0) : Kept s0 (State.eccAll a0 a1 a2) := by
  unfold State.eccAll
  exact State.forEach_kept (fun _ _ f0_1 => State.eccFound_kept f0_1) h0

theorem State.accRam_kept {s0 a0 : State} {a1 a2} (h0 : Kept s0 a0) : KeptP s0 (State.accRam a0 a1 a2) := by
  unfold State.accRam
  lift_lets -underBinder
  extract_lets -descend u0 u1 u2 u3
  have k3 : Kept s0 u3 := Kept.ite (State.eccAll_kept h0) h0
  clear_value u0 u1 u2 u3
  refine KeptP.ite ?_ ?_
  · exact State.shutOut_kept h0
  · refine KeptP.ite ?_ ?_
    · exact KeptP.mk (State.eccFound_kept k3)
    · refine KeptP.ite ?_ ?_
      · exact KeptP.mk k3
      · split
        · exact KeptP.mk (State.writeBuf_kept k3)
        · exact KeptP.mk k3

theorem State.accNvm_kept {s0 a0 : State} {a1 a2} (h0 : Kept s0 a0) : KeptP s0 (State.accNvm a0 a1 a2) := by
  unfold State.accNvm
  lift_lets -underBinder
  extract_lets -descend u0 u1
  have k1 : Kept s0 u1 := State.forEach_kept (fun _ _ f2_1 => State.report_kept f2_1) h0
  clear_value u0 u1
  exact KeptP.ite (State.shutOut_kept h0) (KeptP.ite (KeptP.mk h0) (KeptP.ite (KeptP.mk k1) (KeptP.mk k1)))

theorem State.accXip_kept {s0 a0 : State} {a1 a2} (h0 : Kept s0 a0) : KeptP s0 (State.accXip a0 a1 a2) := by
  unfold State.accXip
  exact KeptP.ite (State.shutOut_kept h0) (KeptP.ite (KeptP.mk h0) (KeptP.ite (KeptP.mk h0) (KeptP.mk h0)))

theorem State.writeRaw_kept {s0 a0 : State} {a1 a2 a3} (h0 : Kept s0 a0) : Kept s0 (State.writeRaw a0 a1 a2 a3) := by
  unfold State.writeRaw
  split
  · exact h0
  · exact Kept.regs h0 (fun h => SMap.set_wf _ _ _ h) rfl

theorem State.rawN_kept {s0 a0 : State} {a1 a2 a3} (h0 : Kept s0 a0) : Kept s0 (State.rawN a0 a1 a2 a3) := by
  unfold State.rawN
  exact State.writeRaw_kept h0

theorem State.writeSys_kept {s0 a0 : State} {a1 a2} (h0 : Kept s0 a0) : Kept s0 (State.writeSys a0 a1 a2) := by
  unfold State.writeSys
  split
  · exact State.devRst_kept h0
  · exact State.pwrReq_kept h0
  · exact State.rawN_kept h0
  · exact State.rawN_kept h0

theorem State.claimPin_kept {s0 a0 : State} {a1 a2} (h0 : Kept s0 a0) : Kept s0 (State.claimPin a0 a1 a2) := by
  unfold State.claimPin
  lift_lets -underBinder
  extract_lets -descend u0 u1 u2
  clear_value u0 u1 u2
  exact Kept.ite h0 (State.commitPin_kept h0)

theorem State.writePin_kept {s0 a0 : State} {a1 a2 a3} (h0 : Kept s0 a0) : Kept s0 (State.writePin a0 a1 a2 a3) := by
  unfold State.writePin
  lift_lets -underBinder
  extract_lets -descend u0 u1 u2 u3 u4
  have k2 : Kept s0 u2 := State.setShadow_kept h0
  have k4 : Kept s0 u4 := Kept.ite (State.put_kept h0) h0
  clear_value u0 u1 u2 u3 u4
  exact Kept.ite (Kept.ite h0 (Kept.ite (State.claimPin_kept k2) k2)) (Kept.ite (Kept.ite (State.commitBay_kept k4) k4)
      (Kept.ite (State.rawN_kept h0) h0))

theorem State.bayCtrl_kept {s0 a0 : State} {a1 a2 a3} (h0 : Kept s0 a0) : Kept s0 (State.bayCtrl a0 a1 a2 a3) := by
  unfold State.bayCtrl
  lift_lets -underBinder
  extract_lets -descend u0 u1 u2 u3
  have k1 : Kept s0 u1 := Kept.ite (State.enterReset_kept h0) h0
  have k2 : Kept s0 u2 := Kept.ite (State.registerReset_kept k1) k1
  have k3 : Kept s0 u3 := Kept.ite (State.registerReset_kept k2) k2
  clear_value u0 u1 u2 u3
  exact Kept.ite (State.stop_kept k3) k3

theorem State.clearViol_kept {s0 a0 : State} {a1} (h0 : Kept s0 a0) : Kept s0 (State.clearViol a0 a1) := by
  unfold State.clearViol
  exact State.putWord_kept (State.putWord_kept (State.putWord_kept h0))

theorem State.writeBay_kept {s0 a0 : State} {a1 a2 a3} (h0 : Kept s0 a0) : Kept s0 (State.writeBay a0 a1 a2 a3) := by
  unfold State.writeBay
  lift_lets -underBinder
  extract_lets -descend u0 u1
  clear_value u0 u1
  refine Kept.ite ?_ ?_
  · exact State.rawN_kept h0
  · split
    · exact State.bayCtrl_kept h0
    · exact State.wdtKick_kept h0
    · exact Kept.ite (State.clearViol_kept h0) h0
    · exact State.rawN_kept h0
    · exact State.rawN_kept h0
    · exact State.rawN_kept h0
    · exact State.rawN_kept h0

theorem State.writeMbx_kept {s0 a0 : State} {a1 a2} (h0 : Kept s0 a0) : Kept s0 (State.writeMbx a0 a1 a2) := by
  unfold State.writeMbx
  lift_lets -underBinder
  extract_lets -descend u0 u1 u2
  clear_value u0 u1 u2
  refine Kept.ite ?_ ?_
  · exact h0
  · split
    · exact State.mbxPut_kept h0
    · exact State.linksBound_kept (State.mbxPut_kept h0)
    · lift_lets -underBinder
      extract_lets -descend u4
      have k4 : Kept s0 u4 := Kept.ite (State.linksBound_kept (State.mbxBell_kept h0)) h0
      clear_value u4
      exact Kept.ite (State.mbxRecall_kept k4) k4
    · exact State.rawN_kept h0

theorem State.writeQmgr_kept {s0 a0 : State} {a1 a2} (h0 : Kept s0 a0) : Kept s0 (State.writeQmgr a0 a1 a2) := by
  unfold State.writeQmgr
  lift_lets -underBinder
  extract_lets -descend u0 u1 u2
  clear_value u0 u1 u2
  refine Kept.ite ?_ ?_
  · exact h0
  · split
    · exact State.endEn_kept (State.rawN_kept h0)
    · exact State.postTo_kept h0
    · exact Kept.ite (State.abortIdx_kept h0) h0
    · exact State.rawN_kept h0

theorem State.writeTime_kept {s0 a0 : State} {a1 a2 a3} (h0 : Kept s0 a0) : Kept s0 (State.writeTime a0 a1 a2 a3) := by
  unfold State.writeTime
  lift_lets -underBinder
  extract_lets -descend u0 u1
  clear_value u0 u1
  refine Kept.ite ?_ ?_
  · split
    · exact State.rawN_kept h0
    · exact State.setAdj_kept h0
    · lift_lets -underBinder
      extract_lets -descend u3
      have k3 : Kept s0 u3 := State.rawN_kept h0
      clear_value u3
      exact State.tevTriggers_kept k3 (State.submitCorr_kept k3)
    · exact Kept.ite (State.tevTriggers_kept h0 (State.timeCmd_kept h0)) h0
    · exact State.rawN_kept h0
  · refine Kept.ite ?_ ?_
    · split
      · lift_lets -underBinder
        extract_lets -descend u3
        have k3 : Kept s0 u3 := State.rawN_kept h0
        clear_value u3
        exact Kept.ite k3 (State.tevEn_kept k3)
      · exact State.tevArm_kept h0
      · exact State.rawN_kept h0
    · exact State.rawN_kept h0

theorem State.writeQdr_kept {s0 a0 : State} {a1 a2 a3} (h0 : Kept s0 a0) : Kept s0 (State.writeQdr a0 a1 a2 a3) := by
  unfold State.writeQdr
  lift_lets -underBinder
  extract_lets -descend u0 u1 u2
  clear_value u0 u1 u2
  split
  · exact Kept.ite (State.rawN_kept h0) h0
  · exact Kept.ite (State.trimReq_kept h0) h0
  · exact Kept.ite (State.rawN_kept h0) h0
  · exact State.rawN_kept h0

theorem State.writeEth_kept {s0 a0 : State} {a1 a2 a3} (h0 : Kept s0 a0) : Kept s0 (State.writeEth a0 a1 a2 a3) := by
  unfold State.writeEth
  lift_lets -underBinder
  extract_lets -descend u0 u1 u2
  have k1 : Kept s0 u1 := State.rawN_kept h0
  have k2 : Kept s0 u2 := State.rawN_kept h0
  clear_value u0 u1 u2
  exact Kept.ite (Kept.ite k1 (State.ethEn_kept k1)) (Kept.ite (Kept.ite (State.mdioGo_kept h0) (State.rawN_kept h0))
      (Kept.ite (Kept.ite (State.ethLink_kept k2) k2) (Kept.ite (State.rawN_kept h0) (Kept.ite (State.rawN_kept
      (State.ethCredits_kept h0)) (State.rawN_kept h0)))))

theorem State.writeCan_kept {s0 a0 : State} {a1 a2 a3} (h0 : Kept s0 a0) : Kept s0 (State.writeCan a0 a1 a2 a3) := by
  unfold State.writeCan
  lift_lets -underBinder
  extract_lets -descend u0 u1 u2 u3 u4 u5
  have k4 : Kept s0 u4 := State.rawN_kept h0
  have k5 : Kept s0 u5 := Kept.ite k4 (State.canEn_kept k4)
  clear_value u0 u1 u2 u3 u4 u5
  refine Kept.ite ?_ ?_
  · exact Kept.ite (State.canRecoverReq_kept k5) k5
  · refine Kept.ite ?_ ?_
    · exact h0
    · refine Kept.ite ?_ ?_
      · exact Kept.ite h0 (State.rawN_kept h0)
      · split
        · exact Kept.ite (State.canTscLatch_kept h0) h0
        · exact Kept.ite (State.canRxfPop_kept h0) h0
        · exact State.canTxreq_kept h0
        · exact State.canTxabort_kept h0
        · exact State.canFeed_kept (State.rawN_kept h0)
        · exact State.rawN_kept h0

theorem State.writeSer_kept {s0 a0 : State} {a1 a2 a3} (h0 : Kept s0 a0) : Kept s0 (State.writeSer a0 a1 a2 a3) := by
  unfold State.writeSer
  lift_lets -underBinder
  extract_lets -descend u0 u1
  clear_value u0 u1
  split
  · exact State.serKick_kept (State.showSer_kept (State.rawN_kept h0))
  · exact State.serTx_kept h0
  · exact State.serKick_kept (State.rawN_kept h0)
  · exact State.rawN_kept h0

theorem State.writeReel_kept {s0 a0 : State} {a1 a2} (h0 : Kept s0 a0) : Kept s0 (State.writeReel a0 a1 a2) := by
  unfold State.writeReel
  lift_lets -underBinder
  extract_lets -descend u0
  clear_value u0
  exact Kept.ite (Kept.ite (State.reelRestart_kept h0) h0) (State.rawN_kept h0)

theorem State.writeVdt_kept {s0 a0 : State} {a1 a2} (h0 : Kept s0 a0) : Kept s0 (State.writeVdt a0 a1 a2) := by
  unfold State.writeVdt
  lift_lets -underBinder
  extract_lets -descend u0 u1
  clear_value u0 u1
  refine Kept.ite ?_ ?_
  · split
    · lift_lets -underBinder
      extract_lets -descend u3
      have k3 : Kept s0 u3 := Kept.ite (State.selfFault_kept h0) h0
      clear_value u3
      exact Kept.ite (State.laneDown_kept (State.laneDown_kept k3)) k3
    · exact State.showOwn_kept (State.rawN_kept h0)
    · exact State.rawN_kept h0
  · split
    · lift_lets -underBinder
      extract_lets -descend u3 u4
      have k3 : Kept s0 u3 := State.rawN_kept h0
      have k4 : Kept s0 u4 := Kept.ite (State.handover_kept k3) k3
      clear_value u3 u4
      exact Kept.ite (State.takeOver_kept k4) k4
    · lift_lets -underBinder
      extract_lets -descend u3
      clear_value u3
      exact Kept.ite h0 (State.rawN_kept h0)
    · exact State.rawN_kept h0

theorem State.writeTrs_kept {s0 a0 : State} {a1 a2} (h0 : Kept s0 a0) : Kept s0 (State.writeTrs a0 a1 a2) := by
  unfold State.writeTrs
  lift_lets -underBinder
  extract_lets -descend u0
  clear_value u0
  refine Kept.ite ?_ ?_
  · split
    · exact Kept.ite (State.sirqSend_kept h0) h0
    · exact Kept.ite (State.laneDown_kept (State.laneDown_kept h0)) h0
    · exact State.rawN_kept h0
  · exact Kept.ite (State.rawN_kept h0) (State.rawN_kept h0)

theorem State.drvCmd_kept {s0 a0 : State} {a1 a2} (h0 : Kept s0 a0) : Kept s0 (State.drvCmd a0 a1 a2) := by
  unfold State.drvCmd
  split
  · exact State.drvStart_kept h0
  · exact State.drvStop_kept h0
  · exact State.drvCoast_kept h0
  · exact State.psetLoad_kept h0
  · exact h0

theorem State.writeDrv_kept {s0 a0 : State} {a1 a2 a3 a4} (h0 : Kept s0 a0) : Kept s0 (State.writeDrv a0 a1 a2 a3 a4) := by
  unfold State.writeDrv
  split
  · exact State.rawN_kept h0
  · exact State.rawN_kept h0
  · exact Kept.ite (State.drvCmd_kept h0) h0
  · lift_lets -underBinder
    extract_lets -descend u1
    have k1 : Kept s0 u1 := State.rawN_kept h0
    clear_value u1
    exact Kept.ite (State.tripClear_kept k1) k1
  · exact State.drvReady_kept (State.rawN_kept h0)

theorem State.writeAdc_kept {s0 a0 : State} {a1 a2 a3} (h0 : Kept s0 a0) : Kept s0 (State.writeAdc a0 a1 a2 a3) := by
  unfold State.writeAdc
  lift_lets -underBinder
  extract_lets -descend u0 u1 u2 u3 u4 u5 u6
  have k4 : Kept s0 u4 := State.showAdc_kept (State.rawN_kept h0)
  have k5 : Kept s0 u5 := Kept.ite (State.adcOff_kept k4) k4
  have k6 : Kept s0 u6 := State.rawN_kept h0
  clear_value u0 u1 u2 u3 u4 u5 u6
  exact Kept.ite (State.forEach_kept (fun _ _ f7_1 => State.drvReady_kept f7_1) k5) (Kept.ite (State.rawN_kept h0)
      (Kept.ite (Kept.ite (State.adcFlush_kept h0) h0) (Kept.ite (Kept.ite (State.seqGo_kept k6) k6) (State.rawN_kept h0))))

theorem State.writeSdm_kept {s0 a0 : State} {a1 a2 a3} (h0 : Kept s0 a0) : Kept s0 (State.writeSdm a0 a1 a2 a3) := by
  unfold State.writeSdm
  lift_lets -underBinder
  extract_lets -descend u0 u1
  clear_value u0 u1
  refine Kept.ite ?_ ?_
  · exact Kept.ite h0 (State.rawN_kept h0)
  · split
    · lift_lets -underBinder
      extract_lets -descend u3 u4 u5
      have k4 : Kept s0 u4 := State.rawN_kept h0
      have k5 : Kept s0 u5 := Kept.ite (State.modSdm_kept k4) (Kept.ite (State.sdmFlush_kept k4) k4)
      clear_value u3 u4 u5
      exact State.forEach_kept (fun _ _ f6_1 => State.drvReady_kept f6_1) (State.showSdmClk_kept k5)
    · exact State.rawN_kept h0
    · exact State.rawN_kept h0
    · exact Kept.ite (State.sdmFlush_kept h0) h0
    · exact State.rawN_kept h0

theorem State.writeSup_kept {s0 a0 : State} {a1 a2} (h0 : Kept s0 a0) : Kept s0 (State.writeSup a0 a1 a2) := by
  unfold State.writeSup
  split
  · lift_lets -underBinder
    extract_lets -descend u1 u2
    have k1 : Kept s0 u1 := State.rawN_kept h0
    have k2 : Kept s0 u2 := Kept.ite (State.learnReset_kept k1) k1
    clear_value u1 u2
    exact State.supInhibit_kept (State.supEn_kept k2)
  · exact State.supDetect_kept h0
  · exact State.rawN_kept h0

theorem State.writeClp_kept {s0 a0 : State} {a1 a2 a3} (h0 : Kept s0 a0) : Kept s0 (State.writeClp a0 a1 a2 a3) := by
  unfold State.writeClp
  lift_lets -underBinder
  extract_lets -descend u0 u1
  clear_value u0 u1
  refine Kept.ite ?_ ?_
  · split
    · lift_lets -underBinder
      extract_lets -descend u3
      have k3 : Kept s0 u3 := State.rawN_kept h0
      clear_value u3
      exact Kept.ite k3 (State.flag_kept (State.flag_kept k3))
    · exact State.rawN_kept h0
    · exact State.rawN_kept h0
  · exact Kept.ite (State.rawN_kept h0) (State.rawN_kept h0)

theorem State.writeCap_kept {s0 a0 : State} {a1 a2} (h0 : Kept s0 a0) : Kept s0 (State.writeCap a0 a1 a2) := by
  unfold State.writeCap
  split
  · lift_lets -underBinder
    extract_lets -descend u1 u2
    have k1 : Kept s0 u1 := State.capEn_kept h0
    have k2 : Kept s0 u2 := Kept.ite (State.recal_kept k1) k1
    clear_value u1 u2
    exact Kept.ite (State.calReload_kept k2) k2
  · exact State.capTempSw_kept h0
  · exact State.rawN_kept h0

theorem State.writeTag_kept {s0 a0 : State} {a1 a2 a3} (h0 : Kept s0 a0) : Kept s0 (State.writeTag a0 a1 a2 a3) := by
  unfold State.writeTag
  split
  · exact State.rawN_kept h0
  · exact Kept.ite (State.tagCmd_kept h0) h0
  · exact Kept.ite (State.tagAbort_kept h0) h0
  · exact State.rawN_kept h0
  · exact State.rawN_kept h0

theorem State.writeFlt_kept {s0 a0 : State} {a1 a2} (h0 : Kept s0 a0) : Kept s0 (State.writeFlt a0 a1 a2) := by
  unfold State.writeFlt
  lift_lets -underBinder
  extract_lets -descend u0
  clear_value u0
  exact Kept.ite (Kept.ite (State.injGo_kept h0) h0) (Kept.ite (Kept.ite (State.popNote_kept h0) h0) (State.rawN_kept h0))

theorem State.writeSec_kept {s0 a0 : State} {a1 a2} (h0 : Kept s0 a0) : Kept s0 (State.writeSec a0 a1 a2) := by
  unfold State.writeSec
  lift_lets -underBinder
  extract_lets -descend u0 u1
  clear_value u0 u1
  refine Kept.ite ?_ ?_
  · exact h0
  · split
    · exact Kept.ite (State.halvik_kept h0) h0
    · exact State.setTail_kept h0
    · exact State.rawN_kept h0

theorem State.writeHif_kept {s0 a0 : State} {a1 a2} (h0 : Kept s0 a0) : Kept s0 (State.writeHif a0 a1 a2) := by
  unfold State.writeHif
  split
  · exact Kept.ite (State.rawN_kept h0) h0
  · exact State.modHif_kept h0
  · exact State.pcieDdb_kept h0
  · lift_lets -underBinder
    extract_lets -descend u1
    have k1 : Kept s0 u1 := State.rawN_kept h0
    clear_value u1
    exact Kept.ite k1 (State.pcieLink_kept k1)
  · exact State.rawN_kept h0
  · exact State.qspiCmd_kept h0
  · exact State.rawN_kept h0

theorem State.writeGpio_kept {s0 a0 : State} {a1 a2 a3} (h0 : Kept s0 a0) : Kept s0 (State.writeGpio a0 a1 a2 a3) := by
  unfold State.writeGpio
  lift_lets -underBinder
  extract_lets -descend u0 u1 u2 u3 u4
  have k4 : Kept s0 u4 := State.rawN_kept h0
  clear_value u0 u1 u2 u3 u4
  refine Kept.ite ?_ ?_
  · split
    · exact State.gpioOut_kept h0
    · exact State.gpioOut_kept h0
    · exact State.gpioOut_kept h0
    · exact State.forEach_kept (fun _ _ f6_1 => Kept.ite f6_1 (State.driveGpio_kept f6_1)) (State.rawN_kept h0)
    · exact State.rawN_kept h0
    · exact h0
  · exact Kept.ite (Kept.ite (State.setB_kept k4) k4) (State.rawN_kept h0)

theorem State.regWrite_kept {s0 a0 : State} {a1 a2 a3} (h0 : Kept s0 a0) : Kept s0 (State.regWrite a0 a1 a2 a3) := by
  unfold State.regWrite
  lift_lets -underBinder
  extract_lets -descend u0
  clear_value u0
  split
  · exact State.writeSys_kept h0
  · exact State.writePin_kept h0
  · exact State.writeBay_kept h0
  · exact State.writeMbx_kept h0
  · exact State.writeQmgr_kept h0
  · exact State.writeTime_kept h0
  · exact State.writeQdr_kept h0
  · exact State.writeEth_kept h0
  · exact State.writeEth_kept h0
  · exact State.writeEth_kept h0
  · exact State.writeEth_kept h0
  · exact State.writeCan_kept h0
  · exact State.writeSer_kept h0
  · exact State.writeReel_kept h0
  · exact State.writeVdt_kept h0
  · exact State.writeTrs_kept h0
  · exact State.writeDrv_kept h0
  · exact State.writeDrv_kept h0
  · exact State.writeAdc_kept h0
  · exact State.writeSdm_kept h0
  · exact State.writeSup_kept h0
  · exact State.writeClp_kept h0
  · exact State.writeCap_kept h0
  · exact State.writeTag_kept h0
  · exact State.writeFlt_kept h0
  · exact State.writeSec_kept h0
  · exact State.writeHif_kept h0
  · exact Kept.ite (State.pgCmd_kept h0) (State.rawN_kept h0)
  · exact State.writeGpio_kept h0
  · exact State.rawN_kept h0

theorem State.readTakes_kept {s0 a0 : State} {a1 a2} (h0 : Kept s0 a0) : KeptO s0 (State.readTakes a0 a1 a2) := by
  unfold State.readTakes
  lift_lets -underBinder
  extract_lets -descend u0 u1 u2 u3 u4 u5
  clear_value u0 u1 u2 u3 u4 u5
  exact KeptO.ite (KeptO.ite KeptO.none (KeptO.some (State.mbxRead_kept h0))) (KeptO.ite (KeptO.some (State.latchTime_kept
      h0)) (KeptO.ite (KeptO.some (State.setTcap_kept (State.reply1_kept h0))) (KeptO.ite (KeptO.some (State.showPtp_kept
      (State.modEth_kept (State.reply_kept h0)))) (KeptO.ite (KeptO.some (State.showSer_kept (State.modSer_kept
      (State.reply_kept h0)))) KeptO.none))))

theorem State.readClears_kept {s0 a0 : State} {a1} (h0 : Kept s0 a0) : Kept s0 (State.readClears a0 a1) := by
  unfold State.readClears
  split
  · exact h0
  · exact Kept.regs h0 (fun h => SMap.set_wf _ _ _ h) rfl

theorem State.regRead_kept {s0 a0 : State} {a1 a2} (h0 : Kept s0 a0) : Kept s0 (State.regRead a0 a1 a2) := by
  unfold State.regRead
  exact Kept.getD (State.readTakes_kept h0) (State.readClears_kept (State.reply_kept h0))

theorem State.accReg_kept {s0 a0 : State} {a1 a2} (h0 : Kept s0 a0) : KeptP s0 (State.accReg a0 a1 a2) := by
  unfold State.accReg
  refine KeptP.ite ?_ ?_
  · exact KeptP.mk h0
  · split
    · split
      · exact KeptP.mk (State.regWrite_kept h0)
      · lift_lets -underBinder
        extract_lets -descend u2
        have k2 : Kept s0 u2 := State.regRead_kept h0
        clear_value u2
        exact KeptP.mk k2
    · exact KeptP.mk h0
    · exact State.shutOut_kept h0
    · exact State.shutOut_kept h0

theorem State.accPcie_kept {s0 a0 : State} {a1} (h0 : Kept s0 a0) : KeptP s0 (State.accPcie a0 a1) := by
  unfold State.accPcie
  refine KeptP.ite ?_ ?_
  · exact State.shutOut_kept h0
  · refine KeptP.ite ?_ ?_
    · exact KeptP.mk h0
    · split
      · exact KeptP.mk h0
      · exact KeptP.mk h0

theorem State.accHere_kept {s0 a0 : State} {a1 a2} (h0 : Kept s0 a0) : KeptP s0 (State.accHere a0 a1 a2) := by
  unfold State.accHere
  refine KeptP.ite ?_ ?_
  · exact KeptP.mk h0
  · split
    · exact State.shutOut_kept h0
    · exact State.accRam_kept h0
    · exact State.accRam_kept h0
    · exact State.accNvm_kept h0
    · exact State.accXip_kept h0
    · exact State.accReg_kept h0
    · exact State.accPcie_kept h0
    · exact State.shutOut_kept h0
    · exact State.shutOut_kept h0

theorem State.accMember_kept {s0 a0 : State} {a1 a2} (h0 : Kept s0 a0) : KeptP s0 (State.accMember a0 a1 a2) := by
  unfold State.accMember
  lift_lets -underBinder
  extract_lets -descend u0 u1
  clear_value u0 u1
  refine KeptP.ite ?_ ?_
  · exact KeptP.mk h0
  · refine KeptP.ite ?_ ?_
    · split
      · exact State.accHere_kept h0
      · exact State.shutOut_kept h0
    · refine KeptP.ite ?_ ?_
      · exact KeptP.mk h0
      · refine KeptP.ite ?_ ?_
        · exact KeptP.mk (State.inc_kept h0)
        · split
          · exact KeptP.mk (State.trsRequest_kept h0)
          · exact KeptP.mk (State.trsRequest_kept h0)

theorem State.access_kept {s0 a0 : State} {a1} (h0 : Kept s0 a0) : KeptP s0 (State.access a0 a1) := by
  unfold State.access
  split
  · exact State.accMember_kept h0
  · exact State.accHere_kept h0

theorem State.coreLoad_kept {s0 a0 : State} {a1 a2 a3 a4 a5 a6 a7} (h0 : Kept s0 a0) : KeptP s0 (State.coreLoad a0 a1 a2 a3
    a4 a5 a6 a7) := by
  unfold State.coreLoad
  lift_lets -underBinder
  extract_lets -descend u0
  clear_value u0
  refine KeptP.ite ?_ ?_
  · exact KeptP.mk h0
  · split
    · rename_i v1_0 v1_1 e1
      have k1_0 := KeptP.of (State.access_kept h0) e1
      exact KeptP.mk (State.modCore_kept k1_0)
    · rename_i v1_0 e1
      have k1_0 := KeptP.of (State.access_kept h0) e1
      exact KeptP.mk k1_0
    · rename_i v1_0 v1_1 e1
      have k1_0 := KeptP.of (State.access_kept h0) e1
      exact KeptP.mk k1_0

theorem State.dirtied_kept {s0 a0 a1 : State} {a2 a3} (h0 : Kept s0 a0) (h1 : Kept s0 a1) : Kept s0 (State.dirtied a0 a1 a2
    a3) := by
  unfold State.dirtied
  lift_lets -underBinder
  extract_lets -descend u0 u1 u2
  clear_value u0 u1 u2
  exact Kept.ite h0 (Kept.upd h0)

theorem State.coreStore_kept {s0 a0 : State} {a1 a2 a3 a4 a5 a6} (h0 : Kept s0 a0) : KeptP s0 (State.coreStore a0 a1 a2 a3
    a4 a5 a6) := by
  unfold State.coreStore
  lift_lets -underBinder
  extract_lets -descend u0
  clear_value u0
  refine KeptP.ite ?_ ?_
  · exact KeptP.mk h0
  · split
    · rename_i v1_0 v1_1 e1
      have k1_0 := KeptP.of (State.access_kept h0) e1
      exact KeptP.mk (State.dirtied_kept k1_0 h0)
    · rename_i v1_0 e1
      have k1_0 := KeptP.of (State.access_kept h0) e1
      exact KeptP.mk k1_0
    · rename_i v1_0 v1_1 e1
      have k1_0 := KeptP.of (State.access_kept h0) e1
      exact KeptP.mk k1_0

theorem State.coreLr_kept {s0 a0 : State} {a1 a2 a3 a4 a5 a6} (h0 : Kept s0 a0) : KeptP s0 (State.coreLr a0 a1 a2 a3 a4 a5
    a6) := by
  unfold State.coreLr
  refine KeptP.ite ?_ ?_
  · exact KeptP.mk h0
  · refine KeptP.ite ?_ ?_
    · exact KeptP.mk h0
    · split
      · rename_i v0_0 e0
        have k0_0 := KeptP.of (State.coreLoad_kept h0) e0
        exact KeptP.mk (State.modCore_kept k0_0)
      · rename_i v0_0 e0
        exact State.coreLoad_kept h0

theorem State.coreSc_kept {s0 a0 : State} {a1 a2 a3 a4 a5 a6 a7} (h0 : Kept s0 a0) : KeptP s0 (State.coreSc a0 a1 a2 a3 a4
    a5 a6 a7) := by
  unfold State.coreSc
  lift_lets -underBinder
  extract_lets -descend u0 u1
  have k1 : Kept s0 u1 := State.modCore_kept h0
  clear_value u0 u1
  refine KeptP.ite ?_ ?_
  · exact KeptP.mk h0
  · refine KeptP.ite ?_ ?_
    · exact KeptP.mk h0
    · refine KeptP.ite ?_ ?_
      · split
        · rename_i v2_0 e2
          have k2_0 := KeptP.of (State.coreStore_kept k1) e2
          exact KeptP.mk (State.modCore_kept k2_0)
        · rename_i v2_0 e2
          exact State.coreStore_kept k1
      · exact KeptP.mk (State.modCore_kept k1)

theorem State.coreAmo_kept {s0 a0 : State} {a1 a2 a3 a4 a5 a6 a7 a8} (h0 : Kept s0 a0) : KeptP s0 (State.coreAmo a0 a1 a2
    a3 a4 a5 a6 a7 a8) := by
  unfold State.coreAmo
  refine KeptP.ite ?_ ?_
  · exact KeptP.mk h0
  · refine KeptP.ite ?_ ?_
    · exact KeptP.mk h0
    · split
      · rename_i v0_0 v0_1 e0
        have k0_0 := KeptP.of (State.access_kept h0) e0
        lift_lets -underBinder
        extract_lets -descend u1
        clear_value u1
        split
        · rename_i v2_0 e2
          have k2_0 := KeptP.of (State.coreStore_kept k0_0) e2
          exact KeptP.mk (State.modCore_kept k2_0)
        · rename_i v2_0 e2
          exact State.coreStore_kept k0_0
      · rename_i v0_0 v0_1 e0
        have k0_0 := KeptP.of (State.access_kept h0) e0
        exact KeptP.mk k0_0

theorem State.mstlatch_kept {s0 a0 : State} {a1 a2} (h0 : Kept s0 a0) : Kept s0 (State.mstlatch a0 a1 a2) := by
  unfold State.mstlatch
  exact Kept.ite (State.modCore_kept h0) h0

theorem State.mfinj_kept {s0 a0 : State} {a1 a2} (h0 : Kept s0 a0) : Kept s0 (State.mfinj a0 a1 a2) := by
  unfold State.mfinj
  lift_lets -underBinder
  extract_lets -descend u0 u1
  have k0 : Kept s0 u0 := State.modCore_kept h0
  have k1 : Kept s0 u1 := State.modCore_kept k0
  clear_value u0 u1
  refine Kept.ite ?_ ?_
  · split
    · exact k1
    · lift_lets -underBinder
      extract_lets -descend u3
      clear_value u3
      split
      · rename_i v4_0 v4_1 e4
        have k4_0 := KeptP.of (State.inject_kept k1) e4
        exact Kept.ite (State.modCore_kept k4_0) (Kept.ite (State.modCore_kept k4_0) k4_0)
  · exact k0

theorem State.mipi_kept {s0 a0 : State} {a1 a2} (h0 : Kept s0 a0) : Kept s0 (State.mipi a0 a1 a2) := by
  unfold State.mipi
  exact State.forEach_kept (fun _ _ f0_1 => State.modCore_kept f0_1) h0

theorem State.csrWrite_kept {s0 a0 : State} {a1 a2 a3} (h0 : Kept s0 a0) : Kept s0 (State.csrWrite a0 a1 a2 a3) := by
  unfold State.csrWrite
  lift_lets -underBinder
  extract_lets -descend u0 u1
  have k1 : ∀ (b0 : Core → Core), Kept s0 (u1 b0) := fun _ => State.modCore_kept h0
  clear_value u0 u1
  split
  · exact k1 _
  · exact k1 _
  · exact k1 _
  · exact k1 _
  · exact k1 _
  · exact k1 _
  · exact k1 _
  · exact k1 _
  · exact Kept.ite (k1 _) h0
  · exact k1 _
  · exact h0
  · exact k1 _
  · exact k1 _
  · exact k1 _
  · exact k1 _
  · exact k1 _
  · exact k1 _
  · exact k1 _
  · exact k1 _
  · exact k1 _
  · exact k1 _
  · exact State.mstlatch_kept h0
  · exact State.mfinj_kept h0
  · exact k1 _
  · exact State.mipi_kept h0
  · exact k1 _
  · exact k1 _
  · exact Kept.ite (k1 _) (Kept.ite (Kept.ite (k1 _) h0) (Kept.ite (Kept.ite (k1 _) h0) (Kept.ite h0 (k1 _))))

theorem State.coreCsr_kept {s0 a0 : State} {a1 a2 a3 a4 a5} (h0 : Kept s0 a0) : KeptP s0 (State.coreCsr a0 a1 a2 a3 a4 a5) := by
  unfold State.coreCsr
  lift_lets -underBinder
  extract_lets -descend u0 u1 u2
  have k2 : Kept s0 u2 := Kept.ite h0 (State.csrWrite_kept h0)
  clear_value u0 u1 u2
  exact KeptP.ite (KeptP.mk h0) (KeptP.mk (State.modCore_kept k2))

theorem State.coreAct_kept {s0 a0 : State} {a1 a2} (h0 : Kept s0 a0) : KeptP s0 (State.coreAct a0 a1 a2) := by
  unfold State.coreAct
  split
  · exact KeptP.mk (State.modCore_kept h0)
  · exact State.coreLoad_kept h0
  · exact State.coreStore_kept h0
  · exact State.coreLr_kept h0
  · exact State.coreSc_kept h0
  · exact State.coreAmo_kept h0
  · exact State.coreCsr_kept h0
  · exact KeptP.mk h0
  · exact KeptP.mk h0
  · exact KeptP.ite (KeptP.mk (State.modCore_kept h0)) (KeptP.mk h0)
  · lift_lets -underBinder
    extract_lets -descend u1
    clear_value u1
    exact KeptP.ite (KeptP.mk (State.modCore_kept h0)) (KeptP.mk h0)
  · lift_lets -underBinder
    extract_lets -descend u1
    clear_value u1
    exact KeptP.ite (KeptP.mk h0) (KeptP.ite (KeptP.mk h0) (KeptP.mk (State.modCore_kept h0)))
  · exact KeptP.mk h0

theorem State.coreExec_kept {s0 a0 : State} {a1 a2} (h0 : Kept s0 a0) : Kept s0 (State.coreExec a0 a1 a2) := by
  unfold State.coreExec
  lift_lets -underBinder
  extract_lets -descend u0
  clear_value u0
  split
  · rename_i v1_0 v1_1 e1
    have k1_0 := KeptP.of (State.coreErr_kept h0) e1
    split
    · rename_i v2_0 e2
      have k2_0 := KeptO.of (State.fetchBad_kept k1_0) e2
      exact State.coreFault_kept k2_0
    · refine Kept.ite ?_ ?_
      · exact State.coreFault_kept k1_0
      · split
        · rename_i v3_0 e3
          have k3_0 := KeptP.of (State.coreAct_kept k1_0) e3
          lift_lets -underBinder
          extract_lets -descend u4 u5
          have k5 : Kept s0 u5 := State.modCore_kept k3_0
          clear_value u4 u5
          exact Kept.ite (State.haltHart_kept k5) k5
        · rename_i v3_0 v3_1 v3_2 e3
          have k3_0 := KeptP.of (State.coreAct_kept k1_0) e3
          lift_lets -underBinder
          extract_lets -descend u4
          have k4 : Kept s0 u4 := State.coreFault_kept (State.modCore_kept k3_0)
          clear_value u4
          exact Kept.ite (State.haltHart_kept k4) k4
        · rename_i v3_0 e3
          have k3_0 := KeptP.of (State.coreAct_kept k1_0) e3
          exact k3_0

theorem State.coreStep_kept {s0 a0 : State} {a1 a2} (h0 : Kept s0 a0) : Kept s0 (State.coreStep a0 a1 a2) := by
  unfold State.coreStep
  refine Kept.ite ?_ ?_
  · exact h0
  · split
    · exact Kept.ite (State.report_kept h0) h0
    · exact State.triggerHit_kept h0
    · split
      · exact Kept.ite (State.modCore_kept h0) h0
      · exact State.coreExec_kept (State.modCore_kept h0)

theorem execCoreInstruction_kept {s0 : State} {a0 a1} {a2 : State} (h2 : Kept s0 a2) : KeptH s0 (execCoreInstruction a0 a1
    a2) := by
  unfold execCoreInstruction
  exact KeptH.answer (State.coreStep_kept h2)

theorem State.accessBy_kept {s0 a0 : State} {a1} (h0 : Kept s0 a0) : Kept s0 (State.accessBy a0 a1) := by
  unfold State.accessBy
  split
  · rename_i v0_0 v0_1 e0
    have k0_0 := KeptP.of (State.access_kept h0) e0
    exact Kept.ite k0_0 (State.reply_kept k0_0)
  · rename_i v0_0 e0
    have k0_0 := KeptP.of (State.access_kept h0) e0
    exact State.busError_kept k0_0
  · rename_i v0_0 v0_1 e0
    have k0_0 := KeptP.of (State.access_kept h0) e0
    exact k0_0

theorem State.transfer_kept {s0 a0 : State} {a1} (h0 : Kept s0 a0) : Kept s0 (State.transfer a0 a1) := by
  unfold State.transfer
  split
  · exact State.accessBy_kept h0
  · exact State.accessBy_kept h0
  · exact State.commitCopy_kept h0
  · exact Kept.upd h0
  · exact h0

theorem State.slotCount_kept {s0 a0 : State} {a1 a2} (h0 : Kept s0 a0) : Kept s0 (State.slotCount a0 a1 a2) := by
  unfold State.slotCount
  lift_lets -underBinder
  extract_lets -descend u0 u1
  have k1 : Kept s0 u1 := Kept.ite (State.inc_kept h0) (State.inc_kept h0)
  clear_value u0 u1
  exact Kept.ite h0 (State.put_kept k1)

theorem State.fabricSlot_kept {s0 a0 : State} {a1 a2} (h0 : Kept s0 a0) : Kept s0 (State.fabricSlot a0 a1 a2) := by
  unfold State.fabricSlot
  split
  · exact h0
  · lift_lets -underBinder
    extract_lets -descend u1 u2
    have k2 : Kept s0 u2 := Kept.ite h0 (Kept.upd h0)
    clear_value u1 u2
    exact State.transfer_kept (State.slotCount_kept k2)

theorem execFabricTransfer_kept {s0 : State} {a0 a1} {a2 : State} (h2 : Kept s0 a2) : KeptH s0 (execFabricTransfer a0 a1
    a2) := by
  unfold execFabricTransfer
  exact KeptH.answer (Kept.ite (State.fabricSlot_kept h2) h2)

theorem execMtimecmpReached_kept {s0 : State} {a0} {a1 : State} (h1 : Kept s0 a1) : KeptH s0 (execMtimecmpReached a0 a1) := by
  unfold execMtimecmpReached
  exact KeptH.answer (Kept.ite (State.modCore_kept h1) h1)

theorem State.byMmode_kept {s0 a0 : State} {a1} {a2 : State → State} (h0 : Kept s0 a0) (h2 : ∀ (b0 : State) (_ : Kept s0
    b0), Kept s0 (a2 b0)) : Kept s0 (State.byMmode a0 a1 a2) := by
  unfold State.byMmode
  exact Kept.ite h0 (Kept.ite (h2 _ h0) (State.coreFault_kept h0))

theorem execMipi_kept {s0 : State} {a0 a1} {a2 : State} (h2 : Kept s0 a2) : KeptH s0 (execMipi a0 a1 a2) := by
  unfold execMipi
  exact KeptH.answer (State.byMmode_kept h2 (fun _ f0_0 => State.mipi_kept f0_0))

theorem execMstlatch_kept {s0 : State} {a0 a1} {a2 : State} (h2 : Kept s0 a2) : KeptH s0 (execMstlatch a0 a1 a2) := by
  unfold execMstlatch
  exact KeptH.answer (State.byMmode_kept h2 (fun _ f0_0 => State.mstlatch_kept f0_0))

theorem execMfinj_kept {s0 : State} {a0 a1} {a2 : State} (h2 : Kept s0 a2) : KeptH s0 (execMfinj a0 a1 a2) := by
  unfold execMfinj
  exact KeptH.answer (State.byMmode_kept h2 (fun _ f0_0 => State.mfinj_kept f0_0))

theorem State.modDbg_kept {s0 a0 : State} {a1 : CorePart → CorePart} (h0 : Kept s0 a0) : Kept s0 (State.modDbg a0 a1) := by
  unfold State.modDbg
  exact Kept.upd h0

theorem State.authFail_kept {s0 a0 : State} (h0 : Kept s0 a0) : Kept s0 (State.authFail a0) := by
  unfold State.authFail
  lift_lets -underBinder
  extract_lets -descend u0
  clear_value u0
  exact State.report_kept (State.modDbg_kept h0)

theorem State.authTry_kept {s0 a0 : State} {a1} (h0 : Kept s0 a0) : Kept s0 (State.authTry a0 a1) := by
  unfold State.authTry
  refine Kept.ite ?_ ?_
  · exact h0
  · split
    · exact State.authFail_kept h0
    · lift_lets -underBinder
      extract_lets -descend u1 u2
      have k1 : Kept s0 u1 := State.modDbg_kept h0
      clear_value u1 u2
      exact Kept.ite (State.modDbg_kept (State.forEach_kept (fun _ _ f3_1 => (by
        split
        · exact State.modCore_kept f3_1
        · exact f3_1)) k1)) (State.authFail_kept k1)

theorem execDebugAuthdata_kept {s0 : State} {a0} {a1 : State} (h1 : Kept s0 a1) : KeptH s0 (execDebugAuthdata a0 a1) := by
  unfold execDebugAuthdata
  exact KeptH.answer (State.authTry_kept h1)

theorem State.endAuth_kept {s0 a0 : State} (h0 : Kept s0 a0) : Kept s0 (State.endAuth a0) := by
  unfold State.endAuth
  exact State.modDbg_kept (State.forEach_kept (fun _ _ f0_1 => State.modCore_kept f0_1) h0)

theorem execJtagTrst_kept {s0 a0 : State} (h0 : Kept s0 a0) : KeptH s0 (execJtagTrst a0) := by
  unfold execJtagTrst
  exact KeptH.answer (State.endAuth_kept h0)

theorem State.instantOut_kept {s0 a0 : State} {a1 a2} (h0 : Kept s0 a0) : Kept s0 (State.instantOut a0 a1 a2) := by
  unfold State.instantOut
  lift_lets -underBinder
  extract_lets -descend u0 u1 u2 u3
  have k0 : Kept s0 u0 := State.forEach_kept (fun _ _ f1_1 => Kept.ite (State.takeRefs_kept f1_1) f1_1) h0
  have k1 : Kept s0 u1 := State.forEach_kept (fun _ _ f2_1 => Kept.ite (State.cloInstant_kept f2_1) f2_1) k0
  have k3 : Kept s0 u3 := Kept.ite (State.gpioInstant_kept k1) k1
  clear_value u0 u1 u2 u3
  exact Kept.ite (State.commitBay_kept k3) k3

theorem State.instantIn_kept {s0 a0 : State} {a1 a2} (h0 : Kept s0 a0) : Kept s0 (State.instantIn a0 a1 a2) := by
  unfold State.instantIn
  lift_lets -underBinder
  extract_lets -descend u0 u1 u2
  have k0 : Kept s0 u0 := State.forEach_kept (fun _ _ f1_1 => State.forEach_kept (fun _ _ f2_1 => Kept.ite
      (State.seqTrigger_kept f2_1) f2_1) f1_1) h0
  have k1 : Kept s0 u1 := State.forEach_kept (fun _ _ f2_1 => Kept.ite (State.sdmLatch_kept f2_1) f2_1) k0
  have k2 : Kept s0 u2 := State.forEach_kept (fun _ _ f3_1 => Kept.ite (State.cliInstant_kept f3_1) f3_1) k1
  clear_value u0 u1 u2
  exact State.forEach_kept (fun _ _ f3_1 => Kept.ite (State.drvSnap_kept f3_1) f3_1) k2

theorem State.instant_kept {s0 a0 : State} {a1 a2} (h0 : Kept s0 a0) : Kept s0 (State.instant a0 a1 a2) := by
  unfold State.instant
  split
  · exact h0
  · lift_lets -underBinder
    extract_lets -descend u1 u2
    have k2 : Kept s0 u2 := State.put_kept (State.put_kept (State.put_kept h0))
    clear_value u1 u2
    exact Kept.ite h0 (Kept.ite (State.instantOut_kept (State.instantIn_kept k2)) k2)

theorem execCommonIoInstant_kept {s0 : State} {a0 a1} {a2 : State} (h2 : Kept s0 a2) : KeptH s0 (execCommonIoInstant a0 a1
    a2) := by
  unfold execCommonIoInstant
  exact KeptH.answer (State.instant_kept h2)

theorem State.remote_kept {s0 a0 : State} {a1 a2 a3 a4 a5 a6 a7} (h0 : Kept s0 a0) : KeptP s0 (State.remote a0 a1 a2 a3 a4
    a5 a6 a7) := by
  unfold State.remote
  lift_lets -underBinder
  extract_lets -descend u0 u1 u2
  have k0 : Kept s0 u0 := State.eseqDone_kept h0
  clear_value u0 u1 u2
  refine KeptP.ite ?_ ?_
  · exact KeptP.mk h0
  · split
    · rename_i v3_0 v3_1 e3
      have k3_0 := KeptP.of (State.accHere_kept k0) e3
      exact KeptP.mk k3_0
    · rename_i v3_0 v3_1 e3
      have k3_0 := KeptP.of (State.accHere_kept k0) e3
      exact KeptP.mk k3_0

theorem execTrsRd_kept {s0 : State} {a0 a1 a2 a3 a4 a5 a6 a7 a8} {a9 : State} (h9 : Kept s0 a9) : KeptH s0 (execTrsRd a0 a1
    a2 a3 a4 a5 a6 a7 a8 a9) := by
  unfold execTrsRd
  lift_lets -underBinder
  extract_lets -descend u0
  clear_value u0
  exact KeptH.answer (State.trsTo_kept h9 (fun _ f1_0 => (by
    split
    · rename_i v2_0 v2_1 v2_2 e2
      have k2_0 := KeptP.of (State.remote_kept f1_0) e2
      exact State.trsSend_kept k2_0)))

theorem execTrsWr_kept {s0 : State} {a0 a1 a2 a3 a4 a5 a6 a7 a8} {a9 : State} (h9 : Kept s0 a9) : KeptH s0 (execTrsWr a0 a1
    a2 a3 a4 a5 a6 a7 a8 a9) := by
  unfold execTrsWr
  lift_lets -underBinder
  extract_lets -descend u0
  clear_value u0
  exact KeptH.answer (State.trsTo_kept h9 (fun _ f1_0 => (by
    split
    · rename_i v2_0 v2_1 v2_2 e2
      have k2_0 := KeptP.of (State.remote_kept f1_0) e2
      exact State.trsAnswer_kept k2_0)))

theorem State.hostWrite_kept {s0 a0 : State} {a1 a2} (h0 : Kept s0 a0) : Kept s0 (State.hostWrite a0 a1 a2) := by
  unfold State.hostWrite
  lift_lets -underBinder
  extract_lets -descend u0
  clear_value u0
  refine Kept.ite ?_ ?_
  · exact Kept.ite (State.modHost_kept h0) h0
  · split
    · exact Kept.ite (State.halvik_kept h0) h0
    · exact State.modHost_kept h0
    · exact State.setTail_kept h0
    · exact State.flag_kept (State.put_kept h0)
    · exact h0

theorem execRegisterWrite_kept {s0 : State} {a0 a1 a2} {a3 : State} (h3 : Kept s0 a3) : KeptH s0 (execRegisterWrite a0 a1
    a2 a3) := by
  unfold execRegisterWrite
  exact KeptH.answer (Kept.ite (Kept.ite (State.hostWrite_kept h3) h3) (Kept.ite (State.accessBy_kept h3) h3))

theorem State.dmReset_kept {s0 a0 : State} (h0 : Kept s0 a0) : Kept s0 (State.dmReset a0) := by
  unfold State.dmReset
  lift_lets -underBinder
  extract_lets -descend u0
  have k0 : Kept s0 u0 := State.forEach_kept (fun _ _ f1_1 => State.modCore_kept f1_1) h0
  clear_value u0
  exact State.modDbg_kept (State.endAuth_kept k0)

theorem State.dbgResume_kept {s0 a0 : State} {a1 a2} (h0 : Kept s0 a0) : Kept s0 (State.dbgResume a0 a1 a2) := by
  unfold State.dbgResume
  exact State.modCore_kept h0

theorem State.cmdErr_kept {s0 a0 : State} {a1} (h0 : Kept s0 a0) : Kept s0 (State.cmdErr a0 a1) := by
  unfold State.cmdErr
  exact State.modDbg_kept h0

theorem State.abstract__kept {s0 a0 : State} {a1} {a2 : State → State} (h0 : Kept s0 a0) (h2 : ∀ (b0 : State) (_ : Kept s0
    b0), Kept s0 (a2 b0)) : Kept s0 (State.abstract_ a0 a1 a2) := by
  unfold State.abstract_
  exact Kept.ite h0 (Kept.ite (State.cmdErr_kept h0) (Kept.ite (State.cmdErr_kept h0) (h2 _ h0)))

theorem State.dbgRead_kept {s0 a0 : State} {a1 a2} (h0 : Kept s0 a0) : Kept s0 (State.dbgRead a0 a1 a2) := by
  unfold State.dbgRead
  lift_lets -underBinder
  extract_lets -descend u0
  clear_value u0
  exact Kept.ite (State.cmdErr_kept h0) (State.reply_kept (State.modDbg_kept h0))

theorem State.dbgWrite_kept {s0 a0 : State} {a1 a2 a3} (h0 : Kept s0 a0) : Kept s0 (State.dbgWrite a0 a1 a2 a3) := by
  unfold State.dbgWrite
  exact Kept.ite (State.cmdErr_kept h0) (Kept.ite (State.modCore_kept h0) (Kept.ite (State.modCore_kept h0)
      (State.csrWrite_kept h0)))

theorem State.dbgRun_kept {s0 a0 : State} {a1} {a2 : List CoreStep} (h0 : Kept s0 a0) : Kept s0 (State.dbgRun a0 a1 a2) := by
  induction a2 generalizing a0 with
  | nil => exact h0
  | cons i l ih =>
    unfold State.dbgRun
    lift_lets
    extract_lets -descend x
    split
    · rename_i t e
      exact ih (KeptP.of (State.coreAct_kept h0) e)
    · rename_i t p q e
      exact State.cmdErr_kept (KeptP.of (State.coreAct_kept h0) e)
    · rename_i t e
      exact KeptP.of (State.coreAct_kept h0) e

theorem State.debugAct_kept {s0 a0 : State} {a1} (h0 : Kept s0 a0) : Kept s0 (State.debugAct a0 a1) := by
  unfold State.debugAct
  split
  · exact State.reply1_kept h0
  · exact State.reply1_kept h0
  · exact Kept.ite h0 (Kept.ite (State.modDbg_kept h0) (State.dmReset_kept h0))
  · refine Kept.ite ?_ ?_
    · exact h0
    · split
      · exact Kept.ite (State.haltHart_kept h0) h0
      · exact Kept.ite (State.dbgResume_kept h0) h0
      · exact Kept.ite (State.modCore_kept h0) h0
      · exact State.abstract__kept h0 (fun _ f2_0 => State.dbgRead_kept f2_0)
      · exact State.abstract__kept h0 (fun _ f2_0 => State.dbgWrite_kept f2_0)
      · exact State.modDbg_kept h0
      · exact State.abstract__kept h0 (fun _ f2_0 => State.dbgRun_kept f2_0)
      · exact State.abstract__kept h0 (fun _ f2_0 => State.modDbg_kept f2_0)
      · exact State.modDbg_kept h0
      · exact State.reply_kept h0
      · lift_lets -underBinder
        extract_lets -descend u2
        clear_value u2
        exact State.reply_kept (State.modDbg_kept h0)
      · exact h0

theorem execDebugModuleAccess_kept {s0 : State} {a0} {a1 : State} (h1 : Kept s0 a1) : KeptH s0 (execDebugModuleAccess a0
    a1) := by
  unfold execDebugModuleAccess
  exact KeptH.answer (State.debugAct_kept h1)

end Sys2Proof.Machine
end

