-- ==== Sys2Proof/Laws/Msg.lean ====
section
/-! SUPPORT.
Mailboxes: what a queue holds after it is written, and that only its own registers show it. -/

namespace Sys2Proof.Machine

/-- The mailbox queues in canonical form. -/
def State.mbxOk (s : State) : Prop := SMap.wf MbxQ.empty s.msg.mbx = true

theorem State.mbxQ_putMbx_same {s : State} (h : s.mbxOk) (m d : Nat) (q : MbxQ) : (s.putMbx m d q).mbxQ m d = q :=
  SMap.get_set_same _ _ h

theorem State.mbxQ_putMbx_other {s : State} (h : s.mbxOk) {m d n e : Nat} (hn : 2 * n + e ≠ 2 * m + d) (q : MbxQ) :
    (s.putMbx m d q).mbxQ n e = s.mbxQ n e := SMap.get_set_other hn _ h

@[simp] theorem State.showMbx_msg (s : State) (m : Nat) : (s.showMbx m).msg = s.msg := rfl
@[simp] theorem State.showMbx_mbxQ (s : State) (m n e : Nat) : (s.showMbx m).mbxQ n e = s.mbxQ n e := rfl
@[simp] theorem State.put_mbxQ (s : State) (f : Fld) (v m d : Nat) : (s.put f v).mbxQ m d = s.mbxQ m d := rfl
@[simp] theorem State.flag_mbxQ (s : State) (f : Fld) (v : Bool) (m d : Nat) : (s.flag f v).mbxQ m d = s.mbxQ m d := rfl
@[simp] theorem State.mbxStatus_mbxQ (s : State) (m d a b n e : Nat) : (s.mbxStatus m d a b).mbxQ n e = s.mbxQ n e := rfl
@[simp] theorem State.newMsg_mbxQ (s : State) (m d n e : Nat) : (s.newMsg m d).mbxQ n e = s.mbxQ n e := rfl
@[simp] theorem State.bellsDown_mbxQ (s : State) (m n e : Nat) : (s.bellsDown m).mbxQ n e = s.mbxQ n e := rfl
@[simp] theorem State.reply_mbxQ (s : State) (l : List Word) (m d : Nat) : (s.reply l).mbxQ m d = s.mbxQ m d := rfl

theorem State.mbxEmptied_mbxQ (s : State) (m d n e : Nat) : (s.mbxEmptied m d).mbxQ n e = s.mbxQ n e := by
  unfold State.mbxEmptied; split <;> rfl

theorem State.mbxQ_setMbx_same {s : State} (h : s.mbxOk) (m d : Nat) (q : MbxQ) : (s.setMbx m d q).mbxQ m d = q :=
  State.mbxQ_putMbx_same h m d q

theorem State.mbxQ_setMbx_other {s : State} (h : s.mbxOk) {m d n e : Nat} (hn : 2 * n + e ≠ 2 * m + d) (q : MbxQ) :
    (s.setMbx m d q).mbxQ n e = s.mbxQ n e := State.mbxQ_putMbx_other h hn q

theorem State.putMbx_mbxOk {s : State} (h : s.mbxOk) (m d : Nat) (q : MbxQ) : (s.putMbx m d q).mbxOk := SMap.set_wf _ _ _ h

theorem State.setMbx_mbxOk {s : State} (h : s.mbxOk) (m d : Nat) (q : MbxQ) : (s.setMbx m d q).mbxOk :=
  State.putMbx_mbxOk h m d q

/-- When a queue's oldest message has left whole, the later ones remain, with the open message as it was. -/
theorem State.mbxQ_mbxTaken {s : State} (h : s.mbxOk) (m d : Nat) (q : MbxQ) :
    (s.mbxTaken m d q).mbxQ m d = { q with msgs := q.msgs.drop 1, pos := 0, sending := false } := by
  unfold State.mbxTaken
  dsimp only
  rw [State.mbxEmptied_mbxQ]
  split
  · rw [State.mbxStatus_mbxQ, State.bellsDown_mbxQ, State.mbxQ_setMbx_same h]
  · rw [State.bellsDown_mbxQ, State.mbxQ_setMbx_same h]

end Sys2Proof.Machine
end

