-- ==== Sys2Proof/WellFormed.lean ====
section
/-! DEFINITION.
Well-formed commands: every operand in the range that the spec gives its resource, field or word. -/

namespace Sys2Proof

/-- An initiator: a bay number, an INIT code of BAYn_VIOL_ADDR_HI or 7 for the PCIe host, and an instance (R161). -/
def initOk (i : Init) : Bool := decide (i.bay < 8) && decide (i.kind < 8) && decide (i.inst < 16)

/-- The strap pins (R86). -/
def strapsOk (x : Straps) : Bool := decide (x.bootSrc < 4) && decide (x.stackPos < 8) && decide (x.pairId < 2)

/-- A Halvik command: its channel, ORIGIN and TAG, and at most 62 payload words (R116, R119). -/
def hreqOk (r : HReq) : Bool :=
  decide (r.ch < 10) && decide (r.origin < 65536) && decide (r.tag < 65536) && decide (r.payload.length ≤ 62)

/-- A HIF-SPI frame: an opcode byte, 32-bit ADDR, 16-bit LEN (R836). -/
def frameOk (f : HFrame) : Bool := decide (f.op < 256) && decide (f.addr < 2 ^ 32) && decide (f.len < 65536)

/-- An access size of a core: 1, 2, 4 or 8 bytes. -/
def coreSize (n : Nat) : Bool := ([1, 2, 4, 8] : List Nat).contains n

/-- The effect of an instruction: register numbers, sizes, CSR addresses, 40-bit physical addresses. -/
def coreActOk : CoreAct → Bool
  | .compute dst value flags => decide (dst < 64) && decide (value < 2 ^ 64) && decide (flags < 32)
  | .load dst n _ _ pa => decide (dst < 64) && coreSize n && decide (pa < 2 ^ 40)
  | .store n value _ pa => coreSize n && decide (value < 2 ^ 64) && decide (pa < 2 ^ 40)
  | .lr dst n _ pa => decide (dst < 32) && (n == 4 || n == 8) && decide (pa < 2 ^ 40)
  | .sc dst n _ _ pa => decide (dst < 32) && (n == 4 || n == 8) && decide (pa < 2 ^ 40)
  | .amo op dst n _ _ pa => decide (op < 9) && decide (dst < 32) && (n == 4 || n == 8) && decide (pa < 2 ^ 40)
  | .csr op a dst value => decide (op < 4) && decide (a < 4096) && decide (dst < 32) && decide (value < 2 ^ 64)
  | .trap cause _ => decide (cause < 16)
  | .interrupt code => decide (code < 16)
  | .mret => true
  | .sret => true
  | .wfi => true
  | .fence => true

def coreStepOk (i : CoreStep) : Bool := coreActOk i.act && decide (i.fetch < 2 ^ 40) && decide (i.next < 2 ^ 64)

/-- A transfer: at most 64 bytes at a 40-bit address (R145). -/
def xferOk (x : Xfer) : Bool :=
  initOk x.by_ && decide (x.addr < 2 ^ 40) &&
  (match x.op with | .read n => decide (n ≤ 64) | .write d => decide (d.length ≤ 64) | _ => true)

/-- Whether a command's operands lie in range. -/
def Instr.wf (c : Instr) : Bool :=
  match c with
  | .powerOnReset straps _ => strapsOk straps
  | .resetnLow _ straps _ => strapsOk straps
  | .sysDevRst by_ _ => initOk by_
  | .systemPllLock => true
  | .zeroizationEnd _ => true
  | .imageLoadDone e => decide (e < 12)
  | .bayRelease b => decide (b < 8)
  | .referenceLoss _ => true
  | .pllUnlock => true
  | .referenceGoodRestart => true
  | .coreUnderVoltage => true
  | .railUnderVoltage rail => decide (rail < 6)
  | .supplyGoodRestart rail => decide (rail < 6)
  | .ioRailLow rail => decide (rail < 6)
  | .ioRailRestored rail _ => decide (rail < 6)
  | .lpoCalibration _ => true
  | .lanePllLock l => decide (l < 8)
  | .lanePllUnlock l => decide (l < 8)
  | .dozeEnter => true
  | .dozeExit => true
  | .sleepRequest by_ => initOk by_
  | .sleepDrained => true
  | .sleepCommit => true
  | .sleepRetention => true
  | .offRequest by_ => initOk by_
  | .offCommit => true
  | .wakenFall => true
  | .wakePinEdge p _ => decide (p < 128)
  | .wakeTimerExpiry => true
  | .wakeFromSleep _ => true
  | .wakePllLock => true
  | .wakePllTimeout => true
  | .wakeFromOff _ => true
  | .coreSupplyGood => true
  | .settleExpiry => true
  | .coreSupplyTimeout => true
  | .query r => hreqOk r
  | .halvikAbort r => hreqOk r
  | .nonce r => hreqOk r
  | .bsLoad r => hreqOk r
  | .slotOpen r nvm => hreqOk r && decide (nvm < 3)
  | .slotWrite r nvm => hreqOk r && decide (nvm < 3)
  | .slotClose r nvm => hreqOk r && decide (nvm < 3)
  | .slotCommit r nvm => hreqOk r && decide (nvm < 3)
  | .slotErase r nvm => hreqOk r && decide (nvm < 3)
  | .confirmTimerExpiry => true
  | .deltaApply r => hreqOk r
  | .deltaSwap => true
  | .deltaCommit => true
  | .deltaRollback => true
  | .deltaDeferTimeout => true
  | .bayReady r => hreqOk r
  | .imageLoad r => hreqOk r
  | .keyProvision r => hreqOk r
  | .keyRevoke r => hreqOk r
  | .secverRaise r => hreqOk r
  | .bootOnce r => hreqOk r
  | .cplTail by_ b tail => initOk by_ && decide (b < 8) && decide (tail < 8)
  | .selfRst by_ b => initOk by_ && decide (b < 8)
  | .bayRst by_ b => initOk by_ && decide (b < 8)
  | .bayStop by_ b => initOk by_ && decide (b < 8)
  | .bayStart by_ b => initOk by_ && decide (b < 8)
  | .bayReset b => decide (b < 8)
  | .bankZeroingEnd b => decide (b < 8)
  | .wdtKick by_ b _ => initOk by_ && decide (b < 8)
  | .wdtWarning b => decide (b < 8)
  | .wdtExpiry b => decide (b < 8)
  | .coreInstruction c x => decide (c < 4) && coreStepOk x
  | .fabricTransfer pos pend => decide (pos < 64) && pend.all xferOk
  | .eccWriteback a => decide (a < 4294967296)
  | .mtimecmpReached c => decide (c < 4)
  | .mipi c v => decide (c < 4) && decide (v < 18446744073709551616)
  | .mstlatch c v => decide (c < 4) && decide (v < 18446744073709551616)
  | .mfinj c v => decide (c < 4) && decide (v < 18446744073709551616)
  | .debugAuthdata resp => decide (resp.length = 34)
  | .jtagTrst => true
  | .restart by_ e => initOk by_ && decide (e < 12)
  | .engineHealthMissed e => decide (e < 12)
  | .engineBodyCheck e _ => decide (e < 12)
  | .engineTrap e _ => decide (e < 12)
  | .retestStart _ => true
  | .retestEnd _ _ _ nvm => decide (nvm < 3)
  | .retestIntervalTimeout _ => true
  | .logBucketRefill => true
  | .fltnNtfPop by_ b => initOk by_ && decide (b < 8)
  | .fltInjGo by_ => initOk by_
  | .rowTestStart _ => true
  | .rowTestSwitchover => true
  | .rowTestEnd _ _ => true
  | .nvmPgCmd by_ lp _ => initOk by_ && decide (lp < 56)
  | .nvmPageCommit lp verify _ => decide (lp < 56) && decide (verify < 3)
  | .txData by_ m d _ => initOk by_ && decide (m < 64) && decide (d < 2)
  | .txLast by_ m d _ => initOk by_ && decide (m < 64) && decide (d < 2)
  | .mbxDb by_ m d => initOk by_ && decide (m < 64) && decide (d < 2)
  | .recall by_ m d => initOk by_ && decide (m < 64) && decide (d < 2)
  | .rxData by_ m d => initOk by_ && decide (m < 64) && decide (d < 2)
  | .boundMessageAccept m => decide (m < 64)
  | .boundMessageRefused m _ => decide (m < 64)
  | .queuePost by_ q e v => initOk by_ && decide (q < 256) && decide (e < 2) && decide (v < 65536)
  | .descriptorFetch q e => decide (q < 256) && decide (e < 2)
  | .descriptorCompletion q e => decide (q < 256) && decide (e < 2)
  | .completionRingWait q e => decide (q < 256) && decide (e < 2)
  | .queueEn by_ q e _ => initOk by_ && decide (q < 256) && decide (e < 2)
  | .queueAbort by_ q e idx => initOk by_ && decide (q < 256) && decide (e < 2) && decide (idx < 65536)
  | .steadyHalfwrap => true
  | .timeSteadyLo by_ => initOk by_
  | .timeSrvRate by_ _ => initOk by_
  | .timeSrvCorr by_ _ => initOk by_
  | .slewEnd => true
  | .timeSrcTimeout => true
  | .timeStep by_ => initOk by_
  | .timeSlew by_ => initOk by_
  | .timeSet by_ => initOk by_
  | .journalPeriodic => true
  | .steadyCounterMismatch _ => true
  | .tevArm by_ n _ => initOk by_ && decide (n < 8)
  | .tevFire n => decide (n < 8)
  | .tevPulseEnd n => decide (n < 8)
  | .tevDisarm by_ n => initOk by_ && decide (n < 8)
  | .tcapEdge n _ _ => decide (n < 8)
  | .tcapStamp by_ n => initOk by_ && decide (n < 8)
  | .cycleStart n => decide (n < 4)
  | .windowStart n _ _ => decide (n < 4)
  | .windowEnd n _ _ _ => decide (n < 4)
  | .commonIoInstant n k => decide (n < 4) && decide (k < 4)
  | .trimReq by_ n v => initOk by_ && decide (n < 4) && decide (v < 4294967296)
  | .trimDone n => decide (n < 4)
  | .ethEn by_ n _ => initOk by_ && decide (n < 4)
  | .ethLinkChange n _ _ => decide (n < 4)
  | .phyPoll n reg => decide (n < 4) && decide (reg < 65536)
  | .mdioGo by_ n phy reg op wdata => initOk by_ && decide (n < 4) && decide (phy < 32) && decide (reg < 32) && decide (op < 4) && decide (wdata < 65536)
  | .mdioDone n data => decide (n < 4) && decide (data < 65536)
  | .ethFrameReady n k _ => decide (n < 4) && decide (k < 8)
  | .ethTxFrameStart n => decide (n < 4)
  | .ethTxFrameDone n _ => decide (n < 4)
  | .ethRxFrame n _ _ _ _ _ _ => decide (n < 4)
  | .ethnPtpfInfo by_ n => initOk by_ && decide (n < 4)
  | .prpEntryExpiry n _ _ => decide (n < 4)
  | .prpMissInterval n => decide (n < 4)
  | .prpSupervisionSend n => decide (n < 4)
  | .fcsErrorInterval n => decide (n < 4)
  | .blockLockLoss n => decide (n < 4)
  | .canEn by_ n _ => initOk by_ && decide (n < 4)
  | .canIntegrationDone n => decide (n < 4)
  | .txreq by_ n _ => initOk by_ && decide (n < 4)
  | .txabort by_ n _ => initOk by_ && decide (n < 4)
  | .canFrameStart n _ => decide (n < 4)
  | .canTxAttemptEnd n _ _ _ _ => decide (n < 4)
  | .canRxFrameValid n _ _ _ _ _ _ _ => decide (n < 4)
  | .recover by_ n => initOk by_ && decide (n < 4)
  | .busOffRecoveryEnd n => decide (n < 4)
  | .cannTscLatch by_ n => initOk by_ && decide (n < 4)
  | .cannRxfPop by_ n => initOk by_ && decide (n < 4)
  | .twinEntryExpiry n _ => decide (n < 4)
  | .twinMissInterval n => decide (n < 4)
  | .sernTxdata by_ n _ => initOk by_ && decide (n < 6)
  | .sernRxdata by_ n => initOk by_ && decide (n < 6)
  | .serCharReceived n _ _ _ => decide (n < 6)
  | .serCharSent n => decide (n < 6)
  | .serIdleTimeout n => decide (n < 6)
  | .deRelease n => decide (n < 6)
  | .serErrorInterval n => decide (n < 6)
  | .bitioOutputEdge n => decide (n < 6)
  | .bitioInputEdge n p _ _ => decide (n < 6) && decide (p < 2)
  | .vdtLaneTraining l _ _ => decide (l < 8)
  | .vdtLaneTimeout l => decide (l < 8)
  | .vdtLaneDown l => decide (l < 8)
  | .hbSend => true
  | .vdtHb l _ _ _ => decide (l < 8)
  | .vdtAck l q => decide (l < 8) && decide (q < 4294967296)
  | .vdtNak l q => decide (l < 8) && decide (q < 4294967296)
  | .ackTimer h => decide (h < 3)
  | .replayTimeout h => decide (h < 3)
  | .mrec l q b _ _ _ _ _ => decide (l < 8) && decide (q < 4294967296) && decide (b < 8)
  | .brec l q b _ _ _ _ _ => decide (l < 8) && decide (q < 4294967296) && decide (b < 8)
  | .mirrorRecordSend b => decide (b < 8)
  | .mirrorQueueFullTimeout b => decide (b < 8)
  | .vdtClaim l q b _ => decide (l < 8) && decide (q < 4294967296) && decide (b < 8)
  | .yield l q b _ => decide (l < 8) && decide (q < 4294967296) && decide (b < 8)
  | .synced l q b _ => decide (l < 8) && decide (q < 4294967296) && decide (b < 8)
  | .resyncReq l q b _ _ => decide (l < 8) && decide (q < 4294967296) && decide (b < 8)
  | .refuse l q b _ => decide (l < 8) && decide (q < 4294967296) && decide (b < 8)
  | .vdtMsg l q b _ _ src ws => decide (l < 8) && decide (q < 4294967296) && decide (b < 8) && decide (src < 8) && decide (ws.length ≤ 16)
  | .mrsp l q b _ _ _ => decide (l < 8) && decide (q < 4294967296) && decide (b < 8)
  | .vdtDb l q b _ _ => decide (l < 8) && decide (q < 4294967296) && decide (b < 8)
  | .heartbeatMiss => true
  | .witnessChange _ => true
  | .witnessDisagree => true
  | .takeoverEdge b => decide (b < 8)
  | .undecidedTimeout b => decide (b < 8)
  | .handover by_ b => initOk by_ && decide (b < 8)
  | .vdtTake by_ b => initOk by_ && decide (b < 8)
  | .selfFault by_ => initOk by_
  | .linkRestart by_ _ => initOk by_
  | .pairTimeFollow _ => true
  | .trsRd l q src dst eseq home size off _ => decide (l < 8) && decide (q < 4294967296) && decide (src < 8) && decide (dst < 8) && decide (eseq < 65536) && decide (home < 64) && decide (size < 7) && decide (off < 134217728)
  | .trsWr l q src dst eseq home size off _ => decide (l < 8) && decide (q < 4294967296) && decide (src < 8) && decide (dst < 8) && decide (eseq < 65536) && decide (home < 64) && decide (size < 7) && decide (off < 134217728)
  | .trsRdr l q src dst eseq home _ _ => decide (l < 8) && decide (q < 4294967296) && decide (src < 8) && decide (dst < 8) && decide (eseq < 65536) && decide (home < 64)
  | .trsRsp l q src dst eseq home _ => decide (l < 8) && decide (q < 4294967296) && decide (src < 8) && decide (dst < 8) && decide (eseq < 65536) && decide (home < 64)
  | .trsMsg l q src dst eseq home _ _ ws => decide (l < 8) && decide (q < 4294967296) && decide (src < 8) && decide (dst < 8) && decide (eseq < 65536) && decide (home < 64) && decide (ws.length ≤ 16)
  | .trsDb l q src dst eseq home _ => decide (l < 8) && decide (q < 4294967296) && decide (src < 8) && decide (dst < 8) && decide (eseq < 65536) && decide (home < 64)
  | .trsIrq l q src dst _ _ => decide (l < 8) && decide (q < 4294967296) && decide (src < 8) && decide (dst < 8)
  | .sirq l q src _ => decide (l < 8) && decide (q < 4294967296) && decide (src < 8)
  | .trsSirqSend by_ _ => initOk by_
  | .timeFrame l q src _ _ _ _ _ => decide (l < 8) && decide (q < 4294967296) && decide (src < 8)
  | .timeFrameSend => true
  | .stackTimeFollow _ => true
  | .trsClaim l q src dst bay _ _ _ _ => decide (l < 8) && decide (q < 4294967296) && decide (src < 8) && decide (dst < 8) && decide (bay < 8)
  | .claimRsp l q src dst bay _ _ _ => decide (l < 8) && decide (q < 4294967296) && decide (src < 8) && decide (dst < 8) && decide (bay < 8)
  | .trsRoute l q src _ _ _ => decide (l < 8) && decide (q < 4294967296) && decide (src < 8)
  | .trsTopo l q src _ _ _ _ => decide (l < 8) && decide (q < 4294967296) && decide (src < 8)
  | .trsHb l _ _ => decide (l < 8)
  | .hopLost l => decide (l < 8)
  | .routeBreakTimeout l => decide (l < 8)
  | .trsRequestTimeout d eseq => decide (d < 8) && decide (eseq < 65536)
  | .stackFormed => true
  | .drvStart by_ n _ => initOk by_ && decide (n < 2)
  | .drvStop by_ n => initOk by_ && decide (n < 2)
  | .coast by_ n => initOk by_ && decide (n < 2)
  | .psetLoad by_ n k => initOk by_ && decide (n < 2) && decide (k < 16)
  | .decisionTick n => decide (n < 2)
  | .decisionApply n => decide (n < 2)
  | .deadTimeEnd n leg => decide (n < 2) && decide (leg < 3)
  | .legChangeDeferred n leg => decide (n < 2) && decide (leg < 3)
  | .bandWindowEnd n => decide (n < 2)
  | .positionTestPulse n _ _ => decide (n < 2)
  | .magTimeExpiry n => decide (n < 2)
  | .catchSpinStep n _ _ => decide (n < 2)
  | .losClearExpiry n => decide (n < 2)
  | .kineticHoldExit n => decide (n < 2)
  | .overcurrentTrip n leg _ _ => decide (n < 2) && decide (leg < 3)
  | .gateDriverFault n _ => decide (n < 2)
  | .desaturation n leg _ => decide (n < 2) && decide (leg < 3)
  | .gateReadbackMismatch n out _ => decide (n < 2) && decide (out < 6)
  | .tripClear by_ n => initOk by_ && decide (n < 2)
  | .chopperDutyInterval n => decide (n < 2)
  | .seqGo by_ n k => initOk by_ && decide (n < 4) && decide (k < 4)
  | .adcConversionEnd n _ => decide (n < 4)
  | .adcInternalCheck n => decide (n < 4)
  | .adcnQflush by_ n => initOk by_ && decide (n < 4)
  | .sdmDataOutput n _ => decide (n < 8)
  | .sdmComparatorOutput n _ => decide (n < 8)
  | .sdmSaturation n _ _ => decide (n < 8)
  | .sdmStuck n _ => decide (n < 8)
  | .sdmnQflush by_ n => initOk by_ && decide (n < 8)
  | .supAinRequest => true
  | .supMillisecond => true
  | .shedTrigger => true
  | .holdExpiry => true
  | .restoreStep => true
  | .shedPowerMeasurement => true
  | .supLp10Write => true
  | .supEn by_ _ => initOk by_
  | .supDetect by_ _ => initOk by_
  | .learnReset by_ => initOk by_
  | .dewClear => true
  | .cloRegulatorStep n _ _ => decide (n < 2)
  | .cliMeasurement m _ => decide (m < 2)
  | .capEn by_ _ _ => initOk by_
  | .capScan _ => true
  | .recal by_ => initOk by_
  | .calReload by_ => initOk by_
  | .sleepSlowScan _ => true
  | .filmReferenceCheck n _ => decide (n < 8)
  | .tagInvCmd by_ ants protos _ => initOk by_ && decide (ants < 256) && decide (protos < 4)
  | .tagAutoInventory => true
  | .tagInvAbort by_ => initOk by_
  | .receiverCheckEnd _ => true
  | .fieldSettleEnd => true
  | .tagSlot _ => true
  | .tagInventoryDone => true
  | .pinCommitGo by_ b => initOk by_ && decide (b < 8)
  | .pinCommitArm by_ b => initOk by_ && decide (b < 8)
  | .pinCommitSwitch p _ => decide (p < 128)
  | .gpioSet by_ k _ => initOk by_ && decide (k < 4)
  | .gpioClr by_ k _ => initOk by_ && decide (k < 4)
  | .gpioInputEdge p _ => decide (p < 128)
  | .pinReadbackMismatch p _ => decide (p < 128)
  | .stageWr f => frameOk f
  | .stageRd f => frameOk f
  | .statusRd f => frameOk f
  | .cmdWr f nvm => frameOk f && decide (nvm < 3)
  | .cplRd f => frameOk f
  | .cplAck f => frameOk f
  | .hdbWr f => frameOk f
  | .ddbRd f => frameOk f
  | .hifSpiDdb by_ _ => initOk by_
  | .bar0Hdb _ => true
  | .bar0Ddb => true
  | .pciePerst => true
  | .pcieLinkChange _ _ _ _ _ _ => true
  | .pcieOutboundTimeout by_ _ _ => initOk by_
  | .hifQspiCmd by_ _ => initOk by_
  | .qspiCommandDone _ _ _ => true
  | .registerWrite by_ a _ => initOk by_ && decide (a < 1099511627776)
  | .engineInstruction e _ => decide (e < 12)
  | .debugModuleAccess _ => true
  | .laneFrameEnd l => decide (l < 8)
  | .laneFrameDiscard l => decide (l < 8)
  | .replayRateInterval h => decide (h < 3)
  | .laneNotUpTimeout l => decide (l < 8)
  | .configurationHoldTimeout => true
  | .supConfirmExpiry _ => true
  | .capTempSwTimeout => true
  | .antSettleEnd => true
  | .antennaLoadFault _ => true
  | .poleVoltageTrigger n => decide (n < 2)
  | .bar2Access _ _ _ _ => true
  | .alwaysOnSupplyValid _ => true

end Sys2Proof
end

