-- ==== Sys2Proof/Tests/Slice0.lean ====
section
/-! SUPPORT.
Tests: ill-formed commands that the check refuses; single steps on small states. -/

namespace Sys2Proof.Tests
open Sys2Proof Sys2Proof.Machine

/-! ### WellFormed refuses an operand out of range, one command for each check -/

theorem test_ill_formed_1 : ([
   .powerOnReset ⟨4, 0, 0⟩ false,
   .resetnLow 0 ⟨4, 0, 0⟩ false,
   .sysDevRst ⟨8, 0, 0⟩ 0#32,
   .imageLoadDone 12,
   .bayRelease 8,
   .railUnderVoltage 6,
   .supplyGoodRestart 6,
   .ioRailLow 6,
   .ioRailRestored 6 0,
   .lanePllLock 8,
   .lanePllUnlock 8,
   .sleepRequest ⟨8, 0, 0⟩,
   .offRequest ⟨8, 0, 0⟩,
   .wakePinEdge 128 false,
   .query ⟨10, 0, 0, []⟩,
   .halvikAbort ⟨10, 0, 0, []⟩,
   .nonce ⟨10, 0, 0, []⟩,
   .bsLoad ⟨10, 0, 0, []⟩,
   .slotOpen ⟨10, 0, 0, []⟩ 0,
   .slotOpen ⟨0, 0, 0, []⟩ 3,
   .slotWrite ⟨10, 0, 0, []⟩ 0,
   .slotWrite ⟨0, 0, 0, []⟩ 3,
   .slotClose ⟨10, 0, 0, []⟩ 0,
   .slotClose ⟨0, 0, 0, []⟩ 3,
   .slotCommit ⟨10, 0, 0, []⟩ 0,
   .slotCommit ⟨0, 0, 0, []⟩ 3,
   .slotErase ⟨10, 0, 0, []⟩ 0,
   .slotErase ⟨0, 0, 0, []⟩ 3,
   .deltaApply ⟨10, 0, 0, []⟩,
   .bayReady ⟨10, 0, 0, []⟩,
   .imageLoad ⟨10, 0, 0, []⟩,
   .keyProvision ⟨10, 0, 0, []⟩,
   .keyRevoke ⟨10, 0, 0, []⟩,
   .secverRaise ⟨10, 0, 0, []⟩,
   .bootOnce ⟨10, 0, 0, []⟩,
   .cplTail ⟨8, 0, 0⟩ 0 0,
   .cplTail ⟨0, 0, 0⟩ 8 0,
   .cplTail ⟨0, 0, 0⟩ 0 8,
   .selfRst ⟨8, 0, 0⟩ 0,
   .selfRst ⟨0, 0, 0⟩ 8,
   .bayRst ⟨8, 0, 0⟩ 0,
   .bayRst ⟨0, 0, 0⟩ 8,
   .bayStop ⟨8, 0, 0⟩ 0,
   .bayStop ⟨0, 0, 0⟩ 8,
   .bayStart ⟨8, 0, 0⟩ 0,
   .bayStart ⟨0, 0, 0⟩ 8,
   .bayReset 8,
   .bankZeroingEnd 8,
   .wdtKick ⟨8, 0, 0⟩ 0 0#32,
   .wdtKick ⟨0, 0, 0⟩ 8 0#32,
   .wdtWarning 8,
   .wdtExpiry 8,
   .coreInstruction 4 ⟨0, 0, [], .fine, [], none, .fence⟩,
   .coreInstruction 0 ⟨0, 0, [], .fine, [], none, .load 64 1 false 0 0⟩,
   .fabricTransfer 64 [],
   .fabricTransfer 0 [⟨⟨8, 0, 0⟩, 0, .counted, [], none, 0⟩],
   .eccWriteback 4294967296,
   .mtimecmpReached 4,
   .mipi 4 0,
   .mipi 0 18446744073709551616] : List Instr).any (fun c => c.wf) = false := by decide

theorem test_ill_formed_2 : ([
   .mstlatch 4 0,
   .mstlatch 0 18446744073709551616,
   .mfinj 4 0,
   .mfinj 0 18446744073709551616,
   .debugAuthdata [],
   .restart ⟨8, 0, 0⟩ 0,
   .restart ⟨0, 0, 0⟩ 12,
   .engineHealthMissed 12,
   .engineBodyCheck 12 0,
   .engineTrap 12 0,
   .retestEnd 0 false 0 3,
   .fltnNtfPop ⟨8, 0, 0⟩ 0,
   .fltnNtfPop ⟨0, 0, 0⟩ 8,
   .fltInjGo ⟨8, 0, 0⟩,
   .nvmPgCmd ⟨8, 0, 0⟩ 0 false,
   .nvmPgCmd ⟨0, 0, 0⟩ 56 false,
   .nvmPageCommit 56 0 0,
   .nvmPageCommit 0 3 0,
   .txData ⟨8, 0, 0⟩ 0 0 0#32,
   .txData ⟨0, 0, 0⟩ 64 0 0#32,
   .txData ⟨0, 0, 0⟩ 0 2 0#32,
   .txLast ⟨8, 0, 0⟩ 0 0 0#32,
   .txLast ⟨0, 0, 0⟩ 64 0 0#32,
   .txLast ⟨0, 0, 0⟩ 0 2 0#32,
   .mbxDb ⟨8, 0, 0⟩ 0 0,
   .mbxDb ⟨0, 0, 0⟩ 64 0,
   .mbxDb ⟨0, 0, 0⟩ 0 2,
   .recall ⟨8, 0, 0⟩ 0 0,
   .recall ⟨0, 0, 0⟩ 64 0,
   .recall ⟨0, 0, 0⟩ 0 2,
   .rxData ⟨8, 0, 0⟩ 0 0,
   .rxData ⟨0, 0, 0⟩ 64 0,
   .rxData ⟨0, 0, 0⟩ 0 2,
   .boundMessageAccept 64,
   .boundMessageRefused 64 0,
   .queuePost ⟨8, 0, 0⟩ 0 0 0,
   .queuePost ⟨0, 0, 0⟩ 256 0 0,
   .queuePost ⟨0, 0, 0⟩ 0 2 0,
   .queuePost ⟨0, 0, 0⟩ 0 0 65536,
   .descriptorFetch 256 0,
   .descriptorFetch 0 2,
   .descriptorCompletion 256 0,
   .descriptorCompletion 0 2,
   .completionRingWait 256 0,
   .completionRingWait 0 2,
   .queueEn ⟨8, 0, 0⟩ 0 0 false,
   .queueEn ⟨0, 0, 0⟩ 256 0 false,
   .queueEn ⟨0, 0, 0⟩ 0 2 false,
   .queueAbort ⟨8, 0, 0⟩ 0 0 0,
   .queueAbort ⟨0, 0, 0⟩ 256 0 0,
   .queueAbort ⟨0, 0, 0⟩ 0 2 0,
   .queueAbort ⟨0, 0, 0⟩ 0 0 65536,
   .timeSteadyLo ⟨8, 0, 0⟩,
   .timeSrvRate ⟨8, 0, 0⟩ 0#32,
   .timeSrvCorr ⟨8, 0, 0⟩ 0#32,
   .timeStep ⟨8, 0, 0⟩,
   .timeSlew ⟨8, 0, 0⟩,
   .timeSet ⟨8, 0, 0⟩,
   .tevArm ⟨8, 0, 0⟩ 0 0#32,
   .tevArm ⟨0, 0, 0⟩ 8 0#32] : List Instr).any (fun c => c.wf) = false := by decide

theorem test_ill_formed_3 : ([
   .tevFire 8,
   .tevPulseEnd 8,
   .tevDisarm ⟨8, 0, 0⟩ 0,
   .tevDisarm ⟨0, 0, 0⟩ 8,
   .tcapEdge 8 false 0,
   .tcapStamp ⟨8, 0, 0⟩ 0,
   .tcapStamp ⟨0, 0, 0⟩ 8,
   .cycleStart 4,
   .windowStart 4 0 0,
   .windowEnd 4 0 0 0,
   .commonIoInstant 4 0,
   .commonIoInstant 0 4,
   .trimReq ⟨8, 0, 0⟩ 0 0,
   .trimReq ⟨0, 0, 0⟩ 4 0,
   .trimReq ⟨0, 0, 0⟩ 0 4294967296,
   .trimDone 4,
   .ethEn ⟨8, 0, 0⟩ 0 false,
   .ethEn ⟨0, 0, 0⟩ 4 false,
   .ethLinkChange 4 false 0,
   .phyPoll 4 0,
   .phyPoll 0 65536,
   .mdioGo ⟨8, 0, 0⟩ 0 0 0 0 0,
   .mdioGo ⟨0, 0, 0⟩ 4 0 0 0 0,
   .mdioGo ⟨0, 0, 0⟩ 0 32 0 0 0,
   .mdioGo ⟨0, 0, 0⟩ 0 0 32 0 0,
   .mdioGo ⟨0, 0, 0⟩ 0 0 0 4 0,
   .mdioGo ⟨0, 0, 0⟩ 0 0 0 0 65536,
   .mdioDone 4 0,
   .mdioDone 0 65536,
   .ethFrameReady 4 0 none,
   .ethFrameReady 0 8 none,
   .ethTxFrameStart 4,
   .ethTxFrameDone 4 none,
   .ethRxFrame 4 [] 0 false false false none,
   .ethnPtpfInfo ⟨8, 0, 0⟩ 0,
   .ethnPtpfInfo ⟨0, 0, 0⟩ 4,
   .prpEntryExpiry 4 0 0,
   .prpMissInterval 4,
   .prpSupervisionSend 4,
   .fcsErrorInterval 4,
   .blockLockLoss 4,
   .canEn ⟨8, 0, 0⟩ 0 false,
   .canEn ⟨0, 0, 0⟩ 4 false,
   .canIntegrationDone 4,
   .txreq ⟨8, 0, 0⟩ 0 0,
   .txreq ⟨0, 0, 0⟩ 4 0,
   .txabort ⟨8, 0, 0⟩ 0 0,
   .txabort ⟨0, 0, 0⟩ 4 0,
   .canFrameStart 4 none,
   .canTxAttemptEnd 4 0 0 false 0,
   .canRxFrameValid 4 0 0 0 0 [] 0 0,
   .recover ⟨8, 0, 0⟩ 0,
   .recover ⟨0, 0, 0⟩ 4,
   .busOffRecoveryEnd 4,
   .cannTscLatch ⟨8, 0, 0⟩ 0,
   .cannTscLatch ⟨0, 0, 0⟩ 4,
   .cannRxfPop ⟨8, 0, 0⟩ 0,
   .cannRxfPop ⟨0, 0, 0⟩ 4,
   .twinEntryExpiry 4 0,
   .twinMissInterval 4] : List Instr).any (fun c => c.wf) = false := by decide

theorem test_ill_formed_4 : ([
   .sernTxdata ⟨8, 0, 0⟩ 0 0,
   .sernTxdata ⟨0, 0, 0⟩ 6 0,
   .sernRxdata ⟨8, 0, 0⟩ 0,
   .sernRxdata ⟨0, 0, 0⟩ 6,
   .serCharReceived 6 0 0 0,
   .serCharSent 6,
   .serIdleTimeout 6,
   .deRelease 6,
   .serErrorInterval 6,
   .bitioOutputEdge 6,
   .bitioInputEdge 6 0 0 false,
   .bitioInputEdge 0 2 0 false,
   .vdtLaneTraining 8 0 0,
   .vdtLaneTimeout 8,
   .vdtLaneDown 8,
   .vdtHb 8 0 0 [],
   .vdtAck 8 0,
   .vdtAck 0 4294967296,
   .vdtNak 8 0,
   .vdtNak 0 4294967296,
   .ackTimer 3,
   .replayTimeout 3,
   .mrec 8 0 0 0 0 0 0 [],
   .mrec 0 4294967296 0 0 0 0 0 [],
   .mrec 0 0 8 0 0 0 0 [],
   .brec 8 0 0 0 0 0 0 [],
   .brec 0 4294967296 0 0 0 0 0 [],
   .brec 0 0 8 0 0 0 0 [],
   .mirrorRecordSend 8,
   .mirrorQueueFullTimeout 8,
   .vdtClaim 8 0 0 0,
   .vdtClaim 0 4294967296 0 0,
   .vdtClaim 0 0 8 0,
   .yield 8 0 0 0,
   .yield 0 4294967296 0 0,
   .yield 0 0 8 0,
   .synced 8 0 0 0,
   .synced 0 4294967296 0 0,
   .synced 0 0 8 0,
   .resyncReq 8 0 0 0 0,
   .resyncReq 0 4294967296 0 0 0,
   .resyncReq 0 0 8 0 0,
   .refuse 8 0 0 0,
   .refuse 0 4294967296 0 0,
   .refuse 0 0 8 0,
   .vdtMsg 8 0 0 0 0 0 [],
   .vdtMsg 0 4294967296 0 0 0 0 [],
   .vdtMsg 0 0 8 0 0 0 [],
   .vdtMsg 0 0 0 0 0 8 [],
   .vdtMsg 0 0 0 0 0 0 (List.replicate 17 0#32),
   .mrsp 8 0 0 0 0 0,
   .mrsp 0 4294967296 0 0 0 0,
   .mrsp 0 0 8 0 0 0,
   .vdtDb 8 0 0 0 0,
   .vdtDb 0 4294967296 0 0 0,
   .vdtDb 0 0 8 0 0,
   .takeoverEdge 8,
   .undecidedTimeout 8,
   .handover ⟨8, 0, 0⟩ 0,
   .handover ⟨0, 0, 0⟩ 8] : List Instr).any (fun c => c.wf) = false := by decide

theorem test_ill_formed_5 : ([
   .vdtTake ⟨8, 0, 0⟩ 0,
   .vdtTake ⟨0, 0, 0⟩ 8,
   .selfFault ⟨8, 0, 0⟩,
   .linkRestart ⟨8, 0, 0⟩ false,
   .trsRd 8 0 0 0 0 0 0 0 [],
   .trsRd 0 4294967296 0 0 0 0 0 0 [],
   .trsRd 0 0 8 0 0 0 0 0 [],
   .trsRd 0 0 0 8 0 0 0 0 [],
   .trsRd 0 0 0 0 65536 0 0 0 [],
   .trsRd 0 0 0 0 0 64 0 0 [],
   .trsRd 0 0 0 0 0 0 7 0 [],
   .trsRd 0 0 0 0 0 0 0 134217728 [],
   .trsWr 8 0 0 0 0 0 0 0 [],
   .trsWr 0 4294967296 0 0 0 0 0 0 [],
   .trsWr 0 0 8 0 0 0 0 0 [],
   .trsWr 0 0 0 8 0 0 0 0 [],
   .trsWr 0 0 0 0 65536 0 0 0 [],
   .trsWr 0 0 0 0 0 64 0 0 [],
   .trsWr 0 0 0 0 0 0 7 0 [],
   .trsWr 0 0 0 0 0 0 0 134217728 [],
   .trsRdr 8 0 0 0 0 0 0 [],
   .trsRdr 0 4294967296 0 0 0 0 0 [],
   .trsRdr 0 0 8 0 0 0 0 [],
   .trsRdr 0 0 0 8 0 0 0 [],
   .trsRdr 0 0 0 0 65536 0 0 [],
   .trsRdr 0 0 0 0 0 64 0 [],
   .trsRsp 8 0 0 0 0 0 0,
   .trsRsp 0 4294967296 0 0 0 0 0,
   .trsRsp 0 0 8 0 0 0 0,
   .trsRsp 0 0 0 8 0 0 0,
   .trsRsp 0 0 0 0 65536 0 0,
   .trsRsp 0 0 0 0 0 64 0,
   .trsMsg 8 0 0 0 0 0 0 0 [],
   .trsMsg 0 4294967296 0 0 0 0 0 0 [],
   .trsMsg 0 0 8 0 0 0 0 0 [],
   .trsMsg 0 0 0 8 0 0 0 0 [],
   .trsMsg 0 0 0 0 65536 0 0 0 [],
   .trsMsg 0 0 0 0 0 64 0 0 [],
   .trsMsg 0 0 0 0 0 0 0 0 (List.replicate 17 0#32),
   .trsDb 8 0 0 0 0 0 0,
   .trsDb 0 4294967296 0 0 0 0 0,
   .trsDb 0 0 8 0 0 0 0,
   .trsDb 0 0 0 8 0 0 0,
   .trsDb 0 0 0 0 65536 0 0,
   .trsDb 0 0 0 0 0 64 0,
   .trsIrq 8 0 0 0 0 false,
   .trsIrq 0 4294967296 0 0 0 false,
   .trsIrq 0 0 8 0 0 false,
   .trsIrq 0 0 0 8 0 false,
   .sirq 8 0 0 0,
   .sirq 0 4294967296 0 0,
   .sirq 0 0 8 0,
   .trsSirqSend ⟨8, 0, 0⟩ 0,
   .timeFrame 8 0 0 0 0 0 0 none,
   .timeFrame 0 4294967296 0 0 0 0 0 none,
   .timeFrame 0 0 8 0 0 0 0 none,
   .trsClaim 8 0 0 0 0 0 0 0 0,
   .trsClaim 0 4294967296 0 0 0 0 0 0 0,
   .trsClaim 0 0 8 0 0 0 0 0 0,
   .trsClaim 0 0 0 8 0 0 0 0 0] : List Instr).any (fun c => c.wf) = false := by decide

theorem test_ill_formed_6 : ([
   .trsClaim 0 0 0 0 8 0 0 0 0,
   .claimRsp 8 0 0 0 0 0 0 0,
   .claimRsp 0 4294967296 0 0 0 0 0 0,
   .claimRsp 0 0 8 0 0 0 0 0,
   .claimRsp 0 0 0 8 0 0 0 0,
   .claimRsp 0 0 0 0 8 0 0 0,
   .trsRoute 8 0 0 0 0 0,
   .trsRoute 0 4294967296 0 0 0 0,
   .trsRoute 0 0 8 0 0 0,
   .trsTopo 8 0 0 0 0 0 0,
   .trsTopo 0 4294967296 0 0 0 0 0,
   .trsTopo 0 0 8 0 0 0 0,
   .trsHb 8 0 [],
   .hopLost 8,
   .routeBreakTimeout 8,
   .trsRequestTimeout 8 0,
   .trsRequestTimeout 0 65536,
   .drvStart ⟨8, 0, 0⟩ 0 false,
   .drvStart ⟨0, 0, 0⟩ 2 false,
   .drvStop ⟨8, 0, 0⟩ 0,
   .drvStop ⟨0, 0, 0⟩ 2,
   .coast ⟨8, 0, 0⟩ 0,
   .coast ⟨0, 0, 0⟩ 2,
   .psetLoad ⟨8, 0, 0⟩ 0 0,
   .psetLoad ⟨0, 0, 0⟩ 2 0,
   .psetLoad ⟨0, 0, 0⟩ 0 16,
   .decisionTick 2,
   .decisionApply 2,
   .deadTimeEnd 2 0,
   .deadTimeEnd 0 3,
   .legChangeDeferred 2 0,
   .legChangeDeferred 0 3,
   .bandWindowEnd 2,
   .positionTestPulse 2 0 false,
   .magTimeExpiry 2,
   .catchSpinStep 2 0 0,
   .losClearExpiry 2,
   .kineticHoldExit 2,
   .overcurrentTrip 2 0 false false,
   .overcurrentTrip 0 3 false false,
   .gateDriverFault 2 false,
   .desaturation 2 0 false,
   .desaturation 0 3 false,
   .gateReadbackMismatch 2 0 false,
   .gateReadbackMismatch 0 6 false,
   .tripClear ⟨8, 0, 0⟩ 0,
   .tripClear ⟨0, 0, 0⟩ 2,
   .chopperDutyInterval 2,
   .seqGo ⟨8, 0, 0⟩ 0 0,
   .seqGo ⟨0, 0, 0⟩ 4 0,
   .seqGo ⟨0, 0, 0⟩ 0 4,
   .adcConversionEnd 4 0,
   .adcInternalCheck 4,
   .adcnQflush ⟨8, 0, 0⟩ 0,
   .adcnQflush ⟨0, 0, 0⟩ 4,
   .sdmDataOutput 8 0,
   .sdmComparatorOutput 8 0,
   .sdmSaturation 8 false false,
   .sdmStuck 8 false,
   .sdmnQflush ⟨8, 0, 0⟩ 0] : List Instr).any (fun c => c.wf) = false := by decide

theorem test_ill_formed_7 : ([
   .sdmnQflush ⟨0, 0, 0⟩ 8,
   .supEn ⟨8, 0, 0⟩ false,
   .supDetect ⟨8, 0, 0⟩ 0#32,
   .learnReset ⟨8, 0, 0⟩,
   .cloRegulatorStep 2 0 0,
   .cliMeasurement 2 0,
   .capEn ⟨8, 0, 0⟩ false false,
   .recal ⟨8, 0, 0⟩,
   .calReload ⟨8, 0, 0⟩,
   .filmReferenceCheck 8 0,
   .tagInvCmd ⟨8, 0, 0⟩ 0 0 false,
   .tagInvCmd ⟨0, 0, 0⟩ 256 0 false,
   .tagInvCmd ⟨0, 0, 0⟩ 0 4 false,
   .tagInvAbort ⟨8, 0, 0⟩,
   .pinCommitGo ⟨8, 0, 0⟩ 0,
   .pinCommitGo ⟨0, 0, 0⟩ 8,
   .pinCommitArm ⟨8, 0, 0⟩ 0,
   .pinCommitArm ⟨0, 0, 0⟩ 8,
   .pinCommitSwitch 128 false,
   .gpioSet ⟨8, 0, 0⟩ 0 0#32,
   .gpioSet ⟨0, 0, 0⟩ 4 0#32,
   .gpioClr ⟨8, 0, 0⟩ 0 0#32,
   .gpioClr ⟨0, 0, 0⟩ 4 0#32,
   .gpioInputEdge 128 false,
   .pinReadbackMismatch 128 false,
   .stageWr ⟨256, 0, 0, [], true, true⟩,
   .stageRd ⟨256, 0, 0, [], true, true⟩,
   .statusRd ⟨256, 0, 0, [], true, true⟩,
   .cmdWr ⟨256, 0, 0, [], true, true⟩ 0,
   .cmdWr ⟨0, 0, 0, [], true, true⟩ 3,
   .cplRd ⟨256, 0, 0, [], true, true⟩,
   .cplAck ⟨256, 0, 0, [], true, true⟩,
   .hdbWr ⟨256, 0, 0, [], true, true⟩,
   .ddbRd ⟨256, 0, 0, [], true, true⟩,
   .hifSpiDdb ⟨8, 0, 0⟩ 0#32,
   .pcieOutboundTimeout ⟨8, 0, 0⟩ false 0,
   .hifQspiCmd ⟨8, 0, 0⟩ 0#32,
   .registerWrite ⟨8, 0, 0⟩ 0 0#32,
   .registerWrite ⟨0, 0, 0⟩ 1099511627776 0#32,
   .engineInstruction 12 .health,
   .laneFrameEnd 8,
   .laneFrameDiscard 8,
   .replayRateInterval 3,
   .laneNotUpTimeout 8,
   .poleVoltageTrigger 2] : List Instr).any (fun c => c.wf) = false := by decide

end Sys2Proof.Tests
end

section
/-! SUPPORT.
Steps: every command answers a next state and keeps the canonical form (O49, O51). -/

namespace Sys2Proof.Machine

/-! ### The canonical form -/

/-- Command by command, each by the lemma about its own meaning; the command that writes the flash stands apart.
RECALL comes last, without its name, which is a word of Mathlib's. -/
theorem exec_keptH {s0 s : State} (h : Kept s0 s) (c : Instr) (hc : ∀ d o b, c ≠ .qspiCommandDone d o b) :
    KeptH s0 (exec c s) := by
  cases c with
  | powerOnReset _ _ => exact execPowerOnReset_kept h
  | resetnLow _ _ _ => exact execResetnLow_kept h
  | sysDevRst _ _ => exact execSysDevRst_kept h
  | systemPllLock => exact execSystemPllLock_kept h
  | zeroizationEnd _ => exact execZeroizationEnd_kept h
  | imageLoadDone _ => exact execImageLoadDone_kept h
  | bayRelease _ => exact execBayRelease_kept h
  | referenceLoss _ => exact execReferenceLoss_kept h
  | pllUnlock => exact execPllUnlock_kept h
  | referenceGoodRestart => exact execReferenceGoodRestart_kept h
  | coreUnderVoltage => exact execCoreUnderVoltage_kept h
  | railUnderVoltage _ => exact execRailUnderVoltage_kept h
  | supplyGoodRestart _ => exact execSupplyGoodRestart_kept h
  | ioRailLow _ => exact execIoRailLow_kept h
  | ioRailRestored _ _ => exact execIoRailRestored_kept h
  | lpoCalibration _ => exact execLpoCalibration_kept h
  | lanePllLock _ => exact execLanePllLock_kept h
  | lanePllUnlock _ => exact execLanePllUnlock_kept h
  | dozeEnter => exact execDozeEnter_kept h
  | dozeExit => exact execDozeExit_kept h
  | sleepRequest _ => exact execSleepRequest_kept h
  | sleepDrained => exact execSleepDrained_kept h
  | sleepCommit => exact execSleepCommit_kept h
  | sleepRetention => exact execSleepRetention_kept h
  | offRequest _ => exact execOffRequest_kept h
  | offCommit => exact execOffCommit_kept h
  | wakenFall => exact execWakenFall_kept h
  | wakePinEdge _ _ => exact execWakePinEdge_kept h
  | wakeTimerExpiry => exact execWakeTimerExpiry_kept h
  | wakeFromSleep _ => exact execWakeFromSleep_kept h
  | wakePllLock => exact execWakePllLock_kept h
  | wakePllTimeout => exact execWakePllTimeout_kept h
  | wakeFromOff _ => exact execWakeFromOff_kept h
  | coreSupplyGood => exact execCoreSupplyGood_kept h
  | settleExpiry => exact execSettleExpiry_kept h
  | coreSupplyTimeout => exact execCoreSupplyTimeout_kept h
  | query _ => exact execQuery_kept h
  | halvikAbort _ => exact execHalvikAbort_kept h
  | nonce _ => exact execNonce_kept h
  | bsLoad _ => exact execBsLoad_kept h
  | slotOpen _ _ => exact execSlotOpen_kept h
  | slotWrite _ _ => exact execSlotWrite_kept h
  | slotClose _ _ => exact execSlotClose_kept h
  | slotCommit _ _ => exact execSlotCommit_kept h
  | slotErase _ _ => exact execSlotErase_kept h
  | confirmTimerExpiry => exact execConfirmTimerExpiry_kept h
  | deltaApply _ => exact execDeltaApply_kept h
  | deltaSwap => exact execDeltaSwap_kept h
  | deltaCommit => exact execDeltaCommit_kept h
  | deltaRollback => exact execDeltaRollback_kept h
  | deltaDeferTimeout => exact execDeltaDeferTimeout_kept h
  | bayReady _ => exact execBayReady_kept h
  | imageLoad _ => exact execImageLoad_kept h
  | keyProvision _ => exact execKeyProvision_kept h
  | keyRevoke _ => exact execKeyRevoke_kept h
  | secverRaise _ => exact execSecverRaise_kept h
  | bootOnce _ => exact execBootOnce_kept h
  | cplTail _ _ _ => exact execCplTail_kept h
  | selfRst _ _ => exact execSelfRst_kept h
  | bayRst _ _ => exact execBayRst_kept h
  | bayStop _ _ => exact execBayStop_kept h
  | bayStart _ _ => exact execBayStart_kept h
  | bayReset _ => exact execBayReset_kept h
  | bankZeroingEnd _ => exact execBankZeroingEnd_kept h
  | wdtKick _ _ _ => exact execWdtKick_kept h
  | wdtWarning _ => exact execWdtWarning_kept h
  | wdtExpiry _ => exact execWdtExpiry_kept h
  | coreInstruction _ _ => exact execCoreInstruction_kept h
  | fabricTransfer _ _ => exact execFabricTransfer_kept h
  | eccWriteback _ => exact execEccWriteback_kept h
  | mtimecmpReached _ => exact execMtimecmpReached_kept h
  | mipi _ _ => exact execMipi_kept h
  | mstlatch _ _ => exact execMstlatch_kept h
  | mfinj _ _ => exact execMfinj_kept h
  | debugAuthdata _ => exact execDebugAuthdata_kept h
  | jtagTrst => exact execJtagTrst_kept h
  | restart _ _ => exact execRestart_kept h
  | engineHealthMissed _ => exact execEngineHealthMissed_kept h
  | engineBodyCheck _ _ => exact execEngineBodyCheck_kept h
  | engineTrap _ _ => exact execEngineTrap_kept h
  | retestStart _ => exact execRetestStart_kept h
  | retestEnd _ _ _ _ => exact execRetestEnd_kept h
  | retestIntervalTimeout _ => exact execRetestIntervalTimeout_kept h
  | logBucketRefill => exact execLogBucketRefill_kept h
  | fltnNtfPop _ _ => exact execFltnNtfPop_kept h
  | fltInjGo _ => exact execFltInjGo_kept h
  | rowTestStart _ => exact execRowTestStart_kept h
  | rowTestSwitchover => exact execRowTestSwitchover_kept h
  | rowTestEnd _ _ => exact execRowTestEnd_kept h
  | nvmPgCmd _ _ _ => exact execNvmPgCmd_kept h
  | nvmPageCommit _ _ _ => exact execNvmPageCommit_kept h
  | txData _ _ _ _ => exact execTxData_kept h
  | txLast _ _ _ _ => exact execTxLast_kept h
  | mbxDb _ _ _ => exact execMbxDb_kept h
  | rxData _ _ _ => exact execRxData_kept h
  | boundMessageAccept _ => exact execBoundMessageAccept_kept h
  | boundMessageRefused _ _ => exact execBoundMessageRefused_kept h
  | queuePost _ _ _ _ => exact execQueuePost_kept h
  | descriptorFetch _ _ => exact execDescriptorFetch_kept h
  | descriptorCompletion _ _ => exact execDescriptorCompletion_kept h
  | completionRingWait _ _ => exact execCompletionRingWait_kept h
  | queueEn _ _ _ _ => exact execQueueEn_kept h
  | queueAbort _ _ _ _ => exact execQueueAbort_kept h
  | steadyHalfwrap => exact execSteadyHalfwrap_kept h
  | timeSteadyLo _ => exact execTimeSteadyLo_kept h
  | timeSrvRate _ _ => exact execTimeSrvRate_kept h
  | timeSrvCorr _ _ => exact execTimeSrvCorr_kept h
  | slewEnd => exact execSlewEnd_kept h
  | timeSrcTimeout => exact execTimeSrcTimeout_kept h
  | timeStep _ => exact execTimeStep_kept h
  | timeSlew _ => exact execTimeSlew_kept h
  | timeSet _ => exact execTimeSet_kept h
  | journalPeriodic => exact execJournalPeriodic_kept h
  | steadyCounterMismatch _ => exact execSteadyCounterMismatch_kept h
  | tevArm _ _ _ => exact execTevArm_kept h
  | tevFire _ => exact execTevFire_kept h
  | tevPulseEnd _ => exact execTevPulseEnd_kept h
  | tevDisarm _ _ => exact execTevDisarm_kept h
  | tcapEdge _ _ _ => exact execTcapEdge_kept h
  | tcapStamp _ _ => exact execTcapStamp_kept h
  | cycleStart _ => exact execCycleStart_kept h
  | windowStart _ _ _ => exact execWindowStart_kept h
  | windowEnd _ _ _ _ => exact execWindowEnd_kept h
  | commonIoInstant _ _ => exact execCommonIoInstant_kept h
  | trimReq _ _ _ => exact execTrimReq_kept h
  | trimDone _ => exact execTrimDone_kept h
  | ethEn _ _ _ => exact execEthEn_kept h
  | ethLinkChange _ _ _ => exact execEthLinkChange_kept h
  | phyPoll _ _ => exact execPhyPoll_kept h
  | mdioGo _ _ _ _ _ _ => exact execMdioGo_kept h
  | mdioDone _ _ => exact execMdioDone_kept h
  | ethFrameReady _ _ _ => exact execEthFrameReady_kept h
  | ethTxFrameStart _ => exact execEthTxFrameStart_kept h
  | ethTxFrameDone _ _ => exact execEthTxFrameDone_kept h
  | ethRxFrame _ _ _ _ _ _ _ => exact execEthRxFrame_kept h
  | ethnPtpfInfo _ _ => exact execEthnPtpfInfo_kept h
  | prpEntryExpiry _ _ _ => exact execPrpEntryExpiry_kept h
  | prpMissInterval _ => exact execPrpMissInterval_kept h
  | prpSupervisionSend _ => exact execPrpSupervisionSend_kept h
  | fcsErrorInterval _ => exact execFcsErrorInterval_kept h
  | blockLockLoss _ => exact execBlockLockLoss_kept h
  | canEn _ _ _ => exact execCanEn_kept h
  | canIntegrationDone _ => exact execCanIntegrationDone_kept h
  | txreq _ _ _ => exact execTxreq_kept h
  | txabort _ _ _ => exact execTxabort_kept h
  | canFrameStart _ _ => exact execCanFrameStart_kept h
  | canTxAttemptEnd _ _ _ _ _ => exact execCanTxAttemptEnd_kept h
  | canRxFrameValid _ _ _ _ _ _ _ _ => exact execCanRxFrameValid_kept h
  | recover _ _ => exact execRecover_kept h
  | busOffRecoveryEnd _ => exact execBusOffRecoveryEnd_kept h
  | cannTscLatch _ _ => exact execCannTscLatch_kept h
  | cannRxfPop _ _ => exact execCannRxfPop_kept h
  | twinEntryExpiry _ _ => exact execTwinEntryExpiry_kept h
  | twinMissInterval _ => exact execTwinMissInterval_kept h
  | sernTxdata _ _ _ => exact execSernTxdata_kept h
  | sernRxdata _ _ => exact execSernRxdata_kept h
  | serCharReceived _ _ _ _ => exact execSerCharReceived_kept h
  | serCharSent _ => exact execSerCharSent_kept h
  | serIdleTimeout _ => exact execSerIdleTimeout_kept h
  | deRelease _ => exact execDeRelease_kept h
  | serErrorInterval _ => exact execSerErrorInterval_kept h
  | bitioOutputEdge _ => exact execBitioOutputEdge_kept h
  | bitioInputEdge _ _ _ _ => exact execBitioInputEdge_kept h
  | vdtLaneTraining _ _ _ => exact execVdtLaneTraining_kept h
  | vdtLaneTimeout _ => exact execVdtLaneTimeout_kept h
  | vdtLaneDown _ => exact execVdtLaneDown_kept h
  | hbSend => exact execHbSend_kept h
  | vdtHb _ _ _ _ => exact execVdtHb_kept h
  | vdtAck _ _ => exact execVdtAck_kept h
  | vdtNak _ _ => exact execVdtNak_kept h
  | ackTimer _ => exact execAckTimer_kept h
  | replayTimeout _ => exact execReplayTimeout_kept h
  | mrec _ _ _ _ _ _ _ _ => exact execMrec_kept h
  | brec _ _ _ _ _ _ _ _ => exact execBrec_kept h
  | mirrorRecordSend _ => exact execMirrorRecordSend_kept h
  | mirrorQueueFullTimeout _ => exact execMirrorQueueFullTimeout_kept h
  | vdtClaim _ _ _ _ => exact execVdtClaim_kept h
  | yield _ _ _ _ => exact execYield_kept h
  | synced _ _ _ _ => exact execSynced_kept h
  | resyncReq _ _ _ _ _ => exact execResyncReq_kept h
  | refuse _ _ _ _ => exact execRefuse_kept h
  | vdtMsg _ _ _ _ _ _ _ => exact execVdtMsg_kept h
  | mrsp _ _ _ _ _ _ => exact execMrsp_kept h
  | vdtDb _ _ _ _ _ => exact execVdtDb_kept h
  | heartbeatMiss => exact execHeartbeatMiss_kept h
  | witnessChange _ => exact execWitnessChange_kept h
  | witnessDisagree => exact execWitnessDisagree_kept h
  | takeoverEdge _ => exact execTakeoverEdge_kept h
  | undecidedTimeout _ => exact execUndecidedTimeout_kept h
  | handover _ _ => exact execHandover_kept h
  | vdtTake _ _ => exact execVdtTake_kept h
  | selfFault _ => exact execSelfFault_kept h
  | linkRestart _ _ => exact execLinkRestart_kept h
  | pairTimeFollow _ => exact execPairTimeFollow_kept h
  | trsRd _ _ _ _ _ _ _ _ _ => exact execTrsRd_kept h
  | trsWr _ _ _ _ _ _ _ _ _ => exact execTrsWr_kept h
  | trsRdr _ _ _ _ _ _ _ _ => exact execTrsRdr_kept h
  | trsRsp _ _ _ _ _ _ _ => exact execTrsRsp_kept h
  | trsMsg _ _ _ _ _ _ _ _ _ => exact execTrsMsg_kept h
  | trsDb _ _ _ _ _ _ _ => exact execTrsDb_kept h
  | trsIrq _ _ _ _ _ _ => exact execTrsIrq_kept h
  | sirq _ _ _ _ => exact execSirq_kept h
  | trsSirqSend _ _ => exact execTrsSirqSend_kept h
  | timeFrame _ _ _ _ _ _ _ _ => exact execTimeFrame_kept h
  | timeFrameSend => exact execTimeFrameSend_kept h
  | stackTimeFollow _ => exact execStackTimeFollow_kept h
  | trsClaim _ _ _ _ _ _ _ _ _ => exact execTrsClaim_kept h
  | claimRsp _ _ _ _ _ _ _ _ => exact execClaimRsp_kept h
  | trsRoute _ _ _ _ _ _ => exact execTrsRoute_kept h
  | trsTopo _ _ _ _ _ _ _ => exact execTrsTopo_kept h
  | trsHb _ _ _ => exact execTrsHb_kept h
  | hopLost _ => exact execHopLost_kept h
  | routeBreakTimeout _ => exact execRouteBreakTimeout_kept h
  | trsRequestTimeout _ _ => exact execTrsRequestTimeout_kept h
  | stackFormed => exact execStackFormed_kept h
  | drvStart _ _ _ => exact execDrvStart_kept h
  | drvStop _ _ => exact execDrvStop_kept h
  | coast _ _ => exact execCoast_kept h
  | psetLoad _ _ _ => exact execPsetLoad_kept h
  | decisionTick _ => exact execDecisionTick_kept h
  | decisionApply _ => exact execDecisionApply_kept h
  | deadTimeEnd _ _ => exact execDeadTimeEnd_kept h
  | legChangeDeferred _ _ => exact execLegChangeDeferred_kept h
  | bandWindowEnd _ => exact execBandWindowEnd_kept h
  | positionTestPulse _ _ _ => exact execPositionTestPulse_kept h
  | magTimeExpiry _ => exact execMagTimeExpiry_kept h
  | catchSpinStep _ _ _ => exact execCatchSpinStep_kept h
  | losClearExpiry _ => exact execLosClearExpiry_kept h
  | kineticHoldExit _ => exact execKineticHoldExit_kept h
  | overcurrentTrip _ _ _ _ => exact execOvercurrentTrip_kept h
  | gateDriverFault _ _ => exact execGateDriverFault_kept h
  | desaturation _ _ _ => exact execDesaturation_kept h
  | gateReadbackMismatch _ _ _ => exact execGateReadbackMismatch_kept h
  | tripClear _ _ => exact execTripClear_kept h
  | chopperDutyInterval _ => exact execChopperDutyInterval_kept h
  | seqGo _ _ _ => exact execSeqGo_kept h
  | adcConversionEnd _ _ => exact execAdcConversionEnd_kept h
  | adcInternalCheck _ => exact execAdcInternalCheck_kept h
  | adcnQflush _ _ => exact execAdcnQflush_kept h
  | sdmDataOutput _ _ => exact execSdmDataOutput_kept h
  | sdmComparatorOutput _ _ => exact execSdmComparatorOutput_kept h
  | sdmSaturation _ _ _ => exact execSdmSaturation_kept h
  | sdmStuck _ _ => exact execSdmStuck_kept h
  | sdmnQflush _ _ => exact execSdmnQflush_kept h
  | supAinRequest => exact execSupAinRequest_kept h
  | supMillisecond => exact execSupMillisecond_kept h
  | shedTrigger => exact execShedTrigger_kept h
  | holdExpiry => exact execHoldExpiry_kept h
  | restoreStep => exact execRestoreStep_kept h
  | shedPowerMeasurement => exact execShedPowerMeasurement_kept h
  | supLp10Write => exact execSupLp10Write_kept h
  | supEn _ _ => exact execSupEn_kept h
  | supDetect _ _ => exact execSupDetect_kept h
  | learnReset _ => exact execLearnReset_kept h
  | dewClear => exact execDewClear_kept h
  | cloRegulatorStep _ _ _ => exact execCloRegulatorStep_kept h
  | cliMeasurement _ _ => exact execCliMeasurement_kept h
  | capEn _ _ _ => exact execCapEn_kept h
  | capScan _ => exact execCapScan_kept h
  | recal _ => exact execRecal_kept h
  | calReload _ => exact execCalReload_kept h
  | sleepSlowScan _ => exact execSleepSlowScan_kept h
  | filmReferenceCheck _ _ => exact execFilmReferenceCheck_kept h
  | tagInvCmd _ _ _ _ => exact execTagInvCmd_kept h
  | tagAutoInventory => exact execTagAutoInventory_kept h
  | tagInvAbort _ => exact execTagInvAbort_kept h
  | receiverCheckEnd _ => exact execReceiverCheckEnd_kept h
  | fieldSettleEnd => exact execFieldSettleEnd_kept h
  | tagSlot _ => exact execTagSlot_kept h
  | tagInventoryDone => exact execTagInventoryDone_kept h
  | pinCommitGo _ _ => exact execPinCommitGo_kept h
  | pinCommitArm _ _ => exact execPinCommitArm_kept h
  | pinCommitSwitch _ _ => exact execPinCommitSwitch_kept h
  | gpioSet _ _ _ => exact execGpioSet_kept h
  | gpioClr _ _ _ => exact execGpioClr_kept h
  | gpioInputEdge _ _ => exact execGpioInputEdge_kept h
  | pinReadbackMismatch _ _ => exact execPinReadbackMismatch_kept h
  | stageWr _ => exact execStageWr_kept h
  | stageRd _ => exact execStageRd_kept h
  | statusRd _ => exact execStatusRd_kept h
  | cmdWr _ _ => exact execCmdWr_kept h
  | cplRd _ => exact execCplRd_kept h
  | cplAck _ => exact execCplAck_kept h
  | hdbWr _ => exact execHdbWr_kept h
  | ddbRd _ => exact execDdbRd_kept h
  | hifSpiDdb _ _ => exact execHifSpiDdb_kept h
  | bar0Hdb _ => exact execBar0Hdb_kept h
  | bar0Ddb => exact execBar0Ddb_kept h
  | pciePerst => exact execPciePerst_kept h
  | pcieLinkChange _ _ _ _ _ _ => exact execPcieLinkChange_kept h
  | pcieOutboundTimeout _ _ _ => exact execPcieOutboundTimeout_kept h
  | hifQspiCmd _ _ => exact execHifQspiCmd_kept h
  | qspiCommandDone d o b => exact absurd rfl (hc d o b)
  | registerWrite _ _ _ => exact execRegisterWrite_kept h
  | engineInstruction _ _ => exact execEngineInstruction_kept h
  | debugModuleAccess _ => exact execDebugModuleAccess_kept h
  | laneFrameEnd _ => exact execLaneFrameEnd_kept h
  | laneFrameDiscard _ => exact execLaneFrameDiscard_kept h
  | replayRateInterval _ => exact execReplayRateInterval_kept h
  | laneNotUpTimeout _ => exact execLaneNotUpTimeout_kept h
  | configurationHoldTimeout => exact execConfigurationHoldTimeout_kept h
  | supConfirmExpiry _ => exact execSupConfirmExpiry_kept h
  | capTempSwTimeout => exact execCapTempSwTimeout_kept h
  | antSettleEnd => exact execAntSettleEnd_kept h
  | antennaLoadFault _ => exact execAntennaLoadFault_kept h
  | poleVoltageTrigger _ => exact execPoleVoltageTrigger_kept h
  | bar2Access _ _ _ _ => exact execBar2Access_kept h
  | alwaysOnSupplyValid _ => exact execAlwaysOnSupplyValid_kept h
  | _ => exact execRecall_kept h

/-- QSPI_COMMAND_DONE writes the flash byte by byte, which keeps its canonical form; no other command touches it. -/
theorem exec_canon {c : Instr} {s t : State} (hs : s.canon = true) (h : exec c s = .next t) : t.canon = true := by
  by_cases hc : ∃ d o b, c = .qspiCommandDone d o b
  · obtain ⟨d, o, b, rfl⟩ := hc
    exact (execQspiCommandDone_canon h).1 hs
  · exact (exec_keptH (Kept.refl s) c (fun d o b e => hc ⟨d, o, b, e⟩) t h).canon hs

/-- Settles O49: a step is the idle clock edge, or a command run on the state with the rest of the queue, which is in
canonical form as the whole state is. -/
theorem everyStepKeepsCanon : Obligations.EveryStepKeepsCanon := by
  intro s t hs h
  unfold step at h
  split at h
  · exact (KeptH.next (State.tick_kept (Kept.refl s)) t h).canon hs
  next c rest _ =>
    have hrest : ({ s with pending := rest } : State).canon = true := hs
    exact exec_canon hrest h

/-! ### No command stops -/

/-- Every meaning ends in `answer`, whatever its checks decide. -/
theorem exec_eq_next (c : Instr) (s : State) : ∃ t, exec c s = .next t := by
  cases c <;> exact ⟨_, rfl⟩

/-- Settles O51: on an empty queue the clock edge answers, elsewhere the command at its front. -/
theorem noCommandStops : Obligations.NoCommandStops := by
  intro s
  unfold Safe step
  split
  · exact ⟨_, rfl⟩
  next c rest _ => exact exec_eq_next c { s with pending := rest }

end Sys2Proof.Machine
end

section
/-! SUPPORT.
Register writes by access codes (O53). -/

namespace Sys2Proof.Machine

theorem State.regsOk_of_canon {s : State} (h : s.canon = true) : s.regsOk := by
  unfold State.canon at h
  simp only [Bool.and_eq_true] at h
  obtain ⟨⟨⟨⟨⟨hregs, -⟩, -⟩, -⟩, -⟩, -⟩ := h
  exact hregs

/-! ### Masks of the register table -/

/-- Fields that share no bit. -/
def FldDef.apart (f g : FldDef) : Bool := decide (f.lo + f.w ≤ g.lo) || decide (g.lo + g.w ≤ f.lo)

/-- A property of the tables: no two fields of a register share a bit. -/
theorem regTable_fields_apart : ∀ r ∈ regTable, r.fields.Pairwise (fun f g => f.apart g = true) := by
  decide +kernel

theorem FldDef.getLsbD_mask (f : FldDef) (n : Nat) :
    f.mask.getLsbD n = (decide (n < 32) && decide (f.lo ≤ n) && decide (n < f.lo + f.w)) := by
  unfold FldDef.mask
  rw [BitVec.getLsbD_ofNat, testBit_mask, Bool.and_assoc]

/-- Two different fields of a register of the tables share no bit. -/
theorem regTable_apart {a : Nat} {r : RegDef} (hr : regAt a = some r) {f g : FldDef} (hf : f ∈ r.fields) (hg : g ∈ r.fields)
    (hne : g ≠ f) : f.lo + f.w ≤ g.lo ∨ g.lo + g.w ≤ f.lo := by
  have hpair := List.pairwise_iff_getElem.mp (regTable_fields_apart r (List.mem_of_find?_eq_some hr))
  simp only [FldDef.apart, Bool.or_eq_true, decide_eq_true_eq] at hpair
  obtain ⟨i, hi, rfl⟩ := List.mem_iff_getElem.mp hf
  obtain ⟨j, hj, rfl⟩ := List.mem_iff_getElem.mp hg
  rcases Nat.lt_trichotomy i j with hij | rfl | hij
  · exact hpair i j hi hj hij
  · exact absurd rfl hne
  · exact (hpair j i hj hi hij).symm

/-- A bit lies in a union of masks where it lies in the mask of a field chosen. -/
theorem RegDef.getLsbD_maskOf (r : RegDef) (p : FldDef → Bool) (n : Nat) :
    (r.maskOf p).getLsbD n = r.fields.any (fun f => p f && f.mask.getLsbD n) := by
  have acc : ∀ (l : List FldDef) (m : Word),
      (l.foldl (fun m f => if p f then m ||| f.mask else m) m).getLsbD n =
        (m.getLsbD n || l.any (fun f => p f && f.mask.getLsbD n)) := by
    intro l
    induction l with
    | nil => simp
    | cons f l ih =>
      intro m
      rw [List.foldl_cons, ih, List.any_cons]
      cases p f <;> simp [Bool.or_assoc]
  simpa [RegDef.maskOf] using acc r.fields 0#32

/-- A bit of a field of the tables lies in no mask that leaves the field out. -/
theorem RegDef.getLsbD_maskOf_eq_false {a : Nat} {r : RegDef} {f : FldDef} {n : Nat} (hr : regAt a = some r)
    (hf : f ∈ r.fields) (hlo : f.lo ≤ n) (hhi : n < f.lo + f.w) {p : FldDef → Bool} (hp : p f = false) :
    (r.maskOf p).getLsbD n = false := by
  rw [RegDef.getLsbD_maskOf, List.any_eq_false]
  intro g hg
  by_cases hgf : g = f
  · simp [hgf, hp]
  · have hap := regTable_apart hr hf hg hgf
    simp only [FldDef.getLsbD_mask, Bool.and_eq_true, decide_eq_true_eq]
    omega

/-! ### Writes -/

/-- A register write changes the register file alone. -/
theorem State.writeRaw_eq_regs (s : State) (a : Nat) (w keep : Word) :
    s.writeRaw a w keep = { s with regs := (s.writeRaw a w keep).regs } := by
  unfold State.writeRaw
  split <;> rfl

/-- A register reads its stored word without the WO fields. -/
theorem State.wordAt_of_regAt (s : State) {a : Nat} {r : RegDef} (hr : regAt a = some r) :
    s.wordAt a = (SMap.get 0#32 s.regs a ^^^ BitVec.ofNat 32 r.rst) &&& r.maskOf (fun f => decide (f.acc ≠ Acc.wo)) := by
  unfold State.wordAt
  rw [hr]

/-- The bits that a write replaces: those of RW fields, and of WL fields while unlocked. -/
def State.replaced (s : State) (a : Nat) (r : RegDef) : Word :=
  r.maskOf (fun f => decide (f.acc = Acc.rw) || (s.unlocked a && decide (f.acc = Acc.wl)))

/-- The bits that a write of a 1 clears. -/
def RegDef.cleared (r : RegDef) : Word := r.maskOf (fun f => decide (f.acc = Acc.w1c))

/-- What a register reads after a write by access codes. -/
theorem State.wordAt_writeRaw {s : State} (h : s.regsOk) {a : Nat} {r : RegDef} (hr : regAt a = some r) (w keep : Word) :
    (s.writeRaw a w keep).wordAt a =
      (((SMap.get 0#32 s.regs a ^^^ BitVec.ofNat 32 r.rst) &&&
          ~~~((s.replaced a r &&& ~~~keep) ||| (r.cleared &&& w &&& ~~~keep))) |||
        (w &&& (s.replaced a r &&& ~~~keep))) &&& r.maskOf (fun f => decide (f.acc ≠ Acc.wo)) := by
  rw [State.wordAt_of_regAt _ hr]
  unfold State.writeRaw
  simp only [hr]
  rw [SMap.get_set_same a _ h, BitVec.xor_assoc, BitVec.xor_self, BitVec.xor_zero]
  rfl

/-- A word keeps the bits that are neither replaced nor cleared. -/
theorem getLsbD_replace_clear {rw c : Word} {n : Nat} (hrw : rw.getLsbD n = false) (hc : c.getLsbD n = false) (old w : Word) :
    ((old &&& ~~~(rw ||| c)) ||| (w &&& rw)).getLsbD n = old.getLsbD n := by
  simp only [BitVec.getLsbD_or, BitVec.getLsbD_and, BitVec.getLsbD_not, hrw, hc, Bool.or_self, Bool.not_false, Bool.and_true,
    Bool.and_false, Bool.or_false]
  by_cases hn : n < 32
  · simp [hn]
  · simp [BitVec.getLsbD_of_ge old n (by omega)]

/-- Settles O53: the bits of the field lie neither in the mask of the fields replaced nor in that of the fields cleared,
since no other field of the register shares a bit with it. -/
theorem readOnlyFieldsIgnoreWrites : Obligations.ReadOnlyFieldsIgnoreWrites := by
  intro s a w keep r f n hs hr hf hacc hlo hhi
  have hok := State.regsOk_of_canon hs
  refine ⟨?_, s.writeRaw_eq_regs a w keep⟩
  have hrw : (s.replaced a r).getLsbD n = false :=
    RegDef.getLsbD_maskOf_eq_false hr hf hlo hhi (by rcases hacc with h | h | ⟨h, hl⟩ <;> simp [*])
  have hw1c : r.cleared.getLsbD n = false :=
    RegDef.getLsbD_maskOf_eq_false hr hf hlo hhi (by rcases hacc with h | h | ⟨h, -⟩ <;> simp [h])
  rw [State.wordAt_writeRaw hok hr, State.wordAt_of_regAt s hr, BitVec.getLsbD_and, BitVec.getLsbD_and, getLsbD_replace_clear]
  · rw [BitVec.getLsbD_and, hrw, Bool.false_and]
  · rw [BitVec.getLsbD_and, BitVec.getLsbD_and, hw1c, Bool.false_and, Bool.false_and]

end Sys2Proof.Machine
end

section
/-! SUPPORT.
Replay stores (O56). -/

namespace Sys2Proof.Machine

/-! ### Lookups -/

/-- The first entry of an origin's window decides under its tag; one without a completion is pending. -/
theorem lookup_cons_entry (o n tag op fp g : Nat) (rs : List Nat) (es : List ReplayEntry) (l : List ReplayOrigin) :
    lookup (⟨o, n, ⟨tag, op, fp, none, rs⟩ :: es⟩ :: l) o tag g = if fp ≠ g then .reuse else .pending := by
  simp [lookup]

/-- The window of another origin does not matter. -/
theorem lookup_cons_other {x : ReplayOrigin} {p : Nat} (h : x.origin ≠ p) (l : List ReplayOrigin) (tag fp : Nat) :
    lookup (x :: l) p tag fp = lookup l p tag fp := by
  simp [lookup, h]

/-- Nothing is recognized under an origin without a window. -/
theorem lookup_eq_fresh {l : List ReplayOrigin} {p : Nat} (h : ∀ y ∈ l, y.origin ≠ p) (tag fp : Nat) :
    lookup l p tag fp = .fresh := by
  have : l.find? (fun o => o.origin == p) = none := by simpa using h
  simp [lookup, this]

/-- A filter that drops no window of an origin changes no lookup under it. -/
theorem lookup_filter {l : List ReplayOrigin} {p : Nat} {q : ReplayOrigin → Bool}
    (h : ∀ y ∈ l, y.origin = p → q y = true) (tag fp : Nat) : lookup (l.filter q) p tag fp = lookup l p tag fp := by
  induction l with
  | nil => rfl
  | cons y l ih =>
    have ih := ih (fun z hz => h z (List.mem_cons_of_mem y hz))
    by_cases hy : y.origin = p
    · rw [List.filter_cons_of_pos (h y List.mem_cons_self hy)]
      simp [lookup, hy]
    · rw [lookup_cons_other hy, ← ih, List.filter_cons]
      split
      · rw [lookup_cons_other hy]
      · rfl

/-! ### The window that leaves a full store -/

/-- `dropOldest` compares with the least of the last acceptances. -/
theorem foldl_last_min? (y : ReplayOrigin) (l : List ReplayOrigin) :
    ((y :: l).map (·.last)).min? = some ((y :: l).foldl (fun k o => min k o.last) y.last) := by
  rw [List.map_cons, List.min?_cons', List.foldl_map, List.foldl_cons, Nat.min_self]

/-- In a full store one acceptance is the oldest, and the windows of it are those that leave. -/
theorem dropOldest_full {l : List ReplayOrigin} (h : 32 ≤ l.length) :
    ∃ x ∈ l, (∀ y ∈ l, x.last ≤ y.last) ∧ dropOldest l = l.filter (fun y => y.last != x.last) := by
  cases l with
  | nil => simp at h
  | cons y l =>
    obtain ⟨hmem, hle⟩ := List.min?_eq_some_iff.mp (foldl_last_min? y l)
    obtain ⟨x, hx, hm⟩ := List.mem_map.mp hmem
    refine ⟨x, hx, fun z hz => hm ▸ hle _ (List.mem_map_of_mem hz), ?_⟩
    unfold dropOldest
    rw [if_neg (by omega), hm]
    rfl

/-- A store with room loses no window. -/
theorem dropOldest_room {l : List ReplayOrigin} (h : l.length < 32) : dropOldest l = l := if_pos h

/-- A full store makes room for one window. -/
theorem length_dropOldest_lt {l : List ReplayOrigin} (h : l.length ≤ 32) : (dropOldest l).length < 32 := by
  by_cases hl : l.length < 32
  · rw [dropOldest_room hl]
    exact hl
  · obtain ⟨x, hx, -, hd⟩ := dropOldest_full (by omega : 32 ≤ l.length)
    have hlt : (l.filter (fun y => y.last != x.last)).length < l.length :=
      List.length_filter_lt_length_iff_exists.mpr ⟨x, hx, by simp⟩
    rw [hd]
    omega

/-- The origin whose latest command is the only oldest one leaves a full store, and no other origin does. -/
theorem lookup_dropOldest {l : List ReplayOrigin} {x : ReplayOrigin} (hl : l.length = 32) (hx : x ∈ l)
    (hold : ∀ y ∈ l, y = x ∨ (x.last < y.last ∧ y.origin ≠ x.origin)) (p tag fp : Nat) :
    lookup (dropOldest l) p tag fp = if p = x.origin then .fresh else lookup l p tag fp := by
  obtain ⟨z, hz, hmin, hd⟩ := dropOldest_full (by omega : 32 ≤ l.length)
  have hzx : z = x := (hold z hz).resolve_right (fun h => by have := hmin x hx; omega)
  subst hzx
  rw [hd]
  split
  next hp =>
    subst hp
    refine lookup_eq_fresh (fun y hy => ?_) tag fp
    obtain ⟨hy, hlast⟩ := List.mem_filter.mp hy
    rcases hold y hy with rfl | ⟨-, ho⟩
    · simp at hlast
    · exact ho
  next hp =>
    refine lookup_filter (fun y hy ho => ?_) tag fp
    rcases hold y hy with rfl | ⟨hlt, -⟩
    · exact absurd ho.symm hp
    · simp only [bne_iff_ne, ne_eq]
      omega

/-! ### Acceptance -/

/-- The new entry leads its origin's window, which leads the store; the other windows are those of `rest`. -/
theorem acceptTag_eq_cons (l : List ReplayOrigin) (n o tag op fp : Nat) :
    ∃ es rest, acceptTag l n o tag op fp = ⟨o, n, ⟨tag, op, fp, none, []⟩ :: es⟩ :: rest ∧
      ((∃ x ∈ l, x.origin = o) ∧ rest = l.filter (fun x => x.origin != o) ∨
        (∀ x ∈ l, x.origin ≠ o) ∧ rest = dropOldest l) := by
  unfold acceptTag
  split
  next x hx =>
    have ho : x.origin = o := by simpa using List.find?_some hx
    exact ⟨x.entries.take 63, _, rfl, .inl ⟨⟨x, List.mem_of_find?_eq_some hx, ho⟩, rfl⟩⟩
  next hx => exact ⟨[], _, rfl, .inr ⟨by simpa using hx, rfl⟩⟩

/-- Under the accepted origin and tag the fingerprint decides. -/
theorem lookup_acceptTag_same (l : List ReplayOrigin) (n o tag op fp g : Nat) :
    lookup (acceptTag l n o tag op fp) o tag g = if fp ≠ g then .reuse else .pending := by
  obtain ⟨es, rest, he, -⟩ := acceptTag_eq_cons l n o tag op fp
  rw [he, lookup_cons_entry]

/-- Under another origin the lookup is that of the store as it was, but where acceptance drops a window. -/
theorem lookup_acceptTag_other {l : List ReplayOrigin} {n o tag op fp p : Nat} (hp : p ≠ o) (u g : Nat) :
    lookup (acceptTag l n o tag op fp) p u g =
      if ∃ x ∈ l, x.origin = o then lookup l p u g else lookup (dropOldest l) p u g := by
  obtain ⟨es, rest, he, h⟩ := acceptTag_eq_cons l n o tag op fp
  rw [he, lookup_cons_other (Ne.symm hp)]
  rcases h with ⟨hex, rfl⟩ | ⟨hno, rfl⟩
  · rw [if_pos hex]
    exact lookup_filter (fun y _ hy => by simp [hy, hp]) u g
  · rw [if_neg (fun ⟨x, hx, ho⟩ => hno x hx ho)]

/-- A store of at most 32 windows stays one: the accepted origin's window is replaced, or the oldest makes room. -/
theorem length_acceptTag_le {l : List ReplayOrigin} (h : l.length ≤ 32) (n o tag op fp : Nat) :
    (acceptTag l n o tag op fp).length ≤ 32 := by
  obtain ⟨es, rest, he, hr⟩ := acceptTag_eq_cons l n o tag op fp
  rw [he, List.length_cons]
  rcases hr with ⟨⟨x, hx, ho⟩, rfl⟩ | ⟨-, rfl⟩
  · have hlt : (l.filter (fun y => y.origin != o)).length < l.length :=
      List.length_filter_lt_length_iff_exists.mpr ⟨x, hx, by simp [ho]⟩
    omega
  · exact length_dropOldest_lt h

/-- Settles O56, from what the store holds after an acceptance: the new entry first, then the other windows, less the oldest of
a full store. -/
theorem replayWindowsRecognizeRepeats : Obligations.ReplayWindowsRecognizeRepeats := by
  refine ⟨?same, ?reuse, ?others, ?full, ?size⟩
  case same =>
    intro l n o tag op fp
    simp [lookup_acceptTag_same]
  case reuse =>
    intro l n o tag op fp g hg
    simp [lookup_acceptTag_same, hg.symm]
  case others =>
    intro l n o tag op fp p u g hp h
    rw [lookup_acceptTag_other hp]
    split
    · rfl
    next hno => rw [dropOldest_room (h.resolve_right hno)]
  case full =>
    intro l x n o tag op fp u g hl hno hx hold
    have hne : ¬ ∃ y ∈ l, y.origin = o := fun ⟨y, hy, ho⟩ => hno y hy ho
    refine ⟨?_, fun p hp hpx => ?_⟩
    · rw [lookup_acceptTag_other (hno x hx), if_neg hne, lookup_dropOldest hl hx hold, if_pos rfl]
    · rw [lookup_acceptTag_other hp, if_neg hne, lookup_dropOldest hl hx hold, if_neg hpx]
  case size =>
    intro l n o tag op fp h
    exact length_acceptTag_le h n o tag op fp

end Sys2Proof.Machine
end

section
/-! SUPPORT.
The fabric: slots, register writes and lane frames (O15). -/

namespace Sys2Proof.Machine

/-! ### Slots -/

/-- A transfer of a bay of this member competes under the bay's number. -/
theorem slotLane_eq_bay {x : Xfer} (hk : x.by_.kind ≠ 5) (hb : x.by_.bay < 8) : slotLane x = x.by_.bay := by
  rw [slotLane, if_neg hk, Nat.mod_eq_of_lt hb]

/-- A wheel position serves its bay's transfer. -/
theorem State.slotPick_own {s : State} {pos : Nat} {x : Xfer} (hx : slotLane x < 8)
    (hw : s.bay.wheel.getD (pos % 64) 8 = slotLane x) : s.slotPick pos [x] = some (x, true) := by
  unfold State.slotPick
  rw [hw]
  simp [hx]

/-- The round robin comes by every number. -/
theorem mem_roundRobin (rr : Nat) {b : Nat} (hb : b < 9) : b ∈ (List.range 9).map (fun k => (rr + 1 + k) % 9) :=
  List.mem_map.mpr ⟨(b + 9 - (rr + 1) % 9) % 9, List.mem_range.mpr (Nat.mod_lt _ (by decide)), by omega⟩

/-- A position of no bay serves the only transfer that is pending. -/
theorem State.slotPick_slack {s : State} {pos : Nat} {x : Xfer} (hx : slotLane x < 9)
    (hw : s.bay.wheel.getD (pos % 64) 8 = 8) : s.slotPick pos [x] = some (x, false) := by
  have hfind : ∀ l : List Nat, slotLane x ∈ l → l.findSome? (fun b => [x].find? (fun y => slotLane y == b)) = some x := by
    intro l hl
    induction l with
    | nil => simp at hl
    | cons b l ih =>
      by_cases hb : slotLane x = b
      · simp [hb]
      · simpa [hb] using ih ((List.mem_cons.mp hl).resolve_left hb)
  unfold State.slotPick
  rw [hw, hfind _ (mem_roundRobin s.bay.rr hx)]
  simp

/-- A slot of the clocked fabric serves what it picks among the transfers of running bays. -/
theorem execFabricTransfer_single {s : State} {pos : Nat} {x : Xfer} {own : Bool} (hc : s.clocked = true)
    (hl : s.live x.by_.bay = true) (hp : s.slotPick pos [x] = some (x, own)) :
    exec (.fabricTransfer pos [x]) s =
      .next ((State.slotCount (if own then s else { s with bay := { s.bay with rr := slotLane x } }) x own).transfer x) := by
  show execFabricTransfer pos [x] s = _
  have hf : [x].filter (fun y => y.by_.kind == 5 || s.live y.by_.bay) = [x] := by simp [hl]
  rw [execFabricTransfer, if_pos hc, State.fabricSlot, hf, hp]
  rfl

/-! ### Register writes -/

/-- The access of a register write. -/
def wordWrite (i : Init) (a : Nat) (w : Word) : Access := ⟨i, a, 4, some (toLE 4 w.toNat), [], none, none⟩

/-- REGISTER_WRITE of an initiator of this member is its access of one word. -/
theorem execRegisterWrite_local {s : State} {i : Init} (hk : i.kind ≠ 7) (hl : s.live i.bay = true) (a : Nat) (w : Word) :
    exec (.registerWrite i a w) s = .next (s.accessBy (wordWrite i a w)) := by
  show execRegisterWrite i a w s = _
  rw [execRegisterWrite, if_neg hk, if_pos (by simp [hl])]
  rfl

/-- A write that is acknowledged leaves what the access left. -/
theorem State.accessBy_ok {s t : State} {x : Access} {d : List Byte} (hw : x.wr = true) (h : s.access x = (t, .ok d)) :
    s.accessBy x = t := by
  simp [State.accessBy, h, hw]

/-- An access that fails ends with the initiator's error. -/
theorem State.accessBy_err {s t : State} {x : Access} (h : s.access x = (t, .err)) :
    s.accessBy x = t.busError x.by_ x.wr x.addr := by
  simp [State.accessBy, h]

/-- An aligned access of one word in the peripheral space reaches its register. -/
theorem State.access_periph {s : State} {x : Access} (hr : regionOf x.addr = .periph) (ha : x.addr % 4 = 0) (hn : x.len = 4) :
    s.access x = s.accReg x x.addr := by
  simp [State.access, State.accHere, hr, sizeOk, hn, ha]

/-- Four bytes of a word give the word. -/
theorem leAt_toLE_word (w : Word) : BitVec.ofNat 32 (leAt (toLE 4 w.toNat) 0 4) = w := by
  have hlt := w.isLt
  apply BitVec.eq_of_toNat_eq
  simp [leAt, slice, toLE, ofLE]
  omega

/-- A word write that is allowed has the register's effect and no other. -/
theorem State.accReg_may {s : State} {x : Access} {a : Nat} {d : List Byte} (hn : x.len = 4) (hd : x.data = some d)
    (ha : a % 4 = 0) (hm : s.regRight x.by_ true a = .may) :
    s.accReg x a = (s.regWrite x.by_ a (BitVec.ofNat 32 (leAt d 0 4)), .ok []) := by
  have hw : x.wr = true := by simp [Access.wr, hd]
  unfold State.accReg
  rw [if_neg (by simp [hn, ha]), hw, hm, hd]

/-- A word write of an initiator of this member that is not allowed is recorded and reported. -/
theorem State.accReg_shut {s : State} {x : Access} {a c : Nat} {d : List Byte} (hk : x.by_.kind < 5) (hn : x.len = 4)
    (hd : x.data = some d) (ha : a % 4 = 0) (hm : s.regRight x.by_ true a = .shut c) :
    s.accReg x a = (s.barred x.by_ c x.addr true, .err) := by
  have hw : x.wr = true := by simp [Access.wr, hd]
  have h5 : x.by_.kind ≠ 5 := by omega
  unfold State.accReg
  rw [if_neg (by simp [hn, ha]), hw, hm]
  simp [State.shutOut, fromAfar, h5, hw]

/-- A register write that is allowed has the register's effect and no other. -/
theorem State.access_wordWrite_may {s : State} {i : Init} {a : Nat} (hr : regionOf a = .periph) (ha : a % 4 = 0)
    (hm : s.regRight i true a = .may) (w : Word) : s.access (wordWrite i a w) = (s.regWrite i a w, .ok []) := by
  have hacc := State.accReg_may (x := wordWrite i a w) rfl rfl ha hm
  rw [leAt_toLE_word] at hacc
  exact (State.access_periph (x := wordWrite i a w) hr ha rfl).trans hacc

/-- A register write that is not allowed is recorded and reported, and fails. -/
theorem State.access_wordWrite_shut {s : State} {i : Init} {a c : Nat} (hk : i.kind < 5) (hr : regionOf a = .periph)
    (ha : a % 4 = 0) (hm : s.regRight i true a = .shut c) (w : Word) :
    s.access (wordWrite i a w) = (s.barred i c a true, .err) :=
  (State.access_periph (x := wordWrite i a w) hr ha rfl).trans (State.accReg_shut hk rfl rfl ha hm)

/-! ### Lanes -/

/-- A discarded frame of a lane that is UP counts a CRC error of the lane. -/
theorem execLaneFrameDiscard_up {s : State} {l : Nat} (h : s.laneUp l = true) :
    exec (.laneFrameDiscard l) s = .next (s.inc (if l = 2 then R.VDT_CRC_ERR.A else if l = 3 then R.VDT_CRC_ERR.B
      else if l = 4 then R.TRS_CRC_ERR.UP else R.TRS_CRC_ERR.DOWN)) := by
  show execLaneFrameDiscard l s = _
  rw [execLaneFrameDiscard, if_neg (by simp [h])]
  rfl

/-- Settles O15, clause by clause from what the slot picks, what the access of a register write meets, and the meanings of
the lane events. -/
theorem fabricRegistersAndLanes : Obligations.FabricRegistersAndLanes := by
  refine ⟨?own, ?slack, ?write, ?shut, ?host, ?frameEnd, ?discard, ?notUp, ?few, ?many⟩
  case own =>
    intro s pos x hc hk hb hl hw
    have hx := slotLane_eq_bay hk hb
    exact execFabricTransfer_single hc hl (State.slotPick_own (by omega) (hx ▸ hw))
  case slack =>
    intro s pos x hc hk hb hl hw
    have hx := slotLane_eq_bay hk hb
    rw [execFabricTransfer_single hc hl (State.slotPick_slack (by omega) hw), hx]
    rfl
  case write =>
    intro s i a w hk _ hl hr ha hm
    rw [execRegisterWrite_local hk hl, State.accessBy_ok rfl (State.access_wordWrite_may hr ha hm w)]
  case shut =>
    intro s i a c w hk hl hr ha hm
    rw [execRegisterWrite_local (by omega) hl, State.accessBy_err (State.access_wordWrite_shut hk hr ha hm w)]
    rfl
  case host =>
    intro s a w hp
    show execRegisterWrite ⟨0, 7, 0⟩ a w s = _
    rw [execRegisterWrite, if_pos rfl, if_pos hp]
    rfl
  case frameEnd => exact fun s l => rfl
  case discard =>
    intro s
    exact ⟨execLaneFrameDiscard_up, execLaneFrameDiscard_up, execLaneFrameDiscard_up, execLaneFrameDiscard_up⟩
  case notUp =>
    intro s l h2 h4 hu hup
    show execLaneNotUpTimeout l s = _
    rw [execLaneNotUpTimeout, if_pos ⟨h2, h4, hu, hup⟩]
    rfl
  case few =>
    intro s h hn
    show execReplayRateInterval h s = _
    rw [execReplayRateInterval, if_neg (by omega)]
    rfl
  case many =>
    intro s t h hn h0 ht
    show execReplayRateInterval h s = _
    subst ht
    rw [execReplayRateInterval, if_pos hn, if_neg (by omega)]
    rfl

end Sys2Proof.Machine
end

section
/-! SUPPORT.
Blocked accesses (O52): which registers the record of one touches, and what they read then. -/

namespace Sys2Proof.Machine

/-! ### Runs of field writes -/

/-- Field writes in order, later ones over earlier ones. -/
def State.puts (s : State) (l : List (Fld × Nat)) : State := l.foldl (fun t x => t.put x.1 x.2) s

/-- A write of `f` leaves field `g`: another register, or other bits of the same one. -/
def Fld.Clear (f g : Fld) : Prop :=
  g.addr ≠ f.addr ∨ (g.addr = f.addr ∧ g.rst = f.rst ∧ (g.lo + g.w ≤ f.lo ∨ f.lo + f.w ≤ g.lo) ∧ g.lo + g.w ≤ 32)

theorem State.get_put_clear {s : State} (h : s.regsOk) {f g : Fld} (n : Nat) (hc : f.Clear g) :
    (s.put f n).get g = s.get g := by
  rcases hc with ha | ⟨ha, hr, hd, hg⟩
  · exact State.get_put_addr h f g n ha
  · exact State.get_put_disjoint h f g n ha hr hd hg

/-- A field clear of every write reads as before. -/
theorem State.get_puts_clear {g : Fld} {l : List (Fld × Nat)} {s : State} (h : s.regsOk) (hc : ∀ x ∈ l, x.1.Clear g) :
    (s.puts l).get g = s.get g := by
  induction l generalizing s with
  | nil => rfl
  | cons x l ih =>
    obtain ⟨hx, hl⟩ := List.forall_mem_cons.mp hc
    exact (ih (State.put_regsOk h x.1 x.2) hl).trans (State.get_put_clear h x.2 hx)

/-- A field written reads its value where every later write is clear of the earlier ones. -/
theorem State.get_puts_mem {f : Fld} {n : Nat} (hf : f.lo + f.w ≤ 32) {l : List (Fld × Nat)} {s : State} (h : s.regsOk)
    (hp : l.Pairwise (fun x y => y.1.Clear x.1)) (hm : (f, n) ∈ l) : (s.puts l).get f = n % 2 ^ f.w := by
  induction l generalizing s with
  | nil => simp at hm
  | cons x l ih =>
    have hx := State.put_regsOk h x.1 x.2
    obtain ⟨hclear, hp⟩ := List.pairwise_cons.mp hp
    rcases List.mem_cons.mp hm with rfl | hm
    · exact (State.get_puts_clear hx hclear).trans (State.get_put_same h f n hf)
    · exact ih hx hp hm

/-! ### Changes confined to some registers, FLT and the cores -/

/-- `t` differs from `s` at most in the registers at `l`, in FLT and in the core part; its registers are in canonical form. -/
structure Records (l : List Nat) (s t : State) : Prop where
  rest : t = { s with regs := t.regs, flt := t.flt, core := t.core }
  ok : t.regsOk
  word : ∀ g : Fld, g.addr ∉ l → t.word g = s.word g

namespace Records

variable {l m : List Nat} {s t u : State}

theorem refl (h : s.regsOk) : Records l s s := ⟨rfl, h, fun _ _ => rfl⟩

theorem trans (h : Records l s t) (k : Records l t u) : Records l s u :=
  ⟨k.rest.trans (congrArg (fun v : State => { v with regs := u.regs, flt := u.flt, core := u.core }) h.rest), k.ok,
    fun g hg => (k.word g hg).trans (h.word g hg)⟩

theorem mono (hl : l ⊆ m) (h : Records l s t) : Records m s t :=
  ⟨h.rest, h.ok, fun g hg => h.word g (fun hm => hg (hl hm))⟩

/-- A write to one of the registers named. -/
theorem put (h : Records l s t) {f : Fld} (n : Nat) (hf : f.addr ∈ l) : Records l s (t.put f n) :=
  h.trans ⟨rfl, State.put_regsOk h.ok f n, fun g hg => State.word_putWord_other h.ok f _ g (fun e => hg (e ▸ hf))⟩

theorem puts {w : List (Fld × Nat)} (h : Records l s t) (hw : ∀ x ∈ w, x.1.addr ∈ l) : Records l s (t.puts w) := by
  induction w generalizing t with
  | nil => exact h
  | cons x w ih =>
    obtain ⟨hx, hw⟩ := List.forall_mem_cons.mp hw
    exact ih (h.put x.2 hx) hw

/-- FLT's own part changed. -/
theorem setFlt (h : Records l s t) (x : FltPart) : Records l s { t with flt := x } := h.trans ⟨rfl, h.ok, fun _ _ => rfl⟩

/-- The core part changed. -/
theorem setCore (h : Records l s t) (x : CorePart) : Records l s { t with core := x } := h.trans ⟨rfl, h.ok, fun _ _ => rfl⟩

/-- A field of another register reads as before. -/
theorem get (h : Records l s t) {g : Fld} (hg : g.addr ∉ l) : t.get g = s.get g := by
  unfold State.get
  rw [h.word g hg]

end Records

/-! ### The parts of a blocked access -/

/-- Reports that wait for retests. -/
def State.waitingReports (s : State) : Nat := s.flt.waiting.foldl (fun k x => k + x.reports.length) 0

/-- A report whose cause has a retest waits for it, as long as there is room; only FLT_STATUS shows that. -/
theorem State.report_records {s : State} (hs : s.regsOk) {c : Nat} (hc : causeClass c = some 1) (hr : needsRetest c = true)
    (hw : s.waitingReports < 64) (b res d : Nat) : Records [0x40190000] s (s.report b c res d) := by
  have hcl : classOf c = 1 := by rw [classOf, hc]; rfl
  have hcore : c ≠ 0x6001 := fun e => absurd hc (by rw [e]; decide)
  have hstat : R.FLT_STATUS.RUNNING.addr ∈ [0x40190000] ∧ R.FLT_STATUS.WAITING.addr ∈ [0x40190000] := by decide
  unfold State.report State.reportN
  simp only [hc, hcl, hr, hcore, reduceCtorEq, Nat.reduceEqDiff, false_and, if_false]
  split
  · exact (((Records.refl hs).setFlt _).put _ hstat.1).put _ hstat.2
  · rw [if_neg (by exact Nat.not_le.mpr hw)]
    exact (((Records.refl hs).setFlt _).put _ hstat.1).put _ hstat.2

/-- The error that the initiator of a failed access receives is a matter of its hart, its engine or the debug module. -/
theorem State.busError_records {s : State} (hs : s.regsOk) (i : Init) (wr : Bool) (a : Nat) :
    Records [] s (s.busError i wr a) := by
  unfold State.busError State.coreFault State.modCore State.modEngine
  split
  · split
    · exact (Records.refl hs).setCore _
    · exact Records.refl hs
  · split
    · split
      · exact (Records.refl hs).setCore _
      · exact Records.refl hs
    · split
      · exact (Records.refl hs).setCore _
      · exact Records.refl hs

/-! ### The record -/

/-- What is recorded where nothing is held: cause, address, initiator and direction (R161). -/
def violWrites (i : Init) (c a : Nat) (wr : Bool) : List (Fld × Nat) :=
  [(R.BAYn_VIOL.CAUSE i.bay, c), (R.BAYn_VIOL.VALID i.bay, 1), (R.BAYn_VIOL_ADDR_LO.ADDR i.bay, a),
   (R.BAYn_VIOL_ADDR_HI.ADDR i.bay, a / 4294967296), (R.BAYn_VIOL_ADDR_HI.INIT i.bay, i.kind),
   (R.BAYn_VIOL_ADDR_HI.INST i.bay, i.inst), (R.BAYn_VIOL_ADDR_HI.WRITE i.bay, b2n wr)]

/-- The writes of a record: the bay's bit, the access where nothing is held, the count. -/
def recordWrites (s : State) (i : Init) (c a : Nat) (wr : Bool) (n : Nat) : List (Fld × Nat) :=
  (R.BAY_VIOL_SUM.VIOL, setBit (s.get R.BAY_VIOL_SUM.VIOL) i.bay) ::
    ((if s.on (R.BAYn_VIOL.VALID i.bay) then [] else violWrites i c a wr) ++ [(R.BAYn_VIOL.COUNT i.bay, n)])

theorem State.recordViol_eq_puts {s : State} (hs : s.regsOk) (i : Init) (c a : Nat) (wr : Bool) :
    ∃ n, s.recordViol i c a wr = s.puts (recordWrites s i c a wr n) := by
  have hv : (s.setB R.BAY_VIOL_SUM.VIOL i.bay).on (R.BAYn_VIOL.VALID i.bay) = s.on (R.BAYn_VIOL.VALID i.bay) := by
    unfold State.on State.setB
    rw [State.get_put_addr hs]
    simp only [R.BAYn_VIOL.VALID, R.BAY_VIOL_SUM.VIOL]
    omega
  unfold State.recordViol recordWrites
  dsimp only
  rw [hv]
  split
  · exact ⟨_, rfl⟩
  · exact ⟨_, rfl⟩

/-- No two fields of a record share a bit. -/
theorem recordWrites_clear (s : State) (i : Init) (c a : Nat) (wr : Bool) (n : Nat) :
    (recordWrites s i c a wr n).Pairwise (fun x y => y.1.Clear x.1) := by
  unfold recordWrites
  split
  · simp [Fld.Clear, R.BAY_VIOL_SUM.VIOL, R.BAYn_VIOL.COUNT]
    omega
  · simp [violWrites, Fld.Clear, R.BAY_VIOL_SUM.VIOL, R.BAYn_VIOL.COUNT, R.BAYn_VIOL.CAUSE, R.BAYn_VIOL.VALID,
      R.BAYn_VIOL_ADDR_LO.ADDR, R.BAYn_VIOL_ADDR_HI.ADDR, R.BAYn_VIOL_ADDR_HI.INIT, R.BAYn_VIOL_ADDR_HI.INST,
      R.BAYn_VIOL_ADDR_HI.WRITE]
    omega

/-- The registers that record an access of a bay (R161). -/
def violAddrs (b : Nat) : List Nat := [0x4002000C, 0x40021010 + 0x1000 * b, 0x40021014 + 0x1000 * b, 0x40021018 + 0x1000 * b]

/-- The fields of a record lie in those registers, within their words. -/
theorem recordWrites_place (s : State) (i : Init) (c a : Nat) (wr : Bool) (n : Nat) :
    ∀ x ∈ recordWrites s i c a wr n, x.1.addr ∈ violAddrs i.bay ∧ x.1.lo + x.1.w ≤ 32 := by
  unfold recordWrites
  split
  · simp [violAddrs, R.BAY_VIOL_SUM.VIOL, R.BAYn_VIOL.COUNT]
  · simp [violWrites, violAddrs, R.BAY_VIOL_SUM.VIOL, R.BAYn_VIOL.COUNT, R.BAYn_VIOL.CAUSE, R.BAYn_VIOL.VALID,
      R.BAYn_VIOL_ADDR_LO.ADDR, R.BAYn_VIOL_ADDR_HI.ADDR, R.BAYn_VIOL_ADDR_HI.INIT, R.BAYn_VIOL_ADDR_HI.INST,
      R.BAYn_VIOL_ADDR_HI.WRITE]

/-- A record changes those registers alone. -/
theorem State.recordViol_records {s : State} (hs : s.regsOk) (i : Init) (c a : Nat) (wr : Bool) :
    Records (violAddrs i.bay) s (s.recordViol i c a wr) := by
  obtain ⟨n, hn⟩ := State.recordViol_eq_puts hs i c a wr
  rw [hn]
  exact (Records.refl hs).puts (fun x hx => (recordWrites_place s i c a wr n x hx).1)

/-- A field reads what the record writes to it. -/
theorem State.get_recordViol {s : State} (hs : s.regsOk) {i : Init} {c a : Nat} {wr : Bool} {f : Fld} {n : Nat}
    (hm : ∀ k, (f, n) ∈ recordWrites s i c a wr k) : (s.recordViol i c a wr).get f = n % 2 ^ f.w := by
  obtain ⟨k, hk⟩ := State.recordViol_eq_puts hs i c a wr
  rw [hk]
  exact State.get_puts_mem (recordWrites_place s i c a wr k _ (hm k)).2 hs (recordWrites_clear s i c a wr k) (hm k)

theorem State.recordViol_flt (s : State) (i : Init) (c a : Nat) (wr : Bool) : (s.recordViol i c a wr).flt = s.flt := by
  unfold State.recordViol
  dsimp only
  split <;> rfl

/-! ### The blocked access -/

/-- The causes of blocked accesses are SOFT and have a retest (R164, R244). -/
theorem blocked_cause_soft : ∀ c ∈ [0x0C01, 0x0C02, 0x0C03, 0x0C04],
    causeClass c = some 1 ∧ needsRetest c = true ∧ c < 2 ^ 16 := by
  decide

/-- After the record, a blocked access changes FLT_STATUS alone among the registers. -/
theorem State.blocked_records {s : State} (hs : s.regsOk) {i : Init} {c a : Nat} {wr : Bool}
    (hc : causeClass c = some 1) (hr : needsRetest c = true) (hw : s.waitingReports < 64) :
    Records [0x40190000] (s.recordViol i c a wr) (s.blocked i c a wr) := by
  have hw' : (s.recordViol i c a wr).waitingReports < 64 := by
    unfold State.waitingReports
    rw [State.recordViol_flt]
    exact hw
  have hrep := State.report_records (State.recordViol_records hs i c a wr).ok hc hr hw' i.bay (violRes i wr) (a % 4294967296)
  exact hrep.trans ((State.busError_records hrep.ok i wr a).mono (List.nil_subset _))

/-- The fields of the record read after the whole access what was written to them. -/
theorem State.get_blocked {s : State} (hs : s.regsOk) {i : Init} {c a : Nat} {wr : Bool}
    (hc : causeClass c = some 1) (hr : needsRetest c = true) (hw : s.waitingReports < 64) {f : Fld} {n : Nat}
    (hm : ∀ k, (f, n) ∈ recordWrites s i c a wr k) : (s.blocked i c a wr).get f = n % 2 ^ f.w := by
  have hplace := (recordWrites_place s i c a wr 0 _ (hm 0)).1
  have hout : f.addr ∉ [0x40190000] := by
    simp only [violAddrs, List.mem_cons, List.not_mem_nil, or_false] at hplace ⊢
    omega
  rw [(State.blocked_records hs hc hr hw).get hout, State.get_recordViol hs hm]

/-- Settles O52: the record writes the bay's registers and BAY_VIOL_SUM, the report joins or opens a waiting retest, and the
error to the initiator is a matter of the core part. -/
theorem blockedAccessesChangeOnlyTheRecord : Obligations.BlockedAccessesChangeOnlyTheRecord := by
  intro s t i c a wr hs hc hb hw ht
  have hok := State.regsOk_of_canon hs
  obtain ⟨hclass, hretest, hlt⟩ := blocked_cause_soft c hc
  have hall : Records [0x4002000C, 0x40190000, 0x40021010 + 0x1000 * i.bay, 0x40021014 + 0x1000 * i.bay,
      0x40021018 + 0x1000 * i.bay] s t :=
    ((State.recordViol_records hok i c a wr).mono (by simp [violAddrs])).trans
      (ht ▸ (State.blocked_records hok hclass hretest hw).mono (by simp))
  refine ⟨?parts, hall.word, ?bit, ?held⟩
  case parts =>
    obtain ⟨regs, flt, core, e⟩ : ∃ regs flt core, t = { s with regs := regs, flt := flt, core := core } :=
      ⟨_, _, _, hall.rest⟩
    rw [e]
    simp
  case bit =>
    rw [ht, State.get_blocked hok hclass hretest hw (fun k => List.mem_cons_self)]
    show (setBit (s.get R.BAY_VIOL_SUM.VIOL) i.bay % 2 ^ 8).testBit i.bay = true
    rw [Nat.testBit_mod_two_pow]
    simp [setBit, hb]
  case held =>
    intro hv
    have hget : ∀ x ∈ violWrites i c a wr, t.get x.1 = x.2 % 2 ^ x.1.w := fun x hx =>
      ht ▸ State.get_blocked hok hclass hretest hw (fun k => by simp [recordWrites, hv, hx])
    simp only [violWrites, List.forall_mem_cons] at hget
    obtain ⟨hcause, hvalid, hlo, hhi, hinit, hinst, hwrite, -⟩ := hget
    refine ⟨hcause.trans (Nat.mod_eq_of_lt hlt), ?_, hlo, hhi, hinit, hinst, ?_⟩
    · rw [State.on, hvalid]
      rfl
    · rw [State.on, hwrite]
      cases wr <;> rfl

end Sys2Proof.Machine
end

section
/-! SUPPORT.
Witnesses: concrete states and inputs that meet the hypotheses of O15, O52, O53 and O56. -/

namespace Sys2Proof.Machine

/-- A store of 32 origins, each with tag 5 pending; the first of them is the oldest. -/
def fullStore : List ReplayOrigin := (List.range 32).map (fun k => ⟨k + 1, k + 1, [⟨5, 1, 9, none, []⟩]⟩)

/-- A 33rd origin removes the oldest one, whose pending tag is no longer recognized. -/
theorem replay_full_witness : lookup (acceptTag fullStore 33 0 5 1 9) 1 5 9 = .fresh := by
  obtain ⟨-, -, -, hfull, -⟩ := replayWindowsRecognizeRepeats
  exact (hfull fullStore ⟨1, 1, [⟨5, 1, 9, none, []⟩]⟩ 33 0 5 1 9 5 9 (by decide) (by decide) (by decide) (by decide)).1

/-- A register of Halvik with one RO field keeps its top bit. -/
theorem readOnly_witness :
    ((State.reset.writeRaw 0x401A0004 0xFFFFFFFF#32 0#32).wordAt 0x401A0004).getLsbD 31 =
      (State.reset.wordAt 0x401A0004).getLsbD 31 :=
  (readOnlyFieldsIgnoreWrites State.reset 0x401A0004 0xFFFFFFFF#32 0#32 ⟨0x401A0004, [], 0x0, [⟨0, 32, .ro, false⟩]⟩
    ⟨0, 32, .ro, false⟩ 31 (by decide) (by decide +kernel) (by decide) (by decide) (by decide) (by decide)).1

/-- A write of bay 7 to the top of the address space, blocked in the reset state, sets the bay's bit. -/
theorem blocked_witness :
    ((State.reset.blocked ⟨7, 1, 3⟩ 0x0C04 0xFFFFFFFFFC true).get R.BAY_VIOL_SUM.VIOL).testBit 7 = true := by
  obtain ⟨-, -, hbit, -⟩ := blockedAccessesChangeOnlyTheRecord State.reset _ ⟨7, 1, 3⟩ 0x0C04 0xFFFFFFFFFC true
    (by decide) (by decide) (by decide) (by decide) rfl
  exact hbit

/-- A clocked state in which bay 7 runs and owns the last wheel position. -/
def slotState : State :=
  let s := (State.reset.setPhase .run).put (R.BAYn_STATE.STATE 7) bayRunning
  { s with bay := { s.bay with wheel := List.replicate 63 8 ++ [7] } }

/-- The last wheel position serves its bay. -/
theorem slot_witness : exec (.fabricTransfer 63 [⟨⟨7, 0, 0⟩, 0x10000000, .counted, [], none, 0⟩]) slotState =
    .next (slotState.slotCount ⟨⟨7, 0, 0⟩, 0x10000000, .counted, [], none, 0⟩ true) := by
  obtain ⟨hown, -⟩ := fabricRegistersAndLanes
  exact hown slotState 63 ⟨⟨7, 0, 0⟩, 0x10000000, .counted, [], none, 0⟩ (by decide) (by decide) (by decide) (by decide)
    (by decide)

end Sys2Proof.Machine
end

section
/-! SUPPORT.
Resets of the device and the way to the boot ROM (O2). -/

namespace Sys2Proof.Machine

/-! ### Straps -/

/-- What a latch of the straps, and a power-on reset with REF_OK after it, write (R86, R168, R171). -/
def strapWrites (x : Straps) (osc : Bool) : List (Fld × Nat) :=
  [(R.SYS_STRAPS.BOOT_SRC, x.bootSrc), (R.SYS_STRAPS.STACK_POS, x.stackPos), (R.SYS_STRAPS.PAIR_ID, x.pairId),
   (R.SYS_CLK_STATUS.REF_KIND, b2n osc), (R.SYS_CLK_STATUS.REF_OK, 1)]

/-- The straps and the flags of the reference share no bit. -/
theorem strapWrites_clear (x : Straps) (osc : Bool) : (strapWrites x osc).Pairwise (fun a b => b.1.Clear a.1) := by
  simp [strapWrites, Fld.Clear, R.SYS_STRAPS.BOOT_SRC, R.SYS_STRAPS.STACK_POS, R.SYS_STRAPS.PAIR_ID,
    R.SYS_CLK_STATUS.REF_KIND, R.SYS_CLK_STATUS.REF_OK]

theorem strapWrites_place (x : Straps) (osc : Bool) : ∀ y ∈ strapWrites x osc, y.1.lo + y.1.w ≤ 32 := by
  simp [strapWrites, R.SYS_STRAPS.BOOT_SRC, R.SYS_STRAPS.STACK_POS, R.SYS_STRAPS.PAIR_ID, R.SYS_CLK_STATUS.REF_KIND,
    R.SYS_CLK_STATUS.REF_OK]

theorem State.latch_refOk_eq_puts (s : State) (x : Straps) (osc : Bool) :
    (s.latch x osc).put R.SYS_CLK_STATUS.REF_OK 1 = s.puts (strapWrites x osc) := rfl

/-- Each of them reads what was latched. -/
theorem State.get_latched {s : State} (h : s.regsOk) (x : Straps) (osc : Bool) :
    ∀ y ∈ strapWrites x osc, ((s.latch x osc).put R.SYS_CLK_STATUS.REF_OK 1).get y.1 = y.2 % 2 ^ y.1.w := by
  intro y hy
  rw [State.latch_refOk_eq_puts]
  exact State.get_puts_mem (strapWrites_place x osc y hy) h (strapWrites_clear x osc) hy

/-- A power-on reset leaves every register at its reset word. -/
theorem State.powerOn_regsOk (s : State) (p : Phase) (pwr : Bool) : (s.powerOn p pwr).regsOk := rfl

/-! ### RESETn -/

/-- A pulse of 1 µs or more is a device reset wherever the pin is sampled and nothing holds the device (R182). -/
theorem State.resetPin_eq {s : State} (h : s.sys.phase.pinless = false) (x : Straps) (osc : Bool) :
    s.resetPin x osc = (s.deviceReset R.SYS_RESET_CAUSE.RESETN).latch x osc := by
  unfold State.resetPin
  split <;> simp_all [Phase.pinless]

/-! ### Zeroization -/

/-- Memories at zero, without poison and without dirty lines (R89). -/
def State.zeroed (s : State) : State :=
  { s with mem := [], memx := { s.memx with poison := [], writeback := [], dirty := [] } }

/-- NVM is reloaded, and what failed verification is held for the log (R197, R221, R226). -/
def State.reloaded (s : State) (finds : List ZeroFind) : State :=
  let t := (State.forEach (List.range 32) (fun b t => t.loadRemap b) s).showNvm
  let t := (State.forEach finds (fun z t => t.zeroFound z) t).flag R.NVM_STATUS.MAP_OK true
  if t.seqTwice then t.holdCause 0x6406 0 0 else t

/-- RUN, with the registers that the boot ROM starts from. -/
def State.bootReady (s : State) : State :=
  let t := (s.setPhase .run).scanLog
  let t := (t.put R.SEC_BOOT_STATUS.BOOT_SRC (t.get R.SYS_STRAPS.BOOT_SRC)).put R.TRS_STATUS.POS (t.get R.SYS_STRAPS.STACK_POS)
  (t.put R.VDT_STATUS.PAIR_ID (t.get R.SYS_STRAPS.PAIR_ID)).showSlots.showOtp

theorem execZeroizationEnd_zeroize {s : State} (h : s.sys.phase = .zeroize) (finds : List ZeroFind) :
    exec (.zeroizationEnd finds) s = .next ((s.zeroed.reloaded finds).bootReady.boot) := by
  show execZeroizationEnd finds s = _
  rw [execZeroizationEnd, if_neg (by simp [h])]
  rfl

/-- What the end of zeroization leaves of the memories and of the configuration. -/
def State.memParts (s : State) : List Host.Cell × List Nat × List DirtyLine × List Sect :=
  (s.mem, s.memx.poison, s.memx.dirty, s.cfg)

/-- A part of the state that every round of a loop keeps. -/
theorem State.forEach_keeps {α β : Type} (v : State → β) {f : α → State → State} (hf : ∀ a t, v (f a t) = v t) (l : List α)
    (s : State) : v (State.forEach l f s) = v s := by
  unfold State.forEach
  induction l generalizing s with
  | nil => rfl
  | cons a l ih => exact (ih (f a s)).trans (hf a s)

theorem State.holdCause_memParts (s : State) (c r d : Nat) : (s.holdCause c r d).memParts = s.memParts := by
  unfold State.holdCause
  split <;> rfl

theorem State.setRemap_memParts (s : State) (b k r : Nat) : (s.setRemap b k r).memParts = s.memParts := by
  unfold State.setRemap
  split <;> rfl

theorem State.loadRemap_memParts (s : State) (b : Nat) : (s.loadRemap b).memParts = s.memParts := by
  refine State.forEach_keeps State.memParts (fun k t => ?_) (List.range 8) s
  split
  · exact State.setRemap_memParts t b k _
  · rfl

theorem State.remap_memParts {s t : State} {b r n : Nat} (h : s.remap b r n = some t) : t.memParts = s.memParts := by
  unfold State.remap at h
  dsimp only at h
  split at h
  · cases h
  · cases h
    exact State.setRemap_memParts _ b _ r

/-- A row or line that failed verification changes no memory byte, poison or line. -/
theorem State.zeroFound_memParts (s : State) (z : ZeroFind) : (s.zeroFound z).memParts = s.memParts := by
  unfold State.zeroFound
  dsimp only
  split
  · split
    · rfl
    · split
      next t ht => exact (State.holdCause_memParts t _ _ _).trans (State.remap_memParts ht)
      · rw [State.holdCause_memParts, State.holdCause_memParts]
        rfl
  · split
    · exact State.holdCause_memParts s _ _ _
    · exact State.holdCause_memParts s _ _ _

theorem State.reloaded_memParts (s : State) (finds : List ZeroFind) : (s.reloaded finds).memParts = s.memParts := by
  have hload : (State.forEach (List.range 32) (fun b t => t.loadRemap b) s).showNvm.memParts = s.memParts :=
    State.forEach_keeps State.memParts (fun b t => t.loadRemap_memParts b) (List.range 32) s
  have hfound := (State.forEach_keeps State.memParts (fun z t => t.zeroFound_memParts z) finds
    (State.forEach (List.range 32) (fun b t => t.loadRemap b) s).showNvm).trans hload
  unfold State.reloaded
  dsimp only
  split
  · exact (State.holdCause_memParts _ _ _ _).trans hfound
  · exact hfound

theorem State.scanLog_memParts (s : State) : s.scanLog.memParts = s.memParts := rfl
theorem State.showSlots_memParts (s : State) : s.showSlots.memParts = s.memParts := rfl
theorem State.showOtp_memParts (s : State) : s.showOtp.memParts = s.memParts := rfl

theorem State.bootReady_memParts (s : State) : s.bootReady.memParts = s.memParts := by
  rw [State.bootReady, State.showOtp_memParts, State.showSlots_memParts]
  exact State.scanLog_memParts _

theorem State.bootReady_phase (s : State) : s.bootReady.sys.phase = .run := rfl

/-- Settles O2: power-on starts from registers at their reset words, a device reset from what `resetInto` keeps, and the end of
zeroization touches no memory after emptying it. -/
theorem resetsOfTheDevice : Obligations.ResetsOfTheDevice := by
  refine ⟨?powerOn, ?resetn, ?soft, ?lock, ?zeroize, ?aoValid, ?v18Valid⟩
  case powerOn =>
    intro s x osc
    have hget := State.get_latched (s.powerOn_regsOk .pllWait true) x osc
    simp only [strapWrites, List.forall_mem_cons] at hget
    obtain ⟨hsrc, hpos, hpair, hkind, hok, -⟩ := hget
    exact ⟨_, rfl, rfl, rfl, rfl, rfl, rfl, rfl, hsrc, hpos, hpair, hkind.trans (by cases osc <;> rfl), hok⟩
  case resetn =>
    intro s ns x osc hns hp
    refine ⟨_, ?_, rfl, rfl, rfl⟩
    show execResetnLow ns x osc s = _
    rw [execResetnLow, if_neg (by omega), if_neg (by omega), State.resetPin_eq hp]
    rfl
  case soft =>
    intro s i hg
    show answer (s.act i (isBay i 0) 0x0C02 R.SYS_DEV_RST.KEY.addr true (fun t => t.devRst 0xA5C3)) = _
    rw [State.act_grants hg]
    rfl
  case lock =>
    intro s h
    exact congrArg Host.Outcome.next (if_pos h)
  case zeroize =>
    intro s finds h
    have hmem := (s.zeroed.reloaded finds).bootReady_memParts.trans (s.zeroed.reloaded_memParts finds)
    simp only [State.memParts, Prod.mk.injEq] at hmem
    obtain ⟨hbytes, hpoison, hdirty, hcfg⟩ := hmem
    exact ⟨_, execZeroizationEnd_zeroize h finds, hbytes, hpoison, hdirty, State.bootReady_phase _, hcfg⟩
  case aoValid => exact fun s => rfl
  case v18Valid =>
    intro s h
    exact congrArg Host.Outcome.next (if_pos h)

end Sys2Proof.Machine
end

section
/-! SUPPORT.
Bay commands (O10). -/

namespace Sys2Proof.Machine

/-! ### Writes to a bay's control page -/

/-- A write of SELF_RST acts for the bay itself alone (R162). -/
theorem State.bySelf_grants {s : State} {i : Init} {b : Nat} (h : s.grants i (isBay i b || isBay i 0) = true) (a : Nat)
    (f : State → State) : s.bySelf i b a f = if i.bay = b then f s else s :=
  State.act_grants h 0x0C02 a true _

/-- A write of RST, STOP and START acts for BAY0 alone (R162). -/
theorem State.byBoss_grants {s : State} {i : Init} {b : Nat} (h : s.grants i (isBay i b || isBay i 0) = true) (a : Nat)
    (f : State → State) : s.byBoss i b a f = if i.bay = 0 then f s else s :=
  State.act_grants h 0x0C02 a true _

/-! ### STOP and the end of zeroing -/

theorem State.stop_outside_reset {s : State} {b : Nat} (h : s.bayState b = bayRunning ∨ s.bayState b = bayHeld) :
    s.stop b = s.stopBay b := if_pos h

/-- STOP in RESET waits for the end of the reset (R163). -/
theorem State.stop_in_reset {s : State} {b : Nat} (h : s.bayState b = bayReset) :
    s.stop b = { s with bay := { s.bay with stopAfter := setBit s.bay.stopAfter b } } := by
  have hne : ¬ (s.bayState b = bayRunning ∨ s.bayState b = bayHeld) := by
    rw [h]
    decide
  rw [State.stop, if_neg hne, if_pos h]

/-- Banks zeroed and no STOP registered: HELD, and images load in order (R91, R155). -/
theorem State.zeroingEnd_held {s u : State} {b : Nat} (hu : u = (s.zeroBanks b).put (R.BAYn_STATE.STATE b) bayHeld)
    (hstop : u.bay.stopAfter.testBit b = false) :
    s.zeroingEnd b = State.loadKick { u with bay := { u.bay with resetDone := clrBit u.bay.resetDone b } } := by
  subst hu
  exact if_neg (ne_true_of_eq_false hstop)

/-- Settles O10: the accesses act for the writer that R162 names, and each step runs where its guard stands. -/
theorem bayCommands : Obligations.BayCommands := by
  refine ⟨?selfRst, ?selfRstOther, ?rst, ?notBoss, ?stop, ?stopLater, ?start, ?reset, ?zeroed, ?release⟩
  case selfRst =>
    intro s i b hg hb
    exact congrArg Host.Outcome.next ((State.bySelf_grants hg _ _).trans (if_pos hb))
  case selfRstOther =>
    intro s i b hg hb
    exact congrArg Host.Outcome.next ((State.bySelf_grants hg _ _).trans (if_neg hb))
  case rst =>
    intro s i b hg h0
    exact congrArg Host.Outcome.next ((State.byBoss_grants hg _ _).trans (if_pos h0))
  case notBoss =>
    intro s i b hg h0
    have hnone : ∀ (a : Nat) (f : State → State), answer (s.byBoss i b a f) = .next s := fun a f =>
      congrArg Host.Outcome.next ((State.byBoss_grants hg a f).trans (if_neg h0))
    exact ⟨hnone _ _, hnone _ _, hnone _ _⟩
  case stop =>
    intro s i b hg h0 hst
    exact congrArg Host.Outcome.next
      (((State.byBoss_grants hg _ _).trans (if_pos h0)).trans (State.stop_outside_reset hst))
  case stopLater =>
    intro s i b hg h0 hst
    exact congrArg Host.Outcome.next (((State.byBoss_grants hg _ _).trans (if_pos h0)).trans (State.stop_in_reset hst))
  case start =>
    intro s i b hg h0 hst
    exact congrArg Host.Outcome.next (((State.byBoss_grants hg _ _).trans (if_pos h0)).trans (if_pos hst))
  case reset =>
    intro s b hst hd
    exact congrArg Host.Outcome.next (if_pos (by simp [hst, hd]))
  case zeroed =>
    intro s u b hst hd hu hstop
    exact congrArg Host.Outcome.next ((if_pos (by simp [hst, hd])).trans (State.zeroingEnd_held hu hstop))
  case release =>
    intro s b h
    exact congrArg Host.Outcome.next (if_pos h)

end Sys2Proof.Machine
end

section
/-! SUPPORT.
Halvik's commands that move no data of a slot or a key (O6). -/

namespace Sys2Proof.Machine

/-! ### The path of an accepted command -/

/-- An accepted command ends as its own meaning ends on the state with the command in the replay window.  Acceptance changes
the replay window alone, so that what holds of any other part of the state holds of that state by computation. -/
theorem answer_accepts {s t : State} {r : HReq} {op : Nat} (h : s.accepts r op) (hop : op < 256) {nvm : Nat}
    (ht : (s.accepted r op).runCmd (halvikCmd r op) nvm = t) : answer (s.request r op nvm) = .next t :=
  congrArg Host.Outcome.next ((State.request_accepts hop h nvm).trans ht)

/-! ### ABORT (R124) -/

/-- ABORT of an image load. -/
theorem State.abortCmd_imageLoad {s : State} {c : HCmd} {e : ReplayEntry} {i : ImgCmd}
    (ho : c.p 0 % 65536 / 256 = originBase c.ch / 256)
    (he : s.replayEntry (c.p 0 % 65536) (c.p 0 / 65536) = some e) (hop : e.op = 0x30)
    (hi : s.sec.imgCmds.find? (fun x => x.origin == c.p 0 % 65536 && x.tag == c.p 0 / 65536) = some i) :
    s.abortCmd c = ((s.imgCmdEnd i.engine 2 0 0).engineBack i.engine).done c 0 0 := by
  unfold State.abortCmd
  dsimp only
  rw [if_neg (not_not_intro ho), he, hi]
  exact if_neg (by simp [hop])

/-- ABORT of a delta before its swap edge. -/
theorem State.abortCmd_prepare {s : State} {c : HCmd} {e : ReplayEntry} {d : Delta}
    (ho : c.p 0 % 65536 / 256 = originBase c.ch / 256)
    (he : s.replayEntry (c.p 0 % 65536) (c.p 0 / 65536) = some e) (hop : e.op = 0x20)
    (hi : s.sec.imgCmds.find? (fun x => x.origin == c.p 0 % 65536 && x.tag == c.p 0 / 65536) = none)
    (hd : s.sec.delta = some d) (hdo : d.origin = c.p 0 % 65536) (hdt : d.tag = c.p 0 / 65536) (hph : d.phase = .prepare) :
    s.abortCmd c = (s.deltaStop d 2 0 0 0).done c 0 0 := by
  unfold State.abortCmd
  dsimp only
  rw [if_neg (not_not_intro ho), he, hi, hd]
  dsimp only
  rw [if_neg (by simp [hop]), if_neg (by simp [hdo, hdt]), if_pos hph]

/-! ### BS_LOAD, BAY_READY and BOOT_ONCE -/

/-- A file that the host pushes and that passes its checks (R103, R131). -/
theorem State.bsLoad_passes {s : State} {c : HCmd} {f : List Byte} {l : List Sect} (hw : s.sec.hostWait = true)
    (ha : s.applied = false) (hn : s.sec.waiting = none) (hb : s.cmdBuf c (c.p 0) (c.p 1) = some f)
    (hc : s.bsCheck f 1 = .inr l) : s.bsLoad c = (s.done c 0 0).contentPass l f 3 false := by
  unfold State.bsLoad
  rw [if_neg (by simp [hw]), if_neg (by simp [ha, hn]), hb]
  dsimp only
  rw [hc]

/-- Outside a delta BAY_READY only completes. -/
theorem State.bayReady_no_delta {s : State} {c : HCmd} (hb : c.p 0 < 8) (hch : c.ch = 0 ∨ c.p 0 = c.ch)
    (hd : s.sec.delta = none) : s.bayReady c = s.done c 0 0 := by
  unfold State.bayReady
  dsimp only
  rw [if_neg (by omega), hd]

/-- BAY_READY of the swapped bay of a delta, which owns a core (R110). -/
theorem State.bayReady_swapped {s : State} {c : HCmd} {d : Delta} (hb : c.p 0 < 8) (hch : c.ch = 0 ∨ c.p 0 = c.ch)
    (hd : s.sec.delta = some d) (hph : d.phase = .swapped) (hbay : d.bay = c.p 0) (hcore : s.coresOf d.bay ≠ []) :
    s.bayReady c = (s.done c 0 0).deltaCommit d := by
  unfold State.bayReady
  dsimp only
  rw [if_neg (by omega), hd]
  exact if_pos ⟨hph, hbay, .inl (by simpa [hbay] using hcore)⟩

/-- BOOT_ONCE of a TRIAL or VALID slot (R123). -/
theorem State.bootOnceCmd_names {s : State} {c : HCmd} (hk : c.p 0 < 2)
    (hst : (s.slotRec (c.p 0)).state = 2 ∨ (s.slotRec (c.p 0)).state = 3) :
    s.bootOnceCmd c = State.deviceReset { s.done c 0 0 with sec := { (s.done c 0 0).sec with bootOnce := some (c.p 0) } }
      R.SYS_RESET_CAUSE.HALVIK := if_pos ⟨hk, hst⟩

/-- Settles O6: each command is accepted, and then its own meaning takes the branch that the hypotheses name. -/
theorem halvikQueriesAndAborts : Obligations.HalvikQueriesAndAborts := by
  refine ⟨?query, ?nonce, ?abortLoad, ?abortDelta, ?bsLoad, ?readyIdle, ?readySwapped, ?bootOnce⟩
  case query =>
    intro s r h
    exact answer_accepts h (by decide) rfl
  case nonce =>
    rintro s u r n h rfl rfl
    exact answer_accepts h (by decide) rfl
  case abortLoad =>
    rintro s u r e i h rfl ho he hop hi
    exact answer_accepts h (by decide) (State.abortCmd_imageLoad ho he hop hi)
  case abortDelta =>
    rintro s u r e d h rfl ho he hop hi hd hdo hdt hph
    exact answer_accepts h (by decide) (State.abortCmd_prepare ho he hop hi hd hdo hdt hph)
  case bsLoad =>
    rintro s u r f l h rfl hw ha hn hb hc
    exact answer_accepts h (by decide) (State.bsLoad_passes hw ha hn hb hc)
  case readyIdle =>
    rintro s u r h rfl hb hch hd
    exact answer_accepts h (by decide) (State.bayReady_no_delta hb hch hd)
  case readySwapped =>
    rintro s u r d h rfl hb hch hd hph hbay hcore
    exact answer_accepts h (by decide) (State.bayReady_swapped hb hch hd hph hbay hcore)
  case bootOnce =>
    rintro s u v r k h rfl rfl hk hst rfl
    exact answer_accepts h (by decide) (State.bootOnceCmd_names hk hst)

end Sys2Proof.Machine
end

section
/-! SUPPORT.
Bitstream slots (O7). -/

namespace Sys2Proof.Machine

/-- A command whose NVM words verify has its effect and completes. -/
theorem State.nvmEnd_verified (s : State) (c : HCmd) (off value : Nat) (f : State → State) :
    s.nvmEnd c 0 off value f = (f s).done c 0 value := rfl

/-- SLOT_OPEN (R104). -/
theorem State.slotOpen_verified {s : State} {c : HCmd} (hk : c.p 0 < 2) (hr : s.runs (c.p 0) = false) (hl : c.p 1 ≤ 786432) :
    s.slotOpen c 0 = (State.setSlot { s with sec := { s.sec with openSlot := some (c.p 0) } } (c.p 0)
      (fun x => { x with state := 1, totalLen := c.p 1, tried := false, configId := 0 })).done c 0 0 := by
  unfold State.slotOpen
  dsimp only
  rw [if_neg (by omega), if_neg (ne_true_of_eq_false hr), if_neg (by omega), State.nvmEnd_verified]

/-- SLOT_WRITE within the length of the open slot (R105, R122). -/
theorem State.slotWrite_verified {s : State} {c : HCmd} {k : Nat} {d : List Byte} (ho : s.openSlot = some k)
    (hl : c.p 0 + c.p 3 ≤ (s.slotRec k).totalLen) (hb : s.cmdBuf c (c.addr 1) (c.p 3) = some d) :
    s.slotWrite c 0 = (s.putNvm (0xC0000 * k + c.p 0) d).done c 0 0 := by
  unfold State.slotWrite
  rw [ho]
  dsimp only
  rw [if_neg (by omega), hb]
  exact State.nvmEnd_verified s c _ _ _

/-- SLOT_CLOSE of a file that passes its checks (R106). -/
theorem State.slotClose_passes {s : State} {c : HCmd} {k ms : Nat} {l : List Sect} (ho : s.openSlot = some k)
    (hms : ms = if c.p 0 = 0 then 60000 else c.p 0) (hmin : 1000 ≤ ms) (hmax : ms ≤ 600000)
    (hc : s.bsCheck (s.slotFile k) 1 = .inr l) :
    s.slotClose c 0 = (State.setSlot { s with sec := { s.sec with openSlot := none } } k
      (fun x => { x with state := 2, tried := false, confirmMs := ms, configId := hdrConfig (s.slotFile k) })).done c 0
        (hdrConfig (s.slotFile k)) := by
  unfold State.slotClose
  rw [ho]
  dsimp only
  rw [← hms, if_neg (by omega), hc]
  exact State.nvmEnd_verified s c _ _ _

/-- SLOT_COMMIT of the trial that runs (R101). -/
theorem State.slotCommit_verified {s : State} {c : HCmd} (hr : s.runs (c.p 0) = true) (ht : s.sec.confirming = true) :
    s.slotCommit c 0 =
      (((((State.flag { s with sec := { s.sec with confirming := false } } R.SEC_BOOT_STATUS.TRIAL false).modSlot (c.p 0)
        (fun x => { x with state := 3, preferred := true })).modSlot (1 - c.p 0)
        (fun x => { x with preferred := false })).writeLp0).done c 0 0) := by
  unfold State.slotCommit
  dsimp only
  rw [if_pos (by simp [hr, ht]), State.nvmEnd_verified]

/-- SLOT_ERASE of a slot that neither runs nor is open (R104, R121). -/
theorem State.slotErase_verified {s : State} {c : HCmd} (hk : c.p 0 < 2) (hr : s.runs (c.p 0) = false)
    (ho : s.sec.openSlot ≠ some (c.p 0)) :
    s.slotErase c 0 = (s.setSlot (c.p 0) (fun x => { SlotRec.blank with preferred := x.preferred })).done c 0 0 := by
  unfold State.slotErase
  dsimp only
  rw [if_neg (by omega), if_neg (ne_true_of_eq_false hr), State.nvmEnd_verified, if_neg ho]

/-- The hold of a configuration ends: it is applied, and only a stack master counts as aligned without the load (R412). -/
theorem execConfigurationHoldTimeout_waiting {s : State} {f : List Byte} {k : Nat} (h : s.sec.waiting = some (f, k)) :
    exec .configurationHoldTimeout s = .next (if (s.applyEdge f k).on R.TRS_STATUS.IS_MASTER then s.applyEdge f k
      else (s.applyEdge f k).setAligned false) := by
  show execConfigurationHoldTimeout s = _
  rw [execConfigurationHoldTimeout, h]
  rfl

/-- Settles O7: each slot command is accepted and passes its checks; the two timers take the branch of what they find. -/
theorem bitstreamSlots : Obligations.BitstreamSlots := by
  refine ⟨?opened, ?written, ?closed, ?committed, ?erased, ?confirm, ?master, ?member⟩
  case opened =>
    rintro s u r k h rfl rfl hk hr hl
    exact answer_accepts h (by decide) (State.slotOpen_verified hk hr hl)
  case written =>
    rintro s u r k d h rfl ho hl hb
    exact answer_accepts h (by decide) (State.slotWrite_verified ho hl hb)
  case closed =>
    rintro s u r k ms l h rfl ho hms hmin hmax hc
    exact answer_accepts h (by decide) (State.slotClose_passes ho hms hmin hmax hc)
  case committed =>
    rintro s u r k h rfl rfl hr ht
    exact answer_accepts h (by decide) (State.slotCommit_verified hr ht)
  case erased =>
    rintro s u r k h rfl rfl hk hr ho
    exact answer_accepts h (by decide) (State.slotErase_verified hk hr ho)
  case confirm =>
    intro s h
    exact congrArg Host.Outcome.next (if_pos h)
  case master =>
    intro s f k hw hm
    rw [execConfigurationHoldTimeout_waiting hw, if_pos hm]
  case member =>
    intro s f k hw hm
    rw [execConfigurationHoldTimeout_waiting hw, if_neg (ne_true_of_eq_false hm)]

end Sys2Proof.Machine
end

section
/-! SUPPORT.
Key commands and completion rings (O9). -/

namespace Sys2Proof.Machine

/-- A signed command whose conditions hold uses the nonce up and acts (R96). -/
theorem State.signed_ok {s : State} {c : HCmd} {n : Nat} (h : s.signedOk c n = true) (f : State → State) :
    s.signed c n f = f { s with sec := { s.sec with nonce := none } } := if_pos h

/-- During provisioning the host on HIF-SPI programs a slot that holds no hash without a signature; word 0 announces no AES
key here (R94, R96, R97). -/
theorem State.keyProvision_host {s : State} {c : HCmd} (hp : s.sec.otp.provisioning = true) (hch : c.ch = 8)
    (hk : s.sec.otp.hash.getD (c.p 0 % 4) none = none) (haes : (c.p 0).testBit 8 = false) : s.keyProvision c =
      (s.modOtp (fun x =>
        { x with hash := updAt x.hash (c.p 0 % 4) (fun _ => some (slice (payBytes c.pay) 4 32)) })).done c 0 0 := by
  unfold State.keyProvision
  dsimp only
  rw [if_pos ⟨hp, .inl hch⟩, if_pos hch]
  unfold State.keyWrite
  dsimp only
  rw [haes, hk]
  rfl

/-- KEY_REVOKE of a programmed slot with another usable one (R97). -/
theorem State.keyRevoke_signed {s : State} {c : HCmd} (hs : s.signedOk c 1 = true) (hk : c.p 0 ≤ 3)
    (hprog : (s.sec.otp.hash.getD (c.p 0) none).isSome = true) (huse : s.sec.otp.usable (c.p 0) = true) :
    s.keyRevoke c = (State.modOtp { s with sec := { s.sec with nonce := none } }
      (fun x => { x with revoked := setBit x.revoked (c.p 0) })).done c 0 0 := by
  have hslot : ¬ (3 < c.p 0 ∨ (s.sec.otp.hash.getD (c.p 0) none).isNone = true) := by
    rintro (h3 | hnone)
    · omega
    · exact Option.isSome_iff_ne_none.mp hprog (Option.isNone_iff_eq_none.mp hnone)
  unfold State.keyRevoke
  rw [State.signed_ok hs]
  dsimp only
  rw [if_neg hslot, if_neg (by simp [huse])]

/-- SECVER_RAISE up to the security version that runs, while OTP has room for a floor (R95, R97). -/
theorem State.secverRaise_signed {s : State} {c : HCmd} (hs : s.signedOk c 1 = true) (hv : c.p 0 ≤ s.sec.secVer)
    (hroom : s.sec.otp.floors.length < 8) :
    s.secverRaise c = (State.modOtp { s with sec := { s.sec with nonce := none } }
      (fun x => { x with floors := x.floors ++ [c.p 0] })).done c 0 0 := by
  unfold State.secverRaise
  rw [State.signed_ok hs]
  dsimp only
  rw [if_neg (by omega), if_neg (by omega)]

/-- CPL_TAIL of a bay's channel (R118). -/
theorem State.setTail_bay {s : State} {b : Nat} (hb : b < 8) (tail : Nat) :
    s.setTail b tail = (s.put (R.SECn_CPL_TAIL.TAIL b) tail).flushRing s.sec.held.length b := by
  unfold State.setTail
  rw [if_pos hb]
  rfl

/-- A bay writes the CPL_TAIL of its own channel. -/
theorem execCplTail_grants {s : State} {i : Init} {b : Nat} (h : s.grants i (isBay i b) = true) (tail : Nat) :
    exec (.cplTail i b tail) s = .next (s.setTail b tail) := by
  show execCplTail i b tail s = _
  rw [execCplTail, State.act_grants h]
  rfl

/-- Settles O9: the key commands are accepted and, where signed, stand; CPL_TAIL acts for the bay that it belongs to. -/
theorem keysAndCompletions : Obligations.KeysAndCompletions := by
  refine ⟨?provision, ?revoke, ?raise, ?tail⟩
  case provision =>
    rintro s u r k b h rfl hch hp rfl rfl haes hk
    exact answer_accepts h (by decide) (State.keyProvision_host hp hch hk haes)
  case revoke =>
    rintro s u r k h rfl hs rfl hk hprog huse
    exact answer_accepts h (by decide) (State.keyRevoke_signed hs hk hprog huse)
  case raise =>
    rintro s u r v h rfl hs rfl hv hroom
    exact answer_accepts h (by decide) (State.secverRaise_signed hs hv hroom)
  case tail =>
    intro s i b tail hg hb
    exact ⟨_, execCplTail_grants hg tail, State.setTail_bay hb tail⟩

end Sys2Proof.Machine
end

section
/-! SUPPORT.
Live bay deltas and image loads (O8). -/

namespace Sys2Proof.Machine

/-! ### DELTA_APPLY and IMAGE_LOAD -/

/-- The delta that an accepted DELTA_APPLY of file `f` begins, with the configuration `new` that its checks produce, where it
brings the bay no engine that had no owner (R108). -/
def deltaOf (c : HCmd) (f : List Byte) (old new : List Sect) : Delta :=
  { ch := c.ch, origin := c.origin, tag := c.tag, bay := hdrBay f, configId := hdrConfig f, newCfg := new, oldCfg := old
    readyMs := if c.p 3 = 0 then 1000 else c.p 3, phase := .prepare, prepEngines := 0, prepLeft := 0, abortLate := false }

/-- A delta that prepares no engine changes nothing but Halvik's note of it, and loads go on (R108). -/
theorem State.deltaApply_no_engines {s : State} {c : HCmd} {f : List Byte} {new : List Sect} (hd : s.sec.delta = none)
    (hms : c.p 3 ≤ 60000) (hb : s.cmdBuf c (c.addr 0) (c.p 2) = some f) (hc : s.bsCheck f 2 = .inr new)
    (hp : s.deltaPair (hdrBay f) (hdrConfig f) = false) (hn : newEngines s.cfg new (hdrBay f) = 0) :
    s.deltaApply c = State.kickLoads { s with sec := { s.sec with delta := some (deltaOf c f s.cfg new) } } := by
  have hnone : indices 12 (fun e => Nat.testBit 0 e) = [] := by decide
  unfold State.deltaApply
  rw [if_neg (by simp [hd]), if_neg (by omega), hb]
  dsimp only
  rw [hc]
  dsimp only
  rw [if_neg (ne_true_of_eq_false hp), hn, hnone]
  rfl

/-- IMAGE_LOAD for an engine that waits for its image from the host (R298). -/
theorem State.imageLoad_waiting {s : State} {c : HCmd} {f : List Byte} (he : c.p 0 < 12)
    (hsrc : s.on (R.REELn_CFG.SOURCE (c.p 0)) = true) (hst : s.get (R.REELn_STATE.STATE (c.p 0)) = 4)
    (hb : s.cmdBuf c (c.addr 1) (c.p 3) = some f) {v : State}
    (hv : v = (s.put (R.REELn_STATE.STATE (c.p 0)) 3).modEngine (c.p 0) (fun x => { x with before := 4, incoming := f })) :
    s.imageLoad c =
      { v with sec := { v.sec with imgCmds := v.sec.imgCmds ++ [⟨c.ch, c.origin, c.tag, c.p 0, []⟩] } } := by
  have hok : ¬ (11 < c.p 0 ∨ s.on (R.REELn_CFG.SOURCE (c.p 0)) = false ∨
      (s.get (R.REELn_STATE.STATE (c.p 0)) ≠ 4 ∧ s.get (R.REELn_STATE.STATE (c.p 0)) ≠ 8)) := by
    simp [hsrc, hst]
    omega
  subst hv
  unfold State.imageLoad
  dsimp only
  rw [if_neg hok, hb, hst]

/-! ### The events of a delta -/

/-- The swap edge of a delta that nothing holds off (R108, R109). -/
theorem execDeltaSwap_prepared {s : State} {d : Delta} (hd : s.sec.delta = some d) (hph : d.phase = .prepare)
    (hleft : d.prepLeft = 0) (hdef : s.swapDeferred d.bay = false) (hrun : s.coresRun = true) {u : State}
    (hu : u = (s.modDelta (fun x => { x with phase := .swapped })).flag (R.VDTn_ROLE.ELIGIBLE d.bay) false) :
    exec .deltaSwap s =
      .next ((State.retarget { u with bay := { u.bay with closedGrants := addedGrants d.oldCfg d.newCfg } } d.bay 6 d.newCfg
        d.prepEngines).kickLoads) := by
  subst hu
  show execDeltaSwap s = _
  rw [execDeltaSwap, hd]
  exact congrArg Host.Outcome.next (if_neg (by simp [hph, hleft, hdef, hrun]))

/-- The restore edge of a delta whose bay has a record in the old configuration too (R111). -/
theorem execDeltaRollback_configured {s : State} {d : Delta} (hd : s.sec.delta = some d) (hph : d.phase = .swapped)
    (hold : (cfgBay d.oldCfg d.bay).isSome = true) {u v : State}
    (hu : u = { s with sec := { s.sec with delta := none }, bay := { s.bay with closedGrants := [] } })
    (hv : v = ((u.retarget d.bay 7 d.oldCfg 0).report 0 0x5804 d.bay 0).halvikDone d.ch d.origin d.tag 3 0x0401 0 0) :
    exec .deltaRollback s = .next ((v.eligible d.bay).runLater.kickLoads) := by
  have hmade : (cfgBay d.oldCfg d.bay).isNone = false := by
    obtain ⟨r, hr⟩ := Option.isSome_iff_exists.mp hold
    rw [hr]
    rfl
  subst hv hu
  show execDeltaRollback s = _
  rw [execDeltaRollback, hd]
  dsimp only
  rw [if_neg (not_not_intro hph), hmade]
  rfl

/-! ### The end of an image load -/

/-- A load that ends while its engine loads: the checks of R295 decide. -/
theorem execImageLoadDone_loading {s : State} {e : Nat} (h : s.get (R.REELn_STATE.STATE e) = 3) {f : List Byte}
    (hf : f = s.imgView.imgFile e) {k : Nat} (hk : k = s.imgView.imgCheck e f) :
    exec (.imageLoadDone e) s = .next (if k = 0 then ((s.imgPassed e f).imgCmdEnd e 1 0 (beAt f 6 2)).kickLoads
      else ((s.imgCmdEnd e 3 k 0).imgFailed e k).kickLoads) := by
  subst hk hf
  show execImageLoadDone e s = _
  rw [execImageLoadDone, if_neg (not_not_intro h)]
  rfl

/-- Settles O8: the two commands are accepted and pass their checks, the events of a delta find it in their phase, and the end
of a load follows its checks. -/
theorem deltasAndImageLoads : Obligations.DeltasAndImageLoads := by
  refine ⟨?apply, ?swap, ?commit, ?rollback, ?deferred, ?imageLoad, ?passed, ?failed⟩
  case apply =>
    rintro s u v r f new d h rfl hd hms hb hc hp hn rfl rfl
    exact answer_accepts h (by decide) (State.deltaApply_no_engines hd hms hb hc hp hn)
  case swap =>
    intro s u d hd hph hleft hdef hrun hu
    exact execDeltaSwap_prepared hd hph hleft hdef (by simp [State.coresRun, hrun]) hu
  case commit =>
    intro s d hd hph hready
    show execDeltaCommit s = _
    rw [execDeltaCommit, hd]
    exact congrArg Host.Outcome.next (if_pos ⟨hph, hready⟩)
  case rollback =>
    intro s u v d hd hph hold hu hv
    exact execDeltaRollback_configured hd hph hold hu hv
  case deferred =>
    intro s d hd hph hleft hdef
    show execDeltaDeferTimeout s = _
    rw [execDeltaDeferTimeout, hd]
    exact congrArg Host.Outcome.next (if_pos ⟨hph, hleft, hdef⟩)
  case imageLoad =>
    rintro s u v r e f h rfl rfl he hsrc hst hb hv
    exact answer_accepts h (by decide) (State.imageLoad_waiting (s := s.accepted r 0x30) he hsrc hst hb hv)
  case passed =>
    intro s e f h hf hk
    rw [execImageLoadDone_loading h hf hk.symm, if_pos rfl]
  case failed =>
    intro s e k h hk hne
    rw [execImageLoadDone_loading h rfl hk, if_neg hne]

end Sys2Proof.Machine
end

section
/-! SUPPORT.
Witnesses: concrete states and inputs that meet the hypotheses of O2 and O6 to O10. -/

namespace Sys2Proof.Machine

/-- A pulse of 1 µs on RESETn of a device fresh from power-on, with the straps at their largest values. -/
theorem resetn_witness : exec (.resetnLow 1000 ⟨3, 7, 1⟩ true) State.reset =
    .next ((State.reset.deviceReset R.SYS_RESET_CAUSE.RESETN).latch ⟨3, 7, 1⟩ true) := by
  obtain ⟨-, hpin, -⟩ := resetsOfTheDevice
  obtain ⟨t, he, rfl, -⟩ := hpin State.reset 1000 ⟨3, 7, 1⟩ true (by decide) (by decide)
  exact he

/-- A device that waits in RUN for the host on HIF-SPI to push a file, with no command accepted yet. -/
def hostState : State := (State.reset.setPhase .run).put R.SYS_STRAPS.BOOT_SRC 2

/-- Halvik accepts a first command of the host on HIF-SPI, with an origin of its range, a LEN of the opcode, and an opcode that
this channel may issue. -/
theorem State.accepts_first {s : State} {r : HReq} {op : Nat} (hon : s.hifOn = true) (hrep : s.sec.replay = []) (hch : r.ch = 8)
    (ho : r.origin / 256 = 16) (ht : r.tag < 65536) (hp : r.payload.length ≤ 62)
    (hl : (match opLens op ((r.payload.getD 0 0).toNat) with | some l => l.contains r.payload.length | none => false) = true)
    (hc : s.chanOk 8 op = true) : s.accepts r op := by
  have hhalvik : s.halvikOn = true := (Bool.and_eq_true_iff.mp hon).1
  refine ⟨?_, hhalvik, by omega, ht, hp, ?_, ?_, hl, ?_⟩
  · rw [hch]
    exact hon
  · rw [ho, hch]
    rfl
  · rw [hrep]
    rfl
  · rw [hch]
    exact hc

/-- QUERY with the last origin and tag of the host. -/
theorem query_witness : exec (.query ⟨8, 0x10FF, 65535, []⟩) hostState =
    .next ((hostState.accepted ⟨8, 0x10FF, 65535, []⟩ 0x01).done (halvikCmd ⟨8, 0x10FF, 65535, []⟩ 0x01)
      (hostState.get R.SEC_CONFIG_ID.CONFIG_ID) (hostState.word R.SEC_SLOT_STATE.STATE_A).toNat) := by
  obtain ⟨hquery, -⟩ := halvikQueriesAndAborts
  exact hquery hostState _ (State.accepts_first (by decide) rfl rfl (by decide) (by decide) (by decide) (by decide) (by decide))

/-- SLOT_OPEN of slot B with the largest length. -/
def openLast : HReq := ⟨8, 0x1000, 0, [1#32, 786432#32]⟩

theorem slotOpen_witness : exec (.slotOpen openLast 0) hostState =
    .next ((State.setSlot { hostState.accepted openLast 0x10 with
        sec := { (hostState.accepted openLast 0x10).sec with openSlot := some 1 } } 1
      (fun x => { x with state := 1, totalLen := 786432, tried := false, configId := 0 })).done
        (halvikCmd openLast 0x10) 0 0) := by
  obtain ⟨hopen, -⟩ := bitstreamSlots
  exact hopen hostState _ openLast 1
    (State.accepts_first (by decide) rfl rfl (by decide) (by decide) (by decide) (by decide) (by decide)) rfl rfl (by decide)
    (by decide) (by decide)

/-- The last engine waits for its image from the host. -/
def loadState : State := (hostState.put (R.REELn_CFG.SOURCE 11) 1).put (R.REELn_STATE.STATE 11) 4

/-- IMAGE_LOAD of an empty file for that engine. -/
def loadLast : HReq := ⟨8, 0x1000, 0, [11#32, 0#32, 0#32, 0#32]⟩

/-- Its engine loads. -/
def loadingState : State := ((loadState.accepted loadLast 0x30).put (R.REELn_STATE.STATE 11) 3).modEngine 11
  (fun x => { x with before := 4, incoming := [] })

theorem imageLoad_witness : exec (.imageLoad loadLast) loadState = .next { loadingState with
    sec := { loadingState.sec with imgCmds := loadingState.sec.imgCmds ++ [⟨8, 0x1000, 0, 11, []⟩] } } := by
  obtain ⟨-, -, -, -, -, hload, -⟩ := deltasAndImageLoads
  exact hload loadState _ loadingState loadLast 11 []
    (State.accepts_first (by decide) rfl rfl (by decide) (by decide) (by decide) (by decide) (by decide)) rfl rfl (by decide)
    (by decide) (by decide) rfl rfl

/-- A delta of the last bay, which owns neither core nor engine, after its swap edge. -/
def swappedDelta : Delta := { deltaOf (halvikCmd loadLast 0x20) [] [] [] with bay := 7, phase := .swapped }

def swappedState : State := { hostState with sec := { hostState.sec with delta := some swappedDelta } }

theorem deltaCommit_witness : exec .deltaCommit swappedState = .next (swappedState.deltaCommit swappedDelta) := by
  obtain ⟨-, -, hcommit, -⟩ := deltasAndImageLoads
  exact hcommit swappedState swappedDelta rfl rfl (by decide)

/-- KEY_PROVISION of the last slot, whose key hash is 32 zero bytes. -/
def provisionLast : HReq := ⟨8, 0x1000, 0, [3#32, 0#32, 0#32, 0#32, 0#32, 0#32, 0#32, 0#32, 0#32]⟩

theorem keyProvision_witness : exec (.keyProvision provisionLast) hostState =
    .next (((hostState.accepted provisionLast 0x40).modOtp (fun x =>
      { x with hash := updAt x.hash 3 (fun _ => some (slice (payBytes provisionLast.payload) 4 32)) })).done
        (halvikCmd provisionLast 0x40) 0 0) := by
  obtain ⟨hprovision, -⟩ := keysAndCompletions
  exact hprovision hostState _ provisionLast 3 _
    (State.accepts_first (by decide) rfl rfl (by decide) (by decide) (by decide) (by decide) (by decide)) rfl rfl (by decide)
    rfl rfl (by decide) (by decide)

/-- SELF_RST by a core of the last bay, which runs. -/
theorem selfRst_witness : exec (.selfRst ⟨7, 0, 0⟩ 7) slotState = .next (slotState.registerReset 7 2) := by
  obtain ⟨hself, -⟩ := bayCommands
  exact hself slotState ⟨7, 0, 0⟩ 7 (by decide) rfl

end Sys2Proof.Machine
end

section
/-! SUPPORT.
The bandwidth wheel: whom a slot serves (O54). -/

namespace Sys2Proof.Machine

/-! ### The round robin -/

theorem slotLane_lt (x : Xfer) : slotLane x < 9 := by
  unfold slotLane
  split <;> omega

/-- The transfer whose number comes first in the round robin after `rr` (R144). -/
def nextInTurn (rr : Nat) (l : List Xfer) : Option Xfer :=
  ((List.range 9).map (fun k => (rr + 1 + k) % 9)).findSome? (fun b => l.find? (fun x => slotLane x == b))

/-- The round robin misses no transfer. -/
theorem nextInTurn_isSome {rr : Nat} {l : List Xfer} (hl : l ≠ []) : (nextInTurn rr l).isSome = true := by
  obtain ⟨x, hx⟩ := List.exists_mem_of_ne_nil l hl
  rw [nextInTurn, List.findSome?_isSome_iff]
  exact ⟨slotLane x, mem_roundRobin rr (slotLane_lt x), by simpa using ⟨x, hx, rfl⟩⟩

/-- Numbers before the turn of the transfer that is served have nothing pending. -/
theorem nextInTurn_first {rr : Nat} {l : List Xfer} {y : Xfer} (h : nextInTurn rr l = some y) :
    y ∈ l ∧ ∃ k < 9, slotLane y = (rr + 1 + k) % 9 ∧ ∀ j < k, ∀ z ∈ l, slotLane z ≠ (rr + 1 + j) % 9 := by
  rw [nextInTurn, List.findSome?_map] at h
  obtain ⟨before, k, after, hsplit, hk, hnone⟩ := List.findSome?_eq_some_iff.mp h
  have hk9 : k < 9 := List.mem_range.mp (by simp [hsplit])
  have hsorted : (before ++ k :: after).Pairwise (· < ·) := hsplit ▸ List.pairwise_lt_range
  refine ⟨List.mem_of_find?_eq_some hk, k, hk9, by simpa using List.find?_some hk, fun j hj z hz => ?_⟩
  have hmem : j ∈ before ++ k :: after := hsplit ▸ List.mem_range.mpr (by omega)
  have hbefore : j ∈ before := by
    rcases List.mem_append.mp hmem with hj' | hj'
    · exact hj'
    · have hle : k ≤ j := by
        rcases List.mem_cons.mp hj' with rfl | hj'
        · exact Nat.le_refl _
        · exact Nat.le_of_lt ((List.pairwise_cons.mp (List.pairwise_append.mp hsorted).2.1).1 j hj')
      omega
  simpa using List.find?_eq_none.mp (hnone j hbefore) z hz

/-! ### The slot -/

/-- Whether a transfer is of the bay that owns a wheel position. -/
def State.ownsSlot (s : State) (pos : Nat) (x : Xfer) : Bool :=
  decide (s.bay.wheel.getD (pos % 64) 8 < 8) && slotLane x == s.bay.wheel.getD (pos % 64) 8

theorem State.ownsSlot_iff {s : State} {pos : Nat} {x : Xfer} :
    s.ownsSlot pos x = true ↔ slotLane x < 8 ∧ slotLane x = s.bay.wheel.getD (pos % 64) 8 := by
  unfold State.ownsSlot
  rw [Bool.and_eq_true, decide_eq_true_eq, beq_iff_eq]
  omega

/-- A slot serves its position's bay first, then in the round robin (R144). -/
theorem State.slotPick_eq (s : State) (pos : Nat) (l : List Xfer) : s.slotPick pos l =
    ((l.find? (s.ownsSlot pos)).map (fun y => (y, true))).or ((nextInTurn s.bay.rr l).map (fun y => (y, false))) := by
  show (match l.find? (s.ownsSlot pos) with
    | some x => some (x, true)
    | none => match nextInTurn s.bay.rr l with | some x => some (x, false) | none => none) = _
  cases l.find? (s.ownsSlot pos) <;> cases nextInTurn s.bay.rr l <;> rfl

/-- A transfer of the position's bay goes first. -/
theorem State.slotPick_of_own {s : State} {pos : Nat} {l : List Xfer} {x : Xfer} (hx : x ∈ l) (h8 : slotLane x < 8)
    (hw : slotLane x = s.bay.wheel.getD (pos % 64) 8) :
    ∃ y ∈ l, slotLane y = slotLane x ∧ s.slotPick pos l = some (y, true) := by
  obtain ⟨y, hy⟩ := Option.isSome_iff_exists.mp
    (List.find?_isSome.mpr ⟨x, hx, State.ownsSlot_iff.mpr ⟨h8, hw⟩⟩)
  obtain ⟨-, hlane⟩ := State.ownsSlot_iff.mp (List.find?_some hy)
  exact ⟨y, List.mem_of_find?_eq_some hy, hlane.trans hw.symm, by rw [State.slotPick_eq, hy]; rfl⟩

/-- With nothing pending for the position's bay, the round robin decides. -/
theorem State.slotPick_of_others {s : State} {pos : Nat} {l : List Xfer}
    (h : ∀ x ∈ l, 8 ≤ slotLane x ∨ slotLane x ≠ s.bay.wheel.getD (pos % 64) 8) :
    s.slotPick pos l = (nextInTurn s.bay.rr l).map (fun y => (y, false)) := by
  have hnone : l.find? (s.ownsSlot pos) = none :=
    List.find?_eq_none.mpr (fun x hx hown => by
      have hx' := h x hx
      have hown' := State.ownsSlot_iff.mp hown
      omega)
  rw [State.slotPick_eq, hnone]
  rfl

/-- What is served on its own position is of the position's bay. -/
theorem State.slotPick_true {s : State} {pos : Nat} {l : List Xfer} {y : Xfer} (h : s.slotPick pos l = some (y, true)) :
    slotLane y = s.bay.wheel.getD (pos % 64) 8 := by
  rw [State.slotPick_eq, Option.or_eq_some_iff] at h
  rcases h with h | ⟨-, h⟩
  · obtain ⟨x, hx, hxy⟩ := Option.map_eq_some_iff.mp h
    obtain rfl : x = y := (Prod.mk.inj hxy).1
    exact (State.ownsSlot_iff.mp (List.find?_some hx)).2
  · simp at h

/-- A slot of the clocked fabric, with transfers of running bays and of other members pending, serves what it picks. -/
theorem execFabricTransfer_pick {s : State} {pos : Nat} {l : List Xfer} {y : Xfer} {own : Bool} (hc : s.clocked = true)
    (hl : ∀ x ∈ l, x.by_.kind = 5 ∨ s.live x.by_.bay = true) (hp : s.slotPick pos l = some (y, own)) :
    exec (.fabricTransfer pos l) s =
      .next ((State.slotCount (if own then s else { s with bay := { s.bay with rr := slotLane y } }) y own).transfer y) := by
  show execFabricTransfer pos l s = _
  have hf : l.filter (fun x => x.by_.kind == 5 || s.live x.by_.bay) = l :=
    List.filter_eq_self.mpr (fun x hx => by simpa using hl x hx)
  rw [execFabricTransfer, if_pos hc, State.fabricSlot, hf, hp]
  rfl

/-- Settles O54: the two stages of the pick, the place of each number in the round robin, and the slot that follows the pick. -/
theorem slotsGoToTheirBayOrRoundRobin : Obligations.SlotsGoToTheirBayOrRoundRobin := by
  refine ⟨?own, ?turn, ?noPosition, ?slack, ?mine⟩
  case own => exact fun s pos l x hx h8 hw => State.slotPick_of_own hx h8 hw
  case turn =>
    intro s pos l hrr hl hothers
    obtain ⟨y, hy⟩ := Option.isSome_iff_exists.mp (nextInTurn_isSome (rr := s.bay.rr) hl)
    obtain ⟨hmem, k, hk, hlane, hfirst⟩ := nextInTurn_first hy
    refine ⟨y, hmem, by rw [State.slotPick_of_others hothers, hy]; rfl, fun z hz => ?_⟩
    have hz9 := slotLane_lt z
    exact Nat.le_of_not_lt (fun hlt => hfirst ((slotLane z + 17 - s.bay.rr) % 9) (by omega) z hz (by omega))
  case noPosition =>
    intro s pos b l y own _ hno hp hy
    cases own with
    | false => rfl
    | true => exact absurd ((State.slotPick_true hp).symm.trans hy) (hno pos)
  case slack => exact fun s pos l y hc hl hp => execFabricTransfer_pick hc hl hp
  case mine => exact fun s pos l y hc hl hp => execFabricTransfer_pick hc hl hp

end Sys2Proof.Machine
end

section
/-! SUPPORT.
The bandwidth wheel: the positions that a bay is given (O55). -/

namespace Sys2Proof.Machine

/-! ### The positions chosen -/

/-- The free positions of a wheel, in order. -/
def freeSlots (w : List Nat) : List Nat := indices 64 (fun p => w.getD p 8 == 8)

/-- The free positions that a bay with share `k` takes. -/
def takenSlots (w : List Nat) (k : Nat) : List Nat :=
  (List.range k).map (fun j => (freeSlots w).getD (j * (freeSlots w).length / k) 64)

theorem mem_freeSlots {w : List Nat} {p : Nat} : p ∈ freeSlots w ↔ p < 64 ∧ w.getD p 8 = 8 := by
  simp [freeSlots, indices]

theorem freeSlots_nodup (w : List Nat) : (freeSlots w).Nodup := List.nodup_range.filter _

/-- A wheel has as many free positions as entries that name no bay. -/
theorem length_freeSlots {w : List Nat} (hw : w.length = 64) : (freeSlots w).length = (w.filter (fun x => x == 8)).length := by
  have hmap : (List.range 64).map (fun p => w.getD p 8) = w := by
    rw [← hw]
    exact List.ext_getElem (by simp) (fun i _ hi => by simp [hi])
  calc (freeSlots w).length = (((List.range 64).map (fun p => w.getD p 8)).filter (fun x => x == 8)).length := by
        rw [List.filter_map, List.length_map]
        rfl
    _ = (w.filter (fun x => x == 8)).length := by rw [hmap]

/-- Of at least `k` places, the places `j * n / k` are places and rise. -/
theorem spread_lt {n k j : Nat} (h : k ≤ n) (hj : j < k) : j * n / k < n :=
  (Nat.div_lt_iff_lt_mul (by omega)).mpr (by rw [Nat.mul_comm n]; exact Nat.mul_lt_mul_of_pos_right hj (by omega))

theorem spread_strictMono {n k i j : Nat} (h : k ≤ n) (hk : 0 < k) (hij : i < j) : i * n / k < j * n / k := by
  have hstep : i * n + n ≤ j * n := by
    rw [← Nat.succ_mul]
    exact Nat.mul_le_mul_right n hij
  calc i * n / k < i * n / k + 1 := Nat.lt_succ_self _
    _ = (i * n + k) / k := (Nat.add_div_right _ hk).symm
    _ ≤ j * n / k := Nat.div_le_div_right (by omega)

/-- With the share within the free positions, every position that a bay takes is one of them. -/
theorem getD_freeSlots_spread {w : List Nat} {k j : Nat} (h : k ≤ (freeSlots w).length) (hj : j < k) :
    (freeSlots w).getD (j * (freeSlots w).length / k) 64 = (freeSlots w)[j * (freeSlots w).length / k]'(spread_lt h hj) :=
  by rw [List.getD_eq_getElem?_getD, List.getElem?_eq_getElem (spread_lt h hj), Option.getD_some]

theorem takenSlots_subset {w : List Nat} {k : Nat} (h : k ≤ (freeSlots w).length) : takenSlots w k ⊆ freeSlots w := by
  intro p hp
  obtain ⟨j, hj, rfl⟩ := List.mem_map.mp hp
  rw [getD_freeSlots_spread h (List.mem_range.mp hj)]
  exact List.getElem_mem _

theorem takenSlots_nodup {w : List Nat} {k : Nat} (h : k ≤ (freeSlots w).length) : (takenSlots w k).Nodup := by
  refine List.pairwise_map.mpr (List.pairwise_lt_range.imp_of_mem (fun {i j} hi hj hij => ?_))
  rw [List.mem_range] at hi hj
  rw [getD_freeSlots_spread h hi, getD_freeSlots_spread h hj]
  have hrise := spread_strictMono h (by omega) hij
  exact List.pairwise_iff_getElem.mp (freeSlots_nodup w) _ _ _ _ hrise

/-! ### The wheel that results -/

theorem placeBay_eq_map (w : List Nat) (b k : Nat) :
    placeBay w b k = (List.range 64).map (fun p => if (takenSlots w k).contains p then b else w.getD p 8) := rfl

/-- A position taken names the bay, any other one stays. -/
theorem getD_placeBay {w : List Nat} {b k p : Nat} (hp : p < 64) :
    (placeBay w b k).getD p 8 = if p ∈ takenSlots w k then b else w.getD p 8 := by
  rw [placeBay_eq_map, List.getD_eq_getElem?_getD, List.getElem?_map, List.getElem?_range hp]
  simp only [Option.map_some, Option.getD_some, List.contains_iff_mem]

/-- A bay that had no position holds those it took, and no other one. -/
theorem length_filter_placeBay {w : List Nat} {b k : Nat} (hb : b < 8) (hno : ∀ x ∈ w, x ≠ b) (hk : k ≤ (freeSlots w).length) :
    ((placeBay w b k).filter (fun x => x == b)).length = k := by
  have hne : ∀ p, w.getD p 8 ≠ b := by
    intro p
    rw [List.getD_eq_getElem?_getD]
    cases hp : w[p]? with
    | none => exact (show (8 : Nat) ≠ b by omega)
    | some x => exact hno x (List.mem_of_getElem? hp)
  have hperm : ((List.range 64).filter (fun p => (takenSlots w k).contains p)).Perm (takenSlots w k) :=
    (List.perm_ext_iff_of_nodup (List.nodup_range.filter _) (takenSlots_nodup hk)).mpr fun p => by
      have hlt : p ∈ takenSlots w k → p < 64 := fun hp => (mem_freeSlots.mp (takenSlots_subset hk hp)).1
      simpa using hlt
  rw [placeBay_eq_map, List.filter_map, List.length_map]
  calc _ = ((List.range 64).filter (fun p => (takenSlots w k).contains p)).length := by
        congr 1
        refine List.filter_congr fun p _ => ?_
        by_cases hp : p ∈ takenSlots w k
        · simp [hp]
        · simpa [hp] using hne p
    _ = (takenSlots w k).length := hperm.length_eq
    _ = k := by simp [takenSlots]

/-- Settles O55: the positions taken are `k` different free ones. -/
theorem wheelPositionsFollowTheShares : Obligations.WheelPositionsFollowTheShares := by
  intro w b k hw hb hno hk
  rw [← length_freeSlots hw] at hk
  refine ⟨by simp [placeBay_eq_map], length_filter_placeBay hb hno hk, fun p hp hbusy => ?_, fun p hp => ?_⟩
  · have hkept : p ∉ takenSlots w k := fun ht => hbusy (mem_freeSlots.mp (takenSlots_subset hk ht)).2
    rw [getD_placeBay hp, if_neg hkept]
  · rw [getD_placeBay hp]
    split
    · exact Or.inl rfl
    · exact Or.inr rfl

end Sys2Proof.Machine
end

section
/-! SUPPORT.
The watchdog of a bay (O11). -/

namespace Sys2Proof.Machine

/-- A write to WDT_KICK that the checks let through is a kick. -/
theorem execWdtKick_grants {s : State} {i : Init} {b : Nat} (h : s.grants i (isBay i b || isBay i 0) = true) (v : Word) :
    exec (.wdtKick i b v) s = .next (s.wdtKick i b v.toNat) :=
  congrArg Host.Outcome.next (State.act_grants h 0x0C02 _ true _)

/-- The watchdog of a running bay with WDT_EN takes kicks. -/
theorem State.wdtKick_enabled {s : State} {b : Nat} (hen : s.on (R.BAYn_STATE.WDT_EN b) = true) (hrun : s.bayState b = bayRunning)
    (i : Init) (v : Nat) : s.wdtKick i b v =
      if i.bay = b ∧ v = 0xC35A then (if s.bay.wdt.getD b 0 = 0 then s else s.startWdt b) else s.wdtReset b 4 0x0C06 v :=
  if_neg (by rw [hen, hrun]; decide)

/-- Settles O11: a kick acts by WDT_EN, the bay's state, the writer and the key; the counter's events, while it counts. -/
theorem watchdog : Obligations.Watchdog := by
  refine ⟨?key, ?wrong, ?disabled, ?warning, ?expiry⟩
  case key =>
    intro s i b v hg hi hv hen hrun hwdt
    rw [execWdtKick_grants hg, State.wdtKick_enabled hen hrun, if_pos ⟨hi, hv⟩, if_neg hwdt]
  case wrong =>
    intro s i b v hg hv hen hrun
    rw [execWdtKick_grants hg, State.wdtKick_enabled hen hrun, if_neg (fun ⟨hi, hkey⟩ => hv.elim (· hi) (· hkey))]
    rfl
  case disabled =>
    intro s i b v hg hen
    rw [execWdtKick_grants hg, State.wdtKick, if_pos (Or.inl hen)]
  case warning => exact fun s b hc => congrArg Host.Outcome.next (if_pos hc)
  case expiry => exact fun s b hc => congrArg Host.Outcome.next (if_pos hc)

end Sys2Proof.Machine
end

section
/-! SUPPORT.
The PCIe endpoint and the QSPI controller (O47). -/

namespace Sys2Proof.Machine

/-! ### The host's accesses -/

/-- BAR2 reaches the staging buffer, as far as both extend. -/
theorem execBar2Access_inside {s : State} {write : Bool} {off len : Nat} {data : List Byte} (hup : s.pcieUp = true)
    (hin : off + (if write then data.length else len) ≤ min s.stage.2 0x100000) : exec (.bar2Access write off len data) s =
      .next (if write then s.stageWrite off data else s.frameData (s.readMem (s.stage.1 + off) len)) :=
  congrArg Host.Outcome.next (if_neg (by rw [hup]; simpa using hin))

/-! ### The link -/

/-- A change of the link of an endpoint that is on sets its fields; a loss is reported. -/
theorem execPcieLinkChange_on {s : State} (hon : s.pcieOn = true) (up : Bool) (rate width ltssm : Nat) (d3 one : Bool) :
    exec (.pcieLinkChange up rate width ltssm d3 one) s =
      let t := ((s.pcieLink up rate width).flag R.HIF_PCIE_STAT.D3 d3).modHif (fun h => { h with oneMsi := one })
      .next (if s.on R.HIF_PCIE_STAT.LINK_UP && !up then t.report 0 0x5C02 0 (ltssm % 8) else t) :=
  congrArg Host.Outcome.next (if_neg (by simp [hon]))

/-! ### The flash -/

/-- GO starts a command unless one runs. -/
theorem execHifQspiCmd_go {s u : State} {i : Init} {w : Word} (hg : s.grants i (s.holds i 5) = true)
    (hgo : w.toNat.testBit 31 = true)
    (hu : u = (((s.put R.HIF_QSPI_CMD.OP w.toNat).put R.HIF_QSPI_CMD.LEN (w.toNat / 256)).put R.HIF_QSPI_CMD.WRITE
      (w.toNat / 131072)).put R.HIF_QSPI_CMD.ADDR_EN (w.toNat / 262144)) (hidle : u.on R.HIF_QSPI_STAT.BUSY = false) :
    exec (.hifQspiCmd i w) s = .next ((u.flag R.HIF_QSPI_STAT.BUSY true).put R.HIF_QSPI_STAT.STATUS 0) := by
  have hacts : exec (.hifQspiCmd i w) s = .next (s.qspiCmd w) := congrArg Host.Outcome.next (State.act_grants hg 0x0C02 _ true _)
  subst hu
  exact hacts.trans (congrArg Host.Outcome.next (if_pos (by rw [hgo, hidle]; rfl)))

/-- The end of a command that runs: STATUS and the interrupt, then the flash or the data registers. -/
theorem execQspiCommandDone_busy {s u : State} (hbusy : s.on R.HIF_QSPI_STAT.BUSY = true)
    (hu : u = ((s.flag R.HIF_QSPI_STAT.BUSY false).put R.HIF_QSPI_STAT.STATUS 1).flag R.HIF_IRQ_PEND.QSPI_DONE true)
    (data : List Word) (off : Nat) (bytes : List Byte) : exec (.qspiCommandDone data off bytes) s =
      .next (if u.on R.HIF_QSPI_CMD.WRITE then { u with flash := putFlash u.flash off bytes }
        else u.forEach (List.range (min 64 ((u.get R.HIF_QSPI_CMD.LEN + 3) / 4))) (fun k t =>
          t.putWord (R.HIF_QSPI_DATA.WORD k) (data.getD k 0))) := by
  subst hu
  exact congrArg Host.Outcome.next (if_neg (by simp [hbusy]))

/-- Settles O47: what the host reaches by the link's state, what the link's events set, and the course of a QSPI command. -/
theorem pcieAndFlash : Obligations.PcieAndFlash := by
  refine ⟨?doorbells, ?bar2Write, ?bar2Read, ?down, ?perst, ?loss, ?linkUp, ?timeout, ?go, ?written, ?read, ?idle⟩
  case doorbells =>
    intro s w hup
    exact ⟨congrArg Host.Outcome.next (if_pos hup), congrArg Host.Outcome.next (if_pos hup)⟩
  case bar2Write => exact fun s o n d hup hin => execBar2Access_inside (write := true) hup hin
  case bar2Read => exact fun s o n d hup hin => execBar2Access_inside (write := false) hup hin
  case down =>
    intro s w b o n d hdown
    have hno : ¬ s.pcieUp = true := by simp [hdown]
    exact ⟨congrArg Host.Outcome.next (if_neg hno), congrArg Host.Outcome.next (if_neg hno),
      congrArg Host.Outcome.next (if_pos (Or.inl hdown))⟩
  case perst => exact fun s => rfl
  case loss =>
    rintro s u r w l d o hon hup rfl
    exact (execPcieLinkChange_on hon false r w l d o).trans (congrArg Host.Outcome.next (if_pos (by rw [hup]; rfl)))
  case linkUp =>
    intro s r w l d o hon
    exact (execPcieLinkChange_on hon true r w l d o).trans (congrArg Host.Outcome.next (if_neg (by simp)))
  case timeout =>
    intro s i w a hl hb hlo hhi
    exact congrArg Host.Outcome.next (if_pos (by simp [hl, hb, hlo, hhi]))
  case go => exact fun s u i w hg hgo hu hidle => execHifQspiCmd_go hg hgo hu hidle
  case written =>
    intro s u d o b hbusy hu hw
    rw [execQspiCommandDone_busy hbusy hu, if_pos hw]
  case read =>
    intro s u d o b hbusy hu hw
    rw [execQspiCommandDone_busy hbusy hu, if_neg (by simp [hw])]
  case idle => exact fun s d o b hidle => congrArg Host.Outcome.next (if_pos hidle)

end Sys2Proof.Machine
end

section
/-! SUPPORT.
Frames: commands that leave memory, the stores and all but a few registers, and writes through the fabric (O59). -/

namespace Sys2Proof.Machine

/-! ### Changes confined to some registers and to hidden parts -/

/-- `t` holds the memory, the NVM and the flash of `s`, and every register of `s` but those at `l`. -/
structure Confined (l : List Nat) (s t : State) : Prop where
  stores : (t.mem, t.nvm, t.flash) = (s.mem, s.nvm, s.flash)
  ok : s.regsOk → t.regsOk
  word : s.regsOk → ∀ g : Fld, g.addr ∉ l → t.word g = s.word g

namespace Confined

variable {l : List Nat} {s t u : State}

theorem refl : Confined l s s := ⟨rfl, id, fun _ _ _ => rfl⟩

theorem trans (h : Confined l s t) (k : Confined l t u) : Confined l s u :=
  ⟨k.stores.trans h.stores, fun hs => k.ok (h.ok hs), fun hs g hg => (k.word (h.ok hs) g hg).trans (h.word hs g hg)⟩

/-- A write to one of the registers named. -/
theorem put (h : Confined l s t) {f : Fld} (n : Nat) (hf : f.addr ∈ l) : Confined l s (t.put f n) :=
  ⟨h.stores, fun hs => State.put_regsOk (h.ok hs) f n, fun hs g hg =>
    (State.word_putWord_other (h.ok hs) f _ g (fun e => hg (e ▸ hf))).trans (h.word hs g hg)⟩

/-- A change of parts that are neither registers nor stores. -/
theorem hidden (h : Confined l s t) (e : (u.regs, u.mem, u.nvm, u.flash) = (t.regs, t.mem, t.nvm, t.flash)) :
    Confined l s u := by
  obtain ⟨hregs, hstores⟩ := Prod.mk.inj e
  have hword : ∀ g, u.word g = t.word g := fun g => by rw [State.word, State.word, hregs]
  exact ⟨hstores.trans h.stores, fun hs => by rw [State.regsOk, hregs]; exact h.ok hs,
    fun hs g hg => (hword g).trans (h.word hs g hg)⟩

theorem forEach {α : Type} {f : α → State → State} (hf : ∀ a v, Confined l s v → Confined l s (f a v)) (as : List α)
    (h : Confined l s t) : Confined l s (t.forEach as f) := by
  induction as generalizing t with
  | nil => exact h
  | cons a as ih => exact ih (hf a t h)

theorem frames (h : Confined l s t) (hs : s.regsOk) : Frames s (.next t) l := by
  obtain ⟨hmem, hstores⟩ := Prod.mk.inj h.stores
  obtain ⟨hnvm, hflash⟩ := Prod.mk.inj hstores
  exact ⟨t, rfl, fun a => by rw [State.byte, State.byte, hmem], hnvm, hflash, h.word hs⟩

end Confined

/-- A command that changes neither registers nor stores. -/
theorem frames_of_hidden {s t : State} (e : (t.regs, t.mem, t.nvm, t.flash) = (s.regs, s.mem, s.nvm, s.flash)) :
    Frames s (.next t) [] := by
  obtain ⟨hregs, hstores⟩ := Prod.mk.inj e
  obtain ⟨hmem, hstores⟩ := Prod.mk.inj hstores
  obtain ⟨hnvm, hflash⟩ := Prod.mk.inj hstores
  exact ⟨t, rfl, fun a => by rw [State.byte, State.byte, hmem], hnvm, hflash, fun g _ => by rw [State.word, State.word, hregs]⟩

/-! ### The commands -/

/-- GPIO outputs: OUT of the bank, and the levels driven (R834). -/
theorem State.gpioOut_confined (s : State) (k mask v : Nat) : Confined [0x401D0004 + 0x20 * k] s (s.gpioOut k mask v) :=
  Confined.forEach
    (fun i t ht => by
      split
      · exact ht
      · exact ht.hidden rfl)
    _ (Confined.refl.put _ (List.mem_singleton.mpr rfl))

/-- A stamp read: STAT and STAMP of the input show its store (R428). -/
theorem State.setTcap_confined (s : State) (n : Nat) (x : List (Nat × Bool)) :
    Confined [0x40062004 + 0x100 * n, 0x40062008 + 0x100 * n] s (s.setTcap n x) := by
  have hstat : (R.TCAPn_STAT.COUNT n).addr ∈ [0x40062004 + 0x100 * n, 0x40062008 + 0x100 * n] := .head _
  have hstamp : (R.TCAPn_STAMP.STAMP n).addr ∈ [0x40062004 + 0x100 * n, 0x40062008 + 0x100 * n] := .tail _ (.head _)
  have hstore : Confined [0x40062004 + 0x100 * n, 0x40062008 + 0x100 * n] s
      { s with time := { s.time with tcap := updAt s.time.tcap n (fun _ => x) } } := Confined.refl.hidden rfl
  exact ((hstore.put _ hstat).put (f := R.TCAPn_STAT.LEVEL n) _ hstat).put _ hstamp

/-- Drive units are hidden parts. -/
theorem State.modDrv_stores (s : State) (n : Nat) (f : DrvUnit → DrvUnit) :
    ((s.modDrv n f).regs, (s.modDrv n f).mem, (s.modDrv n f).nvm, (s.modDrv n f).flash) = (s.regs, s.mem, s.nvm, s.flash) := rfl

/-- A value deferred that may not take effect yet changes nothing; a leg's change is hidden (R634). -/
theorem execLegChangeDeferred_frames (s : State) (n i : Nat) : Frames s (exec (.legChangeDeferred n i) s) [] := by
  show Frames s (execLegChangeDeferred n i s) []
  unfold execLegChangeDeferred
  dsimp only
  split
  · split
    · exact frames_of_hidden (State.modDrv_stores s n _)
    · exact frames_of_hidden rfl
  · exact frames_of_hidden rfl

/-! ### A write into a bank -/

/-- A byte stored reads back. -/
theorem State.byte_putBytes_in (l : List Byte) : ∀ {s : State} (a k : Nat), SMap.wf 0#8 s.mem = true → k < l.length →
    (s.putBytes a l).byte (a + k) = l.getD k 0#8 := by
  induction l with
  | nil => intro s a k _ hk; simp at hk
  | cons b l ih =>
    intro s a k h hk
    cases k with
    | zero =>
      exact (State.byte_putBytes_out l (a + 1) a (State.putByte_memOk h a b) (by omega)).trans (State.byte_putByte_same h a b)
    | succ k =>
      have hrest := ih (a + 1) k (State.putByte_memOk h a b) (by simpa using hk)
      rwa [show a + 1 + k = a + (k + 1) by omega] at hrest

/-- With no word poisoned every byte is stored (R212). -/
theorem State.writeMem_eq_putBytes (l : List Byte) : ∀ {s : State} (a : Nat), s.memx.poison = [] →
    s.writeMem a l = s.putBytes a l := by
  induction l with
  | nil => intro s a _; rfl
  | cons b l ih =>
    intro s a h
    have hb : (if s.memx.poison.contains (a / 8 * 8) then s else s.putByte a b) = s.putByte a b := by rw [h]; rfl
    show State.writeMem _ (a + 1) l = _
    rw [hb]
    exact ih (a + 1) h

/-- A line queued for the standby changes no memory (R563). -/
theorem State.mirrorLine_mem (s : State) (line : Nat) : (s.mirrorLine line).mem = s.mem := by
  unfold State.mirrorLine
  split
  · split
    · rfl
    · split
      · rfl
      · dsimp only
        split <;> rfl
  · rfl

theorem State.capture_mem (s : State) (a n : Nat) : (s.capture a n).mem = s.mem := by
  unfold State.capture
  split
  · rfl
  · exact State.forEach_keeps State.mem (fun k t => t.mirrorLine_mem _) _ s

/-- With no word poisoned a buffer written leaves in memory the bytes stored. -/
theorem State.writeBuf_mem {s : State} (h : s.memx.poison = []) (a : Nat) (l : List Byte) :
    ∃ t : State, t.mem = s.mem ∧ (s.writeBuf a l).mem = (t.putBytes a l).mem := by
  have hpart : s.partHit a l.length = s := by rw [State.partHit, h]; rfl
  refine ⟨(s.snoop a l.length).unpoison a l.length, rfl, ?_⟩
  rw [State.writeBuf, hpart, State.capture_mem, State.writeMem_eq_putBytes]
  show s.memx.poison.filter _ = []
  rw [h]
  rfl

theorem State.memOk_of_canon {s : State} (h : s.canon = true) : SMap.wf 0#8 s.mem = true := by
  unfold State.canon at h
  simp only [Bool.and_eq_true] at h
  obtain ⟨⟨⟨⟨⟨-, hmem⟩, -⟩, -⟩, -⟩, -⟩ := h
  exact hmem

/-- A write of an initiator of this member into a bank that it may reach stores its bytes (R210, R213). -/
theorem State.access_bank_write {s : State} {i : Init} {a n : Nat} {d : List Byte} (hk : i.kind < 5) (hr : regionOf a = .bank n)
    (hz : sizeOk a d.length = true) (hb : s.bufOk i.bay true a d.length = true) (hp : s.memx.poison = []) :
    s.access ⟨i, a, d.length, some d, [], none, none⟩ = (s.writeBuf a d, .ok []) := by
  have hfar : fromAfar i = false := by simp [fromAfar, show i.kind ≠ 5 by omega]
  have hclean : s.poisoned a d.length = false := by rw [State.poisoned, hp]; rfl
  have hecc : s.eccAll a [] = s := rfl
  simp [State.access, State.accHere, State.accRam, Access.wr, hr, hz, hb, hfar, hclean, hecc]

/-! ### A slot -/

/-- The slot counters of a bay (R161). -/
def slotRegs (b : Nat) : List Nat := [0x40021040 + 0x1000 * b, 0x40021044 + 0x1000 * b, 0x40021048 + 0x1000 * b]

theorem State.slotCount_records {s : State} (hs : s.regsOk) (x : Xfer) (own : Bool) :
    Records (slotRegs (slotLane x)) s (s.slotCount x own) := by
  unfold State.slotCount
  dsimp only
  split
  · exact Records.refl hs
  · refine Records.put ?_ _ (by simp [slotRegs, R.BAYn_SLOT_WAIT.MAX])
    split
    · exact (Records.refl hs).put _ (by simp [slotRegs, R.BAYn_SLOT_USED.COUNT])
    · exact (Records.refl hs).put _ (by simp [slotRegs, R.BAYn_SLOT_SLACK.COUNT])

/-- Whether a bay may reach a byte of a bank does not hang on the slot counters. -/
theorem State.mayTouch_slotCount {s : State} (hs : s.regsOk) (x : Xfer) (own : Bool) (b : Nat) (wr : Bool) {a n : Nat}
    (hr : regionOf a = .bank n) : (s.slotCount x own).mayTouch b wr a = s.mayTouch b wr a := by
  have hrec := State.slotCount_records hs x own
  have hcfg : (s.slotCount x own).cfg = s.cfg := by rw [hrec.rest]
  have hrole : (s.slotCount x own).get (R.VDTn_ROLE.ROLE b) = s.get (R.VDTn_ROLE.ROLE b) :=
    hrec.get (by have := slotLane_lt x; simp [slotRegs, R.VDTn_ROLE.ROLE]; omega)
  have hown : (s.slotCount x own).ownBank n = s.ownBank n := by rw [State.ownBank, State.ownBank, hcfg]
  have hmirror : (s.slotCount x own).mirrorAt b a = s.mirrorAt b a := by rw [State.mirrorAt, State.recs, hcfg]; rfl
  have hshut : (s.slotCount x own).mirrorShut b a = s.mirrorShut b a := by
    rw [State.mirrorShut, State.mirrorShut, State.role, State.role, hrole, hmirror]
  simp only [State.mayTouch, hr, hown, hshut]

theorem regionOf_bank_iff {a n : Nat} :
    regionOf a = .bank n ↔ 0x10000000 ≤ a ∧ a < 0x10800000 ∧ (a - 0x10000000) / 0x40000 = n := by
  constructor
  · intro h
    unfold regionOf at h
    by_cases hbank : 0x10000000 ≤ a ∧ a < 0x10800000
    · rw [if_neg (by omega), if_pos hbank] at h
      exact ⟨hbank.1, hbank.2, Region.bank.inj h⟩
    · rw [if_neg hbank] at h
      repeat' split at h
      all_goals cases h
  · rintro ⟨hlo, hhi, rfl⟩
    rw [regionOf, if_neg (by omega), if_pos ⟨hlo, hhi⟩]

/-- The sizes of the fabric divide 64, and so a naturally aligned access stays within its 64 bytes (R210). -/
theorem sizeOk_line {a len : Nat} (h : sizeOk a len = true) : 0 < len ∧ a % 64 + len ≤ 64 := by
  obtain ⟨hlen, hal⟩ : len ∈ [1, 2, 4, 8, 16, 32, 64] ∧ a % len = 0 := by simpa [sizeOk] using h
  simp only [List.mem_cons, List.not_mem_nil, or_false] at hlen
  rcases hlen with rfl | rfl | rfl | rfl | rfl | rfl | rfl <;> omega

/-- Every byte of an access of the fabric into a bank lies in the bank. -/
theorem regionOf_bank_sized {a n len p : Nat} (hr : regionOf a = .bank n) (hz : sizeOk a len = true) (hlo : a ≤ p)
    (hhi : p < a + len) : regionOf p = .bank n := by
  have hline := sizeOk_line hz
  rw [regionOf_bank_iff] at hr ⊢
  omega

/-- A slot counted leaves what a bay may reach of a bank. -/
theorem State.bufOk_slotCount {s : State} (hs : s.regsOk) (x : Xfer) (own : Bool) (b : Nat) (wr : Bool) {a n len : Nat}
    (hr : regionOf a = .bank n) (hz : sizeOk a len = true) :
    (s.slotCount x own).bufOk b wr a len = s.bufOk b wr a len := by
  have hpos := (sizeOk_line hz).1
  have hpiece : ∀ p, a ≤ p → p < a + len → (s.slotCount x own).mayTouch b wr p = s.mayTouch b wr p := fun p hlo hhi =>
    State.mayTouch_slotCount hs x own b wr (regionOf_bank_sized hr hz hlo hhi)
  unfold State.bufOk
  rw [hpiece _ (by omega) (by omega)]
  congr 1
  exact List.all_congr rfl (fun k => hpiece _ (by omega) (by omega))

/-- A slot serves the only transfer that is pending. -/
theorem State.slotPick_single (s : State) (pos : Nat) (x : Xfer) : ∃ own, s.slotPick pos [x] = some (x, own) := by
  by_cases h : slotLane x < 8 ∧ slotLane x = s.bay.wheel.getD (pos % 64) 8
  · exact ⟨true, State.slotPick_own h.1 h.2.symm⟩
  · obtain ⟨y, hy⟩ := Option.isSome_iff_exists.mp (nextInTurn_isSome (rr := s.bay.rr) (List.cons_ne_nil x []))
    obtain rfl : y = x := List.mem_singleton.mp (nextInTurn_first hy).1
    refine ⟨false, ?_⟩
    rw [State.slotPick_of_others (fun z hz => by rw [List.mem_singleton.mp hz]; omega), hy]
    rfl

/-- `t` holds the bytes `d` from `a` on, and every other byte of memory as `s` does. -/
def State.Stored (s t : State) (a : Nat) (d : List Byte) : Prop :=
  (∀ k, k < d.length → t.byte (a + k) = d.getD k 0#8) ∧ ∀ b, b < a ∨ a + d.length ≤ b → t.byte b = s.byte b

/-- A transfer that writes `d` at `a`. -/
def writeXfer (i : Init) (a : Nat) (d : List Byte) : Xfer := ⟨i, a, .write d, [], none, 0⟩

theorem State.transfer_bank_write {s : State} {i : Init} {a n : Nat} {d : List Byte} (hm : SMap.wf 0#8 s.mem = true)
    (hk : i.kind < 5) (hr : regionOf a = .bank n) (hz : sizeOk a d.length = true) (hb : s.bufOk i.bay true a d.length = true)
    (hp : s.memx.poison = []) : s.Stored (s.transfer (writeXfer i a d)) a d := by
  have ht : s.transfer (writeXfer i a d) = s.writeBuf a d := State.accessBy_ok rfl (State.access_bank_write hk hr hz hb hp)
  obtain ⟨u, hu, hmem⟩ := State.writeBuf_mem hp a d
  have hbyte : ∀ c, (s.writeBuf a d).byte c = (u.putBytes a d).byte c := fun c => by rw [State.byte, State.byte, hmem]
  rw [← hu] at hm
  rw [ht]
  refine ⟨fun k hk => (hbyte _).trans (State.byte_putBytes_in d a k hm hk), fun b hb => ?_⟩
  rw [hbyte, State.byte_putBytes_out d a b hm hb, State.byte, State.byte, hu]

/-- The slot of such a transfer counts it, and stores its bytes. -/
theorem State.slot_bank_write {s : State} {i : Init} {a n : Nat} {d : List Byte} (hs : s.canon = true) (hk : i.kind < 5)
    (hr : regionOf a = .bank n) (hz : sizeOk a d.length = true) (hb : s.bufOk i.bay true a d.length = true)
    (hp : s.memx.poison = []) (own : Bool) :
    s.Stored ((s.slotCount (writeXfer i a d) own).transfer (writeXfer i a d)) a d := by
  have hregs := State.regsOk_of_canon hs
  have hrest := (State.slotCount_records hregs (writeXfer i a d) own).rest
  have hmem : (s.slotCount (writeXfer i a d) own).mem = s.mem := by rw [hrest]
  have hmemx : (s.slotCount (writeXfer i a d) own).memx = s.memx := by rw [hrest]
  obtain ⟨hin, hout⟩ := State.transfer_bank_write (s := s.slotCount (writeXfer i a d) own)
    (by rw [hmem]; exact State.memOk_of_canon hs) hk hr hz (by rw [State.bufOk_slotCount hregs _ _ _ _ hr hz]; exact hb)
    (by rw [hmemx]; exact hp)
  exact ⟨hin, fun b hb => (hout b hb).trans (by rw [State.byte, State.byte, hmem])⟩

/-- Settles O59: each single command is confined to its registers, and the slot of a write into a bank stores its bytes. -/
theorem framesOfSingleCommands : Obligations.FramesOfSingleCommands := by
  refine ⟨?gpio, ?arm, ?stamp, ?doorbell, ?spi, ?legs, ?drive, ?discard, ?write⟩
  case gpio =>
    intro s i k w hc hg
    have hout : ∀ a v (m : State → Nat), Frames s
        (answer (s.act i (!(fromAfar i)) 0x0C02 a true (fun t => t.gpioOut k (m t) v))) [0x401D0004 + 0x20 * k] :=
      fun a v m => by
        rw [State.act_grants hg]
        exact (State.gpioOut_confined s k _ v).frames (State.regsOk_of_canon hc)
    exact ⟨hout _ _ _, hout _ _ _⟩
  case arm =>
    intro s i b hc hg
    have hacts : exec (.pinCommitArm i b) s = .next (s.put (R.PINb_COMMIT.ARMED b) 1) :=
      congrArg Host.Outcome.next (State.act_grants hg 0x0C02 _ true _)
    rw [hacts]
    exact (Confined.refl.put _ (.head _)).frames (State.regsOk_of_canon hc)
  case stamp =>
    intro s i n hc hg
    have hacts : exec (.tcapStamp i n) s = .next ((s.reply1 ((s.time.tcap.getD n []).headD (0, false)).1).setTcap n
        ((s.time.tcap.getD n []).drop 1)) := congrArg Host.Outcome.next (State.act_grants hg 0x0C02 _ false _)
    rw [hacts]
    exact ((Confined.refl.hidden rfl).trans (State.setTcap_confined _ n _)).frames (State.regsOk_of_canon hc)
  case doorbell =>
    intro s w hc
    refine Confined.frames ?_ (State.regsOk_of_canon hc)
    split
    · exact (Confined.refl.put (f := R.HIF_PCIE_HDB.WORD) _ (.head _)).put _ (.tail _ (.head _))
    · exact Confined.refl
  case spi =>
    intro s i w hg
    have hacts : exec (.hifSpiDdb i w) s = .next (s.modHif (fun h => { h with spiDdb := some w.toNat })) :=
      congrArg Host.Outcome.next (State.act_grants hg 0x0C02 _ true _)
    rw [hacts]
    exact frames_of_hidden rfl
  case legs =>
    intro s n i
    exact ⟨frames_of_hidden rfl, execLegChangeDeferred_frames s n i⟩
  case drive =>
    intro s n hc
    refine ⟨Confined.frames ?los (State.regsOk_of_canon hc), Confined.frames ?chopper (State.regsOk_of_canon hc)⟩
    case los =>
      split
      · exact Confined.refl.put _ (.head _)
      · exact Confined.refl
    case chopper =>
      have hduty : ∀ v, Confined [0x40110424 + 0x10000 * n] s (s.put (R.DRVn_BRK_STAT.DUTY n) v) := fun v =>
        Confined.refl.put v (.head _)
      exact ((hduty _).put (f := R.DRVn_BRK_STAT.DUTY_LIMIT n) _ (.head _)).hidden (State.modDrv_stores _ n _)
  case discard =>
    intro s l hc
    refine Confined.frames ?_ (State.regsOk_of_canon hc)
    split
    · exact Confined.refl
    · refine Confined.refl.put _ ?_
      split
      · exact .head _
      · split
        · exact .tail _ (.head _)
        · split
          · exact .tail _ (.tail _ (.head _))
          · exact .tail _ (.tail _ (.tail _ (.head _)))
  case write =>
    intro s pos a n i d hc hclk hl hk _ hz hr hb hp
    obtain ⟨own, hpick⟩ := s.slotPick_single pos (writeXfer i a d)
    refine ⟨_, execFabricTransfer_single hclk hl hpick, ?_⟩
    cases own with
    | true => exact State.slot_bank_write hc hk hr hz hb hp true
    | false =>
      exact State.slot_bank_write (s := { s with bay := { s.bay with rr := slotLane (writeXfer i a d) } }) hc hk hr hz hb hp false

end Sys2Proof.Machine
end

section
/-! SUPPORT.
Witnesses: concrete states and inputs that meet the hypotheses of O11, O47, O54, O55 and O59. -/

namespace Sys2Proof.Machine

/-- Transfers of bay 7, of bay 0 and of another member. -/
def pendingTransfers : List Xfer :=
  [⟨⟨0, 5, 3⟩, 0x10000000, .counted, [], none, 0⟩, ⟨⟨7, 0, 0⟩, 0x10000000, .counted, [], none, 65535⟩,
    ⟨⟨0, 0, 0⟩, 0x10000000, .counted, [], none, 0⟩]

/-- The last wheel position serves its bay, whatever else is pending. -/
theorem ownSlot_witness : ∃ y ∈ pendingTransfers, slotLane y = 7 ∧ slotState.slotPick 63 pendingTransfers = some (y, true) := by
  obtain ⟨hown, -⟩ := slotsGoToTheirBayOrRoundRobin
  exact hown slotState 63 pendingTransfers ⟨⟨7, 0, 0⟩, 0x10000000, .counted, [], none, 65535⟩ (by decide) (by decide) (by decide)

/-- A slack position after a transfer of another member, the last number of the round robin, begins with bay 0. -/
theorem turn_witness : ∃ y ∈ pendingTransfers,
    { slotState with bay := { slotState.bay with rr := 8 } }.slotPick 0 pendingTransfers = some (y, false) ∧
    ∀ z ∈ pendingTransfers, (slotLane y + 17 - 8) % 9 ≤ (slotLane z + 17 - 8) % 9 := by
  obtain ⟨-, hturn, -⟩ := slotsGoToTheirBayOrRoundRobin
  exact hturn { slotState with bay := { slotState.bay with rr := 8 } } 0 pendingTransfers (by decide) (by decide) (by decide)

/-- After a slot of bay 7 a slack position serves another member before bay 7 again. -/
theorem slackSlot_witness :
    exec (.fabricTransfer 0 (pendingTransfers.take 2)) { slotState with bay := { slotState.bay with rr := 7 } } =
      .next { slotState with bay := { slotState.bay with rr := 8 } } := by
  obtain ⟨-, -, -, hslack, -⟩ := slotsGoToTheirBayOrRoundRobin
  exact hslack { slotState with bay := { slotState.bay with rr := 7 } } 0 _ ⟨⟨0, 5, 3⟩, 0x10000000, .counted, [], none, 0⟩
    (by decide) (by decide) (by decide)

/-- A bay takes the whole of a free wheel. -/
theorem wholeWheel_witness : ((placeBay (List.replicate 64 8) 7 64).filter (fun x => x == 7)).length = 64 := by
  obtain ⟨-, hshare, -⟩ := wheelPositionsFollowTheShares (List.replicate 64 8) 7 64 (by decide) (by decide) (by decide) (by decide)
  exact hshare

/-- Bay 7 runs with a watchdog that has one nanosecond left. -/
def wdtState : State :=
  let s := slotState.flag (R.BAYn_STATE.WDT_EN 7) true
  { s with bay := { s.bay with wdt := [0, 0, 0, 0, 0, 0, 0, 1] } }

theorem wdtKick_witness : exec (.wdtKick ⟨7, 0, 0⟩ 7 0xC35A#32) wdtState = .next (wdtState.startWdt 7) := by
  obtain ⟨hkey, -⟩ := watchdog
  exact hkey wdtState ⟨7, 0, 0⟩ 7 0xC35A#32 (by decide) (by decide) (by decide) (by decide) (by decide) (by decide)

/-- BAY0 may not kick for another bay, even with the key. -/
theorem wdtKick_other_witness : exec (.wdtKick ⟨0, 0, 0⟩ 7 0xC35A#32) (wdtState.put (R.BAYn_STATE.STATE 0) bayRunning) =
    .next (((wdtState.put (R.BAYn_STATE.STATE 0) bayRunning).report 7 0x0C06 7 0xC35A).registerReset 7 4) := by
  obtain ⟨-, hwrong, -⟩ := watchdog
  exact hwrong _ ⟨0, 0, 0⟩ 7 0xC35A#32 (by decide) (Or.inl (by decide)) (by decide) (by decide)

theorem wdtExpiry_witness : exec (.wdtExpiry 7) wdtState = .next ((wdtState.report 7 0x0C05 7 0).registerReset 7 3) := by
  obtain ⟨-, -, -, -, hexpiry⟩ := watchdog
  exact hexpiry wdtState 7 (by decide)

/-- A device that boots from the host over PCIe, with the link up. -/
def pcieState : State :=
  ((State.reset.setPhase .run).put R.SYS_STRAPS.BOOT_SRC 3).flag R.HIF_PCIE_STAT.LINK_UP true

/-- The last word of BAR2. -/
theorem bar2_witness : exec (.bar2Access true 0xFFFFC 0 [1#8, 2#8, 3#8, 4#8]) pcieState =
    .next (pcieState.stageWrite 0xFFFFC [1#8, 2#8, 3#8, 4#8]) := by
  obtain ⟨-, hwrite, -⟩ := pcieAndFlash
  exact hwrite pcieState 0xFFFFC 0 _ (by decide) (by decide)

theorem linkLoss_witness : exec (.pcieLinkChange false 0 0 7 false true) pcieState =
    .next (State.report (((pcieState.pcieLink false 0 0).flag R.HIF_PCIE_STAT.D3 false).modHif (fun h => { h with oneMsi := true }))
      0 0x5C02 0 7) := by
  obtain ⟨-, -, -, -, -, hloss, -⟩ := pcieAndFlash
  exact hloss pcieState _ 0 0 7 false true (by decide) (by decide) rfl

/-- A command that writes the flash runs. -/
def flashState : State := (State.reset.flag R.HIF_QSPI_CMD.WRITE true).flag R.HIF_QSPI_STAT.BUSY true

/-- Its end, with the last byte behind the XIP window programmed. -/
theorem flashWrite_witness : ∃ t : State, exec (.qspiCommandDone [] 0xFFFFFFF [0#8]) flashState = .next t ∧
    t.flash = [(0xFFFFFFF, 0#8)] := by
  obtain ⟨-, -, -, -, -, -, -, -, -, hwritten, -⟩ := pcieAndFlash
  exact ⟨_, hwritten flashState _ [] 0xFFFFFFF [0#8] (by decide) rfl (by decide), rfl⟩

/-- A device in whose configuration bay 7 owns the last bank, and runs. -/
def bankState : State :=
  let r := [7#8] ++ List.replicate 7 0#8 ++ [0x80#8] ++ List.replicate 55 0#8
  { slotState with cfg := [⟨.bays, [⟨0, [r]⟩]⟩] }

/-- A write of 64 bytes at the end of the last bank. -/
theorem bankWrite_witness : ∃ t : State,
    exec (.fabricTransfer 0 [⟨⟨7, 0, 0⟩, 0x107FFFC0, .write (List.replicate 64 0xA5#8), [], none, 0⟩]) bankState = .next t ∧
    (∀ k, k < 64 → t.byte (0x107FFFC0 + k) = (List.replicate 64 0xA5#8).getD k 0#8) ∧
    ∀ b, b < 0x107FFFC0 ∨ 0x107FFFC0 + 64 ≤ b → t.byte b = bankState.byte b := by
  obtain ⟨-, -, -, -, -, -, -, -, hwrite⟩ := framesOfSingleCommands
  exact hwrite bankState 0 0x107FFFC0 31 ⟨7, 0, 0⟩ (List.replicate 64 0xA5#8) (by decide) (by decide) (by decide) (by decide)
    (by decide) (by decide) (by decide) (by decide) (by decide)

/-- GPIO_SET of the last bank by bay 7, which owns none of its pins. -/
theorem gpioSet_witness : Frames slotState (exec (.gpioSet ⟨7, 0, 0⟩ 3 0xFFFFFFFF#32) slotState) [0x401D0064] := by
  obtain ⟨hgpio, -⟩ := framesOfSingleCommands
  exact (hgpio slotState ⟨7, 0, 0⟩ 3 0xFFFFFFFF#32 (by decide) (by decide)).1

end Sys2Proof.Machine
end

section
/-! SUPPORT.
The queue and the flash under every command (O50), and the reset state (O48). -/

namespace Sys2Proof.Machine

/-- No command changes the queue: the one that writes the flash leaves it too. -/
theorem exec_pending {c : Instr} {s t : State} (h : exec c s = .next t) : t.pending = s.pending := by
  by_cases hc : ∃ d o b, c = .qspiCommandDone d o b
  · obtain ⟨d, o, b, rfl⟩ := hc
    exact (execQspiCommandDone_canon h).2
  · exact (exec_keptH (Kept.refl s) c (fun d o b e => hc ⟨d, o, b, e⟩) t h).pending

/-- Settles O50: what every operation keeps, for a command and for the clock edge that a step on an empty queue is. -/
theorem commandsLeaveTheQueueAndTheFlash : Obligations.CommandsLeaveTheQueueAndTheFlash := by
  refine ⟨?queue, ?flash, ?idle⟩
  case queue => exact fun c s t h => exec_pending h
  case flash => exact fun c s t hc h => (exec_keptH (Kept.refl s) c hc t h).flash
  case idle =>
    intro s t hp h
    rw [step, hp] at h
    have hkept : Kept s t := KeptH.next (State.tick_kept (Kept.refl s)) t h
    exact ⟨hkept.pending.trans hp, hkept.flash⟩

/-- Settles O48: the register file holds one word, the reference found good, and every other store and the queue are empty. -/
theorem canonicalAtReset : Obligations.CanonicalAtReset := ⟨rfl, rfl⟩

end Sys2Proof.Machine
end

section
/-! SUPPORT.
Clock loss, supplies and lane PLLs (O3). -/

namespace Sys2Proof.Machine

/-! ### Holds -/

/-- The last reason to hold the device goes, and the PLL starts (R179, R180). -/
theorem State.unhold_last {s : State} {k : Nat} (h : s.sys.holds = 2 ^ k) :
    s.unhold k = { s with sys := { s.sys with holds := 0, phase := .pllWait } } := by
  have hclr : clrBit s.sys.holds k = 0 := by
    rw [h]
    simp [clrBit, Nat.one_shiftLeft]
  rw [State.unhold, hclr]
  rfl

/-! ### Pads of a group without a supply -/

/-- Parts of the state that hold no register of a pad. -/
def State.padless (s : State) : SysPart × List Host.Cell × PinPart := (s.sys, s.mem, s.pin)

theorem State.ite_padless {c : Prop} [Decidable c] {s t u : State} (ht : t.padless = s.padless) (hu : u.padless = s.padless) :
    (if c then t else u).padless = s.padless := by
  split
  · exact ht
  · exact hu

theorem State.putB_padless (s : State) (f : Fld) (i : Nat) (b : Bool) : (s.putB f i b).padless = s.padless :=
  State.ite_padless rfl rfl

/-- A pad's level shows in registers only (R834). -/
theorem State.pinLevel_padless (s : State) (p : Nat) (v : Bool) : (s.pinLevel p v).padless = s.padless := by
  let t := s.flag (R.PINp_ACTIVE.LEVEL p) v
  have hin : (if (t.ownPin p).isSome then t.putB (R.GPIO_INk.IN (p / 32)) (p % 32) v else t).padless = s.padless :=
    State.ite_padless (t.putB_padless _ _ v) rfl
  exact State.ite_padless hin hin

/-- Pads of a group that take a level leave the other parts of the state. -/
theorem State.pinLevels_parts (s : State) (l : List Nat) (p : Nat → Nat) (v : Nat → State → Bool) :
    let t := s.forEach l (fun i u => u.pinLevel (p i) (v i u))
    t.sys = s.sys ∧ t.mem = s.mem ∧ t.pin = s.pin := by
  have hkeep := State.forEach_keeps State.padless (fun i u => u.pinLevel_padless (p i) (v i u)) l s
  simpa only [State.padless, Prod.mk.injEq] using hkeep

/-- An I/O rail that falls is marked low, and then its pads, drives or analog blocks follow (R857). -/
theorem execIoRailLow_eq {s u : State} {r : Nat} (hr : r < 6) (h : s.sys.railLow.testBit r = false)
    (hu : u = { s with sys := { s.sys with railLow := setBit s.sys.railLow r } }) : exec (.ioRailLow r) s =
      .next (if r < 4 then u.forEach (List.range 32) (fun i t => t.pinLevel (32 * r + i) (t.deadLevel (32 * r + i)))
        else if r = 4 then (u.drvRail 0).drvRail 1
        else (if u.on R.TAG_INV_STAT.RUNNING then u.tagEnd 3 5 else u).cloPark.capEdge) := by
  subst hu
  exact congrArg Host.Outcome.next (if_neg (by simp [State.railIsLow, h]; omega))

/-- An I/O rail that returns is no longer marked low, and its pads take their levels (R857). -/
theorem execIoRailRestored_eq {s u : State} {r : Nat} (hr : r < 6) (h : s.sys.railLow.testBit r = true)
    (hu : u = { s with sys := { s.sys with railLow := clrBit s.sys.railLow r } }) (levels : Nat) :
    exec (.ioRailRestored r levels) s =
      .next (if r < 4 then u.forEach (List.range 32) (fun i t => t.pinLevel (32 * r + i) (levels.testBit i)) else u) := by
  subst hu
  exact congrArg Host.Outcome.next (if_neg (by simp [State.railIsLow, h]; omega))

/-! ### Calibration and lanes -/

/-- LPO_CALIBRATION in RUN shows its count, and a count outside 5 % is reported (R177). -/
theorem execLpoCalibration_run {s t : State} {n : Nat} (h : s.sys.phase = .run)
    (ht : t = (s.put R.SYS_LPO_CAL.REF_CYCLES n).flag R.SYS_LPO_CAL.VALID true) : exec (.lpoCalibration n) s =
      .next (if 1050000 * n < 1638400000000 ∨ 1638400000000 < 950000 * n then
        ((t.flag R.SYS_CLK_STATUS.LPO_OK false).flag R.SYS_IRQ_PEND.LPO_DRIFT true).report 0 0x0407 0 n else t) := by
  subst ht
  exact congrArg Host.Outcome.next (if_neg (by simp [State.coresRun, h]))

/-- The PLL of a powered lane locks in a clocked device, and a Viaduct or Trestle lane goes on to train (R173, R174). -/
theorem execLanePllLock_on {s : State} {l : Nat} (hl : l < 8) (hc : s.clocked = true) (hi : s.sys.lanesIdle = false)
    (hon : (s.get R.SYS_CLK_STATUS.LANE_ON).testBit l = true) : exec (.lanePllLock l) s =
      .next (if 2 ≤ l ∧ l < 6 then (s.setB R.SYS_CLK_STATUS.LANE_LOCK l).laneTrain l 0 0
        else s.setB R.SYS_CLK_STATUS.LANE_LOCK l) := by
  have hpll : exec (.lanePllLock l) s = .next (s.lanePll l) := congrArg Host.Outcome.next (if_pos hl)
  exact hpll.trans (congrArg Host.Outcome.next (if_neg (by simp [hc, hi, hon])))

/-- Settles O3: each event acts where its guard stands; the pads that a rail reaches show in registers only. -/
theorem clocksAndSupplies : Obligations.ClocksAndSupplies := by
  refine ⟨?refLoss, ?unlock, ?refGood, ?coreLow, ?railLow, ?supplyGood, ?groupLow, ?driveLow, ?analogLow, ?restored, ?calOk,
    ?calOff, ?laneLock, ?laneTrain, ?laneUnlock⟩
  case refLoss =>
    intro s n hn hp hh
    exact congrArg Host.Outcome.next (if_neg (by simp [hp, hh]; omega))
  case unlock =>
    intro s hp
    exact congrArg Host.Outcome.next (if_pos (hp.imp (fun h => by simp [State.coresRun, h]) id))
  case refGood =>
    intro s hp hh
    have hact : exec .referenceGoodRestart s = .next ((s.unhold 0).put R.SYS_CLK_STATUS.REF_OK 1) :=
      congrArg Host.Outcome.next (if_pos ⟨hp, by simp [hh]⟩)
    rw [hact, State.unhold_last hh]
  case coreLow =>
    intro s hp hh
    exact congrArg Host.Outcome.next (if_neg (by simp [hp, hh]))
  case railLow =>
    intro s r hr hp hh
    exact congrArg Host.Outcome.next (if_neg (by simp [hp, hh]; omega))
  case supplyGood =>
    intro s r hr hp hh
    have hact : exec (.supplyGoodRestart r) s = .next (s.unhold (1 + r)) :=
      congrArg Host.Outcome.next (if_pos ⟨hp, hr, by simp [hh]⟩)
    rw [hact, State.unhold_last hh]
  case groupLow =>
    intro s r hr h
    refine ⟨_, execIoRailLow_eq (by omega) h rfl, ?_⟩
    rw [if_pos hr]
    exact State.pinLevels_parts _ _ _ _
  case driveLow => exact fun s u h hu => execIoRailLow_eq (by decide) h hu
  case analogLow => exact fun s u h hu => execIoRailLow_eq (by decide) h hu
  case restored =>
    intro s r l hr h
    refine ⟨_, execIoRailRestored_eq hr h rfl l, ?_⟩
    split
    · exact State.pinLevels_parts _ _ _ _
    · exact ⟨rfl, rfl, rfl⟩
  case calOk =>
    intro s n hp hhi hlo
    rw [execLpoCalibration_run hp rfl, if_neg (by omega)]
  case calOff =>
    intro s n hp hn
    rw [execLpoCalibration_run hp rfl, if_pos hn]
  case laneLock =>
    intro s l hl hc hi hon
    rw [execLanePllLock_on (by omega) hc hi hon, if_neg (by omega)]
  case laneTrain =>
    intro s l hl hc hi hon
    rw [execLanePllLock_on (by omega) hc hi hon, if_pos hl]
  case laneUnlock =>
    intro s l hl hb
    exact congrArg Host.Outcome.next (if_neg (by simp [hb]; omega))

end Sys2Proof.Machine
end

section
/-! SUPPORT.
DOZE, and the entries to SLEEP and OFF (O4). -/

namespace Sys2Proof.Machine

/-! ### Requests -/

/-- A request of BAY0 is a write of REQ (R188, R193). -/
theorem execSleepRequest_grants {s : State} {i : Init} (h : s.grants i (isBay i 0) = true) :
    exec (.sleepRequest i) s = .next (s.pwrReq 1) := congrArg Host.Outcome.next (State.act_grants h 0x0C02 _ true _)

theorem execOffRequest_grants {s : State} {i : Init} (h : s.grants i (isBay i 0) = true) :
    exec (.offRequest i) s = .next (s.pwrReq 2) := congrArg Host.Outcome.next (State.act_grants h 0x0C02 _ true _)

/-- A request that nothing refuses begins the entry; OFF parks the outputs unless the NVM is being written. -/
theorem State.pwrReq_begins {s u : State} {q : Nat} (hq : q = 1 ∨ q = 2) (hb : s.on R.SYS_PWR_STAT.BUSY = false)
    (hr : s.pwrRefuse q = 0) (hu : u = (s.put R.SYS_PWR_STAT.REFUSE 0).flag R.SYS_PWR_STAT.BUSY true) :
    s.pwrReq q = if q = 1 then u.setPhase .sleepDrain
      else if s.memx.pgWrites = [] then (u.setPhase .offParked).sleepPark false else u.setPhase .offParked := by
  subst hu
  rw [State.pwrReq, if_neg (by simp [hb]; omega), hr]
  rfl

/-- A refused request shows why. -/
theorem State.pwrReq_refused {s : State} {q : Nat} (hq : q = 1 ∨ q = 2) (hb : s.on R.SYS_PWR_STAT.BUSY = false)
    (hr : s.pwrRefuse q ≠ 0) :
    s.pwrReq q = (s.put R.SYS_PWR_STAT.REFUSE (s.pwrRefuse q)).flag R.SYS_IRQ_PEND.PWR_REFUSED true := by
  rw [State.pwrReq, if_neg (by simp [hb]; omega)]
  exact if_pos hr

/-! ### Watchdogs at the commit of SLEEP -/

/-- An entry of a list set to 0 reads 0, and so does every entry that read 0. -/
theorem getD_updAt_zero {l : List Nat} {i b : Nat} (h : b = i ∨ l.getD b 0 = 0) : (updAt l i (fun _ => 0)).getD b 0 = 0 := by
  induction l generalizing i b with
  | nil => rfl
  | cons a l ih =>
    cases i with
    | zero =>
      cases b with
      | zero => rfl
      | succ b => exact h.resolve_left (Nat.succ_ne_zero b)
    | succ i =>
      cases b with
      | zero => exact h.resolve_left (Nat.succ_ne_zero i).symm
      | succ b => exact ih (h.imp Nat.succ.inj id)

/-- The watchdogs of the bays of a list stand after the list (R157). -/
theorem State.stopWdts_wdt (l : List Nat) : ∀ {s : State} {b : Nat}, b ∈ l ∨ s.bay.wdt.getD b 0 = 0 →
    (s.forEach l (fun b t => t.stopWdt b)).bay.wdt.getD b 0 = 0 := by
  induction l with
  | nil => exact fun h => h.resolve_left (by simp)
  | cons a l ih =>
    intro s b h
    refine ih (s := s.stopWdt a) ?_
    by_cases hl : b ∈ l
    · exact .inl hl
    · exact .inr (getD_updAt_zero (h.imp_left (fun hm => (List.mem_cons.mp hm).resolve_right hl)))

/-- Settles O4: DOZE, the requests and the edges of an entry act where their guards stand. -/
theorem powerStates : Obligations.PowerStates := by
  refine ⟨?doze, ?dozeExit, ?sleep, ?refused, ?off, ?drained, ?sleepCommit, ?retention, ?offCommit⟩
  case doze => exact fun s hp ha hw => congrArg Host.Outcome.next (if_pos ⟨hp, ha, hw⟩)
  case dozeExit =>
    intro s c hc hp ho hi
    have hany : (List.range 4).any (fun c => (s.ownCore c).isSome && s.coreIrq (s.hartOf c)) = true :=
      List.any_eq_true.mpr ⟨c, List.mem_range.mpr hc, by rw [ho, hi]; rfl⟩
    exact congrArg Host.Outcome.next (if_pos ⟨hp, hany⟩)
  case sleep =>
    intro s i hg hb hr
    rw [execSleepRequest_grants hg, State.pwrReq_begins (.inl rfl) hb hr rfl, if_pos rfl]
  case refused =>
    intro s i hg hb hr
    rw [execSleepRequest_grants hg, State.pwrReq_refused (.inl rfl) hb hr]
  case off =>
    intro s i hg hb hr hw
    rw [execOffRequest_grants hg, State.pwrReq_begins (.inr rfl) hb hr rfl, if_neg (by decide), if_pos hw]
  case drained => exact fun s hp => congrArg Host.Outcome.next (if_pos hp)
  case sleepCommit =>
    intro s hp
    refine ⟨_, congrArg Host.Outcome.next (if_pos hp), rfl, rfl, rfl, rfl, fun b hb => ?_⟩
    exact State.stopWdts_wdt (List.range 8) (.inl (List.mem_range.mpr hb))
  case retention => exact fun s hp => congrArg Host.Outcome.next (if_pos hp)
  case offCommit =>
    exact fun s hp hw => ⟨_, congrArg Host.Outcome.next (if_pos ⟨hp, hw⟩), rfl, rfl, rfl, rfl, rfl, rfl, rfl, rfl⟩

end Sys2Proof.Machine
end

section
/-! SUPPORT.
Wake events, and the ways back from SLEEP and OFF (O5). -/

namespace Sys2Proof.Machine

/-- The lowest code of the wake events so far (R192). -/
def State.lowestWake (s : State) (k : Nat) : Nat := match s.sys.wake with | some c => min c k | none => k

/-- A wake event in SLEEP is registered under the lowest code so far, and the wake timer stops (R191, R192, R201). -/
theorem State.wakeEvent_sleep {s : State} (h : s.sys.phase = .sleep) (k : Nat) : s.wakeEvent k =
    ((State.put { s with sys := { s.sys with wake := some (s.lowestWake k), wakeLeft := 0 } } R.SYS_PWR_STAT.LAST_WAKE
      (s.lowestWake k)).flag R.SYS_PWR_STAT.FROM_OFF false).put R.SYS_WAKE_TIMER.UNITS 0 := by
  rw [State.wakeEvent, if_neg (by simp [State.entering, h]), if_pos (.inr h)]
  rfl

/-- A wake event while the fabric drains cancels the entry (R189, R202). -/
theorem State.wakeEvent_sleepDrain {s : State} (h : s.sys.phase = .sleepDrain) (k : Nat) : s.wakeEvent k =
    (((s.put R.SYS_PWR_STAT.REFUSE 6).flag R.SYS_PWR_STAT.BUSY false).flag R.SYS_IRQ_PEND.PWR_REFUSED true).setPhase .run := by
  rw [State.wakeEvent, if_pos (by simp [State.entering, h])]
  exact if_pos h

/-- Settles O5: a wake source acts where it is enabled, and each phase of a wake leads to the next. -/
theorem wakesFromSleepAndOff : Obligations.WakesFromSleepAndOff := by
  refine ⟨?waken, ?pin, ?timer, ?asleep, ?cancel, ?sleepPll, ?pllLock, ?pllTimeout, ?offWait, ?supplyGood, ?settle, ?back⟩
  case waken => exact fun s h => congrArg Host.Outcome.next (if_pos h)
  case pin =>
    intro s p r hen hw h0 hp hedge
    exact congrArg Host.Outcome.next (if_pos (by simp [hen, hw, h0, hp, hedge]))
  case timer => exact fun s hl hp => congrArg Host.Outcome.next (if_pos ⟨hl, .inr hp⟩)
  case asleep => exact fun s k h => ⟨_, State.wakeEvent_sleep h k, h, rfl, rfl⟩
  case cancel => exact fun s k h => State.wakeEvent_sleepDrain h k
  case sleepPll => exact fun s n hp hw => congrArg Host.Outcome.next (if_pos ⟨hp, hw⟩)
  case pllLock =>
    rintro s u v hp rfl rfl
    exact congrArg Host.Outcome.next (if_pos hp)
  case pllTimeout => exact fun s hp => congrArg Host.Outcome.next (if_pos hp)
  case offWait => exact fun s n hp hw => congrArg Host.Outcome.next (if_pos ⟨hp, hw⟩)
  case supplyGood => exact fun s hp => congrArg Host.Outcome.next (if_pos hp)
  case settle => exact fun s hp => congrArg Host.Outcome.next (if_pos hp)
  case back => exact fun s hp => ⟨_, congrArg Host.Outcome.next (if_pos hp), rfl, rfl⟩

end Sys2Proof.Machine
end

section
/-! SUPPORT.
External debug (O14). -/

namespace Sys2Proof.Machine

@[simp] theorem State.modDbg_mem (s : State) (f : CorePart → CorePart) : (s.modDbg f).mem = s.mem := rfl
@[simp] theorem State.modDbg_regs (s : State) (f : CorePart → CorePart) : (s.modDbg f).regs = s.regs := rfl

/-- The end of authentication is a matter of the core part alone (R291). -/
theorem State.endAuth_parts (s : State) : s.endAuth.mem = s.mem ∧ s.endAuth.regs = s.regs := by
  rw [State.endAuth, State.modDbg_mem, State.modDbg_regs]
  refine ⟨State.forEach_keeps State.mem ?_ _ s, State.forEach_keeps State.regs ?_ _ s⟩
  · exact fun _ _ => rfl
  · exact fun _ _ => rfl

/-- A response is judged where debug is open and active, the response is whole and no refusal runs (R290, R291). -/
theorem State.authTry_taken {s : State} {r : List Word} (hshut : s.debugShut = false) (hact : s.core.dbgActive = true)
    (hlen : r.length = 34) (href : s.core.dbgRefuse ≤ s.now) :
    ¬ (s.debugShut = true ∨ s.core.dbgActive = false ∨ r.length ≠ 34 ∨ s.now < s.core.dbgRefuse) := by
  simp [hshut, hact, hlen, href]

/-- Commands to harts act where debug is open and active (R290, R291). -/
theorem State.debug_open {s : State} (hshut : s.debugShut = false) (hact : s.core.dbgActive = true) :
    ¬ (s.debugShut = true ∨ s.core.dbgActive = false) := by
  simp [hshut, hact]

/-- A write of a register by an abstract command, where debug is open and active. -/
theorem execDebugModuleAccess_writeReg {s : State} (hshut : s.debugShut = false) (hact : s.core.dbgActive = true) (h r v : Nat) :
    exec (.debugModuleAccess (.writeReg h r v)) s = .next (s.abstract_ h (fun t => t.dbgWrite h r v)) :=
  congrArg Host.Outcome.next (if_neg (State.debug_open hshut hact))

/-- An abstract command runs on a halted hart that the debugger reaches, while no error stands (R290). -/
theorem State.abstract_runs {s : State} {h : Nat} (herr : s.core.cmderr = 0) (hmay : s.dbgMay h = true)
    (hhalt : (s.coreAt h).halted = true) (f : State → State) : s.abstract_ h f = f s := by
  rw [State.abstract_, if_neg (not_not_intro herr), if_neg (by simp [hmay]), if_neg (by simp [hhalt])]

/-- An abstract command to a hart out of reach ends with error 3 (R290). -/
theorem State.abstract_not_reached {s : State} {h : Nat} (herr : s.core.cmderr = 0) (hmay : s.dbgMay h = false)
    (f : State → State) : s.abstract_ h f = s.modDbg (fun d => { d with cmderr := 3 }) := by
  rw [State.abstract_, if_neg (not_not_intro herr), if_pos hmay]
  simp [State.cmdErr, State.modDbg, herr]

/-- Registers x and f of a hart are written as they are (R289). -/
theorem State.dbgWrite_gpr {r : Nat} (hlo : 0x1000 ≤ r) (hhi : r < 0x1040) (s : State) (h v : Nat) :
    s.dbgWrite h r v = s.modCore h (fun x => x.setReg (r - 0x1000) v) := by
  have hreg : dbgReg r true = true := by
    rw [dbgReg, if_neg (by omega)]
    exact decide_eq_true hhi
  rw [State.dbgWrite, if_neg (by simp [hreg]), if_pos hlo]

/-- Settles O14: a response that is judged, and commands to harts where the debug module reaches them. -/
theorem externalDebug : Obligations.ExternalDebug := by
  refine ⟨?trst, ?stands, ?noNonce, ?idcode, ?halt, ?write, ?notReached⟩
  case trst => exact fun s => ⟨_, rfl, rfl, rfl, s.endAuth_parts⟩
  case stands =>
    intro s r n a hshut hact hlen href hnonce htime hok
    show answer (s.authTry r) = _
    rw [State.authTry, if_neg (State.authTry_taken hshut hact hlen href), hnonce]
    exact congrArg Host.Outcome.next (if_pos ⟨htime, hok⟩)
  case noNonce =>
    intro s r hshut hact hlen href hnonce
    show answer (s.authTry r) = _
    rw [State.authTry, if_neg (State.authTry_taken hshut hact hlen href), hnonce]
    rfl
  case idcode => exact fun s => rfl
  case halt =>
    intro s h b hshut hact hmay hown hlive hrun
    exact congrArg Host.Outcome.next
      ((if_neg (State.debug_open hshut hact)).trans (if_pos (by simp [hmay, hown, hlive, hrun])))
  case write =>
    intro s h r v hshut hact herr hmay hhalt hlo hhi
    rw [execDebugModuleAccess_writeReg hshut hact, State.abstract_runs herr hmay hhalt, State.dbgWrite_gpr hlo hhi]
  case notReached =>
    intro s h r v hshut hact herr hmay
    rw [execDebugModuleAccess_writeReg hshut hact, State.abstract_not_reached herr hmay]

end Sys2Proof.Machine
end

section
/-! SUPPORT.
Witnesses: concrete states and inputs that meet the hypotheses of O3, O4, O5, O14 and O50. -/

namespace Sys2Proof.Machine

/-- The end of an image load by the last engine leaves the flash. -/
theorem imageLoadDone_flash_witness : ∃ t : State, exec (.imageLoadDone 11) slotState = .next t ∧ t.flash = slotState.flash := by
  obtain ⟨-, hflash, -⟩ := commandsLeaveTheQueueAndTheFlash
  obtain ⟨t, ht⟩ := exec_eq_next (.imageLoadDone 11) slotState
  exact ⟨t, ht, hflash _ slotState t (fun d o b h => Instr.noConfusion h) ht⟩

/-! ### Clocks and supplies -/

/-- One edge more than the window allows. -/
theorem refLoss_witness : exec (.referenceLoss 601) slotState =
    .next ((slotState.hold 0 R.SYS_RESET_CAUSE.REF_LOSS 0x0401).put R.SYS_CLK_STATUS.REF_OK 0) := by
  obtain ⟨hloss, -⟩ := clocksAndSupplies
  exact hloss slotState 601 (by decide) (by decide) (by decide)

/-- VDD_1V8 alone holds the device. -/
def heldState : State := { State.reset with sys := { State.reset.sys with phase := .held, holds := 8 } }

theorem supplyGood_witness : exec (.supplyGoodRestart 2) heldState =
    .next { heldState with sys := { heldState.sys with holds := 0, phase := .pllWait } } := by
  obtain ⟨-, -, -, -, -, hgood, -⟩ := clocksAndSupplies
  exact hgood heldState 2 (by decide) (by decide) (by decide)

/-- The last I/O group loses its supply. -/
theorem groupLow_witness : ∃ t, exec (.ioRailLow 3) slotState = .next t ∧ t.sys.railLow = 8 := by
  obtain ⟨-, -, -, -, -, -, hlow, -⟩ := clocksAndSupplies
  obtain ⟨t, ht, hsys, -⟩ := hlow slotState 3 (by decide) (by decide)
  exact ⟨t, ht, by rw [hsys]; decide⟩

/-- The lowest count within 5 %. -/
theorem calibration_witness : exec (.lpoCalibration 1560381) slotState =
    .next ((slotState.put R.SYS_LPO_CAL.REF_CYCLES 1560381).flag R.SYS_LPO_CAL.VALID true) := by
  obtain ⟨-, -, -, -, -, -, -, -, -, -, hcal, -⟩ := clocksAndSupplies
  exact hcal slotState 1560381 (by decide) (by decide) (by decide)

/-- Trestle's last lane is powered, and a PCIe lane has locked. -/
def laneState : State :=
  let s := (slotState.put R.SYS_CLK_STATUS.LANE_ON 0xA0).put R.SYS_CLK_STATUS.LANE_LOCK 0x80
  { s with sys := { s.sys with lanesIdle := false } }

theorem laneTrain_witness : exec (.lanePllLock 5) laneState =
    .next ((laneState.setB R.SYS_CLK_STATUS.LANE_LOCK 5).laneTrain 5 0 0) := by
  obtain ⟨-, -, -, -, -, -, -, -, -, -, -, -, -, htrain, -⟩ := clocksAndSupplies
  exact htrain laneState 5 (by decide) (by decide) (by decide) (by decide)

theorem laneUnlock_witness : exec (.lanePllUnlock 7) laneState =
    .next ((((laneState.clrB R.SYS_CLK_STATUS.LANE_LOCK 7).flag R.SYS_IRQ_PEND.LANE_UNLOCK true).laneLost 7).report
      (laneState.laneBay 7) 0x0403 7 0) := by
  obtain ⟨-, -, -, -, -, -, -, -, -, -, -, -, -, -, hunlock⟩ := clocksAndSupplies
  exact hunlock laneState 7 (by decide) (by decide)

/-! ### Power states -/

/-- Bay 7 owns the last core, which has a software interrupt pending, in DOZE. -/
def dozeState : State :=
  let s := State.setPhase { slotState with cfg := [⟨.bays, [⟨0, [[7#8, 0#8, 0#8, 8#8] ++ List.replicate 60 0#8]⟩]⟩] } .doze
  s.modCore 3 (fun x => { x with msip := true })

theorem dozeExit_witness : exec .dozeExit dozeState = .next (dozeState.setPhase .run) := by
  obtain ⟨-, hexit, -⟩ := powerStates
  have hsoft : (dozeState.coreAt (dozeState.hartOf 3)).msip = true := by decide
  exact hexit dozeState 3 (by decide) (by decide) (by decide) (Bool.or_eq_true_iff.mpr (.inr hsoft))

/-- Bay 0 runs, and WAKEn and the pins are wake sources. -/
def powerState : State := (slotState.put (R.BAYn_STATE.STATE 0) bayRunning).put R.SYS_WAKE_EN.EN 0xC

theorem sleepRequest_witness : exec (.sleepRequest ⟨0, 0, 0⟩) powerState =
    .next (((powerState.put R.SYS_PWR_STAT.REFUSE 0).flag R.SYS_PWR_STAT.BUSY true).setPhase .sleepDrain) := by
  obtain ⟨-, -, hsleep, -⟩ := powerStates
  exact hsleep powerState ⟨0, 0, 0⟩ (by decide) (by decide) (by decide)

/-- No source wakes from SLEEP. -/
theorem sleepRefused_witness : exec (.sleepRequest ⟨0, 0, 0⟩) (powerState.put R.SYS_WAKE_EN.EN 0) =
    .next (((powerState.put R.SYS_WAKE_EN.EN 0).put R.SYS_PWR_STAT.REFUSE 5).flag R.SYS_IRQ_PEND.PWR_REFUSED true) := by
  obtain ⟨-, -, -, hrefused, -⟩ := powerStates
  exact hrefused (powerState.put R.SYS_WAKE_EN.EN 0) ⟨0, 0, 0⟩ (by decide) (by decide) (by decide)

/-- At the commit of SLEEP the last watchdog has one nanosecond left, and stops. -/
theorem sleepCommit_witness : ∃ t, exec .sleepCommit (wdtState.setPhase .sleepParked) = .next t ∧ t.bay.wdt.getD 7 0 = 0 := by
  obtain ⟨-, -, -, -, -, -, hcommit, -⟩ := powerStates
  obtain ⟨t, ht, -, -, -, -, hwdt⟩ := hcommit (wdtState.setPhase .sleepParked) (by decide)
  exact ⟨t, ht, hwdt 7 (by decide)⟩

theorem offCommit_witness : ∃ t, exec .offCommit (powerState.setPhase .offParked) = .next t ∧ t.sys.pwrEn = false := by
  obtain ⟨-, -, -, -, -, -, -, -, hcommit⟩ := powerStates
  obtain ⟨t, ht, -, hpwr, -⟩ := hcommit (powerState.setPhase .offParked) (by decide) (by decide)
  exact ⟨t, ht, hpwr⟩

/-! ### Wakes -/

/-- A falling edge of the last pin wakes. -/
def wakePinState : State := (powerState.put R.SYS_WAKE_PIN.PIN0 127).flag R.SYS_WAKE_PIN.EN0 true

theorem wakePin_witness : exec (.wakePinEdge 127 false) wakePinState = .next (wakePinState.wakeEvent 4) := by
  obtain ⟨-, hpin, -⟩ := wakesFromSleepAndOff
  exact hpin wakePinState 127 false (by decide) (by decide) (by decide) (by decide) (by decide)

/-- Asleep with a wake by a pin registered, and one unit left on the wake timer. -/
def asleepState : State :=
  let s := powerState.setPhase .sleep
  { s with sys := { s.sys with wake := some 4, wakeLeft := 1 } }

/-- The timer's lower code takes the place of the pin's. -/
theorem wakeTimer_witness : ∃ t, exec .wakeTimerExpiry asleepState = .next t ∧ t.sys.wake = some 2 := by
  obtain ⟨-, -, htimer, hasleep, -⟩ := wakesFromSleepAndOff
  obtain ⟨t, ht, -, -, hwake⟩ := hasleep asleepState 2 (by decide)
  exact ⟨t, (htimer asleepState (by decide) (.inl (by decide))).trans (congrArg Host.Outcome.next ht), hwake⟩

/-- A time asleep beyond the register shows as its greatest value. -/
theorem wakeFromSleep_witness : exec (.wakeFromSleep 4294967296) asleepState =
    .next ((asleepState.put R.SYS_SLEEP_TIME.LPO 4294967295).setPhase .wakePll) := by
  obtain ⟨-, -, -, -, -, hwake, -⟩ := wakesFromSleepAndOff
  exact hwake asleepState 4294967296 (by decide) (by decide)

theorem coreSupplyTimeout_witness : ∃ t, exec .coreSupplyTimeout (powerState.setPhase .offWait) = .next t ∧
    t.sys.phase = .off := by
  obtain ⟨-, -, -, -, -, -, -, -, -, -, -, hback⟩ := wakesFromSleepAndOff
  obtain ⟨t, ht, hp, -⟩ := hback (powerState.setPhase .offWait) (by decide)
  exact ⟨t, ht, hp⟩

/-! ### External debug -/

/-- Debug is open, and bay 7, which owns the last core, is authenticated. -/
def debugState : State :=
  (dozeState.modCore 3 (fun x => { x with auth := true })).modDbg (fun d => { d with dbgActive := true })

theorem halt_witness : exec (.debugModuleAccess (.halt 3)) debugState = .next (debugState.haltHart 3 3) := by
  obtain ⟨-, -, -, -, hhalt, -⟩ := externalDebug
  exact hhalt debugState 3 7 (by decide) (by decide) (by decide) (by decide) (by decide) (by decide)

/-- The last floating-point register of the halted hart. -/
theorem writeReg_witness : exec (.debugModuleAccess (.writeReg 3 0x103F 1)) (debugState.haltHart 3 3) =
    .next ((debugState.haltHart 3 3).modCore 3 (fun x => x.setReg 63 1)) := by
  obtain ⟨-, -, -, -, -, hwrite, -⟩ := externalDebug
  exact hwrite (debugState.haltHart 3 3) 3 0x103F 1 (by decide) (by decide) (by decide) (by decide) (by decide) (by decide)
    (by decide)

/-- Core 2 belongs to no bay. -/
theorem notReached_witness : exec (.debugModuleAccess (.writeReg 2 0x1000 0)) debugState =
    .next (debugState.modDbg (fun d => { d with cmderr := 3 })) := by
  obtain ⟨-, -, -, -, -, -, hnot⟩ := externalDebug
  exact hnot debugState 2 0x1000 0 (by decide) (by decide) (by decide) (by decide)

/-- A response without a challenge before it. -/
theorem noNonce_witness : exec (.debugAuthdata (List.replicate 34 0#32)) debugState = .next debugState.authFail := by
  obtain ⟨-, -, hnone, -⟩ := externalDebug
  exact hnone debugState _ (by decide) (by decide) (by decide) (by decide) (by decide)

end Sys2Proof.Machine
end

section
/-! SUPPORT.
ECC write-back, the background row test and NVM page writes (O12). -/

namespace Sys2Proof.Machine

/-! ### The row test -/

/-- The walk begins a test at the position it holds where that bank is tested (R216, R218). -/
theorem execRowTestStart_here {s : State} {n row : Nat} (happ : s.applied = true) (hidle : s.memx.test = none)
    (hpause : s.on R.MEM_CTRL.PAUSE = false) (hrun : s.coresRun = true) (hn : n = s.get R.MEM_TEST_POS.BANK)
    (hrow : row = s.get R.MEM_TEST_POS.ROW) (hbank : s.testBank n = some n) (found : List (Nat × Nat)) :
    exec (.rowTestStart found) s =
      .next ((((s.put R.MEM_TEST_POS.BANK n).put R.MEM_TEST_POS.ROW row).setTest (some ⟨n, row, false, false⟩)).forEach
        (found.filter (fun x => decide (x.1 < 16))) (fun x t => t.eccFound (bankBase n + 128 * row + 8 * x.1) x.2)) := by
  show execRowTestStart found s = _
  have hmay : ¬ (s.applied = false ∨ s.memx.test.isSome ∨ s.on R.MEM_CTRL.PAUSE ∨
      (s.coresRun = false ∧ s.sys.phase ≠ .doze)) := by
    simp [happ, hidle, hpause, hrun]
  rw [execRowTestStart, if_neg hmay]
  dsimp only
  rw [← hn, ← hrow, hbank]
  dsimp only
  rw [if_pos rfl]
  rfl

/-- t1 of a test serves the row from the shadow (R216). -/
theorem execRowTestSwitchover_array {s : State} {x : RowTest} (hx : s.memx.test = some x) (hsw : x.switched = false) :
    exec .rowTestSwitchover s = .next (s.setTest (some { x with switched := true })) := by
  show execRowTestSwitchover s = _
  rw [execRowTestSwitchover, hx]
  exact congrArg Host.Outcome.next (if_neg (by simp [hsw]))

/-- t3 of a test of the walk: with both verdicts good the row is served from the array again; a row that fails is reported,
and stays in the shadow while its retest is awaited (R216, R218). -/
theorem execRowTestEnd_walk {s u : State} {x : RowTest} {march : Bool} {res : Nat} (hx : s.memx.test = some x)
    (hsw : x.switched = true) (htgt : x.targeted = false) (hres : res = x.bank + 256 * x.row) (back : Bool)
    (hu : u = let v := (s.setTest (some { x with targeted := true })).lastErr x.bank (128 * x.row) 3
      v.report (ownerOr0 (v.ownBank x.bank)) (if march then 0x1805 else 0x1803) res (128 * x.row)) :
    exec (.rowTestEnd march back) s =
      .next (if march && back then (s.setTest none).walkOn x.bank x.row
        else (if (u.flt.running ++ u.flt.waiting).any (onResource 0x1803 res) then u else u.setTest none).walkOn x.bank x.row) := by
  show execRowTestEnd march back s = _
  subst hu hres
  rw [execRowTestEnd, hx]
  exact congrArg Host.Outcome.next (if_neg (by simp [hsw, htgt]))

/-! ### The write of a logical page -/

/-- The state in which NVM_PG_CMD is checked: NVM_PG_STAT names the page and is cleared (R235). -/
def State.pgBegun (s : State) (lp : Nat) : State :=
  ((s.put R.NVM_PG_STAT.LPAGE lp).put R.NVM_PG_STAT.STATUS 0).put R.NVM_PG_STAT.RESULT 0

/-- The source of a page write, as NVM_PG_SRC_LO and NVM_PG_SRC_HI hold it (R235). -/
def State.pgSource (s : State) : Nat := (s.get R.NVM_PG_SRC_LO.ADDR + 4294967296 * s.get R.NVM_PG_SRC_HI.ADDR) / 64 * 64

/-- GO of BAY0 is a page command. -/
theorem execNvmPgCmd_grants {s : State} {i : Init} (h : s.grants i (isBay i 0) = true) (lp : Nat) (go : Bool) :
    exec (.nvmPgCmd i lp go) s = .next (s.pgCmd lp go) :=
  congrArg Host.Outcome.next (State.act_grants h 0x0C02 _ true _)

/-- A page outside those that BAY0 may write fails with RESULT 1 (R236). -/
theorem State.pgCmd_refused {s : State} {lp : Nat} (hbusy : s.on R.NVM_STATUS.BUSY = false) (hlt : lp < 64)
    (hbad : lp = 0 ∨ lp = 10 ∨ 56 ≤ lp) : s.pgCmd lp true = (s.pgBegun lp).pgStat 3 1 := by
  rw [State.pgCmd, if_neg (by simp [hbusy]), Nat.mod_eq_of_lt hlt]
  exact if_pos hbad

/-- An allowed page with a source that BAY0 may read, free of poison, is written to a free page (R225, R236). -/
theorem State.pgCmd_starts {s u : State} {lp : Nat} (hbusy : s.on R.NVM_STATUS.BUSY = false) (hlt : lp < 64)
    (hgood : ¬ (lp = 0 ∨ lp = 10 ∨ 56 ≤ lp)) (hbuf : (s.pgBegun lp).bufOk 0 false s.pgSource 4096 = true)
    (hclean : (s.pgBegun lp).poisoned s.pgSource 4096 = false)
    (hstart : (s.pgBegun lp).startPage lp ((s.pgBegun lp).readMem s.pgSource 4096) true false = some u) :
    s.pgCmd lp true = u := by
  rw [State.pgCmd, if_neg (by simp [hbusy]), Nat.mod_eq_of_lt hlt]
  change (if _ then _ else if (s.pgBegun lp).bufOk 0 false s.pgSource 4096 = false then _
    else if (s.pgBegun lp).poisoned s.pgSource 4096 = true then _
    else match (s.pgBegun lp).startPage lp ((s.pgBegun lp).readMem s.pgSource 4096) true false with
      | some u => u
      | none => _) = u
  rw [if_neg hgood, if_neg (by simp [hbuf]), if_neg (by simp [hclean]), hstart]

/-- While the pool holds a page, the write of a logical page begins on the next one (R225). -/
theorem State.startPage_some {s : State} {p : Nat} (hfree : s.nextPage = some p) (lp : Nat) (data : List Byte)
    (block again : Bool) : s.startPage lp data block again =
      some (State.showNvm { s with memx := { s.memx with pgWrites := s.memx.pgWrites ++ [⟨lp, p, data, block, again⟩] } }) := by
  rw [State.startPage, hfree]

/-- A page write whose words all verify commits; one of the NVM block ends with STATUS 1 (R225, R235). -/
theorem execNvmPageCommit_verified {s : State} {w : PageWrite} {lp : Nat}
    (hw : s.memx.pgWrites.find? (fun w => w.lpage == lp) = some w) (off : Nat) :
    exec (.nvmPageCommit lp 0 off) s = .next (if w.block then (s.commitPage w).pgStat 1 0 else s.commitPage w) := by
  show execNvmPageCommit lp 0 off s = _
  rw [execNvmPageCommit, hw]
  rfl

/-- Settles O12: the row test by the phase it is in and its verdicts, the page command by its checks, and the commit of the
write found. -/
theorem rowTestsAndNvmPages : Obligations.RowTestsAndNvmPages := by
  refine ⟨?writeback, ?start, ?switchover, ?good, ?fails, ?pageStarts, ?pageRefused, ?commit⟩
  case writeback => exact fun s a => ⟨_, rfl, rfl, rfl, rfl⟩
  case start =>
    intro s n happ hidle hpause hrun hn hbank
    exact execRowTestStart_here happ hidle hpause hrun hn rfl hbank []
  case switchover => exact fun s x hx hsw => execRowTestSwitchover_array hx hsw
  case good => exact fun s x hx hsw htgt => execRowTestEnd_walk (march := true) hx hsw htgt rfl true rfl
  case fails =>
    rintro s u v x march res hx hsw htgt hres rfl hu hretest
    rw [execRowTestEnd_walk hx hsw htgt hres false hu, if_neg (by simp), if_pos hretest]
  case pageStarts =>
    rintro s t u i lp a hg hbusy hlt h0 h10 h56 rfl rfl hbuf hclean hstart
    rw [execNvmPgCmd_grants hg, State.pgCmd_starts hbusy hlt (by omega) hbuf hclean hstart]
  case pageRefused =>
    intro s i lp hg hbusy hlt hbad
    rw [execNvmPgCmd_grants hg, State.pgCmd_refused hbusy hlt hbad]
    rfl
  case commit =>
    intro s w lp off hw hblock
    rw [execNvmPageCommit_verified hw, if_pos hblock]

end Sys2Proof.Machine
end

section
/-! SUPPORT.
Witnesses: concrete states and inputs that meet the hypotheses of O12. -/

namespace Sys2Proof.Machine

/-! ### The row test -/

/-- The walk stands at the last row of the last bank, the one that is tested. -/
def walkState : State :=
  (((bankState.flag R.BAY_CONFIGURED.MASK true).flag (R.MEMnn_CFG.MTEST 31) true).put R.MEM_TEST_POS.BANK 31).put
    R.MEM_TEST_POS.ROW 2047

/-- A test of that row. -/
def lastRowTest : RowTest := ⟨31, 2047, false, false⟩

/-- The same state with the test in progress, before or after t1. -/
def rowState (switched : Bool) : State :=
  { walkState with memx := { walkState.memx with test := some { lastRowTest with switched } } }

theorem rowTestStart_witness : exec (.rowTestStart []) walkState =
    .next (((walkState.put R.MEM_TEST_POS.BANK 31).put R.MEM_TEST_POS.ROW 2047).setTest (some lastRowTest)) := by
  obtain ⟨-, hstart, -⟩ := rowTestsAndNvmPages
  exact hstart walkState 31 (by decide) (by decide) (by decide) (by decide) (by decide) (by decide)

theorem rowTestSwitchover_witness : exec .rowTestSwitchover (rowState false) =
    .next ((rowState false).setTest (some { lastRowTest with switched := true })) := by
  obtain ⟨-, -, hswitch, -⟩ := rowTestsAndNvmPages
  exact hswitch (rowState false) lastRowTest rfl rfl

/-- A good test of the last row completes a pass. -/
theorem rowTestEnd_good_witness : ∃ t, exec (.rowTestEnd true true) (rowState true) = .next t ∧
    t.get R.MEM_PASS_COUNT.COUNT = 1 := by
  obtain ⟨-, -, -, hgood, -⟩ := rowTestsAndNvmPages
  exact ⟨_, hgood (rowState true) { lastRowTest with switched := true } rfl rfl rfl, by decide⟩

/-- The row that fails the March test at t3 stays in the shadow, for its targeted retest. -/
theorem rowTestEnd_fails_witness : ∃ t, exec (.rowTestEnd false false) (rowState true) = .next t ∧
    t.memx.test = some ⟨31, 2047, true, true⟩ := by
  obtain ⟨-, -, -, -, hfails, -⟩ := rowTestsAndNvmPages
  exact ⟨_, hfails (rowState true) _ _ { lastRowTest with switched := true } false _ rfl rfl rfl rfl rfl rfl (by decide),
    by decide⟩

/-! ### Page writes -/

/-- Bay 0 runs and owns bank 0, which holds the source of a page write. -/
def sourceState : State :=
  let r := List.replicate 11 0#8 ++ [1#8] ++ List.replicate 52 0#8
  { powerState with cfg := [⟨.bays, [⟨0, [r]⟩]⟩] }.put R.NVM_PG_SRC_LO.ADDR 0x1003F000

/-- The last logical page, from the last source that lies in the bank, goes to the first free page. -/
theorem nvmPgCmd_witness : ∃ t, exec (.nvmPgCmd ⟨0, 0, 0⟩ 55 true) sourceState = .next t ∧
    t.memx.pgWrites.map (fun w => (w.lpage, w.phys)) = [(55, 0)] := by
  obtain ⟨-, -, -, -, -, hpage, -⟩ := rowTestsAndNvmPages
  have hfree : (sourceState.pgBegun 55).nextPage = some 0 := by decide
  exact ⟨_, hpage sourceState _ _ ⟨0, 0, 0⟩ 55 0x1003F000 (by decide) (by decide) (by decide) (by decide) (by decide)
    (by decide) (by decide) rfl (by decide) (by decide) (State.startPage_some hfree 55 _ true false), rfl⟩

/-- BAY0 may not write LP10. -/
theorem nvmPgCmd_refused_witness : exec (.nvmPgCmd ⟨0, 0, 0⟩ 10 true) sourceState =
    .next ((sourceState.pgBegun 10).pgStat 3 1) := by
  obtain ⟨-, -, -, -, -, -, hrefused, -⟩ := rowTestsAndNvmPages
  exact hrefused sourceState ⟨0, 0, 0⟩ 10 (by decide) (by decide) (by decide) (by decide)

/-- A write of the last logical page to the last physical page waits for its commit. -/
def lastPageWrite : PageWrite := ⟨55, 118, [0xA5#8], true, false⟩

def writingState : State := { slotState with memx := { slotState.memx with pgWrites := [lastPageWrite] } }

/-- The window moves to it, and NVM_PG_STAT says DONE. -/
theorem nvmPageCommit_witness : ∃ t, exec (.nvmPageCommit 55 0 0) writingState = .next t ∧
    t.pageOf 55 = some 118 ∧ t.readMem 0x181BF000 1 = [0xA5#8] ∧ t.get R.NVM_PG_STAT.STATUS = 1 := by
  obtain ⟨-, -, -, -, -, -, -, hcommit⟩ := rowTestsAndNvmPages
  exact ⟨_, hcommit writingState lastPageWrite 55 0 (by decide) rfl, by decide, by decide +kernel, by decide +kernel⟩

end Sys2Proof.Machine
end

section
/-! SUPPORT.
Retests, the log bucket, notifications and injection (O17). -/

namespace Sys2Proof.Machine

/-! ### Retests -/

/-- RETEST_START moves a waiting retest to the running ones where it may start, and else does nothing (R244, R253). -/
theorem execRetestStart_waiting {s : State} {k : Nat} {x : Retest} (hx : s.flt.waiting[k]? = some x) :
    exec (.retestStart k) s = .next (if s.mayRetest x = false then s
      else (State.retestBegin
        { s with flt := { s.flt with waiting := s.flt.waiting.eraseIdx k, running := s.flt.running ++ [x] } } x).showRetests) := by
  show execRetestStart k s = _
  rw [execRetestStart, hx]
  rfl

/-- A passing retest that does not follow a downgrade gives its reports their verdicts as they stand: no access is judged as
checker parity, and only an image load is decided by the file instead (R131, R249). -/
theorem execRetestEnd_passes {s : State} {k : Nat} {x : Retest} (hx : s.flt.running[k]? = some x) (hagain : x.again = false)
    (hload : x.cause ≠ 0x5803) (aux nvm : Nat) :
    exec (.retestEnd k true aux nvm) s =
      .next ((((State.finishRetest { s with flt := { s.flt with running := s.flt.running.eraseIdx k } } x ⟨true, aux, nvm⟩
        false).retestAfter x true).showRetests.settleRetired).kickLoads) := by
  show execRetestEnd k true aux nvm s = _
  rw [execRetestEnd, hx]
  dsimp only
  rw [hagain, if_neg Bool.false_ne_true, if_neg hload, if_neg (fun h => Bool.noConfusion h.1)]
  rfl

/-- A port or lane retest that found no interval is judged untested; of CAN, the controller follows the verdict too (R255). -/
theorem execRetestIntervalTimeout_port {s : State} {k : Nat} {x : Retest} (hx : s.flt.waiting[k]? = some x)
    (hclass : classOf x.cause = 4 ∨ classOf x.cause = 5) (hagain : x.again = false) {u : State}
    (hu : u = State.finishRetest { s with flt := { s.flt with waiting := s.flt.waiting.eraseIdx k } } x ⟨true, 0, 0⟩ true) :
    exec (.retestIntervalTimeout k) s =
      .next (if x.cause = 0x2802 then u.canVerdict (x.res % 256) false else u).showRetests := by
  subst hu
  show execRetestIntervalTimeout k s = _
  rw [execRetestIntervalTimeout, hx]
  dsimp only
  rw [if_neg (by omega), hagain]
  rfl

/-! ### Notifications -/

/-- POP by the bay itself or by BAY0 removes the oldest notification (R271). -/
theorem execFltnNtfPop_grants {s : State} {i : Init} {b : Nat} (h : s.grants i (isBay i b || isBay i 0) = true) :
    exec (.fltnNtfPop i b) s = .next (s.popNote b) :=
  congrArg Host.Outcome.next (State.act_grants h 0x0C02 _ true _)

/-! ### Injection -/

/-- FLT_INJ_STAT before the outcome of an injection shows in it (R270). -/
def State.injBegun (s : State) : State := (s.put R.FLT_INJ_STAT.STATUS 0).put R.FLT_INJ_STAT.RESULT 0

/-- A write of FLT_INJ_GO by BAY0 starts an injection (R265). -/
theorem execFltInjGo_grants {s : State} {i : Init} (h : s.grants i (isBay i 0) = true) :
    exec (.fltInjGo i) s = .next s.injGo :=
  congrArg Host.Outcome.next (State.act_grants h 0x0C02 _ true _)

/-- Without FLTP INJECT every injection is refused with RESULT 1 (R265, R266). -/
theorem State.inject_not_enabled {s : State} (h : s.on R.FLT_POLICY.INJECT = false) (path c r mode : Nat) (own : Option Nat) :
    s.inject path c r mode own = (s, 1) := if_pos h

/-- MODE 0 of an injection of BAY0 reports a cause of the lists on a resource that exists and has no retest (R265, R266). -/
theorem State.inject_reports {s u : State} {path c r : Nat} (hen : s.on R.FLT_POLICY.INJECT = true) (hc : causeClass c ≠ none)
    (hr : resExists c r = true) (hfree : (s.flt.running ++ s.flt.waiting).any (onResource c r) = false)
    (hu : u = { s with
      flt := { s.flt with injecting := s.flt.injecting.filter (fun (x : Nat × Nat × Nat) => x.1 != path) ++ [(path, c, r)] } }) :
    s.inject path c r 0 none = (u.reportN 4
      { cause := c, res := r, detail := 0, stamp := u.now, bay := (u.resOwner c r).getD 0, injected := true, forced := false },
      0) := by
  subst hu
  rw [State.inject, if_neg (by simp [hen]), if_neg hc, if_neg (by simp [hr]), if_neg (by simp), if_neg (by simp [hfree])]
  rfl

/-- An injection refused under a RESULT shows it, and raises INJ_DONE (R266, R270). -/
theorem State.injGo_refused {s t : State} {res : Nat} (hres : res ≠ 0)
    (h : s.injBegun.inject 4 (s.injBegun.get R.FLT_INJ_CAUSE.CAUSE) (s.injBegun.get R.FLT_INJ_RES.RESOURCE)
      (s.injBegun.get R.FLT_INJ_CAUSE.MODE) none = (t, res)) :
    s.injGo = ((t.put R.FLT_INJ_STAT.STATUS 3).put R.FLT_INJ_STAT.RESULT res).flag R.FLT_IRQ_PEND.INJ_DONE true := by
  unfold State.injBegun at h
  rw [State.injGo]
  dsimp only
  rw [h]
  exact if_pos hres

/-- An accepted injection of MODE 0 leaves its outcome to the verdict (R265). -/
theorem State.injGo_accepted {s t : State} (hmode : s.injBegun.get R.FLT_INJ_CAUSE.MODE = 0)
    (h : s.injBegun.inject 4 (s.injBegun.get R.FLT_INJ_CAUSE.CAUSE) (s.injBegun.get R.FLT_INJ_RES.RESOURCE) 0 none = (t, 0)) :
    s.injGo = t := by
  unfold State.injBegun at h hmode
  rw [State.injGo]
  dsimp only
  rw [hmode, h]
  rfl

/-- Settles O17: the retest found at its place starts, ends or times out, an access that the checks let through has its effect,
and an injection meets the first of its refusals or none. -/
theorem retestsAndInjection : Obligations.RetestsAndInjection := by
  refine ⟨?starts, ?waits, ?ends, ?timeout, ?refill, ?pop, ?notEnabled, ?reports⟩
  case starts =>
    intro s k x hx hmay
    rw [execRetestStart_waiting hx, if_neg (ne_false_of_eq_true hmay)]
  case waits =>
    intro s k x hx hmay
    rw [execRetestStart_waiting hx, if_pos hmay]
  case ends => exact fun s k aux nvm x hx hagain hload => execRetestEnd_passes hx hagain hload aux nvm
  case timeout =>
    intro s k x hx hclass hagain hcan
    rw [execRetestIntervalTimeout_port hx (.inr hclass) hagain rfl, if_neg hcan]
  case refill => exact fun s => rfl
  case pop => exact fun s i b h => execFltnNtfPop_grants h
  case notEnabled =>
    rintro s t i hg rfl hoff
    exact (execFltInjGo_grants hg).trans (congrArg Host.Outcome.next
      (State.injGo_refused Nat.one_ne_zero (State.inject_not_enabled hoff 4 _ _ _ none)))
  case reports =>
    rintro s t u i c r hg rfl hen rfl rfl hc hr hmode hfree hu
    exact (execFltInjGo_grants hg).trans (congrArg Host.Outcome.next
      (State.injGo_accepted hmode (State.inject_reports hen hc hr hfree hu)))

end Sys2Proof.Machine
end

section
/-! SUPPORT.
Witnesses: concrete states and inputs that meet the hypotheses of O17. -/

namespace Sys2Proof.Machine

/-! ### Retests -/

/-- A retest of the last engine, which bay 7 reported. -/
def engineRetest : Retest := ⟨0x3001, 11, [{ cause := 0x3001, res := 11, detail := 0, stamp := 0, bay := 7 }], false⟩

/-- A readback retest of pin `p`. -/
def pinRetest (p : Nat) : Retest := ⟨0x0801, p, [{ cause := 0x0801, res := p, detail := 0, stamp := 0, bay := 7 }], false⟩

/-- `n` pins are in retest, and the last engine, which runs, waits for one. -/
def retestState (n : Nat) : State :=
  let s := slotState.put (R.REELn_STATE.STATE 11) 5
  { s with flt := { s.flt with running := (List.range n).map pinRetest, waiting := [engineRetest] } }

/-- The sixteenth retest starts, and its engine goes to RETEST. -/
theorem retestStart_witness : ∃ t, exec (.retestStart 0) (retestState 15) = .next t ∧
    t.flt.running.length = 16 ∧ t.flt.waiting = [] ∧ t.get (R.REELn_STATE.STATE 11) = 6 := by
  obtain ⟨hstarts, -⟩ := retestsAndInjection
  exact ⟨_, hstarts (retestState 15) 0 engineRetest rfl (by decide), by decide, by decide, by decide⟩

/-- A seventeenth has to wait. -/
theorem retestStart_waits_witness : exec (.retestStart 0) (retestState 16) = .next (retestState 16) := by
  obtain ⟨-, hwaits, -⟩ := retestsAndInjection
  exact hwaits (retestState 16) 0 engineRetest rfl (by decide)

/-- The last of the running retests passes: one transient more. -/
theorem retestEnd_witness : ∃ t, exec (.retestEnd 15 true 0 0) (retestState 16) = .next t ∧
    t.flt.running.length = 15 ∧ t.get R.FLT_CNT_TRANSIENT.COUNT = 1 := by
  obtain ⟨-, -, hends, -⟩ := retestsAndInjection
  exact ⟨_, hends (retestState 16) 15 0 0 (pinRetest 15) rfl rfl (by decide), by decide +kernel, by decide +kernel⟩

/-- A retest of the last lane of Ethernet waits for an interval. -/
def laneRetest : Retest := ⟨0x2402, 1, [{ cause := 0x2402, res := 1, detail := 1, stamp := 0, bay := 7 }], false⟩

theorem retestIntervalTimeout_witness : ∃ t,
    exec (.retestIntervalTimeout 0) { slotState with flt := { slotState.flt with waiting := [laneRetest] } } = .next t ∧
    t.flt.waiting = [] ∧ t.get R.FLT_CNT_TRANSIENT.COUNT = 1 := by
  obtain ⟨-, -, -, htimeout, -⟩ := retestsAndInjection
  exact ⟨_, htimeout _ 0 laneRetest rfl (by decide) rfl (by decide), by decide, by decide⟩

/-! ### Notifications -/

/-- Bay 7 holds two notifications, of which the older is of an engine. -/
def noteState : State :=
  { slotState with flt := { slotState.flt with
      notes := List.replicate 7 [] ++ [[⟨0x3001, 1, 0, 11, 0, 0, 8⟩, ⟨0x0801, 1, 0, 127, 0, 0, 9⟩]] } }

/-- The younger one shows after POP. -/
theorem fltnNtfPop_witness : ∃ t, exec (.fltnNtfPop ⟨7, 0, 0⟩ 7) noteState = .next t ∧
    t.get (R.FLTn_NTF_STAT.COUNT 7) = 1 ∧ t.get (R.FLTn_NTF_SEQ.SEQ 7) = 9 := by
  obtain ⟨-, -, -, -, -, hpop, -⟩ := retestsAndInjection
  exact ⟨_, hpop noteState ⟨7, 0, 0⟩ 7 (by decide), by decide, by decide⟩

/-! ### Injection -/

/-- BAY0 runs and has set up an injection of MODE 0 on the last engine. -/
def injectState : State := (powerState.put R.FLT_INJ_CAUSE.CAUSE 0x3001).put R.FLT_INJ_RES.RESOURCE 11

theorem fltInjGo_notEnabled_witness : ∃ t, exec (.fltInjGo ⟨0, 0, 0⟩) injectState = .next t ∧
    t.get R.FLT_INJ_STAT.RESULT = 1 := by
  obtain ⟨-, -, -, -, -, -, hnot, -⟩ := retestsAndInjection
  exact ⟨_, hnot injectState _ ⟨0, 0, 0⟩ (by decide) rfl (by decide), by decide⟩

/-- With FLTP INJECT, the injected report waits for its retest. -/
theorem fltInjGo_reports_witness : ∃ t, exec (.fltInjGo ⟨0, 0, 0⟩) (injectState.flag R.FLT_POLICY.INJECT true) = .next t ∧
    t.flt.waiting.map (fun x => (x.cause, x.res, x.reports.map Report.injected)) = [(0x3001, 11, [true])] := by
  obtain ⟨-, -, -, -, -, -, -, hreports⟩ := retestsAndInjection
  exact ⟨_, hreports (injectState.flag R.FLT_POLICY.INJECT true) _ _ ⟨0, 0, 0⟩ 0x3001 11 (by decide) rfl (by decide)
    (by decide) (by decide) (by decide) (by decide) (by decide) (by decide) rfl, by decide⟩

end Sys2Proof.Machine
end

section
/-! SUPPORT.
Instructions of an application core, and the device's CSRs (O13). -/

namespace Sys2Proof.Machine

/-! ### What an instruction of a hart comes to -/

/-- As whom hart `c` executes an instruction of its own: its bay, as a core, outside debug mode (R277, R279). -/
def State.ctxtOf (s : State) (c : Nat) : Ctxt := ⟨c, ⟨ownerOr0 (s.ownCore c), 0, c⟩, false⟩

/-- A hart that runs executes an instruction around which nothing goes wrong, and no longer waits (R277). -/
theorem execCoreInstruction_fine {s : State} {c : Nat} {i : CoreStep} (hrun : s.hartRuns c = true) (hfine : i.err = .fine)
    (hact : ∀ code, i.act ≠ .interrupt code) :
    exec (.coreInstruction c i) s = .next ((s.modCore c (fun x => { x with wfi := false })).coreExec c i) := by
  obtain ⟨f, n, l, e, ecc, host, a⟩ := i
  obtain rfl : e = .fine := hfine
  refine congrArg Host.Outcome.next ((if_neg (by simp [hrun])).trans ?_)
  cases a with
  | interrupt code => exact absurd rfl (hact code)
  | _ => rfl

/-- An allowed instruction that retires without a jump of its own leaves its effect, the counters and the next pc (R276). -/
theorem State.coreExec_retires {s v : State} {c : Nat} {i : CoreStep} (hfine : i.err = .fine)
    (hfetch : s.fetchBad (s.ctxtOf c) i.fetch = none) (hact : s.coreAct (s.ctxtOf c) i = (v, .retire)) (hmret : i.act ≠ .mret)
    (hsret : i.act ≠ .sret)
    (hstep : (((v.modCore c (fun k => { k.counted i.counts true with pc := i.next })).coreAt c).csrGet 0x7B0).testBit 2 = false) :
    s.coreExec c i = v.modCore c (fun k => { k.counted i.counts true with pc := i.next }) := by
  unfold State.ctxtOf at hfetch hact
  have herr : s.coreErr c i.err = (s, false) := by rw [hfine]; rfl
  -- `hmret` and `hsret` leave the match for the next pc its last case.
  simp only [State.coreExec, herr, hfetch, hact, Bool.false_eq_true, if_false]
  exact if_neg (ne_true_of_eq_false hstep)

/-- An allowed instruction that raises an exception traps, with the events counted but not retired (R276). -/
theorem State.coreExec_faults {s v : State} {c cause tval : Nat} {i : CoreStep} (hfine : i.err = .fine)
    (hfetch : s.fetchBad (s.ctxtOf c) i.fetch = none) (hact : s.coreAct (s.ctxtOf c) i = (v, .fault cause tval))
    (hstep : ((((v.modCore c (fun k => k.counted i.counts false)).coreFault c cause tval).coreAt c).csrGet 0x7B0).testBit 2 =
      false) :
    s.coreExec c i = (v.modCore c (fun k => k.counted i.counts false)).coreFault c cause tval := by
  unfold State.ctxtOf at hfetch hact
  have herr : s.coreErr c i.err = (s, false) := by rw [hfine]; rfl
  simp only [State.coreExec, herr, hfetch, hact, Bool.false_eq_true, if_false]
  exact if_neg (ne_true_of_eq_false hstep)

/-! ### Effects -/

/-- A result in an integer register, without exception flags, changes that register alone. -/
theorem State.coreAct_compute_x {s : State} {x : Ctxt} {i : CoreStep} {dst v : Nat} (hi : i.act = .compute dst v 0)
    (hdst : dst < 32) : s.coreAct x i = (s.modCore x.hart (fun k => k.setReg dst v), .retire) := by
  have hx : ¬ (0 % 32 ≠ 0 ∨ 32 ≤ dst) := by omega
  simp only [State.coreAct, hi, Nat.zero_mod, if_true, if_neg hx]

/-- An exception of the standard has no effect before its trap. -/
theorem State.coreAct_trap {s : State} {x : Ctxt} {i : CoreStep} {cause tval : Nat} (hi : i.act = .trap cause tval) :
    s.coreAct x i = (s, .fault cause tval) := by
  rw [State.coreAct, hi]

/-- Four loaded bytes are sign-extended in an integer register. -/
theorem loaded_x_word {dst : Nat} (hdst : dst < 32) (v : Nat) : loaded dst 4 true v = wrapInt 64 (Sys2Proof.signed 32 v) :=
  (if_neg (Nat.not_le.mpr hdst)).trans (if_pos rfl)

/-- An aligned load puts what its access reads into the register (R280). -/
theorem State.coreLoad_reads {s t : State} {x : Ctxt} {i : CoreStep} {dst n va pa : Nat} {sext : Bool} {d : List Byte}
    (hdebug : x.debug = false) (halign : va % n = 0)
    (hacc : s.access (x.access i pa n none (some ⟨some dst, n, sext, i.next⟩)) = (t, .ok d)) :
    s.coreLoad x i dst n sext va pa =
      (t.modCore x.hart (fun k => k.setReg dst (loaded dst n sext (leAt d 0 n))), .retire) := by
  rw [State.coreLoad, if_neg (not_not_intro halign)]
  simp only [hdebug, Bool.false_eq_true, if_false, hacc]

/-! ### The device's CSRs -/

/-- In M-mode a running hart makes the write (R287). -/
theorem State.byMmode_machine {s : State} {c : Nat} (hrun : s.hartRuns c = true) (hmode : (s.coreAt c).mode = 3)
    (f : State → State) : s.byMmode c f = f s :=
  (if_neg (by simp [hrun])).trans (if_pos hmode)

/-- In a lower mode the write is an illegal instruction (R287). -/
theorem State.byMmode_illegal {s : State} {c : Nat} (hrun : s.hartRuns c = true) (hmode : (s.coreAt c).mode ≠ 3)
    (f : State → State) : s.byMmode c f = s.coreFault c 2 0 :=
  (if_neg (by simp [hrun])).trans (if_neg hmode)

/-- Without GO a write of MFINJ only keeps its fields (R287). -/
theorem State.mfinj_without_go {v : Nat} (hgo : v.testBit 31 = false) (s : State) (c : Nat) :
    s.mfinj c v = s.modCore c (fun x => { x with mfinj := v &&& 0xFFFFFFFF0003FFFF }) :=
  if_neg (ne_true_of_eq_false hgo)

/-- Settles O13: an allowed instruction retires or traps by its effect, and a write of a device CSR by the hart's mode. -/
theorem coreInstructionsAndCsrs : Obligations.CoreInstructionsAndCsrs := by
  refine ⟨?compute, ?trap, ?load, ?timer, ?software, ?latch, ?keep, ?illegal⟩
  case compute =>
    rintro s u t c dst v f n l hrun rfl hfetch hdst rfl hstep
    exact (execCoreInstruction_fine hrun rfl (by simp)).trans (congrArg Host.Outcome.next
      (State.coreExec_retires rfl hfetch (State.coreAct_compute_x rfl hdst) (by simp) (by simp) hstep))
  case trap =>
    rintro s u t c f n cause tval l hrun rfl hfetch rfl hstep
    exact (execCoreInstruction_fine hrun rfl (by simp)).trans (congrArg Host.Outcome.next
      (State.coreExec_faults rfl hfetch (State.coreAct_trap rfl) hstep))
  case load =>
    rintro s u v t c f n dst a l d hrun rfl hfetch halign hdst hacc rfl hstep
    rw [← loaded_x_word hdst] at hstep ⊢
    exact (execCoreInstruction_fine hrun rfl (by simp)).trans (congrArg Host.Outcome.next
      (State.coreExec_retires rfl hfetch (State.coreLoad_reads rfl halign hacc) (by simp) (by simp) hstep))
  case timer => exact fun s c htime hown => congrArg Host.Outcome.next (if_pos ⟨htime, hown⟩)
  case software => exact fun s c v hrun hmode => congrArg Host.Outcome.next (State.byMmode_machine hrun hmode _)
  case latch =>
    exact fun s c v hrun hmode hgo => congrArg Host.Outcome.next ((State.byMmode_machine hrun hmode _).trans (if_pos hgo))
  case keep =>
    exact fun s c v hrun hmode hgo =>
      congrArg Host.Outcome.next ((State.byMmode_machine hrun hmode _).trans (State.mfinj_without_go hgo s c))
  case illegal =>
    intro s c v hrun hmode
    have hillegal : ∀ f : State → State, answer (s.byMmode c f) = .next (s.coreFault c 2 0) := fun f =>
      congrArg Host.Outcome.next (State.byMmode_illegal hrun hmode f)
    exact ⟨hillegal _, hillegal _, hillegal _⟩

end Sys2Proof.Machine
end

section
/-! SUPPORT.
Engines, their images and bit I/O (O16). -/

namespace Sys2Proof.Machine

/-! ### Engines -/

/-- A write of RESTART by the owner of an engine acts (R300). -/
theorem execRestart_owner {s : State} {i : Init} {e : Nat} (hhere : fromAfar i = false) (hlive : s.live i.bay = true)
    (hown : s.ownReel e = some i.bay) : exec (.restart i e) s = .next (s.reelRestart e) :=
  congrArg Host.Outcome.next (State.act_grants (by simp [State.grants, hhere, hlive, hown]) 0x0C02 _ true _)

/-- RESTART of a running engine stops its image, and the engine loads again (R300). -/
theorem State.reelRestart_running {s : State} {e : Nat} (h : s.get (R.REELn_STATE.STATE e) = 5) :
    s.reelRestart e = ((s.imageStop e).put (R.REELn_STATE.STATE e) 2).loadKick := if_pos (.inl h)

/-- A running image handles the bus errors that it owes before it acts (R292, R326). -/
theorem execEngineInstruction_running {s : State} {e : Nat} (h : s.engRunning e = true) (a : EngAct) :
    exec (.engineInstruction e a) s = .next ((s.imgOwed e).engineAct e a) :=
  congrArg Host.Outcome.next (if_pos h)

/-- An image that is not deaf signals health (R299). -/
theorem State.engineAct_health {s : State} {e : Nat} (h : (s.engineAt e).deaf = false) :
    s.engineAct e .health = s.modEngine e (fun x => { x with healthAt := s.now, missed := false }) :=
  if_neg (ne_true_of_eq_false h)

/-! ### Bit I/O -/

/-- An output edge at TXD takes effect at its target or, without an error, before it (R540). -/
theorem execBitioOutputEdge_txd {s u : State} {n e t : Nat} {v : Bool} {r : List (Nat × Nat × Bool)}
    (hbit : s.bitEngine n = some e) (hout : (s.engineAt e).bitOut = (0, t, v) :: r)
    (hu : u = (s.modEngine e (fun x => { x with
      bitOut := r, bitLevel := if v then setBit x.bitLevel 0 else clrBit x.bitLevel 0 })).showBits n e) (htime : u.now ≤ t) :
    exec (.bitioOutputEdge n) s = .next u := by
  subst hu
  show execBitioOutputEdge n s = _
  simp only [execBitioOutputEdge, hbit, hout]
  exact congrArg Host.Outcome.next (if_neg (Nat.not_lt.mpr htime))

/-- The first edge at an input is stamped, and enters the input FIFO where it has room (R540). -/
theorem execBitioInputEdge_first {s u : State} {n e p t0 a : Nat} {v : Bool} (hbit : s.bitEngine n = some e)
    (ha : a = t0 - (8 + s.pinFilter (serRxd n + 2 * p))) (hlast : (s.engineAt e).bitLast.getD p none = none)
    (hu : u = s.modEngine e (fun y => { y with bitLast := updAt y.bitLast p (fun _ => some a) })) :
    exec (.bitioInputEdge n p t0 v) s = .next (if 64 ≤ (s.engineAt e).bitIn.length then u.bitErr n 2 (R.SERn_BITIO.OVERRUN n)
      else (u.modEngine e (fun y => { y with bitIn := y.bitIn ++ [(p, a, v)] })).showBits n e) := by
  subst ha hu
  show execBitioInputEdge n p t0 v s = _
  simp only [execBitioInputEdge, hbit, hlast, Bool.false_eq_true, if_false]
  rfl

/-- Settles O16: each event finds its engine running, and each edge the engine of its channel. -/
theorem reelEngines : Obligations.ReelEngines := by
  refine ⟨?restart, ?missed, ?changed, ?unchanged, ?trap, ?count, ?health, ?output, ?input, ?overrun⟩
  case restart =>
    intro s i e hhere hlive hown hst
    rw [execRestart_owner hhere hlive hown, State.reelRestart_running hst]
  case missed =>
    intro s e hrun hmissed
    exact congrArg Host.Outcome.next (if_pos (by simp [hrun, hmissed]))
  case changed =>
    intro s e k hrun hcrc
    exact congrArg Host.Outcome.next (if_pos (by simp [hrun, hcrc]))
  case unchanged =>
    intro s e k hrun hcrc
    exact congrArg Host.Outcome.next (if_neg (by simp [hcrc]))
  case trap => exact fun s e k hrun => congrArg Host.Outcome.next (if_pos hrun)
  case count => exact fun s e i n hrun => execEngineInstruction_running hrun (.count i n)
  case health =>
    intro s e hrun hdeaf
    rw [execEngineInstruction_running hrun, State.engineAct_health hdeaf]
  case output => exact fun s u n e t v r hbit hout hu htime => execBitioOutputEdge_txd hbit hout hu htime
  case input =>
    intro s n e p t0 a v hbit ha hlast hroom
    rw [execBitioInputEdge_first hbit ha hlast rfl, if_neg (Nat.not_le.mpr hroom)]
  case overrun =>
    intro s n e p t0 a v hbit ha hlast hfull
    rw [execBitioInputEdge_first hbit ha hlast rfl, if_pos hfull]

end Sys2Proof.Machine
end

section
/-! SUPPORT.
Witnesses: concrete states and inputs that meet the hypotheses of O13 and O16. -/

namespace Sys2Proof.Machine

/-- Bay 7, which runs, owns the last core, the last engine and the last bank, whose last word holds -2. -/
def coreState : State :=
  let r := [7#8, 0#8, 0#8, 8#8, 8#8, 0#8, 0#8, 0#8, 0x80#8] ++ List.replicate 55 0#8
  State.putBytes { slotState with cfg := [⟨.bays, [⟨0, [r]⟩]⟩] } 0x107FFFFC [0xFE#8, 0xFF#8, 0xFF#8, 0xFF#8]

/-! ### Instructions of a core -/

/-- The greatest value in the last register, by an instruction fetched from the end of the bank. -/
theorem coreInstruction_compute_witness : ∃ t,
    exec (.coreInstruction 3 ⟨0x107FFFFE, 4, [], .fine, [], none, .compute 31 (2 ^ 64 - 1) 0⟩) coreState = .next t ∧
    (t.coreAt 3).reg 31 = 2 ^ 64 - 1 ∧ (t.coreAt 3).pc = 4 ∧ (t.coreAt 3).minstret = 1 := by
  obtain ⟨hcompute, -⟩ := coreInstructionsAndCsrs
  exact ⟨_, hcompute coreState _ _ 3 31 (2 ^ 64 - 1) 0x107FFFFE 4 [] (by decide) rfl (by decide) (by decide) rfl (by decide),
    by decide, by decide, by decide⟩

/-- An illegal instruction traps into M-mode and does not retire. -/
theorem coreInstruction_trap_witness : ∃ t,
    exec (.coreInstruction 3 ⟨0x107FFFFE, 4, [], .fine, [], none, .trap 2 7⟩) coreState = .next t ∧
    (t.coreAt 3).csrGet csrMcause = 2 ∧ (t.coreAt 3).csrGet csrMtval = 7 ∧ (t.coreAt 3).minstret = 0 := by
  obtain ⟨-, htrap, -⟩ := coreInstructionsAndCsrs
  exact ⟨_, htrap coreState _ _ 3 0x107FFFFE 4 2 7 [] (by decide) rfl (by decide) rfl (by decide), by decide, by decide,
    by decide⟩

/-- The last word of the bank is sign-extended in the last register. -/
theorem coreInstruction_load_witness : ∃ t,
    exec (.coreInstruction 3 ⟨0x107FFFFE, 4, [], .fine, [], none, .load 31 4 true 0x107FFFFC 0x107FFFFC⟩) coreState = .next t ∧
    (t.coreAt 3).reg 31 = 2 ^ 64 - 2 := by
  obtain ⟨-, -, hload, -⟩ := coreInstructionsAndCsrs
  exact ⟨_, hload coreState _ _ _ 3 0x107FFFFE 4 31 0x107FFFFC [] [0xFE#8, 0xFF#8, 0xFF#8, 0xFF#8] (by decide) rfl (by decide)
    (by decide) (by decide) rfl rfl (by decide), by decide⟩

/-- The last core waits, and its MTIMECMP is now. -/
def waitState : State := coreState.modCore 3 (fun x => { x with wfi := true, mtimecmp := coreState.now })

theorem mtimecmpReached_witness : ∃ t, exec (.mtimecmpReached 3) waitState = .next t ∧ (t.coreAt 3).wfi = false := by
  obtain ⟨-, -, -, htimer, -⟩ := coreInstructionsAndCsrs
  exact ⟨_, htimer waitState 3 (by decide) (by decide), by decide⟩

/-! ### The device's CSRs -/

/-- MSIP is set at the bay's own core, and at no core of others. -/
theorem mipi_witness : ∃ t, exec (.mipi 3 0xF) coreState = .next t ∧
    (t.coreAt 3).msip = true ∧ (t.coreAt 0).msip = false := by
  obtain ⟨-, -, -, -, hsoftware, -⟩ := coreInstructionsAndCsrs
  exact ⟨_, hsoftware coreState 3 0xF (by decide) (by decide), by decide, by decide⟩

theorem mstlatch_witness : ∃ t,
    exec (.mstlatch 3 1) (coreState.modCore 3 (fun x => { x with mcycle := 9 })) = .next t ∧ (t.coreAt 3).stlCyc = 9 := by
  obtain ⟨-, -, -, -, -, hlatch, -⟩ := coreInstructionsAndCsrs
  exact ⟨_, hlatch _ 3 1 (by decide) (by decide) (by decide), by decide⟩

/-- Every bit but GO: the fields of MFINJ are kept, and no injection starts. -/
theorem mfinj_witness : ∃ t, exec (.mfinj 3 0xFFFFFFFF7FFFFFFF) coreState = .next t ∧
    (t.coreAt 3).mfinj = 0xFFFFFFFF0003FFFF ∧ t.flt = coreState.flt := by
  obtain ⟨-, -, -, -, -, -, hkeep, -⟩ := coreInstructionsAndCsrs
  exact ⟨_, hkeep coreState 3 0xFFFFFFFF7FFFFFFF (by decide) (by decide) (by decide), by decide, rfl⟩

/-- The highest mode below M-mode. -/
theorem mipi_illegal_witness : ∃ t, exec (.mipi 3 0xF) (coreState.modCore 3 (fun x => { x with mode := 1 })) = .next t ∧
    (t.coreAt 3).csrGet csrMcause = 2 ∧ (t.coreAt 3).msip = false := by
  obtain ⟨-, -, -, -, -, -, -, hillegal⟩ := coreInstructionsAndCsrs
  exact ⟨_, (hillegal (coreState.modCore 3 (fun x => { x with mode := 1 })) 3 0xF (by decide) (by decide)).1, by decide,
    by decide⟩

/-! ### Engines -/

/-- The last engine runs an image, whose empty body has the CRC 0. -/
def reelState : State := coreState.put (R.REELn_STATE.STATE 11) 5

/-- RESTART by the owner: the engine loads again at once. -/
theorem restart_witness : ∃ t, exec (.restart ⟨7, 0, 3⟩ 11) reelState = .next t ∧ t.get (R.REELn_STATE.STATE 11) = 3 := by
  obtain ⟨hrestart, -⟩ := reelEngines
  exact ⟨_, hrestart reelState ⟨7, 0, 3⟩ 11 (by decide) (by decide) (by decide) (by decide), by decide⟩

theorem engineHealthMissed_witness : ∃ t, exec (.engineHealthMissed 11) reelState = .next t ∧
    (t.flt.running ++ t.flt.waiting).map (fun x => (x.cause, x.res)) = [(0x3001, 11)] := by
  obtain ⟨-, hmissed, -⟩ := reelEngines
  exact ⟨_, hmissed reelState 11 (by decide) (by decide), by decide +kernel⟩

/-- The body's CRC changed in its last bit. -/
theorem engineBodyCheck_witness : ∃ t,
    exec (.engineBodyCheck 11 0) (reelState.modEngine 11 (fun x => { x with bodyCrc := 1 })) = .next t ∧
    (t.flt.running ++ t.flt.waiting).map (fun x => (x.cause, x.res)) = [(0x3003, 11)] := by
  obtain ⟨-, -, hchanged, -⟩ := reelEngines
  exact ⟨_, hchanged _ 11 0 (by decide) (by decide), by decide +kernel⟩

theorem engineBodyCheck_unchanged_witness : exec (.engineBodyCheck 11 0) reelState = .next reelState := by
  obtain ⟨-, -, -, hunchanged, -⟩ := reelEngines
  exact hunchanged reelState 11 0 (by decide) (by decide)

theorem engineTrap_witness : ∃ t, exec (.engineTrap 11 2) reelState = .next t ∧
    (t.flt.running ++ t.flt.waiting).map (fun x => (x.cause, x.res)) = [(0x3002, 11)] := by
  obtain ⟨-, -, -, -, htrap, -⟩ := reelEngines
  exact ⟨_, htrap reelState 11 2 (by decide), by decide +kernel⟩

/-- A count beyond 32 bits saturates. -/
theorem engineInstruction_count_witness : ∃ t, exec (.engineInstruction 11 (.count 0 4294967296)) reelState = .next t ∧
    SMap.get 0 (t.engineAt 11).counters 0 = 4294967295 := by
  obtain ⟨-, -, -, -, -, hcount, -⟩ := reelEngines
  exact ⟨_, hcount reelState 11 0 4294967296 (by decide), by decide⟩

/-- A health signal after a missed one. -/
theorem engineInstruction_health_witness : ∃ t,
    exec (.engineInstruction 11 .health) (reelState.modEngine 11 (fun x => { x with missed := true })) = .next t ∧
    (t.engineAt 11).missed = false := by
  obtain ⟨-, -, -, -, -, -, hhealth, -⟩ := reelEngines
  exact ⟨_, hhealth _ 11 (by decide) (by decide), by decide⟩

/-! ### Bit I/O -/

/-- The last engine drives the bits of the last serial channel; an output edge is due now, and the input FIFO holds `n` edges. -/
def bitState (n : Nat) : State :=
  let s := (reelState.put (R.REELn_BITIO.SER 11) 5).put (R.REELn_CFG.PORTS 11) 0x2000
  s.modEngine 11 (fun x => { x with bitOut := [(0, s.now, true)], bitIn := List.replicate n (0, 0, true) })

theorem bitioOutputEdge_witness : ∃ t, exec (.bitioOutputEdge 5) (bitState 0) = .next t ∧
    (t.engineAt 11).bitLevel = 1 ∧ (t.engineAt 11).bitOut = [] := by
  obtain ⟨-, -, -, -, -, -, -, houtput, -⟩ := reelEngines
  exact ⟨_, houtput (bitState 0) _ 5 11 (bitState 0).now true [] (by decide) (by decide) rfl (by decide), by decide, by decide⟩

/-- The edge that fills the FIFO, at RXB. -/
theorem bitioInputEdge_witness : ∃ t, exec (.bitioInputEdge 5 1 108 false) (bitState 63) = .next t ∧
    (t.engineAt 11).bitIn.length = 64 ∧ (t.engineAt 11).bitIn.getLast? = some (1, 100, false) := by
  obtain ⟨-, -, -, -, -, -, -, -, hinput, -⟩ := reelEngines
  exact ⟨_, hinput (bitState 63) 5 11 1 108 _ false (by decide) rfl (by decide) (by decide), by decide, by decide⟩

/-- One edge more is lost. -/
theorem bitioInputEdge_overrun_witness : ∃ t, exec (.bitioInputEdge 5 1 108 false) (bitState 64) = .next t ∧
    (t.engineAt 11).bitIn.length = 64 ∧ t.on (R.SERn_BITIO.OVERRUN 5) = true := by
  obtain ⟨-, -, -, -, -, -, -, -, -, hoverrun⟩ := reelEngines
  exact ⟨_, hoverrun (bitState 64) 5 11 1 108 _ false (by decide) rfl (by decide) (by decide), by decide, by decide⟩

end Sys2Proof.Machine
end

section
/-! SUPPORT.
Mailboxes: accesses to a side's page, a word put and a word popped (O18, O57). -/

namespace Sys2Proof.Machine

/-! ### Accesses to a side's page -/

section access
variable {s : State} {i : Init} {m d : Nat} (h : s.grants i (!(fromAfar i) && s.mbxMay i.bay m d) = true)
include h

theorem State.byMbx_grants (a : Fld) (wr : Bool) (f : State → State) : s.byMbx i m d a wr f = f s :=
  State.act_grants h 0x0C03 a.addr wr f

theorem execTxData_grants (w : Word) : exec (.txData i m d w) s = .next (s.mbxPut m d w false) :=
  congrArg Host.Outcome.next (State.byMbx_grants h (R.MBX_TX_DATA.WORD m d) true _)

theorem execTxLast_grants (w : Word) : exec (.txLast i m d w) s = .next (s.mbxPut m d w true).linksBound :=
  congrArg Host.Outcome.next (State.byMbx_grants h (R.MBX_TX_LAST.WORD m d) true _)

theorem execMbxDb_grants : exec (.mbxDb i m d) s = .next (s.mbxBell m d).linksBound :=
  congrArg Host.Outcome.next (State.byMbx_grants h (R.MBX_TX_CTRL.DB m d) true _)

theorem execRecall_grants : exec (.recall i m d) s = .next (s.mbxRecall m d) :=
  congrArg Host.Outcome.next (State.byMbx_grants h (R.MBX_TX_CTRL.RECALL m d) true _)

/-- The side's reader takes from the queue that the other side writes (R355). -/
theorem execRxData_grants : exec (.rxData i m d) s = .next ((s.reply1 0).mbxRead m (1 - d)) :=
  congrArg Host.Outcome.next (State.byMbx_grants (s := s.reply1 0) h (R.MBX_RX_DATA.WORD m d) false _)

end access

/-! ### A word put -/

/-- The side before a word is appended: without an open message a new one becomes the newest (R359). -/
def State.mbxReady (s : State) (m d : Nat) : State := if (s.mbxQ m d).isOpen then s else s.newMsg m d

/-- The queue before a word is appended: a new message has not been recalled (R360). -/
def MbxQ.ready (q : MbxQ) : MbxQ := if q.isOpen then q else { q with late := false }

@[simp] theorem MbxQ.ready_msgs (q : MbxQ) : q.ready.msgs = q.msgs := by unfold MbxQ.ready; split <;> rfl
@[simp] theorem MbxQ.ready_opn (q : MbxQ) : q.ready.opn = q.opn := by unfold MbxQ.ready; split <;> rfl
@[simp] theorem MbxQ.ready_discard (q : MbxQ) : q.ready.discard = q.discard := by unfold MbxQ.ready; split <;> rfl
@[simp] theorem MbxQ.ready_words (q : MbxQ) : q.ready.words = q.words := by simp [MbxQ.words]

section put
variable {s : State} {m d : Nat} (hkeep : (s.mbxQ m d).discard = false)
include hkeep

/-- TX_DATA on a side with room appends to the open message (R354). -/
theorem State.mbxPut_data (hroom : (s.mbxQ m d).words < 16) (w : Word) : s.mbxPut m d w false =
    (s.mbxReady m d).setMbx m d { (s.mbxQ m d).ready with opn := (s.mbxQ m d).ready.opn ++ [w], isOpen := true } := by
  have hfull : ¬ 16 ≤ (s.mbxQ m d).ready.words := by rw [MbxQ.ready_words]; omega
  unfold State.mbxPut
  rw [if_neg (by simp [hkeep])]
  exact (if_neg hfull).trans (if_neg Bool.false_ne_true)

/-- TX_LAST on a side with room completes the message, which a doorbell may now announce (R354, R357). -/
theorem State.mbxPut_last (hroom : (s.mbxQ m d).words < 16) (w : Word) : s.mbxPut m d w true =
    (s.mbxReady m d).setMbx m d { (s.mbxQ m d).ready with
      msgs := (s.mbxQ m d).ready.msgs ++ [(s.mbxQ m d).ready.opn ++ [w]], opn := [], isOpen := false, credit := true } := by
  have hfull : ¬ 16 ≤ (s.mbxQ m d).ready.words := by rw [MbxQ.ready_words]; omega
  unfold State.mbxPut
  rw [if_neg (by simp [hkeep])]
  exact (if_neg hfull).trans (if_pos rfl)

/-- A word without room loses the message, whose words are discarded up to its last one (R356). -/
theorem State.mbxPut_full {t : State} (hfull : 16 ≤ (s.mbxQ m d).words) (w : Word) (last : Bool)
    (ht : t = ((s.mbxReady m d).setMbx m d { (s.mbxQ m d).ready with
      opn := [], isOpen := false, discard := !last }).mbxStatus m d 3 0x0811) :
    s.mbxPut m d w last = (t.flag (R.MBX_TX_STAT.OVF m d) true).report (ownerOr0 (t.mbxSide m d)) 0x1001 m d := by
  subst ht
  unfold State.mbxPut
  rw [if_neg (by simp [hkeep])]
  exact if_pos (show 16 ≤ (s.mbxQ m d).ready.words by rwa [MbxQ.ready_words])

end put

section ready
variable {s : State} {m d : Nat}

theorem State.mbxReady_open (h : (s.mbxQ m d).isOpen = true) : s.mbxReady m d = s := if_pos h
theorem State.mbxReady_closed (h : (s.mbxQ m d).isOpen = false) : s.mbxReady m d = s.newMsg m d := if_neg (by simp [h])
theorem MbxQ.ready_open {q : MbxQ} (h : q.isOpen = true) : q.ready = q := if_pos h
theorem MbxQ.ready_closed {q : MbxQ} (h : q.isOpen = false) : q.ready = { q with late := false } := if_neg (by simp [h])

theorem State.mbxReady_mbxOk (h : s.mbxOk) : (s.mbxReady m d).mbxOk := by
  unfold State.mbxReady
  split <;> exact h

end ready

/-! ### A word popped -/

section pop
variable {s : State} {m d : Nat}

theorem State.mbxRead_none (h : (s.mbxQ m d).msgs = []) : s.mbxRead m d = s.reply1 0 := if_pos (by simp [h])

theorem State.mbxRead_some {x : List Word} {y : List (List Word)} (h : (s.mbxQ m d).msgs = x :: y) :
    s.mbxRead m d = (s.mbxPop m d).1.linksHeld.reply [(s.mbxPop m d).2] := if_neg (by simp [h])

/-- The only word of the oldest message takes the message with it (R355). -/
theorem State.mbxPop_last {w : Word} {y : List (List Word)} (h : (s.mbxQ m d).msgs = [w] :: y) :
    s.mbxPop m d = (s.mbxTaken m d (s.mbxQ m d), w) := by
  simp only [State.mbxPop, h]

/-- A word before the last leaves the others of its message (R355). -/
theorem State.mbxPop_next {w v : Word} {x : List Word} {y : List (List Word)} (h : (s.mbxQ m d).msgs = (w :: v :: x) :: y) :
    s.mbxPop m d = (s.setMbx m d { s.mbxQ m d with msgs := (v :: x) :: y, pos := (s.mbxQ m d).pos + 1 }, w) := by
  simp only [State.mbxPop, h]

/-- The messages that are left when the oldest one has the words `x` left. -/
def leftOf (x : List Word) (y : List (List Word)) : List (List Word) := if x = [] then y else x :: y

/-- A pop answers the oldest word and takes it from the queue; the open message stays (R355). -/
theorem State.mbxPop_cons {w : Word} {x : List Word} {y : List (List Word)} (hok : s.mbxOk)
    (h : (s.mbxQ m d).msgs = (w :: x) :: y) : (s.mbxPop m d).2 = w ∧ ∃ pos sending,
      (s.mbxPop m d).1.mbxQ m d = { s.mbxQ m d with msgs := leftOf x y, pos := pos, sending := sending } := by
  cases x with
  | nil =>
    rw [State.mbxPop_last h, State.mbxQ_mbxTaken hok, h]
    exact ⟨rfl, _, _, rfl⟩
  | cons v x =>
    rw [State.mbxPop_next h, State.mbxQ_setMbx_same hok]
    exact ⟨rfl, _, _, rfl⟩

end pop

theorem State.mbxOk_of_canon {s : State} (h : s.canon = true) : s.mbxOk := by
  unfold State.canon at h
  simp only [Bool.and_eq_true] at h
  obtain ⟨⟨-, hmbx⟩, -⟩ := h
  exact hmbx

/-- Settles O57: without a complete message the read has no effect, and else it pops the oldest word. -/
theorem mailboxReads : Obligations.MailboxReads := by
  refine ⟨?empty, ?pops⟩
  case empty =>
    intro s i m d _ h hmsgs
    exact (execRxData_grants h).trans (congrArg Host.Outcome.next (State.mbxRead_none hmsgs))
  case pops =>
    intro s i m d w x y hs _ h hmsgs
    obtain ⟨hword, pos, sending, hq⟩ := State.mbxPop_cons (s := s.reply1 0) (State.mbxOk_of_canon hs) hmsgs
    refine ⟨((s.reply1 0).mbxPop m (1 - d)).1, ?_, by rw [hq]; rfl, by rw [hq]; rfl⟩
    rw [execRxData_grants h, State.mbxRead_some (s := s.reply1 0) hmsgs, hword]

/-! ### Messages taken back and refused -/

/-- RECALL takes back a complete message of which nothing has been read or sent (R360). -/
theorem State.mbxRecall_unread {s : State} {m d : Nat} {x : List Word} {y : List (List Word)}
    (hvalid : s.on (R.MBX_TX_MSG.VALID m d) = true) (hpend : s.get (R.MBX_TX_MSG.STATUS m d) = 0)
    (hclosed : (s.mbxQ m d).isOpen = false) (hmsgs : (s.mbxQ m d).msgs = x :: y)
    (hunread : y ≠ [] ∨ ((s.mbxQ m d).pos = 0 ∧ (s.mbxQ m d).sending = false)) :
    s.mbxRecall m d = (s.setMbx m d { s.mbxQ m d with msgs := (x :: y).dropLast }).mbxStatus m d 2 0 := by
  have hnew : ¬ ((s.mbxQ m d).msgs.length = 1 ∧ ((s.mbxQ m d).pos ≠ 0 ∨ (s.mbxQ m d).sending = true)) := by
    rintro ⟨hone, hread⟩
    rcases hunread with hy | ⟨hpos, hsend⟩
    · exact hy (by simpa [hmsgs] using hone)
    · rcases hread with hread | hread
      · exact hread hpos
      · simp [hsend] at hread
  unfold State.mbxRecall
  rw [if_neg (by simp [hvalid, hpend])]
  refine (if_neg (by simp [hclosed])).trans ((if_neg (by simp [hmsgs])).trans ((if_neg hnew).trans ?_))
  rw [hmsgs]

/-- A refused record takes its message from the queue, FAILED where it is the newest (R359, R363). -/
theorem State.mbxRefused_newest {s : State} {m : Nat} {x : List Word} (hbound : (s.binding m).isSome = true)
    (hsend : (s.mbxQ m 0).sending = true) (hmsgs : (s.mbxQ m 0).msgs = [x]) (hclosed : (s.mbxQ m 0).isOpen = false)
    (hpend : s.get (R.MBX_TX_MSG.STATUS m 0) = 0) {why : Nat} (hwhy : why ≠ 0) (res : Nat) {t : State}
    (ht : t = ((s.setMbx m 0 { s.mbxQ m 0 with msgs := [], pos := 0, sending := false }).bellsDown m).mbxStatus m 0 3 res) :
    s.mbxRefused m res why = t.report (ownerOr0 (t.mbxSide m 0)) 0x1004 m why := by
  subst ht
  have hnew : (s.mbxQ m 0).msgs.length = 1 ∧ (s.mbxQ m 0).isOpen = false ∧ s.get (R.MBX_TX_MSG.STATUS m 0) = 0 :=
    ⟨by simp [hmsgs], hclosed, hpend⟩
  have hdrop : (s.mbxQ m 0).msgs.drop 1 = [] := by simp [hmsgs]
  unfold State.mbxRefused
  rw [if_pos (by simp [hbound, hsend, hmsgs])]
  dsimp only
  rw [if_neg hwhy, if_pos hnew, hdrop]

/-- Settles O18: each access of a side acts by what its queue holds, and a record of the link by the message in transit. -/
theorem mailboxes : Obligations.Mailboxes := by
  refine ⟨?opens, ?appends, ?completes, ?overflows, ?signals, ?idles, ?recalls, ?pops, ?empties, ?accepted, ?refused⟩
  case opens =>
    rintro s u i m d w h hkeep hclosed hroom rfl
    rw [execTxData_grants h, State.mbxPut_data hkeep hroom, State.mbxReady_closed hclosed, MbxQ.ready_closed hclosed]
  case appends =>
    intro s i m d w h hkeep hopen hroom
    rw [execTxData_grants h, State.mbxPut_data hkeep hroom, State.mbxReady_open hopen, MbxQ.ready_open hopen]
  case completes =>
    intro s i m d w h hkeep hopen hroom
    rw [execTxLast_grants h, State.mbxPut_last hkeep hroom, State.mbxReady_open hopen, MbxQ.ready_open hopen]
  case overflows =>
    intro s t i m d w h hkeep hopen hfull ht
    rw [execTxData_grants h, State.mbxPut_full (t := t) hkeep hfull w false]
    rw [ht, State.mbxReady_open hopen, MbxQ.ready_open hopen]
    rfl
  case signals =>
    intro s i m d h hcredit hfree
    rw [execMbxDb_grants h, State.mbxBell]
    simp [hcredit, hfree]
  case idles =>
    intro s i m d h hcredit
    rw [execMbxDb_grants h, State.mbxBell]
    simp [hcredit]
  case recalls =>
    intro s i m d x y h hvalid hpend hclosed hmsgs hunread
    rw [execRecall_grants h, State.mbxRecall_unread hvalid hpend hclosed hmsgs hunread]
  case pops =>
    rintro s u i m d w v x y rfl h hmsgs
    rw [execRxData_grants (s := s) h, State.mbxRead_some hmsgs, State.mbxPop_next hmsgs]
  case empties =>
    rintro s u i m d w y rfl h hmsgs
    rw [execRxData_grants (s := s) h, State.mbxRead_some hmsgs, State.mbxPop_last hmsgs]
  case accepted =>
    intro s m hbound hsend hmsgs
    exact congrArg Host.Outcome.next (if_pos (by simp [hbound, hsend, hmsgs]))
  case refused =>
    intro s t m why x hbound hsend hmsgs hclosed hpend hwhy ht
    exact congrArg Host.Outcome.next (State.mbxRefused_newest hbound hsend hmsgs hclosed hpend hwhy 0x0812 ht)

end Sys2Proof.Machine
end

section
/-! SUPPORT.
A message across a mailbox (O58): what a write and a read leave unchanged, then the runs of them. -/

namespace Sys2Proof.Machine

/-! ### Changes confined to a mailbox -/

/-- The registers that show the queue of side `d` (R388). -/
def State.showSide (s : State) (m d : Nat) : State :=
  let q := s.mbxQ m d
  let t := ((s.put (R.MBX_TX_STAT.WORDS m d) q.words).put (R.MBX_TX_STAT.MSGS m d) q.msgs.length).flag
    (R.MBX_TX_STAT.OPEN m d) q.isOpen
  let t := (t.put (R.MBX_RX_STAT.WORDS m (1 - d)) q.words).put (R.MBX_RX_STAT.MSGS m (1 - d)) q.msgs.length
  let t := t.put (R.MBX_RX_STAT.HEAD_LEN m (1 - d)) (match q.msgs with | x :: _ => x.length + q.pos | [] => 0)
  t.put (R.MBX_RX_STAT.HEAD_POS m (1 - d)) q.pos

theorem State.showMbx_eq (s : State) (m : Nat) : s.showMbx m = (s.showSide m 0).showSide m 1 := rfl

/-- The status registers of both sides of a mailbox: TX_STAT, TX_MSG, RX_STAT and IRQ (R388). -/
def mbxRegs (m : Nat) : List Nat :=
  ([0, 1] : List Nat).flatMap (fun d => ([0xC, 0x10, 0x18, 0x1C] : List Nat).map (fun o => 0x40031000 + o + 0x200 * m + 0x100 * d))

theorem mem_mbxRegs {d o : Nat} (hd : d < 2) (ho : o ∈ ([0xC, 0x10, 0x18, 0x1C] : List Nat)) (m : Nat) :
    0x40031000 + o + 0x200 * m + 0x100 * d ∈ mbxRegs m :=
  List.mem_flatMap.mpr ⟨d, by simp; omega, List.mem_map.mpr ⟨o, ho, rfl⟩⟩

/-- BAYn_STATE stands at the start of a page, the status registers of a mailbox do not. -/
theorem bayState_not_mem_mbxRegs (m b : Nat) : (R.BAYn_STATE.STATE b).addr ∉ mbxRegs m := by
  show 0x40021000 + 0x1000 * b ∉ mbxRegs m
  simp only [mbxRegs, List.mem_flatMap, List.mem_map]
  rintro ⟨d, hd, o, ho, e⟩
  simp at hd ho
  omega

/-- `t` has the stores, the configuration, the bays' own part and the links of `s`, and every register of `s` but the status
registers of mailbox `m`. -/
structure MbxOnly (m : Nat) (s t : State) : Prop where
  regs : Confined (mbxRegs m) s t
  parts : (t.cfg, t.bay, t.link) = (s.cfg, s.bay, s.link)

namespace MbxOnly

variable {m d : Nat} {s t u : State}

theorem refl : MbxOnly m s s := ⟨Confined.refl, rfl⟩

/-- A status register of a side is written. -/
theorem put (h : MbxOnly m s t) {f : Fld} (v : Nat) (hf : f.addr ∈ mbxRegs m) : MbxOnly m s (t.put f v) :=
  ⟨h.regs.put v hf, h.parts⟩

theorem ite {c : Prop} [Decidable c] (ht : MbxOnly m s t) (hu : MbxOnly m s u) : MbxOnly m s (if c then t else u) := by
  split <;> assumption

/-- The messages, the doorbells that wait, and the answer are hidden parts. -/
theorem hidden (h : MbxOnly m s t) {msg : MsgPart} {answer : List Word} :
    MbxOnly m s { t with msg := msg, answer := answer } := ⟨h.regs.hidden rfl, h.parts⟩

/-- The registers that show the queue of side `d` (R388). -/
theorem showSide (h : MbxOnly m s t) (hd : d < 2) : MbxOnly m s (t.showSide m d) := by
  have ho : 1 - d < 2 := by omega
  have htx := mem_mbxRegs hd (o := 0xC) (by simp) m
  have hrx := mem_mbxRegs ho (o := 0x18) (by simp) m
  exact ((((((h.put _ htx).put _ htx).put _ htx).put _ hrx).put _ hrx).put _ hrx).put _ hrx

theorem setMbx (h : MbxOnly m s t) (d : Nat) (q : MbxQ) : MbxOnly m s (t.setMbx m d q) := by
  rw [State.setMbx, State.showMbx_eq]
  exact (h.hidden.showSide Nat.zero_lt_two).showSide Nat.one_lt_two

section side
variable (h : MbxOnly m s t) (hd : d < 2)
include h hd

theorem mbxStatus (st res : Nat) : MbxOnly m s (t.mbxStatus m d st res) := by
  have hmsg := mem_mbxRegs hd (o := 0x10) (by simp) m
  exact (h.put _ hmsg).put _ hmsg

theorem mbxReady : MbxOnly m s (t.mbxReady m d) :=
  h.ite ((h.mbxStatus hd 0 0).put _ (mem_mbxRegs hd (o := 0x10) (by simp) m))

theorem mbxTaken (q : MbxQ) : MbxOnly m s (t.mbxTaken m d q) := by
  have hleft : ∀ q', MbxOnly m s ((t.setMbx m d q').bellsDown m) := fun q' => (h.setMbx d q').hidden
  have hstat : ∀ {u}, MbxOnly m s u → MbxOnly m s (u.mbxEmptied m d) := fun hu =>
    (hu.put _ (mem_mbxRegs hd (o := 0x1C) (by simp) m)).ite hu
  exact hstat (((hleft _).mbxStatus hd _ _).ite (hleft _))

theorem mbxPop : MbxOnly m s (t.mbxPop m d).1 := by
  unfold State.mbxPop
  dsimp only
  split
  · exact h
  · exact h
  · exact h.mbxTaken hd _
  · exact h.setMbx d _

end side

/-- The same bays run, and hold the same sides. -/
theorem grants (h : MbxOnly m s t) (hs : s.canon = true) {i : Init} (hi : s.grants i (!(fromAfar i) && s.mbxMay i.bay m d) = true) :
    t.grants i (!(fromAfar i) && t.mbxMay i.bay m d) = true := by
  obtain ⟨hcfg, hparts⟩ := Prod.mk.inj h.parts
  obtain ⟨hbay, -⟩ := Prod.mk.inj hparts
  have hlive : t.live i.bay = s.live i.bay := by
    simp only [State.live, State.bayState, State.get, h.regs.word (State.regsOk_of_canon hs) _ (bayState_not_mem_mbxRegs m i.bay)]
  have hmay : t.mbxMay i.bay m d = s.mbxMay i.bay m d := by
    simp only [State.mbxMay, State.mbxSide, State.binding, State.grantOpen, State.grant, State.ownMbx, State.recs, hcfg, hbay]
  rwa [State.grants, hlive, hmay]

theorem unbound (h : MbxOnly m s t) (hs : s.recs .link 4 = []) : t.recs .link 4 = [] := by
  obtain ⟨hcfg, -⟩ := Prod.mk.inj h.parts
  rwa [State.recs, hcfg]

theorem held (h : MbxOnly m s t) (hs : s.link.vdt.held = []) : t.link.vdt.held = [] := by
  obtain ⟨-, hparts⟩ := Prod.mk.inj h.parts
  obtain ⟨-, hlink⟩ := Prod.mk.inj hparts
  rwa [hlink]

end MbxOnly

/-- Without bound mailboxes the links have nothing to take up (R361). -/
theorem State.linksBound_unbound {s : State} (h : s.recs .link 4 = []) : s.linksBound = s := by
  have hvdt : s.vdtBound = s := by rw [State.vdtBound, h]; rfl
  have htrs : s.trsBound = s := by rw [State.trsBound, h]; rfl
  rw [State.linksBound, hvdt, htrs]

/-- Without a message held for room the links have nothing to deliver (R587). -/
theorem State.linksHeld_none {s : State} (h : s.link.vdt.held = []) : s.linksHeld = s := by
  have hvdt : s.vdtHeld = s := by rw [State.vdtHeld, h]; rfl
  have htrs : s.trsHeld = s := by rw [State.trsHeld, h]; rfl
  rw [State.linksHeld, hvdt, htrs]

/-! ### One write, one read -/

/-- `t` comes from `s` by commands of mailbox `m`; the queue that side `d` writes holds the complete messages `msgs` and the open
words `opn`, and discards none. -/
structure Carries (s : State) (m d : Nat) (msgs : List (List Word)) (opn : List Word) (t : State) : Prop where
  only : MbxOnly m s t
  canon : t.canon = true
  msgs : (t.mbxQ m d).msgs = msgs
  opn : (t.mbxQ m d).opn = opn
  keep : (t.mbxQ m d).discard = false

namespace Carries

variable {s t u : State} {m d : Nat} {i : Init}

/-- A command left `q` in the queue. -/
theorem ofQueue {q : MbxQ} {c : Instr} (ht : t.canon = true) (hc : exec c t = .next u) (hu : MbxOnly m s u)
    (hq : u.mbxQ m d = q) (hkeep : q.discard = false) : Carries s m d q.msgs q.opn u :=
  ⟨hu, exec_canon ht hc, congrArg _ hq, congrArg _ hq, hq ▸ hkeep⟩

section write
variable {ws : List Word} (h : Carries s m d [] ws t) (hs : s.canon = true) (hd : d < 2)
  (hi : s.grants i (!(fromAfar i) && s.mbxMay i.bay m d) = true) (hroom : ws.length < 16)
include h hs hd hi hroom

/-- TX_DATA appends its word to the open message (R354). -/
theorem txData (w : Word) : ∃ u, exec (.txData i m d w) t = .next u ∧ Carries s m d [] (ws ++ [w]) u := by
  have hwords : (t.mbxQ m d).words < 16 := by simpa [MbxQ.words, h.msgs, h.opn] using hroom
  have hc := (execTxData_grants (h.only.grants hs hi) w).trans (congrArg _ (State.mbxPut_data h.keep hwords w))
  have hok : (t.mbxReady m d).mbxOk := State.mbxReady_mbxOk (State.mbxOk_of_canon h.canon)
  have hu := ofQueue h.canon hc ((h.only.mbxReady hd).setMbx d _) (State.mbxQ_setMbx_same hok m d _) (by simp [h.keep])
  exact ⟨_, hc, by simpa [h.msgs, h.opn] using hu⟩

/-- TX_LAST makes the open message with its word a complete one (R354). -/
theorem txLast (hfree : s.recs .link 4 = []) (w : Word) :
    ∃ u, exec (.txLast i m d w) t = .next u ∧ Carries s m d [ws ++ [w]] [] u := by
  have hwords : (t.mbxQ m d).words < 16 := by simpa [MbxQ.words, h.msgs, h.opn] using hroom
  have hput := State.mbxPut_last h.keep hwords w
  have honly : MbxOnly m s (t.mbxPut m d w true) := hput ▸ (h.only.mbxReady hd).setMbx d _
  have hc := (execTxLast_grants (h.only.grants hs hi) w).trans
    (congrArg _ ((State.linksBound_unbound (honly.unbound hfree)).trans hput))
  have hok : (t.mbxReady m d).mbxOk := State.mbxReady_mbxOk (State.mbxOk_of_canon h.canon)
  have hu := ofQueue h.canon hc (hput ▸ honly) (State.mbxQ_setMbx_same hok m d _) (by simp [h.keep])
  exact ⟨_, hc, by simpa [h.msgs, h.opn] using hu⟩

end write

/-- RX_DATA at the other side answers the oldest word and takes it (R355). -/
theorem rxData {w : Word} {x : List Word} {y : List (List Word)} {opn : List Word} (h : Carries s m d ((w :: x) :: y) opn t)
    (hs : s.canon = true) (hd : d < 2) (hi : s.grants i (!(fromAfar i) && s.mbxMay i.bay m (1 - d)) = true)
    (hheld : s.link.vdt.held = []) :
    ∃ u, exec (.rxData i m (1 - d)) t = .next u ∧ u.answer = [w] ∧ Carries s m d (leftOf x y) opn u := by
  have hside : 1 - (1 - d) = d := by omega
  obtain ⟨hword, pos, sending, hq⟩ := State.mbxPop_cons (s := t.reply1 0) (State.mbxOk_of_canon h.canon) h.msgs
  have hpop : MbxOnly m s ((t.reply1 0).mbxPop m d).1 := MbxOnly.mbxPop h.only.hidden hd
  have hc : exec (.rxData i m (1 - d)) t = .next (((t.reply1 0).mbxPop m d).1.reply [w]) := by
    rw [execRxData_grants (h.only.grants hs hi), hside, State.mbxRead_some (s := t.reply1 0) h.msgs, hword,
      State.linksHeld_none (hpop.held hheld)]
  have hu := ofQueue (u := ((t.reply1 0).mbxPop m d).1.reply [w]) h.canon hc hpop.hidden hq h.keep
  exact ⟨_, hc, rfl, h.opn ▸ hu⟩

end Carries

/-! ### Runs -/

theorem runs_cons {c : Instr} {s t : State} (h : exec c s = .next t) (l : List Instr) : runs (c :: l) s = runs l t := by
  rw [runs, h]

theorem runs_append {a : List Instr} {s t : State} (h : runs a s = .next t) (b : List Instr) : runs (a ++ b) s = runs b t := by
  induction a generalizing s with
  | nil =>
    obtain rfl : s = t := Host.Outcome.next.inj h
    rfl
  | cons c a ih =>
    obtain ⟨u, hu⟩ := exec_eq_next c s
    exact (runs_cons hu (a ++ b)).trans (ih ((runs_cons hu a).symm.trans h))

namespace Carries

variable {s t : State} {m d : Nat} {i : Init}

/-- Up to 16 words written with TX_DATA stand in the open message in their order. -/
theorem runs_txData (hs : s.canon = true) (hd : d < 2) (hi : s.grants i (!(fromAfar i) && s.mbxMay i.bay m d) = true)
    (xs : List Word) {ws : List Word} (hroom : ws.length + xs.length ≤ 16) (h : Carries s m d [] ws t) :
    ∃ u, runs (xs.map (fun x => .txData i m d x)) t = .next u ∧ Carries s m d [] (ws ++ xs) u := by
  induction xs generalizing ws t with
  | nil => exact ⟨t, rfl, by rwa [List.append_nil]⟩
  | cons x xs ih =>
    rw [List.length_cons] at hroom
    obtain ⟨u, hu, hx⟩ := h.txData hs hd hi (by omega) x
    obtain ⟨v, hv, hxs⟩ := ih (by rw [List.length_append, List.length_singleton]; omega) hx
    exact ⟨v, (runs_cons hu _).trans hv, by rwa [List.append_assoc] at hxs⟩

/-- `k` reads take the first `k` words of the only message. -/
theorem runs_rxData (hs : s.canon = true) (hd : d < 2) (hi : s.grants i (!(fromAfar i) && s.mbxMay i.bay m (1 - d)) = true)
    (hheld : s.link.vdt.held = []) (k : Nat) {x : List Word} (hk : k ≤ x.length) (h : Carries s m d (leftOf x []) [] t) :
    ∃ u, runs (List.replicate k (.rxData i m (1 - d))) t = .next u ∧ Carries s m d (leftOf (x.drop k) []) [] u := by
  induction k generalizing x t with
  | zero => exact ⟨t, rfl, h⟩
  | succ k ih =>
    obtain ⟨w, x, rfl⟩ := List.exists_cons_of_length_pos (Nat.zero_lt_of_lt hk)
    obtain ⟨u, hu, -, hx⟩ := Carries.rxData h hs hd hi hheld
    obtain ⟨v, hv, hdrop⟩ := ih (Nat.le_of_succ_le_succ hk) hx
    exact ⟨v, (runs_cons hu _).trans hv, hdrop⟩

end Carries

/-- Settles O58: the writes leave one complete message, and each read answers the first of the words that the reads before it
have left. -/
theorem mailboxesKeepTheOrderOfWords : Obligations.MailboxesKeepTheOrderOfWords := by
  intro s i j m d ws w hs _ hd hifar hjfar hilive hjlive himay hjmay hfree hheld hempty hlen
  have hi : s.grants i (!(fromAfar i) && s.mbxMay i.bay m d) = true := by simp [State.grants, hifar, hilive, himay]
  have hj : s.grants j (!(fromAfar j) && s.mbxMay j.bay m (1 - d)) = true := by simp [State.grants, hjfar, hjlive, hjmay]
  have hstart : Carries s m d [] [] s := ⟨MbxOnly.refl, hs, by rw [hempty]; rfl, by rw [hempty]; rfl, by rw [hempty]; rfl⟩
  obtain ⟨u, hu, hopen⟩ := hstart.runs_txData hs hd hi ws (by simp; omega)
  obtain ⟨t, ht, hwhole⟩ := hopen.txLast hs hd hi (by simpa using Nat.lt_succ_of_le hlen) hfree w
  rw [List.nil_append] at hwhole
  have hleft : Carries s m d (leftOf (ws ++ [w]) []) [] t := by rwa [leftOf, if_neg (by simp)]
  refine ⟨t, ?written, hwhole.msgs, ?read, ?emptied⟩
  case written => rw [runs_append hu, runs_cons ht]; rfl
  case read =>
    intro k hk
    have hlt : k < (ws ++ [w]).length := by simp; omega
    obtain ⟨v, hv, hrest⟩ := hleft.runs_rxData hs hd hj hheld k (Nat.le_of_lt hlt)
    rw [List.drop_eq_getElem_cons hlt] at hrest
    obtain ⟨x, hx, hword, -⟩ := Carries.rxData hrest hs hd hj hheld
    exact ⟨v, x, hv, hx, by rw [hword, List.getD, List.getElem?_eq_getElem hlt, Option.getD_some]⟩
  case emptied =>
    obtain ⟨v, hv, hrest⟩ := hleft.runs_rxData hs hd hj hheld (ws.length + 1) (by simp)
    exact ⟨v, hv, by rw [hrest.msgs, List.drop_eq_nil_of_le (by simp)]; rfl⟩

end Sys2Proof.Machine
end

section
/-! SUPPORT.
Queue ends: writes to an end's page, the fetch of a descriptor, its completion and the full ring (O19). -/

namespace Sys2Proof.Machine

/-! ### Writes to an end's page -/

section access
variable {s : State} {i : Init} {q e : Nat} (h : s.grants i (s.queueMay i q e) = true)
include h

/-- A write by who may use the page acts where the end is open to it (R365). -/
theorem State.byEnd_grants (a : Fld) (f : State → State) : s.byEnd i q e a f = if s.endOpen i q e then f s else s :=
  State.act_grants h 0x0C03 a.addr true _

theorem State.byEnd_open (hopen : s.endOpen i q e = true) (a : Fld) (f : State → State) : s.byEnd i q e a f = f s :=
  (State.byEnd_grants h a f).trans (if_pos hopen)

theorem State.byEnd_closed (hclosed : s.endOpen i q e = false) (a : Fld) (f : State → State) : s.byEnd i q e a f = s :=
  (State.byEnd_grants h a f).trans (if_neg (ne_true_of_eq_false hclosed))

end access

/-- EN set on an end that is disabled starts it with its indices at 0 (R377). -/
theorem State.endEn_on {s : State} {q e : Nat} (h : s.on (R.QMGR_CTRL.EN q e) = false) : s.endEn q e true =
    (((((s.put (R.QMGR_POST.POST q e) 0).put (R.QMGR_FETCH.FETCH q e) 0).put (R.QMGR_CPL.HEAD q e) 0).put
      (R.QMGR_CPL.TAIL q e) 0).put (R.QMGR_CTRL.EN q e) 1).showEnd q e := if_pos (by simp [h])

/-- EN cleared with nothing in flight forgets the aborts (R377, R378). -/
theorem State.endEn_off_idle {s u : State} {q e : Nat} (h : s.on (R.QMGR_CTRL.EN q e) = true)
    (hu : u = s.put (R.QMGR_CTRL.EN q e) 0) (hidle : (u.qEnd q e).inflight = []) :
    s.endEn q e false = (u.putEnd q e { u.qEnd q e with aborts := [] }).showEnd q e := by
  have hnone : u.forEach (u.qEnd q e).inflight (fun d v => v.abortDesc q e d) = u := by rw [hidle]; rfl
  unfold State.endEn
  rw [if_neg (by simp), if_pos (by simp [h]), ← hu]
  dsimp only
  rw [hnone]

/-- The abort of a posted index that is not in flight is remembered (R378). -/
theorem State.abortIdx_notFetched {s : State} {q e x h : Nat} (hh : h = s.get (R.QMGR_CPL.HEAD q e))
    (hposted : (x + 65536 - h) % 65536 < (s.get (R.QMGR_POST.POST q e) + 65536 - h) % 65536)
    (hnew : (s.qEnd q e).inflight.find? (fun d => d.idx == x) = none) :
    s.abortIdx q e x = s.putEnd q e { s.qEnd q e with aborts := (s.qEnd q e).aborts ++ [x] } := by
  subst hh
  unfold State.abortIdx
  dsimp only
  rw [if_neg (Nat.not_le.mpr hposted), hnew]

/-! ### Fetch and completion -/

/-- A fetch with room in the completion ring and in the quota, from a ring place that may be read here (R368). -/
theorem State.fetch_here {s u : State} {q e f a b : Nat} (hmay : s.mayFetch q e = true) (hf : f = s.get (R.QMGR_FETCH.FETCH q e))
    (hring : (f + 65536 - s.get (R.QMGR_CPL.TAIL q e)) % 65536 ≠ s.ringSize q e) (hquota : s.endFull q e = false)
    (hu : u = (s.flag (R.QMGR_STAT.CPL_WAIT q e) false).flag (R.QMGR_STAT.QUOTA_WAIT q e) false)
    (ha : a = u.ringBase q e + 32 * (f % u.ringSize q e)) (hplace : u.place q e a = .here b)
    (hbuf : u.bufOk (u.qInit q e).bay false b 32 = true) :
    s.fetch q e = (u.poisonHit b 32).fetched q e f (u.readMem b 32) (u.poisoned b 32) := by
  subst hf hu ha
  have hroom : ((s.get (R.QMGR_FETCH.FETCH q e) + 65536 - s.get (R.QMGR_CPL.TAIL q e)) % 65536 == s.ringSize q e) = false :=
    beq_eq_false_iff_ne.mpr hring
  unfold State.fetch
  dsimp only
  rw [if_neg (by simp [hmay]), hroom, hquota, if_neg (by simp), hplace]
  exact if_neg (by simp [hbuf])

/-- The oldest descriptor, a source that is paired, completes with its copy (R372, R373). -/
theorem State.complete_source {s : State} {q e j : Nat} {d p : Desc} {l : List Desc} (hold : (s.qEnd q e).inflight = d :: l)
    (hfin : d.final = none) (hpeer : d.peer = some j)
    (hp : (s.qEnd q (1 - e)).inflight.find? (fun x => x.idx == j) = some p) (hsrc : s.isSource q e d = true) :
    s.complete q e = (s.finishCopy q e d p).pairAll q := by
  simp only [State.complete, hold, hfin, hpeer, hp, hsrc, if_true]

/-- Settles O19: a write acts where the end is open to its writer, and the events of an end act where their guards stand. -/
theorem queueEnds : Obligations.QueueEnds := by
  refine ⟨?post, ?overrun, ?closed, ?enable, ?disable, ?abort, ?fetch, ?complete, ?wait⟩
  case post =>
    intro s i q e v h hopen hin
    exact congrArg Host.Outcome.next ((State.byEnd_open h hopen _ _).trans (if_neg (Nat.not_lt.mpr hin)))
  case overrun =>
    intro s i q e v h hopen hout
    exact congrArg Host.Outcome.next ((State.byEnd_open h hopen _ _).trans (if_pos hout))
  case closed =>
    intro s i q e v h hclosed
    have hnone : ∀ a f, answer (s.byEnd i q e a f) = .next s := fun a f =>
      congrArg Host.Outcome.next (State.byEnd_closed h hclosed a f)
    exact ⟨hnone _ _, hnone _ _, hnone _ _⟩
  case enable =>
    intro s i q e h hopen hoff
    exact congrArg Host.Outcome.next ((State.byEnd_open h hopen _ _).trans (State.endEn_on hoff))
  case disable =>
    intro s u i q e h hopen hon hu hidle
    exact congrArg Host.Outcome.next ((State.byEnd_open h hopen _ _).trans (State.endEn_off_idle hon hu hidle))
  case abort =>
    intro s i q e x k h hopen hx hk hposted hnew
    have hidx : s.abortIdx q e (x % 65536) = s.abortIdx q e x := by rw [Nat.mod_eq_of_lt hx]
    exact congrArg Host.Outcome.next ((State.byEnd_open h hopen _ _).trans
      (hidx.trans (State.abortIdx_notFetched hk hposted hnew)))
  case fetch =>
    intro s u q e f a b hmay hf hring hquota hu ha hplace hbuf
    exact congrArg (fun t : State => Host.Outcome.next (t.agentsKick q e))
      (State.fetch_here hmay hf hring hquota hu ha hplace hbuf)
  case complete =>
    intro s q e j d p l hold hfin hpeer hp hsrc
    exact congrArg Host.Outcome.next (State.complete_source hold hfin hpeer hp hsrc)
  case wait =>
    intro s q e hmay hfull hfirst
    exact congrArg Host.Outcome.next (if_pos (by simp [hmay, hfull, hfirst]))

end Sys2Proof.Machine
end

section
/-! SUPPORT.
Viaduct records: sequence and generation fence, then the meaning of each record (O30). -/

namespace Sys2Proof.Machine

/-! ### Sequence and fence -/

section frame
variable {s u : State} {l q b g : Nat} (hl : l < 4)
include hl

/-- A record in sequence and not under an older generation is acted on (R559, R571). -/
theorem State.vdtFrame_acts (htake : s.hopTake l q = (u, true)) (hgen : u.get (R.VDTn_BAY_GEN.GEN b) ≤ g) (ft : Nat)
    (fenced f : State → State) : s.vdtFrame l q b g ft fenced f = f (u.adoptGen g) := by
  simp only [State.vdtFrame, if_neg (Nat.not_le.mpr hl), htake, if_neg (Nat.not_lt.mpr hgen)]

/-- One under an older generation is stale (R572). -/
theorem State.vdtFrame_stale (htake : s.hopTake l q = (u, true)) (hgen : g < u.get (R.VDTn_BAY_GEN.GEN b)) (ft : Nat)
    (fenced f : State → State) : s.vdtFrame l q b g ft fenced f = fenced (u.stale b 1 ft q) := by
  simp only [State.vdtFrame, if_neg (Nat.not_le.mpr hl), htake, if_pos hgen]

/-- One out of sequence has no effect of its own (R559). -/
theorem State.vdtFrame_outOfSequence (htake : s.hopTake l q = (u, false)) (ft : Nat) (fenced f : State → State) :
    s.vdtFrame l q b g ft fenced f = u := by
  simp only [State.vdtFrame, if_neg (Nat.not_le.mpr hl), htake]

end frame

/-! ### Mirror -/

/-- The oldest queued line of a bay leaves the queue and is sent while a lane is up (R563). -/
theorem execMirrorRecordSend_queued {s u : State} {b : Nat} {x : Nat × Nat × Nat} {t : List (Nat × Nat × Nat)}
    (hq : s.link.vdt.mq.getD b [] = x :: t)
    (hu : u = (s.modVdt (fun v => { v with mq := updAt v.mq b (fun _ => t) })).put (R.VDTn_MQ.FILL b) (min 32 t.length))
    (hup : u.get R.VDT_STATUS.LANE_UP ≠ 0) :
    exec (.mirrorRecordSend b) s = .next (u.sendOn 0 (u.mirrorFrame false b x.1 x.2.1 x.2.2)) := by
  subst hu
  show execMirrorRecordSend b s = _
  simp only [execMirrorRecordSend, hq]
  exact congrArg Host.Outcome.next (if_neg hup)

/-- Settles O30: a record that passes sequence and fence has the effect that its binding, its mailbox or its bay's role gives it. -/
theorem viaductRecords : Obligations.ViaductRecords := by
  refine ⟨?mirror, ?stale, ?late, ?bulk, ?send, ?full, ?message, ?unbound, ?accepted, ?doorbell⟩
  case mirror =>
    intro s u l q b g a r p x hl htake hgen
    exact congrArg Host.Outcome.next (State.vdtFrame_acts hl htake hgen 0x10 id _)
  case stale =>
    intro s u l q b g a r p x hl htake hgen
    exact ⟨congrArg Host.Outcome.next (State.vdtFrame_stale hl htake hgen 0x10 id _),
      congrArg Host.Outcome.next (State.vdtFrame_stale hl htake hgen 0x11 id _)⟩
  case late =>
    intro s u l q b g a r p x hl htake
    exact congrArg Host.Outcome.next (State.vdtFrame_outOfSequence hl htake 0x10 id _)
  case bulk =>
    rintro s u v l q b g a r p x hl htake hgen rfl hrole
    exact congrArg Host.Outcome.next ((State.vdtFrame_acts hl htake hgen 0x11 id _).trans (if_pos hrole))
  case send => exact fun s u b x t hq hu hup => execMirrorRecordSend_queued hq hu hup
  case full => exact fun s b hfill => congrArg Host.Outcome.next (if_pos hfill)
  case message =>
    rintro s u v l q b g m f r w hl htake hgen rfl hbind hsel hsrc hlive
    refine congrArg Host.Outcome.next ((State.vdtFrame_acts hl htake hgen 0x13 _ _).trans ?_)
    simp only [hbind, hsel, hsrc, hlive, and_self, if_true]
  case unbound =>
    rintro s u v l q b g m f w hl htake hgen rfl hbind
    refine congrArg Host.Outcome.next ((State.vdtFrame_acts hl htake hgen 0x13 _ _).trans ?_)
    simp only [hbind]
  case accepted =>
    rintro s u v l q b g m hl htake hgen rfl hsend hmsgs
    refine congrArg Host.Outcome.next ((State.vdtFrame_acts hl htake hgen 0x14 id _).trans ?_)
    have htransit : ¬ (((u.adoptGen g).mbxQ m 0).sending = false ∨ ((u.adoptGen g).mbxQ m 0).msgs = []) := by simp [hsend, hmsgs]
    dsimp only
    rw [if_neg htransit, if_pos rfl]
  case doorbell =>
    rintro s u v l q b g m r hl htake hgen rfl hbind hlive hheld
    refine congrArg Host.Outcome.next ((State.vdtFrame_acts hl htake hgen 0x15 id _).trans ?_)
    simp only [hbind, hlive, hheld, Bool.true_eq_false, Bool.false_eq_true, if_false]

end Sys2Proof.Machine
end

section
/-! SUPPORT.
Witnesses: concrete states and inputs that meet the hypotheses of O18, O19, O30, O57 and O58. -/

namespace Sys2Proof.Machine

/-! ### Mailboxes -/

/-- Bay 7, which runs, holds both sides of the last mailbox, whose side B has written `q`. -/
def mailState (q : MbxQ) : State :=
  let r := 7#8 :: List.replicate 31 0#8 ++ 0x80#8 :: List.replicate 31 0#8
  State.putMbx { slotState with cfg := [⟨.bays, [⟨0, [r]⟩]⟩] } 63 1 q

/-- The words 1 to `n`. -/
def countedWords (n : Nat) : List Word := (List.range n).map (fun k => BitVec.ofNat 32 (k + 1))

/-- The longest message crosses, and its last word is the last one read. -/
theorem crossing_witness : ∃ t u v : State,
    runs ((countedWords 15).map (fun x => .txData ⟨7, 0, 0⟩ 63 1 x) ++ [.txLast ⟨7, 0, 0⟩ 63 1 0xFFFFFFFF#32])
      (mailState MbxQ.empty) = .next t ∧
    runs (List.replicate 15 (.rxData ⟨7, 0, 3⟩ 63 0)) t = .next u ∧ exec (.rxData ⟨7, 0, 3⟩ 63 0) u = .next v ∧
    v.answer = [0xFFFFFFFF#32] := by
  obtain ⟨t, ht, -, hread, -⟩ := mailboxesKeepTheOrderOfWords (mailState MbxQ.empty) ⟨7, 0, 0⟩ ⟨7, 0, 3⟩ 63 1 (countedWords 15)
    0xFFFFFFFF#32 (by decide) (by decide) (by decide) (by decide) (by decide) (by decide) (by decide) (by decide) (by decide)
    (by decide) (by decide) (by decide) (by decide)
  obtain ⟨u, v, hu, hv, hword⟩ := hread 15 (by decide)
  exact ⟨t, u, v, ht, hu, hv, hword⟩

/-- Only an open message: the read answers 0. -/
theorem rxData_empty_witness : ∃ t, exec (.rxData ⟨7, 0, 0⟩ 63 0) (mailState { MbxQ.empty with opn := [5#32], isOpen := true }) =
    .next t ∧ t.answer = [0#32] ∧ (t.mbxQ 63 1).opn = [5#32] := by
  obtain ⟨hempty, -⟩ := mailboxReads
  exact ⟨_, hempty _ ⟨7, 0, 0⟩ 63 0 (by decide) (by decide) (by decide), by decide, by decide⟩

/-- The last word of a message before another one, behind which a third is open. -/
theorem rxData_pops_witness : ∃ t, exec (.rxData ⟨7, 0, 0⟩ 63 0)
    (mailState { MbxQ.empty with msgs := [[5#32], [6#32]], opn := [7#32], isOpen := true, pos := 3 }) = .next t ∧
    t.answer = [5#32] := by
  obtain ⟨-, hpops⟩ := mailboxReads
  obtain ⟨t, ht, -⟩ := hpops (mailState { MbxQ.empty with msgs := [[5#32], [6#32]], opn := [7#32], isOpen := true, pos := 3 })
    ⟨7, 0, 0⟩ 63 0 5#32 [] [[6#32]] (by decide) (by decide) (by decide) (by decide)
  exact ⟨_, ht, rfl⟩

/-- The 16th word opens a message behind one of 15 words. -/
theorem txData_opens_witness : ∃ t, exec (.txData ⟨7, 0, 0⟩ 63 1 9#32)
    (mailState { MbxQ.empty with msgs := [countedWords 15], late := true }) = .next t ∧
    (t.mbxQ 63 1).words = 16 ∧ (t.mbxQ 63 1).late = false ∧ t.on (R.MBX_TX_MSG.VALID 63 1) = true := by
  obtain ⟨hopens, -⟩ := mailboxes
  exact ⟨_, hopens _ _ ⟨7, 0, 0⟩ 63 1 9#32 (by decide) (by decide) (by decide) (by decide) rfl, by decide, by decide, by decide⟩

/-- An open message with `n` words. -/
def openState (n : Nat) : State := mailState { MbxQ.empty with opn := countedWords n, isOpen := true }

theorem txData_appends_witness : ∃ t, exec (.txData ⟨7, 0, 0⟩ 63 1 9#32) (openState 15) = .next t ∧
    (t.mbxQ 63 1).opn = countedWords 15 ++ [9#32] := by
  obtain ⟨-, happends, -⟩ := mailboxes
  exact ⟨_, happends (openState 15) ⟨7, 0, 0⟩ 63 1 9#32 (by decide) (by decide) (by decide) (by decide), by decide⟩

theorem txLast_witness : ∃ t, exec (.txLast ⟨7, 0, 0⟩ 63 1 9#32) (openState 15) = .next t ∧
    (t.mbxQ 63 1).msgs = [countedWords 15 ++ [9#32]] ∧ (t.mbxQ 63 1).isOpen = false := by
  obtain ⟨-, -, hcompletes, -⟩ := mailboxes
  exact ⟨_, hcompletes (openState 15) ⟨7, 0, 0⟩ 63 1 9#32 (by decide) (by decide) (by decide) (by decide), by decide, by decide⟩

/-- The 17th word loses the message. -/
theorem txData_overflow_witness : ∃ t, exec (.txData ⟨7, 0, 0⟩ 63 1 9#32) (openState 16) = .next t ∧
    t.get (R.MBX_TX_MSG.RESULT 63 1) = 0x0811 ∧ (t.mbxQ 63 1).words = 0 ∧ (t.mbxQ 63 1).discard = true := by
  obtain ⟨-, -, -, hoverflows, -⟩ := mailboxes
  exact ⟨_, hoverflows (openState 16) _ ⟨7, 0, 0⟩ 63 1 9#32 (by decide) (by decide) (by decide) (by decide) rfl,
    by decide +kernel, by decide +kernel, by decide +kernel⟩

theorem mbxDb_witness : ∃ t, exec (.mbxDb ⟨7, 0, 0⟩ 63 1) (mailState { MbxQ.empty with credit := true }) = .next t ∧
    t.on (R.MBX_IRQ.DB 63 0) = true ∧ (t.mbxQ 63 1).credit = false := by
  obtain ⟨-, -, -, -, hsignals, -⟩ := mailboxes
  exact ⟨_, hsignals _ ⟨7, 0, 0⟩ 63 1 (by decide) (by decide) (by decide), by decide, by decide⟩

/-- A doorbell without a message since the last one. -/
theorem mbxDb_idle_witness : ∃ t, exec (.mbxDb ⟨7, 0, 0⟩ 63 1) (mailState MbxQ.empty) = .next t ∧
    t.on (R.MBX_IRQ.DB 63 0) = false := by
  obtain ⟨-, -, -, -, -, hidles, -⟩ := mailboxes
  exact ⟨_, hidles (mailState MbxQ.empty) ⟨7, 0, 0⟩ 63 1 (by decide) (by decide), by decide +kernel⟩

/-- The newest of two messages is taken back while the oldest is being read. -/
theorem recall_witness : ∃ t, exec (.recall ⟨7, 0, 0⟩ 63 1)
    ((mailState { MbxQ.empty with msgs := [[5#32], [6#32]], pos := 1 }).flag (R.MBX_TX_MSG.VALID 63 1) true) = .next t ∧
    (t.mbxQ 63 1).msgs = [[5#32]] ∧ t.get (R.MBX_TX_MSG.STATUS 63 1) = 2 := by
  obtain ⟨-, -, -, -, -, -, hrecalls, -⟩ := mailboxes
  exact ⟨_, hrecalls _ ⟨7, 0, 0⟩ 63 1 [5#32] [[6#32]] (by decide) (by decide) (by decide) (by decide) (by decide) (by decide),
    by decide, by decide⟩

theorem rxData_next_witness : ∃ t, exec (.rxData ⟨7, 0, 0⟩ 63 0) (mailState { MbxQ.empty with msgs := [[5#32, 6#32]] }) =
    .next t ∧ t.answer = [5#32] ∧ t.get (R.MBX_RX_STAT.HEAD_POS 63 0) = 1 := by
  obtain ⟨-, -, -, -, -, -, -, hpops, -⟩ := mailboxes
  exact ⟨_, hpops (mailState { MbxQ.empty with msgs := [[5#32, 6#32]] }) _ ⟨7, 0, 0⟩ 63 0 5#32 6#32 [] [] rfl (by decide)
    (by decide), by decide, by decide⟩

/-- The last word of the newest message makes it DONE. -/
theorem rxData_last_witness : ∃ t, exec (.rxData ⟨7, 0, 0⟩ 63 0) (mailState { MbxQ.empty with msgs := [[5#32]] }) =
    .next t ∧ t.get (R.MBX_TX_MSG.STATUS 63 1) = 1 ∧ t.on (R.MBX_IRQ.EMPTY 63 1) = true := by
  obtain ⟨-, -, -, -, -, -, -, -, hempties, -⟩ := mailboxes
  exact ⟨_, hempties (mailState { MbxQ.empty with msgs := [[5#32]] }) _ ⟨7, 0, 0⟩ 63 0 5#32 [] rfl (by decide) (by decide),
    by decide, by decide⟩

/-- The last mailbox is bound by Viaduct to mailbox 7 of the other device, and its message is on the link. -/
def boundState : State :=
  State.putMbx { slotState with cfg := [⟨.link, [⟨4, [[63#8, 0#8, 0#8, 7#8, 7#8, 0#8, 0#8, 0#8]]⟩]⟩] } 63 0
    { MbxQ.empty with msgs := [[5#32]], sending := true }

theorem boundMessageAccept_witness : ∃ t, exec (.boundMessageAccept 63) boundState = .next t ∧
    t.get (R.MBX_TX_MSG.STATUS 63 0) = 1 := by
  obtain ⟨-, -, -, -, -, -, -, -, -, haccepted, -⟩ := mailboxes
  exact ⟨_, haccepted boundState 63 (by decide) (by decide) (by decide), by decide⟩

theorem boundMessageRefused_witness : ∃ t, exec (.boundMessageRefused 63 2) boundState = .next t ∧
    t.get (R.MBX_TX_MSG.RESULT 63 0) = 0x0812 ∧ (t.mbxQ 63 0).msgs = [] := by
  obtain ⟨-, -, -, -, -, -, -, -, -, -, hrefused⟩ := mailboxes
  exact ⟨_, hrefused boundState _ 63 2 [5#32] (by decide) (by decide) (by decide) (by decide) (by decide) (by decide) rfl,
    by decide +kernel, by decide +kernel⟩

/-! ### Queues -/

/-- Bay 7 has the last queue, whose rings of 8 entries end the last bank; FETCH of end P is at the last index, POST after it. -/
def queueState (tail : Nat) : State :=
  let r := [7#8, 0#8, 0#8, 0#8, 0#8, 0#8, 0#8, 0#8, 0x80#8] ++ List.replicate 8 0#8 ++ [255#8, 0#8, 1#8] ++ List.replicate 44 0#8
  ({ slotState with cfg := [⟨.bays, [⟨0, [r]⟩]⟩] }.put (R.QMGR_RING_LO.ADDR 255 0) (0x107FFE00 / 64)).puts
    [(R.QMGR_CTRL.EN 255 0, 1), (R.QMGR_FETCH.FETCH 255 0, 0xFFFF), (R.QMGR_CPL.HEAD 255 0, 0xFFFF),
     (R.QMGR_CPL.TAIL 255 0, tail), (R.QMGR_BAYn.QUOTA 7, 1)]

/-- POST takes the last place of the ring. -/
theorem queuePost_witness : exec (.queuePost ⟨7, 0, 0⟩ 255 0 0x10007) (queueState 0xFFFF) =
    .next ((queueState 0xFFFF).put (R.QMGR_POST.POST 255 0) 0x10007) := by
  obtain ⟨hpost, -⟩ := queueEnds
  exact hpost (queueState 0xFFFF) ⟨7, 0, 0⟩ 255 0 0x10007 (by decide) (by decide +kernel) (by decide)

theorem queuePost_overrun_witness : ∃ t, exec (.queuePost ⟨7, 0, 0⟩ 255 0 8) (queueState 0xFFFF) = .next t ∧
    t.get (R.QMGR_POST.POST 255 0) = 0 := by
  obtain ⟨-, hoverrun, -⟩ := queueEnds
  exact ⟨_, hoverrun (queueState 0xFFFF) ⟨7, 0, 0⟩ 255 0 8 (by decide) (by decide +kernel) (by decide), by decide +kernel⟩

/-- Queue 255 as the transmit queue of the last CAN channel: end C is closed to software. -/
theorem queue_closed_witness :
    exec (.queueEn ⟨7, 0, 0⟩ 255 1 true) ((queueState 0xFFFF).puts [(R.CANn_QBIND.TXQ_EN 3, 1), (R.CANn_QBIND.TXQ 3, 255)]) =
      .next ((queueState 0xFFFF).puts [(R.CANn_QBIND.TXQ_EN 3, 1), (R.CANn_QBIND.TXQ 3, 255)]) := by
  obtain ⟨-, -, hclosed, -⟩ := queueEnds
  exact (hclosed _ ⟨7, 0, 0⟩ 255 1 0 (by decide) (by decide +kernel)).2.2

theorem queueEn_on_witness : ∃ t, exec (.queueEn ⟨7, 0, 0⟩ 255 1 true) ((queueState 0xFFFF).put (R.QMGR_CPL.TAIL 255 1) 0xFFFF) =
    .next t ∧ t.on (R.QMGR_CTRL.EN 255 1) = true ∧ t.get (R.QMGR_CPL.TAIL 255 1) = 0 := by
  obtain ⟨-, -, -, henable, -⟩ := queueEnds
  exact ⟨_, henable _ ⟨7, 0, 0⟩ 255 1 (by decide) (by decide +kernel) (by decide), by decide, by decide⟩

theorem queueEn_off_witness : ∃ t,
    exec (.queueEn ⟨7, 0, 0⟩ 255 0 false) ((queueState 0xFFFF).putEnd 255 0 { QEnd.empty with aborts := [0xFFFF] }) = .next t ∧
    t.on (R.QMGR_CTRL.EN 255 0) = false ∧ (t.qEnd 255 0).aborts = [] := by
  obtain ⟨-, -, -, -, hdisable, -⟩ := queueEnds
  exact ⟨_, hdisable _ _ ⟨7, 0, 0⟩ 255 0 (by decide) (by decide +kernel) (by decide) rfl (by decide), by decide, by decide⟩

/-- The only index posted. -/
theorem queueAbort_witness : ∃ t, exec (.queueAbort ⟨7, 0, 0⟩ 255 0 0xFFFF) (queueState 0xFFFF) = .next t ∧
    (t.qEnd 255 0).aborts = [0xFFFF] := by
  obtain ⟨-, -, -, -, -, habort, -⟩ := queueEnds
  exact ⟨_, habort (queueState 0xFFFF) ⟨7, 0, 0⟩ 255 0 0xFFFF _ (by decide) (by decide +kernel) (by decide) rfl (by decide)
    (by decide), by decide⟩

/-- The last place of the descriptor ring is fetched into the last place of the completion ring; FETCH wraps. -/
theorem descriptorFetch_witness : ∃ t, exec (.descriptorFetch 255 0) (queueState 0xFFF8) = .next t ∧
    t.get (R.QMGR_FETCH.FETCH 255 0) = 0 := by
  obtain ⟨-, -, -, -, -, -, hfetch, -⟩ := queueEnds
  exact ⟨_, hfetch (queueState 0xFFF8) _ 255 0 0xFFFF _ 0x107FFEE0 (by decide +kernel) (by decide) (by decide) (by decide) rfl
    rfl rfl (by decide +kernel), by decide +kernel⟩

/-- One more entry would not fit in the completion ring. -/
theorem completionRingWait_witness : ∃ t, exec (.completionRingWait 255 0) (queueState 0xFFF7) = .next t ∧
    (t.qEnd 255 0).waitRaised = true := by
  obtain ⟨-, -, -, -, -, -, -, -, hwait⟩ := queueEnds
  exact ⟨_, hwait (queueState 0xFFF7) 255 0 (by decide +kernel) (by decide) (by decide), by decide +kernel⟩

/-- A descriptor of one byte at the start of the last bank, paired with the index `j`. -/
def byteDesc (i j : Nat) : Desc :=
  { idx := i, bytes := [0#8, 0#8, 0x7C#8, 0x10#8, 0#8, 0#8, 1#8] ++ List.replicate 25 0#8, peer := some j, committed := true,
    abortLate := false, taken := false, final := none }

/-- The copy of one byte onto itself. -/
theorem descriptorCompletion_witness : ∃ t, exec (.descriptorCompletion 255 0)
    (((queueState 0xFFF8).putEnd 255 0 { QEnd.empty with inflight := [byteDesc 0xFFFF 0] }).putEnd 255 1
      { QEnd.empty with inflight := [byteDesc 0 0xFFFF] }) = .next t ∧ (t.qEnd 255 0).inflight = [] := by
  obtain ⟨-, -, -, -, -, -, -, hcomplete, -⟩ := queueEnds
  exact ⟨_, hcomplete _ 255 0 0 (byteDesc 0xFFFF 0) (byteDesc 0 0xFFFF) [] (by decide) (by decide) (by decide) (by decide)
    (by decide), by decide +kernel⟩

/-! ### Viaduct records -/

/-- The last Viaduct lane is up and SEQ 0 is expected.  Bay 7 is SYNCING under generation 9, with one line left; the last line of
the last bank is its mirror region, and the last mailbox is bound as in `boundState`. -/
def pairState : State :=
  let region := [0#8, 7#8, 0#8, 0#8, 0x10#8, 0x7F#8, 0xFF#8, 0xC0#8, 0#8, 0#8, 0#8, 64#8]
  ({ boundState with cfg := [⟨.link, [⟨1, [region]⟩, ⟨4, boundState.recs .link 4⟩]⟩] }).puts
    [(R.VDT_STATUS.LANE_STATE_B, 4), (R.VDT_STATUS.LANE_UP, 2), (R.VDTn_BAY_GEN.GEN 7, 9), (R.VDTn_ROLE.ROLE 7, 3),
     (R.VDTn_SYNC.LINES_LEFT 7, 1)]

/-- The frame of the SEQ expected is taken. -/
theorem pairState_takes : pairState.hopTake 3 0 = ((pairState.hopTake 3 0).1, true) := Prod.ext rfl (by decide)

/-- The last line of the last bank, with its last word poisoned. -/
theorem mrec_witness : ∃ t, exec (.mrec 3 0 7 9 0x107FFFC0 0 0x80 (List.replicate 64 0xEE#8)) pairState = .next t ∧
    t.byte 0x107FFFFF = 0xEE#8 ∧ t.memx.poison = [0x107FFFF8] := by
  obtain ⟨hmirror, -⟩ := viaductRecords
  exact ⟨_, hmirror pairState _ 3 0 7 9 0x107FFFC0 0 0x80 _ (by decide) pairState_takes (by decide), by decide +kernel,
    by decide +kernel⟩

/-- One generation too old. -/
theorem mrec_stale_witness : ∃ t, exec (.mrec 3 0 7 8 0x107FFFC0 0 0 (List.replicate 64 0xEE#8)) pairState = .next t ∧
    t.byte 0x107FFFFF = 0#8 ∧ t.on R.VDT_IRQ_PEND.STALE = true := by
  obtain ⟨-, hstale, -⟩ := viaductRecords
  exact ⟨_, (hstale pairState _ 3 0 7 8 0x107FFFC0 0 0 _ (by decide) pairState_takes (by decide)).1, by decide +kernel,
    by decide +kernel⟩

/-- The SEQ before the one expected: a duplicate, which is acknowledged again. -/
theorem mrec_duplicate_witness : ∃ t,
    exec (.mrec 3 0xFFFFFFFF 7 9 0x107FFFC0 0 0 (List.replicate 64 0xEE#8)) pairState = .next t ∧
    t.byte 0x107FFFFF = 0#8 ∧ (t.laneAt 3).cur.map LFrame.ftype = some 2 := by
  obtain ⟨-, -, hlate, -⟩ := viaductRecords
  exact ⟨_, hlate pairState (pairState.hopTake 3 0xFFFFFFFF).1 3 0xFFFFFFFF 7 9 0x107FFFC0 0 0 _ (by decide)
    (Prod.ext rfl (by decide)), by decide +kernel, by decide +kernel⟩

/-- The last line of the bulk pass. -/
theorem brec_witness : ∃ t, exec (.brec 3 0 7 9 0x107FFFC0 0 0 (List.replicate 64 0xEE#8)) pairState = .next t ∧
    t.byte 0x107FFFFF = 0xEE#8 ∧ t.get (R.VDTn_SYNC.LINES_LEFT 7) = 0 := by
  obtain ⟨-, -, -, hbulk, -⟩ := viaductRecords
  exact ⟨_, hbulk pairState _ _ 3 0 7 9 0x107FFFC0 0 0 _ (by decide) pairState_takes (by decide) rfl (by decide +kernel),
    by decide +kernel, by decide +kernel⟩

/-- The last queued line of bay 7 goes to the lane. -/
theorem mirrorRecordSend_witness : ∃ t, exec (.mirrorRecordSend 7)
    (pairState.modVdt (fun v => { v with mq := updAt v.mq 7 (fun _ => [(0x107FFFC0, 0, 5)]) })) = .next t ∧
    t.link.vdt.mq.getD 7 [] = [] ∧ (t.laneAt 3).cur.map LFrame.ftype = some 0x10 := by
  obtain ⟨-, -, -, -, hsend, -⟩ := viaductRecords
  exact ⟨_, hsend _ _ 7 (0x107FFFC0, 0, 5) [] (by decide) rfl (by decide), by decide +kernel, by decide +kernel⟩

theorem mirrorQueueFullTimeout_witness : ∃ t,
    exec (.mirrorQueueFullTimeout 7) (pairState.put (R.VDTn_MQ.FILL 7) 32) = .next t ∧ t.on R.VDT_IRQ_PEND.BACKLOG = true := by
  obtain ⟨-, -, -, -, -, hfull, -⟩ := viaductRecords
  exact ⟨_, hfull _ 7 (by decide), by decide +kernel⟩

/-- The longest message finds room at once. -/
theorem vdtMsg_witness : ∃ t, exec (.vdtMsg 3 0 7 9 63 7 (countedWords 16)) pairState = .next t ∧
    (t.mbxQ 63 1).msgs = [countedWords 16] ∧ (t.laneAt 3).cur.map LFrame.ftype = some 0x14 := by
  obtain ⟨-, -, -, -, -, -, hmessage, -⟩ := viaductRecords
  exact ⟨_, hmessage pairState _ _ 3 0 7 9 63 7 _ _ (by decide) pairState_takes (by decide) rfl rfl (by decide) (by decide)
    (by decide), by decide +kernel, by decide +kernel⟩

/-- A mailbox that is not bound: refused with RESULT 2. -/
theorem vdtMsg_unbound_witness : ∃ t, exec (.vdtMsg 3 0 7 9 62 7 [5#32]) pairState = .next t ∧
    (t.mbxQ 62 1).msgs = [] ∧ (t.laneAt 3).cur.map (fun f => (f.ftype, beAt f.data 5 1)) = some (0x14, 2) := by
  obtain ⟨-, -, -, -, -, -, -, hunbound, -⟩ := viaductRecords
  exact ⟨_, hunbound pairState _ _ 3 0 7 9 62 7 _ (by decide) pairState_takes (by decide) rfl (by decide), by decide +kernel,
    by decide +kernel⟩

theorem mrsp_witness : ∃ t, exec (.mrsp 3 0 7 9 63 1) pairState = .next t ∧ t.get (R.MBX_TX_MSG.STATUS 63 0) = 1 ∧
    (t.mbxQ 63 0).msgs = [] := by
  obtain ⟨-, -, -, -, -, -, -, -, haccepted, -⟩ := viaductRecords
  exact ⟨_, haccepted pairState _ _ 3 0 7 9 63 (by decide) pairState_takes (by decide) rfl (by decide) (by decide),
    by decide +kernel, by decide +kernel⟩

theorem vdtDb_witness : ∃ t, exec (.vdtDb 3 0 7 9 63) pairState = .next t ∧ t.on (R.MBX_IRQ.DB 63 0) = true := by
  obtain ⟨-, -, -, -, -, -, -, -, -, hdoorbell⟩ := viaductRecords
  exact ⟨_, hdoorbell pairState _ _ 3 0 7 9 63 _ (by decide) pairState_takes (by decide) rfl rfl (by decide) (by decide),
    by decide +kernel⟩

end Sys2Proof.Machine
end

section
/-! SUPPORT.
The time base, its servo hooks and the commands of BAY0 (O20). -/

namespace Sys2Proof.Machine

/-! ### Reads -/

/-- TIME_STEADY_LO by a bay that runs answers the low word of steady time, and the latch that it leaves is the one that the
reader finds (R424). -/
theorem execTimeSteadyLo_live {s : State} {i : Init} (hhome : fromAfar i = false) (hlive : s.live i.bay = true) :
    exec (.timeSteadyLo i) s = .next (s.latchTime i) :=
  congrArg Host.Outcome.next (State.act_grants (by simp [State.grants, hhome, hlive]) 0x0C02 _ false _)

/-- The latch of an initiator after it has latched the time. -/
theorem State.latchOf_latchTime (s : State) (i : Init) :
    (s.latchTime i).latchOf i = ⟨i.bay, i.kind, i.inst, s.time.q, s.traceQ⟩ := by
  simp [State.latchTime, State.latchOf, State.reply1, State.reply]

/-! ### Servo hooks -/

/-- A write to a servo hook by its writer, whose bay runs, acts (R408). -/
theorem State.byHook_writer {s : State} {i : Init} (hlive : s.live i.bay = true) (hw : s.hookWriter i = true)
    (f : State → State) : s.byHook i f = f s := if_pos (by simp [hlive, hw])

/-- A write by any other initiator is ignored (R408). -/
theorem State.byHook_other {s : State} {i : Init} (hw : s.hookWriter i = false) (f : State → State) : s.byHook i f = s :=
  if_neg (by simp [hw])

/-! ### TIME_CMD (R411) -/

/-- A write of TIME_CMD by BAY0 is the command, after which a step of time triggers converters. -/
theorem execTimeCmd_grants {s : State} {i : Init} (h : s.grants i (isBay i 0) = true) :
    exec (.timeStep i) s = .next (State.tevTriggers s (s.timeCmd 1)) ∧ exec (.timeSlew i) s = .next (s.timeCmd 2) ∧
    exec (.timeSet i) s = .next (State.tevTriggers s (s.timeCmd 3)) :=
  ⟨congrArg Host.Outcome.next (State.act_grants h 0x0C02 _ true _),
    congrArg Host.Outcome.next (State.act_grants h 0x0C02 _ true _),
    congrArg Host.Outcome.next (State.act_grants h 0x0C02 _ true _)⟩

section command
variable {s : State} (hsrc : s.get R.TIME_CFG2.SOURCE < 2)
include hsrc

/-- SET outside INVALID, and any other command in it, fails with RESULT 1. -/
theorem State.timeCmd_wrong_state {op : Nat} (hstate : ¬ (s.time.state = .invalid ↔ op = 3)) : s.timeCmd op = s.cmdStat 1 := by
  have hne : (s.time.state = .invalid) ≠ (op = 3) := fun h => hstate (iff_of_eq h)
  unfold State.timeCmd
  dsimp only
  by_cases hop : op = 0
  · exact if_pos hop
  · rw [if_neg hop, if_neg (by omega), if_pos hne]

/-- STEP outside INVALID, unless traceable time would become negative. -/
theorem State.timeCmd_step (hstate : s.time.state ≠ .invalid) (hamt : 0 ≤ (s.time.q : Int) + s.time.ofs + s.cmdAmt * qns) :
    s.timeCmd 1 = (s.stepOfs (s.cmdAmt * qns) s.afterCmd 4).cmdStat 0 := by
  unfold State.timeCmd
  dsimp only
  rw [if_neg (by decide), if_neg (by omega), if_neg (by simp [hstate]), if_pos rfl, if_neg (by omega)]

/-- SLEW outside INVALID by an amount within its limits. -/
theorem State.timeCmd_slew (hstate : s.time.state ≠ .invalid) (hmin : -2147483647 ≤ s.cmdAmt) (hmax : s.cmdAmt ≤ 2147483647) :
    s.timeCmd 2 = (s.slewOfs s.cmdAmt s.afterCmd).cmdStat 0 := by
  unfold State.timeCmd
  dsimp only
  rw [if_neg (by decide), if_neg (by omega), if_neg (by simp [hstate]), if_neg (by decide), if_pos rfl, if_neg (by omega)]

/-- SET in INVALID, to a time that is not negative. -/
theorem State.timeCmd_set (hstate : s.time.state = .invalid) (hamt : 0 ≤ s.cmdAmt) : s.timeCmd 3 =
    (s.stepOfs (s.cmdAmt * qns - (s.time.q : Int) - s.time.ofs) s.afterCmd 5).cmdStat 0 := by
  unfold State.timeCmd
  dsimp only
  rw [if_neg (by decide), if_neg (by omega), if_neg (by simp [hstate]), if_neg (by decide), if_neg (by decide),
    if_neg (by omega)]

end command

/-! ### Events -/

/-- A source that times out while traceable time tracks it leaves it free running (R410). -/
theorem execTimeSrcTimeout_tracking {s u : State} (hcfg : s.cfg ≠ []) (hclk : s.clocked = true)
    (htrack : s.time.state = .tracking) (hu : u = ((s.flag R.TIME_STATUS.SRC_OK false).flag R.TIME_IRQ_PEND.SRC_LOST true).report
      0 0x1C03 0 (s.get R.TIME_CFG2.SOURCE)) :
    exec .timeSrcTimeout s = .next (State.showTime { u with time := { u.time with state := .freerun } }) := by
  subst hu
  refine congrArg Host.Outcome.next ((if_neg (by simp [hcfg, hclk])).trans ?_)
  simp only [htrack, if_true]

/-- The duplicate counter, with `x` inverted in its integer nanoseconds, is reported where it differs (R430, R431). -/
theorem execSteadyCounterMismatch_differs {s u : State} {x d : Nat} (hclk : s.clocked = true)
    (hd : d = (s.time.dup / 4294967296 ^^^ x) * 4294967296 + s.time.dup % 4294967296) (hne : d ≠ s.time.q)
    (hu : u = { s with time := { s.time with dup := d } }) : exec (.steadyCounterMismatch x) s =
      .next (u.report 0 0x1C05 0 ((s.time.q / 4294967296 ^^^ d / 4294967296) % 4294967296)) := by
  subst hd hu
  exact congrArg Host.Outcome.next ((if_neg (by simp [hclk])).trans (if_neg hne))

/-- Settles O20: hooks and commands act for the writer that R408 and R411 name, and each event where its guard stands. -/
theorem timeBase : Obligations.TimeBase := by
  refine ⟨?halfwrap, ?read, ?rate, ?ignored, ?correction, ?slewEnd, ?timeout, ?step, ?slew, ?set, ?refused, ?periodic,
    ?mismatch⟩
  case halfwrap => exact fun s => rfl
  case read => exact fun s i hhome hlive => ⟨_, execTimeSteadyLo_live hhome hlive, rfl, s.latchOf_latchTime i, rfl⟩
  case rate => exact fun s i w hlive hw => congrArg Host.Outcome.next (State.byHook_writer hlive hw _)
  case ignored =>
    intro s i w hw
    exact ⟨congrArg Host.Outcome.next (State.byHook_other hw _), congrArg Host.Outcome.next (State.byHook_other hw _)⟩
  case correction =>
    rintro s u i w hlive hw rfl
    exact congrArg Host.Outcome.next (State.byHook_writer hlive hw _)
  case slewEnd =>
    rintro s u hslew rfl
    exact congrArg Host.Outcome.next (if_pos hslew)
  case timeout => exact fun s u hcfg hclk htrack hu => execTimeSrcTimeout_tracking hcfg hclk htrack hu
  case step =>
    intro s i hg hsrc hstate hamt
    obtain ⟨hstep, -, -⟩ := execTimeCmd_grants hg
    rw [hstep, State.timeCmd_step hsrc hstate hamt]
  case slew =>
    intro s i hg hsrc hstate hmin hmax
    obtain ⟨-, hslew, -⟩ := execTimeCmd_grants hg
    rw [hslew, State.timeCmd_slew hsrc hstate hmin hmax]
  case set =>
    intro s i hg hsrc hstate hamt
    obtain ⟨-, -, hset⟩ := execTimeCmd_grants hg
    rw [hset, State.timeCmd_set hsrc hstate hamt]
  case refused =>
    intro s i hg hsrc hstate
    obtain ⟨-, hslew, -⟩ := execTimeCmd_grants hg
    rw [hslew, State.timeCmd_wrong_state hsrc (by simp [hstate])]
  case periodic => exact fun s hclk => congrArg Host.Outcome.next (if_pos hclk)
  case mismatch => exact fun s u x d hclk hd hne hu => execSteadyCounterMismatch_differs hclk hd hne hu

end Sys2Proof.Machine
end

section
/-! SUPPORT.
Time-event outputs and capture inputs (O21). -/

namespace Sys2Proof.Machine

/-! ### Outputs -/

/-- A write of TEVn_TGT_HI by the holder of the output (R416). -/
theorem execTevArm_grants {s : State} {i : Init} {n : Nat} (h : s.grants i (s.holds i (44 + n)) = true) (w : Word) :
    exec (.tevArm i n w) s = .next (s.tevArm n w.toNat) := congrArg Host.Outcome.next (State.act_grants h 0x0C02 _ true _)

/-- While EN is 0 only the target is written. -/
theorem State.tevArm_disabled {s u : State} {n hi : Nat} (hu : u = s.put (R.TEVn_TGT_HI.TGT n) hi)
    (hen : u.on (R.TEVn_CTRL.EN n) = false) : s.tevArm n hi = u := by
  subst hu
  exact if_pos hen

/-- An enabled output whose settings allow it is armed for its target, late within 64 ns of it (R416, R417). -/
theorem State.tevArm_allowed {s u v : State} {n hi : Nat} (hu : u = s.put (R.TEVn_TGT_HI.TGT n) hi)
    (hen : u.on (R.TEVn_CTRL.EN n) = true) (hv : v = u.flag (R.TEVn_STAT.ARMED n) false) (hok : v.tevOk n = true) :
    s.tevArm n hi = (v.flag (R.TEVn_STAT.ARMED n) true).modTev n (fun x =>
      { x with next := v.tevTarget n, first := none, late := decide (v.tevTarget n < v.tevNow n + 64) }) := by
  subst hu hv
  exact (if_neg (ne_false_of_eq_true hen)).trans (if_neg (ne_false_of_eq_true hok))

/-! ### Captures (R421, R428) -/

/-- An edge of an input whose owner runs is taken with its stamp. -/
theorem execTcapEdge_owned {s : State} {n x b : Nat} (hclk : s.clocked = true) (hown : s.ownPeriph (52 + n) = some b)
    (hlive : s.live b = true) (hx : x < 4294967296) (r : Bool) : exec (.tcapEdge n r x) s = .next (s.tcapEdge n r x) := by
  have hguard : (s.clocked && s.live (ownerOr0 (s.ownPeriph (52 + n))) && (s.ownPeriph (52 + n)).isSome) = true := by
    simp [hown, ownerOr0, hclk, hlive]
  exact congrArg Host.Outcome.next ((if_pos hguard).trans (by rw [Nat.mod_eq_of_lt hx]))

section edge
variable {s : State} {n x : Nat} {r : Bool} (hedge : (s.get (R.TCAPn_CTRL.EDGE n)).testBit (if r then 0 else 1) = true)
include hedge

/-- An enabled edge within 8 ns of the last one is a glitch. -/
theorem State.tcapEdge_glitch {l : Nat} (hlast : s.time.tcapLast.getD n none = some l)
    (hnear : (x + 4294967296 - l) % 4294967296 < 8) : s.tcapEdge n r x = s.flag (R.TCAPn_STAT.GLITCH n) true := by
  rw [State.tcapEdge, if_neg (ne_false_of_eq_true hedge), hlast]
  exact if_pos (decide_eq_true hnear)

/-- Any other enabled edge is the last one, and its stamp is stored unless the store is full. -/
theorem State.tcapEdge_captured {u : State}
    (hfar : ∀ l, s.time.tcapLast.getD n none = some l → 8 ≤ (x + 4294967296 - l) % 4294967296)
    (hu : u = { s with time := { s.time with tcapLast := updAt s.time.tcapLast n (fun _ => some x) } }) :
    s.tcapEdge n r x = if 8 ≤ (s.time.tcap.getD n []).length then
        (u.flag (R.TCAPn_STAT.OVR n) true).report (ownerOr0 (s.ownPeriph (52 + n))) 0x1C06 n (s.time.tcap.getD n []).length
      else u.setTcap n (s.time.tcap.getD n [] ++ [(x, r)]) := by
  subst hu
  rw [State.tcapEdge, if_neg (ne_false_of_eq_true hedge)]
  cases hlast : s.time.tcapLast.getD n none with
  | none => rfl
  | some l => exact if_neg (by simpa using hfar l hlast)

end edge

/-- Settles O21: accesses act for the holder of an output or input, and each edge by the store and the last edge it finds. -/
theorem timeEventsAndCaptures : Obligations.TimeEventsAndCaptures := by
  refine ⟨?arm, ?target, ?fire, ?unarmed, ?pulseEnd, ?disarm, ?capture, ?glitch, ?stamp⟩
  case arm =>
    intro s u v i n w hg hu hen hv hok
    exact ⟨_, execTevArm_grants hg w, State.tevArm_allowed hu hen hv hok⟩
  case target =>
    intro s u i n w hg hu hen
    rw [execTevArm_grants hg, State.tevArm_disabled hu hen]
  case fire =>
    intro s n hclk harmed hdue hlive
    exact congrArg Host.Outcome.next (if_pos (by simp [hclk, harmed, hdue, hlive]))
  case unarmed => exact fun s n harmed => congrArg Host.Outcome.next (if_neg (by simp [harmed]))
  case pulseEnd => exact fun s n => rfl
  case disarm => exact fun s i n hg => congrArg Host.Outcome.next (State.act_grants hg 0x0C02 _ true _)
  case capture =>
    intro s n x b r hclk hown hlive hx hedge hlast hroom
    rw [execTcapEdge_owned hclk hown hlive hx,
      State.tcapEdge_captured hedge (fun l hl => nomatch hlast.symm.trans hl) rfl, if_neg (by omega)]
  case glitch =>
    intro s n x b l r hclk hown hlive hx hedge hlast hnear
    rw [execTcapEdge_owned hclk hown hlive hx, State.tcapEdge_glitch hedge hlast hnear]
  case stamp => exact fun s i n hg => congrArg Host.Outcome.next (State.act_grants hg 0x0C02 _ false _)

end Sys2Proof.Machine
end

section
/-! SUPPORT.
Witnesses: concrete states and inputs that meet the hypotheses of O20 and O21. -/

namespace Sys2Proof.Machine

/-- BAY0 and bay 7 run, and bay 7 owns the last time-event output and the last capture input; steady time and its duplicate
count `q`. -/
def timeState (st : TState) (q : Nat) : State :=
  let r := 7#8 :: List.replicate 23 0#8 ++ [8#8, 8#8] ++ List.replicate 38 0#8
  { powerState with cfg := [⟨.bays, [⟨0, [r]⟩]⟩], time := { TimePart.cold with q := q, dup := q, state := st } }

/-! ### The time base -/

/-- One unit before bit 32 of steady nanoseconds, for the last core. -/
theorem timeSteadyLo_witness : ∃ t, exec (.timeSteadyLo ⟨7, 0, 3⟩) (timeState .freerun (2 ^ 64 - 1)) = .next t ∧
    t.answer = [0xFFFFFFFF#32] ∧ (t.latchOf ⟨7, 0, 3⟩).q = 2 ^ 64 - 1 := by
  obtain ⟨-, hread, -⟩ := timeBase
  obtain ⟨t, ht, hword, hlatch, -⟩ := hread (timeState .freerun (2 ^ 64 - 1)) ⟨7, 0, 3⟩ (by decide) (by decide)
  exact ⟨t, ht, hword.trans (by decide), by rw [hlatch]; rfl⟩

/-- The greatest rate is set as it stands. -/
theorem timeSrvRate_witness : ∃ t, exec (.timeSrvRate ⟨0, 0, 3⟩ 8589934#32) (timeState .freerun 0) = .next t ∧
    t.adj = 8589934 ∧ t.on R.TIME_IRQ_PEND.RATE_CLAMP = false := by
  obtain ⟨-, -, hrate, -⟩ := timeBase
  exact ⟨_, hrate (timeState .freerun 0) ⟨0, 0, 3⟩ 8589934#32 (by decide) (by decide), by decide, by decide⟩

/-- An engine of BAY0, while SOURCE names its cores. -/
theorem timeSrvRate_ignored_witness :
    exec (.timeSrvRate ⟨0, 1, 11⟩ 8589934#32) (timeState .freerun 0) = .next (timeState .freerun 0) := by
  obtain ⟨-, -, -, hignored, -⟩ := timeBase
  obtain ⟨hrate, -⟩ := hignored (timeState .freerun 0) ⟨0, 1, 11⟩ 8589934#32 (by decide)
  exact hrate

/-- INVALID, with the low word of the greatest 33-bit correction written. -/
def corrState : State := (timeState .invalid (2 ^ 32)).put R.TIME_SRV_CORR_LO.CORR 0xFFFFFFFF

theorem timeSrvCorr_witness : exec (.timeSrvCorr ⟨0, 0, 0⟩ 1#32) corrState =
    .next (State.tevTriggers (corrState.put R.TIME_SRV_CORR_HI.CORR 1)
      ((corrState.put R.TIME_SRV_CORR_HI.CORR 1).submitCorr (2 ^ 33 - 1))) := by
  obtain ⟨-, -, -, -, hcorr, -⟩ := timeBase
  exact hcorr corrState _ ⟨0, 0, 0⟩ 1#32 (by decide) (by decide) rfl

/-- A slew of -1 ns that SLEWING shows. -/
def slewState : State :=
  let s := timeState .tracking (2 ^ 33)
  State.showTime { s with time := { s.time with slew := -qns } }

theorem slewEnd_witness : ∃ t, exec .slewEnd slewState = .next t ∧ t.trace = some 1 ∧
    t.on R.TIME_STATUS.SLEWING = false ∧ t.on R.TIME_IRQ_PEND.SLEW_DONE = true := by
  obtain ⟨-, -, -, -, -, hend, -⟩ := timeBase
  exact ⟨_, hend slewState _ (by decide) rfl, by decide, by decide, by decide⟩

theorem timeSrcTimeout_witness : ∃ t, exec .timeSrcTimeout (timeState .tracking 0) = .next t ∧
    t.time.state = .freerun ∧ t.on R.TIME_IRQ_PEND.SRC_LOST = true := by
  obtain ⟨-, -, -, -, -, -, htimeout, -⟩ := timeBase
  exact ⟨_, htimeout (timeState .tracking 0) _ (by decide) (by decide) (by decide) rfl, by decide, by decide⟩

/-- AMT holds the two words. -/
def cmdState (st : TState) (q lo hi : Nat) : State :=
  (timeState st q).puts [(R.TIME_CMD_AMT_LO.AMT, lo), (R.TIME_CMD_AMT_HI.AMT, hi)]

/-- A step of -1 ns, to time 0. -/
theorem timeStep_witness : exec (.timeStep ⟨0, 0, 0⟩) (cmdState .freerun (2 ^ 32) 0xFFFFFFFF 0xFFFFFFFF) =
    .next (State.tevTriggers (cmdState .freerun (2 ^ 32) 0xFFFFFFFF 0xFFFFFFFF)
      (((cmdState .freerun (2 ^ 32) 0xFFFFFFFF 0xFFFFFFFF).stepOfs (-qns) .freerun 4).cmdStat 0)) := by
  obtain ⟨-, -, -, -, -, -, -, hstep, -⟩ := timeBase
  exact hstep (cmdState .freerun (2 ^ 32) 0xFFFFFFFF 0xFFFFFFFF) ⟨0, 0, 0⟩ (by decide) (by decide) (by decide) (by decide)

/-- The most negative slew. -/
theorem timeSlew_witness : ∃ t, exec (.timeSlew ⟨0, 0, 0⟩) (cmdState .hold 0 0x80000001 0xFFFFFFFF) = .next t ∧
    t.time.slew = -2147483647 * qns ∧ t.time.state = .freerun := by
  obtain ⟨-, -, -, -, -, -, -, -, hslew, -⟩ := timeBase
  exact ⟨_, hslew (cmdState .hold 0 0x80000001 0xFFFFFFFF) ⟨0, 0, 0⟩ (by decide) (by decide) (by decide) (by decide) (by decide),
    by decide, by decide⟩

/-- The least time that may be set: OFFSET steps by the negative of steady time. -/
theorem timeSet_witness : exec (.timeSet ⟨0, 0, 0⟩) (cmdState .invalid (2 ^ 32) 0 0) =
    .next (State.tevTriggers (cmdState .invalid (2 ^ 32) 0 0)
      (((cmdState .invalid (2 ^ 32) 0 0).stepOfs (-qns) .freerun 5).cmdStat 0)) := by
  obtain ⟨-, -, -, -, -, -, -, -, -, hset, -⟩ := timeBase
  exact hset (cmdState .invalid (2 ^ 32) 0 0) ⟨0, 0, 0⟩ (by decide) (by decide) (by decide) (by decide)

theorem timeSlew_invalid_witness : ∃ t, exec (.timeSlew ⟨0, 0, 0⟩) (cmdState .invalid 0 1 0) = .next t ∧
    t.get R.TIME_CMD_STAT.STATUS = 3 ∧ t.get R.TIME_CMD_STAT.RESULT = 1 := by
  obtain ⟨-, -, -, -, -, -, -, -, -, -, hrefused, -⟩ := timeBase
  exact ⟨_, hrefused (cmdState .invalid 0 1 0) ⟨0, 0, 0⟩ (by decide) (by decide) (by decide), by decide,
    by decide⟩

/-- The entry after the last one of the ring is the first one. -/
theorem journalPeriodic_witness : ∃ t, exec .journalPeriodic
    ((timeState .freerun (2 ^ 32)).puts [(R.TIME_JRN_HEAD.VALID, 1), (R.TIME_JRN_HEAD.INDEX, 15)]) = .next t ∧
    t.get R.TIME_JRN_HEAD.INDEX = 0 ∧ t.get R.TIME_JRN_HEAD.SEQ = 1 := by
  obtain ⟨-, -, -, -, -, -, -, -, -, -, -, hperiodic, -⟩ := timeBase
  exact ⟨_, hperiodic _ (by decide), by decide, by decide⟩

/-- The highest bit of the duplicate is inverted. -/
theorem steadyCounterMismatch_witness : ∃ t, exec (.steadyCounterMismatch (2 ^ 63)) (timeState .freerun 0) = .next t ∧
    t.time.dup = 2 ^ 95 ∧ (t.flt.running ++ t.flt.waiting).map (fun x => (x.cause, x.res)) = [(0x1C05, 0)] := by
  obtain ⟨-, -, -, -, -, -, -, -, -, -, -, -, hmismatch⟩ := timeBase
  exact ⟨_, hmismatch (timeState .freerun 0) _ (2 ^ 63) _ (by decide) rfl (by decide) rfl, by decide,
    by decide⟩

/-! ### Time-event outputs -/

/-- The last output with the shortest period, and a target of 64 ns. -/
def tevState (en : Nat) : State :=
  (timeState .invalid 0).puts [(R.TEVn_CTRL.EN 7, en), (R.TEVn_TGT_LO.TGT 7, 64), (R.TEVn_PERIOD.NS 7, 1000)]

/-- The nearest target that is not late. -/
theorem tevArm_witness : ∃ t, exec (.tevArm ⟨7, 0, 0⟩ 7 0#32) (tevState 1) = .next t ∧
    t.on (R.TEVn_STAT.ARMED 7) = true ∧ t.tevAt 7 = ⟨64, none, false, false⟩ := by
  obtain ⟨harm, -⟩ := timeEventsAndCaptures
  obtain ⟨t, ht, rfl⟩ := harm (tevState 1) _ _ ⟨7, 0, 0⟩ 7 0#32 (by decide) rfl (by decide) rfl (by decide)
  exact ⟨_, ht, by decide, by decide⟩

theorem tevArm_disabled_witness : exec (.tevArm ⟨7, 0, 0⟩ 7 0xFFFFFFFF#32) (tevState 0) =
    .next ((tevState 0).put (R.TEVn_TGT_HI.TGT 7) 0xFFFFFFFF) := by
  obtain ⟨-, htarget, -⟩ := timeEventsAndCaptures
  exact htarget (tevState 0) _ ⟨7, 0, 0⟩ 7 0xFFFFFFFF#32 (by decide) rfl (by decide)

/-- The last output is armed, and its next boundary is now. -/
def armedState : State :=
  ((tevState 1).flag (R.TEVn_STAT.ARMED 7) true).modTev 7 (fun x => { x with next := 0 })

/-- The output fires in time and, not being periodic, is disarmed. -/
theorem tevFire_witness : exec (.tevFire 7) armedState = .next ((armedState.tevFire 7 false).adcTev 7) ∧
    (armedState.tevFire 7 false).on (R.TEVn_STAT.FIRED 7) = true ∧
    (armedState.tevFire 7 false).on (R.TEVn_STAT.ARMED 7) = false := by
  obtain ⟨-, -, hfire, -⟩ := timeEventsAndCaptures
  exact ⟨hfire armedState 7 (by decide) (by decide) (by decide) (by decide), by decide, by decide⟩

theorem tevFire_unarmed_witness : exec (.tevFire 7) (tevState 1) = .next (tevState 1) := by
  obtain ⟨-, -, -, hunarmed, -⟩ := timeEventsAndCaptures
  exact hunarmed (tevState 1) 7 (by decide)

theorem tevDisarm_witness : ∃ t, exec (.tevDisarm ⟨7, 0, 0⟩ 7) armedState = .next t ∧
    t.on (R.TEVn_CTRL.EN 7) = false ∧ t.on (R.TEVn_STAT.ARMED 7) = false := by
  obtain ⟨-, -, -, -, -, hdisarm, -⟩ := timeEventsAndCaptures
  exact ⟨_, hdisarm armedState ⟨7, 0, 0⟩ 7 (by decide), by decide, by decide⟩

/-! ### Capture inputs -/

/-- Falling edges of the last input are captured; the last one had the stamp `last`, and `n` are stored. -/
def tcapState (n : Nat) (last : Option Nat) : State :=
  let s := (timeState .freerun 0).put (R.TCAPn_CTRL.EDGE 7) 2
  { s with time := { s.time with
      tcapLast := List.replicate 7 none ++ [last], tcap := List.replicate 7 [] ++ [List.replicate n (5, false)] } }

/-- The edge that fills the store, with the greatest stamp. -/
theorem tcapEdge_witness : ∃ t, exec (.tcapEdge 7 false 0xFFFFFFFF) (tcapState 7 none) = .next t ∧
    t.get (R.TCAPn_STAT.COUNT 7) = 8 ∧ t.time.tcapLast.getD 7 none = some 0xFFFFFFFF := by
  obtain ⟨-, -, -, -, -, -, hcapture, -⟩ := timeEventsAndCaptures
  exact ⟨_, hcapture (tcapState 7 none) 7 0xFFFFFFFF 7 false (by decide) (by decide) (by decide) (by decide) (by decide)
    (by decide) (by decide), by decide, by decide⟩

/-- 7 ns after the last edge, over the end of the stamps. -/
theorem tcapEdge_glitch_witness : ∃ t, exec (.tcapEdge 7 false 6) (tcapState 0 (some 0xFFFFFFFF)) = .next t ∧
    t.on (R.TCAPn_STAT.GLITCH 7) = true ∧ t.get (R.TCAPn_STAT.COUNT 7) = 0 := by
  obtain ⟨-, -, -, -, -, -, -, hglitch, -⟩ := timeEventsAndCaptures
  exact ⟨_, hglitch (tcapState 0 (some 0xFFFFFFFF)) 7 6 7 0xFFFFFFFF false (by decide) (by decide) (by decide) (by decide)
    (by decide) (by decide) (by decide), by decide, by decide⟩

/-- The oldest stamp of a full store. -/
theorem tcapStamp_witness : ∃ t, exec (.tcapStamp ⟨7, 0, 0⟩ 7) (tcapState 8 none) = .next t ∧ t.answer = [5#32] ∧
    t.get (R.TCAPn_STAT.COUNT 7) = 7 := by
  obtain ⟨-, -, -, -, -, -, -, -, hstamp⟩ := timeEventsAndCaptures
  exact ⟨_, hstamp (tcapState 8 none) ⟨7, 0, 0⟩ 7 (by decide), by decide, by decide⟩

end Sys2Proof.Machine
end

section
/-! SUPPORT.
Schedule contexts (O22). -/

namespace Sys2Proof.Machine

/-! ### Cycles and windows -/

/-- A cycle start of a context that exists; a context that follows reference messages counts the cycle at their port (R435,
R524). -/
theorem execCycleStart_some {s : State} {n : Nat} {x : Ctx} (hx : s.ctx n = some x) : exec (.cycleStart n) s = .next
    (if x.mode = 2 then (s.cycleStart n).canCycle ((s.cycleStart n).get (R.QDRn_ALIGN.REF_PORT n)) else s.cycleStart n) := by
  simp only [exec, execCycleStart, hx, answer]

/-- A window on an Ethernet port opens on its ports; the CAN controllers take no part (R437, R440). -/
theorem State.windowStart_eth {s : State} {n w : Nat} {r : List Byte} (hr : s.winRec n w = some r) (hp : C.QDRS1.PORT r < 4)
    (busy : Nat) : s.windowStart n w busy =
      s.forEach (winPorts r) (fun pc t => t.winOpenOn n r (busy.testBit pc.2) pc) := by
  have hport : ¬ (4 ≤ C.QDRS1.PORT r ∧ C.QDRS1.PORT r < 8) := by omega
  have hpair : ¬ (4 ≤ C.QDRS1.PORT r ∧ C.QDRS1.PORT r < 8 ∧ C.QDRS1.CHAN r = 2 ∧ C.QDRS1.KIND r = 0 ∧
    s.bufPending (C.QDRS1.PORT r - 4) (C.QDRS1.SENDER r)) := fun ⟨hlo, hhi, _⟩ => hport ⟨hlo, hhi⟩
  simp only [State.windowStart, hr, if_neg hport, if_neg hpair]

/-- A window that the current cycle does not define neither opens nor ends. -/
theorem State.window_none {s : State} {n w : Nat} (hr : s.winRec n w = none) (x y : Nat) :
    s.windowStart n w x = s ∧ s.windowEnd n w x y = s := by
  simp only [State.windowStart, State.windowEnd, hr, and_self]

/-- A window of one port or of two separate channels ends on its ports; without reference messages nothing else is found. -/
theorem State.windowEnd_single {s u : State} {n w a b : Nat} {r : List Byte} {x y : Ctx} (hr : s.winRec n w = some r)
    (hx : s.ctx n = some x) (hmode : x.mode ≠ 2) (hchan : C.QDRS1.CHAN r ≠ 2)
    (hu : u = s.forEach (winPorts r) (fun pc t => t.winEndOn n r (if pc.2 = 0 then a else b) pc.1)) (hy : u.ctx n = some y) :
    s.windowEnd n w a b = u := by
  have hfollows : ¬ (x.mode = 2 ∧ x.refSeen = false ∧ x.mat.firstWin r) := fun h => hmode h.1
  simp only [State.windowEnd, hr, hx, ← hu, hy, if_neg hchan, if_neg hfollows]

/-! ### Instants -/

/-- An instant that the current cycle defines is stamped, and inputs and outputs of a bay that runs take part (R444, R447). -/
theorem State.instant_live {s u : State} {n k c : Nat} {x : Ctx} (hx : s.ctx n = some x)
    (hrun : s.on (R.QDRn_POS.RUNNING n) = true) (hc : c = s.get (R.QDRn_POS.CYCLE n))
    (hdef : x.mat.insts.any (fun r => C.QDRS2.CYCLE r == c && C.QDRS2.INST r == k) = true)
    (hu : u = ((s.put (R.QDRn_INST_STAMP.STAMP n) s.stamp).put (R.QDRn_INST_ID.INST n) k).put (R.QDRn_INST_ID.CYCLE n) c)
    (hlive : u.live (u.ctxBay n) = true) : s.instant n k = (u.instantIn n k).instantOut n k := by
  subst hc
  have hskip : ¬ (s.on (R.QDRn_POS.RUNNING n) = false ∨ x.mat.insts.any
      (fun r => C.QDRS2.CYCLE r == s.get (R.QDRn_POS.CYCLE n) && C.QDRS2.INST r == k) = false) := by
    rw [hrun, hdef]
    decide
  simp only [State.instant, hx, if_neg hskip, ← hu, if_pos hlive]

/-! ### Trims (R449) -/

/-- While no engine aligns the context, a write of its alignment page by its owner acts (R451). -/
theorem State.byAlign_free {s : State} {i : Init} {n : Nat} (hg : s.grants i (s.holds i (38 + n)) = true)
    (hfree : s.alignEngine n = none) (addr : Nat) (f : State → State) : s.byAlign i n addr f = f s := by
  rw [State.byAlign, State.byOwner, State.act_grants hg, hfree]

/-- A request in modes 1 and 2 sets the trim; in mode 1 it is the error shown. -/
theorem State.trimReq_aligned {s u : State} {n v : Nat} {x : Ctx} (hx : s.ctx n = some x) (hmode : x.mode = 1 ∨ x.mode = 2)
    (hu : u = s.setCtx n { x with trim := Sys2Proof.signed 32 v * qns, trimming := true, trimRem := 0 }) : s.trimReq n v =
      (if x.mode = 1 then u.putI (R.QDRn_ALIGN_ERR.NS n) (Sys2Proof.signed 32 v) else u).alignErr n (Sys2Proof.signed 32 v) := by
  simp only [State.trimReq, hx, if_pos hmode, ← hu]

/-- A request in any other mode is ignored. -/
theorem State.trimReq_ignored {s : State} {n : Nat} {x : Ctx} (hx : s.ctx n = some x) (hmode : ¬ (x.mode = 1 ∨ x.mode = 2))
    (v : Nat) : s.trimReq n v = s := by
  simp only [State.trimReq, hx, if_neg hmode]

/-- The end of a trim adds what is left of it to OFS. -/
theorem execTrimDone_trimming {s : State} {n : Nat} {x : Ctx} (hx : s.ctx n = some x) (htrim : x.trimming = true) :
    exec (.trimDone n) s = .next ((s.setCtx n { x with ofs := x.ofs + x.trim, trim := 0, trimming := false }).flag
      (R.QDRn_IRQ_PEND.TRIM_DONE n) true) := by
  simp only [exec, execTrimDone, hx, if_pos htrim, answer]

/-- Settles O22: cycles, windows and instants act where the context's matrix defines them, and a trim request by the mode. -/
theorem scheduleContexts : Obligations.ScheduleContexts := by
  refine ⟨?cycle, ?reference, ?opens, ?undefined, ?ends, ?instant, ?trim, ?ignored, ?done⟩
  case cycle =>
    intro s n x hx hmode
    rw [execCycleStart_some hx, if_neg hmode]
  case reference =>
    rintro s t n x hx hmode rfl
    rw [execCycleStart_some hx, if_pos hmode]
  case opens => exact fun s n w busy r hr hp => congrArg Host.Outcome.next (State.windowStart_eth hr hp busy)
  case undefined =>
    intro s n w x y hr
    obtain ⟨hstart, hend⟩ := State.window_none hr x y
    exact ⟨congrArg Host.Outcome.next hstart, congrArg Host.Outcome.next hend⟩
  case ends =>
    exact fun s u n w a b r x y hr hx hmode hchan hu hy =>
      congrArg Host.Outcome.next (State.windowEnd_single hr hx hmode hchan hu hy)
  case instant =>
    exact fun s u n k c x hx hrun hc hdef hu hlive =>
      congrArg Host.Outcome.next (State.instant_live hx hrun hc hdef hu hlive)
  case trim =>
    intro s i n v x hg hfree hx hmode
    have hsets := State.trimReq_aligned (v := v) hx (Or.inl hmode) rfl
    rw [if_pos hmode] at hsets
    exact congrArg Host.Outcome.next ((State.byAlign_free hg hfree _ _).trans hsets)
  case ignored =>
    intro s i n v x hg hfree hx hmode
    exact congrArg Host.Outcome.next ((State.byAlign_free hg hfree _ _).trans (State.trimReq_ignored hx (by omega) v))
  case done => exact fun s n x hx htrim => execTrimDone_trimming hx htrim

end Sys2Proof.Machine
end

section
/-! SUPPORT.
Ethernet frames (O24). -/

namespace Sys2Proof.Machine

/-! ### Transmission -/

/-- A descriptor without flags, of a queue that sends one copy, is taken, and its frame enters transmit memory padded to 60
bytes (R472, R473). -/
theorem State.ethReady_stages {s u v w : State} {n k q : Nat} {d : Desc} {l : List Byte} (hq : q = 24 * n + k)
    (hu : u = s.ethPrune n) (hen : u.on (R.ETHn_CTRL.EN n) = true) (hroom : u.get (R.ETHn_TXQk_CTRL.STAGED n k) < 2)
    (hk : k < 8) (hd : u.agentNext q 0 = some d) (hflags : leAt d.aux 0 1 = 0) (hmin : 14 ≤ d.len)
    (hmax : d.len ≤ u.ethMax n - 4) (hread : u.agentRead q 0 d = (v, some l)) (hw : w = v.agentTake q 0 d.idx)
    (hprp : w.on (R.ETHn_PRP_CTRL.PRP_EN n) = false) (hone : w.chan2Sender n k = false) :
    s.ethReady n k none =
      w.ethStage n ⟨k, n, d.idx, 0, false, l ++ List.replicate (60 - l.length) 0, false, false, none, none⟩ := by
  subst hq
  have hopen : ¬ (u.on (R.ETHn_CTRL.EN n) = false ∨ 2 ≤ u.get (R.ETHn_TXQk_CTRL.STAGED n k) ∨ 8 ≤ k) := by
    simp only [hen, Bool.true_eq_false, false_or, not_or, Nat.not_le, hroom, hk, and_self]
  have hlen : ¬ (d.len < 14 ∨ u.ethMax n - 4 < d.len) := by omega
  simp only [State.ethReady, ← hu, hopen, ↓reduceIte, hd, hflags, Nat.zero_testBit, Bool.false_eq_true, hlen, hread, ← hw,
    hprp, Bool.and_false, hone, Bool.or_self]

/-- A start opportunity of a port that may send starts the frame picked and commits its descriptor (R474, R476). -/
theorem State.ethStart_picked {s u : State} {n : Nat} {f : EthFrame} (hu : u = (s.ethPrune n).ethCredits n)
    (hen : u.on (R.ETHn_CTRL.EN n) = true) (hlink : u.on (R.ETHn_STATUS.LINK n) = true)
    (hserves : u.on (R.ETHn_STATUS.OUT_OF_SERVICE n) = false) (htest : u.portTest 0x2401 n = false)
    (hquiet : u.portQuiet n = false) (hpause : (u.ethAt n).pauseTo ≤ u.now)
    (hidle : (u.ethAt n).staged.any (fun f => f.start.isSome) = false) (hpick : u.ethPick n = some f) (hsrc : f.src < 4) :
    s.ethStart n = (u.modEth n (fun x => { x with staged := x.staged.map (fun g => if g = f then
      { g with start := some u.now, traced := if u.time.state = .invalid then none else some u.time.ofs } else g) })).modDesc
      (24 * f.src + f.k) 0 f.idx (fun d => { d with committed := true }) := by
  have hmay : (u.on (R.ETHn_CTRL.EN n) && u.on (R.ETHn_STATUS.LINK n) && !(u.on (R.ETHn_STATUS.OUT_OF_SERVICE n)) &&
      !(u.portTest 0x2401 n) && !(u.portQuiet n) && decide ((u.ethAt n).pauseTo ≤ u.now) &&
      !((u.ethAt n).staged.any (fun f => f.start.isSome))) = true := by
    simp only [hen, hlink, hserves, htest, hquiet, hpause, hidle, decide_true, Bool.not_false, Bool.and_self]
  simp only [State.ethStart, ← hu, if_pos hmay, hpick, if_pos hsrc]

/-- A frame that is no descriptor's is sent as it stands in transmit memory (R478). -/
theorem State.ethSent_own {f : EthFrame} (hsrc : 4 ≤ f.src) (s : State) (ti : Nat) : s.ethSent f ti = f.data := by
  have hown : (f.oneStep && decide (f.src < 4)) = false := by
    rw [decide_eq_false (Nat.not_lt.mpr hsrc), Bool.and_false]
  exact if_neg (Bool.eq_false_iff.mp hown)

/-- A frame that holds no PTP event message makes no entry in the event FIFO (R483). -/
theorem State.pushPtp_none {s : State} {d : List Byte} (hd : ptpAt d = none) (n stamp dir : Nat) :
    s.pushPtp n d stamp dir = s := by
  simp only [State.pushPtp, hd]

/-- A frame of the port's own that has been sent, without loopback, ends well, with no stamp of its own (R477). -/
theorem State.ethOut_own {s : State} {n : Nat} {f : EthFrame} (hsrc : 4 ≤ f.src) (hptp : ptpAt f.data = none)
    (hloop : s.get (R.ETHn_CTRL.LOOP n) = 0) : s.ethOut n none f = (s.ethEnd n f true s.stamp 0).ethHeads n := by
  have hstamp : (decide (f.src < 4) &&
      (s.qEnd (24 * f.src + f.k) 0).inflight.any (fun d => d.idx == f.idx && d.tsreq)) = false := by
    rw [decide_eq_false (Nat.not_lt.mpr hsrc), Bool.false_and]
  simp only [State.ethOut, State.ethSent_own hsrc, State.pushPtp_none hptp, hloop, hstamp, Nat.zero_ne_one, reduceCtorEq,
    false_and, or_self, Bool.false_eq_true, ↓reduceIte]

/-! ### Reception -/

/-- A port outside loopback that receives takes a frame from the line, and one that does not receive ignores it (R491, R496). -/
theorem execEthRxFrame_line {s : State} {n : Nat} (hloop : s.get (R.ETHn_CTRL.LOOP n) = 0) (hon : s.ethRxOn n = true)
    (d : List Byte) (t : Nat) (good pcs full : Bool) (ecc : Option Nat) :
    exec (.ethRxFrame n d t good pcs full ecc) s = .next (s.ethReceive n d t good pcs full ecc) :=
  congrArg Host.Outcome.next (if_pos (by simp only [hon, hloop, BEq.rfl, Bool.and_self]))

section receive
variable (s : State) (n : Nat) (t : Nat) (full : Bool) (ecc : Option Nat)

/-- A bad FCS is counted, in the port's interval too (R479, R498). -/
theorem State.ethReceive_badFcs (d : List Byte) : s.ethReceive n d t false false full ecc =
    (s.modEth n (fun x => { x with rxErrs := x.rxErrs + 1 })).inc (R.ETHn_RX_FCS_ERR.COUNT n) := rfl

/-- A frame shorter than 64 bytes is a runt. -/
theorem State.ethReceive_runt {d : List Byte} (hd : d.length < 64) : s.ethReceive n d t true false full ecc =
    s.inc (R.ETHn_RX_RUNT.COUNT n) := by
  simp only [State.ethReceive, Bool.false_eq_true, if_false, Bool.not_true, if_pos hd]

end receive

/-- A frame of a length that the port takes, outside PRP, finds no buffer or is classified (R479). -/
theorem State.ethReceive_good {s : State} {n : Nat} {d : List Byte} (hprp : s.prpPair n = none) (hmin : 64 ≤ d.length)
    (hmax : d.length ≤ s.ethMax n) (t : Nat) (full : Bool) : s.ethReceive n d t true false full none =
      if full then s.noBuf n else s.ethGood n d t := by
  have hlong : ¬ s.ethMax n < d.length := by omega
  have hrunt : ¬ d.length < 64 := by omega
  simp only [State.ethReceive, hprp, hlong, hrunt, Bool.false_eq_true, Bool.not_true, Option.isSome_none, Nat.add_zero,
    ↓reduceIte]

/-- Settles O24: the frames of a port from their descriptors to the line, and those from the line by length, FCS and room. -/
theorem ethernetFrames : Obligations.EthernetFrames := by
  refine ⟨?ready, ?start, ?sent, ?badFcs, ?runt, ?good, ?off⟩
  case ready =>
    exact fun s u v w n k q d l hq hu hen hroom hk hd hflags hmin hmax hread hw hprp hone => congrArg Host.Outcome.next
      (State.ethReady_stages hq hu hen hroom hk hd hflags hmin hmax hread hw hprp hone)
  case start =>
    exact fun s u n f hu hen hlink hserves htest hquiet hpause hidle hpick hsrc => congrArg Host.Outcome.next
      (State.ethStart_picked hu hen hlink hserves htest hquiet hpause hidle hpick hsrc)
  case sent =>
    rintro s u n f rfl hfind hsrc hptp hloop
    have hdone : s.ethDone n none = (s.ethCredits n).ethOut n none f := by simp only [State.ethDone, hfind]
    exact congrArg Host.Outcome.next (hdone.trans (State.ethOut_own hsrc hptp hloop))
  case badFcs =>
    intro s n t d x e hon hloop
    rw [execEthRxFrame_line hloop hon, State.ethReceive_badFcs]
  case runt =>
    intro s n t d x e hon hloop hd
    rw [execEthRxFrame_line hloop hon, State.ethReceive_runt s n t x e hd]
  case good =>
    intro s n t d hon hloop hprp hmin hmax
    rw [execEthRxFrame_line hloop hon, execEthRxFrame_line hloop hon, State.ethReceive_good hprp hmin hmax,
      State.ethReceive_good hprp hmin hmax]
    exact ⟨rfl, rfl⟩
  case off =>
    intro s n t d g p x e hoff
    have hdeaf : ¬ (s.ethRxOn n && s.get (R.ETHn_CTRL.LOOP n) == 0) = true := by
      simp only [hoff, Bool.false_and, Bool.false_eq_true, not_false_eq_true]
    exact congrArg Host.Outcome.next (if_neg hdeaf)

end Sys2Proof.Machine
end

section
/-! SUPPORT.
Witnesses: concrete states and inputs that meet the hypotheses of O22 and O24. -/

namespace Sys2Proof.Machine

/-- Bay 7, which runs, owns the last bank, queue 79, the last schedule context and the last Ethernet port. -/
def lineState : State :=
  let r := 7#8 :: List.replicate 7 0#8 ++ 0x80#8 :: List.replicate 8 0#8 ++ [79#8, 0#8, 1#8] ++ List.replicate 6 0#8 ++
    [2#8, 0#8, 0#8, 0#8, 0x20#8, 0#8] ++ List.replicate 32 0#8
  { slotState with cfg := [⟨.bays, [⟨0, [r]⟩]⟩] }

/-! ### Schedule contexts -/

/-- The exclusive window of sender 7 in cycle 1 at a port and a channel. -/
def windowRow (port chan : Byte) : List Byte :=
  [3#8, 1#8, 255#8, 0#8, 0#8, 0#8, 0#8, 25#8, 0#8, 0#8, 0#8, 50#8, port, 7#8, chan, 0#8]

/-- The last context in the last of its two cycles, which holds that window and the last instant. -/
def gridCtx (port chan : Byte) : Ctx :=
  Ctx.fresh ⟨[3#8, 2#8, 0#8, 0#8, 0#8, 0#8, 0#8, 100#8, 0#8, 0#8, 0#8, 0#8], [windowRow port chan],
    [[3#8, 1#8, 3#8, 0#8, 0#8, 0#8, 0#8, 10#8]]⟩ 2

def gridState (x : Ctx) : State :=
  { lineState with port := { lineState.port with ctxs := [none, none, none, some x] } }.puts
    [(R.QDRn_POS.RUNNING 3, 1), (R.QDRn_POS.CYCLE 3, 1)]

/-- The cycle after the last one is cycle 0 of the next rotation. -/
theorem cycleStart_witness : ∃ t, exec (.cycleStart 3) (gridState (gridCtx 3 0)) = .next t ∧
    t.get (R.QDRn_POS.CYCLE 3) = 0 ∧ t.get (R.QDRn_POS.ROTATION 3) = 1 ∧ t.on (R.QDRn_IRQ_PEND.MATRIX 3) = true := by
  obtain ⟨hcycle, -⟩ := scheduleContexts
  exact ⟨_, hcycle (gridState (gridCtx 3 0)) 3 (gridCtx 3 0) (by decide) (by decide), by decide, by decide, by decide⟩

theorem cycleStart_reference_witness : ∃ t, exec (.cycleStart 3) (gridState { gridCtx 7 0 with mode := 2 }) = .next t ∧
    t.get (R.QDRn_POS.CYCLE 3) = 0 := by
  obtain ⟨-, hreference, -⟩ := scheduleContexts
  exact ⟨_, hreference (gridState { gridCtx 7 0 with mode := 2 }) _ 3 { gridCtx 7 0 with mode := 2 } (by decide) (by decide) rfl,
    by decide⟩

/-- A window of channels A and B opens on the last two Ethernet ports. -/
theorem windowStart_witness : ∃ t, exec (.windowStart 3 255 0) (gridState (gridCtx 2 2)) = .next t ∧
    (t.ctx 3).map (fun x => x.wins.map (fun v => (v.port, v.chan))) = some [(2, 0), (3, 1)] := by
  obtain ⟨-, -, hopens, -⟩ := scheduleContexts
  exact ⟨_, hopens (gridState (gridCtx 2 2)) 3 255 0 (windowRow 2 2) (by decide) (by decide), by decide⟩

/-- Cycle 1 has no window 254. -/
theorem window_undefined_witness : exec (.windowStart 3 254 1) (gridState (gridCtx 3 0)) = .next (gridState (gridCtx 3 0)) ∧
    exec (.windowEnd 3 254 1 1) (gridState (gridCtx 3 0)) = .next (gridState (gridCtx 3 0)) := by
  obtain ⟨-, -, -, hundefined, -⟩ := scheduleContexts
  exact hundefined (gridState (gridCtx 3 0)) 3 254 1 1 (by decide)

/-- The medium stays busy 1 ns beyond the end of an open window. -/
theorem windowEnd_witness : ∃ t, exec (.windowEnd 3 255 1 0) ((gridState (gridCtx 3 0)).windowStart 3 255 0) = .next t ∧
    (t.ctx 3).map (fun x => x.wins) = some [] ∧ t.on (R.QDRn_IRQ_PEND.OVERRUN 3) = true := by
  obtain ⟨-, -, -, -, hends, -⟩ := scheduleContexts
  exact ⟨_, hends ((gridState (gridCtx 3 0)).windowStart 3 255 0) _ 3 255 1 0 (windowRow 3 0) _ _ (by decide) rfl (by decide)
    (by decide) rfl rfl, by decide, by decide⟩

/-- The last instant of the last context takes over the armed pin settings of the bay. -/
theorem commonIoInstant_witness : ∃ t,
    exec (.commonIoInstant 3 3) ((gridState (gridCtx 3 0)).puts [(R.PINb_COMMIT.ARMED 7, 1), (R.PINb_CIO.CIO 7, 0xA3)]) = .next t ∧
    t.get (R.QDRn_INST_ID.INST 3) = 3 ∧ t.get (R.QDRn_INST_ID.CYCLE 3) = 1 ∧ t.on (R.PINb_COMMIT.ARMED 7) = false := by
  obtain ⟨-, -, -, -, -, hinstant, -⟩ := scheduleContexts
  exact ⟨_, hinstant ((gridState (gridCtx 3 0)).puts [(R.PINb_COMMIT.ARMED 7, 1), (R.PINb_CIO.CIO 7, 0xA3)]) _ 3 3 1
    (gridCtx 3 0) (by decide) (by decide) (by decide) (by decide) rfl (by decide), by decide +kernel, by decide +kernel,
    by decide +kernel⟩

/-- The most negative trim; its error lies beyond SYNC_LIMIT. -/
theorem trimReq_witness : ∃ t, exec (.trimReq ⟨7, 0, 0⟩ 3 0x80000000) (gridState { gridCtx 3 0 with mode := 1 }) = .next t ∧
    (t.ctx 3).map (fun x => (x.trim, x.trimming)) = some (-2147483648 * qns, true) ∧
    t.get (R.QDRn_ALIGN_ERR.NS 3) = 0x80000000 ∧ t.on (R.QDRn_IRQ_PEND.ALIGN 3) = true := by
  obtain ⟨-, -, -, -, -, -, htrim, -⟩ := scheduleContexts
  exact ⟨_, htrim (gridState { gridCtx 3 0 with mode := 1 }) ⟨7, 0, 0⟩ 3 0x80000000 { gridCtx 3 0 with mode := 1 } (by decide)
    (by decide) (by decide) (by decide), by decide, by decide, by decide⟩

theorem trimReq_ignored_witness :
    exec (.trimReq ⟨7, 0, 0⟩ 3 0x80000000) (gridState (gridCtx 3 0)) = .next (gridState (gridCtx 3 0)) := by
  obtain ⟨-, -, -, -, -, -, -, hignored, -⟩ := scheduleContexts
  exact hignored (gridState (gridCtx 3 0)) ⟨7, 0, 0⟩ 3 0x80000000 (gridCtx 3 0) (by decide) (by decide) (by decide) (by decide)

/-- One unit of a trim is left. -/
theorem trimDone_witness : ∃ t, exec (.trimDone 3) (gridState { gridCtx 3 0 with ofs := qns, trim := -1, trimming := true }) =
    .next t ∧ (t.ctx 3).map (fun x => x.ofs) = some (qns - 1) ∧ t.on (R.QDRn_IRQ_PEND.TRIM_DONE 3) = true := by
  obtain ⟨-, -, -, -, -, -, -, -, hdone⟩ := scheduleContexts
  exact ⟨_, hdone (gridState { gridCtx 3 0 with ofs := qns, trim := -1, trimming := true }) 3
    { gridCtx 3 0 with ofs := qns, trim := -1, trimming := true } (by decide) (by decide), by decide, by decide⟩

/-! ### Ethernet frames -/

/-- The last Ethernet port is enabled, and its link is up at 10 Gbit/s. -/
def portState : State := lineState.puts [(R.ETHn_CTRL.EN 3, 1), (R.ETHn_STATUS.LINK 3, 1), (R.ETHn_STATUS.SPEED 3, 3)]

/-- A descriptor of the shortest frame, which ends the last bank. -/
def frameDesc (taken : Bool) : Desc :=
  { idx := 0xFFFF, bytes := [0xF2#8, 0xFF#8, 0x7F#8, 0x10#8, 0#8, 0#8, 14#8] ++ List.replicate 25 0#8, peer := none,
    committed := false, abortLate := false, taken := taken, final := none }

/-- A state with that descriptor at the front of TX queue 7. -/
def descState (taken : Bool) : State := portState.putEnd 79 0 { QEnd.empty with inflight := [frameDesc taken] }

/-- The frame of that descriptor in transmit memory. -/
def descFrame : EthFrame := ⟨7, 3, 0xFFFF, 0, false, List.replicate 60 0#8, false, false, none, none⟩

theorem ethFrameReady_witness : ∃ t, exec (.ethFrameReady 3 7 none) (descState false) = .next t ∧
    (t.ethAt 3).staged = [descFrame] ∧ t.get (R.ETHn_TXQk_CTRL.STAGED 3 7) = 1 := by
  obtain ⟨hready, -⟩ := ethernetFrames
  exact ⟨_, hready (descState false) _ _ _ 3 7 79 (frameDesc false) (List.replicate 14 0#8) rfl rfl (by decide) (by decide)
    (by decide) (by decide) (by decide) (by decide) (by decide) rfl rfl (by decide) (by decide), by decide, by decide⟩

theorem ethTxFrameStart_witness : ∃ t,
    exec (.ethTxFrameStart 3) ((descState true).modEth 3 (fun x => { x with staged := [descFrame] })) = .next t ∧
    (t.ethAt 3).staged = [{ descFrame with start := some 0 }] ∧ (t.qEnd 79 0).inflight.map (fun d => d.committed) = [true] := by
  obtain ⟨-, hstart, -⟩ := ethernetFrames
  exact ⟨_, hstart ((descState true).modEth 3 (fun x => { x with staged := [descFrame] })) _ 3 descFrame rfl (by decide)
    (by decide) (by decide) (by decide) (by decide) (by decide) (by decide) (by decide) (by decide), by decide, by decide⟩

/-- A frame of the port's own is on the line. -/
def sentState : State :=
  portState.modEth 3 (fun x => { x with staged := [⟨0, 4, 0, 0, true, List.replicate 60 0#8, false, false, some 0, none⟩] })

theorem ethTxFrameDone_witness : ∃ t, exec (.ethTxFrameDone 3 none) sentState = .next t ∧
    (t.ethAt 3).staged = [] ∧ t.get (R.ETHn_TX_FRAMES.COUNT 3) = 1 ∧ t.get (R.ETHn_TX_OCTETS.COUNT 3) = 64 := by
  obtain ⟨-, -, hsent, -⟩ := ethernetFrames
  exact ⟨_, hsent sentState _ 3 ⟨0, 4, 0, 0, true, List.replicate 60 0#8, false, false, some 0, none⟩ rfl (by decide) (by decide)
    (by decide) (by decide), by decide, by decide, by decide⟩

theorem ethRxFrame_badFcs_witness : ∃ t,
    exec (.ethRxFrame 3 (List.replicate 64 0#8) 0 false false false none) portState = .next t ∧
    t.get (R.ETHn_RX_FCS_ERR.COUNT 3) = 1 ∧ (t.ethAt 3).rxErrs = 1 := by
  obtain ⟨-, -, -, hbad, -⟩ := ethernetFrames
  exact ⟨_, hbad portState 3 0 (List.replicate 64 0#8) false none (by decide) (by decide), by decide, by decide⟩

/-- The longest runt, while the receive memory is full. -/
theorem ethRxFrame_runt_witness : ∃ t, exec (.ethRxFrame 3 (List.replicate 63 0#8) 0 true false true none) portState =
    .next t ∧ t.get (R.ETHn_RX_RUNT.COUNT 3) = 1 ∧ t.get (R.ETHn_RX_NOBUF.COUNT 3) = 0 := by
  obtain ⟨-, -, -, -, hrunt, -⟩ := ethernetFrames
  exact ⟨_, hrunt portState 3 0 (List.replicate 63 0#8) true none (by decide) (by decide) (by decide), by decide, by decide⟩

/-- The shortest frame finds no room. -/
theorem ethRxFrame_noBuf_witness : ∃ t, exec (.ethRxFrame 3 (List.replicate 64 0#8) 0 true false true none) portState =
    .next t ∧ t.get (R.ETHn_RX_NOBUF.COUNT 3) = 1 := by
  obtain ⟨-, -, -, -, -, hgood, -⟩ := ethernetFrames
  obtain ⟨hfull, -⟩ := hgood portState 3 0 (List.replicate 64 0#8) (by decide) (by decide) (by decide) (by decide) (by decide)
  exact ⟨_, hfull, by decide⟩

/-- The longest frame, which no rule of the port takes. -/
theorem ethRxFrame_good_witness : ∃ t, exec (.ethRxFrame 3 (List.replicate 1522 0#8) 0 true false false none) portState =
    .next t ∧ t.get (R.ETHn_RX_OCTETS.COUNT 3) = 1522 ∧ t.get (R.ETHn_RX_FILTERED.COUNT 3) = 1 := by
  obtain ⟨-, -, -, -, -, hgood, -⟩ := ethernetFrames
  have hmin : 64 ≤ (List.replicate 1522 0#8).length := by rw [List.length_replicate]; decide
  have hmax : (List.replicate 1522 0#8).length ≤ portState.ethMax 3 := by rw [List.length_replicate]; decide
  obtain ⟨-, hroom⟩ := hgood portState 3 0 (List.replicate 1522 0#8) (by decide) (by decide) (by decide) hmin hmax
  exact ⟨_, hroom, by decide +kernel, by decide +kernel⟩

/-- Without EN nothing is received. -/
theorem ethRxFrame_off_witness : exec (.ethRxFrame 3 [] 0 false true false none) lineState = .next lineState := by
  obtain ⟨-, -, -, -, -, -, hoff⟩ := ethernetFrames
  exact hoff lineState 3 0 [] false true false none (by decide)

end Sys2Proof.Machine
end

section
/-! SUPPORT.
Ethernet links, MDIO and the event FIFO (O23). -/

namespace Sys2Proof.Machine

/-! ### Writes to a port (R293) -/

/-- While no engine to which the port is attached runs, a write by the port's owner acts. -/
theorem State.byPort_free {s : State} {i : Init} {p k : Nat} (hg : s.grants i (s.holds i p) = true)
    (hfree : s.portEngine k = none) (addr : Nat) (f : State → State) : s.byPort i p k addr f = f s := by
  rw [State.byPort, State.byOwner, State.act_grants hg, hfree]

/-- While such an engine runs, a write by anyone else is ignored. -/
theorem State.byPort_attached {s : State} {i : Init} {p k e : Nat} (hg : s.grants i (s.holds i p) = true)
    (he : s.portEngine k = some e) (hother : i.kind ≠ 1 ∨ i.inst ≠ e) (addr : Nat) (f : State → State) :
    s.byPort i p k addr f = s := by
  have hnot : ¬ (i.kind = 1 ∧ i.inst = e) := fun ⟨hk, hi⟩ => hother.elim (· hk) (· hi)
  rw [State.byPort, State.byOwner, State.act_grants hg, he]
  exact if_neg hnot

/-- A write of 1 to EN of a port that ETH_MODE enables starts link acquisition (R504). -/
theorem State.ethEn_enables {s : State} {n : Nat} (hmode : s.ethMode n ≠ 0) :
    s.ethEn n true = s.flag (R.ETHn_CTRL.EN n) true := by
  rw [State.ethEn, if_neg hmode, if_pos rfl]

/-! ### The link (R468, R498) -/

/-- A link that is where it is told to go does not change. -/
theorem State.ethLink_same {s : State} {n : Nat} {up : Bool} (h : s.on (R.ETHn_STATUS.LINK n) = up) (k : Nat) :
    s.ethLink n up k = s := if_pos h

/-- The link of an MII port comes up at the rate that SPEED_SEL selects, RMII at 100 Mbit/s at most. -/
theorem State.ethLink_rises {s u : State} {n : Nat} (hn : 2 ≤ n) (hdown : s.on (R.ETHn_STATUS.LINK n) = false)
    (hsel : s.get (R.ETHn_CTRL.SPEED_SEL n) ≠ 3) (hu : u = s.ethCredits n) (k : Nat) : s.ethLink n true k =
      (((u.flag (R.ETHn_STATUS.LINK n) true).flag (R.ETHn_IRQ_PEND.LINK_CHG n) true).put (R.ETHn_STATUS.SPEED n)
        (if s.ethMode n = 2 then min (s.get (R.ETHn_CTRL.SPEED_SEL n)) 1 else s.get (R.ETHn_CTRL.SPEED_SEL n))).ethHeads n := by
  simp only [State.ethLink, hdown, Bool.false_eq_true, ↓reduceIte, if_neg (Nat.not_lt.mpr hn), if_neg hsel, ← hu]

/-- On an enabled MII port a link that comes up is taken. -/
theorem execEthLinkChange_rises {s : State} {n : Nat} (hn : 2 ≤ n) (hen : s.on (R.ETHn_CTRL.EN n) = true) (k : Nat) :
    exec (.ethLinkChange n true k) s = .next (s.ethLink n true k) := by
  have htaken : ¬ (true && (!(s.on (R.ETHn_CTRL.EN n)) || (decide (n < 2) && s.laneTest n))) = true := by
    simp only [hen, Nat.not_lt.mpr hn, decide_false, Bool.not_true, Bool.false_and, Bool.or_self, Bool.and_false,
      Bool.false_eq_true, not_false_eq_true]
  exact congrArg Host.Outcome.next (if_neg htaken)

/-- A poll that finds the link of an MII port lost takes it down and reports the register read. -/
theorem execPhyPoll_lost {s u : State} {n r : Nat} (hn : 2 ≤ n) (hen : s.on (R.ETHn_CTRL.EN n) = true)
    (hpoll : s.get (R.ETHn_PHY_POLL.POLL_MS n) ≠ 0) (hlink : s.on (R.ETHn_STATUS.LINK n) = true) (hr : r.testBit 2 = false)
    (hu : u = s.ethLink n false (s.get (R.ETHn_STATUS.SPEED n))) :
    exec (.phyPoll n r) s = .next (u.report (u.ethBay n) 0x2403 n (r % 65536)) := by
  have hpolls : ¬ (n < 2 ∨ s.on (R.ETHn_CTRL.EN n) = false ∨ s.get (R.ETHn_PHY_POLL.POLL_MS n) = 0) := by
    simp only [hen, hpoll, Nat.not_lt.mpr hn, Bool.true_eq_false, or_self, not_false_eq_true]
  simp only [exec, execPhyPoll, if_neg hpolls, hr, hlink, ← hu, Bool.not_false, Bool.and_self, ↓reduceIte, answer]

/-- Lost block lock on a lane port whose link is up takes it down and is reported. -/
theorem execBlockLockLoss_linked {s u : State} {n : Nat} (hn : n < 2) (hlink : s.on (R.ETHn_STATUS.LINK n) = true)
    (hu : u = s.ethLink n false 0) : exec (.blockLockLoss n) s = .next (u.report (s.ethBay n) 0x2402 n n) := by
  have hlost : (decide (n < 2) && s.on (R.ETHn_STATUS.LINK n)) = true := by rw [decide_eq_true hn, hlink, Bool.and_self]
  subst hu
  exact congrArg Host.Outcome.next (if_pos hlost)

/-! ### MDIO (R469) -/

/-- GO on an MII port that is not BUSY starts a frame with the fields written. -/
theorem State.mdioGo_idle {s u : State} {n p r o w : Nat} (hn : 2 ≤ n)
    (hu : u = (((s.put (R.ETHn_MDIO_CMD.PHY n) p).put (R.ETHn_MDIO_CMD.REG n) r).put (R.ETHn_MDIO_CMD.OP n) o).put
      (R.ETHn_MDIO_CMD.WDATA n) w) (hidle : u.on (R.ETHn_MDIO_STAT.BUSY n) = false) : s.mdioGo n p r o w =
      (u.modEth n (fun x => { x with mdio := true })).flag (R.ETHn_MDIO_STAT.BUSY n) true := by
  have hstarts : ¬ (n < 2 ∨ u.on (R.ETHn_MDIO_STAT.BUSY n) = true) := by
    simp only [hidle, Nat.not_lt.mpr hn, Bool.false_eq_true, or_self, not_false_eq_true]
  simp only [State.mdioGo, ← hu, if_neg hstarts]

/-- The end of a read, of clause 22 or 45, clears BUSY and gives the data. -/
theorem execMdioDone_read {s : State} {n : Nat} (hbusy : (s.ethAt n).mdio = true)
    (hop : s.get (R.ETHn_MDIO_CMD.OP n) = 0 ∨ s.get (R.ETHn_MDIO_CMD.OP n) = 4) (d : Nat) : exec (.mdioDone n d) s =
      .next (((s.modEth n (fun x => { x with mdio := false })).flag (R.ETHn_MDIO_STAT.BUSY n) false).put
        (R.ETHn_MDIO_STAT.RDATA n) d) := by
  simp only [exec, execMdioDone, hbusy, Bool.true_eq_false, if_pos hop, ↓reduceIte, answer]

/-! ### The event FIFO (R483) -/

/-- A read of PTPF_INFO by the port's owner answers the register and pops the oldest entry. -/
theorem execEthnPtpfInfo_grants {s u : State} {i : Init} {n : Nat} (hg : s.grants i (s.holds i (10 + n)) = true)
    (hu : u = s.reply [s.word (R.ETHn_PTPF_INFO.SEQ_ID n)]) : exec (.ethnPtpfInfo i n) s =
      .next ((u.modEth n (fun x => { x with ptp := x.ptp.drop 1 })).showPtp n) := by
  subst hu
  exact congrArg Host.Outcome.next (State.act_grants (s := s.reply1 0) hg 0x0C02 _ false _)

/-- Settles O23: a write acts where the port is open to its writer, and a link changes by what its source reports. -/
theorem ethernetLinks : Obligations.EthernetLinks := by
  refine ⟨?enables, ?acts, ?attached, ?rises, ?stays, ?polled, ?mdioStarts, ?mdioEnds, ?pops, ?lockLost⟩
  case enables =>
    exact fun s i n hg hfree hmode =>
      congrArg Host.Outcome.next ((State.byPort_free hg hfree _ _).trans (State.ethEn_enables hmode))
  case acts => exact fun s i n v hg hfree => congrArg Host.Outcome.next (State.byPort_free hg hfree _ _)
  case attached =>
    exact fun s i n e v hg he hother => congrArg Host.Outcome.next (State.byPort_attached hg he hother _ _)
  case rises =>
    intro s u n k hn hen hdown hmode hsel hu
    have hfixed : s.get (R.ETHn_CTRL.SPEED_SEL n) ≠ 3 := by rw [hsel]; decide
    rw [execEthLinkChange_rises hn hen, State.ethLink_rises hn hdown hfixed hu, hmode, hsel]
    rfl
  case stays => exact fun s n k hdown => congrArg Host.Outcome.next (State.ethLink_same hdown k)
  case polled => exact fun s u n r hn hen hpoll hlink hr hu => execPhyPoll_lost hn hen hpoll hlink hr hu
  case mdioStarts =>
    exact fun s u i n p r o w hg hfree hn hu hidle =>
      congrArg Host.Outcome.next ((State.byPort_free hg hfree _ _).trans (State.mdioGo_idle hn hu hidle))
  case mdioEnds => exact fun s n d hbusy hop => execMdioDone_read hbusy (.inl hop) d
  case pops => exact fun s u i n hg hu => execEthnPtpfInfo_grants hg hu
  case lockLost => exact fun s u n hn hlink hu => execBlockLockLoss_linked hn hlink hu

end Sys2Proof.Machine
end

section
/-! SUPPORT.
The PRP table and the intervals of a port (O25). -/

namespace Sys2Proof.Machine

/-- An entry of the table expires; one seen on one LAN only counts as missing on the other (R488). -/
theorem execPrpEntryExpiry_some {s u : State} {n a q : Nat} {x : PrpEntry}
    (hx : (s.ethAt n).prp.find? (fun x => x.sa == a && x.seq == q) = some x)
    (hu : u = s.modEth n (fun y => { y with prp := y.prp.filter (fun z => !(z.sa == a && z.seq == q)) })) :
    exec (.prpEntryExpiry n a q) s = .next (
      if x.lans = 1 then (u.modEth n (fun y => { y with missB := y.missB + 1 })).inc (R.ETHn_PRP_MISS_B.COUNT n)
      else if x.lans = 2 then (u.modEth n (fun y => { y with missA := y.missA + 1 })).inc (R.ETHn_PRP_MISS_A.COUNT n) else u) := by
  simp only [exec, execPrpEntryExpiry, hx, ← hu, answer]

/-- The miss interval of a pair judges the counts of both LANs, which start again at 0 (R488). -/
theorem execPrpMissInterval_paired {s : State} {n : Nat} (hprp : s.on (R.ETHn_PRP_CTRL.PRP_EN n) = true) :
    exec (.prpMissInterval n) s = .next (((s.modEth n (fun y => { y with missA := 0, missB := 0 })).prpMiss n 0
      (s.ethAt n).missA).prpMiss n 1 (s.ethAt n).missB) :=
  congrArg Host.Outcome.next (if_pos hprp)

/-- A supervised pair that is enabled sends a supervision frame, with its trailer, on both LANs (R485, R489). -/
theorem execPrpSupervisionSend_supervised {s u : State} {n q : Nat} {l : List Byte}
    (hprp : s.on (R.ETHn_PRP_CTRL.PRP_EN n) = true) (hsup : s.on (R.ETHn_PRP_CTRL.SUP_EN n) = true)
    (hen : s.on (R.ETHn_CTRL.EN n) = true) (hq : q = (s.ethAt n).prpSeq) (hl : l = s.supFrame n q)
    (hu : u = s.modEth n (fun x => { x with prpSeq := (q + 1) % 65536 })) : exec (.prpSupervisionSend n) s =
      .next ((u.ethStage n ⟨0, 4, q, 0, true, l ++ prpTrailer q 0 l, false, false, none, none⟩).ethStage (n + 1)
        ⟨0, 4, q, 0, true, l ++ prpTrailer q 1 l, false, false, none, none⟩) := by
  have hsends : (s.on (R.ETHn_PRP_CTRL.PRP_EN n) && s.on (R.ETHn_PRP_CTRL.SUP_EN n) && s.on (R.ETHn_CTRL.EN n)) = true := by
    rw [hprp, hsup, hen, Bool.and_self, Bool.and_self]
  subst hq hl hu
  exact congrArg Host.Outcome.next (if_pos hsends)

/-- An FCS interval starts again, and one with more than one error in a million frames is reported (R498). -/
theorem execFcsErrorInterval_eq {s u : State} {n : Nat} (hu : u = s.modEth n (fun y => { y with rxFrames := 0, rxErrs := 0 })) :
    exec (.fcsErrorInterval n) s = .next (if (s.ethAt n).rxFrames < 1000000 * (s.ethAt n).rxErrs then
      (u.flag (R.ETHn_IRQ_PEND.FCS_HIGH n) true).report (u.ethBay n) 0x2401 n (s.ethAt n).rxErrs else u) := by
  subst hu
  rfl

/-- Settles O25: an entry's end counts by the LANs that saw it, and each interval judges what was counted in it. -/
theorem ethernetIntervals : Obligations.EthernetIntervals := by
  refine ⟨?expiry, ?misses, ?supervision, ?fcs⟩
  case expiry => exact fun s u n a q x hx hu => execPrpEntryExpiry_some hx hu
  case misses => exact fun s n hprp => execPrpMissInterval_paired hprp
  case supervision => exact fun s u n q l hprp hsup hen hq hl hu => execPrpSupervisionSend_supervised hprp hsup hen hq hl hu
  case fcs => exact fun s u n hu => execFcsErrorInterval_eq hu

end Sys2Proof.Machine
end

section
/-! SUPPORT.
Witnesses: concrete states and inputs that meet the hypotheses of O23 and O25. -/

namespace Sys2Proof.Machine

/-- Bay 7, which runs, owns every Ethernet port; ETH0 and ETH1 run 10GBASE-R, ETH2 and ETH3 RMII. -/
def mediaState : State :=
  let r := 7#8 :: List.replicate 29 0#8 ++ [0x3C#8, 0#8] ++ List.replicate 32 0#8
  { slotState with cfg := [⟨.sys, [⟨0, [List.replicate 5 0#8 ++ [0xA5#8]]⟩]⟩, ⟨.bays, [⟨0, [r]⟩]⟩] }

/-- The causes that a bay has been notified of, with RESOURCE and DETAIL. -/
def State.notified (s : State) (b : Nat) : List (Nat × Nat × Nat) :=
  (s.flt.notes.getD b []).map (fun x => (x.cause, x.res, x.detail))

/-- The causes whose retests wait, with RESOURCE. -/
def State.retestsDue (s : State) : List (Nat × Nat) := s.flt.waiting.map (fun x => (x.cause, x.res))

/-! ### Enable -/

/-- The last engine runs and has the last port attached. -/
def attachedState : State := mediaState.puts [(R.REELn_STATE.STATE 11, 5), (R.REELn_CFG.PORTS 11, 8)]

theorem ethEn_enables_witness : ∃ t, exec (.ethEn ⟨7, 0, 0⟩ 3 true) mediaState = .next t ∧
    t.on (R.ETHn_CTRL.EN 3) = true := by
  obtain ⟨henables, -⟩ := ethernetLinks
  exact ⟨_, henables mediaState ⟨7, 0, 0⟩ 3 (by decide) (by decide) (by decide), by decide⟩

/-- The link of a port switched off goes down. -/
theorem ethEn_acts_witness : ∃ t,
    exec (.ethEn ⟨7, 0, 0⟩ 3 false) (mediaState.puts [(R.ETHn_CTRL.EN 3, 1), (R.ETHn_STATUS.LINK 3, 1)]) = .next t ∧
    t.on (R.ETHn_CTRL.EN 3) = false ∧ t.on (R.ETHn_STATUS.LINK 3) = false ∧ t.on (R.ETHn_IRQ_PEND.LINK_CHG 3) = true := by
  obtain ⟨-, hacts, -⟩ := ethernetLinks
  exact ⟨_, hacts (mediaState.puts [(R.ETHn_CTRL.EN 3, 1), (R.ETHn_STATUS.LINK 3, 1)]) ⟨7, 0, 0⟩ 3 false (by decide) (by decide),
    by decide, by decide, by decide⟩

/-- A core's write, and that of another engine of the bay, to an attached port. -/
theorem ethEn_attached_witness : exec (.ethEn ⟨7, 0, 0⟩ 3 true) attachedState = .next attachedState ∧
    exec (.ethEn ⟨7, 1, 10⟩ 3 true) attachedState = .next attachedState := by
  obtain ⟨-, -, hattached, -⟩ := ethernetLinks
  exact ⟨hattached attachedState ⟨7, 0, 0⟩ 3 11 true (by decide) (by decide) (by decide),
    hattached attachedState ⟨7, 1, 10⟩ 3 11 true (by decide) (by decide) (by decide)⟩

/-! ### Links -/

/-- The last port is enabled at 100 Mbit/s. -/
def riseState : State := mediaState.puts [(R.ETHn_CTRL.EN 3, 1), (R.ETHn_CTRL.SPEED_SEL 3, 1)]

theorem ethLinkChange_rises_witness : ∃ t, exec (.ethLinkChange 3 true 0) riseState = .next t ∧
    t.on (R.ETHn_STATUS.LINK 3) = true ∧ t.on (R.ETHn_IRQ_PEND.LINK_CHG 3) = true ∧ t.get (R.ETHn_STATUS.SPEED 3) = 1 := by
  obtain ⟨-, -, -, hrises, -⟩ := ethernetLinks
  exact ⟨_, hrises riseState _ 3 0 (by decide) (by decide) (by decide) (by decide) (by decide) rfl, by decide, by decide,
    by decide⟩

theorem ethLinkChange_stays_witness : exec (.ethLinkChange 3 false 0) riseState = .next riseState := by
  obtain ⟨-, -, -, -, hstays, -⟩ := ethernetLinks
  exact hstays riseState 3 0 (by decide)

/-- Every bit of register 1 but the link's. -/
theorem phyPoll_witness : ∃ t, exec (.phyPoll 3 0xFFFB) (riseState.put (R.ETHn_STATUS.LINK 3) 1) = .next t ∧
    t.on (R.ETHn_STATUS.LINK 3) = false ∧ t.notified 7 = [(0x2403, 3, 0xFFFB)] := by
  obtain ⟨-, -, -, -, -, hpolled, -⟩ := ethernetLinks
  exact ⟨_, hpolled (riseState.put (R.ETHn_STATUS.LINK 3) 1) _ 3 0xFFFB (by decide) (by decide) (by decide) (by decide)
    (by decide) rfl, by decide, by decide⟩

theorem blockLockLoss_witness : ∃ t, exec (.blockLockLoss 1) (mediaState.put (R.ETHn_STATUS.LINK 1) 1) = .next t ∧
    t.on (R.ETHn_STATUS.LINK 1) = false ∧ t.retestsDue = [(0x2402, 1)] := by
  obtain ⟨-, -, -, -, -, -, -, -, -, hlost⟩ := ethernetLinks
  exact ⟨_, hlost (mediaState.put (R.ETHn_STATUS.LINK 1) 1) _ 1 (by decide) (by decide) rfl, by decide, by decide⟩

/-! ### MDIO and the event FIFO -/

/-- A clause 45 read, every field at its greatest value. -/
theorem mdioGo_witness : ∃ t, exec (.mdioGo ⟨7, 0, 0⟩ 3 31 31 4 0xFFFF) mediaState = .next t ∧
    (t.ethAt 3).mdio = true ∧ t.on (R.ETHn_MDIO_STAT.BUSY 3) = true ∧ t.get (R.ETHn_MDIO_CMD.REG 3) = 31 := by
  obtain ⟨-, -, -, -, -, -, hgo, -⟩ := ethernetLinks
  exact ⟨_, hgo mediaState _ ⟨7, 0, 0⟩ 3 31 31 4 0xFFFF (by decide) (by decide) (by decide) rfl (by decide), by decide, by decide,
    by decide⟩

theorem mdioDone_witness : ∃ t, exec (.mdioDone 3 0xFFFF)
      ((mediaState.modEth 3 (fun x => { x with mdio := true })).put (R.ETHn_MDIO_STAT.BUSY 3) 1) = .next t ∧
    t.on (R.ETHn_MDIO_STAT.BUSY 3) = false ∧ t.get (R.ETHn_MDIO_STAT.RDATA 3) = 0xFFFF := by
  obtain ⟨-, -, -, -, -, -, -, hdone, -⟩ := ethernetLinks
  exact ⟨_, hdone ((mediaState.modEth 3 (fun x => { x with mdio := true })).put (R.ETHn_MDIO_STAT.BUSY 3) 1) 3 0xFFFF (by decide)
    (by decide), by decide, by decide⟩

/-- The event FIFO is full; its entries have rising sequence numbers. -/
def fifoState : State :=
  (mediaState.modEth 3 (fun x => { x with ptp := (List.range 32).map (fun k => ⟨k, k + 1, 0, 1, 0⟩) })).showPtp 3

theorem ethnPtpfInfo_witness : ∃ t, exec (.ethnPtpfInfo ⟨7, 0, 0⟩ 3) fifoState = .next t ∧
    t.answer = [0x100001#32] ∧ t.get (R.ETHn_PTPF_STAT.COUNT 3) = 31 ∧ t.get (R.ETHn_PTPF_INFO.SEQ_ID 3) = 2 := by
  obtain ⟨-, -, -, -, -, -, -, -, hpops, -⟩ := ethernetLinks
  exact ⟨_, hpops fifoState _ ⟨7, 0, 0⟩ 3 (by decide) rfl, by decide, by decide, by decide⟩

/-! ### The pair -/

/-- The pair of ETH2 and ETH3, with the last sequence number next and one entry that has been seen on some LANs. -/
def prpState (lans : Nat) : State :=
  (mediaState.puts [(R.ETHn_CTRL.EN 2, 1), (R.ETHn_PRP_CTRL.PRP_EN 2, 1), (R.ETHn_PRP_CTRL.SUP_EN 2, 1)]).modEth 2
    (fun x => { x with prp := [⟨2 ^ 48 - 1, 65535, lans, 0⟩], prpSeq := 65535 })

/-- One entry for each outcome of the clause. -/
theorem prpEntryExpiry_witness : ∃ t u v, exec (.prpEntryExpiry 2 (2 ^ 48 - 1) 65535) (prpState 1) = .next t ∧
    exec (.prpEntryExpiry 2 (2 ^ 48 - 1) 65535) (prpState 2) = .next u ∧
    exec (.prpEntryExpiry 2 (2 ^ 48 - 1) 65535) (prpState 3) = .next v ∧
    (t.ethAt 2).prp = [] ∧ (t.get (R.ETHn_PRP_MISS_A.COUNT 2), t.get (R.ETHn_PRP_MISS_B.COUNT 2)) = (0, 1) ∧
    (u.ethAt 2).prp = [] ∧ (u.get (R.ETHn_PRP_MISS_A.COUNT 2), u.get (R.ETHn_PRP_MISS_B.COUNT 2)) = (1, 0) ∧
    (v.ethAt 2).prp = [] ∧ (v.get (R.ETHn_PRP_MISS_A.COUNT 2), v.get (R.ETHn_PRP_MISS_B.COUNT 2)) = (0, 0) := by
  obtain ⟨hexpiry, -⟩ := ethernetIntervals
  have hends := fun k hk => hexpiry (prpState k) _ 2 (2 ^ 48 - 1) 65535 ⟨2 ^ 48 - 1, 65535, k, 0⟩ hk rfl
  exact ⟨_, _, _, hends 1 (by decide), hends 2 (by decide), hends 3 (by decide), by decide, by decide, by decide, by decide,
    by decide, by decide⟩

/-- LAN A misses one frame less than MISS_LIMIT, LAN B as many. -/
theorem prpMissInterval_witness : ∃ t,
    exec (.prpMissInterval 2) ((prpState 3).modEth 2 (fun x => { x with missA := 15, missB := 16 })) = .next t ∧
    ((t.ethAt 2).missA, (t.ethAt 2).missB) = (0, 0) ∧ t.on (R.ETHn_IRQ_PEND.PRP_MISS 2) = true ∧
    t.notified 7 = [(0x2405, 2, 0x100001)] := by
  obtain ⟨-, hmisses, -⟩ := ethernetIntervals
  exact ⟨_, hmisses ((prpState 3).modEth 2 (fun x => { x with missA := 15, missB := 16 })) 2 (by decide), by decide, by decide,
    by decide⟩

/-- The sequence number wraps; the copies differ in LanId. -/
theorem prpSupervisionSend_witness : ∃ t, exec (.prpSupervisionSend 2) (prpState 3) = .next t ∧ (t.ethAt 2).prpSeq = 0 ∧
    (t.ethAt 2).staged.map (fun f => f.data.drop 60) = [[0xFF#8, 0xFF#8, 0xA0#8, 0x34#8, 0x88#8, 0xFB#8]] ∧
    (t.ethAt 3).staged.map (fun f => f.data.drop 60) = [[0xFF#8, 0xFF#8, 0xB0#8, 0x34#8, 0x88#8, 0xFB#8]] := by
  obtain ⟨-, -, hsup, -⟩ := ethernetIntervals
  exact ⟨_, hsup (prpState 3) _ 2 65535 _ (by decide) (by decide) (by decide) (by decide) rfl rfl, by decide, by decide, by decide⟩

/-- One error in fewer than a million frames, and in as many. -/
theorem fcsErrorInterval_witness : ∃ t u,
    exec (.fcsErrorInterval 3) (mediaState.modEth 3 (fun x => { x with rxFrames := 999999, rxErrs := 1 })) = .next t ∧
    exec (.fcsErrorInterval 3) (mediaState.modEth 3 (fun x => { x with rxFrames := 1000000, rxErrs := 1 })) = .next u ∧
    t.on (R.ETHn_IRQ_PEND.FCS_HIGH 3) = true ∧ t.retestsDue = [(0x2401, 3)] ∧ (t.ethAt 3).rxErrs = 0 ∧
    u.on (R.ETHn_IRQ_PEND.FCS_HIGH 3) = false ∧ u.retestsDue = [] ∧ (u.ethAt 3).rxFrames = 0 := by
  obtain ⟨-, -, -, hfcs⟩ := ethernetIntervals
  have hends := fun k => hfcs (mediaState.modEth 3 (fun x => { x with rxFrames := k, rxErrs := 1 })) _ 3 rfl
  exact ⟨_, _, hends 999999, hends 1000000, by decide, by decide, by decide, by decide, by decide, by decide⟩

end Sys2Proof.Machine
end

section
/-! SUPPORT.
The state on which the witnesses of O26 to O46 stand. -/

namespace Sys2Proof.Machine

/-- Bay 7 owns every peripheral; bays 0 and 7 run.  The state is in the form that every step keeps (O49). -/
def blockCanon : { s : State // s.canon = true } :=
  let r := 7#8 :: List.replicate 23 0#8 ++ List.replicate 8 0xFF#8 ++ List.replicate 32 0#8
  ⟨{ slotState with cfg := [⟨.bays, [⟨0, [r]⟩]⟩] }.put (R.BAYn_STATE.STATE 0) 2, by decide +kernel⟩

def blockState : State := blockCanon.val

end Sys2Proof.Machine
end

section
/-! SUPPORT.
CAN controllers and their frames (O26, O27). -/

namespace Sys2Proof.Machine

/-! ### Masks of one bit -/

/-- A mask of one bit names that index alone, where no other condition holds it back. -/
theorem indices_two_pow {n b : Nat} (hb : b < n) {p : Nat → Bool} (hp : ∀ k, p k = true) :
    indices n (fun k => (2 ^ b).testBit k && p k) = [b] := by
  have hbit : (fun k => (2 ^ b).testBit k && p k) = (fun k => k == b) := by
    funext k
    rw [hp, Bool.and_true, Nat.testBit_two_pow]
    exact decide_eq_decide.mpr eq_comm
  rw [indices, hbit, List.filter_beq, List.count_range, if_pos hb, List.replicate_one]

/-! ### Enable (R507, R509, R529) -/

/-- EN with a bit timing that R509 refuses leaves the controller off. -/
theorem State.canEn_refused {s : State} {n : Nat} (htwin : s.canTwin n = false) (hbad : s.timingBad n = true) :
    s.canEn n true = (s.flag (R.CANn_CTRL.EN n) false).flag (R.CANn_STATUS.TIMING_ERR n) true := by
  simp only [State.canEn, htwin, hbad, Bool.false_and, Bool.false_eq_true, ↓reduceIte]

/-- EN of a controller that is off, with a bit timing that is allowed, joins the bus. -/
theorem State.canEn_joins {s : State} {n : Nat} (htwin : s.canTwin n = false) (hgood : s.timingBad n = false)
    (hoff : s.on (R.CANn_CTRL.EN n) = false) : s.canEn n true =
      ((s.flag (R.CANn_CTRL.EN n) true).flag (R.CANn_STATUS.TIMING_ERR n) false).modCan n (fun x => { x with joining := true }) := by
  simp only [State.canEn, htwin, hgood, hoff, Bool.false_and, Bool.false_eq_true, ↓reduceIte]
  rfl

/-- RECOVER in bus-off is held until the verdict on 0x2802, and then begins recovery. -/
theorem State.canRecoverReq_busOff {s : State} {n : Nat} (hoff : s.get (R.CANn_STATUS.STATE n) = 2) : s.canRecoverReq n =
    if (s.canAt n).verdict then (s.flag (R.CANn_STATUS.RECOVERING n) true).flag (R.CANn_CTRL.RECOVER n) false
    else (s.modCan n (fun x => { x with recover := true })).flag (R.CANn_CTRL.RECOVER n) true := by
  simp only [State.canRecoverReq, State.canRecover, hoff, ne_eq, not_true_eq_false, ↓reduceIte]

/-! ### Requests and aborts of one buffer (R516, R519) -/

/-- Without a TX queue no buffer lies in the range that one feeds. -/
theorem State.inQbuf_unbound {s : State} {n : Nat} (hq : s.on (R.CANn_QBIND.TXQ_EN n) = false) (b : Nat) : s.inQbuf n b = false := by
  simp only [State.inQbuf, hq, Bool.false_and]

/-- Without a TX queue a mask of one bit names that buffer. -/
theorem State.maskBuffers_unbound {s : State} {n b : Nat} (hb : b < 32) (hq : s.on (R.CANn_QBIND.TXQ_EN n) = false) :
    indices 32 (fun k => (2 ^ b).testBit k && !(s.inQbuf n k)) = [b] :=
  indices_two_pow hb (fun k => by rw [State.inQbuf_unbound hq, Bool.not_false])

/-- An abort of a pending buffer before its commit point makes it ABORTED. -/
theorem State.canAbort_uncommitted {s : State} {n b : Nat} (hpend : s.bufPending n b = true)
    (hopen : (s.canAt n).committed.testBit b = false) : s.canAbort n b = s.canFinal n b 2 0 0 s.stamp := by
  simp only [State.canAbort, hpend, hopen, Bool.true_eq_false, Bool.false_eq_true, ↓reduceIte]

/-- Settles O26: enable, requests, aborts, recovery and latches of a CAN controller, each by the state it finds. -/
theorem canControllers : Obligations.CanControllers := by
  refine ⟨?refused, ?joins, ?integrated, ?requests, ?aborts, ?waits, ?recovers, ?recovered, ?latch, ?pop⟩
  case refused =>
    exact fun s i n hg hfree htwin hbad =>
      congrArg Host.Outcome.next ((State.byPort_free hg hfree _ _).trans (State.canEn_refused htwin hbad))
  case joins =>
    exact fun s i n hg hfree htwin hgood hoff =>
      congrArg Host.Outcome.next ((State.byPort_free hg hfree _ _).trans (State.canEn_joins htwin hgood hoff))
  case integrated =>
    rintro s u n hjoin rfl
    exact congrArg Host.Outcome.next (if_pos hjoin)
  case requests =>
    intro s i n b hg hfree hb hq
    have hmask := State.maskBuffers_unbound hb hq
    have hrequest : s.canTxreq n (2 ^ b) = s.canRequest n b := by rw [State.canTxreq, hmask]; rfl
    have habort : s.canTxabort n (2 ^ b) = s.canAbort n b := by rw [State.canTxabort, hmask]; rfl
    exact ⟨congrArg Host.Outcome.next ((State.byPort_free hg hfree _ _).trans hrequest),
      congrArg Host.Outcome.next ((State.byPort_free hg hfree _ _).trans habort)⟩
  case aborts => exact fun s n b hpend hopen => State.canAbort_uncommitted hpend hopen
  case waits =>
    intro s i n hg hfree hoff hverdict
    have hheld := State.canRecoverReq_busOff hoff
    rw [hverdict] at hheld
    exact congrArg Host.Outcome.next ((State.byPort_free hg hfree _ _).trans hheld)
  case recovers =>
    intro s i n hg hfree hoff hverdict
    have hbegins := State.canRecoverReq_busOff hoff
    rw [hverdict] at hbegins
    exact congrArg Host.Outcome.next ((State.byPort_free hg hfree _ _).trans hbegins)
  case recovered => exact fun s n hrec => congrArg Host.Outcome.next (if_pos hrec)
  case latch => exact fun s i n hg hfree => congrArg Host.Outcome.next (State.byPort_free hg hfree _ _)
  case pop =>
    rintro s i n z f hg hfree rfl rfl hfill
    exact congrArg Host.Outcome.next ((State.byPort_free hg hfree _ _).trans (if_neg hfill))

/-! ### Transmission attempts (R516 to R519) -/

/-- A start of frame by a controller that may send drives the winner of arbitration, with no error in its buffer. -/
theorem State.canStart_picked {s u : State} {n c b : Nat} (hu : u = (s.canFeed (s.canCfg n)).canFeed n)
    (hact : u.canActive n = true) (hidle : (u.canAt n).tx = none) (hwin : u.inForce (4 + n) = none)
    (hserves : u.on (R.CANn_STATUS.OUT_OF_SERVICE n) = false) (htest : u.portTest 0x2802 n = false) (hmode : u.canMode n ≠ 1)
    (hpick : u.canPick n = some (c, b)) : s.canStart n none = u.canDrive n c b 0 := by
  simp only [State.canStart, ← hu, hact, hidle, hwin, hserves, htest, bne_iff_ne.mpr hmode, hpick, Option.isNone_none,
    Bool.not_false, Bool.and_self, ↓reduceIte]

/-- A controller that takes no part in bus traffic only feeds its buffers. -/
theorem State.canStart_inactive {s u : State} {n : Nat} (hu : u = (s.canFeed (s.canCfg n)).canFeed n)
    (hact : u.canActive n = false) : s.canStart n none = u := by
  simp only [State.canStart, ← hu, hact, Bool.false_and, Bool.false_eq_true, ↓reduceIte]

/-- A lost arbitration outside an exclusive window counts, and fails the buffer once its losses pass RETRY. -/
theorem State.canAttempt_lost {s u v w : State} {n c b x k : Nat} (hu : u = s.canPrune n) (htx : (u.canAt n).tx = some ⟨c, b, x, 0⟩)
    (hforce : (u.canAt n).forceErr = false)
    (hv : v = (u.modCan n (fun x => { x with tx := none, forceErr := false })).inc (R.CANn_ARB_LOST.COUNT n))
    (habort : v.bit (R.CANn_TXABORT.ABORT c) b = false) (hexcl : v.on (R.CANn_CTRL.ARB_EXCL (v.canCfg n)) = false)
    (hfails : v.canFails n ⟨c, b, x, 0⟩ = (w, k)) (l sof : Nat) (d : Bool) : s.canAttempt n 1 l d sof =
      if w.get (R.CANn_CTRL.RETRY (w.canCfg n)) < k then w.canFail n ⟨c, b, x, 0⟩ 2 else w := by
  simp only [State.canAttempt, ← hu, htx, hforce, ← hv, habort, hexcl, hfails, Bool.false_eq_true, Nat.reduceEqDiff, ne_eq,
    not_true_eq_false, ↓reduceIte]

/-- An error other than a missing acknowledgement raises TEC by 8, and fails the buffer once its failures pass RETRY. -/
theorem State.canAttempt_error {s u v w : State} {n c b x l k : Nat} {d : Bool} (hu : u = s.canPrune n)
    (htx : (u.canAt n).tx = some ⟨c, b, x, 0⟩) (hforce : (u.canAt n).forceErr = false) (hl : l ≠ 3)
    (hv : v = (((u.modCan n (fun x => { x with tx := none, forceErr := false })).canLec n l d).inc (R.CANn_ERR_FRAMES.COUNT n)).canState n
      ((u.modCan n (fun x => { x with tx := none, forceErr := false })).get (R.CANn_STATUS.TEC n) + 8)
      ((u.modCan n (fun x => { x with tx := none, forceErr := false })).get (R.CANn_STATUS.REC n)))
    (hbus : v.get (R.CANn_STATUS.STATE n) ≠ 2) (hfails : v.canFails n ⟨c, b, x, 0⟩ = (w, k)) (sof : Nat) :
    s.canAttempt n 2 l d sof = if w.get (R.CANn_CTRL.RETRY (w.canCfg n)) < k then w.canFail n ⟨c, b, x, 0⟩ 1 else w := by
  simp only [State.canAttempt, ← hu, htx, hforce, hl, false_and, ← hv, hbus, hfails, Bool.false_eq_true, Nat.reduceEqDiff, ne_eq, not_true_eq_false, ↓reduceIte]

/-- A classical frame, with no errors since the frame before and REC at 0, leaves REC and is accepted (R514, R528). -/
theorem execCanRxFrameValid_clean {s : State} {n b : Nat} (hact : s.canActive n = true) (hmode : s.canMode n ≠ 2)
    (hfdf : w1Fdf b = false) (hrec : s.get (R.CANn_STATUS.REC n) = 0) (a c t l : Nat) (d : List Byte) :
    exec (.canRxFrameValid n a b c t d 0 l) s = .next ((s.canState n (s.get (R.CANn_STATUS.TEC n)) 0).canValid n a b c t d) := by
  change execCanRxFrameValid _ _ _ _ _ _ _ _ _ = _
  simp only [execCanRxFrameValid, hact, hmode, hfdf, hrec, Bool.true_eq_false, or_self, Nat.add_zero, Nat.lt_irrefl,
    Bool.false_and, Bool.false_eq_true, ↓reduceIte, answer]

/-! ### Twin entries (R526) -/

/-- An entry of the twin table expires; one seen on one bus only counts as missing on the other. -/
theorem execTwinEntryExpiry_some {s u : State} {n k : Nat} {x : TwinEntry} (hx : (s.canAt n).twin.find? (fun x => x.key == k) = some x)
    (hu : u = s.modCan n (fun y => { y with twin := y.twin.filter (fun z => z.key != k) })) : exec (.twinEntryExpiry n k) s = .next (
      if x.buses = 1 then (u.modCan n (fun y => { y with missB := y.missB + 1 })).inc (R.CANn_TWIN_MISS.B n)
      else if x.buses = 2 then (u.modCan n (fun y => { y with missA := y.missA + 1 })).inc (R.CANn_TWIN_MISS.A n) else u) := by
  change execTwinEntryExpiry _ _ _ = _
  simp only [execTwinEntryExpiry, hx, ← hu, answer]

/-- Settles O27: frames from the start of their transmission to its end, received frames, and the twin table. -/
theorem canFrames : Obligations.CanFrames := by
  refine ⟨?drives, ?inactive, ?lost, ?error, ?valid, ?expiry, ?misses⟩
  case drives =>
    exact fun s u n c b hu hact hidle hwin hserves htest hmode hpick => congrArg Host.Outcome.next
      (State.canStart_picked hu hact hidle hwin hserves htest hmode hpick)
  case inactive => exact fun s u n hu hact => congrArg Host.Outcome.next (State.canStart_inactive hu hact)
  case lost =>
    exact fun s u v w n c b x l sof k d hu htx hforce hv habort hexcl hfails => congrArg Host.Outcome.next
      (State.canAttempt_lost hu htx hforce hv habort hexcl hfails l sof d)
  case error =>
    exact fun s u v w n c b x l sof k d hu htx hforce hl hv hbus hfails => congrArg Host.Outcome.next
      (State.canAttempt_error hu htx hforce hl hv hbus hfails sof)
  case valid => exact fun s n a b c t l d hact hmode hfdf hrec => execCanRxFrameValid_clean hact hmode hfdf hrec a c t l d
  case expiry => exact fun s u n k x hx hu => execTwinEntryExpiry_some hx hu
  case misses => exact fun s n htwin => congrArg Host.Outcome.next (if_pos htwin)

end Sys2Proof.Machine
end

section
/-! SUPPORT.
Serial channels (O28). -/

namespace Sys2Proof.Machine

/-! ### Transmission (R536) -/

/-- Without a TX queue a character enters the transmit FIFO while it has room, and may start at once. -/
theorem State.serTx_room {s : State} {n : Nat} (hq : s.on (R.SERn_QBIND.TXQ_EN n) = false) (hroom : (s.serAt n).txf.length < 32)
    (c : Nat) : s.serTx n c = ((s.modSer n (fun x => { x with txf := x.txf ++ [c % 512] })).showSer n).serKick n := by
  have hopen : ¬ (s.on (R.SERn_QBIND.TXQ_EN n) = true ∨ 32 ≤ (s.serAt n).txf.length) := by
    simp only [hq, Bool.false_eq_true, Nat.not_le.mpr hroom, or_self, not_false_eq_true]
  exact if_neg hopen

/-- The character that leaves the transmitter counts, and the next one may start (R533). -/
theorem State.serDone_sent {s u v w : State} {n t c : Nat} (hu : u = s.serKick n) (hsend : (u.serAt n).sending = some t)
    (hv : u.serSent n = (v, c))
    (hw : w = ((v.modSer n (fun y => { y with sending := none })).inc (R.SERn_TX_CHARS.COUNT n)).showSer n)
    (hloop : w.on (R.SERn_CTRL.LOOP n) = false) : s.serDone n = w.serKick n := by
  simp only [State.serDone, ← hu, hsend, hv, ← hw, hloop, Bool.false_eq_true, ↓reduceIte]

/-! ### Reception (R534, R536, R537) -/

/-- A channel that works, outside loopback and RS-485, takes a character with its stamps moved back by the capture delay. -/
theorem execSerCharReceived_working {s : State} {n c : Nat} (hon : s.serOn n = true) (hloop : s.on (R.SERn_CTRL.LOOP n) = false)
    (hrs : s.on (R.SERn_CTRL.RS485 n) = false) (hc : c = 8 + s.pinFilter (serRxd n)) (v t0 t1 : Nat) :
    exec (.serCharReceived n v t0 t1) s =
      .next (s.serReceive n (v % 4096) ((t0 - c) % 4294967296) ((t1 - c) % 4294967296)) := by
  have htakes : ¬ (s.serOn n = false ∨ s.on (R.SERn_CTRL.LOOP n) = true ∨
      (s.on (R.SERn_CTRL.RS485 n) = true ∧ s.on (R.SERn_STATUS.DE n) = true ∧ s.on (R.SERn_CTRL.ECHO n) = false)) := by
    simp only [hon, hloop, hrs, Bool.true_eq_false, Bool.false_eq_true, false_and, or_self, not_false_eq_true]
  subst hc
  exact congrArg Host.Outcome.next (if_neg htakes)

/-- A read of RXDATA by the channel's owner answers the oldest character and removes it. -/
theorem execSernRxdata_grants {s u : State} {i : Init} {n : Nat} (hg : s.grants i (s.holds i (18 + n)) = true)
    (hu : u = s.reply [s.word (R.SERn_RXDATA.CHAR n)]) : exec (.sernRxdata i n) s =
      .next ((u.modSer n (fun x => { x with rxf := x.rxf.drop 1 })).showSer n) := by
  subst hu
  exact congrArg Host.Outcome.next (State.act_grants (s := s.reply1 0) hg 0x0C02 _ false _)

/-- The idle timeout of a channel that works pends; without an RX queue it ends no descriptor. -/
theorem execSerIdleTimeout_unbound {s u : State} {n : Nat} (hon : s.serOn n = true) (hidle : s.get (R.SERn_IDLE.IDLE_TO n) ≠ 0)
    (hu : u = (s.flag (R.SERn_IRQ_PEND.IDLE n) true).serDrain n) (hq : u.on (R.SERn_QBIND.RXQ_EN n) = false) :
    exec (.serIdleTimeout n) s = .next u := by
  change execSerIdleTimeout _ _ = _
  simp only [execSerIdleTimeout, hon, hidle, ← hu, hq, Bool.true_eq_false, Bool.false_eq_true, or_self, false_and,
    ↓reduceIte, answer]

/-- Settles O28: characters in and out of a serial channel, and its timeouts and intervals. -/
theorem serialChannels : Obligations.SerialChannels := by
  refine ⟨?queued, ?full, ?read, ?received, ?sent, ?idle, ?released, ?driven, ?errors⟩
  case queued =>
    exact fun s i n c hg hfree hq hroom =>
      congrArg Host.Outcome.next ((State.byPort_free hg hfree _ _).trans (State.serTx_room hq hroom c))
  case full =>
    exact fun s i n c hg hfree hfull =>
      congrArg Host.Outcome.next ((State.byPort_free hg hfree _ _).trans (if_pos (.inr hfull)))
  case read => exact fun s u i n hg hu => execSernRxdata_grants hg hu
  case received => exact fun s n v t0 t1 c hon hloop hrs hc => execSerCharReceived_working hon hloop hrs hc v t0 t1
  case sent =>
    exact fun s u v w n t c hu hsend hv hw hloop => congrArg Host.Outcome.next (State.serDone_sent hu hsend hv hw hloop)
  case idle => exact fun s u n hon hidle hu hq => execSerIdleTimeout_unbound hon hidle hu hq
  case released =>
    intro s n hnone
    have hquiet : ¬ (s.serAt n).sending.isSome = true := by rw [hnone]; decide
    exact congrArg Host.Outcome.next (if_neg hquiet)
  case driven =>
    intro s n t hsome
    have hsending : (s.serAt n).sending.isSome = true := by rw [hsome]; rfl
    exact congrArg Host.Outcome.next (if_pos hsending)
  case errors =>
    rintro s u n rfl
    rfl

end Sys2Proof.Machine
end

section
/-! SUPPORT.
Viaduct lanes and the roles of a pair (O29, O31). -/

namespace Sys2Proof.Machine

/-! ### Lane training (R553) -/

section training
variable {s : State} {l : Nat} (hlo : 2 ≤ l) (hhi : l < 6)
include hlo hhi

/-- An event of training on a lane of one of the links. -/
theorem execVdtLaneTraining_lane (ev x : Nat) : exec (.vdtLaneTraining l ev x) s = .next (s.laneTrain l ev x) :=
  congrArg Host.Outcome.next (if_pos ⟨hlo, hhi⟩)

variable (hused : s.laneUsed l = true) (hclk : s.clocked = true) (hidle : s.sys.lanesIdle = false) (htest : s.laneTest l = false)
include hused hclk hidle htest

/-- A lane in DOWN goes to LOCK at its PLL lock. -/
theorem execVdtLaneTraining_locks (hst : s.get (laneFld l) = 0) (x : Nat) :
    exec (.vdtLaneTraining l 0 x) s = .next ((s.setB R.SYS_CLK_STATUS.LANE_LOCK l).put (laneFld l) 1) := by
  rw [execVdtLaneTraining_lane hlo hhi]
  simp only [State.laneTrain, hused, hclk, hidle, htest, hst, Bool.true_eq_false, Bool.false_eq_true, or_self, and_self, ↓reduceIte]

/-- A lane in LOCK goes to TS1 at block lock. -/
theorem execVdtLaneTraining_ts1 (hst : s.get (laneFld l) = 1) (x : Nat) :
    exec (.vdtLaneTraining l 1 x) s = .next ((s.put (laneFld l) 2).modLane l (fun x => { x with downs := 0 })) := by
  rw [execVdtLaneTraining_lane hlo hhi]
  simp only [State.laneTrain, hused, hclk, hidle, htest, hst, Bool.true_eq_false, Bool.false_eq_true, or_self, and_self,
    Nat.reduceEqDiff, ↓reduceIte]

/-- A lane in TS2 comes up. -/
theorem execVdtLaneTraining_up (hst : s.get (laneFld l) = 3) (x : Nat) : exec (.vdtLaneTraining l 3 x) s = .next (s.laneRise l) := by
  rw [execVdtLaneTraining_lane hlo hhi]
  simp only [State.laneTrain, hused, hclk, hidle, htest, hst, Bool.true_eq_false, Bool.false_eq_true, or_self, and_self,
    Nat.reduceEqDiff, ↓reduceIte]

variable (hvdt : l < 4) (hst : s.get (laneFld l) = 2)
include hvdt hst

/-- A lane of a pair in TS1 goes to TS2 where the far end has the other PAIR_ID. -/
theorem execVdtLaneTraining_ts2 {x : Nat} (hother : x % 2 ≠ s.get R.SYS_STRAPS.PAIR_ID) (hfree : (s.laneAt l).clash = false) :
    exec (.vdtLaneTraining l 2 x) s = .next (s.put (laneFld l) 3) := by
  rw [execVdtLaneTraining_lane hlo hhi]
  simp only [State.laneTrain, State.tsHolds, hused, hclk, hidle, htest, hst, hvdt, hfree, beq_eq_false_iff_ne.mpr hother,
    Bool.true_eq_false, Bool.false_eq_true, or_self, and_self, Nat.reduceEqDiff, ↓reduceIte]

/-- A lane of a pair whose far end has the same PAIR_ID is held in TS1. -/
theorem execVdtLaneTraining_clash {x : Nat} (hsame : x % 2 = s.get R.SYS_STRAPS.PAIR_ID) :
    exec (.vdtLaneTraining l 2 x) s = .next (((s.modLane l (fun x => { x with clash := true })).flag R.VDT_STATUS.ID_CLASH true).flag
      R.VDT_IRQ_PEND.ID_CLASH true) := by
  rw [execVdtLaneTraining_lane hlo hhi]
  simp only [State.laneTrain, State.tsHolds, holdFld, hused, hclk, hidle, htest, hst, hvdt, beq_iff_eq.mpr hsame,
    Bool.true_eq_false, Bool.false_eq_true, or_self, and_self, Nat.reduceEqDiff, ↓reduceIte]

end training

/-- A lane that stays 2 ms in TS1 or TS2, and is not held there, goes to DOWN. -/
theorem execVdtLaneTimeout_training {s : State} {l : Nat} (hlo : 2 ≤ l) (hhi : l < 6)
    (hst : s.get (laneFld l) = 2 ∨ s.get (laneFld l) = 3) (hfree : (s.laneAt l).clash = false) :
    exec (.vdtLaneTimeout l) s = .next (s.laneDown l) := by
  have hruns : ¬ (l < 2 ∨ 5 < l ∨ s.get (laneFld l) = 0 ∨ s.get (laneFld l) = 4 ∨ (s.laneAt l).clash = true) := by
    simp only [hfree, Bool.false_eq_true, or_false]
    omega
  have hpast : s.get (laneFld l) ≠ 1 := by omega
  exact congrArg Host.Outcome.next ((if_neg hruns).trans (if_pos hpast))

/-- Settles O29: training by its events, and acknowledgements and heartbeats where the lane is up. -/
theorem viaductLinks : Obligations.ViaductLinks := by
  refine ⟨?locks, ?ts1, ?ts2, ?clash, ?up, ?timeout, ?lost, ?ack, ?dark, ?ackTimer, ?replay, ?hbSend, ?hb, ?hbDark⟩
  case locks =>
    exact fun s l x hlo hhi hused hclk hidle htest hst => execVdtLaneTraining_locks hlo hhi hused hclk hidle htest hst x
  case ts1 =>
    exact fun s l x hlo hhi hused hclk hidle htest hst => execVdtLaneTraining_ts1 hlo hhi hused hclk hidle htest hst x
  case ts2 =>
    exact fun s l x hlo hhi hused hclk hidle htest hst hother hfree =>
      execVdtLaneTraining_ts2 hlo (by omega) hused hclk hidle htest hhi hst hother hfree
  case clash =>
    exact fun s l x hlo hhi hused hclk hidle htest hst hsame =>
      execVdtLaneTraining_clash hlo (by omega) hused hclk hidle htest hhi hst hsame
  case up =>
    exact fun s l x hlo hhi hused hclk hidle htest hst => execVdtLaneTraining_up hlo hhi hused hclk hidle htest hst x
  case timeout => exact fun s l hlo hhi hst hfree => execVdtLaneTimeout_training hlo hhi hst hfree
  case lost => exact fun s l hlo hhi hup => congrArg Host.Outcome.next (if_pos ⟨hlo, hhi, .inl hup⟩)
  case ack =>
    exact fun s l q hup => ⟨congrArg Host.Outcome.next (if_pos hup), congrArg Host.Outcome.next (if_pos hup)⟩
  case dark =>
    intro s l q hdown
    have hnot : ¬ s.laneUp l = true := Bool.not_eq_true _ ▸ hdown
    exact ⟨congrArg Host.Outcome.next (if_neg hnot), congrArg Host.Outcome.next (if_neg hnot)⟩
  case ackTimer => exact fun s h hdue => congrArg Host.Outcome.next (if_pos hdue)
  case replay =>
    intro s h f l hbuf
    change execReplayTimeout _ _ = _
    simp only [execReplayTimeout, hbuf, answer]
  case hbSend => exact fun s => rfl
  case hb =>
    intro s l t p d hl hup
    have htaken : (s.laneUp l && decide (l < 4)) = true := by rw [hup, decide_eq_true hl, Bool.and_self]
    exact congrArg Host.Outcome.next (if_pos htaken)
  case hbDark =>
    intro s l t p d hdown
    have hnot : ¬ (s.laneUp l && decide (l < 4)) = true := by rw [hdown, Bool.false_and]; decide
    exact congrArg Host.Outcome.next (if_neg hnot)

/-! ### Heartbeats and the witness (R576 to R578) -/

/-- The third heartbeat missed in a row, with the witness low, declares a partner lost that was heard before. -/
theorem execHeartbeatMiss_lost {s u : State} (hpair : s.on R.VDT_STATUS.PAIR_EN = true) (hmiss : 2 ≤ s.link.vdt.misses)
    (hnot : s.link.vdt.lost = false) (hseen : s.link.vdt.hbSeen = true)
    (hu : u = ((s.modVdt (fun v => { v with misses := s.link.vdt.misses + 1 })).inc R.VDT_HB_MISS.COUNT).flag R.VDT_STATUS.PARTNER false)
    (hlow : u.on R.VDT_STATUS.WITNESS = false) : exec .heartbeatMiss s = .next (u.declareLost 0) := by
  have hthree : 3 ≤ s.link.vdt.misses + 1 := by omega
  have hlink : u.link.vdt.lost = false ∧ u.link.vdt.hbSeen = true := by subst hu; exact ⟨hnot, hseen⟩
  change execHeartbeatMiss _ = _
  simp only [execHeartbeatMiss, hpair, hthree, ← hu, hlow, hlink, Bool.true_eq_false, and_self, ↓reduceIte, answer]

/-- The witness goes high, whatever the link shows. -/
theorem execWitnessChange_rises {s : State} (hlow : s.on R.VDT_STATUS.WITNESS = false) : exec (.witnessChange true) s =
    .next ((s.flag R.VDT_STATUS.WITNESS true).modVdt (fun x => { x with disagree := false })) := by
  change execWitnessChange _ _ = _
  simp only [execWitnessChange, hlow, Bool.false_eq_true, Bool.true_eq_false, false_and, and_false, ↓reduceIte, answer]

/-- A low witness beside a link that works is reported. -/
theorem execWitnessDisagree_low {s u : State} (hpair : s.on R.VDT_STATUS.PAIR_EN = true) (hfirst : s.link.vdt.disagree = false)
    (hlow : s.on R.VDT_STATUS.WITNESS = false) (hlink : s.link.vdt.misses < 3)
    (hu : u = ((s.modVdt (fun v => { v with disagree := true })).flag R.VDT_IRQ_PEND.DISAGREE true).hopKick 0) :
    exec .witnessDisagree s = .next (u.report (ownerOr0 (u.ownPeriph 42)) 0x3405 0 1) := by
  change execWitnessDisagree _ = _
  simp only [execWitnessDisagree, hpair, hfirst, hlow, decide_eq_false (Nat.not_le.mpr hlink), Bool.or_false, ← hu,
    Bool.true_eq_false, Bool.false_eq_true, ne_eq, not_true_eq_false, or_self, ↓reduceIte, answer, Bool.not_false]
  rfl

/-! ### Commands on a bay's role (R573, R580, R581) -/

/-- An UNDECIDED bay that has heard no heartbeat becomes ACTIVE at its timeout while the witness is low. -/
theorem execUndecidedTimeout_low {s : State} {b : Nat} (hrole : s.roleOf b = 1) (hunseen : s.link.vdt.hbSeen = false)
    (hlow : s.on R.VDT_STATUS.WITNESS = false) : exec (.undecidedTimeout b) s = .next (s.claimBay b) := by
  change execUndecidedTimeout _ _ = _
  simp only [execUndecidedTimeout, hrole, hunseen, hlow, ne_eq, not_true_eq_false, Bool.false_eq_true, or_self, true_or,
    ↓reduceIte, answer]

section commands
variable {s : State} {i : Init} {b : Nat} (hg : s.grants i (isBay i b || isBay i 0) = true)
include hg

/-- A write of VDTn_CMD by its bay or BAY0 acts. -/
theorem State.byVdtPage_grants (addr : Nat) (f : State → State) : s.byVdtPage i b addr f = f s :=
  State.act_grants hg 0x0C02 addr true f

/-- HANDOVER of an ACTIVE bay whose partner is ready yields it. -/
theorem execHandover_ready (hrole : s.roleOf b = 2) (hready : s.partnerReady b = true) :
    exec (.handover i b) s = .next ((s.yieldBay b).hopKick 0) := by
  have hmay : (decide (s.roleOf b = 2) && s.partnerReady b) = true := by rw [decide_eq_true hrole, hready, Bool.and_self]
  exact congrArg Host.Outcome.next ((State.byVdtPage_grants hg _ _).trans (if_pos hmay))

/-- HANDOVER of a bay that is not ACTIVE is refused. -/
theorem execHandover_refused (hrole : s.roleOf b ≠ 2) :
    exec (.handover i b) s = .next (s.flag (R.VDTn_CMD.REFUSED b) true) := by
  have hnot : ¬ (decide (s.roleOf b = 2) && s.partnerReady b) = true := by rw [decide_eq_false hrole, Bool.false_and]; decide
  exact congrArg Host.Outcome.next ((State.byVdtPage_grants hg _ _).trans (if_neg hnot))

/-- TAKE of a FENCED bay, with no partner to be heard, makes it ACTIVE. -/
theorem execVdtTake_alone (hrole : s.roleOf b = 5) (halone : s.on R.VDT_STATUS.PARTNER = false) :
    exec (.vdtTake i b) s = .next ((s.claimBay b).takeDrvs b) := by
  have hmay : (decide (s.roleOf b = 5) && !(s.on R.VDT_STATUS.PARTNER && s.link.vdt.pActive.testBit b)) = true := by
    rw [decide_eq_true hrole, halone, Bool.false_and, Bool.not_false, Bool.and_self]
  exact congrArg Host.Outcome.next ((State.byVdtPage_grants hg _ _).trans (if_pos hmay))

/-- TAKE of a bay in another role is refused. -/
theorem execVdtTake_refused (hrole : s.roleOf b ≠ 5) : exec (.vdtTake i b) s = .next (s.flag (R.VDTn_CMD.REFUSED b) true) := by
  have hnot : ¬ (decide (s.roleOf b = 5) && !(s.on R.VDT_STATUS.PARTNER && s.link.vdt.pActive.testBit b)) = true := by
    rw [decide_eq_false hrole, Bool.false_and]; decide
  exact congrArg Host.Outcome.next ((State.byVdtPage_grants hg _ _).trans (if_neg hnot))

end commands

/-- Settles O31: role records past sequence and fence, the witness, and the commands on a bay's role. -/
theorem viaductRoles : Obligations.ViaductRoles := by
  refine ⟨?claim, ?yields, ?synced, ?resync, ?otherRegs, ?refuse, ?missed, ?same, ?rises, ?disagrees, ?undecided, ?handover,
    ?noHandover, ?edge, ?take, ?noTake, ?selfFault, ?restart, ?follow⟩
  case claim =>
    rintro s u v l q b g hl htake hgen rfl hpair hrole
    exact congrArg Host.Outcome.next ((State.vdtFrame_acts hl htake hgen 0x12 id _).trans
      ((if_neg (Bool.not_eq_false _ ▸ hpair)).trans (if_pos hrole)))
  case yields =>
    rintro s u v l q b g hl htake hgen rfl hpair
    exact congrArg Host.Outcome.next ((State.vdtFrame_acts hl htake hgen 0x12 id _).trans (if_pos hpair))
  case synced =>
    rintro s u v l q b g hl htake hgen rfl hrole hbulk
    exact congrArg Host.Outcome.next ((State.vdtFrame_acts hl htake hgen 0x12 id _).trans (if_pos ⟨hrole, hbulk⟩))
  case resync =>
    rintro s u v l q b g hl htake hgen rfl hrole
    exact congrArg Host.Outcome.next ((State.vdtFrame_acts hl htake hgen 0x12 id _).trans
      ((if_pos (.inl hrole)).trans (if_pos rfl)))
  case otherRegs =>
    rintro s u v l q b g c hl htake hgen rfl hrole hregs
    exact congrArg Host.Outcome.next ((State.vdtFrame_acts hl htake hgen 0x12 id _).trans
      ((if_pos (.inl hrole)).trans (if_neg hregs)))
  case refuse =>
    rintro s u v l q b g hl htake hgen rfl
    exact congrArg Host.Outcome.next (State.vdtFrame_acts hl htake hgen 0x12 id _)
  case missed => exact fun s u hpair hmiss hnot hseen hu hlow => execHeartbeatMiss_lost hpair hmiss hnot hseen hu hlow
  case same => exact fun s v hsame => congrArg Host.Outcome.next (if_pos hsame)
  case rises => exact fun s hlow => execWitnessChange_rises hlow
  case disagrees => exact fun s u hpair hfirst hlow hlink hu => execWitnessDisagree_low hpair hfirst hlow hlink hu
  case undecided => exact fun s b hrole hunseen hlow => execUndecidedTimeout_low hrole hunseen hlow
  case handover => exact fun s i b hg hrole hready => execHandover_ready hg hrole hready
  case noHandover => exact fun s i b hg hrole => execHandover_refused hg hrole
  case edge => exact fun s b htaking => congrArg Host.Outcome.next (if_pos htaking)
  case take => exact fun s i b hg hrole halone => execVdtTake_alone hg hrole halone
  case noTake => exact fun s i b hg hrole => execVdtTake_refused hg hrole
  case selfFault => exact fun s i hg => congrArg Host.Outcome.next (State.act_grants hg 0x0C02 _ true _)
  case restart =>
    exact fun s i hg => congrArg Host.Outcome.next ((if_neg Bool.false_ne_true).trans (State.act_grants hg 0x0C02 _ true _))
  case follow => exact fun s c => rfl

end Sys2Proof.Machine
end

section
/-! SUPPORT.
Trestle: requests, the stack and its time (O32, O33, O34). -/

namespace Sys2Proof.Machine

/-! ### Frames taken in sequence (R602, R604) -/

section frame
variable {s u : State} {l q : Nat} (hlo : 4 ≤ l) (hhi : l ≤ 5) (hjoin : s.on R.TRS_STATUS.JOIN_REFUSED = false)
  (htake : s.hopTake l q = (u, true))
include hlo hhi hjoin htake

/-- A member that joined acts on a frame in sequence. -/
theorem State.trsTake_acts (f : State → State) : s.trsTake l q f = f u := by
  have hours : ¬ (l < 4 ∨ 5 < l ∨ s.on R.TRS_STATUS.JOIN_REFUSED = true) := by
    simp only [hjoin, Bool.false_eq_true, or_false]
    omega
  simp only [State.trsTake, if_neg hours, htake]

/-- A frame for this position has its effect here. -/
theorem State.trsTo_here (x ft : Nat) (data : List Byte) (f : State → State) : s.trsTo l q x u.pos ft data f = f u :=
  (State.trsTake_acts hlo hhi hjoin htake _).trans (if_pos rfl)

/-- A frame for another position is relayed towards it. -/
theorem State.trsTo_relays {d : Nat} (hd : d ≠ u.pos) (x ft : Nat) (data : List Byte) (f : State → State) :
    s.trsTo l q x d ft data f = u.trsSend d ⟨ft, 0, trsB7 x d, data, 6⟩ :=
  (State.trsTake_acts hlo hhi hjoin htake _).trans (if_neg hd)

end frame

/-! ### Requests (R609, R610, R617) -/

/-- A request that is not newer than the last one executed is not executed. -/
theorem State.remote_old {s : State} {x eseq : Nat} (hold : s.eseqNew x eseq = false) (home size off : Nat)
    (w : Option (List Byte)) (e : List (Nat × Nat)) : s.remote x eseq home size off w e = (s, 4, []) := by
  simp only [State.remote, hold, ↓reduceIte]

/-- Settles O32: frames by their destination, requests by their ESEQ, messages and doorbells by their binding. -/
theorem trestleRequests : Obligations.TrestleRequests := by
  refine ⟨?relayed, ?read, ?write, ?old, ?response, ?timeout, ?unbound, ?message, ?doorbell⟩
  case relayed =>
    exact fun s u l q x d eseq home size off e hlo hhi hjoin htake hd =>
      congrArg Host.Outcome.next (State.trsTo_relays hlo hhi hjoin htake hd x 0x20 _ _)
  case read =>
    intro s u v l q x eseq home size off st d e hlo hhi hjoin htake hexec
    refine congrArg Host.Outcome.next ((State.trsTo_here hlo hhi hjoin htake x 0x20 _ _).trans ?_)
    simp only [hexec]
  case write =>
    intro s u v l q x eseq home size off st d w hlo hhi hjoin htake hexec
    refine congrArg Host.Outcome.next ((State.trsTo_here hlo hhi hjoin htake x 0x22 _ _).trans ?_)
    simp only [hexec]
  case old => exact fun s x eseq home size off w e hold => State.remote_old hold home size off w e
  case response =>
    exact fun s u l q x eseq home st d hlo hhi hjoin htake =>
      ⟨congrArg Host.Outcome.next (State.trsTo_here hlo hhi hjoin htake x 0x21 _ _),
        congrArg Host.Outcome.next (State.trsTo_here hlo hhi hjoin htake x 0x23 _ _)⟩
  case timeout =>
    intro s d eseq r hopen
    change execTrsRequestTimeout _ _ _ = _
    simp only [execTrsRequestTimeout, hopen, answer]
  case unbound =>
    rintro s u v l q x eseq home m f w hlo hhi hjoin htake hnew rfl hbind
    refine ⟨congrArg Host.Outcome.next ((State.trsTo_here hlo hhi hjoin htake x 0x24 _ _).trans ?_),
      congrArg Host.Outcome.next ((State.trsTo_here hlo hhi hjoin htake x 0x25 _ _).trans ?_)⟩
    · simp only [hnew, hbind, Bool.true_eq_false, ↓reduceIte]
    · simp only [hnew, hbind, Bool.true_eq_false, ↓reduceIte]
  case message =>
    rintro s u v l q x eseq home m f r w hlo hhi hjoin htake hnew rfl hbind hsel hmember hmbx hlive
    refine congrArg Host.Outcome.next ((State.trsTo_here hlo hhi hjoin htake x 0x24 _ _).trans ?_)
    simp only [hnew, hbind, hsel, hmember, hmbx, hlive, Bool.true_eq_false, and_self, ↓reduceIte]
  case doorbell =>
    rintro s u v l q x eseq home m r hlo hhi hjoin htake hnew rfl hbind hsel hmember hlive hheld
    refine congrArg Host.Outcome.next ((State.trsTo_here hlo hhi hjoin htake x 0x25 _ _).trans ?_)
    simp only [hnew, hbind, hsel, hmember, hlive, hheld, Bool.true_eq_false, Bool.false_eq_true, and_self, ↓reduceIte]

/-! ### Routes and formation (R606, R623) -/

/-- A BREAK of a hop that is not this member's far one is relayed and switches routes. -/
theorem execTrsRoute_elsewhere {s u v : State} {l q x h e : Nat} (hlo : 4 ≤ l) (hhi : l ≤ 5)
    (hjoin : s.on R.TRS_STATUS.JOIN_REFUSED = false) (htake : s.hopTake l q = (u, true)) (hx : x ≠ u.pos)
    (hv : v = u.trsAll l ⟨0x2B, 0, trsBcast x, toBE 1 1 ++ toBE 1 h ++ [0, 0] ++ toBE 4 e, 4⟩) (hh : h ≠ v.hopId (9 - l)) :
    exec (.trsRoute l q x 1 h e) s = .next ((v.modTrs (fun y => { y with lostHops := setBit y.lostHops h })).applyRoutes none) := by
  refine congrArg Host.Outcome.next ((State.trsTake_acts hlo hhi hjoin htake _).trans ?_)
  simp only [hx, ← hv, hh, ne_eq, not_true_eq_false, ↓reduceIte]

/-- Settles O33: claims by their result, and routes, interrupts and formation by what each member knows. -/
theorem trestleStack : Obligations.TrestleStack := by
  refine ⟨?refused, ?held, ?accepted, ?noted, ?level, ?relayed, ?sends, ?route, ?ownTopo, ?hb, ?lost, ?timeout, ?forms, ?formed⟩
  case refused =>
    rintro s u v l q x b r pf pc n k hlo hhi hjoin htake rfl hk rfl
    refine congrArg Host.Outcome.next ((State.trsTo_here hlo hhi hjoin htake x 0x29 _ _).trans ?_)
    simp only [hk, ↓reduceIte]
  case held =>
    rintro s u v w l q x b r pf pc n hlo hhi hjoin htake hone rfl rfl
    refine congrArg Host.Outcome.next ((State.trsTo_here hlo hhi hjoin htake x 0x29 _ _).trans ?_)
    simp only [hone, ↓reduceIte]
  case accepted =>
    exact fun s u l q x b r n hlo hhi hjoin htake => congrArg Host.Outcome.next (State.trsTo_here hlo hhi hjoin htake x 0x2A _ _)
  case noted =>
    intro s u l q x b r k n hlo hhi hjoin htake hk
    refine congrArg Host.Outcome.next ((State.trsTo_here hlo hhi hjoin htake x 0x2A _ _).trans ?_)
    simp only [hk, beq_eq_false_iff_ne.mpr hk, State.putB, State.irqTrs, Bool.false_eq_true, ↓reduceIte]
  case level =>
    intro s u l q x c r v hlo hhi hjoin htake hr hx
    refine congrArg Host.Outcome.next ((State.trsTo_here hlo hhi hjoin htake x 0x26 _ _).trans ?_)
    simp only [hr, hx, ↓reduceIte]
  case relayed =>
    exact fun s u l q x c hlo hhi hjoin htake hx =>
      congrArg Host.Outcome.next ((State.trsTake_acts hlo hhi hjoin htake _).trans (if_neg hx))
  case sends => exact fun s i c hg => congrArg Host.Outcome.next (State.act_grants hg 0x0C02 _ true _)
  case route =>
    exact fun s u v l q x h e hlo hhi hjoin htake hx hv hh => execTrsRoute_elsewhere hlo hhi hjoin htake hx hv hh
  case ownTopo =>
    exact fun s u l q m p f k hlo hhi hjoin htake hplaced =>
      congrArg Host.Outcome.next ((State.trsTake_acts hlo hhi hjoin htake _).trans (if_pos ⟨rfl, hplaced⟩))
  case hb => exact fun s l t d hlo hhi hup => congrArg Host.Outcome.next (if_pos ⟨hlo, hhi, hup⟩)
  case lost => exact fun s l hlo hhi hup => congrArg Host.Outcome.next (if_pos ⟨hlo, hhi, hup⟩)
  case timeout => exact fun s l hwait => congrArg Host.Outcome.next (if_pos hwait)
  case forms =>
    intro s hstack hnot
    have hmay : (s.stackOn && !(s.on R.TRS_STATUS.FORMED)) = true := by rw [hstack, hnot, Bool.not_false, Bool.and_self]
    exact congrArg Host.Outcome.next (if_pos hmay)
  case formed =>
    intro s hformed
    have hnot : ¬ (s.stackOn && !(s.on R.TRS_STATUS.FORMED)) = true := by rw [hformed, Bool.not_true, Bool.and_false]; decide
    exact congrArg Host.Outcome.next (if_neg hnot)

/-! ### Stack time (R412, R619, R620) -/

/-- A TIME frame has only the effect of its receipt while no configuration waits for its apply edge. -/
theorem execTimeFrame_applies_none {s u : State} {l q x m c e t : Nat} {r : Option Int} (hframe : s.timeFrame l q x m c e t r = u)
    (hwait : (State.tevTriggers s u).sec.waiting = none) : exec (.timeFrame l q x m c e t r) s = .next (State.tevTriggers s u) := by
  change execTimeFrame _ _ _ _ _ _ _ _ _ = _
  simp only [execTimeFrame, hframe, hwait, answer]

section timeFrame
variable {s u : State} {l q : Nat} (hlo : 4 ≤ l) (hhi : l ≤ 5) (hjoin : s.on R.TRS_STATUS.JOIN_REFUSED = false)
  (htake : s.hopTake l q = (u, true))
include hlo hhi hjoin htake

/-- A TIME frame without traceable time, taken for the first time by a member that follows the master, is relayed with the
inbound delay and the residence, and its sample is taken. -/
theorem State.timeFrame_first {v w : State} {x m c e t : Nat} (hx : x ≤ u.get R.TRS_STATUS.MASTER)
    (hslave : u.on R.TRS_STATUS.IS_MASTER = false) (hfirst : u.trsX.lastTime ≠ some m)
    (hv : v = u.modTrs (fun y => { y with lastTime := some m }))
    (hw : w = v.trsAll l ⟨0x28, 0, trsBcast x, toBE 8 m ++ toBE 8 (wrapInt 64 ((c : Int) + v.inbound l - t)) ++
      (List.replicate 6 0xFF ++ toBE 4 0) ++ toBE 2 e ++ List.replicate 4 0, 3⟩) (hsrc : w.get R.TIME_CFG2.SOURCE = 2) :
    s.timeFrame l q x m c e t none = w.timeTaken l m c t none := by
  refine (State.trsTake_acts hlo hhi hjoin htake _).trans ?_
  simp only [hslave, hfirst, Nat.not_lt.mpr hx, ← hv, ← hw, hsrc, Bool.false_eq_true, false_and, or_self, ↓reduceIte]

/-- A TIME frame that was taken before is dropped. -/
theorem State.timeFrame_repeated {m : Nat} (hlast : u.trsX.lastTime = some m) (x c e t : Nat) (r : Option Int) :
    s.timeFrame l q x m c e t r = u :=
  (State.trsTake_acts hlo hhi hjoin htake _).trans (if_pos (.inr (.inr hlast)))

end timeFrame

/-- Settles O34: the master sends TIME frames, and the others relay, sample and follow them. -/
theorem stackTime : Obligations.StackTime := by
  refine ⟨?sends, ?silent, ?first, ?repeated, ?follow⟩
  case sends =>
    intro s hmaster hstack
    have hmay : (s.on R.TRS_STATUS.IS_MASTER && s.stackOn) = true := by rw [hmaster, hstack, Bool.and_self]
    exact congrArg Host.Outcome.next (if_pos hmay)
  case silent =>
    intro s hslave
    have hnot : ¬ (s.on R.TRS_STATUS.IS_MASTER && s.stackOn) = true := by rw [hslave, Bool.false_and]; decide
    exact congrArg Host.Outcome.next (if_neg hnot)
  case first =>
    exact fun s u v w l q x m c e t hlo hhi hjoin htake hx hslave hfirst hv hw hsrc hwait =>
      execTimeFrame_applies_none (State.timeFrame_first hlo hhi hjoin htake hx hslave hfirst hv hw hsrc) hwait
  case repeated =>
    exact fun s u l q x m c e t r hlo hhi hjoin htake hlast hwait =>
      execTimeFrame_applies_none (State.timeFrame_repeated hlo hhi hjoin htake hlast x c e t r) hwait
  case follow => exact fun s c => rfl

end Sys2Proof.Machine
end

section
/-! SUPPORT.
Drive units: commands, protection and decisions (O35, O36, O37). -/

namespace Sys2Proof.Machine

/-! ### START (R661, R663 to R666) -/

/-- While VDD_3V3 stands, a unit's gates may be driven (R857). -/
theorem State.drvRail_stands {s : State} (hrail : s.railIsLow 4 = false) (n : Nat) : s.drvRail n = s := by
  simp only [State.drvRail, hrail, Bool.false_eq_true, false_and, ↓reduceIte]

/-- What START does once it is accepted, after the unit's control state is fresh: catch-spin, position test or magnetization. -/
theorem State.drvBegin_eq {s u : State} {n : Nat}
    (hu : u = ((((s.modDrv n (fun x => { x.fresh_ with src := (List.range 7).map (s.srcNow n) })).put (R.DRVn_BETA.BETA n) 0x1000).put
      (R.DRVn_TRIP.RESTARTS n) 0).flag (R.DRVn_KH.EXHAUSTED n) false).flag (R.DRVn_STATE.BAND_AT_LIMIT n) false) (spin : Bool) :
    s.drvBegin n spin = if spin then (u.drvTo n 4).catchStep n 2
      else if C.DRVP0.MOTOR (u.drvP n) = 0 then (u.drvTo n 2).testPulse n 0 else u.drvTo n 3 := by
  subst hu
  rfl

/-- START of a unit outside OFF and READY has RESULT 1. -/
theorem State.startResult_busy {s : State} {n : Nat} (hoff : s.drvSt n ≠ 0) (hready : s.drvSt n ≠ 1) : s.startResult n = 1 :=
  if_pos (.inl ⟨hoff, hready⟩)

section start
variable {s : State} {n : Nat} (hrole : s.drvRole n = true) (hbad : (s.drvAt n).bad = 0)
include hrole hbad

section idle
variable (hst : s.drvSt n ≤ 1)
include hst

/-- START of an idle unit under the start inhibit has RESULT 2. -/
theorem State.startResult_inhibited (hinh : s.on (R.DRVn_STATE.INHIBIT n) = true) : s.startResult n = 2 := by
  have hidle : ¬ (s.drvSt n ≠ 0 ∧ s.drvSt n ≠ 1) := by omega
  simp only [State.startResult, hidle, hrole, hbad, hinh, Bool.true_eq_false, ne_eq, not_true_eq_false, or_self, ↓reduceIte]

/-- START of an idle unit without a valid set has RESULT 3. -/
theorem State.startResult_noSet (hinh : s.on (R.DRVn_STATE.INHIBIT n) = false) (hset : s.on (R.DRVn_STATE.PSET_VALID n) = false) :
    s.startResult n = 3 := by
  have hidle : ¬ (s.drvSt n ≠ 0 ∧ s.drvSt n ≠ 1) := by omega
  simp only [State.startResult, hidle, hrole, hbad, hinh, hset, Bool.true_eq_false, Bool.false_eq_true, ne_eq, not_true_eq_false,
    or_self, ↓reduceIte]

end idle

/-- START of a READY unit that nothing forbids is accepted, and what it begins goes on while VDD_3V3 stands. -/
theorem State.drvStart_accepted {v : State} {spin : Bool} (hst : s.drvSt n = 1) (hinh : s.on (R.DRVn_STATE.INHIBIT n) = false)
    (hset : s.on (R.DRVn_STATE.PSET_VALID n) = true) (hmeas : s.measOk n = true) (hv : (s.drvBegin n spin).drvStat n 0 = v)
    (hrail : v.railIsLow 4 = false) : s.drvStart n spin = v := by
  have hmay : s.startResult n = 0 := by
    simp only [State.startResult, hst, hrole, hbad, hinh, hset, hmeas, Bool.true_eq_false, Bool.false_eq_true, ne_eq,
      not_true_eq_false, and_false, Nat.reduceEqDiff, or_self, ↓reduceIte]
  rw [State.drvStart, hmay, if_pos rfl, hv, State.drvRail_stands hrail]

end start

/-- START that is refused only gives its RESULT. -/
theorem State.drvStart_refused {s : State} {n r : Nat} (hres : s.startResult n = r) (hr : r ≠ 0) (spin : Bool) :
    s.drvStart n spin = s.drvStat n r := by
  rw [State.drvStart, hres, if_neg hr]

/-! ### STOP, COAST and PSET_LOAD (R656, R661, R667) -/

/-- STOP of a unit in its starting states is taken at the end of the present step. -/
theorem State.drvStop_starting {s : State} {n : Nat} (hrole : s.drvRole n = true)
    (hst : s.drvSt n = 2 ∨ s.drvSt n = 3 ∨ s.drvSt n = 4) :
    s.drvStop n = (s.modDrv n (fun x => { x with stopReq := true })).drvStat n 0 := by
  simp only [State.drvStop, hrole, hst, Bool.true_eq_false, ↓reduceIte]

/-- STOP of a unit that runs, or that holds the link, begins its deceleration. -/
theorem State.drvStop_running {s : State} {n : Nat} (hrole : s.drvRole n = true) (hst : s.drvSt n = 5 ∨ s.drvSt n = 7) :
    s.drvStop n = (s.toDecel n).drvStat n 0 := by
  have hstarted : ¬ (s.drvSt n = 2 ∨ s.drvSt n = 3 ∨ s.drvSt n = 4) := by omega
  simp only [State.drvStop, hrole, hst, hstarted, Bool.true_eq_false, ↓reduceIte]

/-- STOP of a unit of another role, or of one that does not run, is refused. -/
theorem State.drvStop_refused {s : State} {n : Nat} (h : s.drvRole n = false ∨ s.drvSt n ≤ 1 ∨ 8 ≤ s.drvSt n) :
    s.drvStop n = s.drvStat n 1 := by
  rw [State.drvStop]
  by_cases hrole : s.drvRole n = false
  · rw [if_pos hrole]
  · have hst : s.drvSt n ≤ 1 ∨ 8 ≤ s.drvSt n := h.resolve_left hrole
    rw [if_neg hrole, if_neg (by omega), if_neg (by omega), if_neg (by omega)]

/-- COAST of a unit that drives its gates, outside DECELERATING, waits for the next apply edge. -/
theorem State.drvCoast_waits {s : State} {n : Nat} (hrole : s.drvRole n = true) (hlo : 2 ≤ s.drvSt n) (hhi : s.drvSt n ≤ 7)
    (hdecel : s.drvSt n ≠ 6) : s.drvCoast n = (s.modDrv n (fun x => { x with coast := true })).drvStat n 0 :=
  if_pos ⟨hrole, by omega⟩

/-- PSET_LOAD of an idle unit loads the set, unless the identity reader selects its sets. -/
theorem State.psetLoad_idle {s : State} {n : Nat} (hrole : s.drvRole n = true) (hst : s.drvSt n ≤ 1) (k : Nat) : s.psetLoad n k =
    if C.DRVP0.PSET_TAG (s.drvP n) = 1 then s.drvStat n 5 else ((s.loadSet n (k % 16) false).drvReady n).drvStat n 0 := by
  have hidle : ¬ (s.drvSt n ≠ 0 ∧ s.drvSt n ≠ 1) := by omega
  simp only [State.psetLoad, hidle, hrole, Bool.true_eq_false, or_self, ↓reduceIte]

/-- Settles O35: each command of a drive unit by the unit's state, its role and what forbids it. -/
theorem driveCommands : Obligations.DriveCommands := by
  refine ⟨?tests, ?magnetizes, ?spins, ?busy, ?inhibited, ?noSet, ?stopLater, ?decelerates, ?noStop, ?coasts, ?loads, ?tagged,
    ?clears, ?noClear⟩
  case tests =>
    intro s u v i n hg hst hrole hbad hinh hset hmeas hu hmotor hv hrail
    have hbegin : s.drvBegin n false = (u.drvTo n 2).testPulse n 0 := by
      rw [State.drvBegin_eq hu, if_neg Bool.false_ne_true, if_pos hmotor]
    have hstart := State.drvStart_accepted hrole hbad hst hinh hset hmeas (by rw [hbegin, hv]) hrail
    exact congrArg Host.Outcome.next ((State.act_grants hg 0x0C02 _ true _).trans hstart)
  case magnetizes =>
    intro s u v i n hg hst hrole hbad hinh hset hmeas hu hmotor hv hrail
    have hbegin : s.drvBegin n false = u.drvTo n 3 := by
      rw [State.drvBegin_eq hu, if_neg Bool.false_ne_true, if_neg hmotor]
    have hstart := State.drvStart_accepted hrole hbad hst hinh hset hmeas (by rw [hbegin, hv]) hrail
    exact congrArg Host.Outcome.next ((State.act_grants hg 0x0C02 _ true _).trans hstart)
  case spins =>
    intro s u v i n hg hst hrole hbad hinh hset hmeas hu hv hrail
    have hbegin : s.drvBegin n true = ((u.drvTo n 4).modDrv n (fun x => { x with step := 2 })).applyVec n 0 := by
      rw [State.drvBegin_eq hu, if_pos rfl]
      rfl
    have hstart := State.drvStart_accepted hrole hbad hst hinh hset hmeas (by rw [hbegin, hv]) hrail
    exact congrArg Host.Outcome.next ((State.act_grants hg 0x0C02 _ true _).trans hstart)
  case busy =>
    exact fun s i n b hg hoff hready => congrArg Host.Outcome.next ((State.act_grants hg 0x0C02 _ true _).trans
      (State.drvStart_refused (State.startResult_busy hoff hready) (by decide) b))
  case inhibited =>
    exact fun s i n b hg hst hrole hbad hinh => congrArg Host.Outcome.next ((State.act_grants hg 0x0C02 _ true _).trans
      (State.drvStart_refused (State.startResult_inhibited hrole hbad hst hinh) (by decide) b))
  case noSet =>
    exact fun s i n b hg hst hrole hbad hinh hset => congrArg Host.Outcome.next ((State.act_grants hg 0x0C02 _ true _).trans
      (State.drvStart_refused (State.startResult_noSet hrole hbad hst hinh hset) (by decide) b))
  case stopLater =>
    exact fun s i n hg hrole hst =>
      congrArg Host.Outcome.next ((State.act_grants hg 0x0C02 _ true _).trans (State.drvStop_starting hrole hst))
  case decelerates =>
    exact fun s i n hg hrole hst =>
      congrArg Host.Outcome.next ((State.act_grants hg 0x0C02 _ true _).trans (State.drvStop_running hrole hst))
  case noStop =>
    exact fun s i n hg h => congrArg Host.Outcome.next ((State.act_grants hg 0x0C02 _ true _).trans (State.drvStop_refused h))
  case coasts =>
    exact fun s i n hg hrole hlo hhi hdecel =>
      congrArg Host.Outcome.next ((State.act_grants hg 0x0C02 _ true _).trans (State.drvCoast_waits hrole hlo hhi hdecel))
  case loads =>
    exact fun s i n k hg hrole hst htag => congrArg Host.Outcome.next ((State.act_grants hg 0x0C02 _ true _).trans
      ((State.psetLoad_idle hrole hst k).trans (if_neg htag)))
  case tagged =>
    exact fun s i n k hg hrole hst htag => congrArg Host.Outcome.next ((State.act_grants hg 0x0C02 _ true _).trans
      ((State.psetLoad_idle hrole hst k).trans (if_pos htag)))
  case clears =>
    exact fun s i n hg hst hact =>
      congrArg Host.Outcome.next ((State.act_grants hg 0x0C02 _ true _).trans (if_pos ⟨hst, hact⟩))
  case noClear =>
    intro s i n hg h
    have hnot : ¬ (s.drvSt n = 8 ∧ s.on (R.DRVn_TRIP.ACTIVE n) = false) := fun ⟨hst, hact⟩ =>
      h.elim (· hst) (fun hon => absurd (hact.symm.trans hon) Bool.false_ne_true)
    exact congrArg Host.Outcome.next ((State.act_grants hg 0x0C02 _ true _).trans (if_neg hnot))

/-! ### Trips and trip inputs (R683 to R685) -/

/-- A trip of a unit that drives its gates takes it to TRIPPED, with its source, leg and stamp. -/
theorem State.drvTrip_driving {s u : State} {n src : Nat} (hlo : 2 ≤ s.drvSt n) (hhi : s.drvSt n ≤ 7)
    (hu : u = (s.drvTo n 8).put (R.DRVn_TRIP.SOURCE n) src) (l c d : Nat) : s.drvTrip n src l c d =
      ((((u.put (R.DRVn_TRIP.LEG n) l).put (R.DRVn_TRIP_STAMP.STAMP n) u.stamp).drvIrq n 8).report (s.drvBay n) c n d) := by
  subst hu
  exact if_pos ⟨hlo, hhi⟩

/-- A low driver fault of a unit that drives its gates turns BRK off and trips it. -/
theorem execGateDriverFault_trips {s u : State} {n : Nat} (hlo : 2 ≤ s.drvSt n) (hhi : s.drvSt n ≤ 7)
    (hu : u = (s.flag (R.DRVn_PROT_LIVE.FLT n) true).tripInput n 3 true) : exec (.gateDriverFault n true) s =
      .next (((u.brkTo n false).modDrv n (fun x => { x with brkHeld := true })).drvTrip n 2 0 0x3C02 (s.drvSt n)) := by
  have htrips : (true && decide (2 ≤ s.drvSt n ∧ s.drvSt n ≤ 7)) = true := by rw [decide_eq_true ⟨hlo, hhi⟩, Bool.and_self]
  subst hu
  exact congrArg Host.Outcome.next (if_pos htrips)

/-- A driver fault that ends, or one of a unit that does not drive its gates, only shows. -/
theorem execGateDriverFault_shows {s : State} {n : Nat} {b : Bool} (h : b = false ∨ s.drvSt n < 2 ∨ 7 < s.drvSt n) :
    exec (.gateDriverFault n b) s = .next ((s.flag (R.DRVn_PROT_LIVE.FLT n) b).tripInput n 3 b) := by
  have hnot : ¬ (b && decide (2 ≤ s.drvSt n ∧ s.drvSt n ≤ 7)) = true := by
    rw [Bool.and_eq_true, decide_eq_true_eq]
    rintro ⟨rfl, hlo, hhi⟩
    obtain hb | hlow | hhigh := h
    · exact absurd hb (by decide)
    · omega
    · omega
  exact congrArg Host.Outcome.next (if_neg hnot)

/-- A readback mismatch of an output trips the unit and is reported (R669). -/
theorem execGateReadbackMismatch_trips {s u : State} {n o : Nat} (hrec : (s.drvRec n).isSome = true) (ho : o < 8)
    (hrail : s.railIsLow 4 = false) (hu : u = (s.modDrv n (fun x => { x with bad := setBit x.bad o })).mismatchTrip n) (b : Bool) :
    exec (.gateReadbackMismatch n o b) s = .next (u.report (u.drvBay n) 0x3C07 n (o + 256 * b2n b)) := by
  have hsees : ¬ ((s.drvRec n).isNone = true ∨ 8 ≤ o ∨ s.railIsLow 4 = true) := by
    simp only [Option.isNone_eq_false_iff.mpr hrec, Nat.not_le.mpr ho, hrail, Bool.false_eq_true, or_self, not_false_eq_true]
  subst hu
  exact congrArg Host.Outcome.next (if_neg hsees)

/-- Settles O36: what each protection input shows, and whom it trips. -/
theorem driveProtection : Obligations.DriveProtection := by
  refine ⟨?overcurrent, ?ocpEnds, ?driver, ?driverShows, ?desat, ?brkDesat, ?mismatch, ?trip, ?dutyOn, ?dutyOff, ?losClear, ?magTime,
    ?noMag⟩
  case overcurrent =>
    intro s n l a hl hoff hparked
    change execOvercurrentTrip _ _ _ _ _ = _
    simp only [execOvercurrentTrip, hoff, hparked, Nat.not_le.mpr hl, or_self, and_false, ↓reduceIte, answer]
  case ocpEnds =>
    intro s n l a hl
    change execOvercurrentTrip _ _ _ _ _ = _
    simp only [execOvercurrentTrip, Nat.not_le.mpr hl, Bool.false_eq_true, false_and, or_self, ↓reduceIte, answer]
  case driver => exact fun s u n hlo hhi hu => execGateDriverFault_trips hlo hhi hu
  case driverShows => exact fun s n b h => execGateDriverFault_shows h
  case desat =>
    intro s n l hl
    have hleg : ¬ 4 ≤ l := by omega
    have hphase : l ≠ 3 := by omega
    change execDesaturation _ _ _ _ = _
    simp only [execDesaturation, hleg, hphase, ↓reduceIte, answer]
  case brkDesat =>
    rintro s u n rfl
    rfl
  case mismatch => exact fun s u n o b hrec ho hrail hu => execGateReadbackMismatch_trips hrec ho hrail hu b
  case trip => exact fun s u n src l c d hlo hhi hu => State.drvTrip_driving hlo hhi hu l c d
  case dutyOn =>
    intro s n hon
    change execChopperDutyInterval _ _ = _
    simp only [execChopperDutyInterval, hon, ↓reduceIte, answer]
  case dutyOff =>
    intro s n hoff
    change execChopperDutyInterval _ _ = _
    simp only [execChopperDutyInterval, hoff, Bool.false_eq_true, Nat.add_zero, ↓reduceIte, answer]
  case losClear => exact fun s n hst => congrArg Host.Outcome.next (if_pos hst)
  case magTime =>
    rintro s u n hst rfl
    have hcatch : s.drvSt n ≠ 4 := by omega
    exact congrArg Host.Outcome.next ((if_pos hst).trans (if_neg hcatch))
  case noMag => exact fun s n hst => congrArg Host.Outcome.next (if_neg hst)

/-! ### Elements of an updated list -/

/-- The element at the place of an update. -/
theorem getElem?_updAt_same {α : Type} (f : α → α) : ∀ {l : List α} {i : Nat} {a : α}, l[i]? = some a →
    (updAt l i f)[i]? = some (f a)
  | [], _, _, h => by cases h
  | b :: t, 0, a, h => by
    obtain rfl : b = a := by simpa using h
    rfl
  | b :: t, i + 1, a, h => getElem?_updAt_same f (l := t) (by simpa using h)

/-- The elements elsewhere stay. -/
theorem getElem?_updAt_other {α : Type} (f : α → α) : ∀ (l : List α) {i j : Nat}, j ≠ i → (updAt l i f)[j]? = l[j]?
  | [], _, _, _ => rfl
  | _ :: _, 0, 0, h => absurd rfl h
  | _ :: _, 0, _ + 1, _ => rfl
  | _ :: _, _ + 1, 0, _ => rfl
  | _ :: t, i + 1, j + 1, h => getElem?_updAt_other f t (i := i) (j := j) (by omega)

/-! ### Decisions (R637, R642) -/

section ticks
variable {s : State} {n : Nat} (hticks : s.drvTicks n = true)
include hticks

/-- The apply edge of a unit that coasts takes it to READY or OFF. -/
theorem execDecisionApply_coasts (hcoast : (s.drvAt n).coast = true) :
    exec (.decisionApply n) s = .next ((s.modDrv n (fun x => { x with coast := false })).toReady n) := by
  change execDecisionApply _ _ = _
  simp only [execDecisionApply, hticks, hcoast, Bool.true_eq_false, ↓reduceIte, answer]

/-- The apply edge of a unit that does not coast applies what its decision selected; the snapshot follows where no instant
takes it. -/
theorem execDecisionApply_selects {u v : State} {b : Bool} {k : Nat} (hcoast : (s.drvAt n).coast = false) (hb : b = s.measBad n)
    (hu : u = ((s.decision n b).vdcTests n b).chopper n b) (hsel : (u.drvAt n).sel = some k)
    (hst : u.drvSt n = 3 ∨ 5 ≤ u.drvSt n ∧ u.drvSt n ≤ 7) (hv : v = u.applyVec n k) :
    exec (.decisionApply n) s = .next (if v.get (R.DRVn_CIO.CIO_SNAP n) / 128 = 1 then v else v.drvSnap n) := by
  subst hb
  change execDecisionApply _ _ = _
  simp only [execDecisionApply, hticks, hcoast, ← hu, State.applySel, hsel, hst, ← hv, Bool.true_eq_false, Bool.false_eq_true,
    ↓reduceIte, answer]

end ticks

/-- The decision in RUNNING, DECELERATING or KINETIC_HOLD. -/
theorem State.decision_runs {s : State} {n : Nat} (hlo : 5 ≤ s.drvSt n) (hhi : s.drvSt n ≤ 7) (b : Bool) :
    s.decision n b = s.drvRun n b := if_pos ⟨hlo, hhi⟩

/-- The decision in MAGNETIZING. -/
theorem State.decision_magnetizes {s : State} {n : Nat} (hst : s.drvSt n = 3) (b : Bool) : s.decision n b = s.drvMagnetize n b := by
  simp only [State.decision, hst, Nat.reduceLeDiff, false_and, ↓reduceIte]

/-! ### Gate logic and start procedures (R633, R634, R654, R664, R682) -/

/-- A dead time's end turns the incoming switch of its leg on, and leaves the other legs. -/
theorem execDeadTimeEnd_leg {s : State} {n i : Nat} {x : DrvUnit} {l : Leg} {b : Bool} (hx : s.ana.drv[n]? = some x)
    (hl : x.legs[i]? = some l) (hdead : l.dead = some b) :
    ∃ (t : State) (y : DrvUnit), exec (.deadTimeEnd n i) s = .next t ∧ t.ana.drv[n]? = some y ∧
      y.legs[i]? = some (if b then { l with hi := true, hiAt := s.now, dead := none } else { l with lo := true, loAt := s.now, dead := none }) ∧
      ∀ j : Nat, j ≠ i → y.legs[j]? = x.legs[j]? := by
  refine ⟨_, _, rfl, getElem?_updAt_same _ hx, ?_, fun j hj => getElem?_updAt_other _ _ hj⟩
  rw [getElem?_updAt_same _ hl]
  simp only [hdead]

/-- The end of a band window of 256 decisions gives the switching frequency, and adapts no band where that is off. -/
theorem execBandWindowEnd_fixed {s u : State} {n : Nat} (hwin : 256 ≤ (s.drvAt n).win) (hper : 0 < C.DRVP0.DEC_PERIOD (s.drvP n))
    (hu : u = (s.put (R.DRVn_FSW.HZ n) (rdiv (((s.drvAt n).ntr * 1000000000 : Nat) : Int)
      ((6144 * C.DRVP0.DEC_PERIOD (s.drvP n) : Nat) : Int)).toNat).modDrv n (fun y => { y with ntr := 0, win := 0 }))
    (hfixed : u.on (R.DRVn_CTRL.BAND_ADAPT n) = false) : exec (.bandWindowEnd n) s = .next u := by
  have hden : max 1 ((6144 * C.DRVP0.DEC_PERIOD (s.drvP n) : Nat) : Int) = ((6144 * C.DRVP0.DEC_PERIOD (s.drvP n) : Nat) : Int) := by
    omega
  change execBandWindowEnd _ _ = _
  simp only [execBandWindowEnd, Nat.not_lt.mpr hwin, hden, ← hu, hfixed, true_or, ↓reduceIte, answer]

/-- A pulse of the position test ends: at PT_TMAX the test fails, else the opposite vector follows for the same time. -/
theorem execPositionTestPulse_ends {s : State} {n m : Nat} (hpulse : (s.drvAt n).pulse = some m) (hphase : (s.drvAt n).phase = 0)
    (hgo : s.drvSt n ≠ 2 ∨ (s.drvAt n).stopReq = false) (r : Nat) (limit : Bool) : exec (.positionTestPulse n r limit) s = .next (
      if limit then s.startFail n 3
      else (s.applyVec n (7 - (s.drvAt n).s1)).modDrv n (fun y =>
        { y with rises := y.rises ++ [r], phase := 1, phaseEnd := s.now + r })) := by
  have hon : ¬ (s.drvSt n = 2 ∧ (s.drvAt n).stopReq = true) := fun ⟨hst, hstop⟩ =>
    hgo.elim (· hst) (fun hrun => absurd (hrun.symm.trans hstop) Bool.false_ne_true)
  change execPositionTestPulse _ _ _ _ = _
  simp only [execPositionTestPulse, hpulse, hphase, hon, Option.isNone_some, Bool.false_eq_true, ne_eq, not_true_eq_false,
    or_self, ↓reduceIte, answer]

/-- A step of the catch-spin ends outside a position test, by the number of the step. -/
theorem execCatchSpinStep_ends {s : State} {n : Nat} (hst : s.drvSt n = 4) (hpulse : (s.drvAt n).pulse = none) (a b : Int) :
    exec (.catchSpinStep n a b) s = .next (
      if (s.drvAt n).step = 1 then s.catchStep n 2
      else if (s.drvAt n).step = 2 then (s.modDrv n (fun x => { x with i1 := (a, b) })).catchStep n 3
      else if (s.drvAt n).step = 3 then s.catchStep n 4
      else if (s.drvAt n).step = 4 then s.catchEval n a b else s) := by
  change execCatchSpinStep _ _ _ _ = _
  simp only [execCatchSpinStep, hst, hpulse, Option.isSome_none, Bool.false_eq_true, ne_eq, not_true_eq_false, or_self,
    ↓reduceIte, answer]

/-- Settles O37: ticks and apply edges by the unit's state, and the events of its gate logic and start procedures. -/
theorem driveDecisions : Obligations.DriveDecisions := by
  refine ⟨?tick, ?boundTick, ?silent, ?coasts, ?runs, ?magnetizes, ?deadTime, ?deferred, ?early, ?band, ?shortWindow, ?pulse, ?spin,
    ?holdEnds, ?poles⟩
  case tick =>
    rintro s u v n hticks href rfl rfl
    change execDecisionTick _ _ = _
    simp only [execDecisionTick, hticks, href, State.takeRefs, Bool.true_eq_false, ↓reduceIte, answer]
  case boundTick =>
    rintro s v n hticks href rfl
    change execDecisionTick _ _ = _
    simp only [execDecisionTick, hticks, href, Bool.true_eq_false, ↓reduceIte, answer]
  case silent =>
    intro s n hsilent
    have hnoPoles : ¬ (s.drvTicks n && C.DRVP0.VSENSE (s.drvP n) == 0) = true := by rw [hsilent, Bool.false_and]; decide
    exact ⟨congrArg Host.Outcome.next (if_pos hsilent), congrArg Host.Outcome.next (if_pos hsilent),
      congrArg Host.Outcome.next (if_neg hnoPoles)⟩
  case coasts => exact fun s n hticks hcoast => execDecisionApply_coasts hticks hcoast
  case runs =>
    intro s u v n k b hticks hcoast hlo hhi hb hu hsel hulo huhi hv hsnap
    rw [← State.decision_runs hlo hhi] at hu
    rw [execDecisionApply_selects hticks hcoast hb hu hsel (.inr ⟨hulo, huhi⟩) hv, if_neg hsnap]
  case magnetizes =>
    intro s u v n k b hticks hcoast hst hb hu hsel hust hv hsnap
    rw [← State.decision_magnetizes hst] at hu
    rw [execDecisionApply_selects hticks hcoast hb hu hsel (.inl hust) hv, if_pos hsnap]
  case deadTime => exact fun s n i x l b hx hl hdead => execDeadTimeEnd_leg hx hl hdead
  case deferred =>
    intro s n i v hwant hok
    change execLegChangeDeferred _ _ _ = _
    simp only [execLegChangeDeferred, hwant, hok, ↓reduceIte, answer]
  case early =>
    intro s n i v hwant hearly
    change execLegChangeDeferred _ _ _ = _
    simp only [execLegChangeDeferred, hwant, hearly, Bool.false_eq_true, ↓reduceIte, answer]
  case band => exact fun s u n hwin hper hu hfixed => execBandWindowEnd_fixed hwin hper hu hfixed
  case shortWindow => exact fun s n hwin => congrArg Host.Outcome.next (if_pos hwin)
  case pulse =>
    intro s n r m hpulse hphase hgo
    exact ⟨(execPositionTestPulse_ends hpulse hphase hgo r true).trans (congrArg _ (if_pos rfl)),
      (execPositionTestPulse_ends hpulse hphase hgo r false).trans (congrArg _ (if_neg Bool.false_ne_true))⟩
  case spin =>
    intro s n a b hst hpulse
    have hends := execCatchSpinStep_ends hst hpulse a b
    refine ⟨?_, ?_, ?_, ?_⟩ <;> intro hstep <;> rw [hends, hstep] <;> rfl
  case holdEnds =>
    rintro s u n hride hshed rfl hst
    have hdone : ¬ (s.supSt = 2 ∨ s.supSt = 3) := by simp only [hride, hshed, or_self, not_false_eq_true]
    exact congrArg Host.Outcome.next ((if_neg hdone).trans (if_pos hst))
  case poles =>
    intro s n hticks hsense
    have hsamples : (s.drvTicks n && C.DRVP0.VSENSE (s.drvP n) == 0) = true := by rw [hticks, hsense]; rfl
    exact congrArg Host.Outcome.next (if_pos hsamples)

end Sys2Proof.Machine
end

section
/-! SUPPORT.
Converters and sigma-delta inputs (O38, O39). -/

namespace Sys2Proof.Machine

/-! ### Triggers (R698 to R702) -/

section trigger
variable {s : State} {n : Nat} {r : AdcRun} (hen : s.on (R.ADCn_CTRL.EN n) = true) (hleft : r.left ≠ [])
include hen hleft

/-- The trigger of a requester that neither runs nor waits, on an idle converter, is the next to run. -/
theorem State.adcTrigger_idle (hidle : (s.adcAt n).run = none) (hnew : (s.adcAt n).waiting.any (sameRun r) = false) :
    s.adcTrigger n r = (s.modAdc n (fun y => { y with waiting := y.waiting ++ [{ r with onTime := true }] })).adcKick n := by
  simp only [State.adcTrigger, hen, hleft, hidle, hnew, Option.toList_none, List.nil_append, Bool.true_eq_false, Bool.false_eq_true,
    or_self, ↓reduceIte]

/-- On a converter that has begun the run of another requester it waits. -/
theorem State.adcTrigger_waits {g : AdcRun} (hrun : (s.adcAt n).run = some g) (hsrc : g.src ≠ 3) (hother : sameRun r g = false)
    (hnew : (s.adcAt n).waiting.any (sameRun r) = false) (hbegun : (s.adcAt n).start ≠ s.now) : s.adcTrigger n r =
      (s.modAdc n (fun y => { y with waiting := y.waiting ++ [{ r with onTime := false }] })).showAdc n := by
  simp only [State.adcTrigger, hen, hleft, hrun, hsrc, hother, hnew, hbegun, Option.toList_some, List.singleton_append, List.any_cons,
    Bool.or_self, Bool.true_eq_false, Bool.false_eq_true, false_and, or_self, ↓reduceIte]

/-- A second trigger of a requester that waits is dropped. -/
theorem State.adcTrigger_dropped (hsrc : r.src ≠ 3) (hwaits : (s.adcAt n).waiting.any (sameRun r) = true) :
    s.adcTrigger n r = (s.inc (R.ADCn_CNT_TRIG.DROPPED n)).adcLate n r true := by
  simp only [State.adcTrigger, hen, hleft, hsrc, hwaits, List.any_append, Bool.or_true, Bool.true_eq_false, or_self, ↓reduceIte]

end trigger

/-! ### Conversions (R694 to R696, R703, R704) -/

/-- A single-ended code within the range of its channel. -/
theorem adcCode_inRange {v : Int} (hlo : 0 ≤ v) (hhi : v ≤ 65535) (b : Bool) : adcCode false b v = (v.toNat, false) := by
  have hclamp : clampInt 0 65535 v = v := by
    simp only [clampInt]
    omega
  have hin : ¬ (v < 0 ∨ 65535 < v) := by omega
  simp only [adcCode, hclamp, hin, decide_false, Bool.and_false, Bool.false_eq_true, ↓reduceIte]

/-- A single-ended code above the range of an external channel saturates and is flagged. -/
theorem adcCode_over {v : Int} (hhi : 65535 < v) : adcCode false false v = (65535, true) := by
  have hclamp : (clampInt 0 65535 v).toNat = 65535 := by
    simp only [clampInt]
    omega
  simp only [adcCode, hclamp, hhi, or_true, decide_true, Bool.not_false, Bool.and_self, Bool.false_eq_true, ↓reduceIte]

/-- Without a new result for SUP, the end of a conversion is the converter's own. -/
theorem execAdcConversionEnd_ownResult {s t : State} {n : Nat} {v : Int} (ht : State.adcEnd n v s = t) (hsup : t.ana.supFresh = false) :
    exec (.adcConversionEnd n v) s = .next t := by
  change execAdcConversionEnd _ _ _ = _
  simp only [execAdcConversionEnd, ht, hsup, Bool.false_and, Bool.false_eq_true, ↓reduceIte, answer]

/-- The local index of a single-ended channel is its own. -/
theorem State.adcIndex_single {s : State} {n j : Nat} (hdiff : s.adcDiff n j = false) : s.adcIndex n j = j := by
  simp only [State.adcIndex, hdiff, Bool.false_eq_true, ↓reduceIte]

section conversion
variable {s u : State} {n j w q slot : Nat} {v : Int} {r : AdcRun} (hrun : (s.adcAt n).run = some r) (hsrc : r.src = 0)
  (hslot : slot ≠ 0) (hj : j < 6) (hdiff : s.adcDiff n j = false) (hforce : (s.adcAt n).forceSat = none)
include hrun hsrc hslot hj hdiff hforce

/-- A conversion in range, not the last one of a sequence's run: its word, and the next slot begins. -/
theorem State.adcEnd_goesOn {rest : List (Nat × Nat × Nat)} {c : Nat} {susp : Bool} (hleft : r.left = (j, slot, q) :: rest)
    (hrest : rest ≠ []) (hclear : s.bit (R.ADCn_OVR.ACTIVE n) j = false) (hlo : 0 ≤ v) (hhi : v ≤ 65535) (hc : c = v.toNat)
    (hsusp : susp = (s.railIsLow 5 || (s.adcAt n).suspect || decide ((s.adcAt n).start + 12 < SMap.get 0 (s.adcAt n).until_ j) ||
      s.on (R.ADCn_CTRL.DEGRADED n))) (hw : w = resWord c (6 * n + j) false susp r.onTime n 0 slot)
    (hu : u = (s.modAdc n (fun y => { y with suspect := false, until_ := SMap.set 0 y.until_ j (SMap.get 0 (s.adcAt n).until_ j), refOfs := y.refOfs })).put (R.ADCn_RESj.WORD n j) w) (hen : u.on (R.ADCn_CTRL.EN n) = true) :
    State.adcEnd n v s =
      (u.modAdc n (fun y => { y with run := some { r with left := rest, words := r.words ++ [w] }, start := u.now })).showAdc n := by
  have hext : ¬ 6 ≤ j := by omega
  have hnotRef : j ≠ 6 := by omega
  have hnone : ((none : Option Nat) == some j) = false := rfl
  subst hc hsusp hw
  simp only [State.adcEnd, hrun, hleft, State.adcIndex_single hdiff, hdiff, hforce, hnone, hnotRef, hext, adcCode_inRange hlo hhi,
    hclear, hsrc, hslot, hj, bne_iff_ne.mpr hnotRef, State.adcDeliver, decide_false, false_and, and_self, Bool.not_false,
    Bool.and_true, Bool.or_false, Bool.false_eq_true, Nat.reduceEqDiff, ↓reduceIte, ← hu, hrest, hen,
    ne_eq, not_false_eq_true]

/-- A conversion above its range, the last one of a sequence's run: it is flagged, and the run ends. -/
theorem State.adcEnd_over (hleft : r.left = [(j, slot, q)]) (hhi : 65535 < v)
    (hw : w = resWord 65535 (6 * n + j) true (s.railIsLow 5 || (s.adcAt n).suspect || s.bit (R.ADCn_OVR.ACTIVE n) j ||
      decide ((s.adcAt n).start + 12 < SMap.get 0 (s.adcAt n).until_ j) || s.on (R.ADCn_CTRL.DEGRADED n)) r.onTime n 0 slot)
    (hu : u = ((((s.modAdc n (fun y => { y with suspect := true, until_ := SMap.set 0 y.until_ j (SMap.get 0 (s.adcAt n).until_ j) })).put
      (R.ADCn_RESj.WORD n j) w).adcOver n j 65535 0 slot).modAdc n (fun y => { y with run := none })).adcRunEnd n
        { r with left := [], words := r.words ++ [w] }) (hen : u.on (R.ADCn_CTRL.EN n) = true) :
    State.adcEnd n v s = u.adcKick n := by
  have hext : ¬ 6 ≤ j := by omega
  have hnotRef : j ≠ 6 := by omega
  have hnone : ((none : Option Nat) == some j) = false := rfl
  obtain ⟨src, num, left, onTime, since, words, stamp⟩ := r
  obtain rfl : src = 0 := hsrc
  obtain rfl : left = [(j, slot, q)] := hleft
  subst hw
  simp only [State.adcEnd, hrun, State.adcIndex_single hdiff, hdiff, hforce, hnone, hnotRef, hext, adcCode_over hhi,
    hslot, hj, bne_iff_ne.mpr hnotRef, State.adcDeliver, decide_false, false_and, Bool.not_true,
    Bool.and_false, Bool.and_true, Bool.false_eq_true, Nat.reduceEqDiff, ↓reduceIte, ← hu, hen,
    ne_eq, not_true_eq_false]

end conversion

/-- Settles O38: triggers by what runs and waits, and conversions by their run and their range. -/
theorem converters : Obligations.Converters := by
  refine ⟨?goes, ?ignored, ?idle, ?waits, ?dropped, ?check, ?goesOn, ?beyond, ?noRun, ?flush⟩
  case goes =>
    exact fun s i n k hg htrig => congrArg Host.Outcome.next ((State.act_grants hg 0x0C02 _ true _).trans (if_pos htrig))
  case ignored =>
    exact fun s i n k hg htrig => congrArg Host.Outcome.next ((State.act_grants hg 0x0C02 _ true _).trans (if_neg htrig))
  case idle => exact fun s n r hen hleft hidle hnew => State.adcTrigger_idle hen hleft hidle hnew
  case waits =>
    exact fun s n r g hen hleft hrun hsrc hother hnew hbegun => State.adcTrigger_waits hen hleft hrun hsrc hother hnew hbegun
  case dropped => exact fun s n r hen hleft hsrc hwaits => State.adcTrigger_dropped hen hleft hsrc hwaits
  case check => exact fun s n => rfl
  case goesOn =>
    rintro s u t n j w q slot c v r rest susp hrun hleft hrest hsrc hslot hj hdiff hforce hclear hlo hhi hc hsusp hw hu hen rfl hsup
    exact execAdcConversionEnd_ownResult
      (State.adcEnd_goesOn hrun hsrc hslot hj hdiff hforce hleft hrest hclear hlo hhi hc hsusp hw hu hen) hsup
  case beyond =>
    rintro s u t n j w q slot v r hrun hleft hsrc hslot hj hdiff hforce hhi hw hu hen rfl hsup
    exact execAdcConversionEnd_ownResult (State.adcEnd_over hrun hsrc hslot hj hdiff hforce hleft hhi hw hu hen) hsup
  case noRun =>
    intro s n v hidle hsup
    have hnothing : State.adcEnd n v s = s := by simp only [State.adcEnd, hidle]
    exact execAdcConversionEnd_ownResult hnothing hsup
  case flush => exact fun s i n hg => congrArg Host.Outcome.next (State.act_grants hg 0x0C02 _ true _)

/-! ### Sigma-delta inputs (R710 to R713) -/

/-- A code of 16 bits is not saturated. -/
theorem clampInt_code {v : Int} (hlo : -32768 ≤ v) (hhi : v ≤ 32767) : clampInt (-32768) 32767 v = v := by
  simp only [clampInt]
  omega

/-- A data output of an input that is not SUP's writes its word and its stamp and goes to its queue. -/
theorem execSdmDataOutput_inRange {s u t : State} {n w st : Nat} {v : Int} (hen : s.on (R.SDMn_CTRL.EN n) = true)
    (hact : s.on (R.SDMn_OVR.ACTIVE n) = false) (hlo : -32768 ≤ v) (hhi : v ≤ 32767)
    (hw : w = resWord (wrapInt 16 v) n false (s.railIsLow 5 || decide (0 < (s.sdmAt n).suspect) || s.on (R.SDMn_OVR.DEGRADED n)) true 0 0 0)
    (hst : st = (s.now + 4294967296 - ((3 * s.sdmDec n * s.sdmDiv + 2) / 4 + 8 + s.get (R.SDMn_LAT.NS n)) % 4294967296) % 4294967296)
    (hu : u = s.modSdm n (fun y => { y with suspect := y.suspect - 1 }))
    (ht : t = ((u.put (R.SDMn_RES.WORD n) w).put (R.SDMn_STAMP.STAMP n) st).sdmRecord n w st) (hsup : t.isSupSdm n = false) :
    exec (.sdmDataOutput n v) s = .next t := by
  have hdata : State.sdmData n v s = t := by
    subst hw hst hu ht
    simp only [State.sdmData, hen, hact, clampInt_code hlo hhi, Bool.or_false, Bool.true_eq_false, Bool.false_eq_true, ↓reduceIte]
  change execSdmDataOutput _ _ _ = _
  simp only [execSdmDataOutput, hdata, hsup, Bool.false_and, Bool.false_eq_true, ↓reduceIte, answer]

/-- A comparator value of an input that is not SUP's has the input's own effect. -/
theorem execSdmComparatorOutput_own {s t : State} {n : Nat} {v : Int} (ht : State.sdmCompare n v s = t) (hsup : t.isSupSdm n = false) :
    exec (.sdmComparatorOutput n v) s = .next t := by
  change execSdmComparatorOutput _ _ _ = _
  simp only [execSdmComparatorOutput, ht, hsup, Bool.false_and, Bool.false_eq_true, ↓reduceIte, answer]

section compare
variable {s : State} {n : Nat} {v : Int} (hen : s.on (R.SDMn_CTRL.EN n) = true) (hcmp : s.on (R.SDMn_CTRL.CMP_EN n) = true)
  (hlo : -32768 ≤ v) (hhi : v ≤ 32767)
include hen hcmp hlo hhi

/-- A value that rises above the high limit raises CMP_HI. -/
theorem State.sdmCompare_rises {u : State} (hbelow : s.on (R.SDMn_CMP.ABOVE n) = false) (habove : Sys2Proof.signed 16 (s.get (R.SDMn_CMP_LIM.HI n)) < v)
    (hlim : Sys2Proof.signed 16 (s.get (R.SDMn_CMP_LIM.LO n)) ≤ v) (hu : u = s.flag (R.SDMn_IRQ_PEND.CMP_HI n) true) : State.sdmCompare n v s =
      ((u.put (R.SDMn_CMP.VALUE n) (wrapInt 16 v)).flag (R.SDMn_CMP.ABOVE n) true).flag (R.SDMn_CMP.BELOW n) false := by
  simp only [State.sdmCompare, hen, hcmp, clampInt_code hlo hhi, habove, hbelow, Int.not_lt.mpr hlim, decide_true, decide_false,
    Bool.not_false, Bool.and_self, Bool.false_and, Bool.true_eq_false, Bool.false_eq_true, or_self, ↓reduceIte, ← hu]

/-- A value between the limits raises nothing. -/
theorem State.sdmCompare_between (htop : v ≤ Sys2Proof.signed 16 (s.get (R.SDMn_CMP_LIM.HI n))) (hlim : Sys2Proof.signed 16 (s.get (R.SDMn_CMP_LIM.LO n)) ≤ v) :
    State.sdmCompare n v s =
      ((s.put (R.SDMn_CMP.VALUE n) (wrapInt 16 v)).flag (R.SDMn_CMP.ABOVE n) false).flag (R.SDMn_CMP.BELOW n) false := by
  simp only [State.sdmCompare, hen, hcmp, clampInt_code hlo hhi, Int.not_lt.mpr htop, Int.not_lt.mpr hlim, decide_false,
    Bool.false_and, Bool.true_eq_false, Bool.false_eq_true, or_self, ↓reduceIte]

end compare

/-- Settles O39: data and comparator outputs of an input that is on, its saturation and its stuck input. -/
theorem sigmaDeltaInputs : Obligations.SigmaDeltaInputs := by
  refine ⟨?data, ?off, ?rises, ?between, ?saturates, ?recovers, ?stuck, ?flush⟩
  case data =>
    exact fun s u t n w st v hen hact hlo hhi hw hst hu ht hsup => execSdmDataOutput_inRange hen hact hlo hhi hw hst hu ht hsup
  case off =>
    intro s n v hoff
    constructor
    · change execSdmDataOutput _ _ _ = _
      simp only [execSdmDataOutput, State.sdmData, hoff, Bool.and_false, Bool.false_eq_true, ↓reduceIte, answer]
    · change execSdmComparatorOutput _ _ _ = _
      simp only [execSdmComparatorOutput, State.sdmCompare, hoff, true_or, Bool.and_false, Bool.false_and, Bool.false_eq_true,
        ↓reduceIte, answer]
  case rises =>
    rintro s u t n v hen hcmp hbelow hlo hhi habove hu - hlim rfl hsup
    exact execSdmComparatorOutput_own (State.sdmCompare_rises hen hcmp hlo hhi hbelow habove hlim hu) hsup
  case between =>
    rintro s t n v hen hcmp hlo hhi htop hlim rfl hsup
    exact execSdmComparatorOutput_own (State.sdmCompare_between hen hcmp hlo hhi htop hlim) hsup
  case saturates =>
    intro s u n l hen hact hu
    change execSdmSaturation _ _ _ _ = _
    simp only [execSdmSaturation, hen, hact, State.sdmSat, ← hu, Bool.true_eq_false, Bool.false_eq_true, ↓reduceIte, answer]
  case recovers =>
    intro s n l hen hact
    change execSdmSaturation _ _ _ _ = _
    simp only [execSdmSaturation, hen, hact, Bool.true_eq_false, Bool.false_eq_true, ↓reduceIte, answer]
  case stuck =>
    intro s u n c hen hu
    change execSdmStuck _ _ _ = _
    simp only [execSdmStuck, hen, ← hu, Bool.true_eq_false, ↓reduceIte, answer]
  case flush => exact fun s i n hg => congrArg Host.Outcome.next (State.act_grants hg 0x0C02 _ true _)

end Sys2Proof.Machine
end

section
/-! SUPPORT.
Supply supervision: its classification and its actions (O40, O41). -/

namespace Sys2Proof.Machine

/-! ### Classification (R726 to R729, R752) -/

/-- Samples change the class while classification is on and its source is good. -/
theorem State.supOn_of {s : State} (hen : s.on R.SUP_CTRL.EN = true) (hgood : s.on R.SUP_STATE.SRC_BAD = false) : s.supOn = true := by
  simp only [State.supOn, hen, hgood, Bool.not_false, Bool.and_self]

theorem State.supOn_eq_false {s : State} (h : s.on R.SUP_CTRL.EN = false ∨ s.on R.SUP_STATE.SRC_BAD = true) : s.supOn = false := by
  rcases h with hoff | hbad
  · rw [State.supOn, hoff, Bool.false_and]
  · rw [State.supOn, hbad, Bool.not_true, Bool.and_false]

/-- A dip begins from the class NORMAL: its counter, its cause and its action. -/
theorem State.supClassTo_dip {s u : State} (hclass : s.supClass = 0)
    (hu : u = (s.put R.SUP_STATE.CLASS 1).modSup (fun x => { x with runGap := 0, runClear := 0 })) :
    s.supClassTo 1 = (((u.inc R.SUP_CNT_EVT.DIP).supIrq R.SUP_IRQ_PEND.DIP).report 0 0x4402 0 (inVolts u.slow)).supMove 1 := by
  simp only [State.supClassTo, hclass, ← hu, Nat.reduceEqDiff, ↓reduceIte]

/-- A surge begins from the class NORMAL or DIP. -/
theorem State.supClassTo_surge {s u : State} (hclass : s.supClass ≤ 1)
    (hu : u = (s.put R.SUP_STATE.CLASS 3).modSup (fun x => { x with runGap := 0, runClear := 0 })) :
    s.supClassTo 3 =
      (((u.inc R.SUP_CNT_SURGE.SURGE).supIrq R.SUP_IRQ_PEND.SURGE).report 0 0x4403 0 (inVolts u.slow)).supMove 3 := by
  have hchanged : ¬ (3 = s.supClass) := by omega
  have hnoGap : ¬ (s.supClass = 2) := by omega
  simp only [State.supClassTo, hchanged, hnoGap, ← hu, Nat.reduceEqDiff, ↓reduceIte]

/-- Without the learning of Vn a step of it leaves the state as it is. -/
theorem State.learnVn_off {s : State} (hoff : (s.get R.SUP_CFG.LEARN).testBit 0 = false) : s.learnVn = s := by
  simp only [State.learnVn, hoff, true_or, or_true, ↓reduceIte]

/-- A step of the learning that stays within its bounds. -/
theorem State.learnVn_within {u : State} {lo hi n : Int} (hen : u.on R.SUP_CTRL.EN = true)
    (hlearn : (u.get R.SUP_CFG.LEARN).testBit 0 = true) (hst : u.supSt = 0) (hclass : u.supClass = 0)
    (hgood : u.on R.SUP_STATE.SRC_BAD = false)
    (hhi : hi = (u.get R.SUP_NOMINAL.MV : Int) * q32 * (100 + (u.get R.SUP_CFG.LEARN_BOUND : Int)) / 100)
    (hlo : lo = (u.get R.SUP_NOMINAL.MV : Int) * q32 * (100 - (u.get R.SUP_CFG.LEARN_BOUND : Int)) / 100)
    (hn : n = (u.supX.vn : Int) + rdiv (u.slow * q32 - (u.supX.vn : Int)) 10000) (habove : lo < n) (hbelow : n < hi) :
    u.learnVn = (u.setVn n.toNat).flag R.SUP_STATE.AT_BOUND false := by
  have hclamp : clampInt lo hi n = n := by
    simp only [clampInt]
    omega
  have hfree : ¬ (n = hi ∨ n = lo) := by omega
  simp only [State.learnVn, hen, hlearn, hst, hclass, hgood, ← hhi, ← hlo, ← hn, hclamp, hfree, decide_false, Bool.false_and,
    Bool.true_eq_false, Bool.false_eq_true, ne_eq, not_true_eq_false, or_self, ↓reduceIte]

/-- Each millisecond gives the rate of change, then a step of the learning. -/
theorem execSupMillisecond_measures {s u : State} (hsup : s.has .supp = true)
    (hu : u = (s.putI R.SUP_ROC.MV_MS (s.slow - s.supX.lastMs)).modSup (fun x => { x with lastMs := s.slow })) :
    exec .supMillisecond s = .next u.learnVn := by
  subst hu
  exact congrArg Host.Outcome.next (if_pos hsup)

/-- Settles O40: the results of EN and SUP_DETECT, a dip and a surge that are confirmed, and each millisecond. -/
theorem supplyClassification : Obligations.SupplyClassification := by
  refine ⟨?enabled, ?refused, ?disable, ?enable, ?detect, ?tooLong, ?locked, ?request, ?rate, ?learns, ?dip, ?surge, ?idle⟩
  case enabled =>
    intro s u i e hg hresult hu hchanges
    have hturns : s.supEn e = ((u.flag R.SUP_CTRL.EN e).modSup (fun x => { x with runGap := 0, runClear := 0 })).supEdge := by
      simp only [State.supEn, hresult, ← hu, ne_eq, not_true_eq_false, hchanges, or_self, ↓reduceIte]
    exact congrArg Host.Outcome.next ((State.act_grants hg 0x0C02 _ true _).trans hturns)
  case refused =>
    exact fun s i e hg hresult => congrArg Host.Outcome.next ((State.act_grants hg 0x0C02 _ true _).trans (if_pos (.inl hresult)))
  case disable =>
    intro s hsup
    rw [State.supEnResult, if_neg (by simp only [hsup, Bool.true_eq_false, not_false_eq_true]), if_pos rfl, ite_not]
  case enable =>
    intro s hsup hdet hsigned hsrc
    have hline : ¬ (s.supAc = true ∧ s.supSigned = false) := by
      rintro ⟨hac, hunsigned⟩
      rcases hsigned with hdc | hsg
      · exact absurd hac (by simp only [hdc, Bool.false_eq_true, not_false_eq_true])
      · exact absurd hunsigned (by simp only [hsg, Bool.true_eq_false, not_false_eq_true])
    simp only [State.supEnResult, hsup, Nat.not_lt.mpr hdet, hline, hsrc, Bool.true_eq_false, ↓reduceIte]
  case detect =>
    intro s i w hg hst hoff
    have htaken : s.supDetect w = s.putWord R.SUP_DETECT.GAP_N (w &&& 0x000FFFFF#32) := by
      simp only [State.supDetect, hst, hoff, ne_eq, not_true_eq_false, Bool.false_eq_true, false_and, ↓reduceIte]
    exact congrArg Host.Outcome.next ((State.act_grants hg 0x0C02 _ true _).trans htaken)
  case tooLong =>
    intro s i w hg hst hon hlong
    have hrefused : s.supDetect w = s.put R.SUP_CTRL.EN_RESULT 1 := by
      simp only [State.supDetect, hst, hon, hlong, ne_eq, not_true_eq_false, and_self, ↓reduceIte]
    exact congrArg Host.Outcome.next ((State.act_grants hg 0x0C02 _ true _).trans hrefused)
  case locked =>
    exact fun s i w hg hst => congrArg Host.Outcome.next ((State.act_grants hg 0x0C02 _ true _).trans (if_pos hst))
  case request =>
    exact fun s hsup hkind => congrArg Host.Outcome.next (if_pos (by rw [hsup, hkind]; rfl))
  case rate =>
    intro s u hsup hu hoff
    rw [execSupMillisecond_measures hsup hu, State.learnVn_off hoff]
  case learns =>
    rintro s u v lo hi n hsup hu hen hlearn hst hclass hgood hhi hlo hn habove hbelow rfl
    rw [execSupMillisecond_measures hsup hu, State.learnVn_within hen hlearn hst hclass hgood hhi hlo hn habove hbelow]
  case dip =>
    rintro s u v hen hgood hclass hlow hu rfl
    change execSupConfirmExpiry _ _ = _
    simp only [execSupConfirmExpiry, State.supOn_of hen hgood, hclass, hlow, State.supClassTo_dip hclass hu, and_self,
      Bool.true_eq_false, Bool.false_eq_true, ↓reduceIte, answer]
  case surge =>
    rintro s u v hen hgood hclass hhigh hu rfl
    change execSupConfirmExpiry _ _ = _
    simp only [execSupConfirmExpiry, State.supOn_of hen hgood, hclass, hhigh, State.supClassTo_surge hclass hu, and_self,
      Bool.true_eq_false, ↓reduceIte, answer]
  case idle =>
    intro s b hoff
    change execSupConfirmExpiry _ _ = _
    simp only [execSupConfirmExpiry, State.supOn_eq_false hoff, ↓reduceIte, answer]

/-! ### Ride-through actions and learning (R735 to R740, R748) -/

/-- A gap begins a stay from each state that is not one already. -/
theorem State.supMove_gap {s : State} (h : s.supSt = 0 ∨ s.supSt = 1 ∨ s.supSt = 4 ∨ s.supSt = 5) : s.supMove 2 = s.supTo 2 :=
  if_pos h

/-- The end of a gap leads from the stay to RECOVER. -/
theorem State.supMove_gapEnd {s : State} (hst : s.supSt = 2 ∨ s.supSt = 3) :
    s.supMove 0 = s.supTo 4 ∧ s.supMove 1 = s.supTo 4 ∧ s.supMove 2 = s := by
  have hstays : ¬ (s.supSt = 0 ∨ s.supSt = 1 ∨ s.supSt = 4 ∨ s.supSt = 5) := by omega
  exact ⟨if_pos hst, if_pos hst, if_neg hstays⟩

/-- A shedding trigger in KINETIC HOLD, in SHED and in every other state. -/
theorem State.supTrigger_hold {s : State} (hst : s.supSt = 2) : s.supTrigger = (s.put R.SUP_STATE.STATE 3).shedNext.supNotify :=
  if_pos hst

theorem State.supTrigger_shed {s : State} (hst : s.supSt = 3) : s.supTrigger = s.shedNext := by
  simp only [State.supTrigger, hst, Nat.reduceEqDiff, ↓reduceIte]

theorem State.supTrigger_other {s : State} (h2 : s.supSt ≠ 2) (h3 : s.supSt ≠ 3) : s.supTrigger = s := by
  rw [State.supTrigger, if_neg h2, if_neg h3]

/-- LP10 is written where a write is due or Vn has moved by a thousandth. -/
theorem execSupLp10Write_writes {s : State} (hsup : s.has .supp = true)
    (h : s.supX.lpDue = true ∨ s.supX.lpVn ≤ 1000 * (max s.vnMv s.supX.lpVn - min s.vnMv s.supX.lpVn)) :
    exec .supLp10Write s = .next s.lpWrite := by
  have hwanted : (s.supX.lpDue || decide (s.supX.lpVn ≤ 1000 * (max s.vnMv s.supX.lpVn - min s.vnMv s.supX.lpVn))) = true := by
    rw [Bool.or_eq_true, decide_eq_true_eq]
    exact h
  exact congrArg Host.Outcome.next (if_pos (by rw [hsup]; exact hwanted))

/-- Else it stays as it is. -/
theorem execSupLp10Write_waits {s : State} (hdue : s.supX.lpDue = false)
    (hnear : 1000 * (max s.vnMv s.supX.lpVn - min s.vnMv s.supX.lpVn) < s.supX.lpVn) : exec .supLp10Write s = .next s := by
  change execSupLp10Write _ = _
  simp only [execSupLp10Write, hdue, Nat.not_le.mpr hnear, decide_false, Bool.or_self, Bool.and_false, Bool.false_eq_true,
    ↓reduceIte, answer]

/-- Settles O41: the moves of the ride-through by its state, shedding and restore, learned data and dew. -/
theorem supplyActions : Obligations.SupplyActions := by
  refine ⟨?gap, ?gapEnd, ?firstShed, ?shed, ?noShed, ?group, ?restores, ?holds, ?restore, ?lastRestore, ?power, ?due, ?moved, ?waits,
    ?reset, ?noReset, ?dewClears, ?dewStays⟩
  case gap => exact fun s hst => State.supMove_gap hst
  case gapEnd => exact fun s hst => State.supMove_gapEnd hst
  case firstShed => exact fun s hst => congrArg Host.Outcome.next (State.supTrigger_hold hst)
  case shed => exact fun s hst => congrArg Host.Outcome.next (State.supTrigger_shed hst)
  case noShed => exact fun s h2 h3 => congrArg Host.Outcome.next (State.supTrigger_other h2 h3)
  case group =>
    intro s g hnext
    simp only [State.shedNext, hnext]
  case restores => exact fun s hst hclass hroc => congrArg Host.Outcome.next (if_pos ⟨hst, hclass, hroc⟩)
  case holds =>
    exact fun s hst => congrArg Host.Outcome.next (if_neg fun ⟨hhold, hclass, _⟩ => hst.elim (· hhold) (· hclass))
  case restore =>
    intro s hst hleft
    change execRestoreStep _ = _
    simp only [execRestoreStep, hst, hleft, ↓reduceIte, answer]
  case lastRestore =>
    intro s hst hleft
    change execRestoreStep _ = _
    simp only [execRestoreStep, hst, hleft, Bool.false_eq_true, ↓reduceIte, answer]
  case power =>
    rintro s u g t n d v hu hcand hset hlate rfl rfl rfl
    have hmeasured : ¬ (u.get R.SUP_STATE.KH_SET = 0 ∨ u.now < t + 3000000) := by
      rintro (hnone | hearly)
      · exact hset hnone
      · omega
    change execShedPowerMeasurement _ = _
    simp only [execShedPowerMeasurement, ← hu, hcand, hmeasured, Int.reduceMul, ↓reduceIte, answer]
  case due => exact fun s hsup hdue => execSupLp10Write_writes hsup (.inl hdue)
  case moved =>
    intro s hsup hmoved
    have hdistance : s.vnMv - s.supX.lpVn ≤ max s.vnMv s.supX.lpVn - min s.vnMv s.supX.lpVn := by omega
    exact execSupLp10Write_writes hsup (.inr (Nat.le_trans hmoved (Nat.mul_le_mul_left 1000 hdistance)))
  case waits => exact fun s hdue hnear => execSupLp10Write_waits hdue hnear
  case reset =>
    rintro s u v w i hg hst hsup rfl rfl rfl
    have hfree : ¬ (s.supSt ≠ 0 ∨ s.has .supp = false) := by
      simp only [hst, hsup, ne_eq, not_true_eq_false, Bool.true_eq_false, or_self, not_false_eq_true]
    exact congrArg Host.Outcome.next ((State.act_grants hg 0x0C02 _ true _).trans (if_neg hfree))
  case noReset =>
    exact fun s i hg hst => congrArg Host.Outcome.next ((State.act_grants hg 0x0C02 _ true _).trans (if_pos (.inl hst)))
  case dewClears => exact fun s hdew hdry => congrArg Host.Outcome.next (if_pos ⟨hdew, hdry⟩)
  case dewStays =>
    exact fun s hwet => congrArg Host.Outcome.next (if_neg fun ⟨_, hdry⟩ => Bool.false_ne_true (hdry.symm.trans hwet))

end Sys2Proof.Machine
end

section
/-! SUPPORT.
Current loops and capacitive sensing (O42, O43). -/

namespace Sys2Proof.Machine

/-! ### Current loops (R757 to R766) -/

/-- An output that is off or out of service is at code 0 with its flags and runs cleared. -/
theorem execCloRegulatorStep_off {s : State} {n : Nat} {vs vl : Int} (hclk : s.clocked = true)
    (hoff : s.on (R.CLOn_CTRL.EN n) = false ∨ s.on (R.CLOn_STAT.OUT_OF_SERVICE n) = true) :
    exec (.cloRegulatorStep n vs vl) s = .next ((((s.put (R.CLOn_DAC.CODE n) 0).flag (R.CLOn_STAT.COMPLIANCE n) false).flag
      (R.CLOn_STAT.RECOVERING n) false).modClo n (fun y => { y with low := 0, err := 0, good := 0, neg := 0, limS := 0, limV := 0, beyond := 0 })) := by
  change execCloRegulatorStep _ _ _ _ = _
  simp only [execCloRegulatorStep, hclk, hoff, Bool.true_eq_false, ↓reduceIte, answer]

/-- A step of an output that regulates, before it and after it outside of a shortfall, measures, follows and checks. -/
theorem execCloRegulatorStep_regulates {s u v w z : State} {n i : Nat} {vs vl loop h : Int} (hclk : s.clocked = true)
    (hen : s.on (R.CLOn_CTRL.EN n) = true) (hserved : s.on (R.CLOn_STAT.OUT_OF_SERVICE n) = false) (hfree : s.cloHeld n = false)
    (hsense : (s.cloAt n).injS = 0) (hhead : (s.cloAt n).injH = 0)
    (hi : i = (vs * 100 / (ohms (s.get (R.CLOn_CFG.RSENSE n)) : Int)).toNat)
    (hloop : loop = vl * (s.get (R.CLOn_CFG.LOOPV_DIV n) : Int) / 256000) (hh : h = loop - vs / 1000)
    (hunbound : (s.get (R.CLOn_CIO.CIO n)).testBit 7 = false)
    (hu : u = s.modClo n (fun y => { y with injS := y.injS - 1, injH := y.injH - 1, set := s.get (R.CLOn_SET.CODE n) }))
    (hv : v = ((u.put (R.CLOn_MEAS.UA n) (min i 65535)).put (R.CLOn_HEADROOM.MV n) (min h.toNat 65535)).put (R.CLOn_LOOPV.MV n)
      (min loop.toNat 65535))
    (hcomplies : v.on (R.CLOn_STAT.COMPLIANCE n) = false) (hw : w = (v.cloFollow n).cloCheck n i h)
    (hstill : w.on (R.CLOn_STAT.COMPLIANCE n) = false)
    (hz : z = w.cloFront n (decide (vs < -5000)) (decide (1250000 ≤ vs)) (decide (2500000 ≤ vl))
      (decide ((w.cloAt n).teff + 2000 * 1024 < 1024 * i)))
    (hrail : z.railIsLow 5 = false) :
    exec (.cloRegulatorStep n vs vl) s = .next ((z.put (R.CLOn_DAC.CODE n) z.freeW).took 1) := by
  have hruns : ¬ (s.on (R.CLOn_CTRL.EN n) = false ∨ s.on (R.CLOn_STAT.OUT_OF_SERVICE n) = true) := by
    simp only [hen, hserved, Bool.true_eq_false, Bool.false_eq_true, or_self, not_false_eq_true]
  change execCloRegulatorStep _ _ _ _ = _
  simp only [execCloRegulatorStep, hclk, hruns, hfree, hsense, hhead, hunbound, ← hi, ← hloop, ← hh, ← hu, ← hv, hcomplies,
    ← hw, hstill, ← hz, hrail, Nat.lt_irrefl, Bool.true_eq_false, Bool.false_eq_true, ↓reduceIte, answer]

/-- Settles O42: a step of a regulator, its target in and outside of a shortfall, and an input's mean. -/
theorem currentLoops : Obligations.CurrentLoops := by
  refine ⟨?off, ?regulates, ?shortTarget, ?target, ?measures, ?ignored, ?latch⟩
  case off => exact fun s n vs vl hclk hoff => execCloRegulatorStep_off hclk hoff
  case regulates =>
    exact fun s u v w z n i vs vl loop h hclk hen hserved hfree hsense hhead hi hloop hh hunbound hu hv hcomplies hw hstill hz hrail =>
      execCloRegulatorStep_regulates hclk hen hserved hfree hsense hhead hi hloop hh hunbound hu hv hcomplies hw hstill hz hrail
  case shortTarget => exact fun s n hshort => if_pos hshort
  case target =>
    intro s n hcomplies hsettled
    simp only [State.cloTarget, hcomplies, hsettled, Bool.false_eq_true, ↓reduceIte]
  case measures =>
    intro s u m mean v l hclk hen hfree hl hmean hu
    change execCliMeasurement _ _ _ = _
    simp only [execCliMeasurement, hclk, hen, hfree, ← hl, ← hmean, ← hu, Nat.lt_irrefl, Bool.true_eq_false, or_self,
      ↓reduceIte, answer]
  case ignored => exact fun s m v hoff => congrArg Host.Outcome.next (if_pos hoff)
  case latch => exact fun s m => rfl

/-! ### Scans (R777 to R785) -/

/-- A scan outside of a load of the baselines takes the noise, each key and each channel. -/
theorem execCapScan_scans {s u v w : State} {c : CapScan} (hen : s.on R.CAP_CTRL.EN = true) (hclk : s.clocked = true)
    (hu : u = s.scanStart.putI R.CAP_TEMP.T c.temp) (hload : u.capX.load = []) (hv : v = u.scanNoise c)
    (hw : w = v.forEach v.keysIn (fun k t => t.scanKey c false k)) :
    exec (.capScan c) s = .next (w.forEach w.snsIn (fun n t => t.scanSns c false n)).showFault.capEdge := by
  change execCapScan _ _ = _
  simp only [execCapScan, hen, hclk, ← hu, hload, ← hv, ← hw, Bool.true_eq_false, or_self, ↓reduceIte, answer]

/-- A scan of such a load that is not its last one loads the baselines at its frequency. -/
theorem execCapScan_loads {s u v w x y : State} {c : CapScan} {f g : Nat} {l : List Nat} (hen : s.on R.CAP_CTRL.EN = true)
    (hclk : s.clocked = true) (hu : u = s.scanStart.putI R.CAP_TEMP.T c.temp) (hload : u.capX.load = f :: g :: l)
    (hv : v = (u.scanNoise c).modCap (fun x => { x with hopN := 0, hopTo := none }))
    (hw : w = v.forEach v.keysIn (fun k t => t.scanKey c true k)) (hx : x = w.forEach w.snsIn (fun n t => t.scanSns c true n))
    (hy : y = x.modCap (fun z => { z with load := g :: l })) : exec (.capScan c) s = .next y.showFault.capEdge := by
  change execCapScan _ _ = _
  simp only [execCapScan, hen, hclk, ← hu, hload, ← hv, ← hw, ← hx, ← hy, Bool.true_eq_false, or_self, reduceCtorEq, ↓reduceIte,
    answer]

/-! ### EN and GLOVE (R777, R779, R791, R795) -/

/-- EN without CAPS records. -/
theorem State.capEn_absent {s : State} {g : Bool} (hcap : s.has .caps = false) : s.capEn true g = s.put R.CAP_CTRL.EN_RESULT 2 :=
  if_pos ⟨rfl, hcap⟩

section present
variable {s : State} {g : Bool} (hcap : s.has .caps = true)
include hcap

/-- EN with a scan time that SCAN_US does not hold. -/
theorem State.capEn_tooSlow (hslow : s.get R.CAP_SCAN.SCAN_US * 1000 < s.scanTime g) :
    s.capEn true g = s.put R.CAP_CTRL.EN_RESULT 1 := by
  simp only [State.capEn, hcap, hslow, Bool.true_eq_false, and_false, true_or, and_self, ↓reduceIte]

/-- EN of a block that was off loads the baselines. -/
theorem State.capEn_loads {u v : State} (hoff : s.on R.CAP_CTRL.EN = false) (hfits : s.scanTime g ≤ s.get R.CAP_SCAN.SCAN_US * 1000)
    (hu : u = ((s.put R.CAP_CTRL.EN_RESULT 0).flag R.CAP_CTRL.EN true).flag R.CAP_CTRL.GLOVE g)
    (hv : v = u.forEach u.linked (fun n t => t.flag (R.SNSn_STAT.AT_DEW n) true)) : s.capEn true g =
      (v.modCap (fun x => { x with film := x.film.map (fun f => { f with sum := 0, n := 0 }) })).startLoad := by
  simp only [State.capEn, hcap, Nat.not_lt.mpr hfits, hoff, ← hu, ← hv, Bool.true_eq_false, Bool.not_false, Bool.and_self, and_false,
    ↓reduceIte]

end present

/-- EN of 0 with GLOVE as it is releases every key and channel. -/
theorem State.capEn_releases {s u : State} (hen : s.on R.CAP_CTRL.EN = true)
    (hu : u = ((s.put R.CAP_CTRL.EN_RESULT 0).flag R.CAP_CTRL.EN false).flag R.CAP_CTRL.GLOVE (s.on R.CAP_CTRL.GLOVE)) :
    s.capEn false (s.on R.CAP_CTRL.GLOVE) = (u.releaseAll.modCap (fun x => { x with load := [] })).capEdge := by
  simp only [State.capEn, hen, ← hu, ne_eq, not_true_eq_false, Bool.false_eq_true, Bool.not_true, Bool.not_false,
    Bool.and_self, false_and, or_self, ↓reduceIte]

/-! ### The reference of a film channel and SLEEP (R781, R784) -/

section reference
variable {s : State} {n raw : Nat}

/-- A film channel that is present while the block is on. -/
theorem film_checked (hpresent : s.on (R.SNSn_CFG.PRESENT n) = true) (hrole : s.on (R.SNSn_CFG.ROLE n) = true)
    (hen : s.on R.CAP_CTRL.EN = true) : (s.on (R.SNSn_CFG.PRESENT n) && s.on (R.SNSn_CFG.ROLE n) && s.on R.CAP_CTRL.EN) = true := by
  rw [hpresent, hrole, hen]
  rfl

/-- A reference below 9.8 pF and one above 10.2 pF. -/
theorem execFilmReferenceCheck_low (hin : (s.on (R.SNSn_CFG.PRESENT n) && s.on (R.SNSn_CFG.ROLE n) && s.on R.CAP_CTRL.EN) = true)
    (hlow : raw * 320 < 156800 * s.nper n) :
    exec (.filmReferenceCheck n raw) s = .next (s.report s.capBay 0x4C01 (0x40 + n) (1 + 65536 * (raw % 65536))) :=
  congrArg Host.Outcome.next ((if_pos hin).trans (if_pos hlow))

theorem execFilmReferenceCheck_high (hin : (s.on (R.SNSn_CFG.PRESENT n) && s.on (R.SNSn_CFG.ROLE n) && s.on R.CAP_CTRL.EN) = true)
    (hhigh : 163200 * s.nper n < raw * 320) :
    exec (.filmReferenceCheck n raw) s = .next (s.report s.capBay 0x4C02 (0x40 + n) (1 + 65536 * (raw % 65536))) := by
  have hnotLow : ¬ (raw * 320 < 156800 * s.nper n) := by omega
  exact congrArg Host.Outcome.next ((if_pos hin).trans ((if_neg hnotLow).trans (if_pos hhigh)))

/-- Between them it stands. -/
theorem execFilmReferenceCheck_good (hlow : 156800 * s.nper n ≤ raw * 320) (hhigh : raw * 320 ≤ 163200 * s.nper n) :
    exec (.filmReferenceCheck n raw) s = .next s := by
  change execFilmReferenceCheck _ _ _ = _
  simp only [execFilmReferenceCheck, Nat.not_lt.mpr hlow, Nat.not_lt.mpr hhigh, ↓reduceIte, ite_self, answer]

end reference

/-- What the slow scan of SLEEP needs. -/
theorem slowScan_enabled {s : State} (hphase : s.sys.phase = .sleep ∨ s.sys.phase = .sleepStopped) (hwake : (s.get R.SYS_WAKE_EN.EN).testBit 0 = true)
    (hcap : s.has .caps = true) (hgang : C.CAPS0.SLEEP_GANG (s.rec1 .caps 0) ≠ 0) :
    ((s.sys.phase == .sleep || s.sys.phase == .sleepStopped) && (s.get R.SYS_WAKE_EN.EN).testBit 0 && s.has .caps &&
      C.CAPS0.SLEEP_GANG (s.rec1 .caps 0) != 0) = true := by
  rw [hwake, hcap, bne_iff_ne.mpr hgang]
  rcases hphase with h | h <;> rw [h] <;> rfl

section slowScan
variable {s u : State} {raw : Nat} (hphase : s.sys.phase = .sleep ∨ s.sys.phase = .sleepStopped)
  (hwake : (s.get R.SYS_WAKE_EN.EN).testBit 0 = true) (hcap : s.has .caps = true) (hgang : C.CAPS0.SLEEP_GANG (s.rec1 .caps 0) ≠ 0)
  (hu : u = s.put R.CAP_SLEEP_RAW.RAW (raw % 65536))
include hphase hwake hcap hgang hu

/-- The first slow scan of SLEEP takes its baseline. -/
theorem execSleepSlowScan_first (hfirst : u.capX.slow = false) : exec (.sleepSlowScan raw) s =
    .next ((u.put R.CAP_SLEEP_RAW.BASE (raw % 65536)).modCap (fun x => { x with slow := true, slowN := 0 })) := by
  change execSleepSlowScan _ _ = _
  simp only [execSleepSlowScan, slowScan_enabled hphase hwake hcap hgang, ← hu, hfirst, Bool.true_eq_false, ↓reduceIte, answer]

/-- The SLEEP_N-th slow scan in a row below the baseline by the threshold wakes the device. -/
theorem execSleepSlowScan_wakes {v : State} (hlater : u.capX.slow = true) (hthresh : 0 < u.get R.CAP_SLEEP.SLEEP_THRESH)
    (htouch : raw % 65536 + u.get R.CAP_SLEEP.SLEEP_THRESH ≤ u.get R.CAP_SLEEP_RAW.BASE)
    (hv : v = u.modCap (fun x => { x with slowN := u.capX.slowN + 1 })) (hcount : max 1 (v.get R.CAP_SLEEP.SLEEP_N) ≤ u.capX.slowN + 1) :
    exec (.sleepSlowScan raw) s = .next ((v.modCap (fun x => { x with slowN := 0 })).wakeEvent 1) := by
  have hreaches : (u.get R.CAP_SLEEP.SLEEP_THRESH : Int) ≤ (u.get R.CAP_SLEEP_RAW.BASE : Int) - ((raw % 65536 : Nat) : Int) := by omega
  have hheld : ¬ (2 * ((u.get R.CAP_SLEEP_RAW.BASE : Int) - ((raw % 65536 : Nat) : Int)) < (u.get R.CAP_SLEEP.SLEEP_THRESH : Int)) := by
    omega
  change execSleepSlowScan _ _ = _
  simp only [execSleepSlowScan, slowScan_enabled hphase hwake hcap hgang, ← hu, hlater, hreaches, hheld, ← hv, hcount,
    Bool.true_eq_false, ↓reduceIte, answer]

end slowScan

/-- Settles O43: scans, EN and its results, the loads of baselines and records, the reference check and the slow scan. -/
theorem capacitiveSensing : Obligations.CapacitiveSensing := by
  refine ⟨?idle, ?scans, ?loads, ?absent, ?tooSlow, ?enables, ?releases, ?recal, ?noRecal, ?reload, ?timeout, ?low, ?high, ?good,
    ?first, ?wakes⟩
  case idle => exact fun s c hoff => congrArg Host.Outcome.next (if_pos hoff)
  case scans => exact fun s u v w c hen hclk hu hload hv hw => execCapScan_scans hen hclk hu hload hv hw
  case loads => exact fun s u v w x y c f g l hen hclk hu hload hv hw hx hy => execCapScan_loads hen hclk hu hload hv hw hx hy
  case absent =>
    exact fun s i g hg hcap => congrArg Host.Outcome.next ((State.act_grants hg 0x0C02 _ true _).trans (State.capEn_absent hcap))
  case tooSlow =>
    exact fun s i g hg hcap hslow =>
      congrArg Host.Outcome.next ((State.act_grants hg 0x0C02 _ true _).trans (State.capEn_tooSlow hcap hslow))
  case enables =>
    exact fun s u v i g hg hcap hoff hfits hu hv =>
      congrArg Host.Outcome.next ((State.act_grants hg 0x0C02 _ true _).trans (State.capEn_loads hcap hoff hfits hu hv))
  case releases =>
    exact fun s u i hg hen hu =>
      congrArg Host.Outcome.next ((State.act_grants hg 0x0C02 _ true _).trans (State.capEn_releases hen hu))
  case recal =>
    exact fun s i hg hen => congrArg Host.Outcome.next ((State.act_grants hg 0x0C02 _ true _).trans (if_pos hen))
  case noRecal =>
    exact fun s i hg hoff =>
      congrArg Host.Outcome.next ((State.act_grants hg 0x0C02 _ true _).trans (if_neg (by rw [hoff]; exact Bool.false_ne_true)))
  case reload => exact fun s i hg => congrArg Host.Outcome.next (State.act_grants hg 0x0C02 _ true _)
  case timeout => exact fun s => rfl
  case low => exact fun s n r hpresent hrole hen hlow => execFilmReferenceCheck_low (film_checked hpresent hrole hen) hlow
  case high => exact fun s n r hpresent hrole hen hhigh => execFilmReferenceCheck_high (film_checked hpresent hrole hen) hhigh
  case good => exact fun s n r hlow hhigh => execFilmReferenceCheck_good hlow hhigh
  case first =>
    exact fun s u r hphase hwake hcap hgang hu hfirst => execSleepSlowScan_first hphase hwake hcap hgang hu hfirst
  case wakes =>
    exact fun s u v r hphase hwake hcap hgang hu hlater hthresh htouch hv hcount =>
      execSleepSlowScan_wakes hphase hwake hcap hgang hu hlater hthresh htouch hv hcount

end Sys2Proof.Machine
end

section
/-! SUPPORT.
Inventories of the identity reader (O44). -/

namespace Sys2Proof.Machine

/-! ### Starts (R805, R817) -/

section command
variable {s : State} {a p : Nat} {o : Bool} (hen : s.on R.TAG_CTRL.EN = true)
include hen

/-- A valid command on an idle reader starts an inventory. -/
theorem State.tagCmd_starts (hidle : s.on R.TAG_INV_STAT.RUNNING = false) (ha : a < 256) (hsome : 0 < a) (hproto : 0 < p) (hp : p < 4)
    (hants : andNot a (s.get R.TAG_CFG.ANT_MASK) = 0) (hprotos : andNot p (s.get R.TAG_CFG.PROTO) = 0) (htags : s.has .tags = true) :
    s.tagCmd a p o = s.tagStart a p o false := by
  simp only [State.tagCmd, hen, hidle, Nat.mod_eq_of_lt ha, Nat.mod_eq_of_lt hp, Nat.ne_of_gt hsome, Nat.ne_of_gt hproto, hants,
    hprotos, htags, Bool.true_eq_false, Bool.false_eq_true, ne_eq, not_true_eq_false, or_self, ↓reduceIte]

/-- A command while an inventory runs is counted. -/
theorem State.tagCmd_running (hrun : s.on R.TAG_INV_STAT.RUNNING = true) : s.tagCmd a p o = s.inc R.TAG_CNT2.IGNORED := by
  simp only [State.tagCmd, hen, hrun, Bool.true_eq_false, ↓reduceIte]

/-- A command that names no antenna ends with RESULT 4. -/
theorem State.tagCmd_noAntenna (hidle : s.on R.TAG_INV_STAT.RUNNING = false) :
    s.tagCmd 0 p o = ((s.flag R.TAG_INV_STAT.BOOT false).put R.TAG_INV_STAT.RECORDS 0).tagEnd 3 4 := by
  simp only [State.tagCmd, hen, hidle, Nat.zero_mod, Bool.true_eq_false, Bool.false_eq_true, true_or, ↓reduceIte]

end command

/-- The period of an idle reader starts an inventory of every antenna and protocol. -/
theorem execTagAutoInventory_starts {s : State} (hen : s.on R.TAG_CTRL.EN = true) (hperiod : s.get R.TAG_AUTO.PERIOD_S ≠ 0)
    (htags : s.has .tags = true) (hidle : s.on R.TAG_INV_STAT.RUNNING = false) :
    exec .tagAutoInventory s = .next (s.tagStart (s.get R.TAG_CFG.ANT_MASK) (s.get R.TAG_CFG.PROTO) false false) := by
  change execTagAutoInventory _ = _
  simp only [execTagAutoInventory, State.tagGo, hen, bne_iff_ne.mpr hperiod, htags, hidle, Bool.and_self, Bool.false_eq_true,
    ↓reduceIte, answer]

/-! ### From phase to phase (R801 to R803) -/

section phases
variable {s : State} {r : TagRun} (hrun : s.tagX.run = some r)
include hrun

section check
variable (hphase : r.phase = .check)
include hphase

/-- A receiver check that does not decode ends the inventory with RESULT 5. -/
theorem execReceiverCheckEnd_fails {u : State} {k : Nat} (hk : k ≠ 0)
    (hu : u = (s.modTag (fun x => { x with injRx := false })).flag R.TAG_IRQ_PEND.RX_FAULT true) : exec (.receiverCheckEnd k) s =
      .next ((u.report (State.tagBay (s.modTag (fun x => { x with injRx := false }))) 0x5002 0xFF (if k = 2 then 1 else 0)).tagEnd 3 5) := by
  change execReceiverCheckEnd _ _ = _
  simp only [execReceiverCheckEnd, hrun, hphase, hk, ← hu, ne_eq, not_true_eq_false, not_false_eq_true, true_or, ↓reduceIte, answer]

/-- A good check leads to the settling of the antenna switch where that is longer than the field's own. -/
theorem execReceiverCheckEnd_passes {a : Nat} (hgood : s.tagX.injRx = false) (hant : s.nextAnt r.ants = some a) :
    exec (.receiverCheckEnd 0) s =
      .next (if 200 < s.get R.TAG_TIMING.ANT_SETTLE then s.setRun { r with phase := .antenna } else s.tagField r) := by
  change execReceiverCheckEnd _ _ = _
  simp only [execReceiverCheckEnd, hrun, hphase, hgood, hant, Option.isNone_some, ne_eq, not_true_eq_false, Bool.false_eq_true,
    or_self, ↓reduceIte, answer]

end check

/-- The antenna settled: the field switches on. -/
theorem execAntSettleEnd_field (hphase : r.phase = .antenna) (hserved : s.on R.TAG_ANT_STAT.READER_OOS = false) :
    exec .antSettleEnd s = .next ((s.modTag (fun x => { x with fieldOn := true })).setRun { r with phase := .field }) := by
  change execAntSettleEnd _ = _
  simp only [execAntSettleEnd, State.tagField, hrun, hphase, hserved, Bool.false_eq_true, ↓reduceIte, answer]

/-- A load outside of 25 Ω to 100 Ω fails the antenna. -/
theorem execAntennaLoadFault_fails {k : Nat} (hphase : r.phase = .field) (hload : k < 250 ∨ 1000 < k) :
    exec (.antennaLoadFault k) s = .next (s.tagLoad r k) := by
  have hbad : ¬ (250 ≤ k ∧ k ≤ 1000) := by omega
  change execAntennaLoadFault _ _ = _
  simp only [execAntennaLoadFault, hrun, hphase, hbad, ne_eq, not_true_eq_false, or_self, ↓reduceIte, answer]

/-- The field settled and its load good: the first round of the antenna opens. -/
theorem execFieldSettleEnd_opens {u : State} {g : TagRun} (hphase : r.phase = .field) (hgood : s.tagX.injLoad = false)
    (hg : g = TagRun.openRound { r with tried := true } (if r.protos.testBit 0 then 0 else 1))
    (hu : u = s.clrB R.TAG_ANT_STAT.FAULT r.ant) : exec .fieldSettleEnd s = .next ((u.setRun g).showQ g) := by
  subst hg hu
  change execFieldSettleEnd _ = _
  simp only [execFieldSettleEnd, hrun]
  rw [if_neg (not_not_intro hphase), if_neg (by rw [hgood]; exact Bool.false_ne_true)]
  rfl

/-! ### Slots (R806, R808, R809) -/

section slots
variable (hphase : r.phase = .slot)
include hphase

/-- An empty ISO/IEC 15693 slot after which the round goes on. -/
theorem execTagSlot_isoEmpty {u : State} {g : TagRun} (hproto : r.proto = 0)
    (hslot : isoSlot { r with slots := r.slots + 1 } .empty = (g, false)) (hu : u = s.showQ g)
    (hfew : g.found < u.get R.TAG_CFG.MAX_TAGS) (hshort : g.slots < 4096) (hgoes : g.abort = false) :
    exec (.tagSlot .empty) s = .next (u.setRun g) := by
  obtain ⟨phase, ants, ant, protos, slots1, proto, reqs, kids, len, mask, one, slot, qfp, q, frame, heard, slots, found, tried, began,
    abort⟩ := r
  obtain rfl : proto = 0 := hproto
  obtain rfl : phase = .slot := hphase
  change execTagSlot .empty s = _
  simp only [execTagSlot, State.tagCount, hrun, hslot, ← hu, Nat.not_le.mpr hfew, Nat.not_le.mpr hshort, hgoes, ne_eq,
    not_true_eq_false, decide_false, Bool.or_self, Bool.and_false, Bool.false_and, Bool.false_eq_true, false_and, ↓reduceIte, answer]

/-- A reply in a Mode 3 slot after which the round goes on: its identifier is stored. -/
theorem execTagSlot_modeReply {u v : State} {g : TagRun} {b k l : Nat} {d : List Byte} (hproto : r.proto = 1) (hlong : 16 ≤ b)
    (hstore : s.tagStore r b d l = (u, k))
    (hslot : modeSlot (u.get R.TAG_CFG.Q_STEP) { r with found := k, slots := r.slots + 1 } (.reply b d l) = (g, false))
    (hv : v = u.showQ g) (hfew : g.found < v.get R.TAG_CFG.MAX_TAGS) (hshort : g.slots < 4096) (hgoes : g.abort = false) :
    exec (.tagSlot (.reply b d l)) s = .next (v.setRun g) := by
  obtain ⟨phase, ants, ant, protos, slots1, proto, reqs, kids, len, mask, one, slot, qfp, q, frame, heard, slots, found, tried, began,
    abort⟩ := r
  obtain rfl : proto = 1 := hproto
  obtain rfl : phase = .slot := hphase
  change execTagSlot (.reply b d l) s = _
  simp only [execTagSlot, State.tagCount, hrun, Nat.not_lt.mpr hlong, hstore, hslot, ← hv, Nat.not_le.mpr hfew,
    Nat.not_le.mpr hshort, hgoes, ne_eq, not_true_eq_false, decide_false, Bool.or_self, Bool.and_false, Bool.false_and, and_false,
    Nat.reduceEqDiff, Bool.false_eq_true, false_and, ↓reduceIte, answer]

/-- An empty Mode 3 slot that ends the round. -/
theorem execTagSlot_modeEnd {u : State} {g : TagRun} (hproto : r.proto = 1)
    (hslot : modeSlot (s.get R.TAG_CFG.Q_STEP) { r with slots := r.slots + 1 } .empty = (g, true)) (hu : u = s.showQ g)
    (hgoes : g.abort = false) : exec (.tagSlot .empty) s = .next (u.tagNext g) := by
  obtain ⟨phase, ants, ant, protos, slots1, proto, reqs, kids, len, mask, one, slot, qfp, q, frame, heard, slots, found, tried, began,
    abort⟩ := r
  obtain rfl : proto = 1 := hproto
  obtain rfl : phase = .slot := hphase
  change execTagSlot .empty s = _
  simp only [execTagSlot, State.tagCount, hrun, hslot, ← hu, hgoes, ne_eq, not_true_eq_false, Bool.not_true, Bool.false_and,
    Bool.true_or, Nat.reduceEqDiff, Bool.false_eq_true, false_and, ↓reduceIte, answer]

end slots

/-! ### The end (R814, R819) -/

/-- An inventory that tried an antenna ends complete, or aborted. -/
theorem execTagInventoryDone_ends (hphase : r.phase = .ended) (hserved : s.on R.TAG_ANT_STAT.READER_OOS = false)
    (htried : r.tried = true) : exec .tagInventoryDone s = .next (s.tagEnd (if r.abort then 5 else 1) 0) := by
  change execTagInventoryDone _ = _
  simp only [execTagInventoryDone, hrun, hphase, hserved, htried, ne_eq, not_true_eq_false, Bool.false_eq_true,
    Bool.true_eq_false, ↓reduceIte, answer]

/-- An abort before the first round ends the inventory at once, one within a slot waits for its end. -/
theorem State.tagAbort_early (hearly : r.began = false) : s.tagAbort = s.tagEnd 2 0 := by
  simp only [State.tagAbort, hrun, hearly, ↓reduceIte]

theorem State.tagAbort_slot (hbegan : r.began = true) (hphase : r.phase = .slot) : s.tagAbort = s.setRun { r with abort := true } := by
  simp only [State.tagAbort, hrun, hbegan, hphase, Bool.true_eq_false, ↓reduceIte]

end phases

/-- Settles O44: how an inventory starts, its phases and slots, its abort and its end. -/
theorem identityReader : Obligations.IdentityReader := by
  refine ⟨?starts, ?running, ?noAntenna, ?off, ?auto, ?checkFails, ?settles, ?field, ?settled, ?load, ?opens, ?isoEmpty, ?modeReply,
    ?modeEnd, ?done, ?abortEarly, ?abortSlot⟩
  case starts =>
    exact fun s i a p o hg hen hidle ha hsome hproto hp hants hprotos htags => congrArg Host.Outcome.next
      ((State.act_grants hg 0x0C02 _ true _).trans (State.tagCmd_starts hen hidle ha hsome hproto hp hants hprotos htags))
  case running =>
    exact fun s i a p o hg hen hrun =>
      congrArg Host.Outcome.next ((State.act_grants hg 0x0C02 _ true _).trans (State.tagCmd_running hen hrun))
  case noAntenna =>
    exact fun s i p o hg hen hidle =>
      congrArg Host.Outcome.next ((State.act_grants hg 0x0C02 _ true _).trans (State.tagCmd_noAntenna hen hidle))
  case off =>
    exact fun s i a p o hg hoff => congrArg Host.Outcome.next ((State.act_grants hg 0x0C02 _ true _).trans (if_pos hoff))
  case auto => exact fun s hen hperiod htags hidle => execTagAutoInventory_starts hen hperiod htags hidle
  case checkFails => exact fun s u r k hrun hphase hk hu => execReceiverCheckEnd_fails hrun hphase hk hu
  case settles =>
    intro s r a hrun hphase hgood hant hlong
    rw [execReceiverCheckEnd_passes hrun hphase hgood hant, if_pos hlong]
  case field =>
    intro s r a hrun hphase hgood hant hshort
    rw [execReceiverCheckEnd_passes hrun hphase hgood hant, if_neg (Nat.not_lt.mpr hshort)]
  case settled => exact fun s r hrun hphase hserved => execAntSettleEnd_field hrun hphase hserved
  case load => exact fun s r k hrun hphase hload => execAntennaLoadFault_fails hrun hphase hload
  case opens => exact fun s u r g hrun hphase hgood hg hu => execFieldSettleEnd_opens hrun hphase hgood hg hu
  case isoEmpty =>
    exact fun s u r g hrun hphase hproto hslot hu hfew hshort hgoes =>
      execTagSlot_isoEmpty hrun hphase hproto hslot hu hfew hshort hgoes
  case modeReply =>
    exact fun s u v r g b k l d hrun hphase hproto hlong hstore hslot hv hfew hshort hgoes =>
      execTagSlot_modeReply hrun hphase hproto hlong hstore hslot hv hfew hshort hgoes
  case modeEnd =>
    exact fun s u r g hrun hphase hproto hslot hu hgoes => execTagSlot_modeEnd hrun hphase hproto hslot hu hgoes
  case done => exact fun s r hrun hphase hserved htried => execTagInventoryDone_ends hrun hphase hserved htried
  case abortEarly =>
    exact fun s i r hg hrun hearly =>
      congrArg Host.Outcome.next ((State.act_grants hg 0x0C02 _ true _).trans (State.tagAbort_early hrun hearly))
  case abortSlot =>
    exact fun s i r hg hrun hbegan hphase =>
      congrArg Host.Outcome.next ((State.act_grants hg 0x0C02 _ true _).trans (State.tagAbort_slot hrun hbegan hphase))

end Sys2Proof.Machine
end

section
/-! SUPPORT.
Pin commits and GPIO (O45), frames of HIF-SPI (O46) and the command that a step runs (O1). -/

namespace Sys2Proof.Machine

/-! ### Commits (R830 to R833) -/

section commit
variable {s u : State} {b : Nat} (hu : u = s.put (R.PINb_COMMIT.ARMED b) 0)
include hu

/-- The first pin that may not be committed fails the commit with its reason. -/
theorem State.commitBay_fails {p : Nat}
    (hbad : (indices 128 (fun p => u.ownPin p == some b)).find? (fun p => u.pinReason b p != 0) = some p) : s.commitBay b =
      ((u.put (R.PINb_COMMIT_STAT.STATUS b) 3).put (R.PINb_COMMIT_STAT.RESULT b) (u.pinReason b p)).put (R.PINb_COMMIT_STAT.PIN b) p := by
  subst hu
  change (indices 128 (fun p => s.ownPin p == some b)).find? (fun p => (s.put (R.PINb_COMMIT.ARMED b) 0).pinReason b p != 0) = some p
    at hbad
  simp only [State.commitBay]
  split
  next q hq => rw [Option.some.inj (hq.symm.trans hbad)]
  next hnone => exact absurd (hnone.symm.trans hbad) (Option.some_ne_none p).symm

/-- Where no pin has a reason, each pin that changes takes its shadow. -/
theorem State.commitBay_done {v : State}
    (hgood : (indices 128 (fun p => u.ownPin p == some b)).all (fun p => u.pinReason b p == 0) = true)
    (hv : v = ((u.put (R.PINb_COMMIT_STAT.STATUS b) 1).put (R.PINb_COMMIT_STAT.RESULT b) 0).put (R.PINb_COMMIT_STAT.PIN b) 0) :
    s.commitBay b =
      v.forEach (indices 128 (fun p => s.ownPin p == some b && s.pinShadow p != s.pinActive p)) (fun p u => u.commitPin p) := by
  have hnone : (indices 128 (fun p => u.ownPin p == some b)).find? (fun p => u.pinReason b p != 0) = none := by
    rw [List.find?_eq_none]
    intro p hp
    simp only [beq_iff_eq.mp (List.all_eq_true.mp hgood p hp), bne_self_eq_false, Bool.false_eq_true, not_false_eq_true]
  subst hu hv
  change (indices 128 (fun p => s.ownPin p == some b)).find? (fun p => (s.put (R.PINb_COMMIT.ARMED b) 0).pinReason b p != 0) = none
    at hnone
  simp only [State.commitBay]
  split
  next q hq => exact absurd (hq.symm.trans hnone) (Option.some_ne_none q)
  next => rfl

end commit

section switch
variable {s : State} {p : Nat} {l : Bool}

/-- The end of a park interval with the pad at its park level, or with a park state that does not drive it. -/
theorem execPinCommitSwitch_moves {u v : State} {m : PinMove} (hmove : s.pin.moves.find? (fun m => m.pin == p) = some m)
    (hread : s.flt.corrupt.contains (0x0803, p) = false) (hpark : parkLevel m.oldPark = none ∨ parkLevel m.oldPark = some l)
    (hu : u = ((s.dropMoves p).setActive p m.target).flag (R.PINp_ACTIVE.PARKED p) false) (hrail : u.railIsLow (p / 32) = false)
    (hv : v = u.pinLevel p l) :
    exec (.pinCommitSwitch p l) s = .next (if v.get (R.GPIOp_CFG.BIND_OUT p) = 0 then v.driveGpio p else v) := by
  change execPinCommitSwitch _ _ _ = _
  rcases hpark with hfree | hdriven
  · simp only [execPinCommitSwitch, hmove, hread, hfree, ← hu, hrail, ← hv, Bool.and_false, Bool.false_eq_true, ↓reduceIte, answer]
  · simp only [execPinCommitSwitch, hmove, hread, hdriven, ← hu, hrail, ← hv, bne_self_eq_false, Bool.and_false, Bool.false_eq_true,
      ↓reduceIte, answer]

/-- A pin that does not move. -/
theorem execPinCommitSwitch_none (hnone : s.pin.moves.find? (fun m => m.pin == p) = none) :
    exec (.pinCommitSwitch p l) s = .next s := by
  change execPinCommitSwitch _ _ _ = _
  simp only [execPinCommitSwitch, hnone, answer]

end switch

/-! ### GPIO and readback (R834, R851) -/

/-- A bay that runs may write GPIO_SET and GPIO_CLR. -/
theorem State.grants_running {s : State} {i : Init} (hhere : fromAfar i = false) (hlive : s.live i.bay = true) :
    s.grants i (!(fromAfar i)) = true := by
  simp only [State.grants, hhere, hlive, Bool.not_false, Bool.or_true, Bool.and_self]

/-- A change of the filtered level of a pin outside of its park interval. -/
theorem execGpioInputEdge_acts {s : State} {p : Nat} {l : Bool} (hclk : s.clocked = true)
    (hstill : s.pin.moves.any (fun m => m.pin == p) = false) (hchange : s.on (R.PINp_ACTIVE.LEVEL p) ≠ l)
    (hrail : s.railIsLow (p / 32) = false) : exec (.gpioInputEdge p l) s = .next (s.pinLevel p l) := by
  change execGpioInputEdge _ _ _ = _
  simp only [execGpioInputEdge, hclk, hstill, hchange, hrail, Bool.true_eq_false, Bool.false_eq_true, or_self, ↓reduceIte, answer]

section readback
variable {s : State} {p : Nat} {d : Bool} (hclk : s.clocked = true) (hpark : s.on (R.PINp_ACTIVE.PARKED p) = false)
  (hown : (s.ownPin p).isSome = true) (hrail : s.railIsLow (p / 32) = false)
include hclk hpark hown hrail

/-- The readback of an owned pin with its rail up, outside of its park interval, is judged. -/
theorem readback_judged :
    ¬ (s.clocked = false ∨ s.on (R.PINp_ACTIVE.PARKED p) = true ∨ (s.ownPin p).isNone = true ∨ s.railIsLow (p / 32) = true) := by
  have howned : (s.ownPin p).isNone = false := Option.isNone_eq_false_iff.mpr hown
  simp only [hclk, hpark, howned, hrail, Bool.true_eq_false, Bool.false_eq_true, or_self, not_false_eq_true]

/-- A mismatch at the driver enable of a serial channel parks the pin and stops the channel. -/
theorem execPinReadbackMismatch_driverEnable {n : Nat} (hfunc : s.get (R.PINp_ACTIVE.FUNC p) ≠ 0)
    (hde : deOf (pinSignal p (s.get (R.PINp_ACTIVE.FUNC p))) = some n) :
    exec (.pinReadbackMismatch p d) s = .next (((s.parkPin p).serDeFault n).report (ownerOr0 (s.ownPin p)) 0x2C03 n p) := by
  change execPinReadbackMismatch _ _ _ = _
  simp only [execPinReadbackMismatch, readback_judged hclk hpark hown hrail, ne_eq, hfunc, not_false_eq_true, hde, ↓reduceIte, answer]

/-- A mismatch at another signal is reported. -/
theorem execPinReadbackMismatch_signal (hfunc : s.get (R.PINp_ACTIVE.FUNC p) ≠ 0)
    (hde : deOf (pinSignal p (s.get (R.PINp_ACTIVE.FUNC p))) = none) : exec (.pinReadbackMismatch p d) s =
      .next (s.report (ownerOr0 (s.ownPin p)) 0x0801 p (b2n d + 256 * s.get (R.PINp_ACTIVE.FUNC p))) := by
  change execPinReadbackMismatch _ _ _ = _
  simp only [execPinReadbackMismatch, readback_judged hclk hpark hown hrail, ne_eq, hfunc, not_false_eq_true, hde, ↓reduceIte, answer]

/-- A mismatch at a GPIO output is reported as one. -/
theorem execPinReadbackMismatch_gpio (hfunc : s.get (R.PINp_ACTIVE.FUNC p) = 0) (hshed : s.pin.shed.testBit p = false)
    (hdir : s.bit (R.GPIO_DIRk.DIR (p / 32)) (p % 32) = true) :
    exec (.pinReadbackMismatch p d) s = .next (s.report (ownerOr0 (s.ownPin p)) 0x6C01 p (b2n d)) := by
  change execPinReadbackMismatch _ _ _ = _
  simp only [execPinReadbackMismatch, readback_judged hclk hpark hown hrail, ne_eq, hfunc, not_true_eq_false, hshed, hdir,
    Bool.false_eq_true, ↓reduceIte, answer]

end readback

/-- Settles O45: a commit by what its pins allow, the end of a park interval, GPIO by the bits that a bay owns, and readback. -/
theorem pinsAndGpio : Obligations.PinsAndGpio := by
  refine ⟨?fails, ?done, ?arms, ?moves, ?none, ?gpio, ?edge, ?same, ?signal, ?driverEnable, ?output⟩
  case fails =>
    exact fun s u i b p hg hu hbad =>
      congrArg Host.Outcome.next ((State.act_grants hg 0x0C02 _ true _).trans (State.commitBay_fails hu hbad))
  case done =>
    exact fun s u v i b hg hu hgood hv =>
      congrArg Host.Outcome.next ((State.act_grants hg 0x0C02 _ true _).trans (State.commitBay_done hu hgood hv))
  case arms => exact fun s i b hg => congrArg Host.Outcome.next (State.act_grants hg 0x0C02 _ true _)
  case moves =>
    rintro s u v w p l m hmove hread - hpark hu hrail hv rfl
    exact execPinCommitSwitch_moves hmove hread hpark hu hrail hv
  case none => exact fun s p l hnone => execPinCommitSwitch_none hnone
  case gpio =>
    intro s i k w hhere hlive
    have hg := State.grants_running hhere hlive
    exact ⟨congrArg Host.Outcome.next (State.act_grants hg 0x0C02 _ true _),
      congrArg Host.Outcome.next (State.act_grants hg 0x0C02 _ true _)⟩
  case edge => exact fun s p l hclk hstill hchange hrail => execGpioInputEdge_acts hclk hstill hchange hrail
  case same => exact fun s p l hsame => congrArg Host.Outcome.next (if_pos (.inr (.inr (.inl hsame))))
  case signal =>
    exact fun s p d hclk hpark hown hrail hfunc hde => execPinReadbackMismatch_signal hclk hpark hown hrail hfunc hde
  case driverEnable =>
    exact fun s p n d hclk hpark hown hrail hfunc hde => execPinReadbackMismatch_driverEnable hclk hpark hown hrail hfunc hde
  case output =>
    exact fun s p d hclk hpark hown hrail hfunc hshed hdir => execPinReadbackMismatch_gpio hclk hpark hown hrail hfunc hshed hdir

/-! ### Frames of HIF-SPI (R836 to R839, R848) -/

section frame
variable {s : State} {f : HFrame} {op : Nat} {wr : Bool} {g : State → State}

/-- A frame in order has its effect and counts as good. -/
theorem State.frame_good (hon : s.hifOn = true) (hop : baseOp f.op = op) (hgood : s.frameErr f = 0) :
    s.frame op wr f g = (g s).frameGood wr := by
  simp only [State.frame, hon, hop, hgood, ne_eq, not_true_eq_false, Bool.true_eq_false, false_and, or_self, ↓reduceIte]

/-- A frame with an error counts as bad, and a reader's answer is all ones. -/
theorem State.frame_bad {e : Nat} (hon : s.hifOn = true) (hop : baseOp f.op = op) (he : e = s.frameErr f) (hbad : e ≠ 0) :
    s.frame op wr f g =
      if wr then s.frameBad f e wr else (s.frameBad f e wr).reply (List.replicate (f.len / 4 + 1) 0xFFFFFFFF#32) := by
  simp only [State.frame, hon, hop, ← he, ne_eq, hbad, not_true_eq_false, not_false_eq_true, Bool.true_eq_false, false_and, or_self,
    ↓reduceIte]

/-- With the interface off a frame is dropped. -/
theorem State.frame_off (hoff : s.hifOn = false) : s.frame op wr f g = s := if_pos (.inl hoff)

end frame

/-- STATUS_RD is served as a frame with the interface on, and reads the status word without one with it off. -/
theorem execStatusRd_on {s : State} {f : HFrame} (hon : s.hifOn = true) :
    exec (.statusRd f) s = .next (s.frame 0x05 false f (fun t => t.frameData (toLE 4 t.statusWord))) :=
  congrArg Host.Outcome.next (if_pos hon)

theorem execStatusRd_off {s : State} {f : HFrame} (hoff : s.hifOn = false) :
    exec (.statusRd f) s = .next (s.frameData (toLE 4 s.statusWord)) :=
  congrArg Host.Outcome.next (if_neg (by rw [hoff]; exact Bool.false_ne_true))

/-- A read of a staging buffer without poison gives its bytes. -/
theorem execStageRd_clean {s : State} {f : HFrame} (hon : s.hifOn = true) (hgood : s.frameErr f = 0) (hop : baseOp f.op = 0x03)
    (hclean : s.poisoned (s.stage.1 + f.addr) f.len = false) :
    exec (.stageRd f) s = .next ((s.frameData (s.readMem (s.stage.1 + f.addr) f.len)).frameGood false) := by
  change execStageRd _ _ = _
  simp only [execStageRd, State.frame_good hon hop hgood, hclean, Bool.false_eq_true, ↓reduceIte, answer]

/-- Settles O46: frames in order, frames with an error, and the interface off. -/
theorem hostFrames : Obligations.HostFrames := by
  refine ⟨?good, ?bad, ?counts, ?off, ?doorbell⟩
  case good =>
    intro s f n hon hgood
    refine ⟨?stageWr, ?stageRd, ?statusRd, ?cmdWr, ?cplRd, ?cplAck, ?hdbWr, ?ddbRd⟩
    case stageWr => exact fun hop => congrArg Host.Outcome.next (State.frame_good hon hop hgood)
    case stageRd => exact fun hop hclean => execStageRd_clean hon hgood hop hclean
    case statusRd => exact fun hop => (execStatusRd_on hon).trans (congrArg Host.Outcome.next (State.frame_good hon hop hgood))
    case cmdWr => exact fun hop => congrArg Host.Outcome.next (State.frame_good hon hop hgood)
    case cplRd => exact fun hop => congrArg Host.Outcome.next (State.frame_good hon hop hgood)
    case cplAck => exact fun hop => congrArg Host.Outcome.next (State.frame_good hon hop hgood)
    case hdbWr => exact fun hop => congrArg Host.Outcome.next (State.frame_good hon hop hgood)
    case ddbRd => exact fun hop => congrArg Host.Outcome.next (State.frame_good hon hop hgood)
  case bad =>
    intro s f n e hon he hbad
    refine ⟨?stageWr, ?cmdWr, ?cplAck, ?hdbWr, ?cplRd⟩
    case stageWr => exact fun hop => congrArg Host.Outcome.next (State.frame_bad hon hop he hbad)
    case cmdWr => exact fun hop => congrArg Host.Outcome.next (State.frame_bad hon hop he hbad)
    case cplAck => exact fun hop => congrArg Host.Outcome.next (State.frame_bad hon hop he hbad)
    case hdbWr => exact fun hop => congrArg Host.Outcome.next (State.frame_bad hon hop he hbad)
    case cplRd => exact fun hop => congrArg Host.Outcome.next (State.frame_bad hon hop he hbad)
  case counts =>
    rintro s u f e rfl
    rfl
  case off =>
    intro s f hoff
    exact ⟨congrArg Host.Outcome.next (State.frame_off hoff), congrArg Host.Outcome.next (State.frame_off hoff),
      congrArg Host.Outcome.next (State.frame_off hoff), congrArg Host.Outcome.next (State.frame_off hoff), execStatusRd_off hoff⟩
  case doorbell => exact fun s i w hg => congrArg Host.Outcome.next (State.act_grants hg 0x0C02 _ true _)

/-! ### Steps -/

/-- Settles O1: a step takes the front of the queue, and the rest of it is the queue that the command finds. -/
theorem stepRunsFrontCommand : Obligations.StepRunsFrontCommand := fun _ _ => rfl

end Sys2Proof.Machine
end

section
/-! SUPPORT.
Witnesses: concrete states and inputs that meet the hypotheses of O26, O27 and O28. -/

namespace Sys2Proof.Machine

/-! ### CAN controllers -/

/-- The greatest jump width with the least second segment. -/
theorem canEn_refused_witness : ∃ t,
    exec (.canEn ⟨7, 0, 0⟩ 3 true) (blockState.puts [(R.CANn_NBT.SJW 3, 127), (R.CANn_NBT.TSEG2 3, 126)]) = .next t ∧
    t.on (R.CANn_STATUS.TIMING_ERR 3) = true ∧ t.on (R.CANn_CTRL.EN 3) = false := by
  obtain ⟨hrefused, -⟩ := canControllers
  exact ⟨_, hrefused (blockState.puts [(R.CANn_NBT.SJW 3, 127), (R.CANn_NBT.TSEG2 3, 126)]) ⟨7, 0, 0⟩ 3 (by decide) (by decide)
    (by decide) (by decide), by decide, by decide⟩

theorem canEn_joins_witness : ∃ t, exec (.canEn ⟨7, 0, 0⟩ 3 true) blockState = .next t ∧
    t.on (R.CANn_STATUS.TIMING_ERR 3) = false ∧ (t.canAt 3).joining = true := by
  obtain ⟨-, hjoins, -⟩ := canControllers
  exact ⟨_, hjoins blockState ⟨7, 0, 0⟩ 3 (by decide) (by decide) (by decide) (by decide) (by decide), by decide, by decide⟩

/-- The last buffer is requested, then aborted before its commit point. -/
theorem txreq_txabort_witness : ∃ t u, exec (.txreq ⟨7, 0, 0⟩ 3 (2 ^ 31)) blockState = .next t ∧
    exec (.txabort ⟨7, 0, 0⟩ 3 (2 ^ 31)) t = .next u ∧ t.bufPending 3 31 = true ∧ u.bufPending 3 31 = false ∧
    u.get (R.CANn_TXSTATb.STATUS 3 31) = 2 := by
  obtain ⟨-, -, -, hrequests, haborts, -⟩ := canControllers
  have htaken := (hrequests blockState ⟨7, 0, 0⟩ 3 31 (by decide) (by decide) (by decide) (by decide)).1
  have hbefore := (hrequests (blockState.canRequest 3 31) ⟨7, 0, 0⟩ 3 31 (by decide) (by decide) (by decide) (by decide)).2
  rw [haborts _ 3 31 (by decide) (by decide)] at hbefore
  exact ⟨_, _, htaken, hbefore, by decide, by decide, by decide⟩

/-- A controller in bus-off whose retest has given its verdict, and the end of the recovery. -/
theorem recover_witness : ∃ t u,
    exec (.recover ⟨7, 0, 0⟩ 3) ((blockState.put (R.CANn_STATUS.STATE 3) 2).modCan 3 (fun x => { x with verdict := true })) = .next t ∧
    exec (.busOffRecoveryEnd 3) t = .next u ∧ t.on (R.CANn_STATUS.RECOVERING 3) = true ∧ u.on (R.CANn_STATUS.RECOVERING 3) = false ∧
    u.get (R.CANn_STATUS.STATE 3) = 0 := by
  obtain ⟨-, -, -, -, -, -, hrecovers, hends, -⟩ := canControllers
  exact ⟨_, _, hrecovers ((blockState.put (R.CANn_STATUS.STATE 3) 2).modCan 3 (fun x => { x with verdict := true })) ⟨7, 0, 0⟩ 3
    (by decide) (by decide) (by decide) (by decide), hends _ 3 (by decide), by decide, by decide, by decide⟩

/-- The last frame of a full FIFO of 64. -/
theorem cannRxfPop_witness : ∃ t, exec (.cannRxfPop ⟨7, 0, 0⟩ 3)
      (blockState.puts [(R.CANn_RXF_CFG.SIZE 3, 64), (R.CANn_RXF_STAT.FILL 3, 64), (R.CANn_RXF_STAT.GET 3, 63)]) = .next t ∧
    t.get (R.CANn_RXF_STAT.FILL 3) = 63 ∧ t.get (R.CANn_RXF_STAT.GET 3) = 0 := by
  obtain ⟨-, -, -, -, -, -, -, -, -, hpop⟩ := canControllers
  exact ⟨_, hpop (blockState.puts [(R.CANn_RXF_CFG.SIZE 3, 64), (R.CANn_RXF_STAT.FILL 3, 64), (R.CANn_RXF_STAT.GET 3, 63)])
    ⟨7, 0, 0⟩ 3 64 64 (by decide) (by decide) (by decide) (by decide) (by decide), by decide, by decide⟩

/-- An entry with each set of buses but the empty one. -/
theorem twinEntryExpiry_witness : ∃ t u v,
    exec (.twinEntryExpiry 2 5) (blockState.modCan 2 (fun x => { x with twin := [⟨5, 1, 0⟩] })) = .next t ∧
    exec (.twinEntryExpiry 2 5) (blockState.modCan 2 (fun x => { x with twin := [⟨5, 2, 0⟩] })) = .next u ∧
    exec (.twinEntryExpiry 2 5) (blockState.modCan 2 (fun x => { x with twin := [⟨5, 3, 0⟩] })) = .next v ∧
    (t.get (R.CANn_TWIN_MISS.A 2), t.get (R.CANn_TWIN_MISS.B 2)) = (0, 1) ∧
    (u.get (R.CANn_TWIN_MISS.A 2), u.get (R.CANn_TWIN_MISS.B 2)) = (1, 0) ∧
    (v.get (R.CANn_TWIN_MISS.A 2), v.get (R.CANn_TWIN_MISS.B 2)) = (0, 0) := by
  obtain ⟨-, -, -, -, -, hexpiry, -⟩ := canFrames
  have hends := fun b hk => hexpiry (blockState.modCan 2 (fun x => { x with twin := [⟨5, b, 0⟩] })) _ 2 5 ⟨5, b, 0⟩ hk rfl
  exact ⟨_, _, _, hends 1 (by decide), hends 2 (by decide), hends 3 (by decide), by decide, by decide, by decide⟩

/-- Bus A misses one frame less than MISS_LIMIT, bus B as many. -/
theorem twinMissInterval_witness : ∃ t, exec (.twinMissInterval 2) ((blockState.puts [(R.CANn_CTRL.TWIN_EN 2, 1),
      (R.CANn_TWIN_CFG.MISS_LIMIT 2, 16)]).modCan 2 (fun x => { x with missA := 15, missB := 16 })) = .next t ∧
    ((t.canAt 2).missA, (t.canAt 2).missB) = (0, 0) ∧ t.notified 7 = [(0x2805, 2, 0x100001)] := by
  obtain ⟨-, -, -, -, -, -, hmisses⟩ := canFrames
  exact ⟨_, hmisses ((blockState.puts [(R.CANn_CTRL.TWIN_EN 2, 1), (R.CANn_TWIN_CFG.MISS_LIMIT 2, 16)]).modCan 2
    (fun x => { x with missA := 15, missB := 16 })) 2 (by decide), by decide, by decide⟩

/-! ### Serial channels -/

/-- A character into the last place of the FIFO, with the bits above its nine dropped, and one into a full FIFO. -/
theorem sernTxdata_witness : ∃ t,
    exec (.sernTxdata ⟨7, 0, 0⟩ 5 0x3FF) (blockState.modSer 5 (fun x => { x with txf := List.replicate 31 0 })) = .next t ∧
    (t.serAt 5).txf = List.replicate 31 0 ++ [0x1FF] ∧ exec (.sernTxdata ⟨7, 0, 0⟩ 5 1) t = .next t := by
  obtain ⟨henters, hfull, -⟩ := serialChannels
  exact ⟨_, henters (blockState.modSer 5 (fun x => { x with txf := List.replicate 31 0 })) ⟨7, 0, 0⟩ 5 0x3FF (by decide) (by decide)
    (by decide) (by decide), by decide, hfull _ ⟨7, 0, 0⟩ 5 1 (by decide) (by decide) (by decide)⟩

/-- One error in fewer than ten thousand characters, and in as many. -/
theorem serErrorInterval_witness : ∃ t u,
    exec (.serErrorInterval 5) (blockState.modSer 5 (fun x => { x with chars := 9999, errs := 1 })) = .next t ∧
    exec (.serErrorInterval 5) (blockState.modSer 5 (fun x => { x with chars := 10000, errs := 1 })) = .next u ∧
    t.retestsDue = [(0x2C01, 5)] ∧ u.retestsDue = [] ∧ (u.serAt 5).errs = 0 := by
  obtain ⟨-, -, -, -, -, -, -, -, herrs⟩ := serialChannels
  have hends := fun k => herrs (blockState.modSer 5 (fun x => { x with chars := k, errs := 1 })) _ 5 rfl
  exact ⟨_, _, hends 9999, hends 10000, by decide, by decide, by decide⟩

/-- DE is released where nothing is sent. -/
theorem deRelease_witness : ∃ t, exec (.deRelease 5) (blockState.put (R.SERn_STATUS.DE 5) 1) = .next t ∧
    t.on (R.SERn_STATUS.DE 5) = false := by
  obtain ⟨-, -, -, -, -, -, hreleases, -⟩ := serialChannels
  exact ⟨_, hreleases (blockState.put (R.SERn_STATUS.DE 5) 1) 5 (by decide), by decide⟩

end Sys2Proof.Machine
end

section
/-! SUPPORT.
Witnesses: concrete states and inputs that meet the hypotheses of O29, O31, O32, O33 and O34. -/

namespace Sys2Proof.Machine

/-! ### Viaduct lanes -/

/-- A state with further sections of the configuration. -/
def State.sects (s : State) (l : List Sect) : State := { s with cfg := s.cfg ++ l }

/-- Bay 7 owns Viaduct and Trestle, of which every lane is used: a ring of eight members, this one at position 7. -/
def linkState : State :=
  let s := blockState.sects [⟨.sys, [⟨0, [List.replicate 4 0#8 ++ [0x3C#8]]⟩]⟩, ⟨.link, [⟨2, [[1#8, 1#8, 8#8]]⟩]⟩]
  { s with sys := { s.sys with lanesIdle := false } }.puts
    [(R.VDT_STATUS.PAIR_EN, 1), (R.TRS_STATUS.POS, 7), (R.VDTn_ROLE.PAIRED 7, 1)]

/-- The last lane of Viaduct from DOWN to UP; the partner has the other PAIR_ID. -/
theorem vdtLaneTraining_witness : ∃ t u v w, exec (.vdtLaneTraining 3 0 0) linkState = .next t ∧
    exec (.vdtLaneTraining 3 1 0) t = .next u ∧ exec (.vdtLaneTraining 3 2 1) u = .next v ∧
    exec (.vdtLaneTraining 3 3 0) v = .next w ∧ w.laneUp 3 = true ∧ w.get R.VDT_STATUS.LANE_UP = 2 := by
  obtain ⟨hlock, hts1, hts2, -, hup, -⟩ := viaductLinks
  exact ⟨_, _, _, _, hlock linkState 3 0 (by decide) (by decide) (by decide) (by decide) (by decide) (by decide) (by decide),
    hts1 _ 3 0 (by decide) (by decide) (by decide) (by decide) (by decide) (by decide) (by decide),
    hts2 _ 3 1 (by decide) (by decide) (by decide) (by decide) (by decide) (by decide) (by decide) (by decide) (by decide),
    hup _ 3 0 (by decide) (by decide) (by decide) (by decide) (by decide) (by decide) (by decide), by decide, by decide⟩

/-- A partner with the same PAIR_ID holds the lane. -/
theorem vdtLaneTraining_clash_witness : ∃ t, exec (.vdtLaneTraining 3 2 2) (linkState.put R.VDT_STATUS.LANE_STATE_B 2) = .next t ∧
    t.on R.VDT_STATUS.ID_CLASH = true ∧ t.get R.VDT_STATUS.LANE_STATE_B = 2 := by
  obtain ⟨-, -, -, hclash, -⟩ := viaductLinks
  exact ⟨_, hclash (linkState.put R.VDT_STATUS.LANE_STATE_B 2) 3 2 (by decide) (by decide) (by decide) (by decide) (by decide)
    (by decide) (by decide) (by decide), by decide, by decide⟩

/-- Every lane but LANE2 is UP. -/
def lanesState : State := linkState.puts
  [(R.VDT_STATUS.LANE_STATE_B, 4), (R.VDT_STATUS.LANE_UP, 2), (R.TRS_STATUS.LANE_UP, 4), (R.TRS_STATUS.LANE_DOWN, 4)]

theorem vdtLaneDown_witness : ∃ t, exec (.vdtLaneDown 3) lanesState = .next t ∧
    t.laneUp 3 = false ∧ t.get R.VDT_STATUS.LANE_UP = 0 := by
  obtain ⟨-, -, -, -, -, -, hdown, -⟩ := viaductLinks
  exact ⟨_, hdown lanesState 3 (by decide) (by decide) (by decide), by decide, by decide⟩

/-- An acknowledgement of the greatest SEQ leaves the frame with SEQ 0 that follows it. -/
theorem vdtAck_witness : ∃ t, exec (.vdtAck 3 0xFFFFFFFF)
      (lanesState.modHop 0 (fun x => { x with unacked := [⟨0x12, 0xFFFFFFFF, 0, [], 1⟩, ⟨0x12, 0, 0, [], 1⟩] })) = .next t ∧
    (t.hopAt 0).unacked.map (fun f => f.seq) = [0] := by
  obtain ⟨-, -, -, -, -, -, -, hacks, -⟩ := viaductLinks
  exact ⟨_, (hacks (lanesState.modHop 0 (fun x => { x with unacked := [⟨0x12, 0xFFFFFFFF, 0, [], 1⟩, ⟨0x12, 0, 0, [], 1⟩] })) 3
    0xFFFFFFFF (by decide)).1, by decide⟩

/-- The frame received last before SEQ wraps is acknowledged. -/
theorem ackTimer_witness : ∃ t, exec (.ackTimer 0) (lanesState.modHop 0 (fun x => { x with unsent := 1 })) = .next t ∧
    (t.hopAt 0).unsent = 0 ∧ (t.laneAt 3).cur.map (fun f => (f.ftype, f.seq)) = some (2, 0xFFFFFFFF) := by
  obtain ⟨-, -, -, -, -, -, -, -, -, htimer, -⟩ := viaductLinks
  exact ⟨_, htimer (lanesState.modHop 0 (fun x => { x with unsent := 1 })) 0 (by decide), by decide, by decide⟩

/-! ### Viaduct roles -/

theorem lanesState_takes : lanesState.hopTake 3 0 = ((lanesState.hopTake 3 0).1, true) := Prod.ext rfl (by decide)

/-- A paired bay in a role, with its generation at the greatest value that a frame can hold. -/
def roleState (k : Nat) : State := lanesState.puts [(R.VDTn_ROLE.ROLE 7, k), (R.VDTn_BAY_GEN.GEN 7, 0xFFFFFFFF)]

theorem roleState_takes (k : Nat) (h : ((roleState k).hopTake 3 0).2 = true) :
    (roleState k).hopTake 3 0 = (((roleState k).hopTake 3 0).1, true) := Prod.ext rfl h

theorem vdtClaim_witness : ∃ t, exec (.vdtClaim 3 0 7 0xFFFFFFFF) (roleState 1) = .next t ∧ t.roleOf 7 = 3 ∧
    t.get (R.VDTn_BAY_GEN.GEN 7) = 0xFFFFFFFF := by
  obtain ⟨hclaim, -⟩ := viaductRoles
  exact ⟨_, hclaim (roleState 1) _ _ 3 0 7 0xFFFFFFFF (by decide) (roleState_takes 1 (by decide)) (by decide) rfl (by decide)
    (by decide), by decide, by decide⟩

theorem yield_witness : ∃ t, exec (.yield 3 0 7 0xFFFFFFFF) (roleState 3) = .next t ∧ t.roleOf 7 = 5 := by
  obtain ⟨-, hyield, -⟩ := viaductRoles
  exact ⟨_, hyield (roleState 3) _ _ 3 0 7 0xFFFFFFFF (by decide) (roleState_takes 3 (by decide)) (by decide) rfl (by decide),
    by decide⟩

/-- The third heartbeat missed in a row, with the witness low. -/
theorem heartbeatMiss_witness : ∃ t, exec .heartbeatMiss
      ((roleState 3).modVdt (fun x => { x with misses := 2, hbSeen := true })) = .next t ∧
    t.link.vdt.lost = true ∧ t.on R.VDT_IRQ_PEND.PARTNER_LOST = true ∧ t.roleOf 7 = 5 := by
  obtain ⟨-, -, -, -, -, -, hlost, -⟩ := viaductRoles
  exact ⟨_, hlost ((roleState 3).modVdt (fun x => { x with misses := 2, hbSeen := true })) _ (by decide) (by decide) (by decide)
    (by decide) rfl (by decide), by decide, by decide, by decide⟩

theorem undecidedTimeout_witness : ∃ t, exec (.undecidedTimeout 7) (roleState 1) = .next t ∧ t.roleOf 7 = 2 := by
  obtain ⟨-, -, -, -, -, -, -, -, -, -, htimeout, -⟩ := viaductRoles
  exact ⟨_, htimeout (roleState 1) 7 (by decide) (by decide) (by decide), by decide⟩

/-- An ACTIVE bay yields to its ready partner; a STANDBY one refuses. -/
theorem handover_witness : ∃ t u, exec (.handover ⟨7, 0, 0⟩ 7)
      (((roleState 2).put R.VDT_STATUS.PARTNER 1).modVdt (fun x => { x with pStandby := 128 })) = .next t ∧
    exec (.handover ⟨7, 0, 0⟩ 7) (roleState 4) = .next u ∧ t.roleOf 7 = 3 ∧ u.roleOf 7 = 4 ∧ u.on (R.VDTn_CMD.REFUSED 7) = true := by
  obtain ⟨-, -, -, -, -, -, -, -, -, -, -, hyields, hrefuses, -⟩ := viaductRoles
  exact ⟨_, _, hyields (((roleState 2).put R.VDT_STATUS.PARTNER 1).modVdt (fun x => { x with pStandby := 128 })) ⟨7, 0, 0⟩ 7
    (by decide) (by decide) (by decide), hrefuses (roleState 4) ⟨7, 0, 0⟩ 7 (by decide) (by decide), by decide, by decide, by decide⟩

/-! ### Trestle -/

theorem lanesState_takesHop : lanesState.hopTake 5 0 = ((lanesState.hopTake 5 0).1, true) := Prod.ext rfl (by decide)

/-- The frames that a lane has to send. -/
def State.frameTypes (s : State) (l : Nat) : List Nat :=
  ((s.laneAt l).cur.toList ++ (s.laneAt l).ctl ++ (s.laneAt l).copies ++ (s.hopAt (hopOf l)).waiting).map (fun f => f.ftype)

/-- A read for position 0 crosses the closure hop of the ring where hop 0 is lost. -/
theorem trsRd_relayed_witness : ∃ t, exec (.trsRd 5 0 6 0 0xFFFF 7 2 0 []) (lanesState.modTrs (fun x => { x with lostHops := 1 })) =
      .next t ∧ t.frameTypes 4 = [0x20] ∧ t.frameTypes 5 = [] := by
  obtain ⟨hrelays, -⟩ := trestleRequests
  exact ⟨_, hrelays (lanesState.modTrs (fun x => { x with lostHops := 1 })) _ 5 0 6 0 0xFFFF 7 2 0 [] (by decide) (by decide)
    (by decide) (Prod.ext rfl (by decide)) (by decide), by decide, by decide⟩

/-- An ESEQ half the number space ahead is not newer. -/
theorem remote_stale_witness : lanesState.remote 6 32768 7 2 0 none [] = (lanesState, 4, []) := by
  obtain ⟨-, -, -, hstale, -⟩ := trestleRequests
  exact hstale lanesState 6 32768 7 2 0 none [] (by decide)

/-- A message and a doorbell for a mailbox that no binding names. -/
theorem trsMsg_unbound_witness : ∃ t u, exec (.trsMsg 5 0 6 7 0 7 63 63 [1#32]) lanesState = .next t ∧
    exec (.trsDb 5 0 6 7 0 7 63) lanesState = .next u ∧ t.frameTypes 5 = [0x23] ∧ u.frameTypes 5 = [0x23] := by
  obtain ⟨-, -, -, -, -, -, hunbound, -⟩ := trestleRequests
  have hrefused := hunbound lanesState _ _ 5 0 6 0 7 63 63 [1#32] (by decide) (by decide) (by decide) lanesState_takesHop (by decide) rfl
    (by decide)
  exact ⟨_, _, hrefused.1, hrefused.2, by decide, by decide⟩

/-- A claim of the last resource that is a peripheral of an own bay, and one of a pin range that no bay owns. -/
theorem trsClaim_witness : ∃ t u, exec (.trsClaim 5 0 6 7 0 43 0 0 31) lanesState = .next t ∧
    exec (.trsClaim 5 0 6 7 0 255 127 1 31) lanesState = .next u ∧ t.trsX.claims = [] ∧
    u.trsX.claims = [⟨6, 0, 255, 127, 1, 31, false⟩] ∧ u.get R.TRS_CLAIM_IN.COUNT = 1 ∧ t.frameTypes 5 = [0x2A] := by
  obtain ⟨hrefuses, htakes, -⟩ := trestleStack
  exact ⟨_, _, hrefuses lanesState _ _ 5 0 6 0 43 0 0 31 2 (by decide) (by decide) (by decide) lanesState_takesHop (by decide)
    (by decide) rfl, htakes lanesState _ _ _ 5 0 6 0 255 127 1 31 (by decide) (by decide) (by decide) lanesState_takesHop (by decide)
    rfl rfl, by decide, by decide, by decide, by decide⟩

/-- The response that accepts a claim, and one that refuses it for a resource held. -/
theorem claimRsp_witness : ∃ t u, exec (.claimRsp 5 0 6 7 7 43 1 7) lanesState = .next t ∧
    exec (.claimRsp 5 0 6 7 7 43 3 7) (lanesState.put R.TRS_CLAIM_OUT.ACCEPTED 255) = .next u ∧
    t.get R.TRS_CLAIM_OUT.ACCEPTED = 128 ∧ u.get R.TRS_CLAIM_OUT.ACCEPTED = 127 ∧ u.notified 7 = [(0x3805, 7, 0x307)] := by
  obtain ⟨-, -, haccepts, hrefuses, -⟩ := trestleStack
  exact ⟨_, _, haccepts lanesState _ 5 0 6 7 43 7 (by decide) (by decide) (by decide) lanesState_takesHop,
    hrefuses (lanesState.put R.TRS_CLAIM_OUT.ACCEPTED 255) _ 5 0 6 7 43 3 7 (by decide) (by decide) (by decide)
      (Prod.ext rfl (by decide)) (by decide), by decide, by decide, by decide⟩

theorem stackFormed_witness : ∃ t, exec .stackFormed lanesState = .next t ∧ t.on R.TRS_STATUS.FORMED = true ∧
    exec .stackFormed t = .next t := by
  obtain ⟨-, -, -, -, -, -, -, -, -, -, -, -, hforms, honce⟩ := trestleStack
  exact ⟨_, hforms lanesState (by decide) (by decide), by decide +kernel, honce _ (by decide +kernel)⟩

/-! ### Stack time -/

theorem timeFrameSend_witness : ∃ t, exec .timeFrameSend (lanesState.put R.TRS_STATUS.IS_MASTER 1) = .next t ∧
    t.frameTypes 4 = [0x28] ∧ t.frameTypes 5 = [0x28] := by
  obtain ⟨hsends, -⟩ := stackTime
  exact ⟨_, hsends (lanesState.put R.TRS_STATUS.IS_MASTER 1) (by decide) (by decide), by decide, by decide⟩

/-- A TIME frame that this member has taken. -/
theorem timeFrame_again_witness : ∃ t,
    exec (.timeFrame 5 0 0 5 0 0 0 none) (lanesState.modTrs (fun x => { x with lastTime := some 5 })) = .next t ∧ t.frameTypes 4 = [] := by
  obtain ⟨-, -, -, hdrops, -⟩ := stackTime
  exact ⟨_, hdrops (lanesState.modTrs (fun x => { x with lastTime := some 5 })) _ 5 0 0 5 0 0 0 none (by decide) (by decide) (by decide)
    (Prod.ext rfl (by decide)) (by decide) (by decide), by decide⟩

/-- The first TIME frame of the master is relayed and sampled. -/
theorem timeFrame_first_witness : ∃ t, exec (.timeFrame 5 0 0 5 0 0 0 none) (lanesState.put R.TIME_CFG2.SOURCE 2) = .next t ∧
    t.frameTypes 4 = [0x28] ∧ t.trsX.lastTime = some 5 ∧ t.trsX.samples.length = 1 := by
  obtain ⟨-, -, htakes, -⟩ := stackTime
  exact ⟨_, htakes (lanesState.put R.TIME_CFG2.SOURCE 2) _ _ _ 5 0 0 5 0 0 0 (by decide) (by decide) (by decide)
    (Prod.ext rfl (by decide)) (by decide) (by decide) (by decide) rfl rfl (by decide) (by decide), by decide, by decide, by decide⟩

end Sys2Proof.Machine
end

section
/-! SUPPORT.
Witnesses: concrete states and inputs that meet the hypotheses of O35, O36, O37, O38 and O39. -/

namespace Sys2Proof.Machine

/-! ### Drive units -/

/-- The last drive unit in a state; its motor magnetizes, and its pole voltages are sensed. -/
def driveState (k : Nat) : State :=
  (blockState.sects [⟨.drvp, [⟨0, [[1#8, 1#8, 1#8]]⟩]⟩]).put (R.DRVn_STATE.STATE 1) k

/-- A READY unit with its set, currents and bus voltage measured on a channel of each of three converters. -/
def startState : State := (driveState 1).puts
  [(R.DRVn_STATE.PSET_VALID 1, 1), (R.DRVn_MSRCq.EN 1 0, 1), (R.DRVn_MSRCq.EN 1 1, 1), (R.DRVn_MSRCq.CH 1 1, 6),
   (R.DRVn_MSRCq.EN 1 3, 1), (R.DRVn_MSRCq.CH 1 3, 12), (R.ADCn_CTRL.EN 0, 1), (R.ADCn_CTRL.EN 1, 1), (R.ADCn_CTRL.EN 2, 1)]

theorem drvStart_magnetizes_witness : ∃ t, exec (.drvStart ⟨7, 0, 0⟩ 1 false) startState = .next t ∧ t.drvSt 1 = 3 ∧
    t.get (R.DRVn_CMD_STAT.STATUS 1) = 1 := by
  obtain ⟨-, hmagnetizes, -⟩ := driveCommands
  exact ⟨_, hmagnetizes startState _ _ ⟨7, 0, 0⟩ 1 (by decide) (by decide) (by decide) (by decide) (by decide) (by decide) (by decide)
    rfl (by decide) rfl (by decide), by decide, by decide⟩

/-- A parked unit, one with the start inhibit and one without a set. -/
theorem drvStart_refused_witness : ∃ t u v, exec (.drvStart ⟨7, 0, 0⟩ 1 true) (driveState 9) = .next t ∧
    exec (.drvStart ⟨7, 0, 0⟩ 1 true) (startState.put (R.DRVn_STATE.INHIBIT 1) 1) = .next u ∧
    exec (.drvStart ⟨7, 0, 0⟩ 1 true) (driveState 0) = .next v ∧
    t.get (R.DRVn_CMD_STAT.RESULT 1) = 1 ∧ u.get (R.DRVn_CMD_STAT.RESULT 1) = 2 ∧ v.get (R.DRVn_CMD_STAT.RESULT 1) = 3 := by
  obtain ⟨-, -, -, hruns, hinhibit, hnoSet, -⟩ := driveCommands
  exact ⟨_, _, _, hruns (driveState 9) ⟨7, 0, 0⟩ 1 true (by decide) (by decide) (by decide),
    hinhibit (startState.put (R.DRVn_STATE.INHIBIT 1) 1) ⟨7, 0, 0⟩ 1 true (by decide) (by decide) (by decide) (by decide) (by decide),
    hnoSet (driveState 0) ⟨7, 0, 0⟩ 1 true (by decide) (by decide) (by decide) (by decide) (by decide) (by decide),
    by decide, by decide, by decide⟩

/-- A STOP from kinetic hold, and COAST of the same unit. -/
theorem drvStop_coast_witness : ∃ t u, exec (.drvStop ⟨7, 0, 0⟩ 1) (driveState 7) = .next t ∧
    exec (.coast ⟨7, 0, 0⟩ 1) (driveState 7) = .next u ∧ t.drvSt 1 = 6 ∧ (u.drvAt 1).coast = true ∧ u.drvSt 1 = 7 := by
  obtain ⟨-, -, -, -, -, -, -, hstops, -, hcoasts, -⟩ := driveCommands
  exact ⟨_, _, hstops (driveState 7) ⟨7, 0, 0⟩ 1 (by decide) (by decide) (by decide),
    hcoasts (driveState 7) ⟨7, 0, 0⟩ 1 (by decide) (by decide) (by decide) (by decide) (by decide), by decide, by decide, by decide⟩

theorem tripClear_witness : ∃ t, exec (.tripClear ⟨7, 0, 0⟩ 1) ((driveState 8).put (R.DRVn_TRIP.SOURCE 1) 7) = .next t ∧
    t.drvSt 1 ≠ 8 ∧ t.get (R.DRVn_TRIP.SOURCE 1) = 0 := by
  obtain ⟨-, -, -, -, -, -, -, -, -, -, -, -, hclears, -⟩ := driveCommands
  exact ⟨_, hclears ((driveState 8).put (R.DRVn_TRIP.SOURCE 1) 7) ⟨7, 0, 0⟩ 1 (by decide) (by decide) (by decide), by decide, by decide⟩

/-- An overcurrent of the last leg, by the comparator of the analogue input, trips a unit in its last state that drives. -/
theorem overcurrentTrip_witness : ∃ t, exec (.overcurrentTrip 1 2 true true) (driveState 7) = .next t ∧ t.drvSt 1 = 8 ∧
    t.get (R.DRVn_TRIP.SOURCE 1) = 1 ∧ t.get (R.DRVn_TRIP.LEG 1) = 2 ∧ t.notified 7 = [(0x3C01, 1, 6)] := by
  obtain ⟨hocp, -⟩ := driveProtection
  exact ⟨_, hocp (driveState 7) 1 2 true (by decide) (by decide) (by decide), by decide, by decide, by decide, by decide⟩

/-- The chopper's desaturation leaves the unit in its state and disables the chopper. -/
theorem desaturation_chopper_witness : ∃ t, exec (.desaturation 1 3 true) ((driveState 5).put (R.DRVn_BRK_STAT.ON 1) 1) = .next t ∧
    t.drvSt 1 = 5 ∧ t.on (R.DRVn_BRK_STAT.ON 1) = false ∧ t.on (R.DRVn_BRK_STAT.DISABLED 1) = true := by
  obtain ⟨-, -, -, -, -, hchopper, -⟩ := driveProtection
  exact ⟨_, hchopper ((driveState 5).put (R.DRVn_BRK_STAT.ON 1) 1) _ 1 rfl, by decide, by decide, by decide⟩

theorem gateReadbackMismatch_witness : ∃ t, exec (.gateReadbackMismatch 1 5 true) (driveState 5) = .next t ∧ t.drvSt 1 = 8 ∧
    t.get (R.DRVn_TRIP.SOURCE 1) = 7 ∧ t.retestsDue = [(0x3C07, 1)] := by
  obtain ⟨-, -, -, -, -, -, hmismatch, -⟩ := driveProtection
  exact ⟨_, hmismatch (driveState 5) _ 1 5 true (by decide) (by decide) (by decide) rfl, by decide, by decide, by decide⟩

/-- A chopper that was on for the whole second. -/
theorem chopperDutyInterval_witness : ∃ t,
    exec (.chopperDutyInterval 1) ((driveState 5).modDrv 1 (fun x => { x with brkOn := 1000000000 })) = .next t ∧
    t.get (R.DRVn_BRK_STAT.DUTY 1) = 1000 ∧ (t.drvAt 1).brkOn = 0 := by
  obtain ⟨-, -, -, -, -, -, -, -, -, hduty, -⟩ := driveProtection
  exact ⟨_, hduty ((driveState 5).modDrv 1 (fun x => { x with brkOn := 1000000000 })) 1 (by decide), by decide, by decide⟩

/-- A COAST that waits is taken at the apply edge. -/
theorem decisionApply_coast_witness : ∃ t, exec (.decisionApply 1) ((driveState 7).modDrv 1 (fun x => { x with coast := true })) =
      .next t ∧ (t.drvAt 1).coast = false ∧ t.drvSt 1 ≤ 1 := by
  obtain ⟨-, -, -, hcoasts, -⟩ := driveDecisions
  exact ⟨_, hcoasts ((driveState 7).modDrv 1 (fun x => { x with coast := true })) 1 (by decide) (by decide), by decide, by decide⟩

/-- The high switch of the last leg comes on at the end of its dead time. -/
theorem deadTimeEnd_witness : ∃ t, exec (.deadTimeEnd 1 2) ((driveState 5).modDrv 1 (fun x =>
      { x with legs := [Leg.cold, Leg.cold, { Leg.cold with val := some true, dead := some true }] })) = .next t ∧
    ((t.drvAt 1).legs.getD 2 Leg.cold).hi = true := by
  obtain ⟨-, -, -, -, -, -, hends, -⟩ := driveDecisions
  obtain ⟨t, y, hnext, hunit, hleg, -⟩ := hends ((driveState 5).modDrv 1 (fun x =>
    { x with legs := [Leg.cold, Leg.cold, { Leg.cold with val := some true, dead := some true }] })) 1 2 _
    { Leg.cold with val := some true, dead := some true } true rfl rfl rfl
  refine ⟨t, hnext, ?_⟩
  simp only [State.drvAt, List.getD_eq_getElem?_getD, hunit, Option.getD_some, hleg, ↓reduceIte]

/-- The band window with one decision missing. -/
theorem bandWindowEnd_early_witness : exec (.bandWindowEnd 1) ((driveState 5).modDrv 1 (fun x => { x with win := 255 })) =
    .next ((driveState 5).modDrv 1 (fun x => { x with win := 255 })) := by
  obtain ⟨-, -, -, -, -, -, -, -, -, -, hearly, -⟩ := driveDecisions
  exact hearly ((driveState 5).modDrv 1 (fun x => { x with win := 255 })) 1 (by decide)

/-- The first two steps of a catch-spin: the zero vector, then the first currents. -/
theorem catchSpinStep_witness : ∃ t u, exec (.catchSpinStep 1 5 6) ((driveState 4).modDrv 1 (fun x => { x with step := 1 })) = .next t ∧
    exec (.catchSpinStep 1 5 6) t = .next u ∧ (t.drvAt 1).step = 2 ∧ (u.drvAt 1).step = 3 ∧ (u.drvAt 1).i1 = (5, 6) := by
  obtain ⟨-, -, -, -, -, -, -, -, -, -, -, -, hcatch, -⟩ := driveDecisions
  exact ⟨_, _, (hcatch ((driveState 4).modDrv 1 (fun x => { x with step := 1 })) 1 5 6 (by decide) (by decide)).1 (by decide),
    (hcatch _ 1 5 6 (by decide) (by decide)).2.1 (by decide), by decide, by decide, by decide⟩

/-! ### Converters -/

/-- The last converter is on; its last sequence, triggered by GO, converts channel 5, then channel 4. -/
def adcState : State := blockState.puts
  [(R.ADCn_CTRL.EN 3, 1), (R.ADCn_SEQk_CFG.TRIG 3 3, 1), (R.ADCn_SEQk_CFG.COUNT 3 3, 1), (R.ADCn_SEQk_SLOTS.SLOT 3 3, 0x45)]

/-- The sequence on its last slot. -/
def lastRun : AdcRun := { adcState.seqRun 3 3 with left := [(4, 1, 0)], onTime := true }

theorem seqGo_witness : ∃ t, exec (.seqGo ⟨7, 0, 0⟩ 3 3) adcState = .next t ∧
    (t.adcAt 3).run.map (fun r => (r.num, r.left)) = some (3, [(5, 0, 0), (4, 1, 0)]) := by
  obtain ⟨hgoes, -, hidle, -⟩ := converters
  have hgo := hgoes adcState ⟨7, 0, 0⟩ 3 3 (by decide) (by decide)
  rw [hidle adcState 3 _ (by decide) (by decide) (by decide) (by decide)] at hgo
  exact ⟨_, hgo, by decide⟩

/-- A trigger while another sequence converts, and the second one of a sequence that waits. -/
theorem adcTrigger_busy_witness : ∃ t,
    (adcState.modAdc 3 (fun x => { x with run := some (adcState.seqRun 3 2), start := 1 })).adcTrigger 3 lastRun = t ∧
    t.adcTrigger 3 lastRun = (t.inc (R.ADCn_CNT_TRIG.DROPPED 3)).adcLate 3 lastRun true ∧
    (t.adcAt 3).waiting = [{ lastRun with onTime := false }] := by
  obtain ⟨-, -, -, hwaits, hdropped, -⟩ := converters
  exact ⟨_, hwaits (adcState.modAdc 3 (fun x => { x with run := some (adcState.seqRun 3 2), start := 1 })) 3 lastRun
    (adcState.seqRun 3 2) (by decide) (by decide) (by decide) (by decide) (by decide) (by decide) (by decide),
    hdropped _ 3 lastRun (by decide) (by decide) (by decide) (by decide), by decide⟩

/-- A value above the greatest code, as the last one of its run. -/
theorem adcConversionEnd_saturates_witness : ∃ t,
    exec (.adcConversionEnd 3 65536) (adcState.modAdc 3 (fun x => { x with run := some lastRun })) = .next t ∧
    (t.adcAt 3).run = none ∧ t.get (R.ADCn_RESj.WORD 3 4) = resWord 65535 22 true false true 3 0 1 := by
  obtain ⟨-, -, -, -, -, -, -, hlimit, -⟩ := converters
  exact ⟨_, hlimit (adcState.modAdc 3 (fun x => { x with run := some lastRun })) _ _ 3 4 _ 0 1 65536 lastRun (by decide) (by decide)
    (by decide) (by decide) (by decide) (by decide) (by decide) (by decide) rfl rfl (by decide) rfl (by decide), by decide, by decide⟩

/-- The greatest code, with a slot left. -/
theorem adcConversionEnd_goesOn_witness : ∃ t, exec (.adcConversionEnd 3 65535)
      (adcState.modAdc 3 (fun x => { x with run := some { lastRun with left := [(4, 1, 0), (5, 2, 0)] } })) = .next t ∧
    (t.adcAt 3).run.map (fun r => r.left) = some [(5, 2, 0)] ∧
    t.get (R.ADCn_RESj.WORD 3 4) = resWord 65535 22 false false true 3 0 1 := by
  obtain ⟨-, -, -, -, -, -, hgoesOn, -⟩ := converters
  exact ⟨_, hgoesOn (adcState.modAdc 3 (fun x => { x with run := some { lastRun with left := [(4, 1, 0), (5, 2, 0)] } })) _ _ 3 4 _ 0 1
    65535 65535 { lastRun with left := [(4, 1, 0), (5, 2, 0)] } [(5, 2, 0)] _ (by decide) (by decide) (by decide) (by decide) (by decide)
    (by decide) (by decide) (by decide) (by decide) (by decide) (by decide) (by decide) rfl rfl rfl (by decide) rfl (by decide),
    by decide, by decide⟩

/-! ### Sigma-delta inputs -/

/-- The last input is on with its comparator, whose limits are the greatest and the least code. -/
def sdmState : State := blockState.puts
  [(R.SDMn_CTRL.EN 7, 1), (R.SDMn_CTRL.CMP_EN 7, 1), (R.SDMn_CMP_LIM.HI 7, 0x7FFE), (R.SDMn_CMP_LIM.LO 7, 0x8000)]

theorem sdmDataOutput_witness : ∃ t, exec (.sdmDataOutput 7 (-32768)) sdmState = .next t ∧
    t.get (R.SDMn_RES.WORD 7) = resWord 0x8000 7 false false true 0 0 0 := by
  obtain ⟨hdata, -⟩ := sigmaDeltaInputs
  exact ⟨_, hdata sdmState _ _ 7 _ _ (-32768) (by decide) (by decide) (by decide) (by decide) rfl rfl rfl rfl (by decide), by decide⟩

/-- The first value above the high limit, and the limit itself. -/
theorem sdmComparatorOutput_witness : ∃ t u, exec (.sdmComparatorOutput 7 32767) sdmState = .next t ∧
    exec (.sdmComparatorOutput 7 32766) t = .next u ∧ t.on (R.SDMn_CMP.ABOVE 7) = true ∧ t.on (R.SDMn_IRQ_PEND.CMP_HI 7) = true ∧
    u.on (R.SDMn_CMP.ABOVE 7) = false ∧ u.get (R.SDMn_CMP.VALUE 7) = 32766 := by
  obtain ⟨-, -, hrises, hbetween, -⟩ := sigmaDeltaInputs
  exact ⟨_, _, hrises sdmState _ _ 7 32767 (by decide) (by decide) (by decide) (by decide) (by decide) (by decide) rfl (by decide)
    (by decide) rfl (by decide), hbetween _ _ 7 32766 (by decide) (by decide) (by decide) (by decide) (by decide) (by decide) rfl
    (by decide), by decide, by decide, by decide, by decide⟩

/-- A stuck line of a low level. -/
theorem sdmStuck_witness : ∃ t, exec (.sdmStuck 7 false) sdmState = .next t ∧ t.on (R.SDMn_IRQ_PEND.STUCK 7) = true ∧
    t.retestsDue = [(0x6802, 7)] := by
  obtain ⟨-, -, -, -, -, -, hstuck, -⟩ := sigmaDeltaInputs
  exact ⟨_, hstuck sdmState _ 7 false (by decide) rfl, by decide, by decide⟩

end Sys2Proof.Machine
end

section
/-! SUPPORT.
Witnesses: concrete states and inputs that meet the hypotheses of O40, O41, O42 and O43. -/

namespace Sys2Proof.Machine

/-! ### Supply -/

/-- Supply supervision of a nominal 24 V, with one group that sheds pin 127 and is handed back last; classification is on. -/
def supplyState (k : Nat) : State :=
  ((blockState.sects [⟨.supp, [⟨0, []⟩, ⟨1, [[7#8, 127#8, 1#8, 7#8]]⟩]⟩]).puts [(R.SUP_STATE.STATE, k), (R.SUP_CTRL.EN, 1),
    (R.SUP_PCT.DIP, 90), (R.SUP_PCT.SURGE, 110)]).modSup (fun x => { x with vn := 24000 * 4294967296 })

/-- Without a SUPP section EN answers 5; with one, turning it off answers 4 but in NORMAL. -/
theorem supEn_refused_witness : ∃ t u, exec (.supEn ⟨0, 0, 0⟩ true) blockState = .next t ∧
    exec (.supEn ⟨0, 0, 0⟩ false) (supplyState 5) = .next u ∧ t.get R.SUP_CTRL.EN_RESULT = 5 ∧ u.get R.SUP_CTRL.EN_RESULT = 4 ∧
    u.on R.SUP_CTRL.EN = true := by
  obtain ⟨-, hrefused, -⟩ := supplyClassification
  exact ⟨_, _, hrefused blockState ⟨0, 0, 0⟩ true (by decide) (by decide), hrefused (supplyState 5) ⟨0, 0, 0⟩ false (by decide)
    (by decide), by decide, by decide, by decide⟩

theorem supEn_off_witness : ∃ t, exec (.supEn ⟨0, 0, 0⟩ false) (supplyState 0) = .next t ∧ t.on R.SUP_CTRL.EN = false ∧
    t.get R.SUP_CTRL.EN_RESULT = 0 := by
  obtain ⟨hturns, -⟩ := supplyClassification
  exact ⟨_, hturns (supplyState 0) _ ⟨0, 0, 0⟩ false (by decide) (by decide) rfl (by decide), by decide, by decide⟩

/-- One millivolt below 90 per cent, confirmed. -/
theorem supConfirmExpiry_dip_witness : ∃ t, exec (.supConfirmExpiry false) ((supplyState 0).put R.SUP_VALUE.MV 21599) = .next t ∧
    t.supClass = 1 ∧ t.supSt = 1 ∧ t.get R.SUP_CNT_EVT.DIP = 1 ∧ t.notified 0 = [(0x4402, 0, 21)] := by
  obtain ⟨-, -, -, -, -, -, -, -, -, -, hdip, -⟩ := supplyClassification
  exact ⟨_, hdip ((supplyState 0).put R.SUP_VALUE.MV 21599) _ _ (by decide) (by decide) (by decide) (by decide) rfl rfl,
    by decide, by decide, by decide, by decide⟩

/-- One millivolt above 110 per cent, confirmed in a dip. -/
theorem supConfirmExpiry_surge_witness : ∃ t,
    exec (.supConfirmExpiry true) ((supplyState 1).puts [(R.SUP_STATE.CLASS, 1), (R.SUP_VALUE.MV, 26401)]) = .next t ∧
    t.supClass = 3 ∧ t.supSt = 4 ∧ t.notified 0 = [(0x4403, 0, 26)] := by
  obtain ⟨-, -, -, -, -, -, -, -, -, -, -, hsurge, -⟩ := supplyClassification
  exact ⟨_, hsurge ((supplyState 1).puts [(R.SUP_STATE.CLASS, 1), (R.SUP_VALUE.MV, 26401)]) _ _ (by decide) (by decide) (by decide)
    (by decide) rfl rfl, by decide, by decide, by decide⟩

/-- A rise of 1 V in a millisecond. -/
theorem supMillisecond_witness : ∃ t,
    exec .supMillisecond (((supplyState 0).put R.SUP_VALUE.MV 24000).modSup (fun x => { x with lastMs := 23000 })) = .next t ∧
    t.getI R.SUP_ROC.MV_MS = 1000 ∧ t.supX.lastMs = 24000 := by
  obtain ⟨-, -, -, -, -, -, -, -, hrate, -⟩ := supplyClassification
  exact ⟨_, hrate (((supplyState 0).put R.SUP_VALUE.MV 24000).modSup (fun x => { x with lastMs := 23000 })) _ (by decide) rfl
    (by decide), by decide, by decide⟩

/-- The first shed of a stay enters SHED with the group, and another one sheds nothing more. -/
theorem shedTrigger_witness : ∃ t u, exec .shedTrigger (supplyState 2) = .next t ∧ exec .shedTrigger t = .next u ∧ t.supSt = 3 ∧
    t.get R.SUP_STATE.SHED = 128 ∧ u.get R.SUP_STATE.SHED = 128 ∧ t.pin.shed = 2 ^ 127 := by
  obtain ⟨-, -, hfirst, hnext, -⟩ := supplyActions
  exact ⟨_, _, hfirst (supplyState 2) (by decide), hnext _ (by decide), by decide, by decide, by decide, by decide⟩

/-- The rate of change at its limit of 1 per cent of Vn; a unit in SHED does not restore. -/
theorem holdExpiry_witness : ∃ t, exec .holdExpiry ((supplyState 4).puts [(R.SUP_RESTORE.RECOV_ROC, 1), (R.SUP_ROC.MV_MS, 240)]) =
      .next t ∧ t.supSt = 0 ∧ exec .holdExpiry (supplyState 3) = .next (supplyState 3) := by
  obtain ⟨-, -, -, -, -, -, hrestores, hholds, -⟩ := supplyActions
  exact ⟨_, hrestores ((supplyState 4).puts [(R.SUP_RESTORE.RECOV_ROC, 1), (R.SUP_ROC.MV_MS, 240)]) (by decide) (by decide) (by decide),
    by decide, hholds (supplyState 3) (.inl (by decide))⟩

/-- The last group handed back within 60 s of a write of LP10, which stays due. -/
theorem restoreStep_witness : ∃ t,
    exec .restoreStep (((supplyState 5).put R.SUP_STATE.SHED 128).modSup (fun x => { x with order := [7], lpAt := some 0 })) = .next t ∧
    t.supSt = 0 ∧ t.get R.SUP_STATE.SHED = 0 ∧ t.supX.order = [] ∧ t.supX.lpDue = true := by
  obtain ⟨-, -, -, -, -, -, -, -, -, hlast, -⟩ := supplyActions
  exact ⟨_, hlast (((supplyState 5).put R.SUP_STATE.SHED 128).modSup (fun x => { x with order := [7], lpAt := some 0 }))
    (by decide) (by decide), by decide, by decide, by decide, by decide⟩

theorem dewClear_witness : ∃ t, exec .dewClear ((supplyState 0).put R.SUP_STATE.DEW 1) = .next t ∧ t.on R.SUP_STATE.DEW = false ∧
    t.on R.SUP_IRQ_PEND.DEW_CHG = true := by
  obtain ⟨-, -, -, -, -, -, -, -, -, -, -, -, -, -, -, -, hclears, -⟩ := supplyActions
  exact ⟨_, hclears ((supplyState 0).put R.SUP_STATE.DEW 1) (by decide) (by decide), by decide, by decide⟩

/-! ### Current loops -/

/-- An output out of service. -/
theorem cloRegulatorStep_off_witness : ∃ t, exec (.cloRegulatorStep 1 1000000 2000000)
      (blockState.puts [(R.CLOn_CTRL.EN 1, 1), (R.CLOn_STAT.OUT_OF_SERVICE 1, 1), (R.CLOn_DAC.CODE 1, 0xFFFF)]) = .next t ∧
    t.get (R.CLOn_DAC.CODE 1) = 0 := by
  obtain ⟨hoff, -⟩ := currentLoops
  exact ⟨_, hoff (blockState.puts [(R.CLOn_CTRL.EN 1, 1), (R.CLOn_STAT.OUT_OF_SERVICE 1, 1), (R.CLOn_DAC.CODE 1, 0xFFFF)]) 1 1000000
    2000000 (by decide) (by decide), by decide⟩

/-- An output that regulates at 20 mA through 50 Ω, with a loop voltage that leaves it headroom. -/
theorem cloRegulatorStep_witness : ∃ t, exec (.cloRegulatorStep 1 1000000 2000000)
      (blockState.puts [(R.CLOn_CTRL.EN 1, 1), (R.CLOn_SET.CODE 1, 53333), (R.CLOn_CFG.LOOPV_DIV 1, 2560)]) = .next t ∧
    t.get (R.CLOn_MEAS.UA 1) = 20000 ∧ t.get (R.CLOn_HEADROOM.MV 1) = 19000 ∧ t.get (R.CLOn_LOOPV.MV 1) = 20000 ∧
    t.get (R.CLOn_TARGET.CODE 1) = 53333 := by
  obtain ⟨-, hregulates, -⟩ := currentLoops
  exact ⟨_, hregulates (blockState.puts [(R.CLOn_CTRL.EN 1, 1), (R.CLOn_SET.CODE 1, 53333), (R.CLOn_CFG.LOOPV_DIV 1, 2560)]) _ _ _ _ 1
    _ 1000000 2000000 _ _ (by decide) (by decide) (by decide) (by decide) (by decide) (by decide) rfl rfl rfl (by decide) rfl rfl
    (by decide) rfl (by decide) rfl (by decide), by decide, by decide, by decide, by decide⟩

/-- The mean of the two newest of four measurements. -/
theorem cliMeasurement_witness : ∃ t, exec (.cliMeasurement 1 1000000)
      ((blockState.puts [(R.CLIm_CTRL.EN 1, 1), (R.CLIm_CTRL.AVG 1, 1)]).modCli 1 (fun x => { x with last := [4000, 20, 20] })) = .next t ∧
    t.get (R.CLIm_MEAS.UA 1) = 12000 ∧ (t.cliAt 1).last = [20000, 4000] := by
  obtain ⟨-, -, -, -, hmeasures, -⟩ := currentLoops
  exact ⟨_, hmeasures ((blockState.puts [(R.CLIm_CTRL.EN 1, 1), (R.CLIm_CTRL.AVG 1, 1)]).modCli 1
    (fun x => { x with last := [4000, 20, 20] })) _ 1 _ 1000000 _ (by decide) (by decide) (by decide) rfl rfl rfl, by decide, by decide⟩

/-! ### Capacitive sensing -/

theorem capEn_absent_witness : ∃ t, exec (.capEn ⟨7, 0, 0⟩ true true) blockState = .next t ∧ t.get R.CAP_CTRL.EN_RESULT = 2 := by
  obtain ⟨-, -, -, habsent, -⟩ := capacitiveSensing
  exact ⟨_, habsent blockState ⟨7, 0, 0⟩ true (by decide) (by decide), by decide⟩

/-- The ganged electrode of SLEEP. -/
def gangState : State :=
  ((blockState.sects [⟨.caps, [⟨0, [List.replicate 5 0#8 ++ [1#8]]⟩]⟩]).setPhase .sleep).puts
    [(R.SYS_WAKE_EN.EN, 1), (R.CAP_SLEEP.SLEEP_THRESH, 100), (R.CAP_SLEEP.SLEEP_N, 3)]

/-- The first scan takes the low 16 bits of its value as the baseline. -/
theorem sleepSlowScan_first_witness : ∃ t, exec (.sleepSlowScan 0x1FFFF) gangState = .next t ∧
    t.get R.CAP_SLEEP_RAW.BASE = 0xFFFF ∧ t.capX.slow = true := by
  obtain ⟨-, -, -, -, -, -, -, -, -, -, -, -, -, -, hfirst, -⟩ := capacitiveSensing
  exact ⟨_, hfirst gangState _ 0x1FFFF (by decide) (by decide) (by decide) (by decide) rfl (by decide), by decide, by decide⟩

/-- The SLEEP_N-th scan in a row that lies below the baseline by the threshold. -/
theorem sleepSlowScan_wakes_witness : ∃ t, exec (.sleepSlowScan 900)
      ((gangState.put R.CAP_SLEEP_RAW.BASE 1000).modCap (fun x => { x with slow := true, slowN := 2 })) = .next t ∧
    t.capX.slowN = 0 ∧ t.sys.wake = some 1 := by
  obtain ⟨-, -, -, -, -, -, -, -, -, -, -, -, -, -, -, hwakes⟩ := capacitiveSensing
  exact ⟨_, hwakes ((gangState.put R.CAP_SLEEP_RAW.BASE 1000).modCap (fun x => { x with slow := true, slowN := 2 })) _ _ 900 (by decide)
    (by decide) (by decide) (by decide) rfl (by decide) (by decide) (by decide) rfl (by decide), by decide, by decide⟩

/-- The reference at its lower limit, and one count below it. -/
theorem filmReferenceCheck_witness : ∃ t,
    exec (.filmReferenceCheck 7 7840) (blockState.puts [(R.SNSn_CFG.PRESENT 7, 1), (R.SNSn_CFG.ROLE 7, 1), (R.CAP_CTRL.EN, 1),
      (R.SNSn_CTRL.NPER16 7, 1)]) = .next (blockState.puts [(R.SNSn_CFG.PRESENT 7, 1), (R.SNSn_CFG.ROLE 7, 1), (R.CAP_CTRL.EN, 1),
      (R.SNSn_CTRL.NPER16 7, 1)]) ∧
    exec (.filmReferenceCheck 7 7839) (blockState.puts [(R.SNSn_CFG.PRESENT 7, 1), (R.SNSn_CFG.ROLE 7, 1), (R.CAP_CTRL.EN, 1),
      (R.SNSn_CTRL.NPER16 7, 1)]) = .next t ∧ t.retestsDue = [(0x4C01, 0x47)] := by
  obtain ⟨-, -, -, -, -, -, -, -, -, -, -, hlow, -, hgood, -⟩ := capacitiveSensing
  exact ⟨_, hgood _ 7 7840 (by decide) (by decide), hlow (blockState.puts [(R.SNSn_CFG.PRESENT 7, 1), (R.SNSn_CFG.ROLE 7, 1),
    (R.CAP_CTRL.EN, 1), (R.SNSn_CTRL.NPER16 7, 1)]) 7 7839 (by decide) (by decide) (by decide) (by decide), by decide⟩

end Sys2Proof.Machine
end

section
/-! SUPPORT.
Witnesses: concrete states and inputs that meet the hypotheses of O44, O45, O46 and O1. -/

namespace Sys2Proof.Machine

/-! ### The identity reader -/

/-- The reader is on with every antenna and both protocols. -/
def tagState : State := (blockState.sects [⟨.tags, [⟨0, []⟩]⟩]).puts
  [(R.TAG_CTRL.EN, 1), (R.TAG_CFG.ANT_MASK, 255), (R.TAG_CFG.PROTO, 3), (R.TAG_CFG.MAX_TAGS, 1), (R.TAG_TIMING.ANT_SETTLE, 201)]

/-- An inventory of antenna 7 and both protocols in a phase. -/
def tagRun (p : TagPhase) : TagRun :=
  { phase := p, ants := 128, ant := 7, protos := 3, slots1 := true, proto := 0, reqs := [], kids := [], len := 0, mask := 0, one := true
    slot := 0, qfp := 64, q := 4, frame := 0, heard := false, slots := 0, found := 0, tried := true, began := true, abort := false }

/-- A command of every antenna and protocol, a second one, and one that names no antenna. -/
theorem tagInvCmd_witness : ∃ t u v, exec (.tagInvCmd ⟨7, 0, 0⟩ 255 3 false) tagState = .next t ∧
    exec (.tagInvCmd ⟨7, 0, 0⟩ 255 3 false) t = .next u ∧ exec (.tagInvCmd ⟨7, 0, 0⟩ 0 3 false) tagState = .next v ∧
    t.tagX.run.map (fun r => (r.phase, r.ants, r.protos)) = some (.check, 255, 3) ∧ u.get R.TAG_CNT2.IGNORED = 1 ∧
    v.get R.TAG_INV_STAT.RESULT = 4 ∧ v.get R.TAG_INV_STAT.STATUS = 3 := by
  obtain ⟨hstarts, hcounts, hnone, -⟩ := identityReader
  exact ⟨_, _, _, hstarts tagState ⟨7, 0, 0⟩ 255 3 false (by decide) (by decide) (by decide) (by decide) (by decide) (by decide)
    (by decide) (by decide) (by decide) (by decide), hcounts _ ⟨7, 0, 0⟩ 255 3 false (by decide) (by decide) (by decide),
    hnone tagState ⟨7, 0, 0⟩ 3 false (by decide) (by decide) (by decide), by decide, by decide, by decide, by decide⟩

/-- A check that ends with a CRC error. -/
theorem receiverCheckEnd_fails_witness : ∃ t, exec (.receiverCheckEnd 2) (tagState.setRun (tagRun .check)) = .next t ∧
    t.tagX.run = none ∧ t.get R.TAG_INV_STAT.RESULT = 5 ∧ t.retestsDue = [(0x5002, 0xFF)] := by
  obtain ⟨-, -, -, -, -, hfails, -⟩ := identityReader
  exact ⟨_, hfails (tagState.setRun (tagRun .check)) _ (tagRun .check) 2 (by decide) (by decide) (by decide) rfl, by decide, by decide,
    by decide⟩

/-- From a good check to the first round: the switch settles for longer than the field. -/
theorem tag_phases_witness : ∃ t u v, exec (.receiverCheckEnd 0) (tagState.setRun (tagRun .check)) = .next t ∧
    exec .antSettleEnd t = .next u ∧ exec .fieldSettleEnd u = .next v ∧
    t.tagX.run = some (tagRun .antenna) ∧ u.tagX.run = some (tagRun .field) ∧ u.tagX.fieldOn = true ∧
    v.tagX.run = some (tagRun .slot) := by
  obtain ⟨-, -, -, -, -, -, hsettles, -, hfield, -, hopens, -⟩ := identityReader
  exact ⟨_, _, _, hsettles (tagState.setRun (tagRun .check)) (tagRun .check) 7 (by decide) (by decide) (by decide) (by decide) (by decide),
    hfield _ (tagRun .antenna) (by decide) (by decide) (by decide), hopens _ _ (tagRun .field) _ (by decide) (by decide) (by decide) rfl
      rfl, by decide, by decide, by decide, by decide⟩

/-- The greatest load below the range. -/
theorem antennaLoadFault_witness : ∃ t, exec (.antennaLoadFault 249) (tagState.setRun (tagRun .field)) = .next t ∧
    t.tagX.fieldOn = false ∧ (t.get R.TAG_ANT_STAT.FAULT).testBit 7 = true ∧ t.tagX.run.map (fun r => r.phase) = some .ended := by
  obtain ⟨-, -, -, -, -, -, -, -, -, hload, -⟩ := identityReader
  exact ⟨_, hload (tagState.setRun (tagRun .field)) (tagRun .field) 249 (by decide) (by decide) (by decide), by decide, by decide,
    by decide⟩

/-- An empty first slot of sixteen. -/
theorem tagSlot_empty_witness : ∃ t, exec (.tagSlot .empty) (tagState.setRun { tagRun .slot with one := false }) = .next t ∧
    t.tagX.run.map (fun r => (r.slot, r.slots)) = some (1, 1) := by
  obtain ⟨-, -, -, -, -, -, -, -, -, -, -, hempty, -⟩ := identityReader
  exact ⟨_, hempty (tagState.setRun { tagRun .slot with one := false }) _ { tagRun .slot with one := false } _ (by decide) (by decide)
    (by decide) rfl rfl (by decide) (by decide) (by decide), by decide⟩

/-- An aborted inventory ends with its status, and one aborted in a slot goes on to its end. -/
theorem tag_end_witness : ∃ t u, exec .tagInventoryDone (tagState.setRun { tagRun .ended with abort := true }) = .next t ∧
    exec (.tagInvAbort ⟨7, 0, 0⟩) (tagState.setRun (tagRun .slot)) = .next u ∧ t.get R.TAG_INV_STAT.STATUS = 5 ∧
    u.tagX.run = some { tagRun .slot with abort := true } := by
  obtain ⟨-, -, -, -, -, -, -, -, -, -, -, -, -, -, hdone, -, haborts⟩ := identityReader
  exact ⟨_, _, hdone (tagState.setRun { tagRun .ended with abort := true }) { tagRun .ended with abort := true } (by decide) (by decide)
    (by decide) (by decide), haborts (tagState.setRun (tagRun .slot)) ⟨7, 0, 0⟩ (tagRun .slot) (by decide) (by decide) (by decide)
    (by decide), by decide, by decide⟩

/-! ### Pins and GPIO -/

/-- Bay 7 owns the last pin. -/
def pinState : State := blockState.sects [⟨.pins, [⟨0, [[127#8, 7#8]]⟩]⟩]

/-- A commit of a function that the pin does not have, and of a change of its other bits. -/
theorem pinCommitGo_witness : ∃ t u, exec (.pinCommitGo ⟨7, 0, 0⟩ 7) (pinState.put (R.PINp_SHADOW.FUNC 127) 15) = .next t ∧
    exec (.pinCommitGo ⟨7, 0, 0⟩ 7) pinState = .next u ∧
    (t.get (R.PINb_COMMIT_STAT.STATUS 7), t.get (R.PINb_COMMIT_STAT.RESULT 7), t.get (R.PINb_COMMIT_STAT.PIN 7)) = (3, 1, 127) ∧
    u.get (R.PINb_COMMIT_STAT.STATUS 7) = 1 := by
  obtain ⟨hfails, hdone, -⟩ := pinsAndGpio
  exact ⟨_, _, hfails (pinState.put (R.PINp_SHADOW.FUNC 127) 15) _ ⟨7, 0, 0⟩ 7 127 (by decide) rfl (by decide),
    hdone pinState _ _ ⟨7, 0, 0⟩ 7 (by decide) rfl (by decide) rfl, by decide, by decide⟩

/-- The end of the last pin's park interval, at the high level of its park state. -/
theorem pinCommitSwitch_witness : ∃ t, exec (.pinCommitSwitch 127 true)
      ({ pinState with pin := { pinState.pin with moves := [⟨127, 0, 1⟩] } }.put (R.PINp_ACTIVE.PARKED 127) 1) = .next t ∧
    t.pin.moves = [] ∧ t.on (R.PINp_ACTIVE.PARKED 127) = false ∧ t.on (R.PINp_ACTIVE.LEVEL 127) = true ∧ t.notified 7 = [] := by
  obtain ⟨-, -, -, hmoves, -⟩ := pinsAndGpio
  exact ⟨_, hmoves ({ pinState with pin := { pinState.pin with moves := [⟨127, 0, 1⟩] } }.put (R.PINp_ACTIVE.PARKED 127) 1) _ _ _ 127 true
    ⟨127, 0, 1⟩ (by decide) (by decide) (by decide) (by decide) rfl (by decide) rfl rfl, by decide, by decide, by decide, by decide⟩

/-- A write of every bit sets the one that the bay owns. -/
theorem gpioSet_owned_witness : ∃ t, exec (.gpioSet ⟨7, 0, 0⟩ 3 0xFFFFFFFF#32) pinState = .next t ∧
    t.get (R.GPIO_OUTk.OUT 3) = 0x80000000 := by
  obtain ⟨-, -, -, -, -, hgpio, -⟩ := pinsAndGpio
  exact ⟨_, (hgpio pinState ⟨7, 0, 0⟩ 3 0xFFFFFFFF#32 (by decide) (by decide)).1, by decide⟩

/-- A rise at the last pin, and a mismatch where it is an output. -/
theorem gpio_level_witness : ∃ t u, exec (.gpioInputEdge 127 true) pinState = .next t ∧
    exec (.pinReadbackMismatch 127 true) (pinState.setB (R.GPIO_DIRk.DIR 3) 31) = .next u ∧
    (t.get (R.GPIO_INk.IN 3)).testBit 31 = true ∧ u.retestsDue = [(0x6C01, 127)] := by
  obtain ⟨-, -, -, -, -, -, hedge, -, -, -, hmismatch⟩ := pinsAndGpio
  exact ⟨_, _, hedge pinState 127 true (by decide) (by decide) (by decide) (by decide),
    hmismatch (pinState.setB (R.GPIO_DIRk.DIR 3) 31) 127 true (by decide) (by decide) (by decide) (by decide) (by decide) (by decide)
      (by decide), by decide, by decide⟩

/-! ### Frames of HIF-SPI -/

/-- The device waits for a configuration by HIF-SPI. -/
def spiState : State := blockState.put R.SYS_STRAPS.BOOT_SRC 2

/-- A doorbell in order, and one whose CRC does not match. -/
theorem hdbWr_witness : ∃ t u, exec (.hdbWr ⟨0x22, 0, 4, List.replicate 4 0xFF#8, true, true⟩) spiState = .next t ∧
    exec (.hdbWr ⟨0x22, 0, 4, List.replicate 4 0xFF#8, false, true⟩) spiState = .next u ∧
    t.get R.HIF_SPI_HDB.WORD = 0xFFFFFFFF ∧ t.get R.HIF_SPI_CNT.GOOD = 1 ∧ u.get R.HIF_SPI_CNT.BAD = 1 ∧ u.hif.lastErr = 1 ∧
    u.get R.HIF_SPI_HDB.WORD = 0 := by
  obtain ⟨hgood, hbad, -⟩ := hostFrames
  obtain ⟨-, -, -, -, -, -, hrings, -⟩ :=
    hgood spiState ⟨0x22, 0, 4, List.replicate 4 0xFF#8, true, true⟩ 0 (by decide) (by decide)
  obtain ⟨-, -, -, hfails, -⟩ :=
    hbad spiState ⟨0x22, 0, 4, List.replicate 4 0xFF#8, false, true⟩ 0 1 (by decide) (by decide) (by decide)
  exact ⟨_, _, hrings (by decide), hfails (by decide), by decide, by decide, by decide, by decide, by decide⟩

/-- With the interface off a doorbell is dropped, and the status word has READY 0. -/
theorem hostFrames_off_witness : ∃ t, exec (.hdbWr ⟨0x22, 0, 4, List.replicate 4 0xFF#8, true, true⟩) blockState = .next blockState ∧
    exec (.statusRd ⟨0x05, 0, 4, [], true, true⟩) blockState = .next t ∧ (t.answer.getD 0 1#32).getLsbD 0 = false := by
  obtain ⟨-, -, -, hoff, -⟩ := hostFrames
  obtain ⟨-, -, hdropped, -⟩ := hoff blockState ⟨0x22, 0, 4, List.replicate 4 0xFF#8, true, true⟩ (by decide)
  obtain ⟨-, -, -, -, hstatus⟩ := hoff blockState ⟨0x05, 0, 4, [], true, true⟩ (by decide)
  exact ⟨_, hdropped, hstatus, by decide⟩

/-! ### Steps -/

/-- A doorbell at the front of the queue. -/
theorem step_front_witness : ∃ t,
    step { spiState with pending := [.hdbWr ⟨0x22, 0, 4, List.replicate 4 0xFF#8, true, true⟩, .hbSend] } = .next t ∧
    t.pending = [.hbSend] ∧ t.get R.HIF_SPI_HDB.WORD = 0xFFFFFFFF := by
  obtain ⟨hgood, -⟩ := hostFrames
  obtain ⟨-, -, -, -, -, -, hrings, -⟩ := hgood { spiState with pending := [.hbSend] }
    ⟨0x22, 0, 4, List.replicate 4 0xFF#8, true, true⟩ 0 (by decide) (by decide)
  exact ⟨_, (stepRunsFrontCommand _ { spiState with pending := [.hbSend] }).trans (hrings (by decide)), rfl, by decide⟩

end Sys2Proof.Machine
end
